-- ==== Sys2Proof/Word.lean ====
section
/-! DEFINITION. The word types of the AZ192: bytes and 32-bit registers. -/

namespace Sys2Proof

/-- One byte of a descriptor, an event, a buffer or an air frame (R5). -/
abbrev Byte := BitVec 8

/-- One 32-bit set-up register (R684). -/
abbrev Word := BitVec 32

end Sys2Proof
end

