-- ==== Sys2Proof/Machine/RegNames.lean ====
section
/-! DEFINITION. The names of the set-up registers of BAR0, one constructor per register name of the register map (R684, R686). -/

namespace Sys2Proof.Machine

/-- The set-up registers, named as the manual names them (R686). -/
inductive RegName where
  | SYS_TRELLIS_MARGIN
  | SYS_TAGMEM_STAT
  | SYS_TAGMEM_PERSIST
  | SYS_SESS_STAT
  | SYS_SESS_FULL
  | SYS_LEDGER_CTL
  | SYS_LEDGER_CONFIRM
  | SYS_LEDGER_TZ
  | SYS_LEDGER_STAT
  | SYS_LEDGER_BASE_L
  | SYS_LEDGER_BASE_H
  | SYS_LEDGER_HITS_L
  | SYS_LEDGER_HITS_H
  | SYS_LEDGER_MISS_L
  | SYS_LEDGER_MISS_H
  | SYS_LEDGER_ERR
  | PWR_CTL
  | PWR_STAT
  | PWR_PAV
  | PWR_CORE
  | PWR_TEMP
  | PWR_FOLD
  | PWR_TSENS
  | PWR_CORE_DIPS
  | SYN_CTL
  | SYN_STAT
  | SYN_CAL_TEMP
  | SYN_TRIM
  | SYN_TRIM_MIN
  | SYN_TRIM_MAX
  | SYN_LAST_SWAP
  | TIME_CTL
  | TIME_STAT
  | TIME_NOW_NS
  | TIME_NOW_SL
  | TIME_NOW_SH
  | TIME_SET_NS
  | TIME_SET_SL
  | TIME_SET_SH
  | TIME_NEXT_SL
  | TIME_NEXT_SH
  | TIME_PPS_OFS
  | TIME_RATE
  | TMR_CTL
  | TMR_PRE
  | TMR_COUNT
  | TMR_PERIOD
  | TMR_CMP
  | TMR_CAP
  | TMR_CAP_TL
  | TMR_CAP_TH
  | TMR_STAT
  | TMR_GSTAT
  | TMR_SC_OVF
  | TMR_SC_SEL
  | TMR_SC_L
  | TMR_SC_H
  | KSK_CTL
  | KSK_STAT
  | FLS_CTL
  | FLS_ADDR
  | FLS_STAT
  | FLS_CS_CFG
  | FLS_XIP
  | FLS_TMO
  | FLS_BUF
  | PRM_CTL
  | PRM_STAT
  | PRM_HOP
  | PRM_TIME_OFS
  | PRM_PHASE
  | PRM_EPOCH_CTL
  | PRM_EPOCH_T_L
  | PRM_EPOCH_T_H
  | PRM_LINK_UP
  | PRM_LINK_DN
  | SEC_LC
  | SEC_SERIAL_L
  | SEC_SERIAL_H
  | SEC_BOOT
  | SEC_BOOT_VER
  | SEC_MINVER
  | SEC_BOOT_CTL
  | SEC_OTP
  | SEC_CK_STAT
  | SEC_CK_SEL
  | SEC_CK_MARK_L
  | SEC_CK_MARK_H
  | SEC_CK_HW_L
  | SEC_CK_HW_H
  | SEC_TOKEN_CTR_L
  | SEC_TOKEN_CTR_H
  | SEC_DEBUG
  | SEC_STAT
  | FLT_CTL
  | FLT_STAT
  | FLT_FIRST_T_L
  | FLT_FIRST_T_H
  | FLT_LAST
  | FLT_STEST
  | FLT_SCRUB
  | FLT_ECC
  | FLT_TEMP
  | FLT_ISO_CH
  | FLT_ISO_PAV
  | FLT_CNT
  | FLT_INJECT
  | CAL_CTL
  | CAL_STAT
  | CAL_LIMIT
  | CAL_REF_CTL
  | CAL_NVM_STAT
  | CAL_MIRROR_CTL
  | CAL_MIRROR_ADDR
  | CAL_TEMP
  | LDG_RST_CAUSE
  | LDG_RST_CTL
  | LDG_WAKE
  | LDG_WAKE_TIMER
  | LDG_SLEEP_TICKS_L
  | LDG_SLEEP_TICKS_H
  | LDG_EH
  | SHP_LOCK_STAT
  | SHP_COEX_PRI
  | SHP_CH_EN_LOCK
  | HIF_RING_BASE_L
  | HIF_RING_BASE_H
  | HIF_RING_CFG
  | HIF_RING_HEAD
  | HIF_RING_TAIL
  | HIF_RING_STAT
  | HIF_RING_POL
  | HIF_RING_BURST
  | HIF_RING_TOKENS
  | HIF_RING_MOD
  | HIF_RING_DROPS
  | HIF_CTL
  | HIF_LINK
  | HIF_MISC_STAT
  | HIF_MISC_EN
  | HIF_UNSOL_DROP
  | HIF_CAP_BUDGET
  | HIF_CAP_LOAD
  | HIF_CAP_FABRIC
  | HIF_DEVQ
  | HIF_UNSOL_MAP
  | PAV_VDRV
  | PAV_VDRV_STAT
  | PAV_SEQ_CTL
  | PAV_SEQ_STAT
  | PAV_SEQ_GT0
  | PAV_SEQ_GT1
  | PAV_SEQ_GT2
  | PAV_SEQ_GT3
  | PAV_SEQ_FIELD_GT
  | PAV_SEQ_DEP
  | PAV_SEQ_HOST
  | PAV_SEQ_PRES
  | PAV_SEQ_SKIPS
  | PAV_LISTEN_HOST_CAP
  | PAV_BLV_CTL
  | PAV_BLV_STAT
  | PAV_BLV_SKIP
  | PAV_BKT_RATE
  | PAV_BKT_DEPTH
  | PAV_BKT_LEVEL
  | PAV_BKT_RSV
  | PAV_LOCK
  | PAV_BKT_STAT
  | PAV_GATE_CTL
  | PAV_GATE_BASE_L
  | PAV_GATE_BASE_H
  | PAV_GATE_CYCLE
  | PAV_GATE_STAT
  | PAV_GATE_CHG_L
  | PAV_GATE_CHG_H
  | PAV_GATE_CUTS
  | PAV_GATE_FB_OPEN
  | PAV_GATE_FB_PERIOD
  | PAV_GATE_FB_CFG
  | PAV_GATE_OPER_CYCLE
  | PAV_COEX
  | PAV_COEX_STAT
  | PAV_ADAPT
  | PAV_GCL_ADMIN_D
  | PAV_GCL_ADMIN_M
  | PAV_GCL_OPER_D
  | PAV_GCL_OPER_M
  | ARB_CTL
  | ARB_PILOT
  | ARB_PILOT_CFG
  | ARB_CM_STAT
  | ARB_CM_AGE
  | ARB_SEP
  | ARB_SEP_STAT
  | ARB_SEP_LAST
  | ARB_ATTR
  | ARB_ATTR_LAST
  | ARB_GRANT
  | ARB_GRANT_CNT
  | ARB_CT_W
  | ARB_CT_DT
  | ARB_SEAM_LO
  | ARB_SEAM_HI
  | ARB_CM
  | ARB_FG_CTL
  | ARB_FG_STAT
  | ARB_FG_W
  | CH_PHASE_OFS
  | CH_ROLE
  | CH_SESS
  | CH_ADM_STAT
  | CH_DUTY
  | CH_SHP_CTL
  | CH_SHP_HI
  | CH_SHP_LO
  | CH_SHP_CREDIT
  | CH_TX_CTL
  | CH_FIELD_LVL
  | CH_FIELD_MAX
  | CH_FIELD_STAT
  | CH_MOD_A
  | CH_MOD_ASK
  | CH_MOD_SHAPE
  | CH_RAMP
  | CH_TUNE
  | CH_TUNE_CAL
  | CH_TUNE_CTL
  | CH_TUNE_STAT
  | CH_PWR_LIM
  | CH_PWR_MEAS
  | CH_LIM_STAT
  | CH_FEN_STAT
  | CH_ADAPT
  | CH_ADAPT_STAT
  | CH_CAP_CTL
  | CH_CAP_STAT
  | CH_CAP_IDX_L
  | CH_CAP_IDX_H
  | CH_CAP_GAPS
  | CH_OUTQ
  | CH_CUP_ERR
  | CH_CUP_EYE
  | CH_CAL_SETS
  | CH_CAL_LAST
  | CH_CAL_SET_T0
  | CH_CAL_SET_T2
  | CH_CAL_SET_T4
  | CH_CAL_DRIP
  | CH_RX_CTL
  | CH_RX_SHIFT
  | CH_RX_FIR
  | CH_RX_RS
  | CH_RX_AGC
  | CH_RX_EST_C
  | CH_RX_EST_F_AMP
  | CH_RX_EST_F_PH
  | CH_RX_FINE
  | CH_RX_CAP
  | CH_RX_SAT
  | CH_RX_LAT
  | CH_DEM_CTL
  | CH_FRM_CTL
  | CH_FRM_LAST
  | CH_FRM_COLL
  | CH_FRM_ERR
  | CH_FRM_TIME
  | CH_FRM_QUAL
  | CH_BLV_THR
  | CH_BLV_BASE
  | CH_BLV_MEAS
  | CH_BLV_CMD
  | CH_SEQ_STAT
  | CH_LSN_CTL
  | CH_LSN_FD
  | CH_LSN_ID
  | CH_LSN_UID0
  | CH_LSN_UID1
  | CH_LSN_ATS
  | CH_LSN_WTX
  | CH_LSN_ERR
  | CH_LSN_HIST
  | CH_LSN_STAT
  | CH_RX_COEF_A
  | CH_RX_COEF_B
deriving DecidableEq, Repr

end Sys2Proof.Machine
end

