-- ==== Sys2Proof/Facts.lean ====
section
/-! DEFINITION. The records that commands carry as operands: what the air, the wires and the sensors give the block. -/

namespace Sys2Proof

/-- The space of the PCI Express function that an access reaches (R381): set-up registers, doorbells, the MSI-X table and pending bits, or
configuration space. An address of configuration space names a structure in bits 19 to 12 (0 the header, then the capabilities in the order
of R380) and a byte of it below: where a structure stands the manual does not say (log entry 69). -/
inductive Space where
  | bar0 | bar2 | bar4 | config
deriving DecidableEq, Repr

/-- One bit period of a received frame, as correlated with its subcarrier (R141): its two half-bits, real and imaginary parts; with
dual subcarrier `a` and `b` at fc/32, `a28` and `b28` at fc/28. NFC-F has no subcarrier: a half's deviation from the level without
modulation. BPSK has no halves: `a` is the bit's phasor. -/
structure Sym where
  a   : Int × Int := (0, 0)
  b   : Int × Int := (0, 0)
  a28 : Int × Int := (0, 0)
  b28 : Int × Int := (0, 0)
deriving DecidableEq, Repr

/-- What the framer measured over a start sequence (R142 to R144, R154, R155, R167). Energies and powers are squares of amplitudes in
one unit. -/
structure SofFacts where
  /-- Squared correlation with the expected start sequence, and the noise floor since the window opened. -/
  corr   : Nat := 0
  floor  : Nat := 0
  /-- Carried index of its first edge, in quarters of a Tc (R107). -/
  first  : Nat := 0
  /-- Cycles of the unmodulated subcarrier before a BPSK start of frame. -/
  cycles : Nat := 32
  /-- Zero bits of an NFC-F preamble; bits at logic 0 and at logic 1 of a Type B start of frame (R147). -/
  pre    : Nat := 48
  low    : Nat := 10
  high   : Nat := 2
  /-- The preamble came in reversed polarity (R143). -/
  rev    : Bool := false
  /-- BPSK: the phase reference, and the start of frame's logic 0. -/
  ref    : Int × Int := (0, 0)
  zero   : Int × Int := (0, 0)
  /-- Measured time of `durBits` bit periods, in quarters of a Tc (R144). -/
  dur     : Nat := 0
  durBits : Nat := 0
  /-- In-band energy over the start of frame, as of one measurement of R167. -/
  energy : Nat := 0
deriving DecidableEq, Repr

/-- A tag frame after its start of frame (R141, R147, R211, R217). -/
structure RxWire where
  syms   : List Sym := []
  /-- Carried index of the end of the last bit period given, in quarters of a Tc (R150). -/
  stop   : Nat := 0
  /-- The symbol vectors since the start of frame, over L6, L7, taps 0 to 7, H0, H1, at 0 dB gain (R211), and how many of them the start
  of frame takes. -/
  vecs   : List (List (Int × Int)) := []
  pre    : Nat := 0
  /-- Squared start-of-frame correlation and noise floor of the two beams that the separator forms (R217, R218). -/
  corrA  : Nat := 0
  floorA : Nat := 0
  corrB  : Nat := 0
  floorB : Nat := 0
deriving DecidableEq, Repr

/-- Two consecutive measurements of in-band energy in a frame (R167), the carried index of the first in quarters of a Tc, the bit
period of the second, and the frame up to there. -/
structure StepFacts where
  e1    : Nat := 0
  e2    : Nat := 0
  first : Nat := 0
  bit   : Nat := 0
  wire  : RxWire := {}
deriving DecidableEq, Repr

/-- A reader's frame as its envelope (R145, R146): the held unmodulated amplitude, runs of one amplitude with their lengths in quarters
of a Tc, from the first falling edge on; and the measured time of `durBits` bit periods. -/
structure ReaderRaw where
  held    : Nat := 0
  env     : List (Nat × Nat) := []
  dur     : Nat := 0
  durBits : Nat := 0
  /-- Index of its end edge, in quarters of a Tc. -/
  stop    : Nat := 0
deriving DecidableEq, Repr

/-- One tap's measurement over a start of frame: tap, sideband phasor, noise power (R209, R210). -/
structure TapFacts where
  tap   : Nat := 0
  re    : Int := 0
  im    : Int := 0
  noise : Nat := 1
deriving DecidableEq, Repr

/-- What the sensors of a channel gave over a 64 Tc window (R73 to R77, R93, R99, R124 to R130). -/
structure WinFacts where
  ch       : Nat := 0
  /-- Power at the antenna port, mW, averaged over the window (R77). -/
  mw       : Nat := 0
  /-- The limiter's own detector, mW, averaged over the window (R93). -/
  drive    : Nat := 0
  /-- The carrier ran unmodulated, so that return loss was measured: value in 0.25 dB and side. -/
  rl       : Option (Nat × Nat) := none
  /-- The setpoint asks for more than full driver swing. -/
  headroom : Bool := false
  /-- Loop error, signed, 0.05 dB: above 0 where the drive-tap current lies below the setpoint (log entry 59). -/
  err      : Int := 0
  /-- The HB1 output samples of the window, oldest first, two in each Tc and the last at the window's end (R110). -/
  hb1      : List (Int × Int) := []
  /-- The HB2 output samples of the window, oldest first, one in each Tc and the last at the window's end, behind seven of the window
  before (R110, R205). -/
  hb2      : List (Int × Int) := []
  /-- Saturation bits of CH_RX_SAT seen. -/
  sat      : Nat := 0
deriving DecidableEq, Repr

/-- What the channel procedure found on one channel (R528). -/
structure ChCal where
  ch       : Nat := 0
  /-- Feedforward scale and drive-tap sensor gain, 1/32,768. -/
  ff       : Nat := 0
  sense    : Nat := 0
  /-- Field power extrapolated to full swing, mW. -/
  full     : Nat := 0
  /-- Step 4: phase of the drive-tap current against the accumulator, 1/65,536 turn. -/
  phase    : Nat := 0
  /-- Step 2: return loss in 0.25 dB in the 15 fields: 9 series trims, rising, 5 shunt trims, rising, and the pair chosen. -/
  rls      : List Nat := []
  modTrim  : Int := 0
  preemp   : Nat := 0
  adcI     : Int := 0
  adcQ     : Int := 0
  pgaOfs   : Int := 0
  pgaSlope : Int := 0
  /-- Step 5: the phasors received for the pattern's bits, each with its ideal. -/
  evm      : List ((Int × Int) × (Int × Int)) := []
  /-- Step 6: field power in µW, and the phase of the drive-tap current in 1/65,536 turn. -/
  power    : Nat := 0
  phase6   : Nat := 0
  /-- The Belvedere probe of step 6. -/
  blvAmp   : Nat := 0
  blvPh    : Nat := 0
deriving DecidableEq, Repr

/-- What an arbour coupling measurement found (R535 to R537). -/
structure ArbCal where
  arb     : Nat := 0
  /-- Driven coil, receiver (0 to 7 a tap, the coil's own among them, 8 L7, 9 L6, 10 H0, 11 H1), and the carrier phasor at the gain
  held. -/
  phasors : List (Nat × Nat × Int × Int) := []
  /-- Driven coil, tap, and envelope delay in 1/256 Tc. -/
  delays  : List (Nat × Nat × Nat) := []
  /-- Noise power of taps 0 to 7, 0.01 dB. -/
  noise   : List Int := []
  /-- By receiving coil 0 to 7: the decision distance of each bit received, in percent of the ideal. -/
  eyes    : List (List Nat) := []
deriving DecidableEq, Repr

/-- What a reference calibration found (R538, R540): no level where no signal is found. -/
structure RefCal where
  /-- Level of CALREF over the ADC full scale at a gain of 0 dB, 0.001 dB. -/
  rel   : Option Int := none
  /-- Power-sensor scale, 1/32,768. -/
  scale : Nat := 0
  /-- Decision distances of the coupon's bits, as modulation depths in 0.1 %. -/
  eye   : List Nat := []
deriving DecidableEq, Repr

/-- What a calibration procedure found. -/
structure CalFacts where
  chans : List ChCal := []
  arbs  : List ArbCal := []
  ref   : RefCal := {}
deriving DecidableEq, Repr

/-- What a memory error or an internal check hit (R567). -/
inductive FaultItem where
  | none
  /-- A session context. -/
  | session (n : Nat)
  /-- A cached ledger entry, by its index. -/
  | entry (ix : Nat)
  /-- A descriptor that the device holds, by ring and slot. -/
  | desc (ring idx : Nat)
  /-- An entry of an outbound queue, by its source and place. -/
  | event (source place : Nat)
deriving DecidableEq, Repr

end Sys2Proof
end

