-- ==== Sys2Proof/Machine/Tbl.lean ====
section
/-! DEFINITION. Sparse tables in one canonical form: keys strictly rising, and no entry equal to what an unlisted key
reads as. They hold the replicated units, the register file and the buffers. -/

namespace Sys2Proof.Machine

/-- A sparse table: what is not listed reads as a default that each use names. -/
abbrev Tbl (α : Type) := List (Nat × α)

/-- The entry at key `k`, or the default. -/
def tblGet {α : Type} (m : Tbl α) (k : Nat) (d : α) : α :=
  match m with
  | [] => d
  | (k', v) :: t => if k' = k then v else tblGet t k d

/-- The entry at key `k`, if one is listed. -/
def tblFind {α : Type} (m : Tbl α) (k : Nat) : Option α :=
  match m with
  | [] => none
  | (k', v) :: t => if k' = k then some v else tblFind t k

/-- Put an entry at its place in the rising order. -/
def tblPut {α : Type} (m : Tbl α) (k : Nat) (v : α) : Tbl α :=
  match m with
  | [] => [(k, v)]
  | (k', v') :: t =>
    if k < k' then (k, v) :: (k', v') :: t
    else if k' = k then (k, v) :: t
    else (k', v') :: tblPut t k v

/-- Remove an entry. -/
def tblDel {α : Type} (m : Tbl α) (k : Nat) : Tbl α :=
  match m with
  | [] => []
  | (k', v') :: t => if k' = k then tblDel t k else (k', v') :: tblDel t k

/-- Write an entry, keeping the canonical form: the default value is not listed. -/
def tblSet {α : Type} [DecidableEq α] (m : Tbl α) (k : Nat) (v d : α) : Tbl α :=
  if v = d then tblDel m k else tblPut m k v

/-- Change every listed entry, keeping the canonical form. -/
def tblMap {α : Type} [DecidableEq α] (m : Tbl α) (f : α → α) (d : α) : Tbl α :=
  m.filterMap fun (e : Nat × α) => if f e.2 = d then none else some (e.1, f e.2)

/-- Insert a pair into a list ordered by its first part, after its equals. -/
def insertPair (x : Nat × Nat) : List (Nat × Nat) → List (Nat × Nat)
  | [] => [x]
  | y :: t => if x.1 < y.1 then x :: y :: t else y :: insertPair x t

/-- The second parts of pairs, in rising order of their first parts. -/
def sortPairs (l : List (Nat × Nat)) : List Nat := (l.foldr insertPair []).map (·.2)

/-- Keys strictly rising from a lower bound. -/
def tblRising {α : Type} : Nat → Tbl α → Bool
  | _, [] => true
  | lo, (k, _) :: t => decide (lo ≤ k) && tblRising (k + 1) t

/-- The canonical form, for a table whose unlisted keys read as `d k`. -/
def tblWf {α : Type} [DecidableEq α] (d : Nat → α) (m : Tbl α) : Bool :=
  tblRising 0 m && m.all (fun e => decide (e.2 ≠ d e.1))

end Sys2Proof.Machine
end

