-- ==== Sys2Proof/Machine/Types.lean ====
section
/-! DEFINITION. The plain data that the state is made of: enumerations, descriptors, event entries, transactions, session
contexts and the records of each unit. -/

namespace Sys2Proof.Machine

/-- Status codes (R420). -/
inductive Status where
  | ok | okPartial | noResponse | crcError | protocolError | collision | collisionCaptured | collisionSeparated
  | late | staleRole | gateCut | coexRevoked | supplyDip | limitRefused | droppedPoliced | badDescriptor
  | authFail | authReplay | faultAbort | notReady | bufferShort | cancelled | hostTimeout
deriving DecidableEq, Repr

/-- Event kinds (R414). -/
inductive EvKind where
  | completion | detect | tagArrived | tagLeft | slotAttributed | grant | tunerMismatch | fault | supplyWarn
  | captureProgress | captureGap | listenApdu | timeLockChange | calDone | synSwap
deriving DecidableEq, Repr

/-- Channel roles (R11, R342). -/
inductive Role where
  | parked | poll | listen | sweep | follower | cal
deriving DecidableEq, Repr

/-- Technologies (R245). -/
inductive Tech where
  | nfcA | typeB | nfcF | nfcV
deriving DecidableEq, Repr

/-- An event entry on its way to an event ring (R414). `ring` is fixed when the entry enters its queue (R419). -/
structure Entry where
  status  : Status := .ok
  kind    : EvKind := .completion
  more    : Bool := false
  hold    : Bool := false
  cycle   : Bool := false
  wtxCapped : Bool := false
  presFull  : Bool := false
  localWrite : Bool := false
  overlap : Bool := false
  gen     : Nat := 0
  source  : Nat := 0x3FF
  session : Nat := 0x1FF
  step    : Nat := 0
  time    : Nat := 0
  body    : List Byte := []
  irq     : Bool := false
  /-- The completion of a capture stream, which uses a reserved place (R426). -/
  capEnd  : Bool := false
  /-- The event ring for completions and LISTEN_APDU; none: routed by the map when it enters its queue (R419). -/
  ring    : Option Nat := none
  /-- A FAULT event that stands in the place of a damaged entry: the class of that entry (R434). -/
  stead   : Option Nat := none
deriving DecidableEq, Repr

/-- An outbound queue (R426) and the work that waits at the point of posting for room in it (R717). -/
structure OutQ where
  held    : List Entry := []
  waiting : List Entry := []
deriving DecidableEq, Repr

/-- A deficit round-robin arbiter: the child whose turn it is, and the deficits of the backlogged children in bytes (R436). -/
structure Drr where
  cur : Nat := 0
  dfc : Tbl Nat := []
deriving DecidableEq, Repr

/-- A command descriptor as copied from its slot (R398). -/
structure Desc where
  op       : Nat := 0
  irq      : Bool := false
  auth     : Bool := false
  noEvent  : Bool := false
  fence    : Bool := false
  target   : Nat := 0
  gen      : Nat := 0
  session  : Nat := 0x1FF
  deadline : Nat := 0
  bufAddr  : Nat := 0
  bufLen   : Nat := 0
  txLen    : Nat := 0
  /-- Bytes 32 to 59. -/
  param    : List Byte := []
deriving DecidableEq, Repr

/-- A descriptor taken up: where it came from, where its completion goes, its input, and its authentication. -/
structure QDesc where
  d     : Desc := {}
  ring  : Nat := 0
  idx   : Nat := 0
  evq   : Nat := 0
  input : List Byte := []
deriving DecidableEq, Repr

/-- A target queue (R401): waiting descriptors, and the one that has started. -/
structure TQ where
  q      : List QDesc := []
  run    : Option QDesc := none
deriving DecidableEq, Repr

/-- What a device frame is for: it decides its window (R242) and what its answer means. -/
inductive FrameUse where
  | exchange
  | reqA | anticoll | select | hlta | rats | pps
  | reqB | slotMarker | attrib | hltB
  | sensf
  | inventory | stayQuiet
  | iBlock | rAck | rNak | sWtx | sDeselect
  | t2Read | t2Write | t5Read | t5Write
deriving DecidableEq, Repr

/-- Codings of device frames (R78). -/
inductive Coding where
  | miller | nrzL | manchester | pulsePos
deriving DecidableEq, Repr

/-- The modulation of a device frame (R78 to R83). -/
structure Wave where
  /-- 100 % ASK: the field is clamped in the pauses (R81). -/
  full   : Bool := true
  /-- Modulation index of other ASK, in 0.5 %. -/
  index  : Nat := 0
  coding : Coding := .miller
  /-- Pause length in Tc; 0 where the coding has none. -/
  pause  : Nat := 0
  /-- Length of a transition in quarters of a Tc (R82). -/
  edge   : Nat := 4
  /-- Overshoot of each transition's first Tc, in 0.5 dB (R83). -/
  boost  : Nat := 0
deriving DecidableEq, Repr

/-- The modulation settings of a channel as its registers hold them: CH_MOD_A, CH_MOD_ASK, CH_MOD_SHAPE and CH_FRM_CTL. A
transaction samples them at its admission (R84, R149). -/
structure ModSet where
  a     : Nat := 0
  ask   : Nat := 0
  shape : Nat := 0
  frm   : Nat := 0
deriving DecidableEq, Repr

/-- A device frame staged or on the air (R46, R147), with its response window (R242). Times in Tc. -/
structure AirFrame where
  use      : FrameUse := .exchange
  tech     : Tech := .nfcA
  txRate   : Nat := 0
  rxRate   : Nat := 0
  data     : List Byte := []
  /-- Valid bits of the last byte; 0 means 8. -/
  lastBits : Nat := 0
  /-- The transaction declares the response CRC-bearing (R160). -/
  rxCrc    : Bool := false
  rxAlign  : Nat := 0
  /-- NFC-V: the tag answers with dual subcarrier (R141). -/
  dual     : Bool := false
  winOpen  : Nat := 0
  winClose : Nat := 0
  /-- Receive length (R158). -/
  rxMax    : Nat := 8192
  /-- Slot answered, for slotted techniques. -/
  slot     : Nat := 0
  /-- The window counts from an end-of-frame request of the device (NFC-V with the option flag). -/
  optEof   : Bool := false
  /-- How it is modulated (R78). -/
  wave     : Wave := {}
deriving DecidableEq, Repr

/-- Where a frame exchange stands on a channel (R238 to R242, R154 to R171). -/
inductive AirPhase where
  | idle          -- no frame staged
  | staged        -- a frame waits for its start edge
  | sending       -- a device frame is on the air
  | winWait       -- frame ended, window not open yet
  | winOpen       -- searching for a start of frame
  | receiving     -- inside a received frame
  | capturing     -- a capture window is open (R168)
  | captured      -- inside a captured frame (R169)
deriving DecidableEq, Repr

/-- A step record of a poll program (R245). -/
structure PStep where
  tech    : Tech := .nfcA
  txMax   : Nat := 0
  rxMax   : Nat := 0
  action  : Nat := 0
  script  : Nat := 0
  p0      : Nat := 0
  p1      : Nat := 0
  tsn     : Nat := 0
  fsdi    : Nat := 0
  cid     : Nat := 0
  cidEn   : Bool := false
  deselect : Bool := false
  halt    : Bool := false
  nextOnFound : Bool := false
deriving DecidableEq, Repr

/-- A poll program (R244). -/
structure Prog where
  steps     : List PStep := []
  stagger   : Nat := 0
  report    : Bool := false
  stopFirst : Bool := false
  useWup    : Bool := false
  maxTags   : Nat := 1
  chMask    : Nat := 0
  period    : Nat := 1000
  fg        : Nat := 0
  fgEn      : Bool := false
  level     : Nat := 255
  declFwi   : Nat := 0
  iter      : Nat := 1
  rxMax     : Nat := 3
  decision  : Nat := 0
deriving DecidableEq, Repr

/-- A step of an APDU script (R271). -/
structure SStep where
  host    : Bool := false
  extract : Bool := false
  report  : Bool := false
  endOnMatch : Bool := false
  apdu    : List Byte := []
  idOfs   : Nat := 0
  swAny   : Bool := false
deriving DecidableEq, Repr

/-- A program running in a slot: its PROG_START (R247), when its cycle started and its stagger phase (R251). -/
structure ProgRun where
  start     : QDesc := {}
  /-- Carrier cycle at which phase 0 of the present cycle started; none before the first one. -/
  t0        : Option Nat := none
  phase     : Nat := 0
  /-- A cycle fell due before the last phase ended; it starts when that phase ends (R251). -/
  late      : Bool := false
  /-- Channels whose cycle fell due while their last one had not ended (R252). -/
  skipped   : List Nat := []
  /-- A PROG_STOP that waits for the bound channels' cycles to end (R278). -/
  stop      : Option QDesc := none
deriving DecidableEq, Repr

/-- An identifier on a presence list (R275). -/
structure Pres where
  tech   : Tech := .nfcA
  ident  : List Byte := []
  absent : Nat := 0
  /-- The slot of its last CONFIDENT attribution (R226). -/
  slot   : Option Nat := none
deriving DecidableEq, Repr

/-- Where the identification of a step stands (R254 to R261). -/
inductive IdPhase where
  | start
  | detect              -- REQA/WUPA, REQB/WUPB, SENSF_REQ or INVENTORY sent
  | anticoll            -- NFC-A ANTICOLLISION sent
  | select              -- NFC-A SELECT sent
  | slotB               -- Type B slot marker sent
  | slotF               -- NFC-F slot awaited
  | slotV               -- NFC-V slot awaited
  | activate            -- RATS or ATTRIB sent
  | pps                 -- PPS sent
  | isoDep              -- ISO-DEP blocks running
  | hostHold            -- held at a HOST step (R274)
  | deselect            -- S(DESELECT) sent
  | halt                -- HLTA, HLTB or STAY QUIET sent
  | done
deriving DecidableEq, Repr

/-- A frame of this stage comes from a tag that has been identified. -/
def IdPhase.handles (p : IdPhase) : Bool :=
  match p with
  | .activate | .pps | .isoDep | .deselect | .halt | .done => true
  | _ => false

/-- A stage that a stop lets go on (R278): an activation, an ISO-DEP exchange, and the end of a tag's handling. -/
def IdPhase.closes (p : IdPhase) : Bool :=
  match p with
  | .activate | .pps | .isoDep | .deselect | .halt => true
  | _ => false

/-- The identification state of a running step. -/
structure IdState where
  phase   : IdPhase := .start
  /-- NFC-A: cascade level 1 to 3. -/
  level   : Nat := 1
  /-- NFC-A: known UID bits of the level, as bytes and a bit count. -/
  known   : List Byte := []
  nbits   : Nat := 0
  /-- NFC-A: UID bytes collected over the levels, cascade tags removed. -/
  uid     : List Byte := []
  iters   : Nat := 0
  /-- NFC-A: the level identifiers selected for the tag at hand, first level first. -/
  path    : List (List Byte) := []
  /-- NFC-A: after a separation, beam B's level identifier behind those of the levels above it, still to be selected (R260). -/
  beamB   : List (List Byte) := []
  /-- NFC-A: level identifiers that the present pass selects without anticollision (R260). -/
  todo    : List (List Byte) := []
  /-- Type B and NFC-F: slots of the round, the slot answered now, and whether the round had a collision. -/
  slots   : Nat := 1
  slot    : Nat := 0
  collided : Bool := false
  /-- NFC-V: masks still to inquire (bits, length), and the mask in use. -/
  masks   : List (Nat × Nat) := []
  mask    : Nat × Nat := (0, 0)
  /-- Type B: the ATQB of the tag now handled; NFC-A: the ATS. -/
  answer  : List Byte := []
  /-- Tags of the round that wait for their action or halt (Type B, NFC-V): identifier, answer without its check value, and whether the
  answer came with status OK. -/
  queue   : List (List Byte × List Byte × Bool) := []
  /-- The tag that is handled now. -/
  ident   : List Byte := []
  /-- Identifiers found in this step, in order. -/
  found   : List (List Byte) := []
  slotHub : Option Nat := none
  /-- A frame of the tag handled now came with another status than OK: what it carries never leads to a GRANT (R20). -/
  tainted : Bool := false
  /-- The status at which the step's identification stands: that of its latest tag, or of its end (R261, R285). -/
  idSt    : Option Status := none
  result  : Status := .ok
deriving DecidableEq, Repr

/-- The ISO-DEP exchange running in a session (R265 to R268). -/
structure DepRun where
  /-- Information bytes still to send, and whether the block on the air has more to follow. -/
  toSend  : List Byte := []
  chaining : Bool := false
  /-- Response information assembled so far. -/
  got     : List Byte := []
  retries : Nat := 0
  /-- The last device block, for repetition (R268). -/
  lastBlk : List Byte := []
  lastUse : FrameUse := .iBlock
  wtxm    : Nat := 0
  /-- The present wait is bounded by PAV_SEQ_DEP.FWT_CAP, and one such wait has ended without an answer (R267). -/
  capWait : Bool := false
  capped  : Bool := false
deriving DecidableEq, Repr

/-- The progress of a Type 2, 4 or 5 tag operation (R270). -/
structure TagRun where
  /-- Next page or block, and how many remain. -/
  next   : Nat := 0
  left   : Nat := 0
  /-- Type 4: which of its APDUs is in progress. -/
  stage  : Nat := 0
  data   : List Byte := []
  cmds   : Nat := 0
  ndefLen : Nat := 0
  mle    : Nat := 15
deriving DecidableEq, Repr

/-- What a transaction carries out. -/
inductive Work where
  | exchange
  | tagOp
  /-- A cycle of the program in a slot; `true`: by a RUN_CYCLE descriptor. -/
  | cycle (slot : Nat) (byDesc : Bool)
  | pilot
  /-- One field of a calibration procedure on a borrowed channel (R522). -/
  | cal
deriving DecidableEq, Repr

/-- The stages of a transaction (R233, R343, R349). -/
inductive TxnPhase where
  | waiting | admitted | up | rampDown
deriving DecidableEq, Repr

/-- How a field falls (R85). -/
inductive RampKind where
  | normal | fast | hard
deriving DecidableEq, Repr

/-- A coil that a transaction drives: its channel, its effective level and the phase of its weight in 1/1024 turn (R197), and
whether it has been cut hard (R85, R204). -/
structure Driven where
  ch   : Nat := 0
  lvl  : Nat := 255
  ph   : Nat := 0
  hard : Bool := false
deriving DecidableEq, Repr

/-- A result of the last frame of an exchange that its completion reports (R415). -/
structure RxResult where
  status   : Status := .noResponse
  data     : List Byte := []
  lastBits : Nat := 0
  rho1     : Nat := 0
  rho2     : Nat := 0
  slot     : Nat := 0xFFF
  cls      : Nat := 0
  partialV : Bool := false
deriving DecidableEq, Repr

/-- A decision of the separator on a frame (R214 to R221): its reason, 1 accepted, and the pair of candidates, `s` that of beam A. -/
structure SepDec where
  reason : Nat := 1
  s      : Nat := 0
  t      : Nat := 1
deriving DecidableEq, Repr

/-- Which timeline a pavilion runs (R365). -/
inductive GateMode where
  | open_ | oper | fallback
deriving DecidableEq, Repr

/-- The gate closing that a transaction was admitted against (R721): none, or an instant of network time or of the carrier count, in
1/339 ns. -/
inductive Closing where
  | never
  | net (u : Nat)
  | car (u : Nat)
deriving DecidableEq, Repr

/-- A transaction (R233): waiting for admission, admitted, with its field up, or ramping down. -/
structure Txn where
  work     : Work := .exchange
  desc     : Option QDesc := none
  phase    : TxnPhase := .waiting
  tech     : Tech := .nfcA
  txRate   : Nat := 0
  rxRate   : Nat := 0
  level    : Nat := 255
  fg       : Option Nat := none
  driven   : List Driven := []
  /-- The modulation settings of its channel, as sampled at admission (R84, R149). -/
  mods     : ModSet := {}
  /-- Declared length without the lead, D − T_lead, in Tc (R235, R343). -/
  declTc   : Nat := 0
  /-- Reserved energy, in mW·Tc (R348, R356). -/
  eRsv     : Nat := 0
  /-- The closing it was admitted against (R721). -/
  closing  : Closing := .never
  /-- Its place in the order of R350. -/
  order    : Nat := 0
  /-- Carrier cycle of admission and of the field start. -/
  tAdm     : Nat := 0
  tUp      : Nat := 0
  /-- Status of the cause that ends its field, with its rank (R88). -/
  endCause : Option Status := none
  /-- The class in which its coils fall, but for those cut hard (R85). -/
  ramp     : RampKind := .normal
  /-- The field stays up for a continuing EXCHANGE (R408). -/
  holdField : Bool := false
  /-- The work itself has ended and its completion is posted; a later cause of R88 no longer has an exchange to end. -/
  finished : Bool := false
  /-- Status with which the work itself ended, when the ramp-down has begun. -/
  result   : Status := .ok
  /-- The results of the latest frame that its present exchange received (R225). -/
  results  : List RxResult := []
  /-- Frames of the transaction. -/
  air      : AirPhase := .idle
  frame    : Option AirFrame := none
  /-- Carrier cycle at which the sequencer's next occasion falls due: the start or the end of a device frame (R238), the end of the
  host's wait (R274) or of the ramp-down (R85). -/
  dueTc    : Nat := 0
  /-- Carrier cycle of the last frame's end edge, from which turn-round and guard count (R238), and that of the last device frame, from
  which its windows count (R242). -/
  endTc    : Nat := 0
  reqTc    : Nat := 0
  /-- The start sequence of the frame being received, or of the last one, with the noise floor in force (R155). -/
  sof      : SofFacts := {}
  /-- The response window closed while a frame was being received (R156). -/
  winOver  : Bool := false
  /-- Capture steps of the present frame (R167, R171); the carried index of the first measurement of the step that opened the capture
  window, and of the window's close, in quarters of a Tc (R168). -/
  capCount : Nat := 0
  capFrom  : Nat := 0
  capEnd   : Nat := 0
  /-- Bit periods that steps mark as collisions (R172), and what the separator has decided on the frame (R214). -/
  marks    : List Nat := []
  sep      : Option SepDec := none
  /-- Program step in progress, and the cycle's bookkeeping. -/
  stepIx   : Nat := 0
  id       : IdState := {}
  dep      : DepRun := {}
  tag      : TagRun := {}
  sess     : Option Nat := none
  script   : List SStep := []
  scriptIx : Nat := 0
  /-- The ISODEP_EXCHANGE in progress, and the length of its response (R409). -/
  hostDesc : Option QDesc := none
  hostLen  : Nat := 0
  /-- The descriptor whose completion carried HOLD (R274, R418). -/
  held     : Option QDesc := none
  /-- The tag is being deselected before the transaction ends (R274, R409). -/
  ending   : Bool := false
  /-- Tap weights set to 0 for the present frame, with the values that return (R210). -/
  zeroed   : List (Nat × Nat) := []
  /-- No block starts before this carrier cycle (R241). -/
  notBefore : Nat := 0
  /-- The cycle runs at a level adapted above the program's (R479), and an identification fell short of the SNR asked. -/
  adapted  : Bool := false
  snrLow   : Bool := false
  lastSw   : Nat := 0
  report   : List Byte := []
  /-- Per step: technology, whether it ran, its status, and the identifiers found (R276). -/
  stepLog  : List (Tech × Status × List (List Byte)) := []
  /-- A script of the cycle ended on a broken SW_RULE: its step and the status word (R272). -/
  broke    : Option (Nat × Nat) := none
  changed  : Bool := false
  stopAsked : Bool := false
  /-- The program as it stood at the cycle's start (R248). -/
  prog     : Prog := {}
deriving DecidableEq, Repr

/-- Session kinds (R332). -/
inductive SessKind where
  | free | pollDep | listenDep
deriving DecidableEq, Repr

/-- A session context (R332). -/
structure Sess where
  gen    : Nat := 0
  kind   : SessKind := .free
  chan   : Nat := 0x1FF
  hold   : Bool := false
  tech   : Nat := 0
  ident  : List Byte := []
  state  : Nat := 0
  txRate : Nat := 0
  rxRate : Nat := 0
  fsci   : Nat := 0
  fsdi   : Nat := 0
  fwi    : Nat := 0
  sfgi   : Nat := 0
  cid    : Nat := 0
  cidUsed : Bool := false
  blockNum : Nat := 0
  wtxm   : Nat := 0
  script : Nat := 0xF
  scriptStep : Nat := 0
  fg     : Nat := 0
  fgUsed : Bool := false
  cred   : List Byte := []
  credValid : Bool := false
  tOpen  : Nat := 0
  tLast  : Nat := 0
  lastSw : Nat := 0
  lastStatus : Nat := 0
  /-- The whole answer; ANS keeps its first 47 bytes (R332). -/
  answer : List Byte := []
deriving DecidableEq, Repr

/-- Listener states (R294). -/
inductive LsnState where
  | off | idle | ready | active | halt | readyS | activeS | protocol
deriving DecidableEq, Repr

/-- Which Type 4 file is selected (R302). -/
inductive T4Sel where
  | none | app | cc | ndef
deriving DecidableEq, Repr

/-- An answer that a listener has staged (R297): its bytes, the bit of the first byte at which it begins, the rate in force when it
was staged, whether it belongs to the grid's n = 9 alone, and whether it is the ATS. -/
structure Answer where
  data  : List Byte := []
  align : Nat := 0
  rate  : Nat := 0
  fixed : Bool := false
  ats   : Bool := false
deriving DecidableEq, Repr

/-- A listening channel's own state (R288 to R309). -/
structure Lsn where
  field   : Bool := false
  /-- Carrier cycle at which the field was declared present (R294). -/
  since   : Nat := 0
  /-- End edge of the reader's last frame, as a carrier cycle, and whether its last bit was 1 (R153, R297). -/
  endTc   : Nat := 0
  endOne  : Bool := false
  /-- No answer in PROTOCOL comes before this carrier cycle (R297). -/
  notBefore : Nat := 0
  /-- Carrier cycle at which its latest answer ends on the air (R126). -/
  sendTo  : Nat := 0
  /-- Carrier cycles of the end of the last command block and of the last start of the extension timer, and the WTXM of the last
  extension of this command, 0 before the first (R307, R309). -/
  cmdAt   : Nat := 0
  tmrAt   : Nat := 0
  ext     : Nat := 0
  state   : LsnState := .off
  /-- Outside carrier offset, Hz (R290). -/
  freq    : Int := 0
  uid     : List Byte := []
  level   : Nat := 1
  sess    : Option Nat := none
  t4      : T4Sel := .none
  /-- The armed buffer (R410): address, length, and the event ring of its LISTEN_ARM's ring. -/
  armed   : Option (Nat × Nat × Nat) := none
  /-- A command APDU is being assembled (R299). -/
  asm     : List Byte := []
  /-- Length of the command last forwarded. -/
  apduLen : Nat := 0
  /-- A forwarded command awaits the host's response; the host cap has passed for it (R309). -/
  waiting : Bool := false
  capped  : Bool := false
  /-- An S(WTX) awaits the reader's answer (R307). -/
  wtxOut  : Bool := false
  /-- The framer is inside a reader frame (R112, R126, R131). -/
  inFrame : Bool := false
  /-- The last command block carried a CID (R298). -/
  withCid : Bool := false
  /-- The answer staged for sending (R297). -/
  staged  : Option Answer := none
  /-- The response to send once the S(WTX) is answered (R308). -/
  queued  : Option (List Byte) := none
  rest    : List Byte := []
  lastBlk : List Byte := []
deriving DecidableEq, Repr

/-- A capture stream (R439 to R446). Indices count samples. -/
structure Cap where
  desc    : QDesc := {}
  /-- 0 HB3, 1 HB4, 2 resampler (R137). -/
  point   : Nat := 0
  /-- Samples asked for; 0 continuous. -/
  samples : Nat := 0
  start   : Nat := 0
  running : Bool := false
  /-- Index of the next sample that the point produces. -/
  idx     : Nat := 0
  /-- The elastic buffer: runs of samples, oldest first, each with the index of its first sample (R446). -/
  buf     : List (Nat × List Byte) := []
  /-- Bytes written to the host. -/
  written : Nat := 0
  /-- Suspension causes: fabric, link, elastic buffer, borrow (R444). -/
  susFab  : Bool := false
  susLink : Bool := false
  susBuf  : Bool := false
  susBor  : Bool := false
  /-- A gap is open since this sample: nothing is collected until its CAPTURE_GAP stands in its ring (R445). -/
  gapFrom : Option Nat := none
  /-- The stream has seen its last sample (R440). -/
  ended   : Bool := false
  /-- Carried index of the next sample that the point produces, in 2^-24 of a quarter of a Tc (R107, R134). -/
  at_     : Nat := 0
  /-- Network time of the latest sample produced. -/
  tLast   : Nat := 0
deriving DecidableEq, Repr

/-- Shaper parameters in force until a window boundary (R354). -/
structure ShpOld where
  en    : Bool := true
  idle  : Nat := 1000
  hi    : Nat := 100000
  lo    : Nat := 100000
  until_ : Nat := 0
deriving DecidableEq, Repr

/-- A gate list: base time and cycle in ns, entries (duration, open mask, priority) (R359, R360). -/
structure GList where
  base    : Nat := 0
  cycle   : Nat := 1000
  entries : List (Nat × Nat × Bool) := []
  /-- A pending list whose change time an EPOCH will give (R681). -/
  follow  : Bool := false
deriving DecidableEq, Repr

/-- The gate state of a pavilion (R359 to R369, R720). -/
structure Gate where
  mode    : GateMode := .open_
  oper    : Option GList := none
  pend    : Option GList := none
  /-- Carrier cycle at which an enabling takes effect (R720). -/
  enAt    : Option Nat := none
  /-- Carrier cycle at which the present fallback period started, and its parameters. -/
  fbStart : Nat := 0
  fbOpen  : Nat := 90000
  fbPeriod : Nat := 100000
  fbMask  : Nat := 0xF
  fbPri   : Bool := false
  /-- Lock was lost within an operational entry with this open mask and this PRI, which hold until the first fallback period starts
  (R367, R374). -/
  lostEnd : Option Nat := none
  lostPri : Bool := false
deriving DecidableEq, Repr

/-- Power state of a pavilion (R582). -/
inductive PavState where
  | off | watch | active
deriving DecidableEq, Repr

/-- A change of a pavilion's state in progress (R583). -/
structure PavChange where
  dest  : PavState := .active
  temp  : Bool := false
  /-- Carrier cycle of the request. -/
  at_   : Nat := 0
  /-- It began the cold start with which the device leaves WATCH (R587). -/
  cold  : Bool := false
deriving DecidableEq, Repr

/-- A Belvedere sweep in progress (R280). -/
structure Sweep where
  step  : Nat := 0
  /-- Carrier cycle at which it started. -/
  t0    : Nat := 0
deriving DecidableEq, Repr

/-- States of a synthesiser (R31). -/
inductive SynState where
  | off | calibrating | standby | active
deriving DecidableEq, Repr

/-- Kinds of synthesiser calibration (R31, R32, R33). -/
inductive SynCal where
  | cold | restart | standbyCal
deriving DecidableEq, Repr

/-- What a device frame puts on the air, in order (R147): Modified Miller sequences; a level for some bit durations; a bit in one bit
duration; NFC-V's start of frame in 1-of-4 or, with true, 1-of-256 coding, a pulse position among 4 or 256, and end of frame. -/
inductive Line where
  | x | y | z
  | level (one : Bool) (e : Nat)
  | bit (one : Bool)
  | sofV (of256 : Bool)
  | pulse (of_ slot : Nat)
  | eofV
deriving DecidableEq, Repr

/-- Things sent to the outside: host memory writes, interrupt messages, air and link frames, read data. -/
inductive Output where
  /-- A memory write of the device (R392, R396, R435). -/
  | memWrite (addr : Nat) (data : List Byte)
  /-- A memory read of the device: a descriptor's slots, a descriptor's input, a span of the ledger window (R389, R399, R462). -/
  | memRead (addr len : Nat)
  /-- An MSI-X message: vector, address, data (R421). -/
  | msix (vector addr data : Nat)
  /-- A coil's field begins to rise or to fall: class, whether the shape is linear, and length in Tc; a hard cut disables the driver
  at the next Tc (R85). -/
  | ramp (ch : Nat) (up : Bool) (kind : RampKind) (linear : Bool) (tc : Nat)
  /-- The driver's pulse width takes a setting: level, scale as a ratio, and the loop's correction (R72, R73; `Drive`), with what
  Drip still has to apply of the scale in 0.01 dB (R548). -/
  | pulse (ch lvl num den : Nat) (corr left : Int)
  /-- A device frame on a channel's coil, and its sequence (R147). -/
  | air (ch : Nat) (frame : AirFrame) (line : List Line)
  /-- A load-modulated answer of a listening channel (R293): its rate, its bytes, and the bits of its frame in order (R147). -/
  | load (ch rate : Nat) (data : List Byte) (line : List Bool)
  /-- The data of a register read: path (false PCI Express, true Kiosk) and value. -/
  | readData (kiosk : Bool) (v : Nat)
  /-- Bytes shifted out of the Kiosk port (R631, R636). -/
  | kiosk (data : List Byte)
  /-- A frame sent at a Promenade port (true UP): its payload, and its 320 bits in order of transmission (R665, R666). -/
  | prom (up : Bool) (payload : List Byte) (wire : List Bool)
  /-- A command to a flash chip: chip, command byte, address bytes, cycles between address and data, lanes of the address and of the
  data, and the data sent (R640). -/
  | flash (cs cmd : Nat) (addr : List Byte) (cycles : Nat) (lanes : Nat × Nat) (data : List Byte)
deriving DecidableEq, Repr

end Sys2Proof.Machine
end

