-- ==== Sys2Proof/Machine/Units.lean ====
section
/-! DEFINITION. The records of the replicated units: channel, pavilion, arbour, ring, tag image, timer. -/

namespace Sys2Proof.Machine

/-- How a coil's drive departs from its feedforward while its field is up (R73, R74, R97). -/
structure Drive where
  /-- The loop's correction, in 1/339 of 0.05 dB. -/
  corr : Int := 0
  /-- The factor of the loop ceiling. -/
  num  : Nat := 1
  den  : Nat := 1
deriving DecidableEq, Repr

/-- What a channel holds beside its registers. -/
structure Ch where
  tq       : TQ := {}
  outq     : OutQ := {}
  /-- Output data not yet written to host memory (R428). -/
  dataWait : List (Nat × List Byte) := []
  txn      : Option Txn := none
  /-- The channel whose transaction drives this coil, while its field is up (R233, R341). -/
  fieldOf  : Option Nat := none
  /-- The antenna port's parking load is connected (R89), as of the latest command on the coil's field; `Dev.parked` says it for now. -/
  parking  : Bool := true
  /-- Carrier cycle at which the coil's ramp-down in progress ends, or its hard cut acts (R85, R89); none while its field stands. -/
  downAt   : Option Nat := none
  role     : Role := .parked
  home     : Role := .parked
  gen      : Nat := 0
  borrowed : Bool := false
  /-- A transaction that waits while the channel is borrowed (R338), or while a priority probe of its coil runs ahead of it (R185). -/
  aside    : Option Txn := none
  /-- SET_ROLE descriptors that wait to take effect, in descriptor order (R326, R327). -/
  roleQ    : List (QDesc × Role) := []
  /-- Credit in mW·Tc (1 µJ is 13,560 mW·Tc) at carrier cycle `creditAt` (R351). -/
  credit   : Int := 0
  creditAt : Nat := 0
  shpOld   : Option ShpOld := none
  /-- Field-on Tc of each 1 ms slice, by slice number (R352), since when the field is up, and up to when it is accounted. -/
  duty     : Tbl Nat := []
  onAt     : Option Nat := none
  dutyAt   : Nat := 0
  /-- Carrier cycle at which its latest field or Belvedere probe ended (R93, R719). -/
  offAt    : Option Nat := none
  /-- The start and the end of its earlier fields, latest first, as far as a frame still being received may ask for them (R212). -/
  past     : List (Nat × Nat) := []
  /-- The frame being received through its tap: the channel whose exchange it belongs to, and the carrier cycle since when (R212). -/
  rxBy     : Option (Nat × Nat) := none
  /-- The frames received through its tap before, latest first: channel, start and end (R212). -/
  rxPast   : List (Nat × Nat × Nat) := []
  drive    : Drive := {}
  /-- The limiter's older limit and the cycle it holds to (R97). -/
  limOld   : Option (Nat × Nat) := none
  /-- Tuner value waiting for field-off (R98), and the step to be judged by the next field (R102). -/
  tunePend : Option (Nat × Nat) := none
  retune   : Option (Nat × Nat) := none
  /-- A TUNER_MISMATCH was posted and the return loss has not yet recovered (R100). -/
  rlLow    : Bool := false
  /-- Shifts waiting for the end of the frame being received (R112), and FIR_SRC (R115). -/
  shiftPend : Option Nat := none
  srcPend  : Option Nat := none
  /-- The listen row waits for the end of the reader's frame being received (R115, R118). -/
  stdPend  : Bool := false
  /-- The noise floor of the latest response window (R155). -/
  floor    : Nat := 0
  /-- The framer ignores its input until this carrier cycle, while the filter refills (R115). -/
  deafTo   : Nat := 0
  /-- Carrier cycle at which the present cross-fade of the filter banks started (R117). -/
  fadeAt   : Nat := 0
  /-- The latest PGA gain changes, the last first: carrier cycle, and the gain step before it (R126, R127). -/
  gainLog  : List (Nat × Nat) := []
  /-- The fine estimate at HB1 output, in converter steps at a gain step (R125, R127). -/
  fineRe   : Rat := 0
  fineIm   : Rat := 0
  fineGain : Nat := 0
  /-- The resampler's position in units of 2^-24 input sample (R134, R136). -/
  rsPos    : Nat := 0
  presence : List Pres := []
  prog     : Option Nat := none
  /-- The channel left its program's mask and finishes its cycle (R248). -/
  leaving  : Bool := false
  /-- A cycle of the bound program has fallen due and has not ended (R252). -/
  cycleOpen : Bool := false
  cap      : Option Cap := none
  lsn      : Lsn := {}
  /-- Belvedere: a baseline is held; ADOPT was asked; consecutive excursions; carrier cycle of the last probe. -/
  blvBase  : Bool := false
  blvAdopt : Bool := false
  blvRun   : Nat := 0
  blvAt    : Nat := 0
  /-- The baseline in 2^-32 of the registers' units (R284; log entry 27). -/
  blvAmp   : Nat := 0
  blvPh    : Nat := 0
  /-- Adaptive level (R479): consecutive good cycles, and cycles since the last one at the program's level. -/
  good     : Nat := 0
  adaptCnt : Nat := 0
  /-- Cycles since the channel last identified a tag (R480). -/
  sinceId  : Nat := 255
deriving DecidableEq, Repr

/-- What a pavilion holds beside its registers. -/
structure Pav where
  tq       : TQ := {}
  progs    : Tbl Prog := []
  /-- Programs loaded over running ones, taken at each channel's next cycle (R248). -/
  progsNew : Tbl Prog := []
  scripts  : Tbl (List SStep) := []
  runs     : Tbl ProgRun := []
  /-- Bucket tokens and reservations, in mW·Tc, at carrier cycle `tokAt` (R355, R356). -/
  tokens   : Int := 2000000 * 13560
  tokAt    : Nat := 0
  rsv      : Nat := 0
  gate     : Gate := {}
  /-- Level of COEX_GNT_Pn as it acts on the device (R371), and COEX_REQ_Pn with the cycle it rose. -/
  gntPin   : Bool := false
  req      : Bool := false
  reqAt    : Nat := 0
  /-- VDRV below warning or awaiting return (R595). -/
  dip      : Bool := false
  /-- Carrier cycle since which VDRV has stood above 92 % of NOM during a dip (R595). -/
  okAt     : Option Nat := none
  /-- Carrier cycle of the latest change of what keeps the pavilion from being quiet (R584, R585). -/
  stirAt   : Nat := 0
  state    : PavState := .off
  change   : Option PavChange := none
  temp     : Bool := false
  everActive : Bool := false
  sweep    : Option Sweep := none
  /-- Carrier cycle at which the last sweep started (R280). -/
  sweptAt  : Option Nat := none
  /-- The sequencer microcode failed to reload (R573). -/
  dead     : Bool := false
  /-- The monitor code of a recovery whose reload has not ended (R573). -/
  reload   : Option Nat := none
  /-- The debug port asks for a halt of the sequencer (R518). -/
  haltAsk  : Bool := false
  /-- Channels that identified a tag, the most recent first (R480). -/
  order    : List Nat := []
  /-- A DETECT with WAKE asks for ACTIVE (R286). -/
  wakeDet  : Bool := false
  /-- Channels whose cycle runs before the others' cycles resume (R286). -/
  first    : List Nat := []
deriving DecidableEq, Repr

/-- What an arbour holds beside its registers. -/
structure Arb where
  tq      : TQ := {}
  /-- Carrier cycle at which each column's age last restarted (R188); none: never. -/
  colAt   : Tbl Nat := []
  /-- A grant pulse is being driven (R472), until which carrier cycle, and since when its wave runs (R471). -/
  grant   : Bool := false
  grantEnd : Nat := 0
  grantAt : Nat := 0
  /-- Pilot batch admitted: columns still to probe, the one whose turn it is first (R184), and the taps' gains at the running probe's
  start, in 0.001 dB, by receiver (R180). -/
  pilot   : List Nat := []
  gains   : Tbl Int := []
  /-- The latest 256 symbol vectors of the frame followed for separation, and the channel whose frame that is (R213, R214). -/
  hist    : List (List (Int × Int)) := []
  follow  : Option Nat := none
deriving DecidableEq, Repr

/-- What a ring holds beside its registers. -/
structure Ring where
  /-- Policer tokens in 1/13,560,000 of a token, at carrier cycle `tokAt` (R405). -/
  tok     : Nat := 64 * 13560000
  tokAt   : Nat := 0
  /-- Take-up stopped by a failed read (R397). -/
  stopped : Bool := false
  /-- Event ring: entries since the last message, and the carrier cycle of the oldest (R422). -/
  unsig   : Nat := 0
  oldest  : Nat := 0
deriving DecidableEq, Repr

/-- A host write staged in shadow pages (R311, R312): its descriptor, offset, bytes, pages, and the reader's writes since. -/
structure Staged where
  desc    : QDesc := {}
  ofs     : Nat := 0
  data    : List Byte := []
  pages   : Nat := 0
  /-- A reader wrote bytes of the range since it was staged (R315). -/
  hit     : Bool := false
deriving DecidableEq, Repr

/-- A tag image (R310): its pages, bytes that differ from 0, PERSIST flag, and staged writes in order. -/
structure Image where
  pages   : Nat := 0
  mem     : Tbl Byte := []
  persist : Bool := false
  staged  : List Staged := []
deriving DecidableEq, Repr

end Sys2Proof.Machine
end

