-- ==== Sys2Proof/Machine/Devices.lean ====
section
/-! DEFINITION. The records of the device-wide units, the non-volatile memory, and the whole device. -/

namespace Sys2Proof.Machine

/-- The carrier count and network time (R28, R51 to R60). -/
structure TimeSt where
  /-- Carrier cycles counted from configuration-ready (R719). -/
  tc       : Nat := 0
  /-- The part of a carrier cycle run since, in 1/67,800,000 cycle (R40). -/
  carFrac  : Nat := 0
  /-- Network time in units of 1 ns / (339 · 10^12), so that one cycle at any TIME_RATE is a whole number (R52). -/
  net      : Nat := 0
  /-- The part of a slow-clock tick run since, in 1/13,560,000 tick, while REFCLK is absent (R52). -/
  slowFrac : Nat := 0
  /-- REFCLK ÷ 2 periods since the latest slew began, which lasts 13,560,000 of them, and its units in each (R56). -/
  slewRun  : Nat := 0
  slewPer  : Int := 0
  /-- TIME_NEXT_SL was written since the last edge (R691); the seconds of the last edge. -/
  nextWritten : Bool := false
  prevSec  : Nat := 0
  /-- No edge has come since SOURCE was set to 1 (R56); on Promenade time, no TIME since SOURCE was set to 2. -/
  firstEdge : Bool := true
  /-- Seconds latched by a read of TIME_NOW_NS on PCI Express and on Kiosk (R54, R693). -/
  secPci   : Nat := 0
  secKsk   : Nat := 0
  /-- While what a frame's end edge brings is carried out: the network time of that edge in ns (R49, R153). -/
  edge     : Option Nat := none
  /-- Ends of the last window and of the last slice of the common grids that a command brought (R352, R719), in Tc. -/
  winAt    : Nat := 0
  sliceAt  : Nat := 0
  /-- Network time in ns at which the edge that began holdover was missed (R58). -/
  holdAt   : Nat := 0
deriving DecidableEq, Repr

/-- The synthesiser pair (R28 to R42, R722). -/
structure Syn where
  a        : SynState := .off
  b        : SynState := .off
  /-- The ACTIVE unit was last SYN-B. -/
  activeB  : Bool := false
  /-- The calibrations running, oldest first: kind and, but for a cold start, its unit (true: SYN-B). -/
  runs     : List (SynCal × Bool) := []
  /-- A calibration under R32 has locked; the aligned swap is due at a zero crossing. -/
  swapDue  : Bool := false
  /-- An ACTIVE unit has lost lock with a unit STANDBY; the takeover is due. -/
  takeover : Bool := false
  /-- Carrier cycles at which the calibrations of SYN-A and SYN-B began (R31, R33), and of the latest comparison of the die temperature
  (R34). -/
  startA   : Nat := 0
  startB   : Nat := 0
  checkAt  : Nat := 0
  /-- SYNCAL descriptors merged into the oldest running calibration, or that it serves. -/
  waiters  : List QDesc := []
  /-- A trim accepted and not yet applied (R40), and the trim in force. -/
  trimPend : Option Nat := none
  trim     : Nat := 0
  refOk    : Bool := true
deriving DecidableEq, Repr

/-- One row of the MSI-X table with its pending bit (R694). -/
structure MsixRow where
  addrLo : Nat := 0
  addrHi : Nat := 0
  data   : Nat := 0
  mask   : Bool := true
  pend   : Bool := false
deriving DecidableEq, Repr

/-- The registers of the function's capabilities (R380, R383). Their layout and reset values are the PCI Express Base Specification's (log
entry 69). -/
structure PcieRegs where
  /-- PowerState of power management: 0 D0, 3 D3hot. -/
  power   : Nat := 0
  /-- Device Control, without its Max_Payload_Size: enables, and Max_Read_Request_Size in bits 14 to 12; and the error bits of Device
  Status. -/
  devCtl  : Nat := 0x2810
  devSta  : Nat := 0
  /-- Advanced Error Reporting: status, mask and severity of the uncorrectable errors, status and mask of the correctable ones. -/
  uncSta  : Nat := 0
  uncMask : Nat := 0x400000
  uncSev  : Nat := 0x462030
  corSta  : Nat := 0
  corMask : Nat := 0x6000
  /-- The base address registers as written, by their number. -/
  bars    : Tbl Nat := []
deriving DecidableEq, Repr

/-- The host interface (R379 to R425). -/
structure HostIf where
  rings     : Tbl Ring := []
  msix      : Tbl MsixRow := []
  msixEn    : Bool := false
  busMaster : Bool := false
  pcie      : PcieRegs := {}
  linkUp    : Bool := false
  mps       : Nat := 128
  devQ      : OutQ := {}
  /-- Output data of arbour, pavilion and device work not yet written to host memory (R384). -/
  dataWait  : List (Nat × List Byte) := []
  /-- The write arbiters (R435): 0 to 23 the arbours', 24 to 29 the pavilions', 30 the root. -/
  arbs      : Tbl Drr := []
  /-- The device target queue (R401). -/
  tq        : TQ := {}
  /-- Descriptors taken up and not yet completed, in take-up order (R402, R404). -/
  inFlight  : List QDesc := []
  /-- The next place in the order of R350. -/
  order     : Nat := 0
deriving DecidableEq, Repr

/-- What the boot is doing (R491, R603). -/
inductive BootPhase where
  /-- Reset causes are held. -/
  | held
  /-- Reset released; configuration-ready not reached. -/
  | booting
  /-- Configuration-ready reached; sections not yet loaded. -/
  | loading
  | running
  /-- SLEEP (R588). -/
  | sleeping
deriving DecidableEq, Repr

/-- Power and reset (R580 to R605). -/
structure Pwr where
  boot     : BootPhase := .held
  /-- Reset causes that still hold the device in reset, as bits of LDG_RST_CAUSE (R601, R603). -/
  held     : List Nat := []
  /-- SLEEP has been asked for and is not yet entered (R588). -/
  sleepAsk : Bool := false
  /-- The safe state (R569). -/
  safe     : Bool := false
  /-- Gatehouse is down after its own fault (R570). -/
  gateDown : Bool := false
  /-- JTAG drives pins (R517). -/
  extest   : Bool := false
  /-- A halt of Trellis by JTAG freezes the timers (R518, R660). -/
  frozen   : Bool := false
deriving DecidableEq, Repr

/-- A ledger lookup that reads the window (R460 to R466). -/
structure Lookup where
  /-- Its number, by which a LEDGER_INVALIDATE knows the lookups that it waits for (R465). -/
  seq   : Nat := 0
  ch    : Nat := 0
  cred  : List Byte := []
  /-- 0 tag identifier, 1 extracted credential (R457). -/
  kind  : Nat := 0
  /-- Home index h (R462). -/
  home  : Nat := 0
  /-- DECISION of the program: 1 identifier-only, 2 host-confirmed (R244). -/
  mode  : Nat := 1
  /-- Network time of the identifying frame's end edge, ns (R467). -/
  time  : Nat := 0
  /-- The slot, as a hub channel, of a SLOT_ATTRIBUTED at this identification (R477, R478). -/
  slot  : Option Nat := none
  /-- Entries of the span that its read fetches (R462). -/
  span  : Nat := 8
deriving DecidableEq, Repr

/-- A pending decision (R475). -/
structure PendDec where
  entry : Nat := 0
  ch    : Nat := 0
  /-- Pulse width that a grant would take, in 10 ms; 0 takes ARB_GRANT.PULSE (R472). -/
  pulse : Nat := 0
  /-- Carrier cycle at which it expires (R475). -/
  due   : Nat := 0
deriving DecidableEq, Repr

/-- A LEDGER_INVALIDATE that waits for the lookups that were open at its take-up (R465). -/
structure Inval where
  desc  : QDesc := {}
  first : Nat := 0
  count : Nat := 0
  seqs  : List Nat := []
deriving DecidableEq, Repr

/-- The ledger (R454 to R480). -/
structure Ledger where
  att      : Bool := false
  base     : Nat := 0
  entries  : Nat := 0
  /-- Ledger key slot 0 to 3 of the attach. -/
  key      : Nat := 0
  /-- Cached entries, most recently used first: index and bytes (R463). -/
  cache    : List (Nat × List Byte) := []
  /-- Hold-off list, oldest first: arbour, credential and KIND, time in ns (R469). -/
  holdOff  : List (Nat × List Byte × Nat) := []
  pend     : List PendDec := []
  /-- Expired decisions, oldest first: channel and ENTRY (R475). -/
  expired  : List (Nat × Nat) := []
  /-- Lookups whose window reads have been issued, oldest first, and those whose reads have yet to be (R383, R384). -/
  lookups  : List Lookup := []
  waiting  : List Lookup := []
  nextSeq  : Nat := 0
  /-- An attach or detach that waits for the open lookups (R455). -/
  change   : Option QDesc := none
  invals   : List Inval := []
deriving DecidableEq, Repr

/-- The monitors' own times (R568 to R574), in Tc. -/
structure Flt where
  /-- The latest periodic test of each monitor on a scope (R574; `testKey`). -/
  tests   : Tbl Nat := []
  /-- The end of the latest scrub pass (R568). -/
  scrubAt : Nat := 0
  /-- The latest report (R572). -/
  lastAt  : Option Nat := none
deriving DecidableEq, Repr

/-- Gatehouse (R483 to R519). -/
structure Sec where
  /-- In-memory high-water marks of the command keys (R500), by key slot. -/
  hw        : Tbl Nat := []
  /-- A debug token in force: its level and duration in s (R515). -/
  token     : Option (Nat × Nat) := none
  /-- Carrier cycle at which the debug token came into force. -/
  tokenAt   : Nat := 0
  /-- The manifest that passed at this boot, and the slot (R491). -/
  manifest  : List Byte := []
  /-- The digest of the running manifest (R513). -/
  manDigest : List Byte := []
  /-- A life-cycle transition is recorded and the reset is due (R506). -/
  lcDue     : Bool := false
  /-- Carrier cycle at which its completion was posted. -/
  lcAt      : Nat := 0
  /-- Carrier cycle of the latest mismatch of a regulatory field with its duplicate (monitor 0x0013). -/
  mismatchAt : Option Nat := none
deriving DecidableEq, Repr

/-- A running or waiting calibration procedure (R521). -/
structure CalRun where
  /-- 0 start-up, 6 on-request, 7 arbour coupling, 8 reference. -/
  kind    : Nat := 0
  /-- Pavilion, channel, arbour or channel. -/
  unit    : Nat := 0
  chans   : List Nat := []
  desc    : Option QDesc := none
  started : Bool := false
  /-- The carrier cycle at which the borrow began (R521). -/
  begun   : Nat := 0
  /-- By channel: fields raised so far, and the steps repeated after a swap (bit 0 step 4, bit 1 step 6) (R531). -/
  fields  : Tbl (Nat × Nat) := []
deriving DecidableEq, Repr

/-- The calibration engine (R520 to R559). Quantities stand in the order of log entry 29. -/
structure Cal where
  runs    : List CalRun := []
  /-- By channel: the latest result; the residuals as numerator and denominator (R544); the quantities as formed, and as
  applied (R543, R547). -/
  live    : Tbl (List Int) := []
  resid   : Tbl (List (Int × Int)) := []
  target  : Tbl (List Int) := []
  applied : Tbl (List Int) := []
  /-- Carrier cycle of the latest Drip step of phase and of drive (R548). -/
  dripPh  : Tbl Nat := []
  dripGn  : Tbl Nat := []
  /-- By channel: stated level, ADC full scale, power-sensor scale, coupon used, coupon eye (R538, R553). -/
  ref     : Tbl (List Int) := []
deriving DecidableEq, Repr

/-- The Kiosk port and the shadows of both register paths (R636, R692). -/
structure Kiosk where
  /-- Bits 1 to 3 of the status byte: those of the last frame (R636). -/
  lastErr : Nat := 0
  /-- Carrier cycle by which the writes of the last frame have been applied (R632, R639). -/
  busyTo  : Nat := 0
  /-- High words latched by reads of low words, on PCI Express and on Kiosk, by register key (R692). -/
  shPci  : Tbl Nat := []
  shKsk  : Tbl Nat := []
deriving DecidableEq, Repr

/-- A flash operation: of FLS_CTL by its OP, of the execute-in-place window (0 a read, 2 a program), or of the mirror (7 an export,
8 an import) (R555, R642 to R646). -/
structure FlashOp where
  op   : Nat := 0
  cs   : Nat := 0
  addr : Nat := 0
  len  : Nat := 0
  data : List Byte := []
  xip  : Bool := false
  /-- Carrier cycle at which it took the port (R643). -/
  at_  : Nat := 0
deriving DecidableEq, Repr

/-- The flash port (R640 to R647). -/
structure Flash where
  /-- The operation on the port, and those that wait for it (R644). -/
  run   : Option FlashOp := none
  wait  : List FlashOp := []
  /-- The program or erase that the port has suspended for the read that now has it (R644). -/
  susp  : Option FlashOp := none
  /-- Chips put into 4-byte address mode since reset (R640). -/
  four  : List Nat := []
deriving DecidableEq, Repr

/-- A timer's hidden state (R651 to R661). -/
structure Timer where
  acc     : Nat := 0
  /-- PERIOD and CMP in force, and whether the written values are held for the wrap (R655). -/
  per     : Nat := 0xFFFFFFFF
  cmp     : Nat := 0xFFFFFFFF
  perHold : Bool := false
  cmpHold : Bool := false
  /-- The capture time latched by a read of TMR_CAP on PCI Express and on Kiosk (R657, R693). -/
  capPci  : Nat := 0
  capKsk  : Nat := 0
deriving DecidableEq, Repr

/-- A Promenade port's sender and receiver (R665 to R669). -/
structure PrmPort where
  /-- The frame counter: frames sent since reset (R666). -/
  sent   : Nat := 0
  /-- The receiver's seed for the coming frame, 0 to 510, its run of frames that failed their CRC-32C, and the carrier cycle of the
  latest frame (R667, R668). -/
  seed   : Nat := 0
  crcRun : Nat := 0
  rxAt   : Nat := 0
  /-- Messages due, in the order they became due: type and bytes 2 on, as far as known before the frame that carries them. -/
  due    : List (Nat × List Byte) := []
  /-- TIME_LOCK of the neighbour in its latest message. -/
  lock   : Bool := false
  /-- The neighbour announced its wish for the seam exchange, and its own conditions of R675 hold. -/
  wish   : Bool := false
  /-- Carrier cycle at which the seam messages last became due (R675). -/
  seamAt : Nat := 0
deriving DecidableEq, Repr

/-- A seam probe slot (R677): at the UP port, of a coil of this device, the coil, and its start in ns of network time. -/
structure SeamSlot where
  up   : Bool := true
  mine : Bool := true
  coil : Nat := 0
  time : Nat := 0
deriving DecidableEq, Repr

/-- The Promenade (R665 to R683). -/
structure Prom where
  upP      : PrmPort := {}
  dnP      : PrmPort := {}
  /-- A position has been taken or found too high (R670, R671). -/
  posSet   : Bool := false
  /-- Twice the hop delays measured since the lane came up, latest first, at most 64, in 0.25 ns; and how many (R672). -/
  hops     : List Int := []
  hopCount : Nat := 0
  /-- Start edge of the latest DELAY_REQ, in 0.25 ns. -/
  t1       : Option Nat := none
  /-- Probe slots proposed and not answered, and agreed ones (R677). -/
  asked    : List SeamSlot := []
  slots    : List SeamSlot := []
  /-- Consecutive PHASE messages that fit R679, and the carrier cycle of the latest move of the carrier phase (R678). -/
  cohRun   : Nat := 0
  movedAt  : Option Nat := none
  /-- The neighbours' edge couplings CH191 → CH190 and CH000 → CH001 (R228, R676). -/
  edgeUp   : Word := 0
  edgeDn   : Word := 0
deriving DecidableEq, Repr

/-- The persistent memory: OTP and NVM (R483 to R512, R552, R316). A reset keeps it; only the meanings of the commands
that write it change it. -/
structure NonVol where
  /-- Life-cycle state, coded as SEC_LC.STATE (R505). -/
  life     : Nat := 1
  /-- Root public keys written, and the revoked ones (R484, R486). -/
  roots    : Tbl (List Byte) := []
  revoked  : List Nat := []
  serial   : Nat := 0
  /-- Subsystem Vendor ID and, above it, Subsystem ID (R379). -/
  subsys   : Nat := 0
  /-- Command keys and ledger keys by KEY_SLOT (R486). -/
  keys     : Tbl (List Byte) := []
  /-- Stored marks M of the command keys (R499). -/
  marks    : Tbl Nat := []
  minVer   : Nat := 0
  tokenCtr : Nat := 0
  prefer   : Nat := 0
  /-- A life-cycle transition recorded and not yet completed (R506, R507). -/
  trans    : Option Nat := none
  /-- The identity key and certificate are held (R485, R508). -/
  identity : Bool := true
  /-- The regulatory record: register key and value, none when both copies fail; and the regulatory lock (R512). -/
  reg      : Option (Tbl Nat) := some []
  regLock  : Bool := false
  /-- The two copies of each calibration record, by type, owner and index (R551, R554); an empty copy was never written. -/
  calRec   : Tbl (List Byte × List Byte) := []
  /-- Persistent tag images: pages and bytes (R316). -/
  images   : Tbl (Nat × Tbl Byte) := []
deriving DecidableEq, Repr

/-- Everything volatile that the manual gives the device. -/
structure Dev where
  /-- The set-up registers that hold a value of their own, sparse: what is not listed holds its reset value. -/
  regs    : Tbl Word := []
  time    : TimeSt := {}
  syn     : Syn := {}
  host    : HostIf := {}
  pwr     : Pwr := {}
  chans   : Tbl Ch := []
  pavs    : Tbl Pav := []
  arbs    : Tbl Arb := []
  sess    : Tbl Sess := []
  images  : Tbl Image := []
  ledger  : Ledger := {}
  sec     : Sec := {}
  flt     : Flt := {}
  cal     : Cal := {}
  ksk     : Kiosk := {}
  flash   : Flash := {}
  timers  : Tbl Timer := []
  prom    : Prom := {}
  /-- The model's own: what the device has sent out, oldest first. Nothing reads it. -/
  out     : List Output := []
  /-- The model's own: the number of free values drawn so far (log entry 1). -/
  freeCtr : Nat := 0
deriving DecidableEq, Repr

end Sys2Proof.Machine
end

