-- ==== Sys2Proof/Syntax.lean ====
section
/-! DEFINITION. The commands the block takes, one constructor per row of the command table, with its operands. -/

namespace Sys2Proof

/-- The commands of the block (the rows of spec/opcode_table.json). Operands say what the manual leaves to the outside: which
instance, what arrives, what is measured (log entry 6). -/
inductive Instr where
  /-- POWER_ON: PD0 is first powered, the device resets, and bit 0 of LDG_RST_CAUSE is set. (R601) -/
  | powerOn
  /-- RESET_ASSERT: A reset cause of R601 starts; within 10 µs every field, GRANT pair and COEX output is removed or driven low. (R602) -/
  | resetAssert (cause : Fin 10)
  /-- RESET_RELEASE: The last reset cause is released and the boot of R491 begins with the wipe and the NVM load. (R603) -/
  | resetRelease (cause : Fin 10) (slotA slotB : Option (List Byte))
  /-- CONFIGURATION_READY: Configuration-ready is reached within 6 ms (66 ms after a transition); cold start of the synthesisers and section loading follow. (R491) -/
  | configurationReady (postFail : List Nat)
  /-- SECTIONS_LOADED: The sections are read, their digests checked and the preload applied; SEC_BOOT.STATE becomes RUNNING, or FAILED or NO_IMAGE under R493. (R491) -/
  | sectionsLoaded (secs : List (Option (List Byte)))
  /-- BROWNOUT: A supply falls below its reset level and the device resets until the supply is released. (R594) -/
  | brownout (supply : Fin 4)
  /-- PERST_N_ASSERT: PERST_N resets the device, or with PERST_SCOPE = 1 only the host interface as a hot reset. (R604) -/
  | perstNAssert
  /-- HOT_RESET: A hot reset or link-down resets the host interface, clears rings and MSI-X enable, cancels held descriptors unposted and stops programs. (R385) -/
  | hotReset (linkDown : Bool)
  /-- LINK_TRAINING: The link trains or Max_Payload_Size changes and the capture budget is recomputed, suspending streams if needed. (R447) -/
  | linkTraining (speed width mps : Nat)
  /-- BUS_MASTER_ENABLE_CHANGE: Bus Master Enable changes; at 0 the device makes no memory request and treats every event ring as full. (R384) -/
  | busMasterEnableChange (en msixEn : Bool)
  /-- SYN_COLD_START_DONE: The parallel cold-start calibration of both synthesisers ends and the units become ACTIVE, STANDBY or OFF. (R36) -/
  | synColdStartDone (aOk bOk : Bool)
  /-- CAL_REQ: A write of 1 to SYN_CTL.CAL_REQ starts a calibration of the STANDBY unit, or is merged into a running one. (R32) -/
  | calReq
  /-- RESTART_A: A write of 1 to SYN_CTL.RESTART_A moves an OFF SYN-A to CALIBRATING. (R31) -/
  | restartA
  /-- RESTART_B: A write of 1 to SYN_CTL.RESTART_B moves an OFF SYN-B to CALIBRATING. (R31) -/
  | restartB
  /-- SYN_CAL_COMPLETE: A restart or standby calibration completes, locking the unit as STANDBY or ACTIVE or preparing an aligned swap. (R33) -/
  | synCalComplete (b : Bool)
  /-- ALIGNED_SWAP: At a carrier zero crossing the calibrated unit becomes ACTIVE and the other STANDBY, with a phase step of at most 0.5°, and SYN_SWAP is posted. (R33) -/
  | alignedSwap (step cycles : Nat)
  /-- SYN_CAL_TIMEOUT: A calibration reaches no lock within 3.2 ms; the unit goes OFF, CAL_FAIL is set and a synthesiser fault is reported. (R31) -/
  | synCalTimeout (b : Bool)
  /-- SYN_LOSS_OF_LOCK: A synthesiser loses lock and moves to OFF, with takeover or field removal as its state requires. (R31) -/
  | synLossOfLock (b : Bool)
  /-- EMERGENCY_TAKEOVER: At the next zero crossing after the ACTIVE unit's loss of lock, the STANDBY unit becomes ACTIVE and SYN_SWAP with EMERGENCY is posted. (R31) -/
  | emergencyTakeover (step cycles : Nat)
  /-- SYN_TEMP_CHECK: Every 10 ms the die temperature is compared with the ACTIVE unit's calibration temperature and may trigger a calibration. (R34) -/
  | synTempCheck
  /-- REFCLK_LOSS: REFCLK is found absent; both units go OFF, fields are removed and transmit commands are held. (R567) -/
  | refclkLoss
  /-- REFCLK_RETURN: REFCLK returns after an absence and a cold start of both synthesisers begins. (R36) -/
  | refclkReturn
  /-- SYN_TRIM_WRITE: A write to SYN_TRIM is taken within the trim window, or discarded with TRIM_REFUSED set. (R41) -/
  | synTrimWrite (v : Word)
  /-- TRIM_APPLY: A new trim takes effect on both synthesisers at the next carrier zero crossing with continuous phase. (R40) -/
  | trimApply
  /-- PHASE_OFS_USER_WRITE: A write to CH_PHASE_OFS.USER takes effect at the channel's next carrier zero crossing. (R44) -/
  | phaseOfsUserWrite (ch : Fin 192) (v : Word)
  /-- TIME_LOAD: A write of 1 to TIME_CTL.LOAD copies TIME_SET into TIME_NOW at the next 1 MHz tick and clears TIME_LOCK and HOST_LOCK. (R53) -/
  | timeLoad
  /-- TIME_NOW_NS_READ: A read of TIME_NOW_NS latches the seconds of the same instant into the path's shadow. (R54) -/
  | timeNowNsRead (kiosk : Bool)
  /-- TIME_NEXT_SL_WRITE: A write of TIME_NEXT_SL marks the seconds of the coming PPS edge as written. (R691) -/
  | timeNextSlWrite (v : Word)
  /-- PPS_EDGE: An active TIME_PPS edge records TIME_PPS_OFS and steps or slews TIME_NOW and updates TIME_RATE and TIME_LOCK. (R55) -/
  | ppsEdge (rising : Bool) (q : Fin 4)
  /-- PPS_MISSING: No edge arrives within ±100 µs of the expected second; HOLDOVER and PPS_MISSING are set. (R58) -/
  | ppsMissing
  /-- HOLDOVER_EXPIRY: HOLDOVER_MAX seconds of holdover pass and TIME_LOCK is cleared. (R58) -/
  | holdoverExpiry
  /-- TRELLIS_MARGIN_UPDATE: Every 18.88 µs the speed margin is measured, MARGIN updated and the fabric capture capacity recomputed. (R50) -/
  | trellisMarginUpdate (margin : Int)
  /-- DIE_TEMP_CONVERSION: Both temperature sensors convert every 1 ms and PWR_TEMP.DIE, TEMP_WARN and fold-back are updated. (R598) -/
  | dieTempConversion (a b : Int)
  /-- CAL_TEMP_UPDATE: Every 10 ms the calibration engine reads the die temperature and forms the interpolated calibration quantities again. (R546) -/
  | calTempUpdate
  /-- DRIP_STEP: Drip applies a bounded step of a pending transmit-side correction to a running field. (R548) -/
  | dripStep (ch : Fin 192)
  /-- TRANSACTION_ADMISSION: A waiting transaction is tried against the power check, the impossible-duration checks and the four permissions, and is admitted, refused or left waiting. (R344) -/
  | transactionAdmission (ch : Fin 192)
  /-- FIELD_START: After COEX_REQ has been high for the lead time the field starts its ramp-up. (R343) -/
  | fieldStart (ch : Fin 192)
  /-- DEVICE_FRAME_START: The guard timer expires and the staged device frame starts on the air. (R238) -/
  | deviceFrameStart (ch : Fin 192)
  /-- DEVICE_FRAME_END: A device frame ends and its response window is scheduled to open. (R242) -/
  | deviceFrameEnd (ch : Fin 192)
  /-- SOF_DETECTED: The framer declares a tag start of frame inside the response window. (R155) -/
  | sofDetected (ch : Fin 192) (taps : List TapFacts) (x : SofFacts)
  /-- FALSE_SOF: A coding violation in the first two bit periods discards the start of frame and the search resumes. (R156) -/
  | falseSof (ch : Fin 192) (per : Nat)
  /-- CAPTURE_STEP: An in-band energy step during a frame makes the framer abandon it and open a capture window. (R167) -/
  | captureStep (ch : Fin 192) (x : StepFacts)
  /-- CAPTURE_WINDOW_CLOSE: The capture window closes without a start of frame and the exchange completes with COLLISION. (R170) -/
  | captureWindowClose (ch : Fin 192) (en : List Nat)
  /-- TAG_FRAME_RECEIVED: A tag frame reaches its end edge and is checked and given one status. (R173) -/
  | tagFrameReceived (ch : Fin 192) (w : RxWire)
  /-- RESPONSE_WINDOW_CLOSE: The response window closes with no start of frame and the exchange completes with NO_RESPONSE. (R154) -/
  | responseWindowClose (ch : Fin 192) (floor : Nat)
  /-- FIELD_RAMP_DOWN_END: A field's ramp-down ends; the transaction ends, its reservation is removed and the parking load reconnects. (R85) -/
  | fieldRampDownEnd (ch : Fin 192)
  /-- POWER_WINDOW_END: A 64 Tc window of the common grid ends; power, credit, tokens, return loss and the limiter are updated. (R719) -/
  | powerWindowEnd (l : List WinFacts) (vdrv : List (Fin 256))
  /-- DUTY_SLICE_END: A 1 ms accounting slice ends and the field-on time over the last second is updated. (R352) -/
  | dutySliceEnd
  /-- CHAIN_FAULT: An enable chain's read-back differs for more than 16 Tc; CHAIN_FAULT is set and the field cut hard. (R91) -/
  | chainFault (ch : Fin 192)
  /-- PWR_LIM_WRITE: A write to CH_PWR_LIM before the lock changes the loop ceiling at once, admission next and the limiter from the next window. (R97) -/
  | pwrLimWrite (ch : Fin 192) (v : Word)
  /-- TUNE_WRITE: A write to CH_TUNE clears AUTO and applies now or, with the field up, when its ramp-down ends. (R98) -/
  | tuneWrite (ch : Fin 192) (v : Word)
  /-- GATE_CLOSING: An arbour's gate closes; fields admitted against it end and their exchanges complete with GATE_CUT. (R86) -/
  | gateClosing (arb : Fin 24) (fallback : Bool)
  /-- GATE_ENTRY_BOUNDARY: An operational gate entry or cycle begins and waiting transactions are tried again. (R360) -/
  | gateEntryBoundary (pav : Fin 6)
  /-- GATE_CHANGE: A write of 1 to PAV_GATE_CTL.CHANGE checks the admin list and makes it pending with a change time. (R362) -/
  | gateChange (pav : Fin 6) (v : Word)
  /-- GATE_CANCEL: A write of 1 to PAV_GATE_CTL.CANCEL drops the pending list. (R363) -/
  | gateCancel (pav : Fin 6) (v : Word)
  /-- GATE_LIST_SWITCH: At the change time the pending list becomes the operational list and fields it closes end with GATE_CUT. (R364) -/
  | gateListSwitch (pav : Fin 6)
  /-- GATE_ENABLE: A write setting PAV_GATE_CTL.EN from 0 to 1 counts as a pending change, and clearing it opens every arbour. (R720) -/
  | gateEnable (pav : Fin 6) (v : Word)
  /-- GATE_ENABLE_EFFECT: 100 µs after enabling, gate control takes effect and closed fields end with GATE_CUT. (R720) -/
  | gateEnableEffect (pav : Fin 6)
  /-- FALLBACK_PERIOD_START: A fallback period starts, opening the masked arbours and applying pending fallback writes. (R366) -/
  | fallbackPeriodStart (pav : Fin 6)
  /-- OPER_LIST_TAKEOVER: After TIME_LOCK returns, the operational list takes over at its next cycle start. (R368) -/
  | operListTakeover (pav : Fin 6)
  /-- GATE_FB_WRITE: A write to a PAV_GATE_FB register is range-checked and takes effect at the next fallback period start. (R369) -/
  | gateFbWrite (pav : Fin 6) (which : Fin 3) (v : Word)
  /-- BKT_WRITE: A write to PAV_BKT_RATE or PAV_BKT_DEPTH is taken or discarded against BUDGET, clamping TOKENS. (R357) -/
  | bktWrite (pav : Fin 6) (depth : Bool) (v : Word)
  /-- BUDGET_WRITE: BUDGET is written or loaded and DEPTH then RATE are lowered to satisfy it. (R357) -/
  | budgetWrite (pav : Fin 6) (v : Word)
  /-- SHP_WRITE: A write to a credit shaper register keeps the clamped credit and applies from the next window. (R354) -/
  | shpWrite (ch : Fin 192) (which : Fin 3) (v : Word)
  /-- COEX_GNT_FALL: COEX_GNT_Pn has been low for 1 µs; up fields take the fast ramp-down with COEX_REVOKED and admitted transactions return to waiting. (R373) -/
  | coexGntFall (pav : Fin 6)
  /-- COEX_GNT_RISE: COEX_GNT_Pn rises and waiting transactions are tried again. (R347) -/
  | coexGntRise (pav : Fin 6)
  /-- COEX_EN_WRITE: A write of 1 to PAV_COEX.EN while the grant is low acts as a fall of the grant. (R375) -/
  | coexEnWrite (pav : Fin 6) (v : Word)
  /-- VDRV_DIP: VDRV_Pn falls below warning; fields ramp down with SUPPLY_DIP, chain B is withheld and SUPPLY_WARN is posted. (R595) -/
  | vdrvDip (pav : Fin 6) (meas : Fin 256)
  /-- VDRV_RETURN: VDRV_Pn has stayed above 92 % of NOM for 200 µs; chain B returns and programs start new cycles. (R595) -/
  | vdrvReturn (pav : Fin 6) (meas : Fin 256)
  /-- VDRV_NOM_WRITE: A write to PAV_VDRV.NOM moves the thresholds at once, and a write of 0 ends a dip. (R595) -/
  | vdrvNomWrite (pav : Fin 6) (v : Word)
  /-- CORE_WARN: VDD_CORE falls below warning; CORE_WARN is set and SUPPLY_WARN posted. (R592) -/
  | coreWarn (mv : Fin 1024)
  /-- CORE_WARN_RELEASE: VDD_CORE rises to its release level and a SUPPLY_WARN with byte 17 at 0 is posted. (R592) -/
  | coreWarnRelease (mv : Fin 1024)
  /-- FIR_SWITCH: A write of 1 to CH_RX_FIR.SWITCH starts a cross-fade to the other bank, or defers it to the frame end. (R117) -/
  | firSwitch (ch : Fin 192)
  /-- FIR_FADE_END: The cross-fade completes N samples later, ACTIVE changes and FADING clears. (R117) -/
  | firFadeEnd (ch : Fin 192)
  /-- COEF_WRITE: A write to an FIR coefficient is taken, or discarded with WR_REFUSED if the bank is active or fading. (R116) -/
  | coefWrite (ch : Fin 192) (bankB : Bool) (k : Fin 32) (v : Word)
  /-- AGC_MODE_WRITE: A write of CH_RX_AGC.MODE moves the AGC into MANUAL or back to TRACK. (R131) -/
  | agcModeWrite (ch : Fin 192) (v : Word)
  /-- AGC_HOLD_RELEASE: 8 Tc after the device frame's last modulation edge the AGC returns from HOLD_TX to TRACK. (R131) -/
  | agcHoldRelease (ch : Fin 192)
  /-- AGC_OVERLOAD: Four consecutive full-scale samples in TRACK lower the gain by 12 dB. (R132) -/
  | agcOverload (ch : Fin 192)
  /-- EST_F_AMP_READ: A read of CH_RX_EST_F_AMP latches the fine phase into the path's shadow. (R128) -/
  | estFAmpRead (ch : Fin 192) (kiosk : Bool)
  /-- PILOT_BATCH: A batch of due pilot probes starts under one admission when no descriptor waits on its channels. (R184) -/
  | pilotBatch (arb : Fin 24) (cols : Fin 256)
  /-- PRIORITY_PROBE: A probe of a column older than twice PERIOD runs alone in the next gap, ahead of waiting descriptors. (R185) -/
  | priorityProbe (arb : Fin 24) (col : Fin 8)
  /-- PILOT_PROBE_END: A pilot probe ends and its measured entries are blended into, or replace, the coupling matrix. (R187) -/
  | pilotProbeEnd (arb : Fin 24) (meas : List (Nat × Int × Int)) (cup : Nat × Nat)
  /-- COLUMN_STALE: A column's age exceeds STALE and its stale bit is set. (R188) -/
  | columnStale (arb : Fin 24) (col : Fin 8)
  /-- ARB_CM_WRITE: A write to ARB_CM or a seam register sets a valid entry of age 0, or is discarded while PILOT_EN = 1. (R190) -/
  | arbCmWrite (arb : Fin 24) (which : Fin 3) (ix : Fin 64) (v : Word)
  /-- FG_WEIGHT_WRITE: A write of a transmit weight is taken, or refused when its magnitude exceeds 511/512. (R196) -/
  | fgWeightWrite (arb : Fin 24) (g : Fin 4) (k : Fin 8) (v : Word)
  /-- POLL_CYCLE_DUE: A bound channel's program cycle falls due and starts, or is skipped if the previous one has not ended. (R251) -/
  | pollCycleDue (pav : Fin 6) (slot : Fin 16)
  /-- STAGGER_PHASE_START: A stagger phase starts once every transaction of the previous phase has ended. (R251) -/
  | staggerPhaseStart (pav : Fin 6) (slot : Fin 16)
  /-- HOST_WAIT_EXPIRY: No ISO-DEP descriptor arrives within PAV_SEQ_HOST.WAIT; the tag is deselected and HOST_TIMEOUT posted. (R274) -/
  | hostWaitExpiry (ch : Fin 192)
  /-- BLV_SWEEP_START: A Belvedere sweep of the pavilion starts every PERIOD, raising COEX_REQ once. (R280) -/
  | blvSweepStart (pav : Fin 6)
  /-- BLV_PROBE_STEP: A sweep's probe step measures tap k of each arbour and compares the result with the baseline. (R283) -/
  | blvProbeStep (pav : Fin 6) (meas : List (Nat × Nat))
  /-- BLV_ADOPT: A write of 1 to CH_BLV_CMD.ADOPT makes the next probe the baseline and clears DET. (R285) -/
  | blvAdopt (ch : Fin 192)
  /-- LISTEN_FIELD_PRESENT: A LISTEN channel's amplitude stays at or above ON for 32 Tc and the listener enters IDLE. (R289) -/
  | listenFieldPresent (ch : Fin 192) (amps : List Nat) (freq : Int)
  /-- LISTEN_FIELD_ABSENT: A LISTEN channel's amplitude stays below OFF for 32 Tc; the listener enters OFF and its session ends. (R289) -/
  | listenFieldAbsent (ch : Fin 192) (amps : List Nat)
  /-- LSN_FD_WRITE: A write to CH_LSN_FD that would leave OFF at or above ON is discarded whole. (R289) -/
  | lsnFdWrite (ch : Fin 192) (v : Word)
  /-- READER_FRAME_RECEIVED: A reader frame reaches a LISTEN channel and moves the listener through the ISO/IEC 14443-3 and -4 states. (R294) -/
  | readerFrameReceived (ch : Fin 192) (x : ReaderRaw)
  /-- LISTEN_ANSWER_SEND: A staged listen answer is sent by load modulation at its grid point. (R297) -/
  | listenAnswerSend (ch : Fin 192)
  /-- LISTEN_WTX_TIMER: The extension timer fires at 80 % of the wait with no response staged and S(WTX) is sent. (R307) -/
  | listenWtxTimer (ch : Fin 192)
  /-- LISTEN_HOST_CAP_EXPIRY: The host answer cap passes; the error status word is sent and HOST_TIMEOUT posted. (R309) -/
  | listenHostCapExpiry (ch : Fin 192)
  /-- TAGMEM_COMMIT: A staged host write to a tag image is committed indivisibly when no field command is being answered. (R312) -/
  | tagmemCommit (image : Fin 64)
  /-- EH_WAKE_RISE: EH_WAKE rises; with WAKE_EN it wakes the device from SLEEP and sets WAKE_SEEN. (R320) -/
  | ehWakeRise (ticks : Nat)
  /-- SET_ROLE_EFFECT: A pending SET_ROLE takes effect once the channel has no transaction in progress, advancing the generation. (R326) -/
  | setRoleEffect (ch : Fin 192)
  /-- CAL_BORROW_START: The calibration engine borrows its channels once they are free and starts a procedure. (R336) -/
  | calBorrowStart (target : Nat)
  /-- STARTUP_CAL_START: A pavilion's start-up calibration begins once it is ACTIVE, RUNNING, with a synthesiser ACTIVE and NOM set. (R532) -/
  | startupCalStart (pav : Fin 6)
  /-- CAL_PROCEDURE_END: A calibration procedure completes, applies its results, ends the borrow and posts CAL_DONE and its completion. (R527) -/
  | calProcedureEnd (target : Nat) (f : CalFacts)
  /-- MIRROR_EXPORT: A write of 1 to CAL_MIRROR_CTL.EXPORT writes every valid calibration record to the flash mirror. (R555) -/
  | mirrorExport
  /-- MIRROR_IMPORT: A write of 1 to CAL_MIRROR_CTL.IMPORT reads the mirror and takes newer or missing records. (R555) -/
  | mirrorImport
  /-- MIRROR_DONE: A mirror operation ends and BUSY clears. (R555) -/
  | mirrorDone (ok : Bool) (status : Fin 256) (image : List Byte)
  /-- COMMAND_DOORBELL: A command-ring doorbell write sets TAIL or is ignored with DB_ERR. (R394) -/
  | commandDoorbell (ring : Fin 32) (v : Word)
  /-- EVENT_DOORBELL: An event-ring doorbell write returns entries to the device or is ignored with DB_ERR. (R390) -/
  | eventDoorbell (evq : Fin 32) (v : Word)
  /-- RING_CFG_WRITE: A write of HIF_RING_CFG enables or disables a ring and resets its pointers and phase. (R387) -/
  | ringCfgWrite (ring : Fin 64) (v : Word)
  /-- DESCRIPTOR_TAKE_UP: The device takes up a descriptor and runs the policer, check word, authentication, generation and parameter checks. (R400) -/
  | descriptorTakeUp (ring : Fin 32) (slot ext input : List Byte) (nvmOk : Bool)
  /-- DESCRIPTOR_FETCH_ERROR: A descriptor read fails and the ring stops taking up with FETCH_ERR set. (R397) -/
  | descriptorFetchError (ring : Fin 32)
  /-- DESCRIPTOR_START: A descriptor reaches the head of its target queue and starts after the generation check. (R334) -/
  | descriptorStart (target : Nat)
  /-- DEADLINE_EXPIRY: Network time reaches the deadline of a held or waiting descriptor, which completes with LATE. (R403) -/
  | deadlineExpiry (target : Nat)
  /-- EVENT_POST: The head entry of an outbound queue is written to its event ring once the ring has room. (R427) -/
  | eventPost (source : Nat)
  /-- MSIX_MOD_TIMER: HIF_RING_MOD.TIME passes since the oldest unsignalled entry and the ring's vector fires. (R422) -/
  | msixModTimer (evq : Fin 32)
  /-- MSIX_UNMASK: A masked vector with its pending bit set is unmasked and sent once. (R424) -/
  | msixUnmask (vec : Fin 72)
  /-- NOP: The NOP descriptor completes with no action. (R407) -/
  | nop (target : Nat)
  /-- EXCHANGE: An EXCHANGE descriptor sends one device frame and receives the response, opening or continuing a transaction. (R408) -/
  | exchange (ch : Fin 192)
  /-- ISODEP_EXCHANGE: An ISODEP_EXCHANGE carries the APDU of a session held at a HOST step. (R409) -/
  | isodepExchange (ch : Fin 192)
  /-- LISTEN_RESPOND: A LISTEN_RESPOND carries the host's response APDU for a forwarded command. (R306) -/
  | listenRespond (ch : Fin 192)
  /-- TAG_OP: A TAG_OP runs a Type 2, 4 or 5 tag helper within a transaction. (R270) -/
  | tagOp (ch : Fin 192)
  /-- PROG_LOAD: A PROG_LOAD checks a poll program image and loads it into a slot. (R246) -/
  | progLoad (pav : Fin 6)
  /-- PROG_START: A PROG_START binds every channel of the mask to a program. (R247) -/
  | progStart (pav : Fin 6)
  /-- PROG_STOP: A PROG_STOP lets exchanges finish and cancels cycles still waiting for admission. (R278) -/
  | progStop (pav : Fin 6)
  /-- SCRIPT_LOAD: A SCRIPT_LOAD checks an APDU script image and loads it into a slot. (R271) -/
  | scriptLoad (pav : Fin 6)
  /-- RUN_CYCLE: A RUN_CYCLE runs one cycle of a program on a channel now. (R407) -/
  | runCycle (ch : Fin 192)
  /-- SET_ROLE: A SET_ROLE changes a channel's role once it is free, advancing its generation. (R327) -/
  | setRole (ch : Fin 192)
  /-- SESSION_QUERY: A SESSION_QUERY copies one session context's 512 bytes to host memory. (R332) -/
  | sessionQuery
  /-- CANCEL: A CANCEL completes with CANCELLED the target's queued descriptors from the named rings. (R411) -/
  | cancel (target : Nat) (ringMask : Word) (program : Bool)
  /-- CAPTURE_START: A CAPTURE_START opens a capture stream into a circular host buffer once it fits. (R439) -/
  | captureStart (ch : Fin 192)
  /-- CAPTURE_STOP: A CAPTURE_STOP ends the channel's stream and completes OK. (R440) -/
  | captureStop (ch : Fin 192)
  /-- CAPTURE_STREAM_START: A stream begins at the first sample at or after START. (R440) -/
  | captureStreamStart (ch : Fin 192)
  /-- CAPTURE_WRITE: Capture samples are written to host memory through the write arbiters. (R443) -/
  | captureWrite (ch : Fin 192) (x : List (Int × Int)) (k : Nat)
  /-- CAPTURE_GAP: Before writing the first sample after a suspension, CAPTURE_GAP is posted. (R445) -/
  | captureGap (ch : Fin 192)
  /-- ELASTIC_BUFFER_FULL: The channel's elastic buffer fills and its stream is suspended. (R446) -/
  | elasticBufferFull (ch : Fin 192)
  /-- ELASTIC_BUFFER_RESUME: The elastic buffer falls to 8 KiB and the stream resumes. (R446) -/
  | elasticBufferResume (ch : Fin 192)
  /-- CAPTURE_STREAM_END: A stream's last sample is written and the CAPTURE_START's completion is posted. (R441) -/
  | captureStreamEnd (ch : Fin 192)
  /-- TAGMEM_ALLOC: A TAGMEM_ALLOC allocates 1 to 8 pages to a tag image. (R310) -/
  | tagmemAlloc
  /-- TAGMEM_FREE: A TAGMEM_FREE frees a tag image's pages unless it is bound to a LISTEN channel. (R310) -/
  | tagmemFree
  /-- TAGMEM_WRITE: A TAGMEM_WRITE stages bytes in shadow pages for commit. (R311) -/
  | tagmemWrite (target : Nat)
  /-- TAGMEM_READ: A TAGMEM_READ returns one committed version of an image. (R314) -/
  | tagmemRead (target : Nat)
  /-- TAGMEM_SAVE: A TAGMEM_SAVE writes a persistent image to on-die NVM. (R316) -/
  | tagmemSave
  /-- TAGMEM_BIND: A TAGMEM_BIND binds or unbinds a tag image to a channel after checking its CC. (R303) -/
  | tagmemBind (ch : Fin 192)
  /-- LISTEN_ARM: A LISTEN_ARM provides the forwarded-APDU buffer and completes OK at once. (R410) -/
  | listenArm (ch : Fin 192)
  /-- SYNCAL: A SYNCAL descriptor requests a synthesiser calibration, merged or refused as the state requires. (R722) -/
  | syncal
  /-- CAL: A CAL descriptor requests an on-request channel, arbour coupling or reference calibration. (R523) -/
  | cal (target : Nat)
  /-- LEDGER_ATTACH: A LEDGER_ATTACH attaches a ledger window and empties the cache. (R454) -/
  | ledgerAttach
  /-- LEDGER_DETACH: A LEDGER_DETACH leaves no ledger attached and empties the cache. (R456) -/
  | ledgerDetach
  /-- LEDGER_INVALIDATE: A LEDGER_INVALIDATE removes cached copies of a range of indices. (R465) -/
  | ledgerInvalidate
  /-- LEDGER_CONFIRM: A LEDGER_CONFIRM gives the host's verdict on a pending decision. (R476) -/
  | ledgerConfirm (ch : Fin 192)
  /-- ATTEST: An ATTEST writes a 4,936-byte signed attestation report. (R513) -/
  | attest
  /-- KEY_MANAGE: A KEY_MANAGE installs or erases a key, writes or revokes a root, or raises the minimum version. (R486) -/
  | keyManage
  /-- LIFECYCLE: A LIFECYCLE descriptor with valid tokens records, wipes and fuses a life-cycle transition. (R506) -/
  | lifecycle (eraseOk : Bool)
  /-- LIFECYCLE_RESET: 1 ms after a transition's completion is posted, the internal reset is performed. (R506) -/
  | lifecycleReset
  /-- REG_LOCK: A REG_LOCK writes the regulatory record to NVM and sets the regulatory lock. (R512) -/
  | regLock
  /-- SEALED_WRITE: A SEALED_WRITE read-modify-writes a sealed register indivisibly. (R511) -/
  | sealedWrite
  /-- LEDGER_READ_DONE: A ledger window read completes; the entry is verified and the rule is evaluated. (R462) -/
  | ledgerReadDone (data : List Byte)
  /-- LEDGER_READ_TIMEOUT: A window read is incomplete after 10 ms or errs, and the lookup is not found. (R464) -/
  | ledgerReadTimeout
  /-- GRANT_PULSE_END: The grant pulse width expires and both GRANT lines return low. (R472) -/
  | grantPulseEnd (arb : Fin 24)
  /-- GRANT_READBACK_FAULT: A GRANT line differs from its command for 10 µs; both go low and ARB_GRANT.FAULT is set. (R474) -/
  | grantReadbackFault (arb : Fin 24)
  /-- CONFIRM_EXPIRY: A pending decision's lifetime passes and it moves to the expired list. (R475) -/
  | confirmExpiry
  /-- REBOOT: A write of 0x5EC0 to SEC_BOOT_CTL.REBOOT performs an internal reset. (R494) -/
  | reboot
  /-- DEBUG_TOKEN_EXPIRY: A debug token's duration ends and the debug level returns to the state's level. (R515) -/
  | debugTokenExpiry
  /-- DEBUG_HALT: A JTAG halt of a sequencer takes effect once no transaction of its pavilion is in progress. (R518) -/
  | debugHalt (unit : Fin 7)
  /-- FAULT_DETECTION: A monitor detects a fault; it reacts by its class and the fault is recorded and reported. (R571) -/
  | faultDetection (code kind ix : Nat) (item : FaultItem) (value : Word)
  /-- SCRUB_PASS: ECC scrubbing reads and corrects every control memory word once per 100 ms. (R568) -/
  | scrubPass
  /-- SELF_TEST: A periodic self-test exercises a monitor's checker and reports a failure as 0x0040. (R574) -/
  | selfTest (code kind ix : Nat) (pass : Bool)
  /-- MICROCODE_RELOAD_DONE: A sequencer microcode reload after a fault completes or fails. (R573) -/
  | microcodeReloadDone (pav : Fin 6) (sec : Option (List Byte))
  /-- FAULT_INJECT: A write to FLT_INJECT starts the reaction of a named monitor on a named scope. (R578) -/
  | faultInject (v : Word)
  /-- ISOLATION_CLEAR: A write of 1 to FLT_ISO_CH or FLT_ISO_PAV ends isolation of a channel or pavilion. (R566) -/
  | isolationClear (ofPav : Bool) (pav : Fin 6) (v : Word)
  /-- PAV_STATE_REQUEST: A write of PWR_PAV.REQ asks for a pavilion state change. (R582) -/
  | pavStateRequest (pav : Fin 6) (v : Word)
  /-- PAV_STATE_CHANGE_DONE: A pavilion state change completes after its quiet condition and transition time. (R583) -/
  | pavStateChangeDone (pav : Fin 6)
  /-- PAV_WAKE: A DETECT or a held descriptor with AUTO brings a WATCH or OFF pavilion temporarily to ACTIVE. (R585) -/
  | pavWake (pav : Fin 6)
  /-- PAV_IDLE_EXPIRY: A temporarily ACTIVE pavilion has been quiet for IDLE ms and returns to REQ. (R585) -/
  | pavIdleExpiry (pav : Fin 6)
  /-- SLEEP_REQUEST: A write of 0x5EE0 to PWR_CTL.SLEEP asks for SLEEP. (R588) -/
  | sleepRequest
  /-- SLEEP_ENTRY: Once quiet, the device cancels queued descriptors, saves timers and powers off all but PD0. (R588) -/
  | sleepEntry
  /-- WAKE_TIMER_EXPIRY: The LDG wake timer expires and the device wakes from SLEEP through the boot. (R589) -/
  | wakeTimerExpiry
  /-- KSK_READ_SLOW: A Kiosk READ_SLOW frame reads register words in ascending order. (R631) -/
  | kskReadSlow (mode : Bool) (addr : BitVec 24) (cycles : Nat)
  /-- KSK_READ: A Kiosk READ frame reads register words with 8 dummy cycles. (R631) -/
  | kskRead (mode : Bool) (addr : BitVec 24) (cycles : Nat)
  /-- KSK_READ_FAST: A Kiosk READ_FAST frame reads register words with 16 dummy cycles. (R631) -/
  | kskReadFast (mode : Bool) (addr : BitVec 24) (cycles : Nat)
  /-- KSK_WRITE: A Kiosk WRITE frame is staged and its words applied in order at the select release. (R632) -/
  | kskWrite (mode : Bool) (addr : BitVec 24) (cycles : Nat) (data : List Byte)
  /-- KSK_SEALED_WRITE: A Kiosk SEALED_WRITE frame is checked by Gatehouse and applied to a sealed register. (R638) -/
  | kskSealedWrite (mode : Bool) (addr : BitVec 24) (cycles : Nat) (data : List Byte) (nvmOk : Bool)
  /-- KSK_STATUS: A Kiosk STATUS frame shifts out the status byte repeatedly. (R636) -/
  | kskStatus (mode : Bool) (cycles : Nat)
  /-- FLS_READ: FLS_CTL.OP READ reads up to 256 flash bytes into FLS_BUF. (R646) -/
  | flsRead (v : Word)
  /-- FLS_PROGRAM: FLS_CTL.OP PROGRAM programs up to 256 bytes within one page. (R643) -/
  | flsProgram (v : Word)
  /-- FLS_ERASE_4K: FLS_CTL.OP ERASE_4K erases one 4 KiB sector. (R643) -/
  | flsErase4k (v : Word)
  /-- FLS_ERASE_64K: FLS_CTL.OP ERASE_64K erases one 64 KiB block. (R643) -/
  | flsErase64k (v : Word)
  /-- FLS_ERASE_CHIP: FLS_CTL.OP ERASE_CHIP erases a chip other than chip select 0. (R645) -/
  | flsEraseChip (v : Word)
  /-- FLS_READ_ID: FLS_CTL.OP READ_ID reads 3 identification bytes into FLS_BUF. (R646) -/
  | flsReadId (v : Word)
  /-- FLASH_OP_DONE: A flash operation ends, setting DONE and possibly ERR. (R646) -/
  | flashOpDone (status : Fin 256) (data : List Byte)
  /-- FLASH_OP_TIMEOUT: A status poll exceeds its FLS_TMO limit and the operation ends with cause 3. (R643) -/
  | flashOpTimeout
  /-- XIP_READ: A Gatehouse read of the execute-in-place window reads the mapped chip. (R642) -/
  | xipRead (ofs len : Nat)
  /-- XIP_WRITE: A Gatehouse write to the window is translated into a flash program. (R643) -/
  | xipWrite (ofs : Nat) (data : List Byte)
  /-- TIMER_ENABLE: TMR_CTL.EN going to 1 clears the accumulator and starts counting. (R653) -/
  | timerEnable (t : Fin 16) (v : Word)
  /-- TIMER_WRAP: A timer's count wraps to 0 after PERIOD, setting PERIOD_EV and applying preloaded values. (R652) -/
  | timerWrap (t : Fin 16)
  /-- TIMER_COMPARE_MATCH: A timer's count reaches TMR_CMP and CMP_EV is set. (R654) -/
  | timerCompareMatch (t : Fin 16)
  /-- TIMER_PERIOD_WRITE: A write to TMR_PERIOD or TMR_CMP takes effect at the next tick or is held for the wrap. (R655) -/
  | timerPeriodWrite (t : Fin 16) (isCmp : Bool) (v : Word)
  /-- TIMER_CAPTURE: A capture trigger copies the count and its network time into the capture registers. (R656) -/
  | timerCapture (t : Fin 16) (q : Fin 4)
  /-- CAP_SW: A write of 1 to TMR_CTL.CAP_SW captures at once. (R657) -/
  | capSw (t : Fin 16)
  /-- TMR_CAP_READ: A read of TMR_CAP clears CAP_NEW and latches the capture time. (R657) -/
  | tmrCapRead (t : Fin 16) (kiosk : Bool)
  /-- SC_CLEAR: A write of 1 to TMR_SC_SEL.CLR zeroes a statistic counter and its overflow bit. (R662) -/
  | scClear (j : Fin 8)
  /-- PRM_FRAME_SEND: At each Promenade frame start, a port sends the highest-ranked message that is due. (R669) -/
  | prmFrameSend (up : Bool) (sub : Nat) (phase : Fin 65536) (probe : Option (Nat × Nat))
  /-- PRM_LANE_UP: A receiver finds the sync word and seed and its lane comes up. (R667) -/
  | prmLaneUp (up : Bool) (one two : List Bool)
  /-- PRM_LANE_DOWN: A lane goes down after missing syncs or failing CRCs; remote seams become invalid. (R668) -/
  | prmLaneDown (up : Bool)
  /-- POSITION_TIMEOUT: No UP lane is up within 5 ms of configuration-ready and the device takes position 0. (R670) -/
  | positionTimeout
  /-- PRM_FAULT: A received FAULT message is forwarded and posted as a remote fault. (R577) -/
  | prmFault (up : Bool) (w : List Bool)
  /-- PRM_PROBE: A received PROBE proposes a seam probe slot, answered by PROBE_ACK. (R677) -/
  | prmProbe (up : Bool) (w : List Bool)
  /-- PRM_PROBE_ACK: A received PROBE_ACK agrees or declines a seam probe slot. (R677) -/
  | prmProbeAck (up : Bool) (w : List Bool)
  /-- SEAM_PROBE_SLOT: An agreed slot arrives and the edge-coil probe runs with the remote taps taking part. (R677) -/
  | seamProbeSlot (up : Bool) (coil : Fin 192) (meas : List (Nat × Int × Int))
  /-- PRM_DELAY_REQ: A received DELAY_REQ is answered with DELAY_RESP carrying t2 and t3. (R672) -/
  | prmDelayReq (w : List Bool) (sub : Nat)
  /-- PRM_DELAY_RESP: A received DELAY_RESP yields a hop delay measurement. (R672) -/
  | prmDelayResp (w : List Bool) (sub : Nat)
  /-- PRM_EPOCH: A received EPOCH is forwarded, recorded and sets the change time of following pending lists. (R681) -/
  | prmEpoch (w : List Bool)
  /-- PRM_TIME: A received TIME message disciplines TIME_NOW with SOURCE = 2. (R673) -/
  | prmTime (w : List Bool) (sub : Nat)
  /-- PRM_PHASE: A received PHASE message yields a phase error and steers the carrier phase. (R678) -/
  | prmPhase (w : List Bool) (own : Fin 65536) (coh swapped : Bool)
  /-- PRM_SEAM_A: A received SEAM_A stores the remote seam entries 0 to 6. (R676) -/
  | prmSeamA (up : Bool) (w : List Bool)
  /-- PRM_SEAM_B: A received SEAM_B stores seam entry 7, the edge coupling and the magnitude flag. (R676) -/
  | prmSeamB (up : Bool) (w : List Bool)
  /-- PRM_HELLO: A received HELLO sets the position or flags a conflict and announces seam wishes. (R670) -/
  | prmHello (up : Bool) (w : List Bool) (peer : Bool)
  /-- PRM_IDLE: A received IDLE message carries nothing and is ignored. (R669) -/
  | prmIdle (up : Bool) (w : List Bool)
  /-- EPOCH_SEND: A write of 1 to PRM_EPOCH_CTL.SEND sends EPOCH on DN, or sets LATE if under 1 ms ahead. (R680) -/
  | epochSend (v : Word)
  /-- PAIR_LOW_READ: A read of an _L register latches its _H partner into the path's shadow. (R692) -/
  | pairLowRead (sp : Space) (addr : BitVec 20) (kiosk : Bool)
  /-- REGISTER_WRITE: A 32-bit write to a register with no row of its own applies field by field under the access types. (R687) -/
  | registerWrite (sp : Space) (addr : BitVec 20) (v : Word)
  /-- RESPONSE_WINDOW_OPEN: A response window opens at its time after the device frame's end edge, and the framer starts its start-of-frame search and noise-floor measurement. (R242) -/
  | responseWindowOpen (ch : Fin 192)
  /-- DECLARED_LENGTH_END: An EXCHANGE with HOLD_FIELD = 1 reaches the end of its declared length with no continuing EXCHANGE, and the field ramps down. (R408) -/
  | declaredLengthEnd (ch : Fin 192)
  /-- KSK_BAD_FRAME: A Kiosk frame whose command is not in R630, or whose select is released before its command byte is complete, is discarded with FRAME_ERR set. (R633) -/
  | kskBadFrame (mode : Bool) (cmd : Fin 256) (addr : BitVec 24) (cycles : Nat)
  /-- PRM_FRAME_CRC_FAIL: A received Promenade frame fails its CRC-32C; it is discarded and the port's CRC_ERR count and the selected statistic counters rise. (R668) -/
  | prmFrameCrcFail (up : Bool) (w : List Bool)
  /-- TIMER_TICK: A source tick of an enabled timer passes through the prescaler and may raise the count by one. (R652) -/
  | timerTick (t : Fin 16)
  /-- TMR_IN_EDGE: An edge on TMR_IN0 to TMR_IN3 is sampled and counted by the timers and statistic counters that select it. (R662) -/
  | tmrInEdge (pin : Fin 4) (rising : Bool) (q : Fin 4)
  /-- DEBUG_HALT_RELEASE: A JTAG halt of a sequencer or Trellis is released; the sequencer may start transactions again and frozen timers resume. (R518) -/
  | debugHaltRelease (unit : Fin 7)
  /-- EXTEST: A JTAG instruction that drives pins comes into force or leaves it, withholding or allowing chain B of every channel. (R517) -/
  | extest (on : Bool)
deriving DecidableEq, Repr

end Sys2Proof
end

