-- ==== Sys2Proof/Machine/State.lean ====
section
/-! DEFINITION. The machine's state, its reasons to stop, and the state after reset. -/

namespace Sys2Proof.Machine

/-- Reasons for a fault. No meaning of this block raises one: the manual gives every command an effect, a discard or a
status. -/
inductive Fault where
  /-- Raised by nobody; it stands here because the host's interface names the type. Safe. -/
  | never
deriving DecidableEq, Repr

/-- Reasons for a refusal. -/
inductive Refusal where
  /-- A command whose meaning this model does not hold yet; raised by the dispatch alone. Safe. -/
  | notModelled (mnemonic : String)
deriving DecidableEq, Repr

/-- The machine: the commands that wait, the persistent memory, and everything volatile. -/
structure State where
  /-- Commands waiting, first in, first out. -/
  pending : List Instr := []
  nv      : NonVol := {}
  dev     : Dev := {}
deriving DecidableEq, Repr

/-- Right after reset: power-on reset held (R601), every register at its reset value, a blank device in MANUFACTURE
(log entries 4 and 5), and no command waiting. -/
def State.reset : State := { dev := { pwr := { held := [0] } } }

end Sys2Proof.Machine
end

