-- ==== Sys2Proof/Decode.lean ====
section
/-! DEFINITION. Decoding of table words. The command table gives no row any bits (its `fields` are all empty), so no word
spells a command. -/

namespace Sys2Proof

/-- The command that a word spells by the table's bits: none, since the table gives no row bits. -/
def decodeTableWord (_nbits _w : Nat) : Option Instr := none

end Sys2Proof
end

