-- ==== Sys2Proof/Config.lean ====
section
/-! DEFINITION. What the manual leaves open: opaque constants without a body, so that no proof can see their values. -/

namespace Sys2Proof

/-- A FREE VALUE: an unconstrained number for the n-th open value that the machine draws. The counter that is its
argument stands in the state (`Dev.freeCtr`). Log entry 1. -/
opaque Config.freeNat : Nat → Nat

/-- Free bytes: an unconstrained byte string for the n-th open value. Log entry 1. -/
opaque Config.freeBytes : Nat → List Byte

/-- Whether a Falcon-1024 signature (third argument) by the public key (first) over the message (second) verifies
(R484, R492, R503). The manual cites the scheme and does not define it. Log entry 2. -/
opaque Config.falconVerify : List Byte → List Byte → List Byte → Bool

/-- The Falcon-1024 signature that the device makes with its attestation key over a message (R513). Log entry 2. -/
opaque Config.falconSign : List Byte → List Byte

/-- The very-high bit rates (bits 4 to 6) that an ATS or ATQB announces, device to tag (true) or tag to device: the extension of
ISO/IEC 14443-4 that the manual cites and does not lay out (R263). Log entry 20. -/
opaque Config.vhbrRates : List Byte → Bool → Nat

/-- The bytes that select very-high bit rates in PPS or ATTRIB (R263). Log entry 20. -/
opaque Config.vhbrSelect : Nat → Nat → List Byte

/-- The identity public key, 1,793 bytes (R485). Log entry 28. -/
opaque Config.idPublic : List Byte

/-- Luanoc's signature in the identity certificate, and the vendor root that signed it (R485, R513). Log entry 28. -/
opaque Config.certSig : List Byte
opaque Config.certKeyIndex : Nat

/-- The bytes of a regulatory record with the given contents and lock (R512): the manual gives no layout. Log entry 28. -/
opaque Config.regRecord : List (Nat × Nat) → Bool → List Byte

/-- The output of the combiner's 8-point interpolator, from the delay in sixteenths of a sample and its input samples, the newest first:
the manual gives no coefficients (R205). Log entry 8. -/
opaque Config.interp : Nat → List (Rat × Rat) → Rat × Rat

/-- The factor, as numerator and denominator, that corrects a tap weight for its tap's calibrated PGA gain, given in 0.001 dB: the manual
does not state it (R209). Log entry 8. -/
opaque Config.tapCorr : Int → Nat × Nat

/-- The subcarrier of some carrier cycles a cycle at a sample of the correlator (R211). Log entry 62. -/
opaque Config.subOsc : Nat → Nat → Rat × Rat

/-- The argument of a complex number (real part, imaginary part) in units of 1/65,536 turn, where the manual rounds an
angle without stating the arithmetic (R127, R208). Log entry 3. -/
opaque Config.argTurn : Int → Int → Nat

/-- The length of an ASK transition in quarters of a Tc under the reserved code 3 of CH_MOD_SHAPE.EDGE (R82). Log entry 59. -/
opaque Config.edgeReserved : Nat

/-- The ADC full scale at a gain of 0 dB, in 0.01 dBm, of a channel without a reference calibration (R538, R540). Log entry 29. -/
opaque Config.adcFullDbm : Nat → Int

/-- The feedforward scale of a channel that no calibration has measured (R72). Log entry 59. -/
opaque Config.blankScale : Nat → Nat

end Sys2Proof
end

