-- ==== Sys2Proof/Machine/Bytes.lean ====
section
/-! DEFINITION. Byte order, bit fields and sign extension (R5, R6). -/

namespace Sys2Proof.Machine

/-- Bits lo to lo + w − 1 of a number (R5). -/
def bits (v lo w : Nat) : Nat := (v >>> lo) % 2 ^ w

/-- `v` with bits lo to lo + w − 1 replaced by the low bits of x (R5). -/
def setBits (v lo w x : Nat) : Nat :=
  v - (bits v lo w) * 2 ^ lo + (x % 2 ^ w) * 2 ^ lo

/-- One bit of a number as a Bool. -/
def bitAt (v i : Nat) : Bool := (v >>> i) % 2 == 1

/-- A number read as a w-bit two's-complement value (R6). -/
def toInt (w v : Nat) : Int :=
  let x := v % 2 ^ w
  if 2 * x < 2 ^ w then (x : Int) else (x : Int) - (2 ^ w : Nat)

/-- The w-bit two's-complement coding of an integer (R6). -/
def ofInt (w : Nat) (x : Int) : Nat := (x % ((2 ^ w : Nat) : Int)).toNat

/-- An integer held between two bounds. -/
def clampInt (lo hi x : Int) : Int := if x < lo then lo else if hi < x then hi else x

/-- A count that saturates. -/
def sat (cap n : Nat) : Nat := min cap n

/-- A Bool as a bit. -/
def b2n (b : Bool) : Nat := if b then 1 else 0

/-- The little-endian value of a byte string (R5). -/
def leNat : List Byte → Nat
  | [] => 0
  | b :: t => b.toNat + 256 * leNat t

/-- n bytes of a value, least significant first (R5). -/
def toLe : Nat → Nat → List Byte
  | 0, _ => []
  | n + 1, v => BitVec.ofNat 8 v :: toLe n (v / 256)

/-- n bytes of a value, most significant first. -/
def toBe (n v : Nat) : List Byte := (toLe n v).reverse

/-- The value of a byte string, most significant byte first. -/
def beNat (l : List Byte) : Nat := leNat l.reverse

/-- Byte i of a byte string as a number; 0 beyond its end. -/
def byteAt (l : List Byte) (i : Nat) : Nat := (l.getD i 0).toNat

/-- The little-endian value of n bytes from offset o; bytes beyond the end count as 0. -/
def leAt (l : List Byte) (o n : Nat) : Nat := leNat ((l.drop o).take n)

/-- A byte string cut or padded with zeros to n bytes. -/
def padTo (n : Nat) (l : List Byte) : List Byte := (l ++ List.replicate (n - l.length) 0).take n

/-- Whether every byte of a string is 0. -/
def allZero (l : List Byte) : Bool := l.all (fun b => decide (b = 0))

/-- Overwrite bytes of a string from offset o on (the string keeps its length). -/
def overwrite (l : List Byte) (o : Nat) (x : List Byte) : List Byte :=
  (l.take o ++ x ++ l.drop (o + x.length)).take l.length

/-- The exclusive-or of all bytes (the BCC of R256). -/
def xorAll (l : List Byte) : Byte := l.foldl (· ^^^ ·) 0

/-- Bytes as numbers, for frames written as constants. -/
def bytes (l : List Nat) : List Byte := l.map (BitVec.ofNat 8)

end Sys2Proof.Machine
end

