-- ==== Sys2Proof/Machine/RegMap.lean ====
section
/-! DEFINITION. Where each register lies in BAR0, how often it is replicated, and its value after reset (R684 to R686). -/

namespace Sys2Proof.Machine

/-- One row of the register map: the address of instance 0, then stride and count of the unit instances, of a middle
index and of the inner index, and the reset value (R684, R686). Where Reset reads NVM or OTP the value is the blank one
(log entry 4). -/
structure RegRow where
  base   : Nat
  ostride : Nat
  ocount : Nat
  mstride : Nat
  mcount : Nat
  istride : Nat
  icount : Nat
  reset  : Nat
deriving DecidableEq, Repr

/-- The register map (R686). -/
def RegName.row : RegName → RegRow
  | .SYS_TRELLIS_MARGIN => ⟨0x40, 0x0, 1, 0x0, 1, 0, 1, 0x7F00⟩
  | .SYS_TAGMEM_STAT => ⟨0x100, 0x0, 1, 0x0, 1, 0, 1, 0x100⟩
  | .SYS_TAGMEM_PERSIST => ⟨0x104, 0x0, 1, 0x0, 1, 0, 1, 0x0⟩
  | .SYS_SESS_STAT => ⟨0x110, 0x0, 1, 0x0, 1, 0, 1, 0x0⟩
  | .SYS_SESS_FULL => ⟨0x114, 0x0, 1, 0x0, 1, 0, 1, 0x0⟩
  | .SYS_LEDGER_CTL => ⟨0x200, 0x0, 1, 0x0, 1, 0, 1, 0x800BB8⟩
  | .SYS_LEDGER_CONFIRM => ⟨0x204, 0x0, 1, 0x0, 1, 0, 1, 0x7D0⟩
  | .SYS_LEDGER_TZ => ⟨0x208, 0x0, 1, 0x0, 1, 0, 1, 0x250000⟩
  | .SYS_LEDGER_STAT => ⟨0x20C, 0x0, 1, 0x0, 1, 0, 1, 0x0⟩
  | .SYS_LEDGER_BASE_L => ⟨0x210, 0x0, 1, 0x0, 1, 0, 1, 0x0⟩
  | .SYS_LEDGER_BASE_H => ⟨0x214, 0x0, 1, 0x0, 1, 0, 1, 0x0⟩
  | .SYS_LEDGER_HITS_L => ⟨0x218, 0x0, 1, 0x0, 1, 0, 1, 0x0⟩
  | .SYS_LEDGER_HITS_H => ⟨0x21C, 0x0, 1, 0x0, 1, 0, 1, 0x0⟩
  | .SYS_LEDGER_MISS_L => ⟨0x220, 0x0, 1, 0x0, 1, 0, 1, 0x0⟩
  | .SYS_LEDGER_MISS_H => ⟨0x224, 0x0, 1, 0x0, 1, 0, 1, 0x0⟩
  | .SYS_LEDGER_ERR => ⟨0x228, 0x0, 1, 0x0, 1, 0, 1, 0x0⟩
  | .PWR_CTL => ⟨0x1000, 0x0, 1, 0x0, 1, 0, 1, 0x1⟩
  | .PWR_STAT => ⟨0x1004, 0x0, 1, 0x0, 1, 0, 1, 0x0⟩
  | .PWR_PAV => ⟨0x1010, 0x0, 1, 0x0, 1, 4, 6, 0x640002⟩
  | .PWR_CORE => ⟨0x1030, 0x0, 1, 0x0, 1, 0, 1, 0x3FF0000⟩
  | .PWR_TEMP => ⟨0x1034, 0x0, 1, 0x0, 1, 0, 1, 0x690000⟩
  | .PWR_FOLD => ⟨0x1038, 0x0, 1, 0x0, 1, 0, 1, 0x3200⟩
  | .PWR_TSENS => ⟨0x103C, 0x0, 1, 0x0, 1, 0, 1, 0x0⟩
  | .PWR_CORE_DIPS => ⟨0x1040, 0x0, 1, 0x0, 1, 0, 1, 0x0⟩
  | .SYN_CTL => ⟨0x2000, 0x0, 1, 0x0, 1, 0, 1, 0x100⟩
  | .SYN_STAT => ⟨0x2004, 0x0, 1, 0x0, 1, 0, 1, 0x0⟩
  | .SYN_CAL_TEMP => ⟨0x2008, 0x0, 1, 0x0, 1, 0, 1, 0x0⟩
  | .SYN_TRIM => ⟨0x200C, 0x0, 1, 0x0, 1, 0, 1, 0x0⟩
  | .SYN_TRIM_MIN => ⟨0x2010, 0x0, 1, 0x0, 1, 0, 1, 0x0⟩
  | .SYN_TRIM_MAX => ⟨0x2014, 0x0, 1, 0x0, 1, 0, 1, 0x0⟩
  | .SYN_LAST_SWAP => ⟨0x2018, 0x0, 1, 0x0, 1, 0, 1, 0x0⟩
  | .TIME_CTL => ⟨0x3000, 0x0, 1, 0x0, 1, 0, 1, 0x3C0000⟩
  | .TIME_STAT => ⟨0x3004, 0x0, 1, 0x0, 1, 0, 1, 0x0⟩
  | .TIME_NOW_NS => ⟨0x3008, 0x0, 1, 0x0, 1, 0, 1, 0x0⟩
  | .TIME_NOW_SL => ⟨0x300C, 0x0, 1, 0x0, 1, 0, 1, 0x0⟩
  | .TIME_NOW_SH => ⟨0x3010, 0x0, 1, 0x0, 1, 0, 1, 0x0⟩
  | .TIME_SET_NS => ⟨0x3014, 0x0, 1, 0x0, 1, 0, 1, 0x0⟩
  | .TIME_SET_SL => ⟨0x3018, 0x0, 1, 0x0, 1, 0, 1, 0x0⟩
  | .TIME_SET_SH => ⟨0x301C, 0x0, 1, 0x0, 1, 0, 1, 0x0⟩
  | .TIME_NEXT_SL => ⟨0x3020, 0x0, 1, 0x0, 1, 0, 1, 0x0⟩
  | .TIME_NEXT_SH => ⟨0x3024, 0x0, 1, 0x0, 1, 0, 1, 0x0⟩
  | .TIME_PPS_OFS => ⟨0x3028, 0x0, 1, 0x0, 1, 0, 1, 0x0⟩
  | .TIME_RATE => ⟨0x302C, 0x0, 1, 0x0, 1, 0, 1, 0x0⟩
  | .TMR_CTL => ⟨0x4000, 0x40, 16, 0x0, 1, 0, 1, 0x0⟩
  | .TMR_PRE => ⟨0x4004, 0x40, 16, 0x0, 1, 0, 1, 0x10000⟩
  | .TMR_COUNT => ⟨0x4008, 0x40, 16, 0x0, 1, 0, 1, 0x0⟩
  | .TMR_PERIOD => ⟨0x400C, 0x40, 16, 0x0, 1, 0, 1, 0xFFFFFFFF⟩
  | .TMR_CMP => ⟨0x4010, 0x40, 16, 0x0, 1, 0, 1, 0xFFFFFFFF⟩
  | .TMR_CAP => ⟨0x4014, 0x40, 16, 0x0, 1, 0, 1, 0x0⟩
  | .TMR_CAP_TL => ⟨0x4018, 0x40, 16, 0x0, 1, 0, 1, 0x0⟩
  | .TMR_CAP_TH => ⟨0x401C, 0x40, 16, 0x0, 1, 0, 1, 0x0⟩
  | .TMR_STAT => ⟨0x4020, 0x40, 16, 0x0, 1, 0, 1, 0x0⟩
  | .TMR_GSTAT => ⟨0x4400, 0x0, 1, 0x0, 1, 0, 1, 0x0⟩
  | .TMR_SC_OVF => ⟨0x4404, 0x0, 1, 0x0, 1, 0, 1, 0x0⟩
  | .TMR_SC_SEL => ⟨0x4410, 0x0, 1, 0x0, 1, 4, 8, 0x0⟩
  | .TMR_SC_L => ⟨0x4440, 0x0, 1, 0x0, 1, 8, 8, 0x0⟩
  | .TMR_SC_H => ⟨0x4444, 0x0, 1, 0x0, 1, 8, 8, 0x0⟩
  | .KSK_CTL => ⟨0x5000, 0x0, 1, 0x0, 1, 0, 1, 0x1⟩
  | .KSK_STAT => ⟨0x5004, 0x0, 1, 0x0, 1, 0, 1, 0x0⟩
  | .FLS_CTL => ⟨0x5100, 0x0, 1, 0x0, 1, 0, 1, 0x1000000⟩
  | .FLS_ADDR => ⟨0x5104, 0x0, 1, 0x0, 1, 0, 1, 0x0⟩
  | .FLS_STAT => ⟨0x5108, 0x0, 1, 0x0, 1, 0, 1, 0x0⟩
  | .FLS_CS_CFG => ⟨0x5110, 0x0, 1, 0x0, 1, 4, 3, 0x11903⟩
  | .FLS_XIP => ⟨0x5120, 0x0, 1, 0x0, 1, 0, 1, 0x0⟩
  | .FLS_TMO => ⟨0x5124, 0x0, 1, 0x0, 1, 0, 1, 0x28142805⟩
  | .FLS_BUF => ⟨0x5200, 0x0, 1, 0x0, 1, 4, 64, 0x0⟩
  | .PRM_CTL => ⟨0x6000, 0x0, 1, 0x0, 1, 0, 1, 0x23⟩
  | .PRM_STAT => ⟨0x6004, 0x0, 1, 0x0, 1, 0, 1, 0x0⟩
  | .PRM_HOP => ⟨0x6008, 0x0, 1, 0x0, 1, 0, 1, 0x0⟩
  | .PRM_TIME_OFS => ⟨0x600C, 0x0, 1, 0x0, 1, 0, 1, 0x0⟩
  | .PRM_PHASE => ⟨0x6010, 0x0, 1, 0x0, 1, 0, 1, 0x0⟩
  | .PRM_EPOCH_CTL => ⟨0x6014, 0x0, 1, 0x0, 1, 0, 1, 0x0⟩
  | .PRM_EPOCH_T_L => ⟨0x6018, 0x0, 1, 0x0, 1, 0, 1, 0x0⟩
  | .PRM_EPOCH_T_H => ⟨0x601C, 0x0, 1, 0x0, 1, 0, 1, 0x0⟩
  | .PRM_LINK_UP => ⟨0x6020, 0x0, 1, 0x0, 1, 0, 1, 0x0⟩
  | .PRM_LINK_DN => ⟨0x6024, 0x0, 1, 0x0, 1, 0, 1, 0x0⟩
  | .SEC_LC => ⟨0x8000, 0x0, 1, 0x0, 1, 0, 1, 0x0⟩
  | .SEC_SERIAL_L => ⟨0x8004, 0x0, 1, 0x0, 1, 0, 1, 0x0⟩
  | .SEC_SERIAL_H => ⟨0x8008, 0x0, 1, 0x0, 1, 0, 1, 0x0⟩
  | .SEC_BOOT => ⟨0x800C, 0x0, 1, 0x0, 1, 0, 1, 0x0⟩
  | .SEC_BOOT_VER => ⟨0x8010, 0x0, 1, 0x0, 1, 0, 1, 0x0⟩
  | .SEC_MINVER => ⟨0x8014, 0x0, 1, 0x0, 1, 0, 1, 0x0⟩
  | .SEC_BOOT_CTL => ⟨0x8018, 0x0, 1, 0x0, 1, 0, 1, 0x0⟩
  | .SEC_OTP => ⟨0x801C, 0x0, 1, 0x0, 1, 0, 1, 0x0⟩
  | .SEC_CK_STAT => ⟨0x8020, 0x0, 1, 0x0, 1, 0, 1, 0x0⟩
  | .SEC_CK_SEL => ⟨0x8024, 0x0, 1, 0x0, 1, 0, 1, 0x0⟩
  | .SEC_CK_MARK_L => ⟨0x8028, 0x0, 1, 0x0, 1, 0, 1, 0x0⟩
  | .SEC_CK_MARK_H => ⟨0x802C, 0x0, 1, 0x0, 1, 0, 1, 0x0⟩
  | .SEC_CK_HW_L => ⟨0x8030, 0x0, 1, 0x0, 1, 0, 1, 0x0⟩
  | .SEC_CK_HW_H => ⟨0x8034, 0x0, 1, 0x0, 1, 0, 1, 0x0⟩
  | .SEC_TOKEN_CTR_L => ⟨0x8038, 0x0, 1, 0x0, 1, 0, 1, 0x0⟩
  | .SEC_TOKEN_CTR_H => ⟨0x803C, 0x0, 1, 0x0, 1, 0, 1, 0x0⟩
  | .SEC_DEBUG => ⟨0x8040, 0x0, 1, 0x0, 1, 0, 1, 0x0⟩
  | .SEC_STAT => ⟨0x8044, 0x0, 1, 0x0, 1, 0, 1, 0x0⟩
  | .FLT_CTL => ⟨0xA000, 0x0, 1, 0x0, 1, 0, 1, 0x1⟩
  | .FLT_STAT => ⟨0xA004, 0x0, 1, 0x0, 1, 0, 1, 0x0⟩
  | .FLT_FIRST_T_L => ⟨0xA008, 0x0, 1, 0x0, 1, 0, 1, 0x0⟩
  | .FLT_FIRST_T_H => ⟨0xA00C, 0x0, 1, 0x0, 1, 0, 1, 0x0⟩
  | .FLT_LAST => ⟨0xA010, 0x0, 1, 0x0, 1, 0, 1, 0x0⟩
  | .FLT_STEST => ⟨0xA014, 0x0, 1, 0x0, 1, 0, 1, 0x103E8⟩
  | .FLT_SCRUB => ⟨0xA018, 0x0, 1, 0x0, 1, 0, 1, 0x1⟩
  | .FLT_ECC => ⟨0xA01C, 0x0, 1, 0x0, 1, 0, 1, 0x0⟩
  | .FLT_TEMP => ⟨0xA020, 0x0, 1, 0x0, 1, 0, 1, 0x78⟩
  | .FLT_ISO_CH => ⟨0xA030, 0x0, 1, 0x0, 1, 4, 6, 0x0⟩
  | .FLT_ISO_PAV => ⟨0xA048, 0x0, 1, 0x0, 1, 0, 1, 0x0⟩
  | .FLT_CNT => ⟨0xA04C, 0x0, 1, 0x0, 1, 0, 1, 0x0⟩
  | .FLT_INJECT => ⟨0xA050, 0x0, 1, 0x0, 1, 0, 1, 0x0⟩
  | .CAL_CTL => ⟨0xB000, 0x0, 1, 0x0, 1, 0, 1, 0x7⟩
  | .CAL_STAT => ⟨0xB004, 0x0, 1, 0x0, 1, 0, 1, 0x0⟩
  | .CAL_LIMIT => ⟨0xB008, 0x0, 1, 0x0, 1, 0, 1, 0x783C0F32⟩
  | .CAL_REF_CTL => ⟨0xB00C, 0x0, 1, 0x0, 1, 0, 1, 0x6400⟩
  | .CAL_NVM_STAT => ⟨0xB010, 0x0, 1, 0x0, 1, 0, 1, 0x0⟩
  | .CAL_MIRROR_CTL => ⟨0xB014, 0x0, 1, 0x0, 1, 0, 1, 0x0⟩
  | .CAL_MIRROR_ADDR => ⟨0xB018, 0x0, 1, 0x0, 1, 0, 1, 0x3F0000⟩
  | .CAL_TEMP => ⟨0xB01C, 0x0, 1, 0x0, 1, 0, 1, 0x0⟩
  | .LDG_RST_CAUSE => ⟨0xC000, 0x0, 1, 0x0, 1, 0, 1, 0x1⟩
  | .LDG_RST_CTL => ⟨0xC004, 0x0, 1, 0x0, 1, 0, 1, 0x0⟩
  | .LDG_WAKE => ⟨0xC008, 0x0, 1, 0x0, 1, 0, 1, 0x0⟩
  | .LDG_WAKE_TIMER => ⟨0xC00C, 0x0, 1, 0x0, 1, 0, 1, 0x0⟩
  | .LDG_SLEEP_TICKS_L => ⟨0xC010, 0x0, 1, 0x0, 1, 0, 1, 0x0⟩
  | .LDG_SLEEP_TICKS_H => ⟨0xC014, 0x0, 1, 0x0, 1, 0, 1, 0x0⟩
  | .LDG_EH => ⟨0xC040, 0x0, 1, 0x0, 1, 0, 1, 0x3⟩
  | .SHP_LOCK_STAT => ⟨0xD000, 0x0, 1, 0x0, 1, 0, 1, 0x0⟩
  | .SHP_COEX_PRI => ⟨0xD004, 0x0, 1, 0x0, 1, 0, 1, 0x0⟩
  | .SHP_CH_EN_LOCK => ⟨0xD010, 0x0, 1, 0x0, 1, 4, 6, 0xFFFFFFFF⟩
  | .HIF_RING_BASE_L => ⟨0x10000, 0x40, 64, 0x0, 1, 0, 1, 0x0⟩
  | .HIF_RING_BASE_H => ⟨0x10004, 0x40, 64, 0x0, 1, 0, 1, 0x0⟩
  | .HIF_RING_CFG => ⟨0x10008, 0x40, 64, 0x0, 1, 0, 1, 0x100⟩
  | .HIF_RING_HEAD => ⟨0x1000C, 0x40, 64, 0x0, 1, 0, 1, 0x0⟩
  | .HIF_RING_TAIL => ⟨0x10010, 0x40, 64, 0x0, 1, 0, 1, 0x0⟩
  | .HIF_RING_STAT => ⟨0x10014, 0x40, 64, 0x0, 1, 0, 1, 0x1⟩
  | .HIF_RING_POL => ⟨0x10018, 0x40, 64, 0x0, 1, 0, 1, 0x0⟩
  | .HIF_RING_BURST => ⟨0x1001C, 0x40, 64, 0x0, 1, 0, 1, 0x40⟩
  | .HIF_RING_TOKENS => ⟨0x10020, 0x40, 64, 0x0, 1, 0, 1, 0x40⟩
  | .HIF_RING_MOD => ⟨0x10024, 0x40, 64, 0x0, 1, 0, 1, 0x1⟩
  | .HIF_RING_DROPS => ⟨0x10028, 0x40, 64, 0x0, 1, 0, 1, 0x0⟩
  | .HIF_CTL => ⟨0x11000, 0x0, 1, 0x0, 1, 0, 1, 0x100⟩
  | .HIF_LINK => ⟨0x11004, 0x0, 1, 0x0, 1, 0, 1, 0x0⟩
  | .HIF_MISC_STAT => ⟨0x11008, 0x0, 1, 0x0, 1, 0, 1, 0x0⟩
  | .HIF_MISC_EN => ⟨0x1100C, 0x0, 1, 0x0, 1, 0, 1, 0x0⟩
  | .HIF_UNSOL_DROP => ⟨0x11010, 0x0, 1, 0x0, 1, 0, 1, 0x0⟩
  | .HIF_CAP_BUDGET => ⟨0x11020, 0x0, 1, 0x0, 1, 0, 1, 0x0⟩
  | .HIF_CAP_LOAD => ⟨0x11024, 0x0, 1, 0x0, 1, 0, 1, 0x0⟩
  | .HIF_CAP_FABRIC => ⟨0x11028, 0x0, 1, 0x0, 1, 0, 1, 0x9EE80⟩
  | .HIF_DEVQ => ⟨0x1102C, 0x0, 1, 0x0, 1, 0, 1, 0x0⟩
  | .HIF_UNSOL_MAP => ⟨0x11100, 0x0, 1, 0x0, 1, 4, 48, 0x0⟩
  | .PAV_VDRV => ⟨0x20040, 0x1000, 6, 0x0, 1, 0, 1, 0x0⟩
  | .PAV_VDRV_STAT => ⟨0x20044, 0x1000, 6, 0x0, 1, 0, 1, 0x0⟩
  | .PAV_SEQ_CTL => ⟨0x20100, 0x1000, 6, 0x0, 1, 0, 1, 0x1⟩
  | .PAV_SEQ_STAT => ⟨0x20104, 0x1000, 6, 0x0, 1, 0, 1, 0x0⟩
  | .PAV_SEQ_GT0 => ⟨0x20110, 0x1000, 6, 0x0, 1, 0, 1, 0x740488⟩
  | .PAV_SEQ_GT1 => ⟨0x20114, 0x1000, 6, 0x0, 1, 0, 1, 0x27404F4⟩
  | .PAV_SEQ_GT2 => ⟨0x20118, 0x1000, 6, 0x0, 1, 0, 1, 0x940134⟩
  | .PAV_SEQ_GT3 => ⟨0x2011C, 0x1000, 6, 0x0, 1, 0, 1, 0x105404F4⟩
  | .PAV_SEQ_FIELD_GT => ⟨0x20120, 0x1000, 6, 0x0, 1, 0, 1, 0x1388⟩
  | .PAV_SEQ_DEP => ⟨0x20124, 0x1000, 6, 0x0, 1, 0, 1, 0x2C0⟩
  | .PAV_SEQ_HOST => ⟨0x20128, 0x1000, 6, 0x0, 1, 0, 1, 0xC8⟩
  | .PAV_SEQ_PRES => ⟨0x2012C, 0x1000, 6, 0x0, 1, 0, 1, 0x3⟩
  | .PAV_SEQ_SKIPS => ⟨0x20130, 0x1000, 6, 0x0, 1, 0, 1, 0x0⟩
  | .PAV_LISTEN_HOST_CAP => ⟨0x20140, 0x1000, 6, 0x0, 1, 0, 1, 0x1F4⟩
  | .PAV_BLV_CTL => ⟨0x20200, 0x1000, 6, 0x0, 1, 0, 1, 0x640012⟩
  | .PAV_BLV_STAT => ⟨0x20204, 0x1000, 6, 0x0, 1, 0, 1, 0x0⟩
  | .PAV_BLV_SKIP => ⟨0x20208, 0x1000, 6, 0x0, 1, 0, 1, 0x0⟩
  | .PAV_BKT_RATE => ⟨0x20300, 0x1000, 6, 0x0, 1, 0, 1, 0x1770⟩
  | .PAV_BKT_DEPTH => ⟨0x20304, 0x1000, 6, 0x0, 1, 0, 1, 0x7D0⟩
  | .PAV_BKT_LEVEL => ⟨0x20308, 0x1000, 6, 0x0, 1, 0, 1, 0x1E8480⟩
  | .PAV_BKT_RSV => ⟨0x2030C, 0x1000, 6, 0x0, 1, 0, 1, 0x0⟩
  | .PAV_LOCK => ⟨0x20310, 0x1000, 6, 0x0, 1, 0, 1, 0x3E81F40⟩
  | .PAV_BKT_STAT => ⟨0x20314, 0x1000, 6, 0x0, 1, 0, 1, 0x0⟩
  | .PAV_GATE_CTL => ⟨0x20320, 0x1000, 6, 0x0, 1, 0, 1, 0x100⟩
  | .PAV_GATE_BASE_L => ⟨0x20324, 0x1000, 6, 0x0, 1, 0, 1, 0x0⟩
  | .PAV_GATE_BASE_H => ⟨0x20328, 0x1000, 6, 0x0, 1, 0, 1, 0x0⟩
  | .PAV_GATE_CYCLE => ⟨0x2032C, 0x1000, 6, 0x0, 1, 0, 1, 0x5F5E100⟩
  | .PAV_GATE_STAT => ⟨0x20330, 0x1000, 6, 0x0, 1, 0, 1, 0xF0000⟩
  | .PAV_GATE_CHG_L => ⟨0x20334, 0x1000, 6, 0x0, 1, 0, 1, 0x0⟩
  | .PAV_GATE_CHG_H => ⟨0x20338, 0x1000, 6, 0x0, 1, 0, 1, 0x0⟩
  | .PAV_GATE_CUTS => ⟨0x2033C, 0x1000, 6, 0x0, 1, 0, 1, 0x0⟩
  | .PAV_GATE_FB_OPEN => ⟨0x20340, 0x1000, 6, 0x0, 1, 0, 1, 0x15F90⟩
  | .PAV_GATE_FB_PERIOD => ⟨0x20344, 0x1000, 6, 0x0, 1, 0, 1, 0x186A0⟩
  | .PAV_GATE_FB_CFG => ⟨0x20348, 0x1000, 6, 0x0, 1, 0, 1, 0xF⟩
  | .PAV_GATE_OPER_CYCLE => ⟨0x2034C, 0x1000, 6, 0x0, 1, 0, 1, 0x0⟩
  | .PAV_COEX => ⟨0x20350, 0x1000, 6, 0x0, 1, 0, 1, 0x190000⟩
  | .PAV_COEX_STAT => ⟨0x20354, 0x1000, 6, 0x0, 1, 0, 1, 0x0⟩
  | .PAV_ADAPT => ⟨0x20400, 0x1000, 6, 0x0, 1, 0, 1, 0x1000⟩
  | .PAV_GCL_ADMIN_D => ⟨0x20800, 0x1000, 6, 0x0, 1, 8, 64, 0x0⟩
  | .PAV_GCL_ADMIN_M => ⟨0x20804, 0x1000, 6, 0x0, 1, 8, 64, 0x0⟩
  | .PAV_GCL_OPER_D => ⟨0x20A00, 0x1000, 6, 0x0, 1, 8, 64, 0x0⟩
  | .PAV_GCL_OPER_M => ⟨0x20A04, 0x1000, 6, 0x0, 1, 8, 64, 0x0⟩
  | .ARB_CTL => ⟨0x28000, 0x400, 24, 0x0, 1, 0, 1, 0x35⟩
  | .ARB_PILOT => ⟨0x28004, 0x400, 24, 0x0, 1, 0, 1, 0x640060⟩
  | .ARB_PILOT_CFG => ⟨0x28008, 0x400, 24, 0x0, 1, 0, 1, 0x3E80D01⟩
  | .ARB_CM_STAT => ⟨0x2800C, 0x400, 24, 0x0, 1, 0, 1, 0x0⟩
  | .ARB_CM_AGE => ⟨0x28010, 0x400, 24, 0x0, 1, 4, 4, 0xFFFFFFFF⟩
  | .ARB_SEP => ⟨0x28020, 0x400, 24, 0x0, 1, 0, 1, 0x18E6B3⟩
  | .ARB_SEP_STAT => ⟨0x28024, 0x400, 24, 0x0, 1, 0, 1, 0x0⟩
  | .ARB_SEP_LAST => ⟨0x28028, 0x400, 24, 0x0, 1, 0, 1, 0x0⟩
  | .ARB_ATTR => ⟨0x28030, 0x400, 24, 0x0, 1, 0, 1, 0x801ADA⟩
  | .ARB_ATTR_LAST => ⟨0x28034, 0x400, 24, 0x0, 1, 0, 1, 0xF⟩
  | .ARB_GRANT => ⟨0x28038, 0x400, 24, 0x0, 1, 0, 1, 0x3200⟩
  | .ARB_GRANT_CNT => ⟨0x2803C, 0x400, 24, 0x0, 1, 0, 1, 0x0⟩
  | .ARB_CT_W => ⟨0x28040, 0x400, 24, 0x0, 1, 4, 8, 0x400⟩
  | .ARB_CT_DT => ⟨0x28060, 0x400, 24, 0x0, 1, 4, 8, 0x1400⟩
  | .ARB_SEAM_LO => ⟨0x280C0, 0x400, 24, 0x0, 1, 4, 8, 0x0⟩
  | .ARB_SEAM_HI => ⟨0x280E0, 0x400, 24, 0x0, 1, 4, 8, 0x0⟩
  | .ARB_CM => ⟨0x28100, 0x400, 24, 0x0, 1, 4, 64, 0x0⟩
  | .ARB_FG_CTL => ⟨0x28200, 0x400, 24, 0x0, 1, 64, 4, 0x8FF00000⟩
  | .ARB_FG_STAT => ⟨0x28204, 0x400, 24, 0x0, 1, 64, 4, 0x0⟩
  | .ARB_FG_W => ⟨0x28210, 0x400, 24, 0x40, 4, 4, 8, 0x0⟩
  | .CH_PHASE_OFS => ⟨0x40008, 0x400, 192, 0x0, 1, 0, 1, 0x0⟩
  | .CH_ROLE => ⟨0x40010, 0x400, 192, 0x0, 1, 0, 1, 0x0⟩
  | .CH_SESS => ⟨0x40014, 0x400, 192, 0x0, 1, 0, 1, 0x1FF01FF⟩
  | .CH_ADM_STAT => ⟨0x40018, 0x400, 192, 0x0, 1, 0, 1, 0x0⟩
  | .CH_DUTY => ⟨0x4001C, 0x400, 192, 0x0, 1, 0, 1, 0x0⟩
  | .CH_SHP_CTL => ⟨0x40030, 0x400, 192, 0x0, 1, 0, 1, 0x3E80001⟩
  | .CH_SHP_HI => ⟨0x40034, 0x400, 192, 0x0, 1, 0, 1, 0x186A0⟩
  | .CH_SHP_LO => ⟨0x40038, 0x400, 192, 0x0, 1, 0, 1, 0x186A0⟩
  | .CH_SHP_CREDIT => ⟨0x4003C, 0x400, 192, 0x0, 1, 0, 1, 0x0⟩
  | .CH_TX_CTL => ⟨0x40040, 0x400, 192, 0x0, 1, 0, 1, 0x31⟩
  | .CH_FIELD_LVL => ⟨0x40044, 0x400, 192, 0x0, 1, 0, 1, 0xFF⟩
  | .CH_FIELD_MAX => ⟨0x40048, 0x400, 192, 0x0, 1, 0, 1, 0x3E8⟩
  | .CH_FIELD_STAT => ⟨0x4004C, 0x400, 192, 0x0, 1, 0, 1, 0xFF⟩
  | .CH_MOD_A => ⟨0x40050, 0x400, 192, 0x0, 1, 0, 1, 0x5091224⟩
  | .CH_MOD_ASK => ⟨0x40054, 0x400, 192, 0x0, 1, 0, 1, 0x94181414⟩
  | .CH_MOD_SHAPE => ⟨0x40058, 0x400, 192, 0x0, 1, 0, 1, 0x100⟩
  | .CH_RAMP => ⟨0x4005C, 0x400, 192, 0x0, 1, 0, 1, 0x400080⟩
  | .CH_TUNE => ⟨0x40060, 0x400, 192, 0x0, 1, 0, 1, 0x0⟩
  | .CH_TUNE_CAL => ⟨0x40064, 0x400, 192, 0x0, 1, 0, 1, 0x0⟩
  | .CH_TUNE_CTL => ⟨0x40068, 0x400, 192, 0x0, 1, 0, 1, 0x2841⟩
  | .CH_TUNE_STAT => ⟨0x4006C, 0x400, 192, 0x0, 1, 0, 1, 0x0⟩
  | .CH_PWR_LIM => ⟨0x40070, 0x400, 192, 0x0, 1, 0, 1, 0x3E8⟩
  | .CH_PWR_MEAS => ⟨0x40074, 0x400, 192, 0x0, 1, 0, 1, 0x0⟩
  | .CH_LIM_STAT => ⟨0x40078, 0x400, 192, 0x0, 1, 0, 1, 0x0⟩
  | .CH_FEN_STAT => ⟨0x4007C, 0x400, 192, 0x0, 1, 0, 1, 0x0⟩
  | .CH_ADAPT => ⟨0x40080, 0x400, 192, 0x0, 1, 0, 1, 0x40A2800⟩
  | .CH_ADAPT_STAT => ⟨0x40084, 0x400, 192, 0x0, 1, 0, 1, 0xFF⟩
  | .CH_CAP_CTL => ⟨0x400C0, 0x400, 192, 0x0, 1, 0, 1, 0x200⟩
  | .CH_CAP_STAT => ⟨0x400C4, 0x400, 192, 0x0, 1, 0, 1, 0x0⟩
  | .CH_CAP_IDX_L => ⟨0x400C8, 0x400, 192, 0x0, 1, 0, 1, 0x0⟩
  | .CH_CAP_IDX_H => ⟨0x400CC, 0x400, 192, 0x0, 1, 0, 1, 0x0⟩
  | .CH_CAP_GAPS => ⟨0x400D0, 0x400, 192, 0x0, 1, 0, 1, 0x0⟩
  | .CH_OUTQ => ⟨0x400D4, 0x400, 192, 0x0, 1, 0, 1, 0x0⟩
  | .CH_CUP_ERR => ⟨0x400E0, 0x400, 192, 0x0, 1, 0, 1, 0x0⟩
  | .CH_CUP_EYE => ⟨0x400E4, 0x400, 192, 0x0, 1, 0, 1, 0x0⟩
  | .CH_CAL_SETS => ⟨0x400E8, 0x400, 192, 0x0, 1, 0, 1, 0x7700⟩
  | .CH_CAL_LAST => ⟨0x400EC, 0x400, 192, 0x0, 1, 0, 1, 0xF0000⟩
  | .CH_CAL_SET_T0 => ⟨0x400F0, 0x400, 192, 0x0, 1, 0, 1, 0x0⟩
  | .CH_CAL_SET_T2 => ⟨0x400F4, 0x400, 192, 0x0, 1, 0, 1, 0x0⟩
  | .CH_CAL_SET_T4 => ⟨0x400F8, 0x400, 192, 0x0, 1, 0, 1, 0x0⟩
  | .CH_CAL_DRIP => ⟨0x400FC, 0x400, 192, 0x0, 1, 0, 1, 0x0⟩
  | .CH_RX_CTL => ⟨0x40100, 0x400, 192, 0x0, 1, 0, 1, 0x1240⟩
  | .CH_RX_SHIFT => ⟨0x40104, 0x400, 192, 0x0, 1, 0, 1, 0x210000⟩
  | .CH_RX_FIR => ⟨0x40108, 0x400, 192, 0x0, 1, 0, 1, 0x0⟩
  | .CH_RX_RS => ⟨0x4010C, 0x400, 192, 0x0, 1, 0, 1, 0x1000000⟩
  | .CH_RX_AGC => ⟨0x40110, 0x400, 192, 0x0, 1, 0, 1, 0x6000000⟩
  | .CH_RX_EST_C => ⟨0x40114, 0x400, 192, 0x0, 1, 0, 1, 0x0⟩
  | .CH_RX_EST_F_AMP => ⟨0x40118, 0x400, 192, 0x0, 1, 0, 1, 0x0⟩
  | .CH_RX_EST_F_PH => ⟨0x4011C, 0x400, 192, 0x0, 1, 0, 1, 0x10000⟩
  | .CH_RX_FINE => ⟨0x40120, 0x400, 192, 0x0, 1, 0, 1, 0xC8⟩
  | .CH_RX_CAP => ⟨0x40124, 0x400, 192, 0x0, 1, 0, 1, 0x0⟩
  | .CH_RX_SAT => ⟨0x40128, 0x400, 192, 0x0, 1, 0, 1, 0x0⟩
  | .CH_RX_LAT => ⟨0x4012C, 0x400, 192, 0x0, 1, 0, 1, 0x109C⟩
  | .CH_DEM_CTL => ⟨0x40140, 0x400, 192, 0x0, 1, 0, 1, 0x400829⟩
  | .CH_FRM_CTL => ⟨0x40144, 0x400, 192, 0x0, 1, 0, 1, 0x600⟩
  | .CH_FRM_LAST => ⟨0x40148, 0x400, 192, 0x0, 1, 0, 1, 0x0⟩
  | .CH_FRM_COLL => ⟨0x4014C, 0x400, 192, 0x0, 1, 0, 1, 0xFFFF⟩
  | .CH_FRM_ERR => ⟨0x40150, 0x400, 192, 0x0, 1, 0, 1, 0xFFFF⟩
  | .CH_FRM_TIME => ⟨0x40154, 0x400, 192, 0x0, 1, 0, 1, 0x0⟩
  | .CH_FRM_QUAL => ⟨0x40158, 0x400, 192, 0x0, 1, 0, 1, 0x0⟩
  | .CH_BLV_THR => ⟨0x40180, 0x400, 192, 0x0, 1, 0, 1, 0x5060A⟩
  | .CH_BLV_BASE => ⟨0x40184, 0x400, 192, 0x0, 1, 0, 1, 0x0⟩
  | .CH_BLV_MEAS => ⟨0x40188, 0x400, 192, 0x0, 1, 0, 1, 0x0⟩
  | .CH_BLV_CMD => ⟨0x4018C, 0x400, 192, 0x0, 1, 0, 1, 0x0⟩
  | .CH_SEQ_STAT => ⟨0x40190, 0x400, 192, 0x0, 1, 0, 1, 0x1F⟩
  | .CH_LSN_CTL => ⟨0x401A0, 0x400, 192, 0x0, 1, 0, 1, 0x1107F⟩
  | .CH_LSN_FD => ⟨0x401A4, 0x400, 192, 0x0, 1, 0, 1, 0xA14⟩
  | .CH_LSN_ID => ⟨0x401A8, 0x400, 192, 0x0, 1, 0, 1, 0x2⟩
  | .CH_LSN_UID0 => ⟨0x401AC, 0x400, 192, 0x0, 1, 0, 1, 0x0⟩
  | .CH_LSN_UID1 => ⟨0x401B0, 0x400, 192, 0x0, 1, 0, 1, 0x0⟩
  | .CH_LSN_ATS => ⟨0x401B4, 0x400, 192, 0x0, 1, 0, 1, 0x13088⟩
  | .CH_LSN_WTX => ⟨0x401B8, 0x400, 192, 0x0, 1, 0, 1, 0x1⟩
  | .CH_LSN_ERR => ⟨0x401BC, 0x400, 192, 0x0, 1, 0, 1, 0x6F00⟩
  | .CH_LSN_HIST => ⟨0x401C0, 0x400, 192, 0x0, 1, 4, 4, 0x0⟩
  | .CH_LSN_STAT => ⟨0x401D0, 0x400, 192, 0x0, 1, 0, 1, 0x0⟩
  | .CH_RX_COEF_A => ⟨0x40200, 0x400, 192, 0x0, 1, 4, 32, 0x0⟩
  | .CH_RX_COEF_B => ⟨0x40280, 0x400, 192, 0x0, 1, 4, 32, 0x0⟩

/-- Part 0 of the list of all registers. -/
def regList0 : List RegName :=
  [.SYS_TRELLIS_MARGIN, .SYS_TAGMEM_STAT, .SYS_TAGMEM_PERSIST, .SYS_SESS_STAT, .SYS_SESS_FULL, .SYS_LEDGER_CTL, .SYS_LEDGER_CONFIRM, .SYS_LEDGER_TZ, .SYS_LEDGER_STAT, .SYS_LEDGER_BASE_L, .SYS_LEDGER_BASE_H, .SYS_LEDGER_HITS_L, .SYS_LEDGER_HITS_H, .SYS_LEDGER_MISS_L, .SYS_LEDGER_MISS_H, .SYS_LEDGER_ERR, .PWR_CTL, .PWR_STAT, .PWR_PAV, .PWR_CORE, .PWR_TEMP, .PWR_FOLD, .PWR_TSENS, .PWR_CORE_DIPS, .SYN_CTL]

/-- Part 1 of the list of all registers. -/
def regList1 : List RegName :=
  [.SYN_STAT, .SYN_CAL_TEMP, .SYN_TRIM, .SYN_TRIM_MIN, .SYN_TRIM_MAX, .SYN_LAST_SWAP, .TIME_CTL, .TIME_STAT, .TIME_NOW_NS, .TIME_NOW_SL, .TIME_NOW_SH, .TIME_SET_NS, .TIME_SET_SL, .TIME_SET_SH, .TIME_NEXT_SL, .TIME_NEXT_SH, .TIME_PPS_OFS, .TIME_RATE, .TMR_CTL, .TMR_PRE, .TMR_COUNT, .TMR_PERIOD, .TMR_CMP, .TMR_CAP, .TMR_CAP_TL]

/-- Part 2 of the list of all registers. -/
def regList2 : List RegName :=
  [.TMR_CAP_TH, .TMR_STAT, .TMR_GSTAT, .TMR_SC_OVF, .TMR_SC_SEL, .TMR_SC_L, .TMR_SC_H, .KSK_CTL, .KSK_STAT, .FLS_CTL, .FLS_ADDR, .FLS_STAT, .FLS_CS_CFG, .FLS_XIP, .FLS_TMO, .FLS_BUF, .PRM_CTL, .PRM_STAT, .PRM_HOP, .PRM_TIME_OFS, .PRM_PHASE, .PRM_EPOCH_CTL, .PRM_EPOCH_T_L, .PRM_EPOCH_T_H, .PRM_LINK_UP]

/-- Part 3 of the list of all registers. -/
def regList3 : List RegName :=
  [.PRM_LINK_DN, .SEC_LC, .SEC_SERIAL_L, .SEC_SERIAL_H, .SEC_BOOT, .SEC_BOOT_VER, .SEC_MINVER, .SEC_BOOT_CTL, .SEC_OTP, .SEC_CK_STAT, .SEC_CK_SEL, .SEC_CK_MARK_L, .SEC_CK_MARK_H, .SEC_CK_HW_L, .SEC_CK_HW_H, .SEC_TOKEN_CTR_L, .SEC_TOKEN_CTR_H, .SEC_DEBUG, .SEC_STAT, .FLT_CTL, .FLT_STAT, .FLT_FIRST_T_L, .FLT_FIRST_T_H, .FLT_LAST, .FLT_STEST]

/-- Part 4 of the list of all registers. -/
def regList4 : List RegName :=
  [.FLT_SCRUB, .FLT_ECC, .FLT_TEMP, .FLT_ISO_CH, .FLT_ISO_PAV, .FLT_CNT, .FLT_INJECT, .CAL_CTL, .CAL_STAT, .CAL_LIMIT, .CAL_REF_CTL, .CAL_NVM_STAT, .CAL_MIRROR_CTL, .CAL_MIRROR_ADDR, .CAL_TEMP, .LDG_RST_CAUSE, .LDG_RST_CTL, .LDG_WAKE, .LDG_WAKE_TIMER, .LDG_SLEEP_TICKS_L, .LDG_SLEEP_TICKS_H, .LDG_EH, .SHP_LOCK_STAT, .SHP_COEX_PRI, .SHP_CH_EN_LOCK]

/-- Part 5 of the list of all registers. -/
def regList5 : List RegName :=
  [.HIF_RING_BASE_L, .HIF_RING_BASE_H, .HIF_RING_CFG, .HIF_RING_HEAD, .HIF_RING_TAIL, .HIF_RING_STAT, .HIF_RING_POL, .HIF_RING_BURST, .HIF_RING_TOKENS, .HIF_RING_MOD, .HIF_RING_DROPS, .HIF_CTL, .HIF_LINK, .HIF_MISC_STAT, .HIF_MISC_EN, .HIF_UNSOL_DROP, .HIF_CAP_BUDGET, .HIF_CAP_LOAD, .HIF_CAP_FABRIC, .HIF_DEVQ, .HIF_UNSOL_MAP, .PAV_VDRV, .PAV_VDRV_STAT, .PAV_SEQ_CTL, .PAV_SEQ_STAT]

/-- Part 6 of the list of all registers. -/
def regList6 : List RegName :=
  [.PAV_SEQ_GT0, .PAV_SEQ_GT1, .PAV_SEQ_GT2, .PAV_SEQ_GT3, .PAV_SEQ_FIELD_GT, .PAV_SEQ_DEP, .PAV_SEQ_HOST, .PAV_SEQ_PRES, .PAV_SEQ_SKIPS, .PAV_LISTEN_HOST_CAP, .PAV_BLV_CTL, .PAV_BLV_STAT, .PAV_BLV_SKIP, .PAV_BKT_RATE, .PAV_BKT_DEPTH, .PAV_BKT_LEVEL, .PAV_BKT_RSV, .PAV_LOCK, .PAV_BKT_STAT, .PAV_GATE_CTL, .PAV_GATE_BASE_L, .PAV_GATE_BASE_H, .PAV_GATE_CYCLE, .PAV_GATE_STAT, .PAV_GATE_CHG_L]

/-- Part 7 of the list of all registers. -/
def regList7 : List RegName :=
  [.PAV_GATE_CHG_H, .PAV_GATE_CUTS, .PAV_GATE_FB_OPEN, .PAV_GATE_FB_PERIOD, .PAV_GATE_FB_CFG, .PAV_GATE_OPER_CYCLE, .PAV_COEX, .PAV_COEX_STAT, .PAV_ADAPT, .PAV_GCL_ADMIN_D, .PAV_GCL_ADMIN_M, .PAV_GCL_OPER_D, .PAV_GCL_OPER_M, .ARB_CTL, .ARB_PILOT, .ARB_PILOT_CFG, .ARB_CM_STAT, .ARB_CM_AGE, .ARB_SEP, .ARB_SEP_STAT, .ARB_SEP_LAST, .ARB_ATTR, .ARB_ATTR_LAST, .ARB_GRANT, .ARB_GRANT_CNT]

/-- Part 8 of the list of all registers. -/
def regList8 : List RegName :=
  [.ARB_CT_W, .ARB_CT_DT, .ARB_SEAM_LO, .ARB_SEAM_HI, .ARB_CM, .ARB_FG_CTL, .ARB_FG_STAT, .ARB_FG_W, .CH_PHASE_OFS, .CH_ROLE, .CH_SESS, .CH_ADM_STAT, .CH_DUTY, .CH_SHP_CTL, .CH_SHP_HI, .CH_SHP_LO, .CH_SHP_CREDIT, .CH_TX_CTL, .CH_FIELD_LVL, .CH_FIELD_MAX, .CH_FIELD_STAT, .CH_MOD_A, .CH_MOD_ASK, .CH_MOD_SHAPE, .CH_RAMP]

/-- Part 9 of the list of all registers. -/
def regList9 : List RegName :=
  [.CH_TUNE, .CH_TUNE_CAL, .CH_TUNE_CTL, .CH_TUNE_STAT, .CH_PWR_LIM, .CH_PWR_MEAS, .CH_LIM_STAT, .CH_FEN_STAT, .CH_ADAPT, .CH_ADAPT_STAT, .CH_CAP_CTL, .CH_CAP_STAT, .CH_CAP_IDX_L, .CH_CAP_IDX_H, .CH_CAP_GAPS, .CH_OUTQ, .CH_CUP_ERR, .CH_CUP_EYE, .CH_CAL_SETS, .CH_CAL_LAST, .CH_CAL_SET_T0, .CH_CAL_SET_T2, .CH_CAL_SET_T4, .CH_CAL_DRIP, .CH_RX_CTL]

/-- Part 10 of the list of all registers. -/
def regList10 : List RegName :=
  [.CH_RX_SHIFT, .CH_RX_FIR, .CH_RX_RS, .CH_RX_AGC, .CH_RX_EST_C, .CH_RX_EST_F_AMP, .CH_RX_EST_F_PH, .CH_RX_FINE, .CH_RX_CAP, .CH_RX_SAT, .CH_RX_LAT, .CH_DEM_CTL, .CH_FRM_CTL, .CH_FRM_LAST, .CH_FRM_COLL, .CH_FRM_ERR, .CH_FRM_TIME, .CH_FRM_QUAL, .CH_BLV_THR, .CH_BLV_BASE, .CH_BLV_MEAS, .CH_BLV_CMD, .CH_SEQ_STAT, .CH_LSN_CTL, .CH_LSN_FD]

/-- Part 11 of the list of all registers. -/
def regList11 : List RegName :=
  [.CH_LSN_ID, .CH_LSN_UID0, .CH_LSN_UID1, .CH_LSN_ATS, .CH_LSN_WTX, .CH_LSN_ERR, .CH_LSN_HIST, .CH_LSN_STAT, .CH_RX_COEF_A, .CH_RX_COEF_B]

/-- Every register of BAR0, in the order of the register map (R686). -/
def regList : List RegName :=
  regList0 ++ regList1 ++ regList2 ++ regList3 ++ regList4 ++ regList5 ++ regList6 ++ regList7 ++ regList8 ++ regList9 ++ regList10 ++ regList11

end Sys2Proof.Machine
end

