-- ==== Sys2Proof/Machine/Fields.lean ====
section
/-! DEFINITION. The fields of the set-up registers: place, width, access type and stated range (the field tables of the
owning chapters; R7, R687). -/

namespace Sys2Proof.Machine

/-- A field: its register, its lowest bit and its width (R5). -/
structure Fld where
  reg : RegName
  lo  : Nat
  w   : Nat
deriving DecidableEq, Repr

/-- The access types of R7. -/
inductive Acc where
  | rw | ro | wo | w1c | rs | rwl
deriving DecidableEq, Repr

/-- A row of a field table: the field, its access type, and its stated range as intervals (empty: any value). -/
structure FldRow where
  fld : Fld
  acc : Acc
  rng : List (Nat × Nat)
deriving DecidableEq, Repr

namespace F
def SYN_CTL_CAL_REQ : Fld := ⟨.SYN_CTL, 0, 1⟩
def SYN_CTL_RESTART_A : Fld := ⟨.SYN_CTL, 1, 1⟩
def SYN_CTL_RESTART_B : Fld := ⟨.SYN_CTL, 2, 1⟩
def SYN_CTL_TEMP_TRIG_EN : Fld := ⟨.SYN_CTL, 8, 1⟩
def SYN_STAT_A_STATE : Fld := ⟨.SYN_STAT, 0, 2⟩
def SYN_STAT_B_STATE : Fld := ⟨.SYN_STAT, 2, 2⟩
def SYN_STAT_ACTIVE_UNIT : Fld := ⟨.SYN_STAT, 4, 1⟩
def SYN_STAT_SINGLE : Fld := ⟨.SYN_STAT, 5, 1⟩
def SYN_STAT_CAL_FAIL : Fld := ⟨.SYN_STAT, 6, 1⟩
def SYN_STAT_TRIM_REFUSED : Fld := ⟨.SYN_STAT, 8, 1⟩
def SYN_CAL_TEMP_A_TEMP : Fld := ⟨.SYN_CAL_TEMP, 0, 10⟩
def SYN_CAL_TEMP_B_TEMP : Fld := ⟨.SYN_CAL_TEMP, 16, 10⟩
def SYN_TRIM_STEPS : Fld := ⟨.SYN_TRIM, 0, 18⟩
def SYN_TRIM_MIN_STEPS : Fld := ⟨.SYN_TRIM_MIN, 0, 18⟩
def SYN_TRIM_MAX_STEPS : Fld := ⟨.SYN_TRIM_MAX, 0, 18⟩
def SYN_LAST_SWAP_PHASE_STEP : Fld := ⟨.SYN_LAST_SWAP, 0, 8⟩
def SYN_LAST_SWAP_CYCLES : Fld := ⟨.SYN_LAST_SWAP, 8, 4⟩
def SYN_LAST_SWAP_EMERGENCY : Fld := ⟨.SYN_LAST_SWAP, 12, 1⟩
def SYS_TRELLIS_MARGIN_MARGIN : Fld := ⟨.SYS_TRELLIS_MARGIN, 0, 8⟩
def SYS_TRELLIS_MARGIN_MIN_SEEN : Fld := ⟨.SYS_TRELLIS_MARGIN, 8, 8⟩
def CH_PHASE_OFS_CAL : Fld := ⟨.CH_PHASE_OFS, 0, 10⟩
def CH_PHASE_OFS_USER : Fld := ⟨.CH_PHASE_OFS, 16, 10⟩
def TIME_CTL_SOURCE : Fld := ⟨.TIME_CTL, 0, 2⟩
def TIME_CTL_PPS_EDGE : Fld := ⟨.TIME_CTL, 4, 1⟩
def TIME_CTL_HOST_LOCK : Fld := ⟨.TIME_CTL, 8, 1⟩
def TIME_CTL_LOAD : Fld := ⟨.TIME_CTL, 12, 1⟩
def TIME_CTL_HOLDOVER_MAX : Fld := ⟨.TIME_CTL, 16, 16⟩
def TIME_STAT_LOCK : Fld := ⟨.TIME_STAT, 0, 1⟩
def TIME_STAT_HOLDOVER : Fld := ⟨.TIME_STAT, 1, 1⟩
def TIME_STAT_CLOCK_SRC : Fld := ⟨.TIME_STAT, 2, 1⟩
def TIME_STAT_GOOD_EDGES : Fld := ⟨.TIME_STAT, 4, 3⟩
def TIME_STAT_PPS_MISSING : Fld := ⟨.TIME_STAT, 8, 1⟩
def TIME_NOW_NS_NS : Fld := ⟨.TIME_NOW_NS, 0, 32⟩
def TIME_NOW_SL_SEC : Fld := ⟨.TIME_NOW_SL, 0, 32⟩
def TIME_NOW_SH_SEC : Fld := ⟨.TIME_NOW_SH, 0, 16⟩
def TIME_SET_NS_NS : Fld := ⟨.TIME_SET_NS, 0, 32⟩
def TIME_SET_SL_SEC : Fld := ⟨.TIME_SET_SL, 0, 32⟩
def TIME_SET_SH_SEC : Fld := ⟨.TIME_SET_SH, 0, 16⟩
def TIME_NEXT_SL_SEC : Fld := ⟨.TIME_NEXT_SL, 0, 32⟩
def TIME_NEXT_SH_SEC : Fld := ⟨.TIME_NEXT_SH, 0, 16⟩
def TIME_PPS_OFS_OFS : Fld := ⟨.TIME_PPS_OFS, 0, 32⟩
def TIME_RATE_RATE : Fld := ⟨.TIME_RATE, 0, 32⟩
def PAV_VDRV_NOM : Fld := ⟨.PAV_VDRV, 0, 7⟩
def PAV_VDRV_MEAS : Fld := ⟨.PAV_VDRV, 16, 8⟩
def PAV_VDRV_WARN : Fld := ⟨.PAV_VDRV, 24, 1⟩
def CH_TX_CTL_EN : Fld := ⟨.CH_TX_CTL, 0, 1⟩
def CH_TX_CTL_LOOP_EN : Fld := ⟨.CH_TX_CTL, 4, 1⟩
def CH_TX_CTL_VCOMP_EN : Fld := ⟨.CH_TX_CTL, 5, 1⟩
def CH_FIELD_LVL_LVL : Fld := ⟨.CH_FIELD_LVL, 0, 8⟩
def CH_FIELD_MAX_PWR : Fld := ⟨.CH_FIELD_MAX, 0, 12⟩
def CH_FIELD_STAT_LVL_NOW : Fld := ⟨.CH_FIELD_STAT, 0, 8⟩
def CH_FIELD_STAT_ON : Fld := ⟨.CH_FIELD_STAT, 8, 1⟩
def CH_FIELD_STAT_CEILING : Fld := ⟨.CH_FIELD_STAT, 9, 1⟩
def CH_FIELD_STAT_HEADROOM : Fld := ⟨.CH_FIELD_STAT, 10, 1⟩
def CH_FIELD_STAT_ERR : Fld := ⟨.CH_FIELD_STAT, 16, 8⟩
def CH_MOD_A_PAUSE_106 : Fld := ⟨.CH_MOD_A, 0, 6⟩
def CH_MOD_A_PAUSE_212 : Fld := ⟨.CH_MOD_A, 8, 5⟩
def CH_MOD_A_PAUSE_424 : Fld := ⟨.CH_MOD_A, 16, 4⟩
def CH_MOD_A_PAUSE_848 : Fld := ⟨.CH_MOD_A, 24, 3⟩
def CH_MOD_ASK_IDX_B : Fld := ⟨.CH_MOD_ASK, 0, 6⟩
def CH_MOD_ASK_IDX_VHBR : Fld := ⟨.CH_MOD_ASK, 8, 6⟩
def CH_MOD_ASK_IDX_F : Fld := ⟨.CH_MOD_ASK, 16, 6⟩
def CH_MOD_ASK_IDX_V : Fld := ⟨.CH_MOD_ASK, 24, 6⟩
def CH_MOD_ASK_V_100 : Fld := ⟨.CH_MOD_ASK, 31, 1⟩
def CH_MOD_SHAPE_PREEMP : Fld := ⟨.CH_MOD_SHAPE, 0, 3⟩
def CH_MOD_SHAPE_EDGE : Fld := ⟨.CH_MOD_SHAPE, 8, 2⟩
def CH_RAMP_UP : Fld := ⟨.CH_RAMP, 0, 10⟩
def CH_RAMP_DOWN : Fld := ⟨.CH_RAMP, 16, 10⟩
def CH_RAMP_SHAPE : Fld := ⟨.CH_RAMP, 28, 1⟩
def CH_TUNE_SER : Fld := ⟨.CH_TUNE, 0, 7⟩
def CH_TUNE_SHUNT : Fld := ⟨.CH_TUNE, 8, 6⟩
def CH_TUNE_PENDING : Fld := ⟨.CH_TUNE, 16, 1⟩
def CH_TUNE_CAL_SER : Fld := ⟨.CH_TUNE_CAL, 0, 7⟩
def CH_TUNE_CAL_SHUNT : Fld := ⟨.CH_TUNE_CAL, 8, 6⟩
def CH_TUNE_CTL_AUTO : Fld := ⟨.CH_TUNE_CTL, 0, 1⟩
def CH_TUNE_CTL_SPAN : Fld := ⟨.CH_TUNE_CTL, 4, 4⟩
def CH_TUNE_CTL_RL_THR : Fld := ⟨.CH_TUNE_CTL, 8, 8⟩
def CH_TUNE_STAT_RL : Fld := ⟨.CH_TUNE_STAT, 0, 8⟩
def CH_TUNE_STAT_SIDE : Fld := ⟨.CH_TUNE_STAT, 8, 2⟩
def CH_TUNE_STAT_LOW : Fld := ⟨.CH_TUNE_STAT, 12, 1⟩
def CH_TUNE_STAT_STUCK : Fld := ⟨.CH_TUNE_STAT, 13, 1⟩
def CH_TUNE_STAT_AT_SPAN : Fld := ⟨.CH_TUNE_STAT, 14, 1⟩
def CH_PWR_LIM_MW : Fld := ⟨.CH_PWR_LIM, 0, 10⟩
def CH_PWR_MEAS_MW : Fld := ⟨.CH_PWR_MEAS, 0, 12⟩
def CH_PWR_MEAS_PEAK : Fld := ⟨.CH_PWR_MEAS, 16, 12⟩
def CH_LIM_STAT_TRIP : Fld := ⟨.CH_LIM_STAT, 0, 1⟩
def CH_LIM_STAT_TRIPS : Fld := ⟨.CH_LIM_STAT, 8, 8⟩
def CH_FEN_STAT_A_REQ : Fld := ⟨.CH_FEN_STAT, 0, 1⟩
def CH_FEN_STAT_B_ALLOW : Fld := ⟨.CH_FEN_STAT, 1, 1⟩
def CH_FEN_STAT_DRIVING : Fld := ⟨.CH_FEN_STAT, 2, 1⟩
def CH_FEN_STAT_B_CAUSE : Fld := ⟨.CH_FEN_STAT, 8, 6⟩
def CH_FEN_STAT_CHAIN_FAULT : Fld := ⟨.CH_FEN_STAT, 16, 1⟩
def CH_RX_CTL_SRC : Fld := ⟨.CH_RX_CTL, 0, 2⟩
def CH_RX_CTL_FIR_SRC : Fld := ⟨.CH_RX_CTL, 4, 3⟩
def CH_RX_CTL_COMB : Fld := ⟨.CH_RX_CTL, 8, 1⟩
def CH_RX_CTL_DC_SUB : Fld := ⟨.CH_RX_CTL, 9, 1⟩
def CH_RX_CTL_STD : Fld := ⟨.CH_RX_CTL, 12, 1⟩
def CH_RX_SHIFT_HB1 : Fld := ⟨.CH_RX_SHIFT, 0, 2⟩
def CH_RX_SHIFT_HB2 : Fld := ⟨.CH_RX_SHIFT, 4, 2⟩
def CH_RX_SHIFT_HB3 : Fld := ⟨.CH_RX_SHIFT, 8, 2⟩
def CH_RX_SHIFT_HB4 : Fld := ⟨.CH_RX_SHIFT, 12, 2⟩
def CH_RX_SHIFT_HB5 : Fld := ⟨.CH_RX_SHIFT, 16, 2⟩
def CH_RX_SHIFT_CAP : Fld := ⟨.CH_RX_SHIFT, 20, 2⟩
def CH_RX_FIR_ACTIVE : Fld := ⟨.CH_RX_FIR, 0, 1⟩
def CH_RX_FIR_SWITCH : Fld := ⟨.CH_RX_FIR, 1, 1⟩
def CH_RX_FIR_FADE : Fld := ⟨.CH_RX_FIR, 4, 3⟩
def CH_RX_FIR_FADING : Fld := ⟨.CH_RX_FIR, 8, 1⟩
def CH_RX_FIR_PENDING : Fld := ⟨.CH_RX_FIR, 9, 1⟩
def CH_RX_FIR_WR_REFUSED : Fld := ⟨.CH_RX_FIR, 12, 1⟩
def CH_RX_RS_M : Fld := ⟨.CH_RX_RS, 0, 25⟩
def CH_RX_AGC_MODE : Fld := ⟨.CH_RX_AGC, 0, 1⟩
def CH_RX_AGC_GAIN_MAN : Fld := ⟨.CH_RX_AGC, 8, 5⟩
def CH_RX_AGC_GAIN_NOW : Fld := ⟨.CH_RX_AGC, 16, 5⟩
def CH_RX_AGC_TARGET : Fld := ⟨.CH_RX_AGC, 24, 4⟩
def CH_RX_AGC_STATE : Fld := ⟨.CH_RX_AGC, 28, 2⟩
def CH_RX_EST_C_AMP : Fld := ⟨.CH_RX_EST_C, 0, 16⟩
def CH_RX_EST_C_PHASE : Fld := ⟨.CH_RX_EST_C, 16, 10⟩
def CH_RX_EST_F_AMP_AMP : Fld := ⟨.CH_RX_EST_F_AMP, 0, 24⟩
def CH_RX_EST_F_PH_PHASE : Fld := ⟨.CH_RX_EST_F_PH, 0, 16⟩
def CH_RX_EST_F_PH_HELD : Fld := ⟨.CH_RX_EST_F_PH, 16, 1⟩
def CH_RX_FINE_TAU : Fld := ⟨.CH_RX_FINE, 0, 13⟩
def CH_RX_CAP_RUN : Fld := ⟨.CH_RX_CAP, 0, 1⟩
def CH_RX_CAP_POINT : Fld := ⟨.CH_RX_CAP, 4, 2⟩
def CH_RX_CAP_DOUBLE : Fld := ⟨.CH_RX_CAP, 8, 1⟩
def CH_RX_SAT_ADC : Fld := ⟨.CH_RX_SAT, 0, 1⟩
def CH_RX_SAT_HB : Fld := ⟨.CH_RX_SAT, 1, 5⟩
def CH_RX_SAT_FIR : Fld := ⟨.CH_RX_SAT, 6, 1⟩
def CH_RX_SAT_RESAMP : Fld := ⟨.CH_RX_SAT, 7, 1⟩
def CH_RX_SAT_CAP : Fld := ⟨.CH_RX_SAT, 8, 1⟩
def CH_RX_LAT_TC : Fld := ⟨.CH_RX_LAT, 0, 12⟩
def CH_RX_LAT_QUARTER : Fld := ⟨.CH_RX_LAT, 12, 2⟩
def CH_RX_COEF_A_C : Fld := ⟨.CH_RX_COEF_A, 0, 18⟩
def CH_RX_COEF_B_C : Fld := ⟨.CH_RX_COEF_B, 0, 18⟩
def CH_DEM_CTL_MARGIN : Fld := ⟨.CH_DEM_CTL, 0, 5⟩
def CH_DEM_CTL_CAPTURE_EN : Fld := ⟨.CH_DEM_CTL, 5, 1⟩
def CH_DEM_CTL_SOF_THR : Fld := ⟨.CH_DEM_CTL, 8, 4⟩
def CH_DEM_CTL_COLL_THR : Fld := ⟨.CH_DEM_CTL, 16, 8⟩
def CH_FRM_CTL_B_SOF_LOW : Fld := ⟨.CH_FRM_CTL, 0, 1⟩
def CH_FRM_CTL_B_SOF_HIGH : Fld := ⟨.CH_FRM_CTL, 1, 1⟩
def CH_FRM_CTL_B_EOF_LOW : Fld := ⟨.CH_FRM_CTL, 2, 1⟩
def CH_FRM_CTL_B_EGT_TX : Fld := ⟨.CH_FRM_CTL, 4, 2⟩
def CH_FRM_CTL_F_PRE : Fld := ⟨.CH_FRM_CTL, 8, 4⟩
def CH_FRM_CTL_F_POL : Fld := ⟨.CH_FRM_CTL, 12, 2⟩
def CH_FRM_LAST_STATUS : Fld := ⟨.CH_FRM_LAST, 0, 8⟩
def CH_FRM_LAST_LAST_BITS : Fld := ⟨.CH_FRM_LAST, 8, 3⟩
def CH_FRM_LAST_LEN : Fld := ⟨.CH_FRM_LAST, 16, 13⟩
def CH_FRM_COLL_POS : Fld := ⟨.CH_FRM_COLL, 0, 16⟩
def CH_FRM_COLL_COUNT : Fld := ⟨.CH_FRM_COLL, 16, 8⟩
def CH_FRM_COLL_CAPTURED : Fld := ⟨.CH_FRM_COLL, 24, 1⟩
def CH_FRM_COLL_SEPARATED : Fld := ⟨.CH_FRM_COLL, 25, 1⟩
def CH_FRM_ERR_POS : Fld := ⟨.CH_FRM_ERR, 0, 16⟩
def CH_FRM_ERR_KIND : Fld := ⟨.CH_FRM_ERR, 16, 4⟩
def CH_FRM_TIME_FDT : Fld := ⟨.CH_FRM_TIME, 0, 24⟩
def CH_FRM_QUAL_RATE_ERR : Fld := ⟨.CH_FRM_QUAL, 0, 8⟩
def CH_FRM_QUAL_SNR : Fld := ⟨.CH_FRM_QUAL, 8, 8⟩
def CH_FRM_QUAL_FALSE_SOF : Fld := ⟨.CH_FRM_QUAL, 16, 8⟩
def ARB_CTL_PILOT_EN : Fld := ⟨.ARB_CTL, 0, 1⟩
def ARB_CTL_JOINT_EN : Fld := ⟨.ARB_CTL, 1, 1⟩
def ARB_CTL_ATTR_EN : Fld := ⟨.ARB_CTL, 2, 1⟩
def ARB_CTL_SEAM_LO_EN : Fld := ⟨.ARB_CTL, 4, 1⟩
def ARB_CTL_SEAM_HI_EN : Fld := ⟨.ARB_CTL, 5, 1⟩
def ARB_PILOT_LVL : Fld := ⟨.ARB_PILOT, 0, 8⟩
def ARB_PILOT_PERIOD : Fld := ⟨.ARB_PILOT, 16, 14⟩
def ARB_PILOT_CFG_AVG : Fld := ⟨.ARB_PILOT_CFG, 0, 2⟩
def ARB_PILOT_CFG_JUMP : Fld := ⟨.ARB_PILOT_CFG, 8, 8⟩
def ARB_PILOT_CFG_STALE : Fld := ⟨.ARB_PILOT_CFG, 16, 16⟩
def ARB_CM_STAT_VALID : Fld := ⟨.ARB_CM_STAT, 0, 8⟩
def ARB_CM_STAT_STALE : Fld := ⟨.ARB_CM_STAT, 8, 8⟩
def ARB_CM_STAT_CHANGED : Fld := ⟨.ARB_CM_STAT, 16, 8⟩
def ARB_CM_STAT_SEAM_LO_VALID : Fld := ⟨.ARB_CM_STAT, 24, 1⟩
def ARB_CM_STAT_SEAM_HI_VALID : Fld := ⟨.ARB_CM_STAT, 25, 1⟩
def ARB_CM_STAT_SEAM_REMOTE : Fld := ⟨.ARB_CM_STAT, 26, 1⟩
def ARB_CM_STAT_SEAM_MAG_ONLY : Fld := ⟨.ARB_CM_STAT, 27, 1⟩
def ARB_CM_AGE_AGE_LO : Fld := ⟨.ARB_CM_AGE, 0, 16⟩
def ARB_CM_AGE_AGE_HI : Fld := ⟨.ARB_CM_AGE, 16, 16⟩
def ARB_SEP_CORR : Fld := ⟨.ARB_SEP, 0, 8⟩
def ARB_SEP_FIT : Fld := ⟨.ARB_SEP, 8, 8⟩
def ARB_SEP_EIG : Fld := ⟨.ARB_SEP, 16, 5⟩
def ARB_SEP_STAT_LAST : Fld := ⟨.ARB_SEP_STAT, 0, 4⟩
def ARB_SEP_STAT_COMB_SAT : Fld := ⟨.ARB_SEP_STAT, 4, 1⟩
def ARB_SEP_STAT_ACCEPTS : Fld := ⟨.ARB_SEP_STAT, 8, 8⟩
def ARB_SEP_STAT_DECLINES : Fld := ⟨.ARB_SEP_STAT, 16, 8⟩
def ARB_SEP_LAST_RHO : Fld := ⟨.ARB_SEP_LAST, 0, 8⟩
def ARB_SEP_LAST_FITV : Fld := ⟨.ARB_SEP_LAST, 8, 8⟩
def ARB_SEP_LAST_SPAN : Fld := ⟨.ARB_SEP_LAST, 16, 8⟩
def ARB_ATTR_MIN : Fld := ⟨.ARB_ATTR, 0, 8⟩
def ARB_ATTR_GAP : Fld := ⟨.ARB_ATTR, 8, 8⟩
def ARB_ATTR_LOW : Fld := ⟨.ARB_ATTR, 16, 8⟩
def ARB_ATTR_LAST_SLOT : Fld := ⟨.ARB_ATTR_LAST, 0, 4⟩
def ARB_ATTR_LAST_CLASS : Fld := ⟨.ARB_ATTR_LAST, 4, 2⟩
def ARB_ATTR_LAST_PARTIAL : Fld := ⟨.ARB_ATTR_LAST, 6, 1⟩
def ARB_ATTR_LAST_RHO1 : Fld := ⟨.ARB_ATTR_LAST, 8, 8⟩
def ARB_ATTR_LAST_RHO2 : Fld := ⟨.ARB_ATTR_LAST, 16, 8⟩
def ARB_CT_W_I : Fld := ⟨.ARB_CT_W, 0, 12⟩
def ARB_CT_W_Q : Fld := ⟨.ARB_CT_W, 16, 12⟩
def ARB_CT_DT_DELAY : Fld := ⟨.ARB_CT_DT, 0, 8⟩
def ARB_CT_DT_THR : Fld := ⟨.ARB_CT_DT, 8, 6⟩
def ARB_SEAM_LO_I : Fld := ⟨.ARB_SEAM_LO, 0, 16⟩
def ARB_SEAM_LO_Q : Fld := ⟨.ARB_SEAM_LO, 16, 16⟩
def ARB_SEAM_HI_I : Fld := ⟨.ARB_SEAM_HI, 0, 16⟩
def ARB_SEAM_HI_Q : Fld := ⟨.ARB_SEAM_HI, 16, 16⟩
def ARB_CM_I : Fld := ⟨.ARB_CM, 0, 16⟩
def ARB_CM_Q : Fld := ⟨.ARB_CM, 16, 16⟩
def ARB_FG_CTL_MEMBERS : Fld := ⟨.ARB_FG_CTL, 0, 8⟩
def ARB_FG_CTL_LEADER : Fld := ⟨.ARB_FG_CTL, 8, 3⟩
def ARB_FG_CTL_MODE : Fld := ⟨.ARB_FG_CTL, 12, 2⟩
def ARB_FG_CTL_TARGET : Fld := ⟨.ARB_FG_CTL, 16, 3⟩
def ARB_FG_CTL_NULL_A : Fld := ⟨.ARB_FG_CTL, 20, 4⟩
def ARB_FG_CTL_NULL_B : Fld := ⟨.ARB_FG_CTL, 24, 4⟩
def ARB_FG_CTL_COMB : Fld := ⟨.ARB_FG_CTL, 28, 2⟩
def ARB_FG_CTL_COMB_EN : Fld := ⟨.ARB_FG_CTL, 31, 1⟩
def ARB_FG_STAT_NULL_DEPTH : Fld := ⟨.ARB_FG_STAT, 0, 8⟩
def ARB_FG_STAT_RUNNING : Fld := ⟨.ARB_FG_STAT, 8, 1⟩
def ARB_FG_STAT_REFUSED : Fld := ⟨.ARB_FG_STAT, 9, 1⟩
def ARB_FG_STAT_STALE_USED : Fld := ⟨.ARB_FG_STAT, 10, 1⟩
def ARB_FG_W_I : Fld := ⟨.ARB_FG_W, 0, 10⟩
def ARB_FG_W_Q : Fld := ⟨.ARB_FG_W, 16, 10⟩
def PAV_SEQ_CTL_EN : Fld := ⟨.PAV_SEQ_CTL, 0, 1⟩
def PAV_SEQ_CTL_RUN : Fld := ⟨.PAV_SEQ_CTL, 16, 16⟩
def PAV_SEQ_STAT_PROGS : Fld := ⟨.PAV_SEQ_STAT, 0, 16⟩
def PAV_SEQ_STAT_SCRIPTS : Fld := ⟨.PAV_SEQ_STAT, 16, 16⟩
def PAV_SEQ_GT0_A : Fld := ⟨.PAV_SEQ_GT0, 0, 12⟩
def PAV_SEQ_GT0_VHBR : Fld := ⟨.PAV_SEQ_GT0, 16, 12⟩
def PAV_SEQ_GT1_B106 : Fld := ⟨.PAV_SEQ_GT1, 0, 12⟩
def PAV_SEQ_GT1_B212 : Fld := ⟨.PAV_SEQ_GT1, 16, 12⟩
def PAV_SEQ_GT2_B424 : Fld := ⟨.PAV_SEQ_GT2, 0, 12⟩
def PAV_SEQ_GT2_B848 : Fld := ⟨.PAV_SEQ_GT2, 16, 12⟩
def PAV_SEQ_GT3_F : Fld := ⟨.PAV_SEQ_GT3, 0, 12⟩
def PAV_SEQ_GT3_V : Fld := ⟨.PAV_SEQ_GT3, 16, 13⟩
def PAV_SEQ_FIELD_GT_US : Fld := ⟨.PAV_SEQ_FIELD_GT, 0, 15⟩
def PAV_SEQ_DEP_DFWT : Fld := ⟨.PAV_SEQ_DEP, 0, 8⟩
def PAV_SEQ_DEP_RETRY : Fld := ⟨.PAV_SEQ_DEP, 8, 2⟩
def PAV_SEQ_DEP_FWT_CAP : Fld := ⟨.PAV_SEQ_DEP, 16, 16⟩
def PAV_SEQ_HOST_WAIT : Fld := ⟨.PAV_SEQ_HOST, 0, 16⟩
def PAV_SEQ_PRES_LEFT_CYCLES : Fld := ⟨.PAV_SEQ_PRES, 0, 4⟩
def PAV_SEQ_SKIPS_COUNT : Fld := ⟨.PAV_SEQ_SKIPS, 0, 16⟩
def PAV_BLV_CTL_EN : Fld := ⟨.PAV_BLV_CTL, 0, 1⟩
def PAV_BLV_CTL_WAKE : Fld := ⟨.PAV_BLV_CTL, 1, 1⟩
def PAV_BLV_CTL_CONFIRM : Fld := ⟨.PAV_BLV_CTL, 4, 2⟩
def PAV_BLV_CTL_PERIOD : Fld := ⟨.PAV_BLV_CTL, 16, 10⟩
def PAV_BLV_STAT_DET : Fld := ⟨.PAV_BLV_STAT, 0, 32⟩
def PAV_BLV_SKIP_SKIP : Fld := ⟨.PAV_BLV_SKIP, 0, 32⟩
def CH_BLV_THR_AMP : Fld := ⟨.CH_BLV_THR, 0, 8⟩
def CH_BLV_THR_PH : Fld := ⟨.CH_BLV_THR, 8, 8⟩
def CH_BLV_THR_DRIFT : Fld := ⟨.CH_BLV_THR, 16, 8⟩
def CH_BLV_THR_EXCL : Fld := ⟨.CH_BLV_THR, 24, 1⟩
def CH_BLV_BASE_AMP : Fld := ⟨.CH_BLV_BASE, 0, 16⟩
def CH_BLV_BASE_PH : Fld := ⟨.CH_BLV_BASE, 16, 12⟩
def CH_BLV_MEAS_AMP : Fld := ⟨.CH_BLV_MEAS, 0, 16⟩
def CH_BLV_MEAS_PH : Fld := ⟨.CH_BLV_MEAS, 16, 12⟩
def CH_BLV_CMD_ADOPT : Fld := ⟨.CH_BLV_CMD, 0, 1⟩
def CH_SEQ_STAT_PROG : Fld := ⟨.CH_SEQ_STAT, 0, 5⟩
def CH_SEQ_STAT_PRESENT : Fld := ⟨.CH_SEQ_STAT, 8, 4⟩
def CH_SEQ_STAT_PHASE : Fld := ⟨.CH_SEQ_STAT, 12, 3⟩
def CH_LSN_CTL_IMAGE : Fld := ⟨.CH_LSN_CTL, 0, 7⟩
def CH_LSN_CTL_FWD : Fld := ⟨.CH_LSN_CTL, 8, 2⟩
def CH_LSN_CTL_T4_EN : Fld := ⟨.CH_LSN_CTL, 12, 1⟩
def CH_LSN_CTL_WRITE_EN : Fld := ⟨.CH_LSN_CTL, 13, 1⟩
def CH_LSN_CTL_ARB_EXCL : Fld := ⟨.CH_LSN_CTL, 16, 1⟩
def CH_LSN_FD_ON : Fld := ⟨.CH_LSN_FD, 0, 8⟩
def CH_LSN_FD_OFF : Fld := ⟨.CH_LSN_FD, 8, 8⟩
def CH_LSN_ID_UID_MODE : Fld := ⟨.CH_LSN_ID, 0, 2⟩
def CH_LSN_UID0_UID : Fld := ⟨.CH_LSN_UID0, 0, 32⟩
def CH_LSN_UID1_UID : Fld := ⟨.CH_LSN_UID1, 0, 24⟩
def CH_LSN_ATS_FSCI : Fld := ⟨.CH_LSN_ATS, 0, 4⟩
def CH_LSN_ATS_FWI : Fld := ⟨.CH_LSN_ATS, 4, 4⟩
def CH_LSN_ATS_SFGI : Fld := ⟨.CH_LSN_ATS, 8, 4⟩
def CH_LSN_ATS_RATES : Fld := ⟨.CH_LSN_ATS, 12, 2⟩
def CH_LSN_ATS_SAME_RATE : Fld := ⟨.CH_LSN_ATS, 15, 1⟩
def CH_LSN_ATS_CID_EN : Fld := ⟨.CH_LSN_ATS, 16, 1⟩
def CH_LSN_ATS_HIST_LEN : Fld := ⟨.CH_LSN_ATS, 20, 4⟩
def CH_LSN_WTX_WTXM : Fld := ⟨.CH_LSN_WTX, 0, 6⟩
def CH_LSN_ERR_SW : Fld := ⟨.CH_LSN_ERR, 0, 16⟩
def CH_LSN_HIST_BYTES : Fld := ⟨.CH_LSN_HIST, 0, 32⟩
def CH_LSN_STAT_FIELD : Fld := ⟨.CH_LSN_STAT, 0, 1⟩
def CH_LSN_STAT_STATE : Fld := ⟨.CH_LSN_STAT, 4, 3⟩
def CH_LSN_STAT_FREQ_OFS : Fld := ⟨.CH_LSN_STAT, 16, 16⟩
def PAV_LISTEN_HOST_CAP_MS : Fld := ⟨.PAV_LISTEN_HOST_CAP, 0, 13⟩
def SYS_TAGMEM_STAT_FREE : Fld := ⟨.SYS_TAGMEM_STAT, 0, 9⟩
def SYS_TAGMEM_STAT_SHADOW : Fld := ⟨.SYS_TAGMEM_STAT, 16, 9⟩
def SYS_TAGMEM_PERSIST_PAGES : Fld := ⟨.SYS_TAGMEM_PERSIST, 0, 3⟩
def LDG_EH_EN : Fld := ⟨.LDG_EH, 0, 1⟩
def LDG_EH_WAKE_EN : Fld := ⟨.LDG_EH, 1, 1⟩
def LDG_EH_ACTIVE : Fld := ⟨.LDG_EH, 8, 1⟩
def LDG_EH_WAKE_SEEN : Fld := ⟨.LDG_EH, 9, 1⟩
def CH_ROLE_ROLE : Fld := ⟨.CH_ROLE, 0, 3⟩
def CH_ROLE_HOME : Fld := ⟨.CH_ROLE, 4, 3⟩
def CH_ROLE_GEN : Fld := ⟨.CH_ROLE, 8, 8⟩
def CH_ROLE_BORROWED : Fld := ⟨.CH_ROLE, 16, 1⟩
def CH_ROLE_PENDING : Fld := ⟨.CH_ROLE, 17, 1⟩
def CH_SESS_SESS0 : Fld := ⟨.CH_SESS, 0, 9⟩
def CH_SESS_SESS1 : Fld := ⟨.CH_SESS, 16, 9⟩
def SYS_SESS_STAT_ACTIVE : Fld := ⟨.SYS_SESS_STAT, 0, 9⟩
def SYS_SESS_STAT_PEAK : Fld := ⟨.SYS_SESS_STAT, 16, 9⟩
def SYS_SESS_FULL_COUNT : Fld := ⟨.SYS_SESS_FULL, 0, 16⟩
def CH_ADM_STAT_WAIT : Fld := ⟨.CH_ADM_STAT, 0, 1⟩
def CH_ADM_STAT_CAUSE : Fld := ⟨.CH_ADM_STAT, 8, 6⟩
def CH_DUTY_ON_US : Fld := ⟨.CH_DUTY, 0, 20⟩
def CH_SHP_CTL_EN : Fld := ⟨.CH_SHP_CTL, 0, 1⟩
def CH_SHP_CTL_IDLE : Fld := ⟨.CH_SHP_CTL, 16, 10⟩
def CH_SHP_HI_HI : Fld := ⟨.CH_SHP_HI, 0, 20⟩
def CH_SHP_LO_LO : Fld := ⟨.CH_SHP_LO, 0, 20⟩
def CH_SHP_CREDIT_CREDIT : Fld := ⟨.CH_SHP_CREDIT, 0, 24⟩
def PAV_BKT_RATE_RATE : Fld := ⟨.PAV_BKT_RATE, 0, 14⟩
def PAV_BKT_DEPTH_DEPTH : Fld := ⟨.PAV_BKT_DEPTH, 0, 14⟩
def PAV_BKT_LEVEL_TOKENS : Fld := ⟨.PAV_BKT_LEVEL, 0, 24⟩
def PAV_BKT_RSV_RESERVED : Fld := ⟨.PAV_BKT_RSV, 0, 24⟩
def PAV_LOCK_BUDGET : Fld := ⟨.PAV_LOCK, 0, 14⟩
def PAV_LOCK_DUTY : Fld := ⟨.PAV_LOCK, 16, 10⟩
def PAV_BKT_STAT_REFUSED : Fld := ⟨.PAV_BKT_STAT, 0, 1⟩
def PAV_GATE_CTL_EN : Fld := ⟨.PAV_GATE_CTL, 0, 1⟩
def PAV_GATE_CTL_CHANGE : Fld := ⟨.PAV_GATE_CTL, 1, 1⟩
def PAV_GATE_CTL_CANCEL : Fld := ⟨.PAV_GATE_CTL, 2, 1⟩
def PAV_GATE_CTL_ADMIN_LEN : Fld := ⟨.PAV_GATE_CTL, 8, 7⟩
def PAV_GATE_BASE_L_NS : Fld := ⟨.PAV_GATE_BASE_L, 0, 32⟩
def PAV_GATE_BASE_H_NS : Fld := ⟨.PAV_GATE_BASE_H, 0, 32⟩
def PAV_GATE_CYCLE_NS : Fld := ⟨.PAV_GATE_CYCLE, 0, 32⟩
def PAV_GATE_STAT_OPER_VALID : Fld := ⟨.PAV_GATE_STAT, 0, 1⟩
def PAV_GATE_STAT_PENDING : Fld := ⟨.PAV_GATE_STAT, 1, 1⟩
def PAV_GATE_STAT_FALLBACK : Fld := ⟨.PAV_GATE_STAT, 2, 1⟩
def PAV_GATE_STAT_ADMIN_ERR : Fld := ⟨.PAV_GATE_STAT, 3, 1⟩
def PAV_GATE_STAT_ENTRY : Fld := ⟨.PAV_GATE_STAT, 8, 6⟩
def PAV_GATE_STAT_OPEN : Fld := ⟨.PAV_GATE_STAT, 16, 4⟩
def PAV_GATE_STAT_OPER_LEN : Fld := ⟨.PAV_GATE_STAT, 24, 7⟩
def PAV_GATE_CHG_L_NS : Fld := ⟨.PAV_GATE_CHG_L, 0, 32⟩
def PAV_GATE_CHG_H_NS : Fld := ⟨.PAV_GATE_CHG_H, 0, 32⟩
def PAV_GATE_CUTS_COUNT : Fld := ⟨.PAV_GATE_CUTS, 0, 16⟩
def PAV_GATE_FB_OPEN_US : Fld := ⟨.PAV_GATE_FB_OPEN, 0, 23⟩
def PAV_GATE_FB_PERIOD_US : Fld := ⟨.PAV_GATE_FB_PERIOD, 0, 23⟩
def PAV_GATE_FB_CFG_MASK : Fld := ⟨.PAV_GATE_FB_CFG, 0, 4⟩
def PAV_GATE_FB_CFG_PRI : Fld := ⟨.PAV_GATE_FB_CFG, 4, 1⟩
def PAV_GATE_OPER_CYCLE_NS : Fld := ⟨.PAV_GATE_OPER_CYCLE, 0, 32⟩
def PAV_COEX_EN : Fld := ⟨.PAV_COEX, 0, 1⟩
def PAV_COEX_LEAD : Fld := ⟨.PAV_COEX, 16, 8⟩
def PAV_COEX_GNT : Fld := ⟨.PAV_COEX, 24, 1⟩
def PAV_COEX_REQ : Fld := ⟨.PAV_COEX, 25, 1⟩
def PAV_COEX_STAT_REVOKES : Fld := ⟨.PAV_COEX_STAT, 0, 16⟩
def PAV_GCL_ADMIN_D_DURATION : Fld := ⟨.PAV_GCL_ADMIN_D, 0, 32⟩
def PAV_GCL_ADMIN_M_OPEN : Fld := ⟨.PAV_GCL_ADMIN_M, 0, 4⟩
def PAV_GCL_ADMIN_M_PRI : Fld := ⟨.PAV_GCL_ADMIN_M, 4, 1⟩
def PAV_GCL_OPER_D_DURATION : Fld := ⟨.PAV_GCL_OPER_D, 0, 32⟩
def PAV_GCL_OPER_M_OPEN : Fld := ⟨.PAV_GCL_OPER_M, 0, 4⟩
def PAV_GCL_OPER_M_PRI : Fld := ⟨.PAV_GCL_OPER_M, 4, 1⟩
def SHP_LOCK_STAT_REG_LOCK : Fld := ⟨.SHP_LOCK_STAT, 0, 1⟩
def SHP_COEX_PRI_MODE : Fld := ⟨.SHP_COEX_PRI, 0, 2⟩
def SHP_CH_EN_LOCK_MAP : Fld := ⟨.SHP_CH_EN_LOCK, 0, 32⟩
def HIF_RING_BASE_L_ADDR : Fld := ⟨.HIF_RING_BASE_L, 6, 26⟩
def HIF_RING_BASE_H_ADDR : Fld := ⟨.HIF_RING_BASE_H, 0, 32⟩
def HIF_RING_CFG_EN : Fld := ⟨.HIF_RING_CFG, 0, 1⟩
def HIF_RING_CFG_IRQ_EMPTY : Fld := ⟨.HIF_RING_CFG, 1, 1⟩
def HIF_RING_CFG_LOG2_SIZE : Fld := ⟨.HIF_RING_CFG, 8, 5⟩
def HIF_RING_CFG_EVQ : Fld := ⟨.HIF_RING_CFG, 16, 5⟩
def HIF_RING_HEAD_INDEX : Fld := ⟨.HIF_RING_HEAD, 0, 16⟩
def HIF_RING_TAIL_INDEX : Fld := ⟨.HIF_RING_TAIL, 0, 16⟩
def HIF_RING_STAT_PHASE : Fld := ⟨.HIF_RING_STAT, 0, 1⟩
def HIF_RING_STAT_DB_ERR : Fld := ⟨.HIF_RING_STAT, 1, 1⟩
def HIF_RING_STAT_FETCH_ERR : Fld := ⟨.HIF_RING_STAT, 2, 1⟩
def HIF_RING_STAT_FULL : Fld := ⟨.HIF_RING_STAT, 3, 1⟩
def HIF_RING_POL_RATE : Fld := ⟨.HIF_RING_POL, 0, 24⟩
def HIF_RING_BURST_BURST : Fld := ⟨.HIF_RING_BURST, 0, 16⟩
def HIF_RING_TOKENS_TOKENS : Fld := ⟨.HIF_RING_TOKENS, 0, 16⟩
def HIF_RING_MOD_COUNT : Fld := ⟨.HIF_RING_MOD, 0, 8⟩
def HIF_RING_MOD_TIME : Fld := ⟨.HIF_RING_MOD, 16, 10⟩
def HIF_RING_DROPS_COUNT : Fld := ⟨.HIF_RING_DROPS, 0, 16⟩
def HIF_CTL_DEV_EVQ : Fld := ⟨.HIF_CTL, 0, 5⟩
def HIF_CTL_DEV_EV_EN : Fld := ⟨.HIF_CTL, 8, 1⟩
def HIF_LINK_SPEED : Fld := ⟨.HIF_LINK, 0, 4⟩
def HIF_LINK_WIDTH : Fld := ⟨.HIF_LINK, 4, 6⟩
def HIF_MISC_STAT_CAUSE : Fld := ⟨.HIF_MISC_STAT, 0, 8⟩
def HIF_MISC_EN_EN : Fld := ⟨.HIF_MISC_EN, 0, 8⟩
def HIF_UNSOL_DROP_COUNT : Fld := ⟨.HIF_UNSOL_DROP, 0, 16⟩
def HIF_UNSOL_MAP_MAP : Fld := ⟨.HIF_UNSOL_MAP, 0, 32⟩
def CH_CAP_CTL_PRIO : Fld := ⟨.CH_CAP_CTL, 0, 2⟩
def CH_CAP_CTL_PROG : Fld := ⟨.CH_CAP_CTL, 8, 3⟩
def CH_CAP_STAT_STATE : Fld := ⟨.CH_CAP_STAT, 0, 2⟩
def CH_CAP_STAT_CAUSE : Fld := ⟨.CH_CAP_STAT, 4, 4⟩
def CH_CAP_STAT_FILL : Fld := ⟨.CH_CAP_STAT, 16, 9⟩
def CH_CAP_IDX_L_IDX : Fld := ⟨.CH_CAP_IDX_L, 0, 32⟩
def CH_CAP_IDX_H_IDX : Fld := ⟨.CH_CAP_IDX_H, 0, 32⟩
def CH_CAP_GAPS_COUNT : Fld := ⟨.CH_CAP_GAPS, 0, 16⟩
def CH_OUTQ_USED : Fld := ⟨.CH_OUTQ, 0, 6⟩
def CH_OUTQ_WAIT : Fld := ⟨.CH_OUTQ, 8, 1⟩
def CH_OUTQ_DATA : Fld := ⟨.CH_OUTQ, 9, 1⟩
def CH_OUTQ_LSN_REFUSED : Fld := ⟨.CH_OUTQ, 16, 8⟩
def HIF_CAP_BUDGET_MBPS : Fld := ⟨.HIF_CAP_BUDGET, 0, 16⟩
def HIF_CAP_LOAD_KSPS : Fld := ⟨.HIF_CAP_LOAD, 0, 20⟩
def HIF_CAP_LOAD_STREAMS : Fld := ⟨.HIF_CAP_LOAD, 20, 8⟩
def HIF_CAP_FABRIC_KSPS : Fld := ⟨.HIF_CAP_FABRIC, 0, 20⟩
def HIF_CAP_FABRIC_SUSPENDED : Fld := ⟨.HIF_CAP_FABRIC, 20, 8⟩
def HIF_DEVQ_USED : Fld := ⟨.HIF_DEVQ, 0, 8⟩
def HIF_DEVQ_COALESCED : Fld := ⟨.HIF_DEVQ, 16, 16⟩
def SYS_LEDGER_CTL_HOLDOFF : Fld := ⟨.SYS_LEDGER_CTL, 0, 16⟩
def SYS_LEDGER_CTL_UNLOCKED : Fld := ⟨.SYS_LEDGER_CTL, 16, 1⟩
def SYS_LEDGER_CTL_PROBE_MAX : Fld := ⟨.SYS_LEDGER_CTL, 20, 5⟩
def SYS_LEDGER_CONFIRM_MS : Fld := ⟨.SYS_LEDGER_CONFIRM, 0, 13⟩
def SYS_LEDGER_TZ_OFS_MIN : Fld := ⟨.SYS_LEDGER_TZ, 0, 12⟩
def SYS_LEDGER_TZ_LEAP_S : Fld := ⟨.SYS_LEDGER_TZ, 16, 8⟩
def SYS_LEDGER_STAT_ATTACHED : Fld := ⟨.SYS_LEDGER_STAT, 0, 1⟩
def SYS_LEDGER_STAT_KEY_SLOT : Fld := ⟨.SYS_LEDGER_STAT, 8, 4⟩
def SYS_LEDGER_STAT_LOG2_ENTRIES : Fld := ⟨.SYS_LEDGER_STAT, 16, 5⟩
def SYS_LEDGER_STAT_PENDING : Fld := ⟨.SYS_LEDGER_STAT, 24, 7⟩
def SYS_LEDGER_BASE_L_ADDR : Fld := ⟨.SYS_LEDGER_BASE_L, 0, 32⟩
def SYS_LEDGER_BASE_H_ADDR : Fld := ⟨.SYS_LEDGER_BASE_H, 0, 32⟩
def SYS_LEDGER_HITS_L_COUNT : Fld := ⟨.SYS_LEDGER_HITS_L, 0, 32⟩
def SYS_LEDGER_HITS_H_COUNT : Fld := ⟨.SYS_LEDGER_HITS_H, 0, 32⟩
def SYS_LEDGER_MISS_L_COUNT : Fld := ⟨.SYS_LEDGER_MISS_L, 0, 32⟩
def SYS_LEDGER_MISS_H_COUNT : Fld := ⟨.SYS_LEDGER_MISS_H, 0, 32⟩
def SYS_LEDGER_ERR_SEAL_FAIL : Fld := ⟨.SYS_LEDGER_ERR, 0, 16⟩
def SYS_LEDGER_ERR_READ_ERR : Fld := ⟨.SYS_LEDGER_ERR, 16, 16⟩
def ARB_GRANT_EN : Fld := ⟨.ARB_GRANT, 0, 1⟩
def ARB_GRANT_PULSE : Fld := ⟨.ARB_GRANT, 8, 8⟩
def ARB_GRANT_ACTIVE : Fld := ⟨.ARB_GRANT, 16, 1⟩
def ARB_GRANT_FAULT : Fld := ⟨.ARB_GRANT, 17, 1⟩
def ARB_GRANT_CNT_COUNT : Fld := ⟨.ARB_GRANT_CNT, 0, 16⟩
def CH_ADAPT_LVL_EN : Fld := ⟨.CH_ADAPT, 0, 1⟩
def CH_ADAPT_LVL_MAX : Fld := ⟨.CH_ADAPT, 8, 8⟩
def CH_ADAPT_HEADROOM : Fld := ⟨.CH_ADAPT, 16, 4⟩
def CH_ADAPT_STEP_CYCLES : Fld := ⟨.CH_ADAPT, 24, 4⟩
def CH_ADAPT_STAT_LVL_NOW : Fld := ⟨.CH_ADAPT_STAT, 0, 8⟩
def CH_ADAPT_STAT_ACTIVE : Fld := ⟨.CH_ADAPT_STAT, 8, 1⟩
def PAV_ADAPT_ORDER_EN : Fld := ⟨.PAV_ADAPT, 0, 1⟩
def PAV_ADAPT_FREEZE : Fld := ⟨.PAV_ADAPT, 1, 1⟩
def PAV_ADAPT_ORDER_WINDOW : Fld := ⟨.PAV_ADAPT, 8, 8⟩
def SEC_LC_STATE : Fld := ⟨.SEC_LC, 0, 3⟩
def SEC_SERIAL_L_SERIAL : Fld := ⟨.SEC_SERIAL_L, 0, 32⟩
def SEC_SERIAL_H_SERIAL : Fld := ⟨.SEC_SERIAL_H, 0, 32⟩
def SEC_BOOT_STATE : Fld := ⟨.SEC_BOOT, 0, 3⟩
def SEC_BOOT_SLOT : Fld := ⟨.SEC_BOOT, 4, 1⟩
def SEC_BOOT_SIGNER : Fld := ⟨.SEC_BOOT, 5, 1⟩
def SEC_BOOT_KEY_INDEX : Fld := ⟨.SEC_BOOT, 6, 2⟩
def SEC_BOOT_FAIL_A : Fld := ⟨.SEC_BOOT, 8, 4⟩
def SEC_BOOT_FAIL_B : Fld := ⟨.SEC_BOOT, 12, 4⟩
def SEC_BOOT_SECTION : Fld := ⟨.SEC_BOOT, 16, 2⟩
def SEC_BOOT_VER_VERSION : Fld := ⟨.SEC_BOOT_VER, 0, 32⟩
def SEC_MINVER_VERSION : Fld := ⟨.SEC_MINVER, 0, 32⟩
def SEC_BOOT_CTL_PREFER : Fld := ⟨.SEC_BOOT_CTL, 0, 1⟩
def SEC_BOOT_CTL_ONCE_EN : Fld := ⟨.SEC_BOOT_CTL, 4, 1⟩
def SEC_BOOT_CTL_ONCE_SLOT : Fld := ⟨.SEC_BOOT_CTL, 5, 1⟩
def SEC_BOOT_CTL_REBOOT : Fld := ⟨.SEC_BOOT_CTL, 16, 16⟩
def SEC_OTP_WRITTEN : Fld := ⟨.SEC_OTP, 0, 5⟩
def SEC_OTP_REVOKED : Fld := ⟨.SEC_OTP, 8, 5⟩
def SEC_CK_STAT_CK_LOADED : Fld := ⟨.SEC_CK_STAT, 0, 8⟩
def SEC_CK_STAT_LK_LOADED : Fld := ⟨.SEC_CK_STAT, 16, 4⟩
def SEC_CK_SEL_SLOT : Fld := ⟨.SEC_CK_SEL, 0, 3⟩
def SEC_CK_MARK_L_M : Fld := ⟨.SEC_CK_MARK_L, 0, 32⟩
def SEC_CK_MARK_H_M : Fld := ⟨.SEC_CK_MARK_H, 0, 32⟩
def SEC_CK_HW_L_HW : Fld := ⟨.SEC_CK_HW_L, 0, 32⟩
def SEC_CK_HW_H_HW : Fld := ⟨.SEC_CK_HW_H, 0, 32⟩
def SEC_TOKEN_CTR_L_CTR : Fld := ⟨.SEC_TOKEN_CTR_L, 0, 32⟩
def SEC_TOKEN_CTR_H_CTR : Fld := ⟨.SEC_TOKEN_CTR_H, 0, 32⟩
def SEC_DEBUG_LEVEL : Fld := ⟨.SEC_DEBUG, 0, 2⟩
def SEC_DEBUG_REMAIN : Fld := ⟨.SEC_DEBUG, 16, 16⟩
def SEC_STAT_REG_RECORD_BAD : Fld := ⟨.SEC_STAT, 0, 1⟩
def SEC_STAT_SEAL_REFUSED : Fld := ⟨.SEC_STAT, 1, 1⟩
def SEC_STAT_DEBUG_SEEN : Fld := ⟨.SEC_STAT, 2, 1⟩
def SEC_STAT_AUTH_FAILS : Fld := ⟨.SEC_STAT, 8, 8⟩
def SEC_STAT_REPLAYS : Fld := ⟨.SEC_STAT, 16, 8⟩
def CAL_CTL_STARTUP_EN : Fld := ⟨.CAL_CTL, 0, 1⟩
def CAL_CTL_PILOT_CUP : Fld := ⟨.CAL_CTL, 1, 1⟩
def CAL_CTL_THR_TRIM : Fld := ⟨.CAL_CTL, 2, 1⟩
def CAL_STAT_STARTUP_DONE : Fld := ⟨.CAL_STAT, 0, 6⟩
def CAL_STAT_STARTUP_RUN : Fld := ⟨.CAL_STAT, 8, 6⟩
def CAL_STAT_REF_BUSY : Fld := ⟨.CAL_STAT, 16, 1⟩
def CAL_STAT_REF_BAD : Fld := ⟨.CAL_STAT, 17, 1⟩
def CAL_STAT_DELAY_CLAMP : Fld := ⟨.CAL_STAT, 18, 1⟩
def CAL_STAT_STORE_SKIPPED : Fld := ⟨.CAL_STAT, 19, 1⟩
def CAL_LIMIT_GAIN : Fld := ⟨.CAL_LIMIT, 0, 8⟩
def CAL_LIMIT_PHASE : Fld := ⟨.CAL_LIMIT, 8, 8⟩
def CAL_LIMIT_EYE : Fld := ⟨.CAL_LIMIT, 16, 8⟩
def CAL_LIMIT_EVM : Fld := ⟨.CAL_LIMIT, 24, 8⟩
def CAL_REF_CTL_COUPON : Fld := ⟨.CAL_REF_CTL, 0, 1⟩
def CAL_REF_CTL_DEPTH : Fld := ⟨.CAL_REF_CTL, 8, 8⟩
def CAL_NVM_STAT_BAD : Fld := ⟨.CAL_NVM_STAT, 0, 16⟩
def CAL_MIRROR_CTL_EXPORT : Fld := ⟨.CAL_MIRROR_CTL, 0, 1⟩
def CAL_MIRROR_CTL_IMPORT : Fld := ⟨.CAL_MIRROR_CTL, 1, 1⟩
def CAL_MIRROR_CTL_CS : Fld := ⟨.CAL_MIRROR_CTL, 4, 2⟩
def CAL_MIRROR_CTL_BUSY : Fld := ⟨.CAL_MIRROR_CTL, 8, 1⟩
def CAL_MIRROR_CTL_ERR : Fld := ⟨.CAL_MIRROR_CTL, 9, 1⟩
def CAL_MIRROR_ADDR_ADDR : Fld := ⟨.CAL_MIRROR_ADDR, 12, 16⟩
def CAL_TEMP_DIE : Fld := ⟨.CAL_TEMP, 0, 10⟩
def CH_CUP_ERR_GAIN : Fld := ⟨.CH_CUP_ERR, 0, 16⟩
def CH_CUP_ERR_PHASE : Fld := ⟨.CH_CUP_ERR, 16, 16⟩
def CH_CUP_EYE_EYE : Fld := ⟨.CH_CUP_EYE, 0, 8⟩
def CH_CUP_EYE_EVM : Fld := ⟨.CH_CUP_EYE, 8, 12⟩
def CH_CUP_EYE_WITHIN : Fld := ⟨.CH_CUP_EYE, 24, 1⟩
def CH_CAL_SETS_VALID : Fld := ⟨.CH_CAL_SETS, 0, 5⟩
def CH_CAL_SETS_LOWER : Fld := ⟨.CH_CAL_SETS, 8, 3⟩
def CH_CAL_SETS_UPPER : Fld := ⟨.CH_CAL_SETS, 12, 3⟩
def CH_CAL_SETS_REF_VALID : Fld := ⟨.CH_CAL_SETS, 16, 1⟩
def CH_CAL_LAST_TEMP : Fld := ⟨.CH_CAL_LAST, 0, 10⟩
def CH_CAL_LAST_PROC : Fld := ⟨.CH_CAL_LAST, 16, 4⟩
def CH_CAL_SET_T0_T0 : Fld := ⟨.CH_CAL_SET_T0, 0, 10⟩
def CH_CAL_SET_T0_T1 : Fld := ⟨.CH_CAL_SET_T0, 16, 10⟩
def CH_CAL_SET_T2_T2 : Fld := ⟨.CH_CAL_SET_T2, 0, 10⟩
def CH_CAL_SET_T2_T3 : Fld := ⟨.CH_CAL_SET_T2, 16, 10⟩
def CH_CAL_SET_T4_T4 : Fld := ⟨.CH_CAL_SET_T4, 0, 10⟩
def CH_CAL_DRIP_PHASE_LEFT : Fld := ⟨.CH_CAL_DRIP, 0, 10⟩
def CH_CAL_DRIP_GAIN_LEFT : Fld := ⟨.CH_CAL_DRIP, 16, 12⟩
def CH_CAL_DRIP_HELD : Fld := ⟨.CH_CAL_DRIP, 31, 1⟩
def FLT_CTL_PRM_SEND : Fld := ⟨.FLT_CTL, 0, 1⟩
def FLT_CTL_REMOTE_SAFE : Fld := ⟨.FLT_CTL, 1, 1⟩
def FLT_STAT_SAFE : Fld := ⟨.FLT_STAT, 0, 1⟩
def FLT_STAT_GUAR : Fld := ⟨.FLT_STAT, 1, 1⟩
def FLT_STAT_POST_PASS : Fld := ⟨.FLT_STAT, 2, 1⟩
def FLT_STAT_STEST_FAIL : Fld := ⟨.FLT_STAT, 3, 1⟩
def FLT_STAT_ISO_ANY : Fld := ⟨.FLT_STAT, 4, 1⟩
def FLT_STAT_FIRST_CODE : Fld := ⟨.FLT_STAT, 16, 16⟩
def FLT_FIRST_T_L_NS : Fld := ⟨.FLT_FIRST_T_L, 0, 32⟩
def FLT_FIRST_T_H_NS : Fld := ⟨.FLT_FIRST_T_H, 0, 32⟩
def FLT_LAST_CODE : Fld := ⟨.FLT_LAST, 0, 16⟩
def FLT_LAST_CLASS : Fld := ⟨.FLT_LAST, 16, 2⟩
def FLT_LAST_SCOPE_KIND : Fld := ⟨.FLT_LAST, 20, 2⟩
def FLT_LAST_SCOPE : Fld := ⟨.FLT_LAST, 24, 8⟩
def FLT_STEST_PERIOD : Fld := ⟨.FLT_STEST, 0, 16⟩
def FLT_STEST_EN : Fld := ⟨.FLT_STEST, 16, 1⟩
def FLT_SCRUB_EN : Fld := ⟨.FLT_SCRUB, 0, 1⟩
def FLT_SCRUB_PASSES : Fld := ⟨.FLT_SCRUB, 16, 16⟩
def FLT_ECC_CORR : Fld := ⟨.FLT_ECC, 0, 16⟩
def FLT_ECC_UNCORR : Fld := ⟨.FLT_ECC, 16, 16⟩
def FLT_TEMP_CUT : Fld := ⟨.FLT_TEMP, 0, 8⟩
def FLT_ISO_CH_ISO : Fld := ⟨.FLT_ISO_CH, 0, 32⟩
def FLT_ISO_PAV_ISO : Fld := ⟨.FLT_ISO_PAV, 0, 6⟩
def FLT_CNT_C0 : Fld := ⟨.FLT_CNT, 0, 8⟩
def FLT_CNT_C1 : Fld := ⟨.FLT_CNT, 8, 8⟩
def FLT_CNT_C2 : Fld := ⟨.FLT_CNT, 16, 8⟩
def FLT_CNT_C3 : Fld := ⟨.FLT_CNT, 24, 8⟩
def FLT_INJECT_CODE : Fld := ⟨.FLT_INJECT, 0, 16⟩
def FLT_INJECT_SCOPE_KIND : Fld := ⟨.FLT_INJECT, 20, 2⟩
def FLT_INJECT_SCOPE : Fld := ⟨.FLT_INJECT, 24, 8⟩
def PWR_CTL_WATCH_SYN : Fld := ⟨.PWR_CTL, 0, 1⟩
def PWR_CTL_SLEEP : Fld := ⟨.PWR_CTL, 16, 16⟩
def PWR_STAT_DEV : Fld := ⟨.PWR_STAT, 0, 2⟩
def PWR_STAT_CORE_WARN : Fld := ⟨.PWR_STAT, 4, 1⟩
def PWR_STAT_TEMP_WARN : Fld := ⟨.PWR_STAT, 5, 1⟩
def PWR_STAT_VDRV_WARN : Fld := ⟨.PWR_STAT, 8, 6⟩
def PWR_PAV_REQ : Fld := ⟨.PWR_PAV, 0, 2⟩
def PWR_PAV_STATE : Fld := ⟨.PWR_PAV, 4, 2⟩
def PWR_PAV_PENDING : Fld := ⟨.PWR_PAV, 6, 1⟩
def PWR_PAV_TEMP_ACTIVE : Fld := ⟨.PWR_PAV, 7, 1⟩
def PWR_PAV_AUTO : Fld := ⟨.PWR_PAV, 8, 1⟩
def PWR_PAV_IDLE : Fld := ⟨.PWR_PAV, 16, 16⟩
def PWR_CORE_MV : Fld := ⟨.PWR_CORE, 0, 10⟩
def PWR_CORE_MIN_MV : Fld := ⟨.PWR_CORE, 16, 10⟩
def PWR_TEMP_DIE : Fld := ⟨.PWR_TEMP, 0, 10⟩
def PWR_TEMP_WARN : Fld := ⟨.PWR_TEMP, 16, 8⟩
def PWR_FOLD_EN : Fld := ⟨.PWR_FOLD, 0, 1⟩
def PWR_FOLD_PCT : Fld := ⟨.PWR_FOLD, 8, 7⟩
def PWR_TSENS_A : Fld := ⟨.PWR_TSENS, 0, 10⟩
def PWR_TSENS_B : Fld := ⟨.PWR_TSENS, 16, 10⟩
def PWR_CORE_DIPS_COUNT : Fld := ⟨.PWR_CORE_DIPS, 0, 16⟩
def PAV_VDRV_STAT_DIPS : Fld := ⟨.PAV_VDRV_STAT, 0, 16⟩
def PAV_VDRV_STAT_RETURN : Fld := ⟨.PAV_VDRV_STAT, 16, 1⟩
def LDG_RST_CAUSE_CAUSE : Fld := ⟨.LDG_RST_CAUSE, 0, 10⟩
def LDG_RST_CTL_PERST_SCOPE : Fld := ⟨.LDG_RST_CTL, 0, 1⟩
def LDG_WAKE_TIMER_EN : Fld := ⟨.LDG_WAKE, 0, 1⟩
def LDG_WAKE_BY_TIMER : Fld := ⟨.LDG_WAKE, 8, 1⟩
def LDG_WAKE_BY_EH : Fld := ⟨.LDG_WAKE, 9, 1⟩
def LDG_WAKE_TIMER_SEC : Fld := ⟨.LDG_WAKE_TIMER, 0, 24⟩
def LDG_SLEEP_TICKS_L_TICKS : Fld := ⟨.LDG_SLEEP_TICKS_L, 0, 32⟩
def LDG_SLEEP_TICKS_H_TICKS : Fld := ⟨.LDG_SLEEP_TICKS_H, 0, 32⟩
def KSK_CTL_WRITE_EN : Fld := ⟨.KSK_CTL, 0, 1⟩
def KSK_STAT_FRAME_ERR : Fld := ⟨.KSK_STAT, 0, 1⟩
def KSK_STAT_ADDR_END : Fld := ⟨.KSK_STAT, 1, 1⟩
def KSK_STAT_SEAL_ERR : Fld := ⟨.KSK_STAT, 2, 1⟩
def KSK_STAT_FRAME_CAUSE : Fld := ⟨.KSK_STAT, 4, 3⟩
def KSK_STAT_SEAL_CAUSE : Fld := ⟨.KSK_STAT, 8, 3⟩
def KSK_STAT_BUSY : Fld := ⟨.KSK_STAT, 12, 1⟩
def KSK_STAT_MODE : Fld := ⟨.KSK_STAT, 13, 1⟩
def KSK_STAT_DISCARDS : Fld := ⟨.KSK_STAT, 16, 16⟩
def FLS_CTL_OP : Fld := ⟨.FLS_CTL, 0, 4⟩
def FLS_CTL_CS : Fld := ⟨.FLS_CTL, 8, 2⟩
def FLS_CTL_LEN : Fld := ⟨.FLS_CTL, 16, 9⟩
def FLS_ADDR_ADDR : Fld := ⟨.FLS_ADDR, 0, 32⟩
def FLS_STAT_BUSY : Fld := ⟨.FLS_STAT, 0, 1⟩
def FLS_STAT_DONE : Fld := ⟨.FLS_STAT, 1, 1⟩
def FLS_STAT_ERR : Fld := ⟨.FLS_STAT, 2, 1⟩
def FLS_STAT_CAUSE : Fld := ⟨.FLS_STAT, 4, 3⟩
def FLS_STAT_STATUS_REG : Fld := ⟨.FLS_STAT, 8, 8⟩
def FLS_CS_CFG_PRESENT : Fld := ⟨.FLS_CS_CFG, 0, 1⟩
def FLS_CS_CFG_ADDR4 : Fld := ⟨.FLS_CS_CFG, 1, 1⟩
def FLS_CS_CFG_READ : Fld := ⟨.FLS_CS_CFG, 2, 2⟩
def FLS_CS_CFG_MHZ : Fld := ⟨.FLS_CS_CFG, 8, 7⟩
def FLS_CS_CFG_SUSPEND : Fld := ⟨.FLS_CS_CFG, 16, 1⟩
def FLS_XIP_CS : Fld := ⟨.FLS_XIP, 0, 2⟩
def FLS_TMO_PROG : Fld := ⟨.FLS_TMO, 0, 8⟩
def FLS_TMO_SECTOR : Fld := ⟨.FLS_TMO, 8, 8⟩
def FLS_TMO_BLOCK : Fld := ⟨.FLS_TMO, 16, 8⟩
def FLS_TMO_CHIP : Fld := ⟨.FLS_TMO, 24, 8⟩
def FLS_BUF_DATA : Fld := ⟨.FLS_BUF, 0, 32⟩
def TMR_CTL_EN : Fld := ⟨.TMR_CTL, 0, 1⟩
def TMR_CTL_ONE_SHOT : Fld := ⟨.TMR_CTL, 1, 1⟩
def TMR_CTL_SRC : Fld := ⟨.TMR_CTL, 2, 4⟩
def TMR_CTL_EDGE : Fld := ⟨.TMR_CTL, 6, 2⟩
def TMR_CTL_PRELOAD : Fld := ⟨.TMR_CTL, 8, 1⟩
def TMR_CTL_CAP_SRC : Fld := ⟨.TMR_CTL, 9, 3⟩
def TMR_CTL_CAP_EDGE : Fld := ⟨.TMR_CTL, 12, 2⟩
def TMR_CTL_DBG_FREEZE : Fld := ⟨.TMR_CTL, 16, 1⟩
def TMR_CTL_PERIOD_IE : Fld := ⟨.TMR_CTL, 20, 1⟩
def TMR_CTL_CMP_IE : Fld := ⟨.TMR_CTL, 21, 1⟩
def TMR_CTL_CAP_IE : Fld := ⟨.TMR_CTL, 22, 1⟩
def TMR_CTL_CAP_SW : Fld := ⟨.TMR_CTL, 24, 1⟩
def TMR_PRE_FRAC : Fld := ⟨.TMR_PRE, 0, 16⟩
def TMR_PRE_INT : Fld := ⟨.TMR_PRE, 16, 16⟩
def TMR_COUNT_COUNT : Fld := ⟨.TMR_COUNT, 0, 32⟩
def TMR_PERIOD_PERIOD : Fld := ⟨.TMR_PERIOD, 0, 32⟩
def TMR_CMP_CMP : Fld := ⟨.TMR_CMP, 0, 32⟩
def TMR_CAP_CAP : Fld := ⟨.TMR_CAP, 0, 32⟩
def TMR_CAP_TL_NS : Fld := ⟨.TMR_CAP_TL, 0, 32⟩
def TMR_CAP_TH_NS : Fld := ⟨.TMR_CAP_TH, 0, 32⟩
def TMR_STAT_PERIOD_EV : Fld := ⟨.TMR_STAT, 0, 1⟩
def TMR_STAT_CMP_EV : Fld := ⟨.TMR_STAT, 1, 1⟩
def TMR_STAT_CAP_NEW : Fld := ⟨.TMR_STAT, 2, 1⟩
def TMR_STAT_CAP_OVR : Fld := ⟨.TMR_STAT, 3, 1⟩
def TMR_STAT_PEND : Fld := ⟨.TMR_STAT, 4, 1⟩
def TMR_STAT_FROZEN : Fld := ⟨.TMR_STAT, 5, 1⟩
def TMR_STAT_WRAPS : Fld := ⟨.TMR_STAT, 16, 16⟩
def TMR_GSTAT_PEND : Fld := ⟨.TMR_GSTAT, 0, 16⟩
def TMR_SC_OVF_SC : Fld := ⟨.TMR_SC_OVF, 0, 8⟩
def TMR_SC_OVF_LEDGER_HITS : Fld := ⟨.TMR_SC_OVF, 8, 1⟩
def TMR_SC_OVF_LEDGER_MISS : Fld := ⟨.TMR_SC_OVF, 9, 1⟩
def TMR_SC_SEL_SRC : Fld := ⟨.TMR_SC_SEL, 0, 4⟩
def TMR_SC_SEL_TIMER : Fld := ⟨.TMR_SC_SEL, 8, 4⟩
def TMR_SC_SEL_CLR : Fld := ⟨.TMR_SC_SEL, 16, 1⟩
def TMR_SC_L_COUNT : Fld := ⟨.TMR_SC_L, 0, 32⟩
def TMR_SC_H_COUNT : Fld := ⟨.TMR_SC_H, 0, 32⟩
def PRM_CTL_UP_EN : Fld := ⟨.PRM_CTL, 0, 1⟩
def PRM_CTL_DN_EN : Fld := ⟨.PRM_CTL, 1, 1⟩
def PRM_CTL_SEAM_EN : Fld := ⟨.PRM_CTL, 4, 1⟩
def PRM_CTL_PHASE_EN : Fld := ⟨.PRM_CTL, 5, 1⟩
def PRM_STAT_UP_LINK : Fld := ⟨.PRM_STAT, 0, 1⟩
def PRM_STAT_DN_LINK : Fld := ⟨.PRM_STAT, 1, 1⟩
def PRM_STAT_POS : Fld := ⟨.PRM_STAT, 4, 4⟩
def PRM_STAT_POS_VALID : Fld := ⟨.PRM_STAT, 8, 1⟩
def PRM_STAT_CHAIN_LONG : Fld := ⟨.PRM_STAT, 9, 1⟩
def PRM_STAT_POS_CONFLICT : Fld := ⟨.PRM_STAT, 10, 1⟩
def PRM_STAT_SEAM_ON : Fld := ⟨.PRM_STAT, 11, 1⟩
def PRM_STAT_COHERENT : Fld := ⟨.PRM_STAT, 12, 1⟩
def PRM_STAT_LINK_CHG : Fld := ⟨.PRM_STAT, 13, 1⟩
def PRM_HOP_DELAY : Fld := ⟨.PRM_HOP, 0, 16⟩
def PRM_HOP_VALID : Fld := ⟨.PRM_HOP, 16, 1⟩
def PRM_TIME_OFS_OFS : Fld := ⟨.PRM_TIME_OFS, 0, 32⟩
def PRM_PHASE_ERR : Fld := ⟨.PRM_PHASE, 0, 16⟩
def PRM_PHASE_CORR : Fld := ⟨.PRM_PHASE, 16, 10⟩
def PRM_EPOCH_CTL_FOLLOW : Fld := ⟨.PRM_EPOCH_CTL, 0, 6⟩
def PRM_EPOCH_CTL_SEND : Fld := ⟨.PRM_EPOCH_CTL, 8, 1⟩
def PRM_EPOCH_CTL_LATE : Fld := ⟨.PRM_EPOCH_CTL, 9, 1⟩
def PRM_EPOCH_CTL_NUM : Fld := ⟨.PRM_EPOCH_CTL, 16, 16⟩
def PRM_EPOCH_T_L_NS : Fld := ⟨.PRM_EPOCH_T_L, 0, 32⟩
def PRM_EPOCH_T_H_NS : Fld := ⟨.PRM_EPOCH_T_H, 0, 32⟩
def PRM_LINK_UP_CRC_ERR : Fld := ⟨.PRM_LINK_UP, 0, 16⟩
def PRM_LINK_UP_LOSSES : Fld := ⟨.PRM_LINK_UP, 16, 16⟩
def PRM_LINK_DN_CRC_ERR : Fld := ⟨.PRM_LINK_DN, 0, 16⟩
def PRM_LINK_DN_LOSSES : Fld := ⟨.PRM_LINK_DN, 16, 16⟩
end F

/-- The field tables (access and range of every field), register by register. -/
def fieldRows : RegName → List FldRow
  | .SYS_TRELLIS_MARGIN => [⟨F.SYS_TRELLIS_MARGIN_MARGIN, .ro, []⟩, ⟨F.SYS_TRELLIS_MARGIN_MIN_SEEN, .rs, []⟩]
  | .SYS_TAGMEM_STAT => [⟨F.SYS_TAGMEM_STAT_FREE, .ro, []⟩, ⟨F.SYS_TAGMEM_STAT_SHADOW, .ro, []⟩]
  | .SYS_TAGMEM_PERSIST => [⟨F.SYS_TAGMEM_PERSIST_PAGES, .ro, []⟩]
  | .SYS_SESS_STAT => [⟨F.SYS_SESS_STAT_ACTIVE, .ro, []⟩, ⟨F.SYS_SESS_STAT_PEAK, .ro, []⟩]
  | .SYS_SESS_FULL => [⟨F.SYS_SESS_FULL_COUNT, .ro, []⟩]
  | .SYS_LEDGER_CTL => [⟨F.SYS_LEDGER_CTL_HOLDOFF, .rw, [(0, 60000)]⟩, ⟨F.SYS_LEDGER_CTL_UNLOCKED, .rw, []⟩, ⟨F.SYS_LEDGER_CTL_PROBE_MAX, .rw, [(1, 16)]⟩]
  | .SYS_LEDGER_CONFIRM => [⟨F.SYS_LEDGER_CONFIRM_MS, .rw, [(100, 5000)]⟩]
  | .SYS_LEDGER_TZ => [⟨F.SYS_LEDGER_TZ_OFS_MIN, .rw, [(0, 840), (3376, 4095)]⟩, ⟨F.SYS_LEDGER_TZ_LEAP_S, .rw, []⟩]
  | .SYS_LEDGER_STAT => [⟨F.SYS_LEDGER_STAT_ATTACHED, .ro, []⟩, ⟨F.SYS_LEDGER_STAT_KEY_SLOT, .ro, []⟩, ⟨F.SYS_LEDGER_STAT_LOG2_ENTRIES, .ro, []⟩, ⟨F.SYS_LEDGER_STAT_PENDING, .ro, []⟩]
  | .SYS_LEDGER_BASE_L => [⟨F.SYS_LEDGER_BASE_L_ADDR, .ro, []⟩]
  | .SYS_LEDGER_BASE_H => [⟨F.SYS_LEDGER_BASE_H_ADDR, .ro, []⟩]
  | .SYS_LEDGER_HITS_L => [⟨F.SYS_LEDGER_HITS_L_COUNT, .ro, []⟩]
  | .SYS_LEDGER_HITS_H => [⟨F.SYS_LEDGER_HITS_H_COUNT, .ro, []⟩]
  | .SYS_LEDGER_MISS_L => [⟨F.SYS_LEDGER_MISS_L_COUNT, .ro, []⟩]
  | .SYS_LEDGER_MISS_H => [⟨F.SYS_LEDGER_MISS_H_COUNT, .ro, []⟩]
  | .SYS_LEDGER_ERR => [⟨F.SYS_LEDGER_ERR_SEAL_FAIL, .ro, []⟩, ⟨F.SYS_LEDGER_ERR_READ_ERR, .ro, []⟩]
  | .PWR_CTL => [⟨F.PWR_CTL_WATCH_SYN, .rw, []⟩, ⟨F.PWR_CTL_SLEEP, .wo, []⟩]
  | .PWR_STAT => [⟨F.PWR_STAT_DEV, .ro, []⟩, ⟨F.PWR_STAT_CORE_WARN, .ro, []⟩, ⟨F.PWR_STAT_TEMP_WARN, .ro, []⟩, ⟨F.PWR_STAT_VDRV_WARN, .ro, []⟩]
  | .PWR_PAV => [⟨F.PWR_PAV_REQ, .rw, [(0, 2)]⟩, ⟨F.PWR_PAV_STATE, .ro, []⟩, ⟨F.PWR_PAV_PENDING, .ro, []⟩, ⟨F.PWR_PAV_TEMP_ACTIVE, .ro, []⟩, ⟨F.PWR_PAV_AUTO, .rw, []⟩, ⟨F.PWR_PAV_IDLE, .rw, [(1, 60000)]⟩]
  | .PWR_CORE => [⟨F.PWR_CORE_MV, .ro, []⟩, ⟨F.PWR_CORE_MIN_MV, .rs, []⟩]
  | .PWR_TEMP => [⟨F.PWR_TEMP_DIE, .ro, []⟩, ⟨F.PWR_TEMP_WARN, .rw, [(70, 115)]⟩]
  | .PWR_FOLD => [⟨F.PWR_FOLD_EN, .rw, []⟩, ⟨F.PWR_FOLD_PCT, .rw, [(10, 100)]⟩]
  | .PWR_TSENS => [⟨F.PWR_TSENS_A, .ro, []⟩, ⟨F.PWR_TSENS_B, .ro, []⟩]
  | .PWR_CORE_DIPS => [⟨F.PWR_CORE_DIPS_COUNT, .ro, []⟩]
  | .SYN_CTL => [⟨F.SYN_CTL_CAL_REQ, .wo, []⟩, ⟨F.SYN_CTL_RESTART_A, .wo, []⟩, ⟨F.SYN_CTL_RESTART_B, .wo, []⟩, ⟨F.SYN_CTL_TEMP_TRIG_EN, .rw, []⟩]
  | .SYN_STAT => [⟨F.SYN_STAT_A_STATE, .ro, []⟩, ⟨F.SYN_STAT_B_STATE, .ro, []⟩, ⟨F.SYN_STAT_ACTIVE_UNIT, .ro, []⟩, ⟨F.SYN_STAT_SINGLE, .ro, []⟩, ⟨F.SYN_STAT_CAL_FAIL, .w1c, []⟩, ⟨F.SYN_STAT_TRIM_REFUSED, .w1c, []⟩]
  | .SYN_CAL_TEMP => [⟨F.SYN_CAL_TEMP_A_TEMP, .ro, []⟩, ⟨F.SYN_CAL_TEMP_B_TEMP, .ro, []⟩]
  | .SYN_TRIM => [⟨F.SYN_TRIM_STEPS, .rw, [(0, 35000), (227144, 262143)]⟩]
  | .SYN_TRIM_MIN => [⟨F.SYN_TRIM_MIN_STEPS, .rwl, []⟩]
  | .SYN_TRIM_MAX => [⟨F.SYN_TRIM_MAX_STEPS, .rwl, []⟩]
  | .SYN_LAST_SWAP => [⟨F.SYN_LAST_SWAP_PHASE_STEP, .ro, []⟩, ⟨F.SYN_LAST_SWAP_CYCLES, .ro, []⟩, ⟨F.SYN_LAST_SWAP_EMERGENCY, .ro, []⟩]
  | .TIME_CTL => [⟨F.TIME_CTL_SOURCE, .rw, []⟩, ⟨F.TIME_CTL_PPS_EDGE, .rw, []⟩, ⟨F.TIME_CTL_HOST_LOCK, .rw, []⟩, ⟨F.TIME_CTL_LOAD, .wo, []⟩, ⟨F.TIME_CTL_HOLDOVER_MAX, .rw, []⟩]
  | .TIME_STAT => [⟨F.TIME_STAT_LOCK, .ro, []⟩, ⟨F.TIME_STAT_HOLDOVER, .ro, []⟩, ⟨F.TIME_STAT_CLOCK_SRC, .ro, []⟩, ⟨F.TIME_STAT_GOOD_EDGES, .ro, []⟩, ⟨F.TIME_STAT_PPS_MISSING, .w1c, []⟩]
  | .TIME_NOW_NS => [⟨F.TIME_NOW_NS_NS, .ro, []⟩]
  | .TIME_NOW_SL => [⟨F.TIME_NOW_SL_SEC, .ro, []⟩]
  | .TIME_NOW_SH => [⟨F.TIME_NOW_SH_SEC, .ro, []⟩]
  | .TIME_SET_NS => [⟨F.TIME_SET_NS_NS, .rw, [(0, 999999999)]⟩]
  | .TIME_SET_SL => [⟨F.TIME_SET_SL_SEC, .rw, []⟩]
  | .TIME_SET_SH => [⟨F.TIME_SET_SH_SEC, .rw, []⟩]
  | .TIME_NEXT_SL => [⟨F.TIME_NEXT_SL_SEC, .rw, []⟩]
  | .TIME_NEXT_SH => [⟨F.TIME_NEXT_SH_SEC, .rw, []⟩]
  | .TIME_PPS_OFS => [⟨F.TIME_PPS_OFS_OFS, .ro, []⟩]
  | .TIME_RATE => [⟨F.TIME_RATE_RATE, .ro, []⟩]
  | .TMR_CTL => [⟨F.TMR_CTL_EN, .rw, []⟩, ⟨F.TMR_CTL_ONE_SHOT, .rw, []⟩, ⟨F.TMR_CTL_SRC, .rw, [(0, 9)]⟩, ⟨F.TMR_CTL_EDGE, .rw, [(0, 2)]⟩, ⟨F.TMR_CTL_PRELOAD, .rw, []⟩, ⟨F.TMR_CTL_CAP_SRC, .rw, [(0, 6)]⟩, ⟨F.TMR_CTL_CAP_EDGE, .rw, [(0, 2)]⟩, ⟨F.TMR_CTL_DBG_FREEZE, .rw, []⟩, ⟨F.TMR_CTL_PERIOD_IE, .rw, []⟩, ⟨F.TMR_CTL_CMP_IE, .rw, []⟩, ⟨F.TMR_CTL_CAP_IE, .rw, []⟩, ⟨F.TMR_CTL_CAP_SW, .wo, []⟩]
  | .TMR_PRE => [⟨F.TMR_PRE_FRAC, .rw, []⟩, ⟨F.TMR_PRE_INT, .rw, [(1, 65535)]⟩]
  | .TMR_COUNT => [⟨F.TMR_COUNT_COUNT, .rw, []⟩]
  | .TMR_PERIOD => [⟨F.TMR_PERIOD_PERIOD, .rw, []⟩]
  | .TMR_CMP => [⟨F.TMR_CMP_CMP, .rw, []⟩]
  | .TMR_CAP => [⟨F.TMR_CAP_CAP, .ro, []⟩]
  | .TMR_CAP_TL => [⟨F.TMR_CAP_TL_NS, .ro, []⟩]
  | .TMR_CAP_TH => [⟨F.TMR_CAP_TH_NS, .ro, []⟩]
  | .TMR_STAT => [⟨F.TMR_STAT_PERIOD_EV, .w1c, []⟩, ⟨F.TMR_STAT_CMP_EV, .w1c, []⟩, ⟨F.TMR_STAT_CAP_NEW, .ro, []⟩, ⟨F.TMR_STAT_CAP_OVR, .w1c, []⟩, ⟨F.TMR_STAT_PEND, .ro, []⟩, ⟨F.TMR_STAT_FROZEN, .ro, []⟩, ⟨F.TMR_STAT_WRAPS, .ro, []⟩]
  | .TMR_GSTAT => [⟨F.TMR_GSTAT_PEND, .w1c, []⟩]
  | .TMR_SC_OVF => [⟨F.TMR_SC_OVF_SC, .ro, []⟩, ⟨F.TMR_SC_OVF_LEDGER_HITS, .ro, []⟩, ⟨F.TMR_SC_OVF_LEDGER_MISS, .ro, []⟩]
  | .TMR_SC_SEL => [⟨F.TMR_SC_SEL_SRC, .rw, [(0, 9)]⟩, ⟨F.TMR_SC_SEL_TIMER, .rw, []⟩, ⟨F.TMR_SC_SEL_CLR, .wo, []⟩]
  | .TMR_SC_L => [⟨F.TMR_SC_L_COUNT, .ro, []⟩]
  | .TMR_SC_H => [⟨F.TMR_SC_H_COUNT, .ro, []⟩]
  | .KSK_CTL => [⟨F.KSK_CTL_WRITE_EN, .rw, []⟩]
  | .KSK_STAT => [⟨F.KSK_STAT_FRAME_ERR, .w1c, []⟩, ⟨F.KSK_STAT_ADDR_END, .w1c, []⟩, ⟨F.KSK_STAT_SEAL_ERR, .w1c, []⟩, ⟨F.KSK_STAT_FRAME_CAUSE, .ro, []⟩, ⟨F.KSK_STAT_SEAL_CAUSE, .ro, []⟩, ⟨F.KSK_STAT_BUSY, .ro, []⟩, ⟨F.KSK_STAT_MODE, .ro, []⟩, ⟨F.KSK_STAT_DISCARDS, .ro, []⟩]
  | .FLS_CTL => [⟨F.FLS_CTL_OP, .wo, []⟩, ⟨F.FLS_CTL_CS, .rw, [(0, 2)]⟩, ⟨F.FLS_CTL_LEN, .rw, [(1, 256)]⟩]
  | .FLS_ADDR => [⟨F.FLS_ADDR_ADDR, .rw, []⟩]
  | .FLS_STAT => [⟨F.FLS_STAT_BUSY, .ro, []⟩, ⟨F.FLS_STAT_DONE, .w1c, []⟩, ⟨F.FLS_STAT_ERR, .w1c, []⟩, ⟨F.FLS_STAT_CAUSE, .ro, []⟩, ⟨F.FLS_STAT_STATUS_REG, .ro, []⟩]
  | .FLS_CS_CFG => [⟨F.FLS_CS_CFG_PRESENT, .rw, []⟩, ⟨F.FLS_CS_CFG_ADDR4, .rw, []⟩, ⟨F.FLS_CS_CFG_READ, .rw, [(0, 2)]⟩, ⟨F.FLS_CS_CFG_MHZ, .rw, [(25, 100)]⟩, ⟨F.FLS_CS_CFG_SUSPEND, .rw, []⟩]
  | .FLS_XIP => [⟨F.FLS_XIP_CS, .rw, [(0, 2)]⟩]
  | .FLS_TMO => [⟨F.FLS_TMO_PROG, .rw, [(1, 255)]⟩, ⟨F.FLS_TMO_SECTOR, .rw, [(1, 255)]⟩, ⟨F.FLS_TMO_BLOCK, .rw, [(1, 255)]⟩, ⟨F.FLS_TMO_CHIP, .rw, [(1, 255)]⟩]
  | .FLS_BUF => [⟨F.FLS_BUF_DATA, .rw, []⟩]
  | .PRM_CTL => [⟨F.PRM_CTL_UP_EN, .rw, []⟩, ⟨F.PRM_CTL_DN_EN, .rw, []⟩, ⟨F.PRM_CTL_SEAM_EN, .rw, []⟩, ⟨F.PRM_CTL_PHASE_EN, .rw, []⟩]
  | .PRM_STAT => [⟨F.PRM_STAT_UP_LINK, .ro, []⟩, ⟨F.PRM_STAT_DN_LINK, .ro, []⟩, ⟨F.PRM_STAT_POS, .ro, []⟩, ⟨F.PRM_STAT_POS_VALID, .ro, []⟩, ⟨F.PRM_STAT_CHAIN_LONG, .ro, []⟩, ⟨F.PRM_STAT_POS_CONFLICT, .w1c, []⟩, ⟨F.PRM_STAT_SEAM_ON, .ro, []⟩, ⟨F.PRM_STAT_COHERENT, .ro, []⟩, ⟨F.PRM_STAT_LINK_CHG, .w1c, []⟩]
  | .PRM_HOP => [⟨F.PRM_HOP_DELAY, .ro, []⟩, ⟨F.PRM_HOP_VALID, .ro, []⟩]
  | .PRM_TIME_OFS => [⟨F.PRM_TIME_OFS_OFS, .ro, []⟩]
  | .PRM_PHASE => [⟨F.PRM_PHASE_ERR, .ro, []⟩, ⟨F.PRM_PHASE_CORR, .ro, []⟩]
  | .PRM_EPOCH_CTL => [⟨F.PRM_EPOCH_CTL_FOLLOW, .rw, []⟩, ⟨F.PRM_EPOCH_CTL_SEND, .wo, []⟩, ⟨F.PRM_EPOCH_CTL_LATE, .w1c, []⟩, ⟨F.PRM_EPOCH_CTL_NUM, .ro, []⟩]
  | .PRM_EPOCH_T_L => [⟨F.PRM_EPOCH_T_L_NS, .rw, []⟩]
  | .PRM_EPOCH_T_H => [⟨F.PRM_EPOCH_T_H_NS, .rw, []⟩]
  | .PRM_LINK_UP => [⟨F.PRM_LINK_UP_CRC_ERR, .ro, []⟩, ⟨F.PRM_LINK_UP_LOSSES, .ro, []⟩]
  | .PRM_LINK_DN => [⟨F.PRM_LINK_DN_CRC_ERR, .ro, []⟩, ⟨F.PRM_LINK_DN_LOSSES, .ro, []⟩]
  | .SEC_LC => [⟨F.SEC_LC_STATE, .ro, []⟩]
  | .SEC_SERIAL_L => [⟨F.SEC_SERIAL_L_SERIAL, .ro, []⟩]
  | .SEC_SERIAL_H => [⟨F.SEC_SERIAL_H_SERIAL, .ro, []⟩]
  | .SEC_BOOT => [⟨F.SEC_BOOT_STATE, .ro, []⟩, ⟨F.SEC_BOOT_SLOT, .ro, []⟩, ⟨F.SEC_BOOT_SIGNER, .ro, []⟩, ⟨F.SEC_BOOT_KEY_INDEX, .ro, []⟩, ⟨F.SEC_BOOT_FAIL_A, .ro, []⟩, ⟨F.SEC_BOOT_FAIL_B, .ro, []⟩, ⟨F.SEC_BOOT_SECTION, .ro, []⟩]
  | .SEC_BOOT_VER => [⟨F.SEC_BOOT_VER_VERSION, .ro, []⟩]
  | .SEC_MINVER => [⟨F.SEC_MINVER_VERSION, .ro, []⟩]
  | .SEC_BOOT_CTL => [⟨F.SEC_BOOT_CTL_PREFER, .rw, []⟩, ⟨F.SEC_BOOT_CTL_ONCE_EN, .rw, []⟩, ⟨F.SEC_BOOT_CTL_ONCE_SLOT, .rw, []⟩, ⟨F.SEC_BOOT_CTL_REBOOT, .wo, []⟩]
  | .SEC_OTP => [⟨F.SEC_OTP_WRITTEN, .ro, []⟩, ⟨F.SEC_OTP_REVOKED, .ro, []⟩]
  | .SEC_CK_STAT => [⟨F.SEC_CK_STAT_CK_LOADED, .ro, []⟩, ⟨F.SEC_CK_STAT_LK_LOADED, .ro, []⟩]
  | .SEC_CK_SEL => [⟨F.SEC_CK_SEL_SLOT, .rw, []⟩]
  | .SEC_CK_MARK_L => [⟨F.SEC_CK_MARK_L_M, .ro, []⟩]
  | .SEC_CK_MARK_H => [⟨F.SEC_CK_MARK_H_M, .ro, []⟩]
  | .SEC_CK_HW_L => [⟨F.SEC_CK_HW_L_HW, .ro, []⟩]
  | .SEC_CK_HW_H => [⟨F.SEC_CK_HW_H_HW, .ro, []⟩]
  | .SEC_TOKEN_CTR_L => [⟨F.SEC_TOKEN_CTR_L_CTR, .ro, []⟩]
  | .SEC_TOKEN_CTR_H => [⟨F.SEC_TOKEN_CTR_H_CTR, .ro, []⟩]
  | .SEC_DEBUG => [⟨F.SEC_DEBUG_LEVEL, .ro, []⟩, ⟨F.SEC_DEBUG_REMAIN, .ro, []⟩]
  | .SEC_STAT => [⟨F.SEC_STAT_REG_RECORD_BAD, .ro, []⟩, ⟨F.SEC_STAT_SEAL_REFUSED, .w1c, []⟩, ⟨F.SEC_STAT_DEBUG_SEEN, .ro, []⟩, ⟨F.SEC_STAT_AUTH_FAILS, .ro, []⟩, ⟨F.SEC_STAT_REPLAYS, .ro, []⟩]
  | .FLT_CTL => [⟨F.FLT_CTL_PRM_SEND, .rw, []⟩, ⟨F.FLT_CTL_REMOTE_SAFE, .rw, []⟩]
  | .FLT_STAT => [⟨F.FLT_STAT_SAFE, .ro, []⟩, ⟨F.FLT_STAT_GUAR, .ro, []⟩, ⟨F.FLT_STAT_POST_PASS, .ro, []⟩, ⟨F.FLT_STAT_STEST_FAIL, .w1c, []⟩, ⟨F.FLT_STAT_ISO_ANY, .ro, []⟩, ⟨F.FLT_STAT_FIRST_CODE, .ro, []⟩]
  | .FLT_FIRST_T_L => [⟨F.FLT_FIRST_T_L_NS, .ro, []⟩]
  | .FLT_FIRST_T_H => [⟨F.FLT_FIRST_T_H_NS, .ro, []⟩]
  | .FLT_LAST => [⟨F.FLT_LAST_CODE, .ro, []⟩, ⟨F.FLT_LAST_CLASS, .ro, []⟩, ⟨F.FLT_LAST_SCOPE_KIND, .ro, []⟩, ⟨F.FLT_LAST_SCOPE, .ro, []⟩]
  | .FLT_STEST => [⟨F.FLT_STEST_PERIOD, .rw, [(10, 10000)]⟩, ⟨F.FLT_STEST_EN, .rw, []⟩]
  | .FLT_SCRUB => [⟨F.FLT_SCRUB_EN, .rw, []⟩, ⟨F.FLT_SCRUB_PASSES, .ro, []⟩]
  | .FLT_ECC => [⟨F.FLT_ECC_CORR, .ro, []⟩, ⟨F.FLT_ECC_UNCORR, .ro, []⟩]
  | .FLT_TEMP => [⟨F.FLT_TEMP_CUT, .rw, [(100, 125)]⟩]
  | .FLT_ISO_CH => [⟨F.FLT_ISO_CH_ISO, .w1c, []⟩]
  | .FLT_ISO_PAV => [⟨F.FLT_ISO_PAV_ISO, .w1c, []⟩]
  | .FLT_CNT => [⟨F.FLT_CNT_C0, .ro, []⟩, ⟨F.FLT_CNT_C1, .ro, []⟩, ⟨F.FLT_CNT_C2, .ro, []⟩, ⟨F.FLT_CNT_C3, .ro, []⟩]
  | .FLT_INJECT => [⟨F.FLT_INJECT_CODE, .wo, []⟩, ⟨F.FLT_INJECT_SCOPE_KIND, .wo, []⟩, ⟨F.FLT_INJECT_SCOPE, .wo, []⟩]
  | .CAL_CTL => [⟨F.CAL_CTL_STARTUP_EN, .rw, []⟩, ⟨F.CAL_CTL_PILOT_CUP, .rw, []⟩, ⟨F.CAL_CTL_THR_TRIM, .rw, []⟩]
  | .CAL_STAT => [⟨F.CAL_STAT_STARTUP_DONE, .ro, []⟩, ⟨F.CAL_STAT_STARTUP_RUN, .ro, []⟩, ⟨F.CAL_STAT_REF_BUSY, .ro, []⟩, ⟨F.CAL_STAT_REF_BAD, .w1c, []⟩, ⟨F.CAL_STAT_DELAY_CLAMP, .w1c, []⟩, ⟨F.CAL_STAT_STORE_SKIPPED, .w1c, []⟩]
  | .CAL_LIMIT => [⟨F.CAL_LIMIT_GAIN, .rw, [(1, 255)]⟩, ⟨F.CAL_LIMIT_PHASE, .rw, [(1, 255)]⟩, ⟨F.CAL_LIMIT_EYE, .rw, [(0, 100)]⟩, ⟨F.CAL_LIMIT_EVM, .rw, [(1, 255)]⟩]
  | .CAL_REF_CTL => [⟨F.CAL_REF_CTL_COUPON, .rw, []⟩, ⟨F.CAL_REF_CTL_DEPTH, .rw, [(10, 255)]⟩]
  | .CAL_NVM_STAT => [⟨F.CAL_NVM_STAT_BAD, .ro, []⟩]
  | .CAL_MIRROR_CTL => [⟨F.CAL_MIRROR_CTL_EXPORT, .wo, []⟩, ⟨F.CAL_MIRROR_CTL_IMPORT, .wo, []⟩, ⟨F.CAL_MIRROR_CTL_CS, .rw, [(0, 2)]⟩, ⟨F.CAL_MIRROR_CTL_BUSY, .ro, []⟩, ⟨F.CAL_MIRROR_CTL_ERR, .w1c, []⟩]
  | .CAL_MIRROR_ADDR => [⟨F.CAL_MIRROR_ADDR_ADDR, .rw, []⟩]
  | .CAL_TEMP => [⟨F.CAL_TEMP_DIE, .ro, []⟩]
  | .LDG_RST_CAUSE => [⟨F.LDG_RST_CAUSE_CAUSE, .w1c, []⟩]
  | .LDG_RST_CTL => [⟨F.LDG_RST_CTL_PERST_SCOPE, .rw, []⟩]
  | .LDG_WAKE => [⟨F.LDG_WAKE_TIMER_EN, .rw, []⟩, ⟨F.LDG_WAKE_BY_TIMER, .w1c, []⟩, ⟨F.LDG_WAKE_BY_EH, .w1c, []⟩]
  | .LDG_WAKE_TIMER => [⟨F.LDG_WAKE_TIMER_SEC, .rw, [(1, 16777215)]⟩]
  | .LDG_SLEEP_TICKS_L => [⟨F.LDG_SLEEP_TICKS_L_TICKS, .ro, []⟩]
  | .LDG_SLEEP_TICKS_H => [⟨F.LDG_SLEEP_TICKS_H_TICKS, .ro, []⟩]
  | .LDG_EH => [⟨F.LDG_EH_EN, .rw, []⟩, ⟨F.LDG_EH_WAKE_EN, .rw, []⟩, ⟨F.LDG_EH_ACTIVE, .ro, []⟩, ⟨F.LDG_EH_WAKE_SEEN, .w1c, []⟩]
  | .SHP_LOCK_STAT => [⟨F.SHP_LOCK_STAT_REG_LOCK, .ro, []⟩]
  | .SHP_COEX_PRI => [⟨F.SHP_COEX_PRI_MODE, .rw, [(0, 2)]⟩]
  | .SHP_CH_EN_LOCK => [⟨F.SHP_CH_EN_LOCK_MAP, .rwl, []⟩]
  | .HIF_RING_BASE_L => [⟨F.HIF_RING_BASE_L_ADDR, .rw, []⟩]
  | .HIF_RING_BASE_H => [⟨F.HIF_RING_BASE_H_ADDR, .rw, []⟩]
  | .HIF_RING_CFG => [⟨F.HIF_RING_CFG_EN, .rw, []⟩, ⟨F.HIF_RING_CFG_IRQ_EMPTY, .rw, []⟩, ⟨F.HIF_RING_CFG_LOG2_SIZE, .rw, [(1, 16)]⟩, ⟨F.HIF_RING_CFG_EVQ, .rw, []⟩]
  | .HIF_RING_HEAD => [⟨F.HIF_RING_HEAD_INDEX, .ro, []⟩]
  | .HIF_RING_TAIL => [⟨F.HIF_RING_TAIL_INDEX, .ro, []⟩]
  | .HIF_RING_STAT => [⟨F.HIF_RING_STAT_PHASE, .ro, []⟩, ⟨F.HIF_RING_STAT_DB_ERR, .w1c, []⟩, ⟨F.HIF_RING_STAT_FETCH_ERR, .w1c, []⟩, ⟨F.HIF_RING_STAT_FULL, .ro, []⟩]
  | .HIF_RING_POL => [⟨F.HIF_RING_POL_RATE, .rw, []⟩]
  | .HIF_RING_BURST => [⟨F.HIF_RING_BURST_BURST, .rw, [(1, 65535)]⟩]
  | .HIF_RING_TOKENS => [⟨F.HIF_RING_TOKENS_TOKENS, .ro, []⟩]
  | .HIF_RING_MOD => [⟨F.HIF_RING_MOD_COUNT, .rw, [(1, 255)]⟩, ⟨F.HIF_RING_MOD_TIME, .rw, []⟩]
  | .HIF_RING_DROPS => [⟨F.HIF_RING_DROPS_COUNT, .ro, []⟩]
  | .HIF_CTL => [⟨F.HIF_CTL_DEV_EVQ, .rw, []⟩, ⟨F.HIF_CTL_DEV_EV_EN, .rw, []⟩]
  | .HIF_LINK => [⟨F.HIF_LINK_SPEED, .ro, []⟩, ⟨F.HIF_LINK_WIDTH, .ro, []⟩]
  | .HIF_MISC_STAT => [⟨F.HIF_MISC_STAT_CAUSE, .w1c, []⟩]
  | .HIF_MISC_EN => [⟨F.HIF_MISC_EN_EN, .rw, []⟩]
  | .HIF_UNSOL_DROP => [⟨F.HIF_UNSOL_DROP_COUNT, .ro, []⟩]
  | .HIF_CAP_BUDGET => [⟨F.HIF_CAP_BUDGET_MBPS, .ro, []⟩]
  | .HIF_CAP_LOAD => [⟨F.HIF_CAP_LOAD_KSPS, .ro, []⟩, ⟨F.HIF_CAP_LOAD_STREAMS, .ro, []⟩]
  | .HIF_CAP_FABRIC => [⟨F.HIF_CAP_FABRIC_KSPS, .ro, []⟩, ⟨F.HIF_CAP_FABRIC_SUSPENDED, .ro, []⟩]
  | .HIF_DEVQ => [⟨F.HIF_DEVQ_USED, .ro, []⟩, ⟨F.HIF_DEVQ_COALESCED, .ro, []⟩]
  | .HIF_UNSOL_MAP => [⟨F.HIF_UNSOL_MAP_MAP, .rw, []⟩]
  | .PAV_VDRV => [⟨F.PAV_VDRV_NOM, .rw, [(0, 0), (50, 120)]⟩, ⟨F.PAV_VDRV_MEAS, .ro, []⟩, ⟨F.PAV_VDRV_WARN, .ro, []⟩]
  | .PAV_VDRV_STAT => [⟨F.PAV_VDRV_STAT_DIPS, .ro, []⟩, ⟨F.PAV_VDRV_STAT_RETURN, .ro, []⟩]
  | .PAV_SEQ_CTL => [⟨F.PAV_SEQ_CTL_EN, .rw, []⟩, ⟨F.PAV_SEQ_CTL_RUN, .ro, []⟩]
  | .PAV_SEQ_STAT => [⟨F.PAV_SEQ_STAT_PROGS, .ro, []⟩, ⟨F.PAV_SEQ_STAT_SCRIPTS, .ro, []⟩]
  | .PAV_SEQ_GT0 => [⟨F.PAV_SEQ_GT0_A, .rw, []⟩, ⟨F.PAV_SEQ_GT0_VHBR, .rw, []⟩]
  | .PAV_SEQ_GT1 => [⟨F.PAV_SEQ_GT1_B106, .rw, []⟩, ⟨F.PAV_SEQ_GT1_B212, .rw, []⟩]
  | .PAV_SEQ_GT2 => [⟨F.PAV_SEQ_GT2_B424, .rw, []⟩, ⟨F.PAV_SEQ_GT2_B848, .rw, []⟩]
  | .PAV_SEQ_GT3 => [⟨F.PAV_SEQ_GT3_F, .rw, []⟩, ⟨F.PAV_SEQ_GT3_V, .rw, []⟩]
  | .PAV_SEQ_FIELD_GT => [⟨F.PAV_SEQ_FIELD_GT_US, .rw, [(500, 20000)]⟩]
  | .PAV_SEQ_DEP => [⟨F.PAV_SEQ_DEP_DFWT, .rw, []⟩, ⟨F.PAV_SEQ_DEP_RETRY, .rw, []⟩, ⟨F.PAV_SEQ_DEP_FWT_CAP, .rw, [(0, 5000)]⟩]
  | .PAV_SEQ_HOST => [⟨F.PAV_SEQ_HOST_WAIT, .rw, [(1, 5000)]⟩]
  | .PAV_SEQ_PRES => [⟨F.PAV_SEQ_PRES_LEFT_CYCLES, .rw, [(1, 15)]⟩]
  | .PAV_SEQ_SKIPS => [⟨F.PAV_SEQ_SKIPS_COUNT, .ro, []⟩]
  | .PAV_LISTEN_HOST_CAP => [⟨F.PAV_LISTEN_HOST_CAP_MS, .rw, [(10, 5000)]⟩]
  | .PAV_BLV_CTL => [⟨F.PAV_BLV_CTL_EN, .rw, []⟩, ⟨F.PAV_BLV_CTL_WAKE, .rw, []⟩, ⟨F.PAV_BLV_CTL_CONFIRM, .rw, [(1, 3)]⟩, ⟨F.PAV_BLV_CTL_PERIOD, .rw, [(10, 1000)]⟩]
  | .PAV_BLV_STAT => [⟨F.PAV_BLV_STAT_DET, .ro, []⟩]
  | .PAV_BLV_SKIP => [⟨F.PAV_BLV_SKIP_SKIP, .w1c, []⟩]
  | .PAV_BKT_RATE => [⟨F.PAV_BKT_RATE_RATE, .rw, [(0, 7999)]⟩]
  | .PAV_BKT_DEPTH => [⟨F.PAV_BKT_DEPTH_DEPTH, .rw, [(1, 8000)]⟩]
  | .PAV_BKT_LEVEL => [⟨F.PAV_BKT_LEVEL_TOKENS, .ro, []⟩]
  | .PAV_BKT_RSV => [⟨F.PAV_BKT_RSV_RESERVED, .ro, []⟩]
  | .PAV_LOCK => [⟨F.PAV_LOCK_BUDGET, .rwl, [(1, 8000)]⟩, ⟨F.PAV_LOCK_DUTY, .rwl, [(1, 1000)]⟩]
  | .PAV_BKT_STAT => [⟨F.PAV_BKT_STAT_REFUSED, .w1c, []⟩]
  | .PAV_GATE_CTL => [⟨F.PAV_GATE_CTL_EN, .rw, []⟩, ⟨F.PAV_GATE_CTL_CHANGE, .wo, []⟩, ⟨F.PAV_GATE_CTL_CANCEL, .wo, []⟩, ⟨F.PAV_GATE_CTL_ADMIN_LEN, .rw, [(1, 64)]⟩]
  | .PAV_GATE_BASE_L => [⟨F.PAV_GATE_BASE_L_NS, .rw, []⟩]
  | .PAV_GATE_BASE_H => [⟨F.PAV_GATE_BASE_H_NS, .rw, []⟩]
  | .PAV_GATE_CYCLE => [⟨F.PAV_GATE_CYCLE_NS, .rw, []⟩]
  | .PAV_GATE_STAT => [⟨F.PAV_GATE_STAT_OPER_VALID, .ro, []⟩, ⟨F.PAV_GATE_STAT_PENDING, .ro, []⟩, ⟨F.PAV_GATE_STAT_FALLBACK, .ro, []⟩, ⟨F.PAV_GATE_STAT_ADMIN_ERR, .w1c, []⟩, ⟨F.PAV_GATE_STAT_ENTRY, .ro, []⟩, ⟨F.PAV_GATE_STAT_OPEN, .ro, []⟩, ⟨F.PAV_GATE_STAT_OPER_LEN, .ro, []⟩]
  | .PAV_GATE_CHG_L => [⟨F.PAV_GATE_CHG_L_NS, .ro, []⟩]
  | .PAV_GATE_CHG_H => [⟨F.PAV_GATE_CHG_H_NS, .ro, []⟩]
  | .PAV_GATE_CUTS => [⟨F.PAV_GATE_CUTS_COUNT, .ro, []⟩]
  | .PAV_GATE_FB_OPEN => [⟨F.PAV_GATE_FB_OPEN_US, .rw, [(500, 4000000)]⟩]
  | .PAV_GATE_FB_PERIOD => [⟨F.PAV_GATE_FB_PERIOD_US, .rw, [(1000, 4000000)]⟩]
  | .PAV_GATE_FB_CFG => [⟨F.PAV_GATE_FB_CFG_MASK, .rw, []⟩, ⟨F.PAV_GATE_FB_CFG_PRI, .rw, []⟩]
  | .PAV_GATE_OPER_CYCLE => [⟨F.PAV_GATE_OPER_CYCLE_NS, .ro, []⟩]
  | .PAV_COEX => [⟨F.PAV_COEX_EN, .rw, []⟩, ⟨F.PAV_COEX_LEAD, .rw, [(5, 200)]⟩, ⟨F.PAV_COEX_GNT, .ro, []⟩, ⟨F.PAV_COEX_REQ, .ro, []⟩]
  | .PAV_COEX_STAT => [⟨F.PAV_COEX_STAT_REVOKES, .ro, []⟩]
  | .PAV_ADAPT => [⟨F.PAV_ADAPT_ORDER_EN, .rw, []⟩, ⟨F.PAV_ADAPT_FREEZE, .rw, []⟩, ⟨F.PAV_ADAPT_ORDER_WINDOW, .rw, [(1, 255)]⟩]
  | .PAV_GCL_ADMIN_D => [⟨F.PAV_GCL_ADMIN_D_DURATION, .rw, []⟩]
  | .PAV_GCL_ADMIN_M => [⟨F.PAV_GCL_ADMIN_M_OPEN, .rw, []⟩, ⟨F.PAV_GCL_ADMIN_M_PRI, .rw, []⟩]
  | .PAV_GCL_OPER_D => [⟨F.PAV_GCL_OPER_D_DURATION, .ro, []⟩]
  | .PAV_GCL_OPER_M => [⟨F.PAV_GCL_OPER_M_OPEN, .ro, []⟩, ⟨F.PAV_GCL_OPER_M_PRI, .ro, []⟩]
  | .ARB_CTL => [⟨F.ARB_CTL_PILOT_EN, .rw, []⟩, ⟨F.ARB_CTL_JOINT_EN, .rw, []⟩, ⟨F.ARB_CTL_ATTR_EN, .rw, []⟩, ⟨F.ARB_CTL_SEAM_LO_EN, .rw, []⟩, ⟨F.ARB_CTL_SEAM_HI_EN, .rw, []⟩]
  | .ARB_PILOT => [⟨F.ARB_PILOT_LVL, .rw, [(0, 254)]⟩, ⟨F.ARB_PILOT_PERIOD, .rw, [(10, 10000)]⟩]
  | .ARB_PILOT_CFG => [⟨F.ARB_PILOT_CFG_AVG, .rw, []⟩, ⟨F.ARB_PILOT_CFG_JUMP, .rw, [(3, 255)]⟩, ⟨F.ARB_PILOT_CFG_STALE, .rw, [(100, 65535)]⟩]
  | .ARB_CM_STAT => [⟨F.ARB_CM_STAT_VALID, .ro, []⟩, ⟨F.ARB_CM_STAT_STALE, .ro, []⟩, ⟨F.ARB_CM_STAT_CHANGED, .w1c, []⟩, ⟨F.ARB_CM_STAT_SEAM_LO_VALID, .ro, []⟩, ⟨F.ARB_CM_STAT_SEAM_HI_VALID, .ro, []⟩, ⟨F.ARB_CM_STAT_SEAM_REMOTE, .ro, []⟩, ⟨F.ARB_CM_STAT_SEAM_MAG_ONLY, .ro, []⟩]
  | .ARB_CM_AGE => [⟨F.ARB_CM_AGE_AGE_LO, .ro, []⟩, ⟨F.ARB_CM_AGE_AGE_HI, .ro, []⟩]
  | .ARB_SEP => [⟨F.ARB_SEP_CORR, .rw, [(64, 243)]⟩, ⟨F.ARB_SEP_FIT, .rw, [(128, 255)]⟩, ⟨F.ARB_SEP_EIG, .rw, [(6, 30)]⟩]
  | .ARB_SEP_STAT => [⟨F.ARB_SEP_STAT_LAST, .ro, []⟩, ⟨F.ARB_SEP_STAT_COMB_SAT, .w1c, []⟩, ⟨F.ARB_SEP_STAT_ACCEPTS, .ro, []⟩, ⟨F.ARB_SEP_STAT_DECLINES, .ro, []⟩]
  | .ARB_SEP_LAST => [⟨F.ARB_SEP_LAST_RHO, .ro, []⟩, ⟨F.ARB_SEP_LAST_FITV, .ro, []⟩, ⟨F.ARB_SEP_LAST_SPAN, .ro, []⟩]
  | .ARB_ATTR => [⟨F.ARB_ATTR_MIN, .rw, []⟩, ⟨F.ARB_ATTR_GAP, .rw, []⟩, ⟨F.ARB_ATTR_LOW, .rw, []⟩]
  | .ARB_ATTR_LAST => [⟨F.ARB_ATTR_LAST_SLOT, .ro, []⟩, ⟨F.ARB_ATTR_LAST_CLASS, .ro, []⟩, ⟨F.ARB_ATTR_LAST_PARTIAL, .ro, []⟩, ⟨F.ARB_ATTR_LAST_RHO1, .ro, []⟩, ⟨F.ARB_ATTR_LAST_RHO2, .ro, []⟩]
  | .ARB_GRANT => [⟨F.ARB_GRANT_EN, .rw, []⟩, ⟨F.ARB_GRANT_PULSE, .rw, [(1, 255)]⟩, ⟨F.ARB_GRANT_ACTIVE, .ro, []⟩, ⟨F.ARB_GRANT_FAULT, .w1c, []⟩]
  | .ARB_GRANT_CNT => [⟨F.ARB_GRANT_CNT_COUNT, .ro, []⟩]
  | .ARB_CT_W => [⟨F.ARB_CT_W_I, .rw, []⟩, ⟨F.ARB_CT_W_Q, .rw, []⟩]
  | .ARB_CT_DT => [⟨F.ARB_CT_DT_DELAY, .rw, []⟩, ⟨F.ARB_CT_DT_THR, .rw, []⟩]
  | .ARB_SEAM_LO => [⟨F.ARB_SEAM_LO_I, .rw, []⟩, ⟨F.ARB_SEAM_LO_Q, .rw, []⟩]
  | .ARB_SEAM_HI => [⟨F.ARB_SEAM_HI_I, .rw, []⟩, ⟨F.ARB_SEAM_HI_Q, .rw, []⟩]
  | .ARB_CM => [⟨F.ARB_CM_I, .rw, []⟩, ⟨F.ARB_CM_Q, .rw, []⟩]
  | .ARB_FG_CTL => [⟨F.ARB_FG_CTL_MEMBERS, .rw, []⟩, ⟨F.ARB_FG_CTL_LEADER, .rw, []⟩, ⟨F.ARB_FG_CTL_MODE, .rw, [(0, 2)]⟩, ⟨F.ARB_FG_CTL_TARGET, .rw, []⟩, ⟨F.ARB_FG_CTL_NULL_A, .rw, [(0, 9), (15, 15)]⟩, ⟨F.ARB_FG_CTL_NULL_B, .rw, [(0, 9), (15, 15)]⟩, ⟨F.ARB_FG_CTL_COMB, .rw, [(0, 2)]⟩, ⟨F.ARB_FG_CTL_COMB_EN, .rw, []⟩]
  | .ARB_FG_STAT => [⟨F.ARB_FG_STAT_NULL_DEPTH, .ro, []⟩, ⟨F.ARB_FG_STAT_RUNNING, .ro, []⟩, ⟨F.ARB_FG_STAT_REFUSED, .w1c, []⟩, ⟨F.ARB_FG_STAT_STALE_USED, .w1c, []⟩]
  | .ARB_FG_W => [⟨F.ARB_FG_W_I, .rw, []⟩, ⟨F.ARB_FG_W_Q, .rw, []⟩]
  | .CH_PHASE_OFS => [⟨F.CH_PHASE_OFS_CAL, .ro, []⟩, ⟨F.CH_PHASE_OFS_USER, .rw, []⟩]
  | .CH_ROLE => [⟨F.CH_ROLE_ROLE, .ro, []⟩, ⟨F.CH_ROLE_HOME, .ro, []⟩, ⟨F.CH_ROLE_GEN, .ro, []⟩, ⟨F.CH_ROLE_BORROWED, .ro, []⟩, ⟨F.CH_ROLE_PENDING, .ro, []⟩]
  | .CH_SESS => [⟨F.CH_SESS_SESS0, .ro, []⟩, ⟨F.CH_SESS_SESS1, .ro, []⟩]
  | .CH_ADM_STAT => [⟨F.CH_ADM_STAT_WAIT, .ro, []⟩, ⟨F.CH_ADM_STAT_CAUSE, .ro, []⟩]
  | .CH_DUTY => [⟨F.CH_DUTY_ON_US, .ro, []⟩]
  | .CH_SHP_CTL => [⟨F.CH_SHP_CTL_EN, .rw, []⟩, ⟨F.CH_SHP_CTL_IDLE, .rw, [(0, 1000)]⟩]
  | .CH_SHP_HI => [⟨F.CH_SHP_HI_HI, .rw, [(0, 1000000)]⟩]
  | .CH_SHP_LO => [⟨F.CH_SHP_LO_LO, .rw, [(0, 1000000)]⟩]
  | .CH_SHP_CREDIT => [⟨F.CH_SHP_CREDIT_CREDIT, .ro, []⟩]
  | .CH_TX_CTL => [⟨F.CH_TX_CTL_EN, .rw, []⟩, ⟨F.CH_TX_CTL_LOOP_EN, .rw, []⟩, ⟨F.CH_TX_CTL_VCOMP_EN, .rw, []⟩]
  | .CH_FIELD_LVL => [⟨F.CH_FIELD_LVL_LVL, .rw, []⟩]
  | .CH_FIELD_MAX => [⟨F.CH_FIELD_MAX_PWR, .ro, []⟩]
  | .CH_FIELD_STAT => [⟨F.CH_FIELD_STAT_LVL_NOW, .ro, []⟩, ⟨F.CH_FIELD_STAT_ON, .ro, []⟩, ⟨F.CH_FIELD_STAT_CEILING, .w1c, []⟩, ⟨F.CH_FIELD_STAT_HEADROOM, .w1c, []⟩, ⟨F.CH_FIELD_STAT_ERR, .ro, []⟩]
  | .CH_MOD_A => [⟨F.CH_MOD_A_PAUSE_106, .rw, [(28, 40)]⟩, ⟨F.CH_MOD_A_PAUSE_212, .rw, [(14, 20)]⟩, ⟨F.CH_MOD_A_PAUSE_424, .rw, [(7, 10)]⟩, ⟨F.CH_MOD_A_PAUSE_848, .rw, [(4, 5)]⟩]
  | .CH_MOD_ASK => [⟨F.CH_MOD_ASK_IDX_B, .rw, [(16, 28)]⟩, ⟨F.CH_MOD_ASK_IDX_VHBR, .rw, [(16, 28)]⟩, ⟨F.CH_MOD_ASK_IDX_F, .rw, [(16, 60)]⟩, ⟨F.CH_MOD_ASK_IDX_V, .rw, [(20, 60)]⟩, ⟨F.CH_MOD_ASK_V_100, .rw, []⟩]
  | .CH_MOD_SHAPE => [⟨F.CH_MOD_SHAPE_PREEMP, .rw, []⟩, ⟨F.CH_MOD_SHAPE_EDGE, .rw, []⟩]
  | .CH_RAMP => [⟨F.CH_RAMP_UP, .rw, [(16, 1023)]⟩, ⟨F.CH_RAMP_DOWN, .rw, [(16, 1023)]⟩, ⟨F.CH_RAMP_SHAPE, .rw, []⟩]
  | .CH_TUNE => [⟨F.CH_TUNE_SER, .rw, []⟩, ⟨F.CH_TUNE_SHUNT, .rw, []⟩, ⟨F.CH_TUNE_PENDING, .ro, []⟩]
  | .CH_TUNE_CAL => [⟨F.CH_TUNE_CAL_SER, .ro, []⟩, ⟨F.CH_TUNE_CAL_SHUNT, .ro, []⟩]
  | .CH_TUNE_CTL => [⟨F.CH_TUNE_CTL_AUTO, .rw, []⟩, ⟨F.CH_TUNE_CTL_SPAN, .rw, []⟩, ⟨F.CH_TUNE_CTL_RL_THR, .rw, []⟩]
  | .CH_TUNE_STAT => [⟨F.CH_TUNE_STAT_RL, .ro, []⟩, ⟨F.CH_TUNE_STAT_SIDE, .ro, []⟩, ⟨F.CH_TUNE_STAT_LOW, .ro, []⟩, ⟨F.CH_TUNE_STAT_STUCK, .w1c, []⟩, ⟨F.CH_TUNE_STAT_AT_SPAN, .ro, []⟩]
  | .CH_PWR_LIM => [⟨F.CH_PWR_LIM_MW, .rwl, [(1, 1000)]⟩]
  | .CH_PWR_MEAS => [⟨F.CH_PWR_MEAS_MW, .ro, []⟩, ⟨F.CH_PWR_MEAS_PEAK, .ro, []⟩]
  | .CH_LIM_STAT => [⟨F.CH_LIM_STAT_TRIP, .w1c, []⟩, ⟨F.CH_LIM_STAT_TRIPS, .ro, []⟩]
  | .CH_FEN_STAT => [⟨F.CH_FEN_STAT_A_REQ, .ro, []⟩, ⟨F.CH_FEN_STAT_B_ALLOW, .ro, []⟩, ⟨F.CH_FEN_STAT_DRIVING, .ro, []⟩, ⟨F.CH_FEN_STAT_B_CAUSE, .ro, []⟩, ⟨F.CH_FEN_STAT_CHAIN_FAULT, .rs, []⟩]
  | .CH_ADAPT => [⟨F.CH_ADAPT_LVL_EN, .rw, []⟩, ⟨F.CH_ADAPT_LVL_MAX, .rw, [(0, 254)]⟩, ⟨F.CH_ADAPT_HEADROOM, .rw, []⟩, ⟨F.CH_ADAPT_STEP_CYCLES, .rw, [(1, 15)]⟩]
  | .CH_ADAPT_STAT => [⟨F.CH_ADAPT_STAT_LVL_NOW, .ro, []⟩, ⟨F.CH_ADAPT_STAT_ACTIVE, .ro, []⟩]
  | .CH_CAP_CTL => [⟨F.CH_CAP_CTL_PRIO, .rw, []⟩, ⟨F.CH_CAP_CTL_PROG, .rw, []⟩]
  | .CH_CAP_STAT => [⟨F.CH_CAP_STAT_STATE, .ro, []⟩, ⟨F.CH_CAP_STAT_CAUSE, .ro, []⟩, ⟨F.CH_CAP_STAT_FILL, .ro, []⟩]
  | .CH_CAP_IDX_L => [⟨F.CH_CAP_IDX_L_IDX, .ro, []⟩]
  | .CH_CAP_IDX_H => [⟨F.CH_CAP_IDX_H_IDX, .ro, []⟩]
  | .CH_CAP_GAPS => [⟨F.CH_CAP_GAPS_COUNT, .ro, []⟩]
  | .CH_OUTQ => [⟨F.CH_OUTQ_USED, .ro, []⟩, ⟨F.CH_OUTQ_WAIT, .ro, []⟩, ⟨F.CH_OUTQ_DATA, .ro, []⟩, ⟨F.CH_OUTQ_LSN_REFUSED, .ro, []⟩]
  | .CH_CUP_ERR => [⟨F.CH_CUP_ERR_GAIN, .ro, []⟩, ⟨F.CH_CUP_ERR_PHASE, .ro, []⟩]
  | .CH_CUP_EYE => [⟨F.CH_CUP_EYE_EYE, .ro, []⟩, ⟨F.CH_CUP_EYE_EVM, .ro, []⟩, ⟨F.CH_CUP_EYE_WITHIN, .ro, []⟩]
  | .CH_CAL_SETS => [⟨F.CH_CAL_SETS_VALID, .ro, []⟩, ⟨F.CH_CAL_SETS_LOWER, .ro, []⟩, ⟨F.CH_CAL_SETS_UPPER, .ro, []⟩, ⟨F.CH_CAL_SETS_REF_VALID, .ro, []⟩]
  | .CH_CAL_LAST => [⟨F.CH_CAL_LAST_TEMP, .ro, []⟩, ⟨F.CH_CAL_LAST_PROC, .ro, []⟩]
  | .CH_CAL_SET_T0 => [⟨F.CH_CAL_SET_T0_T0, .ro, []⟩, ⟨F.CH_CAL_SET_T0_T1, .ro, []⟩]
  | .CH_CAL_SET_T2 => [⟨F.CH_CAL_SET_T2_T2, .ro, []⟩, ⟨F.CH_CAL_SET_T2_T3, .ro, []⟩]
  | .CH_CAL_SET_T4 => [⟨F.CH_CAL_SET_T4_T4, .ro, []⟩]
  | .CH_CAL_DRIP => [⟨F.CH_CAL_DRIP_PHASE_LEFT, .ro, []⟩, ⟨F.CH_CAL_DRIP_GAIN_LEFT, .ro, []⟩, ⟨F.CH_CAL_DRIP_HELD, .ro, []⟩]
  | .CH_RX_CTL => [⟨F.CH_RX_CTL_SRC, .rw, []⟩, ⟨F.CH_RX_CTL_FIR_SRC, .rw, [(0, 5)]⟩, ⟨F.CH_RX_CTL_COMB, .ro, []⟩, ⟨F.CH_RX_CTL_DC_SUB, .rw, []⟩, ⟨F.CH_RX_CTL_STD, .rw, []⟩]
  | .CH_RX_SHIFT => [⟨F.CH_RX_SHIFT_HB1, .rw, []⟩, ⟨F.CH_RX_SHIFT_HB2, .rw, []⟩, ⟨F.CH_RX_SHIFT_HB3, .rw, []⟩, ⟨F.CH_RX_SHIFT_HB4, .rw, []⟩, ⟨F.CH_RX_SHIFT_HB5, .rw, []⟩, ⟨F.CH_RX_SHIFT_CAP, .rw, []⟩]
  | .CH_RX_FIR => [⟨F.CH_RX_FIR_ACTIVE, .ro, []⟩, ⟨F.CH_RX_FIR_SWITCH, .wo, []⟩, ⟨F.CH_RX_FIR_FADE, .rw, [(0, 4)]⟩, ⟨F.CH_RX_FIR_FADING, .ro, []⟩, ⟨F.CH_RX_FIR_PENDING, .ro, []⟩, ⟨F.CH_RX_FIR_WR_REFUSED, .w1c, []⟩]
  | .CH_RX_RS => [⟨F.CH_RX_RS_M, .rw, [(2097152, 16777216)]⟩]
  | .CH_RX_AGC => [⟨F.CH_RX_AGC_MODE, .rw, []⟩, ⟨F.CH_RX_AGC_GAIN_MAN, .rw, [(0, 24)]⟩, ⟨F.CH_RX_AGC_GAIN_NOW, .ro, []⟩, ⟨F.CH_RX_AGC_TARGET, .rw, [(1, 15)]⟩, ⟨F.CH_RX_AGC_STATE, .ro, []⟩]
  | .CH_RX_EST_C => [⟨F.CH_RX_EST_C_AMP, .ro, []⟩, ⟨F.CH_RX_EST_C_PHASE, .ro, []⟩]
  | .CH_RX_EST_F_AMP => [⟨F.CH_RX_EST_F_AMP_AMP, .ro, []⟩]
  | .CH_RX_EST_F_PH => [⟨F.CH_RX_EST_F_PH_PHASE, .ro, []⟩, ⟨F.CH_RX_EST_F_PH_HELD, .ro, []⟩]
  | .CH_RX_FINE => [⟨F.CH_RX_FINE_TAU, .rw, [(20, 5000)]⟩]
  | .CH_RX_CAP => [⟨F.CH_RX_CAP_RUN, .ro, []⟩, ⟨F.CH_RX_CAP_POINT, .ro, []⟩, ⟨F.CH_RX_CAP_DOUBLE, .ro, []⟩]
  | .CH_RX_SAT => [⟨F.CH_RX_SAT_ADC, .w1c, []⟩, ⟨F.CH_RX_SAT_HB, .w1c, []⟩, ⟨F.CH_RX_SAT_FIR, .w1c, []⟩, ⟨F.CH_RX_SAT_RESAMP, .w1c, []⟩, ⟨F.CH_RX_SAT_CAP, .w1c, []⟩]
  | .CH_RX_LAT => [⟨F.CH_RX_LAT_TC, .ro, []⟩, ⟨F.CH_RX_LAT_QUARTER, .ro, []⟩]
  | .CH_DEM_CTL => [⟨F.CH_DEM_CTL_MARGIN, .rw, [(3, 18)]⟩, ⟨F.CH_DEM_CTL_CAPTURE_EN, .rw, []⟩, ⟨F.CH_DEM_CTL_SOF_THR, .rw, [(4, 15)]⟩, ⟨F.CH_DEM_CTL_COLL_THR, .rw, [(16, 192)]⟩]
  | .CH_FRM_CTL => [⟨F.CH_FRM_CTL_B_SOF_LOW, .rw, []⟩, ⟨F.CH_FRM_CTL_B_SOF_HIGH, .rw, []⟩, ⟨F.CH_FRM_CTL_B_EOF_LOW, .rw, []⟩, ⟨F.CH_FRM_CTL_B_EGT_TX, .rw, [(0, 2)]⟩, ⟨F.CH_FRM_CTL_F_PRE, .rw, [(6, 15)]⟩, ⟨F.CH_FRM_CTL_F_POL, .rw, [(0, 2)]⟩]
  | .CH_FRM_LAST => [⟨F.CH_FRM_LAST_STATUS, .ro, []⟩, ⟨F.CH_FRM_LAST_LAST_BITS, .ro, []⟩, ⟨F.CH_FRM_LAST_LEN, .ro, []⟩]
  | .CH_FRM_COLL => [⟨F.CH_FRM_COLL_POS, .ro, []⟩, ⟨F.CH_FRM_COLL_COUNT, .ro, []⟩, ⟨F.CH_FRM_COLL_CAPTURED, .ro, []⟩, ⟨F.CH_FRM_COLL_SEPARATED, .ro, []⟩]
  | .CH_FRM_ERR => [⟨F.CH_FRM_ERR_POS, .ro, []⟩, ⟨F.CH_FRM_ERR_KIND, .ro, []⟩]
  | .CH_FRM_TIME => [⟨F.CH_FRM_TIME_FDT, .ro, []⟩]
  | .CH_FRM_QUAL => [⟨F.CH_FRM_QUAL_RATE_ERR, .ro, []⟩, ⟨F.CH_FRM_QUAL_SNR, .ro, []⟩, ⟨F.CH_FRM_QUAL_FALSE_SOF, .ro, []⟩]
  | .CH_BLV_THR => [⟨F.CH_BLV_THR_AMP, .rw, [(2, 255)]⟩, ⟨F.CH_BLV_THR_PH, .rw, [(2, 255)]⟩, ⟨F.CH_BLV_THR_DRIFT, .rw, []⟩, ⟨F.CH_BLV_THR_EXCL, .rw, []⟩]
  | .CH_BLV_BASE => [⟨F.CH_BLV_BASE_AMP, .ro, []⟩, ⟨F.CH_BLV_BASE_PH, .ro, []⟩]
  | .CH_BLV_MEAS => [⟨F.CH_BLV_MEAS_AMP, .ro, []⟩, ⟨F.CH_BLV_MEAS_PH, .ro, []⟩]
  | .CH_BLV_CMD => [⟨F.CH_BLV_CMD_ADOPT, .wo, []⟩]
  | .CH_SEQ_STAT => [⟨F.CH_SEQ_STAT_PROG, .ro, []⟩, ⟨F.CH_SEQ_STAT_PRESENT, .ro, []⟩, ⟨F.CH_SEQ_STAT_PHASE, .ro, []⟩]
  | .CH_LSN_CTL => [⟨F.CH_LSN_CTL_IMAGE, .rw, [(0, 63), (127, 127)]⟩, ⟨F.CH_LSN_CTL_FWD, .rw, [(0, 2)]⟩, ⟨F.CH_LSN_CTL_T4_EN, .rw, []⟩, ⟨F.CH_LSN_CTL_WRITE_EN, .rw, []⟩, ⟨F.CH_LSN_CTL_ARB_EXCL, .rw, []⟩]
  | .CH_LSN_FD => [⟨F.CH_LSN_FD_ON, .rw, [(2, 255)]⟩, ⟨F.CH_LSN_FD_OFF, .rw, [(1, 254)]⟩]
  | .CH_LSN_ID => [⟨F.CH_LSN_ID_UID_MODE, .rw, [(0, 2)]⟩]
  | .CH_LSN_UID0 => [⟨F.CH_LSN_UID0_UID, .rw, []⟩]
  | .CH_LSN_UID1 => [⟨F.CH_LSN_UID1_UID, .rw, []⟩]
  | .CH_LSN_ATS => [⟨F.CH_LSN_ATS_FSCI, .rw, [(0, 8)]⟩, ⟨F.CH_LSN_ATS_FWI, .rw, [(0, 14)]⟩, ⟨F.CH_LSN_ATS_SFGI, .rw, [(0, 14)]⟩, ⟨F.CH_LSN_ATS_RATES, .rw, []⟩, ⟨F.CH_LSN_ATS_SAME_RATE, .rw, []⟩, ⟨F.CH_LSN_ATS_CID_EN, .rw, []⟩, ⟨F.CH_LSN_ATS_HIST_LEN, .rw, []⟩]
  | .CH_LSN_WTX => [⟨F.CH_LSN_WTX_WTXM, .rw, [(1, 59)]⟩]
  | .CH_LSN_ERR => [⟨F.CH_LSN_ERR_SW, .rw, []⟩]
  | .CH_LSN_HIST => [⟨F.CH_LSN_HIST_BYTES, .rw, []⟩]
  | .CH_LSN_STAT => [⟨F.CH_LSN_STAT_FIELD, .ro, []⟩, ⟨F.CH_LSN_STAT_STATE, .ro, []⟩, ⟨F.CH_LSN_STAT_FREQ_OFS, .ro, []⟩]
  | .CH_RX_COEF_A => [⟨F.CH_RX_COEF_A_C, .rw, []⟩]
  | .CH_RX_COEF_B => [⟨F.CH_RX_COEF_B_C, .rw, []⟩]

end Sys2Proof.Machine
end

