-- ==== Sys2Proof/Machine/Regs.lean ====
section
/-! DEFINITION. Reading and writing the register file and the replicated units: the only places that touch their homes. -/

namespace Sys2Proof.Machine

/-- The place of a register in the file: name, unit instance i, inner index j. -/
def regKey (r : RegName) (i j : Nat) : Nat := (r.ctorIdx * 256 + i % 256) * 64 + j % 64

/-- The reset value of a register (R686). FLS_CS_CFG[0] alone resets to 0x0001_1903, the chip of the boot image; a blank device
loads 1 on the diagonal of its coupling matrices (R232). -/
def regReset (r : RegName) (j : Nat) : Nat :=
  if r = .FLS_CS_CFG ∧ j ≠ 0 then 0x11900 else if r = .ARB_CM ∧ j / 8 = j % 8 then 0x2000 else r.row.reset

/-- The value a register holds. -/
def Dev.rd (d : Dev) (r : RegName) (i : Nat := 0) (j : Nat := 0) : Nat :=
  (tblGet d.regs (regKey r i j) (BitVec.ofNat 32 (regReset r j))).toNat

/-- Put a value into a register, by the device. -/
def Dev.wr (d : Dev) (r : RegName) (i j v : Nat) : Dev :=
  { d with regs := tblSet d.regs (regKey r i j) (BitVec.ofNat 32 v) (BitVec.ofNat 32 (regReset r j)) }

/-- A field of a register, as a number (R5). -/
def Dev.fld (d : Dev) (f : Fld) (i : Nat := 0) (j : Nat := 0) : Nat := bits (d.rd f.reg i j) f.lo f.w

/-- A field of a register, signed (R6). -/
def Dev.fldI (d : Dev) (f : Fld) (i : Nat := 0) (j : Nat := 0) : Int := toInt f.w (d.fld f i j)

/-- A one-bit field, or whether a field is not 0. -/
def Dev.on (d : Dev) (f : Fld) (i : Nat := 0) (j : Nat := 0) : Bool := d.fld f i j != 0

/-- Put a value into one field of a register, by the device. -/
def Dev.setFld (d : Dev) (f : Fld) (i j v : Nat) : Dev :=
  d.wr f.reg i j (setBits (d.rd f.reg i j) f.lo f.w v)

/-- Put a Bool into a one-bit field. -/
def Dev.setOn (d : Dev) (f : Fld) (i j : Nat) (b : Bool) : Dev := d.setFld f i j (b2n b)

/-- Add to a counter field that saturates at its width. -/
def Dev.addFld (d : Dev) (f : Fld) (i j n : Nat) : Dev :=
  d.setFld f i j (sat (2 ^ f.w - 1) (d.fld f i j + n))

/-- Add to a 64-bit pair of registers, saturating. -/
def Dev.addPair (d : Dev) (l h : RegName) (i j n : Nat) : Dev :=
  let v := sat (2 ^ 64 - 1) (d.rd l i j + 2 ^ 32 * d.rd h i j + n)
  (d.wr l i j (v % 2 ^ 32)).wr h i j (v / 2 ^ 32)

/-- The value of a 64-bit pair of registers. -/
def Dev.pair (d : Dev) (l h : RegName) (i : Nat := 0) (j : Nat := 0) : Nat := d.rd l i j + 2 ^ 32 * d.rd h i j

/-- Put a value into a 64-bit pair of registers. -/
def Dev.setPair (d : Dev) (l h : RegName) (i j v : Nat) : Dev :=
  (d.wr l i j (v % 2 ^ 32)).wr h i j (v / 2 ^ 32 % 2 ^ 32)

/-- A channel's record. -/
def Dev.ch (d : Dev) (n : Nat) : Ch := tblGet d.chans n {}
/-- Change a channel's record. -/
def Dev.modCh (d : Dev) (n : Nat) (f : Ch → Ch) : Dev := { d with chans := tblSet d.chans n (f (d.ch n)) {} }
/-- A pavilion's record. -/
def Dev.pav (d : Dev) (p : Nat) : Pav := tblGet d.pavs p {}
/-- Change a pavilion's record. -/
def Dev.modPav (d : Dev) (p : Nat) (f : Pav → Pav) : Dev := { d with pavs := tblSet d.pavs p (f (d.pav p)) {} }
/-- An arbour's record. -/
def Dev.arb (d : Dev) (a : Nat) : Arb := tblGet d.arbs a {}
/-- Change an arbour's record. -/
def Dev.modArb (d : Dev) (a : Nat) (f : Arb → Arb) : Dev := { d with arbs := tblSet d.arbs a (f (d.arb a)) {} }
/-- A ring's record. -/
def Dev.ring (d : Dev) (r : Nat) : Ring := tblGet d.host.rings r {}
/-- Change a ring's record. -/
def Dev.modRing (d : Dev) (r : Nat) (f : Ring → Ring) : Dev :=
  { d with host := { d.host with rings := tblSet d.host.rings r (f (d.ring r)) {} } }
/-- A session context. -/
def Dev.ses (d : Dev) (s : Nat) : Sess := tblGet d.sess s {}
/-- Change a session context. -/
def Dev.modSes (d : Dev) (s : Nat) (f : Sess → Sess) : Dev := { d with sess := tblSet d.sess s (f (d.ses s)) {} }
/-- A tag image. -/
def Dev.img (d : Dev) (m : Nat) : Image := tblGet d.images m {}
/-- Change a tag image. -/
def Dev.modImg (d : Dev) (m : Nat) (f : Image → Image) : Dev := { d with images := tblSet d.images m (f (d.img m)) {} }
/-- A timer's hidden state. -/
def Dev.tmr (d : Dev) (t : Nat) : Timer := tblGet d.timers t {}
/-- Change a timer's hidden state. -/
def Dev.modTmr (d : Dev) (t : Nat) (f : Timer → Timer) : Dev := { d with timers := tblSet d.timers t (f (d.tmr t)) {} }

/-- Change the transaction of a channel, if it has one. -/
def Dev.modTxn (d : Dev) (n : Nat) (f : Txn → Txn) : Dev := d.modCh n fun c => { c with txn := c.txn.map f }

/-- The carrier count. -/
def Dev.tc (d : Dev) : Nat := d.time.tc

/-- Units of network time in one nanosecond. -/
def nsUnit : Nat := 339 * 10 ^ 12

/-- TIME_NOW in whole nanoseconds: seconds times 1,000,000,000, and nanoseconds (R51). -/
def Dev.nowFull (d : Dev) : Nat := d.time.net / nsUnit

/-- Network time as a 64-bit count of nanoseconds (R4). -/
def Dev.now (d : Dev) : Nat := d.nowFull % 2 ^ 64

/-- The count modulo 2^64 ns, in the same units (R4). -/
def Dev.netMod (d : Dev) : Nat := d.time.net % (nsUnit * 2 ^ 64)

/-- The carrier's advance over one REFCLK ÷ 2 period, in 1/67,800,000 cycle: with a unit ACTIVE at the trim in force (R40), else one
cycle of REFCLK ÷ 2, and none while REFCLK is absent (R719). -/
def Dev.carStep (d : Dev) : Nat :=
  if !d.syn.refOk then 0
  else if d.syn.a == .active || d.syn.b == .active then (67800000 + toInt 18 d.syn.trim).toNat
  else 67800000

/-- REFCLK ÷ 2 periods that a slew lasts: one second (R56). -/
def slewLen : Nat := 13560000

/-- Units of network time in one REFCLK ÷ 2 period at the learned rate (R52). -/
def Dev.ratePer (d : Dev) : Int := 25000 * (10 ^ 12 - toInt 32 (d.rd .TIME_RATE))

/-- Network time of a carrier-domain index, in quarters of a Tc (R49): the sample lies back from the present instant, within its carrier
cycle, by REFCLK ÷ 2 periods at the trim in force (R28, R40), and network time by those periods at the rate in force and by what the
slew gave in them (R52, R56). -/
def Dev.timeFull (d : Dev) (q : Nat) : Nat :=
  let t := d.time
  let back : Int := (4 * (67800000 * t.tc + t.carFrac) : Nat) - (67800000 * q : Nat)
  let den : Int := (4 * d.carStep : Nat)
  let slewed (a : Int) : Int := max 0 (min (slewLen : Int) a)
  let slew := if t.slewPer = 0 then 0 else (slewed t.slewRun - slewed (t.slewRun - back / den)) * t.slewPer
  (((t.net : Int) - slew) - back * d.ratePer / den).toNat / nsUnit

/-- The same as a 64-bit count of nanoseconds (R4). -/
def Dev.timeOf (d : Dev) (q : Nat) : Nat := d.timeFull q % 2 ^ 64

/-- What a frame's end edge brings happens at the network time of that edge (R49, R153). -/
def Dev.atIndex (d : Dev) (q : Nat) (f : Dev → Dev) : Dev :=
  let e := d.time.edge
  let d := f { d with time := { d.time with edge := some (d.timeOf q) } }
  { d with time := { d.time with edge := e } }

/-- The time that an event or a decision carries: of the end edge that brought it, else the present one (R153, R470). -/
def Dev.stamp (d : Dev) : Nat := d.time.edge.getD d.now

/-! ### The clock (R28, R40, R52, R719) -/

/-- Units of network time in one slow-clock tick. -/
def slowTick : Nat := 10 ^ 9 * nsUnit / 32768

/-- `m` REFCLK ÷ 2 periods (1/13.56 MHz each): the carrier count advances by the cycles that end in them (R40, R719), and network time by
the periods corrected by the learned rate, or from the slow clock while REFCLK is absent (R52), and by the slew in progress (R56; log
entries 9 and 10). Before configuration-ready and in SLEEP nothing counts (R719). -/
def Dev.ticks (d : Dev) (m : Nat) : Dev :=
  if d.pwr.boot ≠ .loading ∧ d.pwr.boot ≠ .running then d
  else
  let t := d.time
  let car := t.carFrac + m * d.carStep
  let slow := t.slowFrac + (if d.syn.refOk then 0 else 32768 * m)
  let adv : Int := (if d.syn.refOk then m * d.ratePer else ((slow / 13560000 * slowTick : Nat) : Int)) +
    (min (t.slewRun + m) slewLen - min t.slewRun slewLen : Nat) * t.slewPer
  { d with time := { t with
      tc := t.tc + car / 67800000, carFrac := car % 67800000, slowFrac := slow % 13560000,
      net := ((t.net : Int) + adv).toNat, slewRun := t.slewRun + m } }

/-- One REFCLK ÷ 2 period. -/
def Dev.tick (d : Dev) : Dev := d.ticks 1

/-- A command that stands for an instant that the device itself times: the clock runs on to the carrier cycle at which it falls due, if
that is still to come (log entry 42). -/
def Dev.runTo (d : Dev) (due : Nat) : Dev :=
  if due ≤ d.tc ∨ d.carStep = 0 then d
  else d.ticks (((due - d.tc) * 67800000 - d.time.carFrac + d.carStep - 1) / d.carStep)

/-- REFCLK ÷ 2 periods until network time has advanced by `g` units, at the learned rate, by the slew in progress, or on the slow clock:
the first that ends at or past that instant or, with `early`, the last that ends at or before it. -/
def Dev.periodsTo (d : Dev) (g : Nat) (early : Bool) : Nat :=
  let part (a b : Nat) : Nat := if early then a / b else (a + b - 1) / b
  if !d.syn.refOk then
    let k := part g slowTick
    if k = 0 then 0 else (k * 13560000 - d.time.slowFrac + 32767) / 32768
  else
    let a : Nat := d.ratePer.toNat
    let b : Nat := Int.toNat (d.ratePer + d.time.slewPer)
    let left := slewLen - min d.time.slewRun slewLen
    let k := part g (max 1 b)
    if k ≤ left then k else left + part (g - left * b) (max 1 a)

/-- The same for an instant of network time given by its distance, in units. -/
def Dev.runGap (d : Dev) (g : Nat) : Dev := if g = 0 then d else d.ticks (d.periodsTo g false)

/-- The same for an instant of network time as a 64-bit count, in 1/339 ns (R4). -/
def Dev.runNet (d : Dev) (u : Nat) : Dev := d.runGap (u * 10 ^ 12 - d.netMod)

/-- The clock runs on to the end of the last REFCLK ÷ 2 period at or before such an instant. -/
def Dev.runNetBy (d : Dev) (u : Nat) : Dev :=
  let g := u * 10 ^ 12 - d.netMod
  if g = 0 then d else d.ticks (d.periodsTo g true)

/-- Network time in whole milliseconds. -/
def Dev.nowMs (d : Dev) : Nat := d.now / 10 ^ 6

/-- Carrier cycles in one millisecond. -/
def tcMs : Nat := 13560

/-- Something sent to the outside. -/
def Dev.emit (d : Dev) (o : Output) : Dev := { d with out := d.out ++ [o] }

/-- A free value: an unconstrained number, drawn at the counter of the state (log entry 1). -/
def Dev.free (d : Dev) : Nat × Dev := (Config.freeNat d.freeCtr, { d with freeCtr := d.freeCtr + 1 })

/-- Free bytes, `n` of them (log entry 1). -/
def Dev.freeBytes (d : Dev) (n : Nat) : List Byte × Dev :=
  (padTo n (Config.freeBytes d.freeCtr), { d with freeCtr := d.freeCtr + 1 })

/-- A quotient whose rounding the manual leaves open: the exact value where it is whole, else the whole number below or above
it, as a free value says (log entry 1). -/
def Dev.quot (d : Dev) (num : Int) (den : Nat) : Int × Dev :=
  if num % (den : Int) = 0 then (num / (den : Int), d)
  else
    let (x, d) := d.free
    (num / (den : Int) + (x % 2 : Nat), d)

/-- Round a quotient to the nearest whole number; of two equally near ones a free value picks (log entry 1). -/
def Dev.nearest (d : Dev) (num : Int) (den : Nat) : Int × Dev :=
  let q := num / (den : Int)
  let r := num % (den : Int)
  if 2 * r < den then (q, d)
  else if (den : Int) < 2 * r then (q + 1, d)
  else
    let (x, d) := d.free
    (q + (x % 2 : Nat), d)

/-- Fold a change of the device over a list. -/
def Dev.each {α : Type} (d : Dev) (l : List α) (f : Dev → α → Dev) : Dev := l.foldl f d

/-- Apply a change when a condition holds. -/
def Dev.cond (d : Dev) (b : Bool) (f : Dev → Dev) : Dev := if b then f d else d

/-- The channels of a pavilion, of an arbour, and of the device (R10). -/
def pavChans (p : Nat) : List Nat := (List.range 32).map (32 * p + ·)
/-- The channels of an arbour. -/
def arbChans (a : Nat) : List Nat := (List.range 8).map (8 * a + ·)
/-- Every channel. -/
def allChans : List Nat := List.range 192
/-- The pavilion of a channel. -/
def pavOf (n : Nat) : Nat := n / 32
/-- The arbour of a channel. -/
def arbOf (n : Nat) : Nat := n / 8

/-- The lift of a change of the volatile state to an outcome: the queue and the persistent memory are left alone. -/
def onDev (f : NonVol → Dev → Dev) (s : State) : Host.Outcome State Fault Refusal :=
  .next { s with dev := f s.nv s.dev }

/-- The lift of a change of the persistent memory and the volatile state: the queue is left alone. -/
def onBoth (f : NonVol → Dev → NonVol × Dev) (s : State) : Host.Outcome State Fault Refusal :=
  .next { s with nv := (f s.nv s.dev).1, dev := (f s.nv s.dev).2 }

end Sys2Proof.Machine
end

