-- ==== Sys2Proof/Machine/Exact.lean ====
section
/-! DEFINITION. Exact arithmetic for levels, weights and correlations (R66, R71, R196 to R203, R224, R348). -/

namespace Sys2Proof.Machine

/-- The largest whole number below 2^w of 1/scale at or below num/den times a gain in 0.001 dB, and whether it is exact. -/
def gainMag (scale w num den : Nat) (mdb : Int) : Nat × Bool :=
  if mdb = 0 then (scale * num / den, scale * num % den == 0)
  else
    let top := (scale * num) ^ 20000 * 10 ^ mdb.toNat
    let at_ (a : Nat) : Nat := (a * den) ^ 20000 * 10 ^ (-mdb).toNat
    let a := (List.range w).reverse.foldl (fun a k => if at_ (a + 2 ^ k) ≤ top then a + 2 ^ k else a) 0
    (a, at_ a == top)

/-- 10^(-k/40) in units of 10^-12, rounded down, for k from 0 to 39 (the level law of R66; log entry 7). -/
def attTable : List Nat :=
  [1000000000000, 944060876285, 891250938133, 841395141645, 794328234724, 749894209332, 707945784384, 668343917568,
   630957344480, 595662143529, 562341325190, 530884444230, 501187233627, 473151258961, 446683592150, 421696503428,
   398107170553, 375837404288, 354813389233, 334965439157, 316227766016, 298538261891, 281838293126, 266072505979,
   251188643150, 237137370566, 223872113856, 211348903983, 199526231496, 188364908948, 177827941003, 167880401812,
   158489319246, 149623565609, 141253754462, 133352143216, 125892541179, 118850222743, 112201845430, 105925372517]

/-- Power P at level L in units of 10^-12 mW: P x 10^(-L/40) (R66, R348; log entry 7). -/
def powerAt (p l : Nat) : Nat := p * attTable.getD (l % 40) 0 / 10 ^ (l / 40)

/-- Whether P x 10^(-L/40) exceeds a limit, exactly (R71). -/
def exceeds (p l lim : Nat) : Bool := decide (lim ^ 40 * 10 ^ l < p ^ 40)

/-- Whether a power exceeds a limit by more than 0.5 dB, exactly (R93). -/
def overHalfDb (p lim : Nat) : Bool := decide (lim ^ 20 * 10 < p ^ 20)

/-- The integer square root of a ratio, rounded down. -/
def sqrtRatio (a b : Nat) : Nat := if b = 0 then 0 else Nat.sqrt (a / b)

/-- A complex number with integer parts. -/
structure Cx where
  re : Int := 0
  im : Int := 0
deriving DecidableEq, Repr

/-- Sum. -/
def Cx.add (a b : Cx) : Cx := ⟨a.re + b.re, a.im + b.im⟩
/-- Difference. -/
def Cx.sub (a b : Cx) : Cx := ⟨a.re - b.re, a.im - b.im⟩
/-- Product. -/
def Cx.mul (a b : Cx) : Cx := ⟨a.re * b.re - a.im * b.im, a.re * b.im + a.im * b.re⟩
/-- Conjugate. -/
def Cx.conj (a : Cx) : Cx := ⟨a.re, -a.im⟩
/-- Scaling by an integer. -/
def Cx.scale (n : Int) (a : Cx) : Cx := ⟨n * a.re, n * a.im⟩
/-- Squared magnitude. -/
def Cx.norm (a : Cx) : Nat := (a.re * a.re + a.im * a.im).toNat

/-- A register of two signed parts, I low and Q high, of width w at bit 0 and bit 16. -/
def cxOf (w v : Nat) : Cx := ⟨toInt w v, toInt w (v / 2 ^ 16)⟩
/-- The coding of such a register. -/
def cxTo (w : Nat) (c : Cx) : Nat := ofInt w c.re + 2 ^ 16 * ofInt w c.im

/-- e^H v for two vectors. -/
def dotH (e v : List Cx) : Cx := (List.zipWith (fun a b => a.conj.mul b) e v).foldl Cx.add {}
/-- The plain product of a row and a vector. -/
def dotT (e v : List Cx) : Cx := (List.zipWith Cx.mul e v).foldl Cx.add {}
/-- Squared norm of a vector. -/
def normV (v : List Cx) : Nat := (v.map Cx.norm).foldl (· + ·) 0

/-- v less its projection on e, scaled up by the squared norm of e so that every part stays an integer (the Gram-Schmidt step
of R200). -/
def lessProj (v e : List Cx) : List Cx :=
  List.zipWith (fun a b => (Cx.scale (normV e) a).sub ((dotH e v).mul b)) v e

/-- Round 511 x / sqrt n to the nearest integer, ties upward in magnitude. -/
def quant (x : Int) (n : Nat) : Int :=
  let m : Nat := (sqrtRatio (4 * 511 ^ 2 * (x.natAbs ^ 2)) n + 1) / 2
  clampInt (-511) 511 (if x < 0 then -(m : Int) else m)

/-- Scale a weight vector so that its largest part has magnitude 511/512, and quantise it (R200). -/
def quantise (w : List Cx) : List Cx :=
  let n := (w.map Cx.norm).foldl max 0
  w.map fun c => ⟨quant c.re n, quant c.im n⟩

/-- The steering weights of mode 1, or of mode 2 with its nulls: h is the target's row conjugated, nulls the null rows
conjugated, all restricted to the members (R200). -/
def steer (h : List Cx) (nulls : List (List Cx)) : List Cx :=
  let basis := nulls.foldl (fun us n =>
    let u := us.foldl lessProj n
    if normV u = 0 then us else us ++ [u]) []
  quantise (basis.foldl lessProj h)

/-- floor(80 log10(|t|/|n|)) held between 0 and 255, from squared magnitudes: the null depth in 0.25 dB (R203). -/
def nullDepth (t n : Nat) : Nat :=
  if n = 0 then 255
  else ((List.range 256).reverse.find? fun q => decide (n ^ 40 * 10 ^ q ≤ t ^ 40)).getD 0

/-- round(-80 log10 |w|) for a weight of squared magnitude n/512^2, n from 1 to 511^2 (R197). -/
def weightDrop (n : Nat) : Nat :=
  ((List.range 220).find? fun m => decide ((512 ^ 2) ^ 80 < n ^ 80 * 10 ^ (2 * m + 1))).getD 220

/-- Whether sqrt(a/b) - sqrt(c/d) is at least g/256, exactly, for positive b and d (R224). -/
def gapAtLeast (a b c d g : Nat) : Bool :=
  -- with A = a d 65536, C = c b 65536, G = g^2 b d: sqrt A - sqrt C >= sqrt G
  let x : Int := (a * d * 65536 : Nat) - (c * b * 65536 : Nat) - (g ^ 2 * (b * d) : Nat)
  decide (0 ≤ x) && decide (4 * (g ^ 2 * (b * d)) * (c * b * 65536) ≤ x.toNat ^ 2)

/-- floor(256 sqrt(a/b)), at most 255. -/
def rho256 (a b : Nat) : Nat := min 255 (sqrtRatio (a * 65536) b)

/-! ### The phase of a weight (R197) -/

/-- The tangents of half-steps of 1/1024 turn, (2j + 1)/2048 turn for j from 0 to 127, in units of 10^-12, rounded down; no ratio of
two weight parts lies between a tangent and its rounding. -/
def tanTable : List Nat :=
  [3067971201, 9204144627, 15341011194, 21479033225, 27618673395, 33760394866, 39904661425, 46051937631,
   52202688947, 58357381891, 64516484169, 70680464826, 76849794381, 83024944981, 89206390538, 95394606882,
   101590071907, 107793265719, 114004670788, 120224772103, 126454057320, 132693016924, 138942144383,
   145201936309, 151472892619, 157755516701, 164050315575, 170357800068, 176678484982, 183012889269,
   189361536205, 195724953574, 202103673846, 208498234369, 214909177551, 221337051059, 227782408013,
   234245807185, 240727813206, 247228996774, 253749934863, 260291210945, 266853415211, 273437144794,
   280043004006, 286671604571, 293323565871, 299999515190, 306700087972, 313425928078, 320177688056,
   326956029411, 333761622887, 340595148752, 347457297096, 354348768129, 361270272495, 368222531588,
   375206277879, 382222255256, 389271219362, 396353937957, 403471191278, 410623772419, 417812487712,
   425038157126, 432301614679, 439603708855, 446945303039, 454327275965, 461750522174, 469215952489,
   476724494505, 484277093092, 491874710915, 499518328972, 507208947147, 514947584778, 522735281254,
   530573096619, 538462112201, 546403431265, 554398179686, 562447506638, 570552585320, 578714613692,
   586934815247, 595214439806, 603554764339, 611957093821, 620422762108, 628953132857, 637549600468,
   646213591069, 654946563529, 663750010513, 672625459577, 681574474302, 690598655467, 699699642276,
   708879113620, 718138789397, 727480431878, 736905847127, 746416886479, 756015448074, 765703478450,
   775482974208, 785355983732, 795324608992, 805391007410, 815557393810, 825826042444, 836199289108,
   846679533345, 857269240737, 867970945303, 878787251997, 889720839312, 900774462000, 911950953916,
   923253230981, 934684294283, 946247233315, 957945229364, 969781559052, 981759598042, 993882824914]

/-- The angle of b/a, for 0 < a and b ≤ a, in steps of 1/1024 turn, to the nearest (0 to 128). -/
def octant (a b : Nat) : Nat := tanTable.countP fun t => decide (t * a < b * 10 ^ 12)

/-- arg(w) rounded to 1/1024 turn, for parts of magnitude up to 511 (R197). -/
def weightArg (w : Cx) : Nat :=
  let a := w.re.natAbs
  let b := w.im.natAbs
  let q := if a = 0 ∧ b = 0 then 0 else if b ≤ a then octant a b else 256 - octant b a
  (if 0 ≤ w.re then (if 0 ≤ w.im then q else 1024 - q) else if 0 ≤ w.im then 512 - q else 512 + q) % 1024

/-! ### Words of the sample path -/

/-- Saturation to a two's-complement word of w bits. -/
def satTo (w : Nat) (x : Int) : Int := clampInt (-(2 ^ (w - 1))) (2 ^ (w - 1) - 1) x

/-- A quotient rounded to nearest; `up` says which of two equally near values is taken (log entry 57). -/
def roundQ (up : Bool) (num : Int) (den : Nat) : Int :=
  if up then (2 * num + den) / (2 * den : Int) else -((-(2 * num) + den) / (2 * den : Int))

/-- Right shift, rounding and saturation of one part, and whether it saturated (R111, R138). -/
def shiftSat (up : Bool) (w sh : Nat) (x : Int) : Int × Bool :=
  let y := roundQ up x (2 ^ sh)
  (satTo w y, satTo w y != y)

/-- The same of a complex sample, I and Q separately. -/
def shiftSatC (up : Bool) (w sh : Nat) (x : Cx) : Cx × Bool :=
  let i := shiftSat up w sh x.re
  let q := shiftSat up w sh x.im
  (⟨i.1, q.1⟩, i.2 || q.2)

end Sys2Proof.Machine
end

