-- ==== Sys2Proof/Machine/Rates.lean ====
section
/-! DEFINITION. The rates of capture streams, the capacities that bound them, and their suspension (R50, R134, R137, R139, R444,
R447 to R451). -/

namespace Sys2Proof.Machine

/-- The channels whose records are not at their defaults. -/
def Dev.chanKeys (d : Dev) : List Nat := d.chans.map (·.1)

/-! ### Rates and capacity (R134, R137, R139, R447 to R450) -/

/-- Units of a sample rate: 2^-24 S/s. -/
def rateUnit : Nat := 2 ^ 24

/-- The rate of a capture point in 2^-24 S/s (R134, R137). -/
def Dev.pointRate (d : Dev) (n point : Nat) : Nat :=
  if point = 0 then 6780000 * rateUnit
  else if point = 1 then 3390000 * rateUnit
  else 54240000 / 2 ^ d.fld F.CH_RX_CTL_FIR_SRC n * d.fld F.CH_RX_RS_M n

/-- The rate of a channel's stream (R448). -/
def Dev.capRate (d : Dev) (n : Nat) : Nat :=
  match (d.ch n).cap with
  | some c => d.pointRate n c.point
  | none => 0

/-- The step of the resampler's position in units of 2^-24 input sample (R134); in M's range the quotient is never a tie. -/
def rsStep (m : Nat) : Nat := (2 ^ 49 + m) / (2 * m)

/-- The period of the output samples of HBk in quarters of a Tc; k = 0 the converter's (R110). -/
def hbPeriod (k : Nat) : Nat := 2 ^ k

/-- The time between two samples of a point, in 2^-24 of a quarter of a Tc (R110, R134, R137). -/
def Dev.pointStep (d : Dev) (n point : Nat) : Nat :=
  if point = 0 then 2 ^ 24 * hbPeriod 3
  else if point = 1 then 2 ^ 24 * hbPeriod 4
  else rsStep (d.fld F.CH_RX_RS_M n) * hbPeriod (d.fld F.CH_RX_CTL_FIR_SRC n)

/-- A stream is suspended for a cause (R444). -/
def Cap.held (c : Cap) : Bool := c.susFab || c.susLink || c.susBuf || c.susBor

/-- The channels with a stream. -/
def Dev.streams (d : Dev) : List Nat := d.chanKeys.filter fun n => (d.ch n).cap.isSome

/-- The sum of the rates of some channels' streams. -/
def Dev.rateSum (d : Dev) (l : List Nat) : Nat := (l.map d.capRate).foldl (· + ·) 0

/-- The streams that neither fabric nor link suspends. -/
def Dev.carried (d : Dev) : List Nat :=
  d.streams.filter fun n => match (d.ch n).cap with
    | some c => !c.susFab && !c.susLink
    | none => false

/-- The fabric capacity K_f of a margin, in kS/s (R450). -/
def fabricKsps (margin : Int) : Nat :=
  if 0 ≤ margin then 650880 else if margin ≤ -60 then 0 else 10848 * (60 + margin).toNat

/-- A rate is at most a capacity in kS/s. -/
def underK (rate ksps : Nat) : Bool := decide (rate ≤ ksps * 1000 * rateUnit)

/-- A rate times 32 bits is at most the link budget (R448). -/
def Dev.underLink (d : Dev) (rate : Nat) : Bool :=
  decide (rate * 32 ≤ d.fld F.HIF_CAP_BUDGET_MBPS * 10 ^ 6 * rateUnit)

/-- A further stream fits (R139, R448). -/
def Dev.capFits (d : Dev) (n point : Nat) : Bool :=
  let r := d.pointRate n point
  let sum := d.rateSum d.streams + r
  let fast (x : Nat) : Bool := decide (3390000 * rateUnit < x)
  underK sum 650880 && d.underLink sum &&
    (!fast r || decide ((d.streams.filter fun m => fast (d.capRate m)).length < 96))

/-! ### Suspension (R444, R449 to R451) -/

/-- Change a channel's stream. -/
def Dev.modCap (d : Dev) (n : Nat) (f : Cap → Cap) : Dev := d.modCh n fun c => { c with cap := c.cap.map f }

/-- A suspension begins a gap at the next sample, unless one is open (R444, R445). -/
def Cap.gap (c : Cap) : Cap := { c with gapFrom := if c.running && !c.ended && c.gapFrom.isNone then some c.idx else c.gapFrom }

/-- Shedding order: lowest PRIO first, then highest channel first (R451). -/
def Dev.shedOrder (d : Dev) (l : List Nat) : List Nat :=
  sortPairs (l.map fun n => (d.fld F.CH_CAP_CTL_PRIO n * 256 + (255 - n), n))

/-- Suspend streams in shedding order until those carried satisfy a bound. -/
def Dev.shedUntil (d : Dev) (ok : Dev → Bool) (mark : Cap → Cap) : List Nat → Dev
  | [] => d
  | n :: t => if ok d then d else Dev.shedUntil (d.modCap n fun c => (mark c).gap) ok mark t

/-- Resume streams that fit again, in the order given (R450, R451). -/
def Dev.resumeFit (d : Dev) (ksps : Nat) : List Nat → Dev
  | [] => d
  | n :: t =>
    let sum := d.rateSum d.carried + d.capRate n
    Dev.resumeFit (if underK sum ksps && d.underLink sum then d.modCap n fun c => { c with susFab := false, susLink := false } else d) ksps t

/-- The running rates are held to the fabric and to the link, and what fits again resumes (R449 to R451). -/
def Dev.recap (d : Dev) : Dev :=
  let m := d.fldI F.SYS_TRELLIS_MARGIN_MARGIN
  let d := d.shedUntil (fun d => underK (d.rateSum d.carried) (fabricKsps m)) (fun c => { c with susFab := true }) (d.shedOrder d.carried)
  let d := d.shedUntil (fun d => d.underLink (d.rateSum d.carried)) (fun c => { c with susLink := true }) (d.shedOrder d.carried)
  let off := d.streams.filter fun n => !d.carried.contains n
  d.resumeFit (fabricKsps (m - 4)) (d.shedOrder off).reverse

end Sys2Proof.Machine
end

