-- ==== Sys2Proof/Machine/Chain.lean ====
section
/-! DEFINITION. What the receive chain holds back while a frame is received, and its release at the frame's end; the states of the
gain control (R112, R115, R117, R126, R131). -/

namespace Sys2Proof.Machine

/-- The framer is inside a received frame (R112, R117): of a transaction, or of a reader on a listening channel. -/
def Dev.inFrame (d : Dev) (n : Nat) : Bool :=
  (d.ch n).lsn.inFrame ||
    (match (d.ch n).txn with
     | some t => t.air == .receiving || t.air == .captured
     | none => false)

/-- The state of a channel's AGC: 0 TRACK, 1 HOLD_TX, 2 FROZEN, 3 MANUAL. -/
def Dev.agc (d : Dev) (n : Nat) : Nat := d.fld F.CH_RX_AGC_STATE n

/-- Move the AGC from one of some states to another (R131). -/
def Dev.agcGo (d : Dev) (n : Nat) (from_ : List Nat) (dest : Nat) : Dev :=
  if from_.contains (d.agc n) then d.setFld F.CH_RX_AGC_STATE n 0 dest else d

/-- The PGA takes a gain, in steps of 2 dB; a change holds the fine estimate for 16 HB1 samples (R126, R133). -/
def Dev.setGain (d : Dev) (n g : Nat) : Dev :=
  let old := d.fld F.CH_RX_AGC_GAIN_NOW n
  if old = g then d
  else (d.setFld F.CH_RX_AGC_GAIN_NOW n 0 g).modCh n fun c => { c with
    gainLog := (d.tc, old) :: c.gainLog.filter fun e => decide (d.tc < e.1 + 128) }

/-- The gain of a PGA step with its calibrated offset and slope, in 0.001 dB (R127, R552). -/
def Dev.pgaMilli (d : Dev) (n g : Nat) : Int :=
  let l := tblGet d.cal.applied n []
  2000 * g + 10 * l.getD 9 0 + g * l.getD 10 0

/-- The gain step at which the converter took a sample, by half cycles of the carrier: a change acts from the next one (R133). -/
def Dev.gainAt (d : Dev) (n h : Nat) : Nat :=
  match (d.ch n).gainLog.reverse.find? fun e => decide (h ≤ 2 * e.1) with
  | some e => e.2
  | none => d.fld F.CH_RX_AGC_GAIN_NOW n

/-- The fine estimate is held at the HB1 sample of a half cycle: one of the 16 that follow a gain change (R126). -/
def Dev.gainHold (d : Dev) (n h : Nat) : Bool := (d.ch n).gainLog.any fun e => decide (2 * e.1 < h) && decide (h ≤ 2 * e.1 + 16)

/-- A part of a phasor in converter steps at gain step `g`, in steps at gain step `g'`, so that a gain change does not move it (R127): a
whole number of 2^-24 steps, the one below or, with `up`, above where it lies between two (log entry 1). -/
def Dev.regain (d : Dev) (n g g' : Nat) (up : Bool) (x : Rat) : Rat :=
  let mdb := d.pgaMilli n g' - d.pgaMilli n g
  if mdb = 0 then x
  else
    let m := gainMag (2 ^ 24) 48 x.num.natAbs x.den mdb
    let v : Nat := m.1 + b2n (up && !m.2)
    (if x < 0 then -(v : Rat) else v) / 2 ^ 24

/-- Carrier cycles for which ended fields and frames are kept for the symbol vectors of a frame still being received (R212): more than the
longest frame lasts. -/
def pastTc : Nat := 2 ^ 28

/-- A frame of channel `n`'s exchange is being received through some taps, since a carrier cycle (R212). -/
def Dev.rxBegin (d : Dev) (n since : Nat) (taps : List Nat) : Dev := d.each taps fun d m => d.modCh m fun c => { c with rxBy := some (n, since) }

/-- The frame is over on every tap that received it (R212). -/
def Dev.rxEnd (d : Dev) (n : Nat) : Dev :=
  d.each ((arbChans (arbOf n)).filter fun m => (d.ch m).rxBy.any fun x => x.1 == n) fun d m => d.modCh m fun c => { c with
    rxBy := none
    rxPast := (match c.rxBy with
      | some x => [(x.1, x.2, d.tc)]
      | none => []) ++ c.rxPast.filter fun x => decide (d.tc < x.2.2 + pastTc) }

/-- The Tc that 64 input samples of a FIR_SRC take (R110, R115). -/
def refillTc (src : Nat) : Nat := 16 * 2 ^ src

/-- The filter takes its input from another stage: it restarts empty, and the framer ignores it for 64 input samples (R115). -/
def Dev.setSrc (d : Dev) (n src : Nat) : Dev :=
  if d.fld F.CH_RX_CTL_FIR_SRC n = src then d
  else (d.setFld F.CH_RX_CTL_FIR_SRC n 0 src).modCh n fun c => { c with deafTo := d.tc + refillTc src }

/-- The framer hears its input (R115). -/
def Dev.hears (d : Dev) (n : Nat) : Bool := decide ((d.ch n).deafTo ≤ d.tc)

/-- A cross-fade of the filter banks starts (R117). -/
def Dev.fadeStart (d : Dev) (n : Nat) : Dev := (d.setOn F.CH_RX_FIR_FADING n 0 true).modCh n fun c => { c with fadeAt := d.tc }

/-- Put a calibrated quantity of a channel into force (R547). -/
def Dev.putApplied (d : Dev) (n q : Nat) (v : Int) : Dev :=
  let a := tblGet d.cal.applied n []
  { d with cal := { d.cal with applied := tblPut d.cal.applied n ((a ++ List.replicate (12 - a.length) 0).set q v) } }

/-- The receive-side corrections that waited for the frame's end take effect: ADC offset and PGA gain (R547). -/
def Dev.rxSettle (d : Dev) (n : Nat) : Dev :=
  match tblFind d.cal.target n with
  | some t => d.each [7, 8, 9, 10] fun d q => d.putApplied n q (t.getD q 0)
  | none => d

/-- The framer leaves a received frame: a deferred switch starts its fade, held shifts, a held FIR_SRC and held
corrections apply (R112, R115, R117, R547), and with FIR_SRC the rates of streams (R448). -/
def Dev.chainFree (d : Dev) (n : Nat) : Dev :=
  let d := d.rxEnd n
  let d := (if d.on F.CH_RX_FIR_PENDING n then (d.setOn F.CH_RX_FIR_PENDING n 0 false).fadeStart n else d).rxSettle n
  let d := match (d.ch n).shiftPend with
    | some v => (d.wr .CH_RX_SHIFT n 0 v).modCh n fun c => { c with shiftPend := none }
    | none => d
  match (d.ch n).srcPend with
  | some v => ((d.setSrc n v).modCh n fun c => { c with srcPend := none }).recap
  | none => d

/-- The end of a received frame: what it held back applies, and the AGC leaves FROZEN (R131). -/
def Dev.frameEnded (d : Dev) (n : Nat) : Dev := (d.chainFree n).agcGo n [2] 0

end Sys2Proof.Machine
end

