-- ==== Sys2Proof/Machine/Crc.lean ====
section
/-! DEFINITION. The check values: CRC-32C (R16) and the air CRCs (R159). -/

namespace Sys2Proof.Machine

/-- One bit of a reflected CRC with the given polynomial. -/
def crcStep (poly c : Nat) : Nat := if c % 2 = 1 then (c >>> 1) ^^^ poly else c >>> 1

/-- One byte of a reflected CRC. -/
def crcByte (poly c : Nat) (b : Byte) : Nat :=
  (crcStep poly)^[8] (c ^^^ b.toNat)

/-- A reflected CRC over a byte string. -/
def crcRefl (poly init : Nat) (l : List Byte) : Nat := l.foldl (crcByte poly) init

/-- CRC-32C: polynomial 0x1EDC6F41 reflected, preset and final complement all ones (R16). -/
def crc32c (l : List Byte) : Nat := crcRefl 0x82F63B78 0xFFFFFFFF l ^^^ 0xFFFFFFFF

/-- CRC_A over a frame, as sent: low byte first (R159). -/
def crcA (l : List Byte) : List Byte := toLe 2 (crcRefl 0x8408 0x6363 l)

/-- CRC_B over a frame, as sent: low byte first (R159). -/
def crcB (l : List Byte) : List Byte := toLe 2 (crcRefl 0x8408 0xFFFF l ^^^ 0xFFFF)

/-- One bit of CRC_F, most significant bit first. -/
def crcFStep (c : Nat) : Nat :=
  if c / 0x8000 % 2 = 1 then ((2 * c) % 0x10000) ^^^ 0x1021 else (2 * c) % 0x10000

/-- CRC_F over the length byte and payload, as sent: high byte first (R159). -/
def crcF (l : List Byte) : List Byte :=
  toBe 2 (l.foldl (fun c b => crcFStep^[8] (c ^^^ (b.toNat * 256))) 0)

end Sys2Proof.Machine
end

