-- ==== Sys2Proof/Machine/Post.lean ====
section
/-! DEFINITION. Event entries and their outbound queues, the event rings, interrupts, and completions (R387 to R392, R414 to
R434, R717). -/

namespace Sys2Proof.Machine

/-! ### Requests (R383, R384) -/

/-- The device may make memory requests: Bus Master Enable is 1 (R384), and the function is in D0 (R380; log entry 69). -/
def Dev.mayReq (d : Dev) : Bool := d.host.busMaster && d.host.pcie.power == 0

/-- The largest read request: the Max_Read_Request_Size of Device Control (R383). -/
def Dev.maxRead (d : Dev) : Nat := 128 * 2 ^ min 5 (bits d.host.pcie.devCtl 12 3)

/-- The requests that read a span of host memory: none larger than m bytes, none across a 4 KiB boundary. -/
def readPieces (m : Nat) : Nat → Nat → Nat → List (Nat × Nat)
  | 0, _, _ => []
  | f + 1, a, l =>
    if l = 0 then []
    else
      let k := min l (min m (4096 - a % 4096))
      (a, k) :: readPieces m f (a + k) (l - k)

/-- The requests that the device makes to read a span (R383). -/
def Dev.reads (d : Dev) (a l : Nat) : List (Nat × Nat) := readPieces d.maxRead l a l

/-- A span of host memory is read (R383). -/
def Dev.readMem (d : Dev) (a l : Nat) : Dev := d.each (d.reads a l) fun d x => d.emit (.memRead x.1 x.2)

/-! ### Interrupt messages -/

/-- Row v of the MSI-X table (R694). -/
def Dev.msix (d : Dev) (v : Nat) : MsixRow := tblGet d.host.msix v {}

/-- Change row v of the MSI-X table. -/
def Dev.modMsix (d : Dev) (v : Nat) (f : MsixRow → MsixRow) : Dev :=
  { d with host := { d.host with msix := tblSet d.host.msix v (f (d.msix v)) {} } }

/-- A vector fires while MSI-X is enabled: a masked one sets its pending bit (R424), and so does one that cannot be sent because
Bus Master Enable is 0 (R384; log entry 33); an unmasked one is sent. -/
def Dev.fireVec (d : Dev) (v : Nat) : Dev :=
  if d.host.msixEn then
    let row := d.msix v
    if row.mask || !d.mayReq then d.modMsix v fun r => { r with pend := true }
    else d.emit (.msix v (row.addrLo + 2 ^ 32 * row.addrHi) row.data)
  else d

/-- Set a cause bit of HIF_MISC_STAT; its vector fires when the bit becomes 1 while enabled (R421). -/
def Dev.setMisc (d : Dev) (b : Nat) : Dev :=
  if bitAt (d.rd .HIF_MISC_STAT) b then d
  else
    let d := d.wr .HIF_MISC_STAT 0 0 (setBits (d.rd .HIF_MISC_STAT) b 1 1)
    if bitAt (d.rd .HIF_MISC_EN) b then d.fireVec (64 + b) else d

/-- Add to a 64-bit statistic counter; reaching the largest value sets its bit of TMR_SC_OVF and cause bit 7, once (R663). -/
def Dev.addStat (d : Dev) (l h : RegName) (j bit n : Nat) : Dev :=
  let d := d.addPair l h 0 j n
  if d.rd l 0 j = 2 ^ 32 - 1 ∧ d.rd h 0 j = 2 ^ 32 - 1 ∧ !bitAt (d.rd .TMR_SC_OVF) bit then
    (d.wr .TMR_SC_OVF 0 0 (setBits (d.rd .TMR_SC_OVF) bit 1 1)).setMisc 7
  else d

/-! ### Entries -/

/-- Kinds that report a state the registers also hold (R433). -/
def EvKind.reports : EvKind → Bool
  | .captureProgress | .supplyWarn | .timeLockChange | .synSwap | .fault => true
  | _ => false

/-- Kinds with places of their own in the device outbound queue (R434). -/
def EvKind.reserved : EvKind → Bool
  | .supplyWarn | .timeLockChange | .synSwap | .fault => true
  | _ => false

/-- The class of an entry in a channel's queue (R426): 0 transaction, 1 capture, 2 fault. One that stands in another's place keeps that
one's (R434). -/
def Entry.cls (e : Entry) : Nat :=
  match e.stead, e.kind with
  | some k, _ => k
  | none, .fault => 2
  | none, .captureProgress | none, .captureGap => 1
  | none, _ => if e.capEnd then 1 else 0

/-- An entry takes one of the reserved places of the device outbound queue, or stands in one (R434). -/
def Entry.reserved (e : Entry) : Bool :=
  match e.stead with
  | some k => k == 2
  | none => e.kind.reserved

/-- The flag byte of an entry (R414). -/
def Entry.flags (e : Entry) (phase : Bool) : Nat :=
  b2n phase + 2 * b2n e.more + 4 * b2n e.hold + 8 * b2n e.cycle + 16 * b2n e.wtxCapped + 32 * b2n e.presFull +
    64 * b2n e.localWrite + 128 * b2n e.overlap

/-- The 28 bytes of an entry before its check word (R414). -/
def Entry.body28 (e : Entry) (phase : Bool) : List Byte :=
  toLe 1 e.status.ctorIdx ++ toLe 1 e.kind.ctorIdx ++ toLe 1 (e.flags phase) ++ toLe 1 e.gen ++ toLe 2 e.source ++
    toLe 2 (e.session % 0x1000 + 0x1000 * (e.step % 8)) ++ toLe 8 e.time ++ padTo 12 e.body

/-- The 32 bytes of an entry (R414). -/
def Entry.encode (e : Entry) (phase : Bool) : List Byte :=
  e.body28 phase ++ toLe 4 (crc32c (e.body28 phase))

/-! ### Outbound queues (R426) -/

/-- The entries of one class that a queue holds. -/
def OutQ.count (q : OutQ) (cls : Nat) : Nat := q.held.countP (fun e => e.cls == cls)

/-- The entries outside the reserved kinds that the device queue holds. -/
def OutQ.plain (q : OutQ) : Nat := q.held.countP (fun e => !e.reserved)

/-- Free transaction-class entries of a channel's queue (R426). -/
def Dev.outFree (d : Dev) (n : Nat) : Nat := 48 - (d.ch n).outq.count 0

/-- Free entries of the device outbound queue outside the 80 reserved ones (R434). -/
def Dev.devFree (d : Dev) : Nat := 48 - d.host.devQ.plain

/-- Whether a channel's queue has room for an entry (R426). -/
def OutQ.roomCh (q : OutQ) (e : Entry) : Bool :=
  match e.cls with
  | 0 => q.count 0 < 48
  | 1 => q.count 1 < 3
  | _ => q.count 2 < 2

/-- Whether the device queue has room for an entry (R426, R434). -/
def OutQ.roomDev (q : OutQ) (e : Entry) : Bool := e.reserved || q.plain < 48

/-- Whether two entries come from one source in the sense of R433; one that stands in another's place does not count (R434). -/
def Entry.sameSource (e f : Entry) : Bool :=
  e.stead.isNone && f.stead.isNone && e.kind == f.kind && e.source == f.source && (e.kind != .supplyWarn || byteAt e.body 0 == byteAt f.body 0)

/-- Rewrite the last entry of the same source (R433). -/
def rewriteLast (e : Entry) (l : List Entry) : List Entry :=
  match l.reverse.findIdx? (fun f => f.sameSource e) with
  | none => l
  | some k =>
    let i := l.length - 1 - k
    l.modify i fun f => { f with time := e.time, body := e.body }

/-- The role generation a channel reports; a session named puts its own there (R414). -/
def Dev.genOf (d : Dev) (source session : Nat) : Nat :=
  if session < 384 then (d.ses session).gen % 256
  else if source < 192 then (d.ch source).gen % 256 else 0

/-- The event ring of an entry when it enters its queue, or none when it is discarded (R419). -/
def Dev.route (d : Dev) (e : Entry) : Option Nat :=
  match e.ring with
  | some r => some r
  | none =>
    if e.source < 0x300 then
      let n := if e.source < 192 then e.source
        else if e.source < 0x200 then 8 * (e.source - 0x100) else 32 * (e.source - 0x200)
      let b := bits (d.rd .HIF_UNSOL_MAP 0 (n / 4)) (8 * (n % 4)) 8
      if b ≥ 128 then some (b % 32) else none
    else if d.on F.HIF_CTL_DEV_EV_EN then some (d.fld F.HIF_CTL_DEV_EVQ) else none

/-- The outbound queue of a source (R426). -/
def Dev.outq (d : Dev) (source : Nat) : OutQ := if source < 192 then (d.ch source).outq else d.host.devQ

/-- Change the outbound queue of a source. -/
def Dev.modOutq (d : Dev) (source : Nat) (f : OutQ → OutQ) : Dev :=
  if source < 192 then d.modCh source fun c => { c with outq := f c.outq }
  else { d with host := { d.host with devQ := f d.host.devQ } }

/-- Whether a queue has room for an entry. -/
def OutQ.room (q : OutQ) (e : Entry) : Bool := if e.source < 192 then q.roomCh e else q.roomDev e

/-- An entry enters its queue: its ring is fixed, or it is discarded and counted (R419). -/
def Dev.enter (d : Dev) (e : Entry) : Dev :=
  match d.route e with
  | none => d.addFld F.HIF_UNSOL_DROP_COUNT 0 0 1
  | some r => d.modOutq e.source fun q => { q with held := q.held ++ [{ e with ring := some r }] }

/-- Post an entry: a third pending report of one source rewrites the second (R433); without room the entry waits (R717). -/
def Dev.post (d : Dev) (e : Entry) : Dev :=
  let e := { e with gen := d.genOf e.source (if e.kind = .slotAttributed then 0x1FF else e.session) }
  let q := d.outq e.source
  if e.kind.reports && decide ((q.held ++ q.waiting).countP (fun f => f.sameSource e) ≥ 2) then
    (d.modOutq e.source fun q =>
      if q.waiting.any (fun f => f.sameSource e) then { q with waiting := rewriteLast e q.waiting }
      else { q with held := rewriteLast e q.held }).addFld F.HIF_DEVQ_COALESCED 0 0 1
  else if q.room e && !(q.waiting.any fun f => f.cls == e.cls && f.reserved == e.reserved) then d.enter e
  else d.modOutq e.source fun q => { q with waiting := q.waiting ++ [e] }

/-- Entries that waited enter while there is room, in order (R717). -/
def Dev.promote (d : Dev) (source : Nat) : List Entry → Dev
  | [] => d
  | e :: t =>
    if (d.outq source).room e then Dev.promote (d.enter e) source t
    else Dev.promote (d.modOutq source fun q => { q with waiting := q.waiting ++ [e] }) source t

/-- Room has come up in a queue: what waited may enter. -/
def Dev.refill (d : Dev) (source : Nat) : Dev :=
  let w := (d.outq source).waiting
  Dev.promote (d.modOutq source fun q => { q with waiting := [] }) source w

/-- Post an unsolicited event. -/
def Dev.event (d : Dev) (kind : EvKind) (source : Nat) (body : List Byte) (st : Status := .ok) (session : Nat := 0x1FF) :
    Dev :=
  d.post { status := st, kind := kind, source := source, session := session, time := d.stamp, body := body }

/-! ### Event rings (R386 to R392) -/

/-- Entries of a ring (R386). -/
def Dev.ringSize (d : Dev) (r : Nat) : Nat := 2 ^ d.fld F.HIF_RING_CFG_LOG2_SIZE r

/-- An event ring has room for one entry: it is enabled, it is not full, and the device may write (R384, R390). -/
def Dev.ringRoom (d : Dev) (r : Nat) : Bool :=
  d.mayReq && (d.rd .HIF_RING_HEAD r + 1) % d.ringSize r != d.rd .HIF_RING_TAIL r

/-- A ring's vector fires and both counts restart (R422). -/
def Dev.fireRing (d : Dev) (r : Nat) : Dev :=
  (d.modRing r fun x => { x with unsig := 0, oldest := 0 }).fireVec r

/-- Write an entry at HEAD of an event ring and advance it (R390 to R392), then signal it (R422). -/
def Dev.writeEntry (d : Dev) (r : Nat) (e : Entry) : Dev :=
  let head := d.rd .HIF_RING_HEAD r
  let base := 64 * (d.pair .HIF_RING_BASE_L .HIF_RING_BASE_H r / 64)
  let d := d.emit (.memWrite (base + 32 * head) (e.encode (d.on F.HIF_RING_STAT_PHASE r)))
  let wrap : Bool := head + 1 == d.ringSize r
  let d := d.wr .HIF_RING_HEAD r 0 (if wrap then 0 else head + 1)
  let d := if wrap then d.setOn F.HIF_RING_STAT_PHASE r 0 (!d.on F.HIF_RING_STAT_PHASE r) else d
  let d := d.modRing r fun x => { x with unsig := x.unsig + 1, oldest := if x.unsig = 0 then d.tc else x.oldest }
  if e.irq || decide ((d.ring r).unsig ≥ d.fld F.HIF_RING_MOD_COUNT r) then d.fireRing r else d

/-- The event ring register index of EVQ q (R17). -/
def evRing (q : Nat) : Nat := 32 + q % 32

/-- The head entry of a source's outbound queue leaves it (R427): a disabled ring discards it (R388), and a full ring or a bus master
that is off holds it. -/
def Dev.postHead (d : Dev) (source : Nat) : Dev :=
  match (d.outq source).held with
  | [] => d
  | e :: t =>
    let r := evRing (e.ring.getD 0)
    if !d.on F.HIF_RING_CFG_EN r then
      ((d.modOutq source fun q => { q with held := t }).addFld F.HIF_RING_DROPS_COUNT r 0 1).refill source
    else if d.ringRoom r then
      ((d.modOutq source fun q => { q with held := t }).writeEntry r e).refill source
    else d

/-! ### The write arbiters (R435 to R438)

The leaves are the channels 0 to 191 and, as 192, the device outbound queue. Which child a round begins with after an idle time is not
stated: it goes on where it stood (log entry 64). -/

/-- Q: the Max_Payload_Size in force, at least PCI Express's least (R436). -/
def Dev.maxWrite (d : Dev) : Nat := max 128 d.host.mps

/-- Output data that a leaf has still to write. -/
def Dev.dataAt (d : Dev) (l : Nat) : List (Nat × List Byte) := if l < 192 then (d.ch l).dataWait else d.host.dataWait

/-- Change the output data that a leaf has still to write. -/
def Dev.modData (d : Dev) (l : Nat) (f : List (Nat × List Byte) → List (Nat × List Byte)) : Dev :=
  if l < 192 then d.modCh l fun c => { c with dataWait := f c.dataWait }
  else { d with host := { d.host with dataWait := f d.host.dataWait } }

/-- The entry at the head of a leaf's queue has an enabled ring with room (R427, R435). -/
def Dev.entryMay (d : Dev) (l : Nat) : Bool :=
  match (d.outq l).held with
  | [] => false
  | e :: _ => d.on F.HIF_RING_CFG_EN (evRing (e.ring.getD 0)) && d.ringRoom (evRing (e.ring.getD 0))

/-- Bytes of the next write of a channel's samples: no more than Q, and not past the end of the host's buffer (R436, R439). -/
def Dev.sampleSize (d : Dev) (n : Nat) : Nat :=
  match (d.ch n).cap with
  | some c =>
    match c.buf with
    | (i, b) :: _ => min d.maxWrite (min b.length (c.desc.d.bufLen - 4 * i % c.desc.d.bufLen))
    | [] => 0
  | none => 0

/-- Bytes of a leaf's next write: output data, then an entry, then samples (R438); 0 where it is not backlogged (R384, R435). -/
def Dev.nextSize (d : Dev) (l : Nat) : Nat :=
  if d.mayReq then
    match d.dataAt l with
    | w :: _ => min d.maxWrite (max 1 w.2.length)
    | [] => if d.entryMay l then 32 else if l < 192 then d.sampleSize l else 0
  else 0

/-- The backlogged leaves, each with the size of its next write. -/
def Dev.backlog (d : Dev) : List (Nat × Nat) :=
  ((d.chans.map (fun (e : Nat × Ch) => e.1) ++ [192]).map fun l => (l, d.nextSize l)).filter fun (x : Nat × Nat) => x.2 != 0

/-- A write that an arbiter has chosen: its leaf and size, and the arbiters on its path as the choice leaves them. -/
structure Pick where
  leaf  : Nat := 0
  size  : Nat := 0
  nodes : List (Nat × Drr) := []
deriving DecidableEq, Repr

/-- An arbiter of `cnt` children chooses among its backlogged ones, each given with its backlogged channels and its own choice (R436): the
present child while its deficit covers its next write, else the next backlogged one, whose round adds Q × n. -/
def Drr.pick (a : Drr) (q cnt k : Nat) (kids : List (Nat × Nat × Pick)) : Option Pick :=
  let take (c : Nat) (more : Nat) (p : Pick) : Pick :=
    { p with nodes := (k, { cur := c, dfc := tblSet a.dfc c (tblGet a.dfc c 0 + more - p.size) 0 }) :: p.nodes }
  match kids.find? fun (x : Nat × Nat × Pick) => x.1 == a.cur && decide (x.2.2.size ≤ tblGet a.dfc a.cur 0) with
  | some x => some (take x.1 0 x.2.2)
  | none =>
    ((List.range cnt).findSome? fun j => kids.find? fun (x : Nat × Nat × Pick) => x.1 == (a.cur + 1 + j) % cnt).map fun (x : Nat × Nat × Pick) =>
      take x.1 (q * x.2.1) x.2.2

/-- The child of arbiter `k` that a leaf stands below. -/
def childOf (k l : Nat) : Option Nat :=
  if k < 24 then (if l / 8 = k then some (l % 8) else none)
  else if k < 30 then (if l / 32 = k - 24 then some (l / 8 % 4) else none)
  else some (l / 32)

/-- The choice of arbiter `k` of a backlog, over children whose own choice `sub` gives. -/
def Dev.pickAt (d : Dev) (bl : List (Nat × Nat)) (k cnt : Nat) (sub : Nat → Option Pick) : Option Pick :=
  (tblGet d.host.arbs k {}).pick d.maxWrite cnt k ((List.range cnt).filterMap fun c =>
    (sub c).map fun p => (c, bl.countP (fun (x : Nat × Nat) => childOf k x.1 == some c), p))

/-- The write that the four levels of arbiters send next (R435, R436). -/
def Dev.rootPick (d : Dev) : Option Pick :=
  let bl := d.backlog
  let leaf (l : Nat) : Option Pick := (bl.find? fun (x : Nat × Nat) => x.1 == l).map fun (x : Nat × Nat) => { leaf := l, size := x.2 }
  let arb (a : Nat) : Option Pick := d.pickAt bl a 8 fun c => leaf (8 * a + c)
  let pav (p : Nat) : Option Pick := d.pickAt bl (24 + p) 4 fun c => arb (4 * p + c)
  d.pickAt bl 30 7 fun c => if c < 6 then pav c else leaf 192

/-- A child that is no longer backlogged loses its deficit (R436). -/
def Dev.dropDeficits (d : Dev) : Dev :=
  let bl := d.backlog
  { d with host := { d.host with arbs := (List.range 31).foldl (fun t k =>
      let a := tblGet t k {}
      tblSet t k { a with dfc := a.dfc.filter fun (e : Nat × Nat) => bl.any fun (x : Nat × Nat) => childOf k x.1 == some e.1 } {}) d.host.arbs } }

/-- The arbiters give the next write its turn: its leaf. -/
def Dev.grant (d : Dev) : Option (Nat × Dev) :=
  d.rootPick.map fun p =>
    (p.leaf, { d with host := { d.host with arbs := p.nodes.foldl (fun t (x : Nat × Drr) => tblSet t x.1 x.2 {}) d.host.arbs } })

/-- One write of a leaf's output data, of at most Q bytes (R436). -/
def Dev.dataPiece (d : Dev) (l : Nat) : Dev :=
  match d.dataAt l with
  | [] => d
  | (a, b) :: t =>
    let q := d.maxWrite
    (d.emit (.memWrite a (b.take q))).modData l fun _ => if b.length ≤ q then t else (a + q, b.drop q) :: t

/-- A leaf's output data goes while the arbiters' turn is its own; the rest waits for it. -/
def Dev.sendData : Nat → Nat → Dev → Dev
  | 0, _, d => d
  | f + 1, l, d =>
    if (d.dataAt l).isEmpty then d
    else
      match d.grant with
      | none => d
      | some (x, e) => if x = l then Dev.sendData f l (e.dataPiece l).dropDeficits else d

/-! ### Completions -/

/-- What a completion's BODY says beside ring and slot (R415). -/
structure CBody where
  result   : Status := .ok
  lastBits : Nat := 0
  len      : Nat := 0
  rho1     : Nat := 0
  rho2     : Nat := 0
  slot     : Nat := 0xFFF
  cls      : Nat := 0
  partialV : Bool := false
  sw       : Nat := 0
deriving DecidableEq, Repr

/-- The BODY of a completion (R415). -/
def CBody.encode (b : CBody) (ring idx : Nat) : List Byte :=
  toLe 1 ring ++ toLe 1 (b.result.ctorIdx % 32 + 32 * (b.lastBits % 8)) ++ toLe 2 idx ++ toLe 2 (sat 0xFFFF b.len) ++
    toLe 1 b.rho1 ++ toLe 1 b.rho2 ++ toLe 2 (b.slot % 0x1000 + 0x1000 * (b.cls % 4) + 0x4000 * b2n b.partialV) ++
    toLe 2 b.sw

/-- The source of a completion (R400): the target, or the device where the target names nothing. -/
def Desc.source (x : Desc) : Nat :=
  if x.target < 192 ∨ (0x100 ≤ x.target ∧ x.target < 0x118) ∨ (0x200 ≤ x.target ∧ x.target < 0x206) then x.target
  else 0x3FF

/-- The completion entry of a descriptor, to be completed by the caller's flags. -/
def QDesc.entry (q : QDesc) (d : Dev) (st : Status) (b : CBody := {}) : Entry :=
  { status := st, kind := .completion, source := q.d.source, session := q.d.session, time := d.stamp,
    body := b.encode q.ring q.idx, irq := q.d.irq, ring := some q.evq }

/-- The same descriptor: same ring and slot. -/
def QDesc.same (a b : QDesc) : Bool := a.ring == b.ring && a.idx == b.idx

/-- A descriptor stops being held: it no longer counts for FENCE (R402). -/
def Dev.release (d : Dev) (q : QDesc) : Dev :=
  { d with host := { d.host with inFlight := d.host.inFlight.filter fun r => !r.same q } }

/-- Complete a descriptor with an entry. NO_EVENT suppresses an OK entry (R404). -/
def Dev.completeE (d : Dev) (q : QDesc) (e : Entry) : Dev :=
  let d := d.release q
  if q.d.noEvent && e.status == .ok then d else d.post e

/-- The CH_FRM registers after an exchange that received no frame (R175). -/
def Dev.noFrameRegs (d : Dev) (n : Nat) (st : Status) : Dev :=
  let d := d.wr .CH_FRM_LAST n 0 st.ctorIdx
  let d := ((d.wr .CH_FRM_COLL n 0 0xFFFF).wr .CH_FRM_ERR n 0 0xFFFF).wr .CH_FRM_TIME n 0 0
  (d.setFld F.CH_FRM_QUAL_RATE_ERR n 0 0).setFld F.CH_FRM_QUAL_SNR n 0 0

/-- The exchange opcodes: EXCHANGE, ISODEP_EXCHANGE, TAG_OP (R270, R407). -/
def exchOps : List Nat := [0x01, 0x02, 0x04]

/-- Complete a descriptor with a status (R404, R420); an exchange that ends so has received no frame (R175). -/
def Dev.complete (d : Dev) (q : QDesc) (st : Status) (b : CBody := {}) : Dev :=
  (d.completeE q (q.entry d st b)).cond (decide (q.d.source < 192) && exchOps.contains q.d.op) fun d => d.noFrameRegs q.d.source st

/-- Output data goes to host memory through the arbiters (R435): at once while the turn is its leaf's, else it waits for it; on a channel
it then holds back the next admission (R384, R428). -/
def Dev.output (d : Dev) (source addr : Nat) (data : List Byte) : Dev :=
  if data = [] then d
  else
    let d := d.modData source fun w => w ++ [(addr, data)]
    d.sendData ((d.dataAt source).foldl (fun k w => k + w.2.length / d.maxWrite + 1) 0) (min source 192)

/-- Complete a descriptor with output data: OK with the bytes written, or BUFFER_SHORT with the full length and only the
bytes that fit (R158, R415). -/
def Dev.completeOut (d : Dev) (q : QDesc) (data : List Byte) (b : CBody := {}) : Dev :=
  let d := d.output q.d.source q.d.bufAddr (data.take q.d.bufLen)
  let st : Status := if data.length > q.d.bufLen then .bufferShort else .ok
  d.complete q st { b with result := st, len := data.length }

end Sys2Proof.Machine
end

