-- ==== Sys2Proof/Machine/Airtime.lean ====
section
/-! DEFINITION. Field airtime: chain B, credit, duty, the energy bucket, gate timelines, coexistence, and the admission checks
(R90, R343 to R378). -/

namespace Sys2Proof.Machine

/-! ### Enables -/

/-- The channel's bit in CH_EN_LOCK (R376). -/
def Dev.enLock (d : Dev) (n : Nat) : Bool := bitAt (d.rd .SHP_CH_EN_LOCK 0 (pavOf n)) (n % 32)

/-- A synthesiser is ACTIVE (R29). -/
def Dev.synActive (d : Dev) : Bool := d.syn.a == .active || d.syn.b == .active

/-- COEX_GNT_Pn counts as high (R347, R375). -/
def Dev.gntOk (d : Dev) (p : Nat) : Bool := !d.on F.PAV_COEX_EN p || (d.pav p).gntPin

/-- The causes withholding chain B of a channel, as CH_FEN_STAT.B_CAUSE (R90). -/
def Dev.bCause (d : Dev) (n : Nat) : Nat :=
  b2n (!d.enLock n) + 2 * b2n (d.on F.CH_LIM_STAT_TRIP n) + 4 * b2n ((d.pav (pavOf n)).dip) +
    8 * b2n (!d.synActive) + 16 * b2n (!d.gntOk (pavOf n)) + 32 * b2n (d.pwr.safe || d.pwr.extest)

/-- A channel or its pavilion is isolated (R566). -/
def Dev.isolated (d : Dev) (n : Nat) : Bool :=
  bitAt (d.rd .FLT_ISO_CH 0 (pavOf n)) (n % 32) || bitAt (d.rd .FLT_ISO_PAV) (pavOf n)

/-- Level L in force for a level byte that a command gives: 255 takes CH_FIELD_LVL (R66, R408). -/
def Dev.level (d : Dev) (n l : Nat) : Nat := if l = 255 then d.fld F.CH_FIELD_LVL_LVL n else l

/-! ### Credit (R351 to R354), in mW·Tc -/

/-- Credit within the limits of some settings (R351, R354); 0 with the shaper off (R353). -/
def ShpOld.hold (o : ShpOld) (c : Int) : Int := if o.en then clampInt (-(o.lo * 13560 : Nat)) (o.hi * 13560 : Nat) c else 0

/-- Credit after dt cycles in which `used` mW·Tc were measured (R351): what is held is clamped first (R354). -/
def ShpOld.step (o : ShpOld) (c : Int) (dt : Nat) (used : Nat := 0) : Int := o.hold (o.hold c + (o.idle * dt : Nat) - (used : Nat))

/-- The shaper settings of a channel as its registers hold them. -/
def Dev.shpRegs (d : Dev) (n : Nat) : ShpOld :=
  { en := d.on F.CH_SHP_CTL_EN n, idle := d.fld F.CH_SHP_CTL_IDLE n, hi := d.fld F.CH_SHP_HI_HI n, lo := d.fld F.CH_SHP_LO_LO n }

/-- The shaper settings in force in a carrier cycle: older ones hold to the window boundary after a write (R354). -/
def Dev.shpAt (d : Dev) (n tc : Nat) : ShpOld :=
  match (d.ch n).shpOld with
  | some o => if tc < o.until_ then o else d.shpRegs n
  | none => d.shpRegs n

/-- The credit of a channel at a carrier cycle, without measured power since it was last settled (R351, R354). -/
def Dev.creditAtTc (d : Dev) (n tc : Nat) : Int :=
  let c := d.ch n
  match c.shpOld with
  | some o =>
    if o.until_ ≤ c.creditAt then (d.shpRegs n).step c.credit (tc - c.creditAt)
    else if tc < o.until_ then o.step c.credit (tc - c.creditAt)
    else (d.shpRegs n).step (o.step c.credit (o.until_ - c.creditAt)) (tc - o.until_)
  | none => (d.shpRegs n).step c.credit (tc - c.creditAt)

/-- The credit of a channel at the present cycle. -/
def Dev.creditAtNow (d : Dev) (n : Nat) : Int := d.creditAtTc n d.tc

/-- A channel's credit takes a value at the present cycle; settings whose last window has ended are forgotten, and the new ones clamp what
is held (R354). -/
def Dev.putCredit (d : Dev) (n : Nat) (v : Int) : Dev :=
  d.modCh n fun c => { c with
    credit := (d.shpAt n d.tc).hold v, creditAt := d.tc, shpOld := c.shpOld.filter fun o => decide (d.tc < o.until_) }

/-- Bring a channel's credit up to the present cycle. -/
def Dev.settleCredit (d : Dev) (n : Nat) : Dev := d.putCredit n (d.creditAtNow n)

/-! ### Duty (R352), in Tc -/

/-- The cycles of the span from a to b that fall in slice s. -/
def inSlice (a b s : Nat) : Nat := min b (tcMs * (s + 1)) - max a (tcMs * s)

/-- The slices in use: the present one and the 999 before it. -/
def sliceFrom (tc : Nat) : Nat := tc / tcMs - 999

/-- Add the span from a to b to a slice table, for the slices still in use. -/
def addSpan (m : Tbl Nat) (a b tc : Nat) : Tbl Nat :=
  let s0 := max (a / tcMs) (sliceFrom tc)
  (List.range (b / tcMs + 1 - s0)).foldl (fun m k => tblSet m (s0 + k) (tblGet m (s0 + k) 0 + inSlice a b (s0 + k)) 0) m

/-- Account the running field up to a carrier cycle and drop slices older than one second. -/
def Dev.settleDutyTo (d : Dev) (n e : Nat) : Dev :=
  d.modCh n fun c =>
    let m := if c.onAt.isSome then addSpan c.duty c.dutyAt e d.tc else c.duty
    { c with duty := m.filter (fun x => decide (sliceFrom d.tc ≤ x.1)), dutyAt := max c.dutyAt e }

/-- Account it to the present cycle, or to the end of its ramp-down. -/
def Dev.settleDuty (d : Dev) (n : Nat) : Dev := d.settleDutyTo n (min d.tc ((d.ch n).downAt.getD d.tc))

/-- The field of a channel's coil is up, its own ramps included (R85, R105). -/
def Dev.coilOn (d : Dev) (n : Nat) : Bool := (d.ch n).fieldOf.isSome && !(d.ch n).downAt.any fun t => decide (t ≤ d.tc)

/-- Field-on cycles over the preceding second (R346, R352). -/
def Dev.dutyTc (d : Dev) (n : Nat) : Nat :=
  ((d.settleDuty n).ch n).duty.foldl (fun a e => a + e.2) 0

/-! ### The bucket (R355 to R358), in mW·Tc -/

/-- The fill rate in force, in percent of RATE (R599). -/
def Dev.foldPct (d : Dev) : Nat :=
  if d.on F.PWR_FOLD_EN && d.on F.PWR_STAT_TEMP_WARN then d.fld F.PWR_FOLD_PCT else 100

/-- The depth of a pavilion's bucket. -/
def Dev.depth (d : Dev) (p : Nat) : Nat := d.fld F.PAV_BKT_DEPTH_DEPTH p * 13560000

/-- Tokens at the present cycle. -/
def Dev.tokensNow (d : Dev) (p : Nat) : Int :=
  let x := d.pav p
  clampInt (-(d.depth p : Nat)) (d.depth p)
    (x.tokens + (d.fld F.PAV_BKT_RATE_RATE p * (d.tc - x.tokAt) * d.foldPct / 100 : Nat))

/-- Bring a pavilion's tokens up to the present cycle. -/
def Dev.settleTokens (d : Dev) (p : Nat) : Dev :=
  d.modPav p fun x => { x with tokens := d.tokensNow p, tokAt := d.tc }

/-- The coils that a transaction drives, among those that it names: effective levels up to 254 (R197). -/
def drivenOf (l : List Driven) : List Driven := l.filter fun k => decide (k.lvl ≤ 254)

/-- Estimated energy of driven coils over a field interval, in mW·Tc (R348). -/
def Dev.energy (d : Dev) (driven : List Driven) (declTc : Nat) : Nat :=
  ((drivenOf driven).foldl (fun a k => a + powerAt (d.fld F.CH_FIELD_MAX_PWR k.ch) k.lvl) 0) * declTc / 10 ^ 12

/-! ### Gate timelines (R359 to R369, R720, R721)

Times are in units of 1/339 ns, so that a cycle is 25,000 units and a nanosecond 339. -/

/-- Segments of one cycle of a list, in nanoseconds: start, end, open mask. The last entry holds to the cycle end, and what
lies past it is cut (R360). -/
def gateSegs (cycle : Nat) : Nat → List (Nat × Nat × Bool) → List (Nat × Nat × Nat)
  | _, [] => []
  | s, [(_, m, _)] => if s < cycle then [(s, cycle, m)] else []
  | s, (dur, m, _) :: t =>
    if s < cycle then (s, min cycle (s + dur), m) :: gateSegs cycle (s + dur) t else []

/-- Where the first closed segment of a run starts, from a list of segments; none when all are open. -/
def runEnd (i : Nat) (l : List (Nat × Nat × Nat)) : Option Nat :=
  (l.find? fun g => !bitAt g.2.2 i).map fun g => g.1

/-- How long arbour i stays open from offset `off` of a cycle on: none when it is closed there; some none for ever. -/
def openFor (cycle : Nat) (segs : List (Nat × Nat × Nat)) (i off : Nat) : Option (Option Nat) :=
  let l := segs.filter (fun g => decide (off < g.2.1)) ++ segs.map (fun g => (g.1 + cycle, g.2.1 + cycle, g.2.2))
  match l with
  | [] => none
  | g :: _ => if bitAt g.2.2 i then some ((runEnd i l).map (· - off)) else none

/-- The longest open span of arbour i in a cycle that repeats: none when it is open for ever. -/
def longestOpen (segs : List (Nat × Nat × Nat)) (cycle i : Nat) : Option Nat :=
  if segs.all (fun g => bitAt g.2.2 i) then none
  else
    let l := segs ++ segs.map (fun g => (g.1 + cycle, g.2.1 + cycle, g.2.2))
    some (l.foldl (fun (a : Nat × Nat) g =>
      let r := if bitAt g.2.2 i then a.2 + (g.2.1 - g.1) else 0
      (max a.1 r, r)) (0, 0)).1

/-- Offset of an instant in the cycles of a list with a base time. -/
def cycleOff (t base cycle : Nat) : Nat := (((t : Int) - base) % (cycle : Int)).toNat

/-- Scale segments from nanoseconds to units. -/
def scaleSegs (segs : List (Nat × Nat × Nat)) : List (Nat × Nat × Nat) :=
  segs.map fun g => (339 * g.1, 339 * g.2.1, g.2.2)

/-- Remaining open time of arbour i under a gate list, at network instant t in units. -/
def GList.openAt (g : GList) (i t : Nat) : Option (Option Nat) :=
  openFor (339 * g.cycle) (scaleSegs (gateSegs g.cycle 0 g.entries)) i (cycleOff t (339 * g.base) (339 * g.cycle))

/-- Segments of a fallback period, in units (R366). -/
def fbSegs (opn period mask : Nat) : List (Nat × Nat × Nat) :=
  let o := min opn period * 339000
  let e := period * 339000
  if o = e then [(0, e, mask)] else [(0, o, mask), (o, e, 0)]

/-- Remaining open time of arbour i in fallback windows that started at carrier instant `start`, at carrier instant t, in
units. -/
def fbOpenAt (start opn period mask i t : Nat) : Option (Option Nat) :=
  openFor (period * 339000) (fbSegs opn period mask) i (cycleOff t start (period * 339000))

/-- Join the present timeline with one that takes over in `dt` units: `c` remaining now, `n` remaining at the takeover. -/
def joinOpen (c : Option (Option Nat)) (dt : Nat) (n : Option (Option Nat)) : Option (Option Nat) :=
  match c with
  | none => none
  | some r =>
    if (match r with | some x => decide (x < dt) | none => false) then some r
    else match n with
      | none => some (some dt)
      | some none => some none
      | some (some y) => some (some (dt + y))

/-- The carrier instant and the network instant, in units. -/
def Dev.carU (d : Dev) : Nat := 25000 * d.tc
/-- Network time as a 64-bit count of ns, in units of 1/339 ns (R4). -/
def Dev.netU (d : Dev) : Nat := d.netMod / 10 ^ 12

/-- TIME_LOCK. -/
def Dev.locked (d : Dev) : Bool := d.on F.TIME_STAT_LOCK

/-- The entry of a gate list in force at a network time in ns: its open mask, and the time to its end (R360). -/
def GList.entryAt (g : GList) (ns : Nat) : Nat × Nat :=
  let off := cycleOff ns g.base g.cycle
  match (gateSegs g.cycle 0 g.entries).find? fun s => decide (off < s.2.1) with
  | some s => (s.2.2, s.2.1 - off)
  | none => (0, 0)

/-- PRI of the entry of a list that is in force at a network time (R360). -/
def GList.priAt (l : GList) (ns : Nat) : Bool :=
  ({ l with entries := l.entries.map fun (e : Nat × Nat × Bool) => (e.1, b2n e.2.2, e.2.2) } : GList).entryAt ns |>.1 |> (· == 1)

/-- Units from a network instant in units to the list's next cycle start (R360, R368). -/
def GList.toCycle (g : GList) (t : Nat) : Nat := 339 * g.cycle - cycleOff t (339 * g.base) (339 * g.cycle)

/-- Parameters of the fallback windows taken at a period start (R366, R369). -/
def Dev.loadFb (d : Dev) (p start : Nat) (g : Gate) : Gate :=
  { g with fbStart := start, fbOpen := d.rd .PAV_GATE_FB_OPEN p, fbPeriod := d.rd .PAV_GATE_FB_PERIOD p,
           fbMask := d.fld F.PAV_GATE_FB_CFG_MASK p, fbPri := d.on F.PAV_GATE_FB_CFG_PRI p }

/-- Remaining open time of arbour i in the fallback windows of a pavilion's gate at a carrier instant in units (R366). -/
def Gate.fbAt (g : Gate) (i c : Nat) : Option (Option Nat) := fbOpenAt (25000 * g.fbStart) g.fbOpen g.fbPeriod g.fbMask i c

/-- What remains open, ended after `k` units at the latest. -/
def cutOpen (k : Nat) (r : Option (Option Nat)) : Option (Option Nat) := r.map fun x => some (min k (x.getD k))

/-- Remaining open time of arbour i at a network instant under lock where a list change is pending (R345, R364). -/
def Dev.withPend (d : Dev) (g : Gate) (i t : Nat) (cur : Option (Option Nat)) : Option (Option Nat) :=
  match g.pend with
  | some l => if d.locked && !l.follow then
      if 339 * l.base ≤ t then l.openAt i t
      else joinOpen cur (339 * l.base - t) (l.openAt i (339 * l.base)) else cur
  | none => cur

/-- Remaining open time of arbour i of pavilion p, `dt` units from now, counting changes pending now (R345, R720). In fallback under
lock the operational list takes over at its next cycle start, which is a closing (R368). -/
def Dev.gateRemain (d : Dev) (p i dt : Nat) : Option (Option Nat) :=
  let g := (d.pav p).gate
  let t := d.netU + dt
  let c := d.carU + dt
  match g.mode with
  | .oper =>
    match g.oper with
    | some l => d.withPend g i t (l.openAt i t)
    | none => some none
  | .fallback =>
    let fb := match g.lostEnd with
      | some m =>
        if c < 25000 * g.fbStart then
          joinOpen (if bitAt m i then some none else none) (25000 * g.fbStart - c) (g.fbAt i (25000 * g.fbStart))
        else g.fbAt i c
      | none => g.fbAt i c
    d.withPend g i t (match g.oper with
      | some l =>
        let k := l.toCycle d.netU
        if !d.locked then fb else if k ≤ dt then l.openAt i t else cutOpen (k - dt) fb
      | none => fb)
  | .open_ =>
    match g.enAt with
    | none => some none
    | some e =>
      let next (u v : Nat) : Option (Option Nat) :=
        d.withPend g i u (match d.locked, g.oper with
          | true, some l => l.openAt i u
          | _, _ => (d.loadFb p e g).fbAt i v)
      if 25000 * e ≤ c then next t c
      else joinOpen (some none) (25000 * e - c) (next (t + (25000 * e - c)) (25000 * e))

/-- The longest open span of arbour i in the timeline in force, in units; none when unbounded (R344). -/
def Dev.gateLongest (d : Dev) (p i : Nat) : Option Nat :=
  let g := (d.pav p).gate
  match g.mode with
  | .open_ => none
  | .oper =>
    match g.oper with
    | some l => longestOpen (scaleSegs (gateSegs l.cycle 0 l.entries)) (339 * l.cycle) i
    | none => none
  | .fallback => longestOpen (fbSegs g.fbOpen g.fbPeriod g.fbMask) (g.fbPeriod * 339000) i

/-- Whether a span of `need` units fits into what remains open. -/
def fits (r : Option (Option Nat)) (need : Nat) : Bool :=
  match r with
  | none => false
  | some none => true
  | some (some x) => decide (need ≤ x)

/-! ### Coexistence request (R343, R370) -/

/-- The COEX_REQ lead time of a pavilion, in Tc, rounded up. -/
def Dev.leadTc (d : Dev) (p : Nat) : Nat := (d.fld F.PAV_COEX_LEAD p * 1356 + 99) / 100

/-- Cycles from now to the field start of a transaction admitted now (R343). -/
def Dev.leadLeft (d : Dev) (p : Nat) : Nat :=
  if (d.pav p).req then (d.pav p).reqAt + d.leadTc p - d.tc else d.leadTc p

/-- The closing that a field of an arbour of pavilion p has, whose field starts `dt` units from now (R345, R721). -/
def Dev.closingOf (d : Dev) (p i dt : Nat) : Closing :=
  match d.gateRemain p i dt with
  | some (some x) => if (d.pav p).gate.mode = .oper then .net (d.netU + dt + x) else .car (d.carU + dt + x)
  | _ => .never

/-- Units from now to a closing. -/
def Dev.closeLeft (d : Dev) : Closing → Option Nat
  | .never => none
  | .net u => some (u - d.netU)
  | .car u => some (u - d.carU)

/-- Whether any field of the pavilion, or its sweep, holds COEX_REQ (R370). -/
def Dev.reqHeld (d : Dev) (p : Nat) : Bool :=
  (d.pav p).sweep.isSome || (pavChans p).any fun n =>
    match (d.ch n).txn with
    | some t => t.phase != .waiting
    | none => false

/-- Drive COEX_REQ_Pn after a change of the pavilion's transactions (R370). -/
def Dev.syncReq (d : Dev) (p : Nat) : Dev :=
  let r := d.reqHeld p
  d.modPav p fun x => { x with req := r, reqAt := if r && !x.req then d.tc else x.reqAt }

/-- Something that keeps a pavilion from being quiet has changed (R584). -/
def Dev.stir (d : Dev) (p : Nat) : Dev := d.modPav p fun x => { x with stirAt := d.tc }

/-- A pavilion's transactions have changed: COEX_REQ follows, and its quiet time starts anew (R370, R585). -/
def Dev.txnsMoved (d : Dev) (p : Nat) : Dev := (d.stir p).syncReq p

/-! ### The permissions (R344 to R350) -/

/-- Gate permission for a transaction of an arbour (R345). -/
def Dev.gateOk (d : Dev) (a declTc : Nat) : Bool :=
  fits (d.gateRemain (a / 4) (a % 4) (25000 * d.leadLeft (a / 4))) (25000 * declTc)

/-- Credit permission of one coil, without its duty part, under the settings in force (R346, R353, R354). -/
def Dev.creditOk (d : Dev) (n : Nat) : Bool := !(d.shpAt n d.tc).en || decide (0 ≤ d.creditAtNow n)

/-- The locked duty allowance of a pavilion, in Tc (R344). -/
def Dev.dutyMax (d : Dev) (p : Nat) : Nat := d.fld F.PAV_LOCK_DUTY p * tcMs

/-- Duty part of the credit permission of one coil (R346). -/
def Dev.dutyOk (d : Dev) (n declTc : Nat) : Bool := decide (d.dutyTc n + declTc ≤ d.dutyMax (pavOf n))

/-- Bucket permission (R348), without the order of R350. -/
def Dev.bucketOk (d : Dev) (p e : Nat) : Bool := decide ((e : Int) ≤ d.tokensNow p - ((d.pav p).rsv : Int))

/-- The first two steps of R344: the status of a transaction that could never be admitted. -/
def Dev.neverAdmit (d : Dev) (n : Nat) (driven : List Driven) (declTc : Nat) : Option Status :=
  let p := pavOf n
  if driven.any (fun k => exceeds (d.fld F.CH_FIELD_MAX_PWR k.ch) k.lvl (d.fld F.CH_PWR_LIM_MW k.ch)) then
    some .limitRefused
  else if d.dutyMax p < declTc then some .limitRefused
  else if d.depth p < d.energy driven declTc then some .limitRefused
  else match d.gateLongest p (arbOf n % 4) with
    | some x => if x < 25000 * declTc then some .badDescriptor else none
    | none => none

/-- The permissions missing for driven coils, as CH_ADM_STAT.CAUSE without bit 13: gate, credit, duty, bucket, coexistence. -/
def Dev.missing (d : Dev) (n : Nat) (driven : List Driven) (declTc : Nat) : Nat :=
  b2n (!d.gateOk (arbOf n) declTc) + 2 * b2n (!driven.all fun k => d.creditOk k.ch) +
    4 * b2n (!driven.all fun k => d.dutyOk k.ch declTc) +
    8 * b2n (!d.bucketOk (pavOf n) (d.energy driven declTc)) + 16 * b2n (!d.gntOk (pavOf n))

end Sys2Proof.Machine
end

