-- ==== Sys2Proof/Machine/Groups.lean ====
section
/-! DEFINITION. The coupling matrix and the field groups of an arbour: entries, fingerprints, weights, and the coils that a
group drives (R177 to R204, R222). -/

namespace Sys2Proof.Machine

/-- C[i][k] of an arbour, in units of 2^-13 (R177). -/
def Dev.cm (d : Dev) (a i k : Nat) : Cx := cxOf 16 (d.rd .ARB_CM a (8 * i + k))

/-- Lower seam entry j (R178). -/
def Dev.seamLo (d : Dev) (a j : Nat) : Cx := cxOf 16 (d.rd .ARB_SEAM_LO a j)
/-- Upper seam entry j (R178). -/
def Dev.seamHi (d : Dev) (a j : Nat) : Cx := cxOf 16 (d.rd .ARB_SEAM_HI a j)

/-- Column k of an arbour is valid (R188). -/
def Dev.colValid (d : Dev) (a k : Nat) : Bool := bitAt (d.fld F.ARB_CM_STAT_VALID a) k
/-- Column k of an arbour is stale (R188). -/
def Dev.colStale (d : Dev) (a k : Nat) : Bool := bitAt (d.fld F.ARB_CM_STAT_STALE a) k
/-- A port: true UP. -/
def Dev.prt (d : Dev) (up : Bool) : PrmPort := if up then d.prom.upP else d.prom.dnP

/-- The lane is up (R667). -/
def Dev.laneUp (d : Dev) (up : Bool) : Bool := if up then d.on F.PRM_STAT_UP_LINK else d.on F.PRM_STAT_DN_LINK

/-- The seam exchange at a port is enabled (R675). -/
def Dev.seamOn (d : Dev) (up : Bool) : Bool :=
  d.laneUp up && d.on F.PRM_CTL_SEAM_EN && (d.prt up).wish &&
    (if up then d.on F.ARB_CTL_SEAM_LO_EN 0 && !d.on F.PRM_STAT_CHAIN_LONG else d.on F.ARB_CTL_SEAM_HI_EN 23)

/-- The arbour has a lower seam: A00 while the exchange at UP is enabled (R14, R179). -/
def Dev.hasLo (d : Dev) (a : Nat) : Bool := a != 0 || d.seamOn true
/-- The arbour has an upper seam: A23 while the exchange at DOWN is enabled (R14, R179). -/
def Dev.hasHi (d : Dev) (a : Nat) : Bool := a != 23 || d.seamOn false

/-- The lower seam is there, valid and used (R179, R216, R232). -/
def Dev.seamLoOk (d : Dev) (a : Nat) : Bool := d.hasLo a && d.on F.ARB_CM_STAT_SEAM_LO_VALID a && d.on F.ARB_CTL_SEAM_LO_EN a
/-- The upper seam is there, valid and used. -/
def Dev.seamHiOk (d : Dev) (a : Nat) : Bool := d.hasHi a && d.on F.ARB_CM_STAT_SEAM_HI_VALID a && d.on F.ARB_CTL_SEAM_HI_EN a

/-- The unit entry of the matrix, 1 in units of 2^-13. -/
def cxOne : Cx := ⟨8192, 0⟩

/-- The fingerprint of candidate c of an arbour over L6, L7, taps 0 to 7, H0, H1 (R222); c is 0 to 7 a tap, 8 L7, 9 H0. -/
def Dev.fingerprint (d : Dev) (a c : Nat) : List Cx :=
  let z : Cx := {}
  if c < 8 then
    let lo := d.seamLoOk a
    let hi := d.seamHiOk a
    [if c = 0 ∧ lo then d.seamLo a 5 else if c = 1 ∧ lo then d.seamLo a 7 else z,
     if c = 0 ∧ lo then d.seamLo a 4 else if c = 1 ∧ lo then d.seamLo a 6 else z] ++
    (List.range 8).map (fun i => d.cm a i c) ++
    [if c = 7 ∧ hi then d.seamHi a 4 else if c = 6 ∧ hi then d.seamHi a 6 else z,
     if c = 7 ∧ hi then d.seamHi a 5 else if c = 6 ∧ hi then d.seamHi a 7 else z]
  else if c = 8 then
    [if a = 0 then cxOf 16 d.prom.edgeUp.toNat else d.cm (a - 1) 6 7, cxOne, d.seamLo a 0, d.seamLo a 1] ++ List.replicate 8 z
  else
    List.replicate 8 z ++ [d.seamHi a 1, d.seamHi a 0, cxOne, if a = 23 then cxOf 16 d.prom.edgeDn.toNat else d.cm (a + 1) 1 0]

/-- The candidates of an arbour (R216). A seam with another device is a candidate while it is held (R228). -/
def Dev.candidates (d : Dev) (a : Nat) : List Nat :=
  List.range 8 ++ (if d.seamLoOk a then [8] else []) ++ (if d.seamHiOk a then [9] else [])

/-- The device's hub position (R12, R670). -/
def Dev.position (d : Dev) : Nat := d.fld F.PRM_STAT_POS

/-- The hub channel of a candidate of an arbour (R13), from 0 to 3,071; 0xFFF where the chain has no such channel. -/
def Dev.hubSlot (d : Dev) (a c : Nat) : Nat :=
  let n := 192 * d.position + 8 * a
  let h := if c < 8 then n + c else if c = 8 then (if n = 0 then 0xFFF else n - 1) else n + 8
  if h ≤ 3071 then h else 0xFFF

/-- A candidate's columns are neither stale nor invalid (R217, R224). -/
def Dev.candFresh (d : Dev) (a c : Nat) : Bool :=
  if c < 8 then d.colValid a c && !d.colStale a c
  else if c = 8 then
    d.seamLoOk a && (a == 0 || (d.colValid (a - 1) 7 && !d.colStale (a - 1) 7))
  else d.seamHiOk a && (a == 23 || (d.colValid (a + 1) 0 && !d.colStale (a + 1) 0))

/-! ### Field groups -/

/-- The member taps of a group (R191). -/
def Dev.members (d : Dev) (a g : Nat) : List Nat :=
  (List.range 8).filter fun k => bitAt (d.fld F.ARB_FG_CTL_MEMBERS a g) k

/-- The null slots a group names: NULL_A and NULL_B, 15 none (R200). -/
def Dev.nulls (d : Dev) (a g : Nat) : List Nat :=
  [d.fld F.ARB_FG_CTL_NULL_A a g, d.fld F.ARB_FG_CTL_NULL_B a g].filter (fun x => decide (x < 10))

/-- The row of a slot on the members' coils: a tap, L7 (8) or H0 (9) (R200). -/
def Dev.slotRow (d : Dev) (a c : Nat) (mem : List Nat) : List Cx :=
  mem.map fun k =>
    if c < 8 then d.cm a c k
    else if c = 8 then (if k = 0 then d.seamLo a 4 else if k = 1 then d.seamLo a 6 else {})
    else (if k = 7 then d.seamHi a 4 else if k = 6 then d.seamHi a 6 else {})

/-- The weights of a group's members as admission takes them, by tap (R196, R200). -/
def Dev.groupWeights (d : Dev) (a g : Nat) : List (Nat × Cx) :=
  let mem := d.members a g
  match d.fld F.ARB_FG_CTL_MODE a g with
  | 0 => mem.map fun k => (k, cxOf 10 (d.rd .ARB_FG_W a (8 * g + k)))
  | m =>
    let row (c : Nat) : List Cx := (d.slotRow a c mem).map Cx.conj
    let h := row (d.fld F.ARB_FG_CTL_TARGET a g)
    mem.zip (if m = 1 then steer h [] else steer h ((d.nulls a g).map row))

/-- The predicted null depth of mode 2, in 0.25 dB (R203). -/
def Dev.groupDepth (d : Dev) (a g : Nat) : Nat :=
  if d.fld F.ARB_FG_CTL_MODE a g = 2 then
    let w := (d.groupWeights a g).map (·.2)
    let v (c : Nat) : Nat := (dotT (d.slotRow a c (d.members a g)) w).norm
    nullDepth (v (d.fld F.ARB_FG_CTL_TARGET a g)) ((d.nulls a g).foldl (fun m c => max m (v c)) 0)
  else 0

/-- The members of a group whose weight is not zero, with their effective levels at level L and the phases of their weights: each has to
have the permissions of R18 and R71 (R195, R197). -/
def Dev.groupLent (d : Dev) (a g l : Nat) : List Driven :=
  (d.groupWeights a g).filterMap fun kw =>
    if kw.2.norm = 0 then none else some { ch := 8 * a + kw.1, lvl := l + weightDrop kw.2.norm, ph := weightArg kw.2 }

/-- The leader of a group, as a tap. -/
def Dev.leader (d : Dev) (a g : Nat) : Nat := d.fld F.ARB_FG_CTL_LEADER a g

/-- The columns that admission of a group reads (R199). -/
def Dev.groupCols (d : Dev) (a g : Nat) : List Nat :=
  (if d.fld F.ARB_FG_CTL_MODE a g = 0 then [] else d.members a g) ++
    (if d.fld F.ARB_FG_CTL_COMB a g = 0 then [] else [d.fld F.ARB_FG_CTL_TARGET a g])

/-- A mode 2 setting that cannot stand (R201): no more members than null slots, or a null on the target. -/
def Dev.mode2Bad (d : Dev) (a g : Nat) : Bool :=
  d.fld F.ARB_FG_CTL_MODE a g == 2 &&
    (decide ((d.members a g).length ≤ (d.nulls a g).length) || (d.nulls a g).contains (d.fld F.ARB_FG_CTL_TARGET a g))

/-- The weights that mode 2 computes drive too few members at level L (R197, R201). -/
def Dev.mode2Thin (d : Dev) (a g l : Nat) : Bool :=
  d.fld F.ARB_FG_CTL_MODE a g == 2 && decide ((drivenOf (d.groupLent a g l)).length ≤ (d.nulls a g).length)

/-- A mode 2 setting that cannot stand is refused as it is written (R201). -/
def Dev.mode2Mark (d : Dev) (a g : Nat) : Dev := d.cond (d.mode2Bad a g) fun d => d.setOn F.ARB_FG_STAT_REFUSED a g true

/-- A candidate lies on another device (R179, R228). -/
def remoteSlot (a c : Nat) : Bool := (c == 8 && a == 0) || (c == 9 && a == 23)

/-- A null across a seam that is not valid, or on a slot of another device (R202, R230). -/
def Dev.nullBad (d : Dev) (a g : Nat) : Bool :=
  d.fld F.ARB_FG_CTL_MODE a g == 2 && (d.nulls a g).any fun c => remoteSlot a c ||
    (c == 8 && !(d.hasLo a && d.on F.ARB_CM_STAT_SEAM_LO_VALID a)) || (c == 9 && !(d.hasHi a && d.on F.ARB_CM_STAT_SEAM_HI_VALID a))

/-- The checks of a group at admission for a transaction on channel n (R192, R193, R199, R201, R202). -/
def Dev.groupCheck (d : Dev) (n g l : Nat) : Option Status :=
  let a := arbOf n
  let mem := d.members a g
  if d.leader a g ≠ n % 8 ∨ ¬ mem.contains (n % 8) then some .badDescriptor
  else if !mem.all (fun k => if k = n % 8 then (d.ch (8 * a + k)).role == .poll else (d.ch (8 * a + k)).role == .follower)
  then some .badDescriptor
  else if d.mode2Bad a g || d.nullBad a g then some .badDescriptor
  else if (d.groupCols a g).any (fun k => !d.colValid a k) then some .notReady
  else if d.mode2Thin a g l then some .badDescriptor
  else none

/-- The group has combined reception (R191, R205). -/
def Dev.combined (d : Dev) (a : Nat) (fg : Option Nat) : Bool :=
  match fg with
  | some g => d.on F.ARB_FG_CTL_COMB_EN a g
  | none => false

/-- The tap weights of combiner mode 1, by member tap: conj(f) over the largest magnitude of the target's fingerprint on the members, each
corrected for its tap's calibrated PGA gain, in 1/1,024, parts rounded towards 0 and saturated (R205, R209; log entry 8). -/
def Dev.printWeights (d : Dev) (a g : Nat) : List (Nat × Nat) :=
  let f := d.fingerprint a (d.fld F.ARB_FG_CTL_TARGET a g)
  let mem := d.members a g
  let top := (mem.map fun k => (f.getD (2 + k) {}).norm).foldl max 0
  mem.map fun k =>
    let n := 8 * a + k
    let c := Config.tapCorr (d.pgaMilli n (d.fld F.CH_RX_AGC_GAIN_NOW n))
    let part (x : Int) : Nat :=
      let m : Int := Nat.sqrt ((1024 * x.natAbs * c.1) ^ 2 / (max 1 c.2 ^ 2 * max 1 top))
      ofInt 12 (satTo 12 (if x < 0 then -m else m))
    let v := f.getD (2 + k) {}
    (k, part v.re + 2 ^ 16 * part (-v.im))

/-- What admission of a group stores: computed weights, null depth, the stale mark, and in combiner modes 1 and 2 the tap weights (R198 to
R200, R203, R209). -/
def Dev.groupLoad (d : Dev) (a g : Nat) : Dev :=
  let w := d.groupWeights a g
  let depth := d.groupDepth a g
  let stale := (d.groupCols a g).any (fun k => d.colStale a k)
  let mode := d.fld F.ARB_FG_CTL_MODE a g
  let d := if mode = 0 then d else d.each w fun d kw => d.wr .ARB_FG_W a (8 * g + kw.1) (cxTo 10 kw.2)
  let d := d.setFld F.ARB_FG_STAT_NULL_DEPTH a g depth
  let d := d.cond stale fun d => d.setOn F.ARB_FG_STAT_STALE_USED a g true
  if d.fld F.ARB_FG_CTL_COMB a g = 0 then d
  else d.each (d.printWeights a g) fun d w => d.wr .ARB_CT_W a w.1 w.2

end Sys2Proof.Machine
end

