-- ==== Sys2Proof/Machine/Txns.lean ====
section
/-! DEFINITION. Target queues, transactions and the fields they raise: waiting, admission, field start, the ends of a field, and
completion (R85 to R104, R233, R326, R331, R343, R356, R370 to R373, R401). -/

namespace Sys2Proof.Machine

/-! ### Target queues (R401) -/

/-- The queue of a target: channel, arbour, pavilion, or the device's. -/
def Dev.tq (d : Dev) (target : Nat) : TQ :=
  if target < 192 then (d.ch target).tq
  else if target < 0x200 then (d.arb (target - 0x100)).tq
  else if target < 0x300 then (d.pav (target - 0x200)).tq
  else d.host.tq

/-- Change the queue of a target. -/
def Dev.modTq (d : Dev) (target : Nat) (f : TQ → TQ) : Dev :=
  if target < 192 then d.modCh target fun c => { c with tq := f c.tq }
  else if target < 0x200 then d.modArb (target - 0x100) fun c => { c with tq := f c.tq }
  else if target < 0x300 then d.modPav (target - 0x200) fun c => { c with tq := f c.tq }
  else { d with host := { d.host with tq := f d.host.tq } }

/-- The commands that need a field or the receive chain (R585). -/
def airOps : List Nat := [0x01, 0x02, 0x04, 0x0C, 0x18, 0x29]

/-- A descriptor that needs a pavilion ACTIVE has left its target's queue (R585). -/
def Dev.airGone (d : Dev) (q : QDesc) : Dev :=
  d.cond (decide (q.d.source < 192) && airOps.contains q.d.op) fun d => d.stir (pavOf q.d.source)

/-- A started descriptor leaves its target. -/
def Dev.endRun (d : Dev) (q : QDesc) : Dev :=
  (d.modTq q.d.source fun t => { t with run := t.run.filter fun r => !r.same q }).airGone q

/-- Complete a started descriptor and free its target. -/
def Dev.done (d : Dev) (q : QDesc) (st : Status) (b : CBody := { result := st }) : Dev := (d.complete q st b).endRun q

/-- Complete a started descriptor with output data (R415). -/
def Dev.doneOut (d : Dev) (q : QDesc) (data : List Byte) : Dev := (d.completeOut q data).endRun q

/-- Whether a descriptor's deadline has passed (R403): network time is at or past it. -/
def QDesc.late (q : QDesc) (now : Nat) : Bool := decide (q.d.deadline ≠ 0 ∧ q.d.deadline ≤ now)

/-! ### Sessions (R328 to R331) -/

/-- Release a session: its contents are cleared and its generation advances (R331). -/
def Dev.freeSes (d : Dev) (s : Nat) : Dev := d.modSes s fun x => { gen := (x.gen + 1) % 256 }

/-- The active sessions of a channel, lowest first (R328). -/
def Dev.sessionsOf (d : Dev) (n : Nat) : List Nat :=
  (d.sess.filter fun (e : Nat × Sess) => decide (e.2.kind ≠ .free) && e.2.chan == n).map (·.1)

/-- Release every session of a channel (R327, R331). -/
def Dev.freeAll (d : Dev) (n : Nat) : Dev := d.each (d.sessionsOf n) Dev.freeSes

/-- Active contexts. -/
def Dev.sesActive (d : Dev) : Nat := d.sess.countP fun (e : Nat × Sess) => decide (e.2.kind ≠ .free)

/-- Allocate the lowest-numbered free context to a channel, at most two per channel (R328): none when it is refused. -/
def Dev.allocSes (d : Dev) (n lim : Nat) (f : Sess → Sess) : Option Nat × Dev :=
  if (d.sessionsOf n).length ≥ lim then (none, d.addFld F.SYS_SESS_FULL_COUNT 0 0 1)
  else
    match (List.range 384).find? fun s => decide ((d.ses s).kind = .free) with
    | none => (none, d.addFld F.SYS_SESS_FULL_COUNT 0 0 1)
    | some s =>
      let d := d.modSes s fun x => f { x with chan := n }
      (some s, d.setFld F.SYS_SESS_STAT_PEAK 0 0 (max (d.fld F.SYS_SESS_STAT_PEAK) d.sesActive))

/-! ### Fields -/

/-- The coils of a transaction whose field is up or ramping. -/
def Txn.coils (t : Txn) : List Nat := t.driven.map (·.ch)

/-- A transaction is in progress (R233). -/
def Dev.inProgress (d : Dev) (n : Nat) : Bool :=
  match (d.ch n).txn with
  | some t => t.phase != .waiting
  | none => false

/-- A channel lends a coil or tap to a transaction in progress, or runs one (R194, R326). -/
def Dev.engaged (d : Dev) (n : Nat) : Bool :=
  d.inProgress n || (arbChans (arbOf n)).any fun m =>
    match (d.ch m).txn with
    | some t => t.phase != .waiting &&
        (match t.fg with
         | some g => m != n && (d.members (arbOf n) g).contains (n % 8)
         | none => false)
    | none => false

/-- The shape and length of a class of ramp on a coil (R85). -/
def Dev.rampOut (d : Dev) (n : Nat) (up : Bool) (k : RampKind) : Output :=
  match k with
  | .normal => .ramp n up k (d.on F.CH_RAMP_SHAPE n) (if up then d.fld F.CH_RAMP_UP n else d.fld F.CH_RAMP_DOWN n)
  | .fast => .ramp n up k false 32
  | .hard => .ramp n up k false 0

/-- The field of a coil starts by a ramp (R85, R89, R180). It starts without a correction of the loop, whatever the one before it had
(R73; the model's choice: log entry 59). -/
def Dev.coilRise (d : Dev) (leader n : Nat) (ramp : Output) : Dev :=
  ((d.modCh n fun c => { c with
    fieldOf := some leader, parking := false, downAt := none, onAt := some d.tc, dutyAt := d.tc, offAt := none, drive := {} }).setFld
      F.CH_PWR_MEAS_PEAK n 0 0).emit ramp

/-- The field of a coil starts by the normal ramp-up (R85). -/
def Dev.coilUp (d : Dev) (leader n : Nat) : Dev := d.coilRise leader n (d.rampOut n true .normal)

/-- The series trim moves one step, within SPAN of its calibrated value (R101). SIDE 0 (matched) and 3 (reserved) name no direction:
no step is taken (the model's choice: log entry 59). -/
def Dev.autoTune (d : Dev) (n : Nat) : Dev :=
  if d.on F.CH_TUNE_CTL_AUTO n && d.on F.CH_TUNE_STAT_LOW n && !d.on F.CH_TUNE_STAT_STUCK n then
    let side := d.fld F.CH_TUNE_STAT_SIDE n
    let ser := d.fldI F.CH_TUNE_SER n
    let cal := d.fldI F.CH_TUNE_CAL_SER n
    let span : Int := d.fld F.CH_TUNE_CTL_SPAN n
    let new := if side = 1 then ser - 1 else if side = 2 then ser + 1 else ser
    if new = ser then d
    else if (new - cal).natAbs ≤ span ∧ -64 ≤ new ∧ new ≤ 63 then
      (d.modCh n fun c => { c with retune := some (d.fld F.CH_TUNE_SER n, d.fld F.CH_TUNE_STAT_RL n) }).setFld
        F.CH_TUNE_SER n 0 (ofInt 7 new)
    else d
  else d

/-- A tuner value that waited for field-off applies (R98, R102). -/
def Dev.tuneNow (d : Dev) (n : Nat) : Dev :=
  match (d.ch n).tunePend with
  | some (ser, shunt) =>
    (((d.setFld F.CH_TUNE_SER n 0 ser).setFld F.CH_TUNE_SHUNT n 0 shunt).setOn F.CH_TUNE_PENDING n 0 false).modCh n
      fun c => { c with tunePend := none }
  | none => d

/-- The field of a coil is over, since its ramp-down ended: the parking load has reconnected (R89), duty is accounted (R352), and a held
tuner value is applied (R98). -/
def Dev.coilOff (d : Dev) (n : Nat) : Dev :=
  let e := (d.ch n).downAt.getD d.tc
  ((d.settleDutyTo n e).modCh n fun c => { c with
    fieldOf := none, parking := true, downAt := none, onAt := none, offAt := some e, drive := {}
    past := (c.onAt.getD e, e) :: c.past.filter fun x => decide (d.tc < x.2 + pastTc) }).tuneNow n

/-- The field of a transaction's coil has ended: the judgement of an earlier step is over (R102), and the automatic tuner may step
(R101). -/
def Dev.coilDown (d : Dev) (n : Nat) : Dev := ((d.coilOff n).modCh n fun c => { c with retune := none }).autoTune n

/-- A transaction starts to wait for admission (R349, R350). -/
def Dev.startWait (d : Dev) (n : Nat) (t : Txn) : Dev :=
  let k := d.host.order
  let d := { d with host := { d.host with order := k + 1 } }
  d.modCh n fun c => { c with txn := some { t with phase := .waiting, order := k } }

/-- A reservation is removed (R356). -/
def Dev.unreserve (d : Dev) (n e : Nat) : Dev := d.modPav (pavOf n) fun x => { x with rsv := x.rsv - e }

/-- The modulation settings of a channel as its registers hold them now. -/
def Dev.modSet (d : Dev) (n : Nat) : ModSet :=
  { a := d.rd .CH_MOD_A n, ask := d.rd .CH_MOD_ASK n, shape := d.rd .CH_MOD_SHAPE n, frm := d.rd .CH_FRM_CTL n }

/-- The transaction is admitted: its modulation settings are sampled (R84, R149), E_est is reserved and COEX_REQ rises (R343, R356,
R370). -/
def Dev.grantAdmission (d : Dev) (n : Nat) (driven : List Driven) (declTc : Nat) : Dev :=
  let e := d.energy driven declTc
  let d := d.modTxn n fun t => { t with
    phase := .admitted, driven := driven, mods := d.modSet n, eRsv := e, tAdm := d.tc,
    closing := d.closingOf (pavOf n) (arbOf n % 4) (25000 * d.leadLeft (pavOf n)) }
  let d := d.modPav (pavOf n) fun x => { x with rsv := x.rsv + e }
  d.txnsMoved (pavOf n)

/-- An admitted pilot probe that is not up is given up; what waited behind it is back (R184, R185). -/
def Dev.dropProbe (d : Dev) (n : Nat) : Dev :=
  match (d.ch n).txn with
  | some t =>
    let d := (d.unreserve n t.eRsv).modArb (arbOf n) fun x => { x with pilot := x.pilot.erase (n % 8) }
    (d.modCh n fun c => { c with txn := c.aside, aside := none }).txnsMoved (pavOf n)
  | none => d

/-- An admitted transaction returns to waiting before its field start (R372); a pilot probe falls due again by itself. -/
def Dev.backToWait (d : Dev) (n : Nat) : Dev :=
  match (d.ch n).txn with
  | some t =>
    if t.phase = .admitted ∧ t.work = .pilot then d.dropProbe n
    else if t.phase = .admitted then
      ((d.unreserve n t.eRsv).modTxn n fun t => { t with phase := .waiting, eRsv := 0 }).txnsMoved (pavOf n)
    else d
  | none => d

/-- The rank of a cause that ends a field (R88): the lowest ranks first. -/
def Status.causeRank : Status → Nat
  | .faultAbort => 0
  | .supplyDip => 1
  | .coexRevoked => 2
  | .gateCut => 3
  | _ => 4

/-- The higher-ranked of two causes (R88). -/
def joinCause (a b : Option Status) : Option Status :=
  match a, b with
  | none, x => x
  | x, none => x
  | some x, some y => if y.causeRank < x.causeRank then some y else some x

/-- A harder ramp takes over (R85, R572). -/
def joinRamp (a b : RampKind) : RampKind :=
  match a, b with
  | .hard, _ => .hard
  | _, .hard => .hard
  | .fast, _ => .fast
  | _, k => k

/-- The class in which a coil of a transaction falls (R85, R204); none while its field stands. -/
def Txn.fallOf (t : Txn) (k : Driven) : Option RampKind :=
  if t.phase = .rampDown then some (if k.hard then .hard else t.ramp) else none

/-- A transaction as it falls: for a cause or because its work is done, its coils in a class but those of channels `hard`, which
are cut hard (R85, R88, R204, R237). -/
def Txn.falls (t : Txn) (k : RampKind) (cause : Option Status) (hard : List Nat) : Txn :=
  { t with phase := .rampDown, ramp := joinRamp t.ramp k, endCause := joinCause t.endCause cause,
           driven := t.driven.map fun x => { x with hard := x.hard || hard.contains x.ch }
           air := .idle, frame := none }

/-- The channel receives through its arbour's combiner: with FIR_SRC from 2 to 5 (R123). -/
def Dev.combNow (d : Dev) (n : Nat) : Bool :=
  match (d.ch n).txn with
  | some t => t.phase == .up && d.combined (arbOf n) t.fg && decide (2 ≤ d.fld F.CH_RX_CTL_FIR_SRC n) &&
      decide (d.fld F.CH_RX_CTL_FIR_SRC n ≤ 5)
  | none => false

/-- The members whose gain control follows a leader's: those of its group while it receives combined (R208). -/
def Dev.followers (d : Dev) (n : Nat) : List Nat :=
  match (d.ch n).txn.bind (·.fg) with
  | some g => if d.combNow n then ((d.members (arbOf n) g).map (8 * arbOf n + ·)).filter (· != n) else []
  | none => []

/-- The AGC of a channel follows its leader's (R208). -/
def Dev.follows (d : Dev) (n : Nat) : Bool := (arbChans (arbOf n)).any fun m => (d.followers m).contains n

/-- Move the AGC of a channel from one of some states to another: the members that follow it take its new state, whatever their own was,
and a member has no moves of its own meanwhile (R131, R208). -/
def Dev.agcMove (d : Dev) (n : Nat) (src : List Nat) (dest : Nat) : Dev :=
  if src.contains (d.agc n) && !d.follows n then d.each (n :: d.followers n) fun d k => d.setFld F.CH_RX_AGC_STATE k 0 dest else d

/-- A group begins to receive combined: its members take the leader's AGC state (R208). -/
def Dev.agcJoin (d : Dev) (n : Nat) : Dev := d.each (d.followers n) fun d k => d.setFld F.CH_RX_AGC_STATE k 0 (d.agc n)

/-- The AGC of a channel after a transaction that used it: a member that followed its leader returns to its own mode, the leader to TRACK
unless it is in MANUAL (R131, R208). -/
def Dev.agcBack (d : Dev) (n : Nat) (comb : Bool) (k : Nat) : Dev :=
  if comb && k != n then
    if d.on F.CH_RX_AGC_MODE k then (d.setFld F.CH_RX_AGC_STATE k 0 3).setGain k (d.fld F.CH_RX_AGC_GAIN_MAN k)
    else d.setFld F.CH_RX_AGC_STATE k 0 0
  else d.agcGo k [0, 1, 2] 0

/-- The separator leaves a channel's frame. -/
def Dev.sepLeave (d : Dev) (n : Nat) : Dev :=
  if (d.arb (arbOf n)).follow = some n then d.modArb (arbOf n) fun x => { x with follow := none } else d

/-- The length of a ramp-down of a class on a coil, in Tc (R85); a hard cut acts at the next one. -/
def Dev.fallLen (d : Dev) (n : Nat) (k : RampKind) : Nat :=
  match k with
  | .normal => d.fld F.CH_RAMP_DOWN n
  | .fast => 32
  | .hard => 1

/-- The longest ramp-down of the coils of a transaction that falls, in Tc (R85). -/
def Dev.fallTc (d : Dev) (u : Txn) : Nat :=
  (u.driven.map fun x => d.fallLen x.ch ((u.fallOf x).getD .hard)).foldl max 0

/-- A coil's field starts to fall in a class, or falls harder: each coil's ramp-down ends by itself (R85, R89). -/
def Dev.coilFall (d : Dev) (n : Nat) (k : RampKind) : Dev :=
  let e := d.tc + d.fallLen n k
  (d.modCh n fun c => { c with downAt := some (min e (c.downAt.getD e)) }).emit (d.rampOut n false k)

/-- The field of a transaction starts to fall, or falls harder (R85, R88, R204). A frame that was being received is left (R112,
R117, R131, R213). -/
def Dev.fall (d : Dev) (n : Nat) (k : RampKind) (cause : Option Status) (hard : List Nat) : Dev :=
  match (d.ch n).txn with
  | none => d
  | some t =>
    if t.phase = .up ∨ t.phase = .rampDown then
      let u := t.falls k cause hard
      let d := d.cond (t.phase == .up) fun d => ((d.agcMove n [2] 0).sepLeave n).frameEnded n
      let d := d.modTxn n fun _ => u
      let d := d.each (t.driven.zip u.driven) fun d x =>
        match u.fallOf x.2 with
        | some c => if t.fallOf x.1 = some c then d else d.coilFall x.2.ch c
        | none => d
      let due := u.driven.foldl (fun a x => max a ((d.ch x.ch).downAt.getD d.tc)) d.tc
      d.modTxn n fun t => { t with dueTc := due }
    else d

/-- The whole field of a transaction starts to fall in a class (R85). -/
def Dev.rampDown (d : Dev) (n : Nat) (k : RampKind) (cause : Option Status) : Dev := d.fall n k cause []

/-- The field of a transaction is ended by a cause on one of its coils. A hard cut acts on that coil alone: the others fall fast
(R85, R204). -/
def Dev.fallFor (d : Dev) (m n : Nat) (k : RampKind) (cause : Status) : Dev :=
  let alone : Bool := match (d.ch m).txn with
    | some t => t.driven.all fun x => x.ch == n
    | none => true
  if k = .hard ∧ !alone then d.fall m .fast (some cause) [n] else d.rampDown m k (some cause)

/-- The field on a coil is ended (R85, R204). -/
def Dev.cutCoil (d : Dev) (n : Nat) (k : RampKind) (cause : Status) : Dev :=
  match (d.ch n).fieldOf with
  | some m => d.fallFor m n k cause
  | none => d

/-! ### Completion of a transaction's work -/

/-- The region of a PROG_START buffer that belongs to a channel: 32 equal regions (R407). -/
def progRegion (q : QDesc) (n : Nat) : Nat × Nat := (q.d.bufAddr + (n % 32) * (q.d.bufLen / 32), q.d.bufLen / 32)

/-- The attribution of a result in the body of a completion (R225, R415). -/
def RxResult.mark (x : RxResult) (b : CBody) : CBody :=
  { b with rho1 := x.rho1, rho2 := x.rho2, slot := x.slot, cls := x.cls, partialV := x.partialV }

/-- The body of a completion with the attribution of the latest frame that the exchange received (R225; log entry 62). -/
def Txn.mark (t : Txn) (b : CBody) : CBody := (t.results.head?.map fun x => x.mark b).getD b

/-- The report of a program cycle (R277, R404), with the data its REPORT steps gathered. -/
def Dev.cycleReport (d : Dev) (n : Nat) (t : Txn) (st : Status) (q : QDesc) (pf : Bool := false) : Dev :=
  let room := (progRegion q n).2
  let st' := if st = .ok ∧ room < t.report.length then .bufferShort else st
  if t.prog.report || t.changed || (st' != .ok && st' != .noResponse) then
    let d := d.output n (progRegion q n).1 (t.report.take room)
    d.post { (q.entry d st' (t.mark { result := st, len := t.report.length, sw := t.lastSw })) with
      cycle := true, source := n, session := 0x1FF, step := t.scriptIx, wtxCapped := t.dep.capped, presFull := pf, irq := false }
  else d

/-- The ISODEP_EXCHANGE in progress completes with a status (R266, R409). -/
def Dev.hostDone (d : Dev) (t : Txn) (st : Status) (b : CBody := { result := st }) : Dev :=
  match t.hostDesc with
  | some q =>
    let st' := if st = Status.ok ∧ q.d.bufLen < t.hostLen then Status.bufferShort else st
    (d.completeE q { (q.entry d st' { t.mark b with
      len := if st' = Status.bufferShort then t.hostLen else min q.d.bufLen t.hostLen, sw := t.lastSw }) with
      step := t.scriptIx, wtxCapped := t.dep.capped }).endRun q
  | none => d

/-- The transaction's work ends with a status: its descriptor, its cycle report or its waiting host descriptor completes. -/
def Dev.completeWork (d : Dev) (n : Nat) (t : Txn) (st : Status) (b : CBody := { result := st }) : Dev :=
  let d := d.hostDone t st b
  let d := match t.work with
    | .cycle slot false =>
      match tblFind (d.pav (pavOf n)).runs slot with
      | some r => d.cycleReport n t st r.start
      | none => d
    | .cycle _ true =>
      match t.desc with
      | some q =>
        let st' := if st = Status.ok ∧ q.d.bufLen < t.report.length then Status.bufferShort else st
        ((d.output n q.d.bufAddr (t.report.take q.d.bufLen)).completeE q
          { (q.entry d st' { t.mark b with len := t.report.length, sw := t.lastSw }) with
            step := t.scriptIx, wtxCapped := t.dep.capped }).endRun q
      | none => d
    | _ =>
      match t.desc with
      | some q => (d.completeE q { (q.entry d st (t.mark b)) with wtxCapped := t.dep.capped }).endRun q
      | none => d
  d.modTxn n fun t => { t with desc := none, hostDesc := none, finished := true, result := st }

/-- A transaction that goes leaves a poll cycle open unless it was that cycle (R252). -/
def Txn.leavesOpen (t : Txn) (b : Bool) : Bool :=
  match t.work with
  | .cycle _ false => false
  | _ => b

/-! ### Procedures of the calibration engine (R336 to R340, R526) -/

/-- A borrow of channels ends: they return to their home role, with what waited on them (R338, R340). -/
def Dev.endBorrow (d : Dev) (l : List Nat) : Dev :=
  d.each l fun d n => d.cond (d.ch n).borrowed fun d => d.modCh n fun c => { c with
    borrowed := false, role := c.home
    aside := if c.txn.isSome then c.aside else none
    txn := if c.txn.isSome then c.txn else c.aside
    cap := c.cap.map fun k => { k with susBor := false } }

/-- A field of a procedure that is not yet up is given up; one that is up starts to fall. -/
def Dev.dropCal (d : Dev) (n : Nat) : Dev :=
  match (d.ch n).txn with
  | some t =>
    if t.work ≠ .cal then d
    else if t.phase = .waiting ∨ t.phase = .admitted then
      ((d.unreserve n t.eRsv).modCh n fun c => { c with txn := none }).txnsMoved (pavOf n)
    else d.rampDown n .normal none
  | none => d

/-- A procedure leaves the engine: its fields, its borrow, its share of CALREF. -/
def Dev.calLeave (d : Dev) (r : CalRun) : Dev :=
  let d := { d with cal := { d.cal with runs := d.cal.runs.filter fun (x : CalRun) => x.kind != r.kind || x.unit != r.unit } }
  let d := (d.each r.chans Dev.dropCal).endBorrow r.chans
  let d := d.cond (r.started && r.kind == 8) fun d => d.setOn F.CAL_STAT_REF_BUSY 0 0 false
  d.cond (r.kind == 0) fun d =>
    (d.setFld F.CAL_STAT_STARTUP_RUN 0 0 (setBits (d.fld F.CAL_STAT_STARTUP_RUN) r.unit 1 0)).setFld
      F.CAL_STAT_STARTUP_DONE 0 0 (setBits (d.fld F.CAL_STAT_STARTUP_DONE) r.unit 1 1)

/-- CAL_DONE of a procedure (R416, R527). -/
def Dev.calDone (d : Dev) (r : CalRun) (within : Bool) : Dev :=
  d.event .calDone (if r.kind = 0 then 0x200 + r.unit else if r.kind = 7 then 0x100 + r.unit else r.unit)
    (toLe 1 (if r.kind = 0 then r.unit else r.kind) ++ toLe 1 (b2n within))

/-- The procedure that has borrowed a channel. -/
def Dev.calOf (d : Dev) (n : Nat) : Option CalRun := d.cal.runs.find? fun (r : CalRun) => r.started && r.chans.contains n

/-- A procedure stops with a status, and nothing of it is applied (R526). -/
def Dev.calAbort (d : Dev) (n : Nat) (st : Status) : Dev :=
  match d.calOf n with
  | none => d
  | some r =>
    let d := d.calLeave r
    match r.desc with
    | some q => d.done q st
    | none => d.calDone r false

/-- A transaction's work has completed with FAULT_ABORT before its field is down: its sessions are released at once (R331). -/
def Dev.abortSes (d : Dev) (n : Nat) : Dev :=
  d.cond (d.ch n).txn.isSome fun d => (d.freeAll n).modTxn n fun t => { t with sess := none }

/-- A transaction that is not on the air ends with a status and no air action (R92, R175, R344, R372). -/
def Dev.refuse (d : Dev) (n : Nat) (st : Status) : Dev :=
  match (d.ch n).txn with
  | some t =>
    if t.work = .cal then (d.dropCal n).calAbort n st
    else if t.work = .pilot then d.dropProbe n
    else
    let d := (d.unreserve n t.eRsv).completeWork n t st
    let d := d.cond (t.work == .exchange || t.work == .tagOp) fun d => d.noFrameRegs n st
    (d.modCh n fun c => { c with txn := none, cycleOpen := t.leavesOpen c.cycleOpen }).txnsMoved (pavOf n)
  | none => d

/-- A condition has come up that would have completed the transaction at admission (R372): before the field start it
completes, with the field up the field falls. -/
def Dev.strike (d : Dev) (n : Nat) (k : RampKind) (st : Status) : Dev :=
  match (d.ch n).txn with
  | some t =>
    match t.phase with
    | .admitted => d.refuse n st
    | .waiting => d
    | _ => d.fallFor n n k st
  | none => d

end Sys2Proof.Machine

namespace Sys2Proof.Machine

/-! ### Deadlines (R403) -/

/-- A channel's transaction that waits for admission on a descriptor past its deadline completes with LATE (R349, R403). -/
def Dev.expireTxn (d : Dev) (n : Nat) : Dev :=
  match (d.ch n).txn with
  | none => d
  | some t =>
    match t.desc with
    | none => d
    | some q => if t.phase = .waiting ∧ q.late d.now then d.refuse n .late else d

/-- The head of a queue that has not started completes with LATE once its deadline has passed (R39, R403). -/
def Dev.expireHead (d : Dev) (target : Nat) : Dev :=
  match (d.tq target).run, (d.tq target).q with
  | none, q :: rest =>
    if q.late d.now then ((d.modTq target fun t => { t with q := rest }).complete q .late { result := .late }).airGone q else d
  | _, _ => d

/-- A transaction is a poll cycle of a program. -/
def Txn.isCycle (t : Txn) : Bool :=
  match t.work with
  | .cycle _ false => true
  | _ => false

/-- The transaction that a borrow or a priority probe has set aside on a channel leaves with a status: a poll cycle reports it, any other
completes its descriptor with it (R185, R338, R411). -/
def Dev.asideGone (d : Dev) (n : Nat) (st : Status) : Dev :=
  match (d.ch n).aside with
  | none => d
  | some t =>
    let d := d.modCh n fun c => { c with aside := none, cycleOpen := c.cycleOpen && !t.isCycle }
    match t.work with
    | .cycle slot false =>
      match tblFind (d.pav (pavOf n)).runs slot with
      | some r => d.cycleReport n t st r.start
      | none => d
    | _ =>
      match t.desc with
      | some q => d.done q st
      | none => d

/-- A transaction set aside by a borrow, or behind a priority probe, completes with LATE likewise (R185, R338). -/
def Dev.expireAside (d : Dev) (n : Nat) : Dev :=
  d.cond ((d.ch n).aside.any fun t => t.desc.any fun q => q.late d.now) fun d => d.asideGone n .late

/-- A CAL whose borrow has not begun, a CAPTURE_START whose stream does not stand, and an ISODEP_EXCHANGE that no transaction carries yet
have not started (R428, R439, R525, R585). -/
def Dev.calHeld (d : Dev) (q : QDesc) : Bool :=
  q.d.op == 0x18 || q.d.op == 0x02 && !((d.ch q.d.target).txn.any fun t => t.hostDesc.any q.same) || q.d.op == 0x29 && !(d.cal.runs.any fun (r : CalRun) => r.started && r.desc.any q.same)

/-- A descriptor that has not started leaves with a status (R403, R411, R525). -/
def Dev.calGiveUp (d : Dev) (q : QDesc) (st : Status) : Dev :=
  ({ d with cal := { d.cal with runs := d.cal.runs.filter fun (r : CalRun) => !r.desc.any q.same } } : Dev).done q st

/-- A descriptor that waits at the head, not started, past its deadline completes with LATE (R403, R525). -/
def Dev.expireCal (d : Dev) (target : Nat) : Dev :=
  match (d.tq target).run with
  | some q => if d.calHeld q && q.late d.now then d.calGiveUp q .late else d
  | none => d

/-- Where the head descriptor of a target, held or waiting for admission, has passed its deadline, it completes with LATE and
no air action (R39, R349, R403). -/
def Dev.expire (d : Dev) (target : Nat) : Dev :=
  ((if target < 192 then (d.expireTxn target).expireAside target else d).expireCal target).expireHead target

/-- The earliest deadline of what is held or waits at the head for a target (R403). -/
def Dev.deadline (d : Dev) (target : Nat) : Option Nat :=
  let c := d.ch target
  let txn (t : Option Txn) : List QDesc :=
    (if target < 192 then t else none).toList.flatMap fun t => if t.phase = .waiting then t.desc.toList else []
  let run := (d.tq target).run
  let l := txn c.txn ++ txn c.aside ++ (run.toList.filter d.calHeld) ++ (if run.isSome then [] else ((d.tq target).q.take 1))
  ((l.map fun (q : QDesc) => q.d.deadline).filter (· != 0)).min?

/-- The targets whose queues hold anything. -/
def Dev.busyTargets (d : Dev) : List Nat :=
  (d.chans.filterMap fun (e : Nat × Ch) => if e.2.tq = {} then none else some e.1) ++
    (d.arbs.filterMap fun (e : Nat × Arb) => if e.2.tq = {} then none else some (0x100 + e.1)) ++
    (d.pavs.filterMap fun (e : Nat × Pav) => if e.2.tq = {} then none else some (0x200 + e.1)) ++ [0x3FF]

/-- Network time has been stepped or loaded: every head descriptor is judged again (R403). -/
def Dev.expireAll (d : Dev) : Dev := d.each d.busyTargets Dev.expire

end Sys2Proof.Machine
end

