-- ==== Sys2Proof/Machine/Fault.lean ====
section
/-! DEFINITION. Faults: reaction classes, isolation, the safe state, recording, reporting and broadcast (R560 to R578). -/

namespace Sys2Proof.Machine

/-- The kind of scope of a fault (R571): 0 channel, 1 arbour, 2 pavilion, 3 device. -/
def scopeSource (kind ix : Nat) : Nat :=
  if kind = 0 then ix else if kind = 1 then 0x100 + ix else if kind = 2 then 0x200 + ix else 0x3FF

/-- The channels of a scope (R565). -/
def scopeChans (kind ix : Nat) : List Nat :=
  if kind = 0 then [ix] else if kind = 1 then arbChans ix else if kind = 2 then pavChans ix else allChans

/-- What a detection names (R571). -/
structure Detect where
  code  : Nat := 0
  cls   : Nat := 0
  kind  : Nat := 3
  ix    : Nat := 0
  value : Nat := 0
  stest : Bool := false
  remote : Bool := false
  pos   : Nat := 0
deriving DecidableEq, Repr

/-- The BODY of a FAULT event (R571). -/
def Detect.body (x : Detect) : List Byte :=
  toLe 2 x.code ++ toLe 1 x.cls ++ toLe 1 x.kind ++ toLe 2 (if x.kind = 3 then 0 else x.ix) ++ toLe 4 x.value ++
    toLe 1 (b2n x.stest + 2 * b2n x.remote) ++ toLe 1 (x.pos % 16)

/-- A message becomes due at a Promenade port (R669). -/
def PrmPort.addDue (p : PrmPort) (ty : Nat) (pay : List Byte) : PrmPort := { p with due := p.due ++ [(ty, pay)] }

/-- A FAULT message for both Promenade ports (R576, R669, R682): code, class, originating position, hops. -/
def Dev.broadcast (d : Dev) (code cls pos hops : Nat) (up dn : Bool) : Dev :=
  let m := toLe 2 code ++ toLe 1 cls ++ toLe 1 pos ++ toLe 1 hops
  { d with prom := { d.prom with
      upP := if up then d.prom.upP.addDue 8 m else d.prom.upP
      dnP := if dn then d.prom.dnP.addDue 8 m else d.prom.dnP } }

/-- The carrier is no longer coherent (R679); a remote seam at UP then holds magnitudes only (R229). -/
def Dev.incoherent (d : Dev) : Dev :=
  let d := d.setOn F.PRM_STAT_COHERENT 0 0 false
  let d := { d with prom := { d.prom with cohRun := 0 } }
  if d.on F.ARB_CM_STAT_SEAM_REMOTE 0 then d.setOn F.ARB_CM_STAT_SEAM_MAG_ONLY 0 0 true else d

/-- A report of the same microsecond has a higher class, or an equal class and a lower code: FLT_LAST keeps it (R572). -/
def Dev.lastStays (d : Dev) (x : Detect) : Bool :=
  d.flt.lastAt.any fun t => decide ((d.tc - t) * 1000 < tcMs) && (decide (x.cls < d.fld F.FLT_LAST_CLASS) ||
    x.cls == d.fld F.FLT_LAST_CLASS && decide (d.fld F.FLT_LAST_CODE ≤ x.code))

/-- Record a detection and broadcast it (R571, R572, R576). -/
def Dev.record (d : Dev) (x : Detect) : Dev :=
  let last := x.code % 0x10000 + 0x10000 * (x.cls % 4) + 0x100000 * (x.kind % 4) + 0x1000000 * (x.ix % 256)
  let d := if d.lastStays x then d else { d.wr .FLT_LAST 0 0 last with flt := { d.flt with lastAt := some d.tc } }
  let d := d.cond (d.fld F.FLT_STAT_FIRST_CODE == 0) fun d =>
    (d.setFld F.FLT_STAT_FIRST_CODE 0 0 x.code).setPair .FLT_FIRST_T_L .FLT_FIRST_T_H 0 0 d.now
  let d := match x.cls with
    | 0 => d.addFld F.FLT_CNT_C0 0 0 1
    | 1 => d.addFld F.FLT_CNT_C1 0 0 1
    | 2 => d.addFld F.FLT_CNT_C2 0 0 1
    | _ => d.addFld F.FLT_CNT_C3 0 0 1
  let d := d.setMisc 1
  d.cond (!x.remote && d.on F.FLT_CTL_PRM_SEND && (x.cls == 3 || (x.cls == 2 && decide (2 ≤ x.kind)))) fun d =>
    d.broadcast x.code x.cls d.position 0 true true

/-- Record and report a detection (R571). -/
def Dev.report (d : Dev) (x : Detect) : Dev := (d.record x).event .fault (scopeSource x.kind x.ix) x.body

/-- A damaged entry of an outbound queue is replaced by the FAULT event of its detection, which takes its place (R434, R571): its ring is
fixed now, and where its map byte is disabled both are gone (R419). -/
def Dev.standIn (d : Dev) (source place : Nat) (x : Detect) : Dev :=
  match (d.outq source).held[place]? with
  | none => d
  | some e =>
    let src := scopeSource x.kind x.ix
    let k := if source < 192 then e.cls else if e.reserved then 2 else 0
    let f : Entry := { kind := .fault, source := src, gen := d.genOf src 0x1FF, time := d.stamp, body := x.body, stead := some k }
    match d.route f with
    | some r => d.modOutq source fun q => { q with held := q.held.set place { f with ring := some r } }
    | none => (d.modOutq source fun q => { q with held := q.held.eraseIdx place }).addFld F.HIF_UNSOL_DROP_COUNT 0 0 1

/-- Cut every field of some channels hard; what is admitted and not yet up completes (R372, R565). -/
def Dev.cutChans (d : Dev) (l : List Nat) : Dev :=
  d.each l fun d n => (d.cutCoil n .hard .faultAbort).strike n .hard .faultAbort

/-- Set the isolation bits of a channel or pavilion (R566). -/
def Dev.isolate (d : Dev) (kind ix : Nat) : Dev :=
  match kind with
  | 0 => d.wr .FLT_ISO_CH 0 (pavOf ix) (setBits (d.rd .FLT_ISO_CH 0 (pavOf ix)) (ix % 32) 1 1)
  | 2 => d.wr .FLT_ISO_PAV 0 0 (setBits (d.rd .FLT_ISO_PAV) ix 1 1)
  | _ => d

/-- End a waiting or admitted transaction of a channel without posting anything, and take the work from one whose field is up
(R385, R569). An exchange that ends so has no status in the manual but in the safe state: its registers take FAULT_ABORT with a hard cut
and CANCELLED otherwise (R175; log entry 61). -/
def Dev.dropWork (d : Dev) (n : Nat) (k : RampKind) : Dev :=
  match (d.ch n).txn with
  | some t =>
    if t.phase = .admitted ∧ t.work = .pilot then d.dropProbe n
    else if t.phase = .waiting ∨ t.phase = .admitted then
      ((d.unreserve n t.eRsv).modCh n fun c => { c with txn := none, cycleOpen := t.leavesOpen c.cycleOpen }).txnsMoved (pavOf n)
    else
      let d := d.cond (!t.finished) fun d => d.noFrameRegs n (if k = .hard then .faultAbort else .cancelled)
      (d.rampDown n k none).modTxn n fun t => { t with desc := none, hostDesc := none, finished := true }
  | none => d

/-- No unit holds a descriptor any more: target queues, pending roles, calibrations asked for, staged writes, streams. -/
def Dev.clearHeld (d : Dev) : Dev :=
  let d := d.each d.chanKeys fun d n => d.modCh n fun c => { c with tq := {}, roleQ := [], cap := none }
  let d := { d with
    arbs := tblMap d.arbs (fun e => { e with tq := {} }) {}
    pavs := tblMap d.pavs (fun e => { e with tq := {} }) {}
    images := tblMap d.images (fun e => { e with staged := [] }) {}
    host := { d.host with tq := {} }
    syn := { d.syn with waiters := [] }
    ledger := { d.ledger with change := none, invals := [] } }
  d.each (d.cal.runs.filter fun (r : CalRun) => r.desc.isSome) Dev.calLeave

/-- Stop a listener: no answer is staged or sent (R569). -/
def Lsn.stop (l : Lsn) : Lsn := { l with staged := none, queued := none, rest := [], waiting := false, wtxOut := false }

/-- Enter the safe state (R569): fields are cut hard, grants and requests fall, sequencers, listeners, probes and sweeps stop,
and every descriptor held completes with FAULT_ABORT. -/
def Dev.enterSafe (d : Dev) : Dev :=
  if d.pwr.safe then d
  else
    let d := { d with pwr := { d.pwr with safe := true } }
    let d := d.each d.chanKeys fun d n =>
      ((((d.cutCoil n .hard .faultAbort).modCh n fun c => { c with aside := none }).abortSes n).dropWork n .hard).modCh n fun c => { c with
        lsn := c.lsn.stop }
    let d := d.each ((d.cal.runs.filter fun (r : CalRun) => r.started && r.desc.isNone).map (·.unit)) fun d p =>
      d.calAbort (32 * p + ((pavChans p).findIdx fun n => (d.ch n).borrowed)) .faultAbort
    let d := { d with arbs := tblMap d.arbs (fun e => { e with grant := false, grantEnd := 0 }) {} }
    let held := d.host.inFlight
    let d := d.clearHeld
    let d := d.each held fun d q => d.complete q .faultAbort { result := .faultAbort }
    let d := (List.range 6).foldl (fun d p => d.modPav p fun x => { x with sweep := none }) d
    let d := { d with pavs := tblMap d.pavs (fun e => { e with runs := [] }) {} }
    (List.range 6).foldl Dev.syncReq d

/-- The key of a monitor's test on a scope. -/
def testKey (code kind ix : Nat) : Nat := (code * 4 + kind) * 256 + ix

/-- The period of the self-test in Tc (R574). -/
def Dev.testTc (d : Dev) : Nat := d.fld F.FLT_STEST_PERIOD * tcMs

/-- A channel's test, due once per period, has waited two periods: the channel's next admission waits for it (R574). -/
def Dev.testWaits (d : Dev) (n : Nat) : Bool :=
  d.on F.FLT_STEST_EN && d.flt.tests.any fun (e : Nat × Nat) =>
    e.1 / 256 % 4 == 0 && e.1 % 256 == n && decide (e.2 + 3 * d.testTc ≤ d.tc)

/-- Clear every program and script slot of a pavilion and end its bindings (R573). -/
def Dev.clearSlots (d : Dev) (p : Nat) : Dev :=
  let d := d.modPav p fun x => { x with progs := [], progsNew := [], scripts := [], runs := [] }
  d.each ((pavChans p).filter fun n => (d.ch n).prog.isSome) fun d n =>
    d.modCh n fun c => { c with prog := none, leaving := false, cycleOpen := false }

/-- An arbour's grant is held low until ARB_GRANT.FAULT is cleared (R474, R566). -/
def Dev.grantFault (d : Dev) (a : Nat) : Dev :=
  (d.modArb a fun x => { x with grant := false, grantEnd := 0 }).setOn F.ARB_GRANT_FAULT a 0 true

/-- The reaction of a class at a scope (R565, R566): at an arbour it acts on the grant alone; at device scope it cuts every field and
isolates nothing, so what is admitted and not yet up is left to R372. -/
def Dev.react (d : Dev) (x : Detect) : Dev :=
  match x.cls with
  | 2 =>
    if x.kind = 1 then d.grantFault x.ix
    else if x.kind = 3 then d.each allChans fun d n => d.cutCoil n .hard .faultAbort
    else (d.cutChans (scopeChans x.kind x.ix)).isolate x.kind x.ix
  | 3 => d.enterSafe
  | _ => d

/-- A detection: the reaction, then the record and the report (R565, R571). -/
def Dev.fault (d : Dev) (x : Detect) : Dev := (d.react x).report x

/-- A detection of a monitor whose VALUE the manual does not state: a free value (R571; log entry 1). -/
def Dev.faultFree (d : Dev) (x : Detect) : Dev :=
  let (v, d) := d.free
  d.fault { x with value := v % 2 ^ 32 }

end Sys2Proof.Machine
end

