-- ==== Sys2Proof/Machine/FirTable.lean ====
section
/-! DEFINITION. The filter coefficients of the standard settings, computed from the pseudocode of R120. -/

namespace Sys2Proof.Machine

/-- Coefficients c0 to c31 of standard filter i (R119, R120): 0 to 1 the 106 and 212 kbit/s rows, 2 to 3 the 424 and 848 kbit/s
rows, 4 to 6 the very-high bit rates, 7 to 8 NFC-F, 9 NFC-V, 10 listen. -/
def firCoef : Nat → List Int
  | 0 =>
    [19, -20, -23, 75, -48, -81, 181, -73, -211, 352, -67, -453, 593, 15, -861, 898,
     245, -1500, 1246, 736, -2473, 1603, 1689, -4002, 1925, 3613, -6809, 2170, 8676, -15204, 2303, 71022]
  | 1 =>
    [-13, 33, -36, -4, 80, -138, 105, 50, -256, 355, -200, -201, 624, -724, 279, 570,
     -1301, 1283, -253, -1351, 2485, -2099, -63, 2993, -4731, 3447, 1222, -7380, 11151, -7737, -9052, 76398]
  | 2 =>
    [-4, -34, -9, 70, 52, -106, -142, 113, 282, -51, -456, -123, 617, 443, -690, -917,
     573, 1509, -152, -2124, -683, 2608, 2033, -2734, -4003, 2166, 6824, -244, -11391, -5372, 24070, 53411]
  | 3 =>
    [19, -1, -49, 41, 67, -127, -25, 233, -123, -281, 382, 162, -671, 213, 815, -838,
     -584, 1539, -203, -1970, 1559, 1670, -3223, -186, 4621, -2830, -4851, 7748, 2333, -16350, 9773, 66673]
  | 4 =>
    [-16, 0, 42, 72, 36, -76, -183, -154, 63, 337, 401, 82, -471, -796, -467, 458,
     1298, 1195, -102, -1774, -2348, -875, 1981, 4006, 2941, -1464, -6464, -7507, -1172, 12044, 27187, 37262]
  | 5 =>
    [15, 19, -45, -30, 98, 31, -182, -7, 297, -62, -440, 196, 601, -424, -759, 772,
     881, -1266, -921, 1938, 815, -2827, -472, 4004, -264, -5639, 1727, 8240, -4958, -14049, 16493, 61754]
  | 6 =>
    [14, -24, -34, 59, 60, -118, -90, 210, 119, -347, -139, 537, 139, -794, -102, 1130,
     6, -1561, 178, 2110, -493, -2818, 1010, 3762, -1865, -5128, 3375, 7445, -6573, -12979, 17997, 60450]
  | 7 =>
    [-9, 20, 51, 21, -77, -130, -15, 201, 250, -41, -429, -401, 202, 794, 549, -543,
     -1331, -633, 1170, 2074, 549, -2259, -3094, -111, 4201, 4625, -1158, -8393, -7859, 5799, 27506, 44007]
  | 8 =>
    [19, -1, -49, 41, 67, -127, -25, 233, -123, -281, 382, 162, -671, 213, 815, -838,
     -584, 1539, -203, -1970, 1559, 1670, -3223, -186, 4621, -2830, -4851, 7748, 2333, -16350, 9773, 66673]
  | 9 =>
    [19, -20, -23, 75, -48, -81, 181, -73, -211, 352, -67, -453, 593, 15, -861, 898,
     245, -1500, 1246, 736, -2473, 1603, 1689, -4002, 1925, 3613, -6809, 2170, 8676, -15204, 2303, 71022]
  | 10 =>
    [-7, 1, 17, -48, 90, -138, 179, -198, 177, -102, -38, 239, -484, 739, -956, 1074,
     -1035, 788, -303, -413, 1314, -2309, 3262, -3999, 4319, -4007, 2825, -487, -3470, 10151, -23680, 82035]
  | _ => []

end Sys2Proof.Machine
end

