-- ==== Sys2Proof/Machine/Frames.lean ====
section
/-! DEFINITION. Frames on the air: durations, guards, response windows, and the receive settings of each rate (R118 to R122,
R141 to R150, R238 to R242). Rates are coded as TX_MAX of R245: 0 to 3 are 106 to 848 kbit/s, 4 to 6 the very-high bit rates;
for NFC-V a receive rate of 0 is the high and 1 the low rate, and a transmit rate of 0 is 1-of-4 and 1 is 1-of-256 coding. -/

namespace Sys2Proof.Machine

/-- The bit duration of a rate in Tc (R141, R147); `dual`: a tag's NFC-V answer with dual subcarrier. -/
def bitTc (tech : Tech) (rate : Nat) (dual : Bool := false) : Nat :=
  match tech with
  | .nfcV => (if dual then 508 else 512) * (if rate = 0 then 1 else 4)
  | _ => if rate ≤ 3 then 128 / 2 ^ rate else 8 / 2 ^ (rate - 4)

/-- The last bit that an NFC-A frame sends: of a partial byte, or the odd parity of a whole one (R147). -/
def lastBitA (data : List Byte) (lastBits : Nat) : Bool :=
  let b := (data.getLast?.getD 0).toNat
  if lastBits = 0 then (List.range 8).countP (fun i => bitAt b i) % 2 = 0
  else bitAt b (lastBits - 1)

/-- Data and parity bits of an NFC-A frame (R147). -/
def bitsA (n lastBits : Nat) : Nat := if lastBits = 0 then 9 * n else 9 * (n - 1) + lastBits

/-! ### Modulation of device frames (R78 to R84) -/

/-- A field of the modulation settings. -/
def ModSet.fld (m : ModSet) (f : Fld) : Nat :=
  bits (match f.reg with
    | .CH_MOD_A => m.a
    | .CH_MOD_ASK => m.ask
    | .CH_MOD_SHAPE => m.shape
    | _ => m.frm) f.lo f.w

/-- The pause length of an NFC-A rate (R78). -/
def ModSet.pauseTc (m : ModSet) (rate : Nat) : Nat :=
  match rate with
  | 0 => m.fld F.CH_MOD_A_PAUSE_106
  | 1 => m.fld F.CH_MOD_A_PAUSE_212
  | 2 => m.fld F.CH_MOD_A_PAUSE_424
  | _ => m.fld F.CH_MOD_A_PAUSE_848

/-- A technology and rate run at a very-high bit rate. -/
def vhbr (tech : Tech) (rate : Nat) : Bool := (tech == .nfcA || tech == .typeB) && decide (4 ≤ rate)

/-- The length of an ASK transition in quarters of a Tc (R82). EDGE code 3 is reserved and has no length: an open constant (log
entry 59). -/
def ModSet.edge (m : ModSet) (tech : Tech) (rate : Nat) : Nat :=
  if vhbr tech rate then (if rate = 6 then 2 else 4)
  else match m.fld F.CH_MOD_SHAPE_EDGE with
    | 0 => 4
    | 1 => 8
    | 2 => 16
    | _ => Config.edgeReserved

/-- The modulation and coding of a device frame by technology and rate (R78, R79, R82, R83). -/
def ModSet.wave (m : ModSet) (tech : Tech) (rate : Nat) : Wave :=
  let e := m.edge tech rate
  match tech with
  | .nfcF => { full := false, index := m.fld F.CH_MOD_ASK_IDX_F, coding := .manchester, edge := e }
  | .nfcV =>
    let full := m.fld F.CH_MOD_ASK_V_100 == 1
    { full := full, index := if full then 200 else m.fld F.CH_MOD_ASK_IDX_V, coding := .pulsePos, pause := 128, edge := e }
  | .nfcA =>
    if rate ≤ 3 then { full := true, index := 200, coding := .miller, pause := m.pauseTc rate, edge := e }
    else { full := false, index := m.fld F.CH_MOD_ASK_IDX_VHBR, coding := .nrzL, edge := e, boost := m.fld F.CH_MOD_SHAPE_PREEMP }
  | .typeB =>
    if rate ≤ 3 then { full := false, index := m.fld F.CH_MOD_ASK_IDX_B, coding := .nrzL, edge := e }
    else { full := false, index := m.fld F.CH_MOD_ASK_IDX_VHBR, coding := .nrzL, edge := e, boost := m.fld F.CH_MOD_SHAPE_PREEMP }

/-- A device frame's length from start edge to end edge, in Tc (R147, R150). -/
def ModSet.frameTc (m : ModSet) (tech : Tech) (rate : Nat) (data : List Byte) (lastBits : Nat) : Nat :=
  let e := bitTc tech rate
  match tech with
  | .nfcF => (8 * m.fld F.CH_FRM_CTL_F_PRE + 16 + 8 * data.length) * e
  | .nfcV => if data = [] then 512 else 1024 + data.length * (if rate = 0 then 4096 else 65536) + 512
  | t =>
    if t = .nfcA ∧ rate ≤ 3 then
      let k := bitsA data.length lastBits
      -- the end of frame is logic 0 then Y: after a 0 its pause opens the next period, after a 1 the last pause is mid-bit
      (if lastBitA data lastBits then k * e + e / 2 else (k + 1) * e) + m.pauseTc rate
    else if rate ≤ 3 then
      (10 + m.fld F.CH_FRM_CTL_B_SOF_LOW + 2 + m.fld F.CH_FRM_CTL_B_SOF_HIGH + 10 * data.length +
        m.fld F.CH_FRM_CTL_B_EGT_TX * (data.length - 1) + 10 + m.fld F.CH_FRM_CTL_B_EOF_LOW) * e
    else (12 + 10 * data.length + 10) * e

/-- The bits of a byte, least significant first. -/
def bitsLsb (b : Byte) : List Bool := (List.range 8).map fun i => bitAt b.toNat i

/-- Data and parity bits of an NFC-A frame in order (R147): each whole byte with its odd parity, and the bits of a partial one. -/
def airBitsA : List Byte → Nat → List Bool
  | [], _ => []
  | [b], 0 => bitsLsb b ++ [(bitsLsb b).countP id % 2 == 0]
  | [b], k => (bitsLsb b).take k
  | b :: t, k => bitsLsb b ++ [(bitsLsb b).countP id % 2 == 0] ++ airBitsA t k

/-- Modified Miller coding after a bit (R147): 1 is X; 0 is Y after a 1, else Z. -/
def millerLine (last : Bool) : List Bool → List Line
  | [] => []
  | true :: t => .x :: millerLine true t
  | false :: t => (if last then .y else .z) :: millerLine false t

/-- The sequence that a device frame puts on the air (R147). -/
def ModSet.line (m : ModSet) (tech : Tech) (rate : Nat) (data : List Byte) (lastBits : Nat) : List Line :=
  let char (b : Byte) : List Line := .bit false :: (bitsLsb b).map .bit ++ [.bit true]
  match tech with
  | .nfcF => (List.replicate (m.fld F.CH_FRM_CTL_F_PRE) 0 ++ bytes [0xB2, 0x4D] ++ data).flatMap fun b => (bitsLsb b).reverse.map .bit
  | .nfcV =>
    if data = [] then [.eofV]
    else .sofV (rate == 1) :: data.flatMap (fun b =>
      if rate = 1 then [.pulse 256 b.toNat] else (List.range 4).map fun i => .pulse 4 (bits b.toNat (2 * i) 2)) ++ [.eofV]
  | t =>
    if t = .nfcA ∧ rate ≤ 3 then .z :: millerLine false (airBitsA data lastBits ++ [false]) ++ [.y]
    else
      let fast := decide (4 ≤ rate)
      let k (f : Fld) : Nat := if fast then 0 else m.fld f
      [.level false (10 + k F.CH_FRM_CTL_B_SOF_LOW), .level true (2 + k F.CH_FRM_CTL_B_SOF_HIGH)] ++
        (data.map char).foldl (fun l c => if l = [] then c else l ++ [.level true (k F.CH_FRM_CTL_B_EGT_TX)] ++ c) [] ++
        [.level false (10 + k F.CH_FRM_CTL_B_EOF_LOW)]

/-- A tag's longest start sequence, in Tc (R147, R168). -/
def startTc (tech : Tech) (rate : Nat) (dual : Bool) : Nat :=
  let e := bitTc tech rate dual
  match tech with
  | .nfcF => (96 + 16) * e
  | .nfcV => 1536 * (if rate = 0 then 1 else 4) + e
  | .nfcA => if rate = 0 then e else if rate ≤ 3 then 128 * 16 + e else (128 + 12) * e
  | .typeB => if rate ≤ 3 then 128 * 16 + 14 * e else (128 + 12) * e

/-- The capture window: the longest start sequence and four bit periods, in Tc (R168). -/
def captureTc (tech : Tech) (rate : Nat) (dual : Bool) : Nat := startTc tech rate dual + 4 * bitTc tech rate dual

/-- The length of one measurement of in-band energy, in Tc: a bit period, four at the very-high bit rates (R167). -/
def measureTc (tech : Tech) (rate : Nat) (dual : Bool) : Nat := bitTc tech rate dual * if vhbr tech rate then 4 else 1

/-- The longest tag frame of n bytes, in Tc (R147, R150, R168, R235; log entry 12). -/
def tagFrameTc (tech : Tech) (rate n : Nat) : Nat :=
  let e := bitTc tech rate
  match tech with
  | .nfcF => (96 + 16 + 8 * n) * e
  | .nfcV => (if rate = 0 then 4096 else 16384) + 8 * n * e
  | t =>
    if t = .nfcA ∧ rate = 0 then (1 + 9 * n) * e
    else if rate ≤ 3 then 128 * 16 + (14 + 12 * n + 11) * e
    else (128 + 14 + 10 * n + 10) * e

/-- The guard field of the receive rate (R240). -/
def Dev.guardField (d : Dev) (p : Nat) (tech : Tech) (rate : Nat) : Nat :=
  if 4 ≤ rate ∧ (tech = .nfcA ∨ tech = .typeB) then d.fld F.PAV_SEQ_GT0_VHBR p
  else match tech with
    | .nfcA => d.fld F.PAV_SEQ_GT0_A p
    | .nfcF => d.fld F.PAV_SEQ_GT3_F p
    | .nfcV => d.fld F.PAV_SEQ_GT3_V p
    | .typeB =>
      match rate with
      | 0 => d.fld F.PAV_SEQ_GT1_B106 p
      | 1 => d.fld F.PAV_SEQ_GT1_B212 p
      | 2 => d.fld F.PAV_SEQ_GT2_B424 p
      | _ => d.fld F.PAV_SEQ_GT2_B848 p

/-- The minimum guard of a receive setting (R240); FIR_SRC 1 receives from the own tap alone (R123). -/
def guardMin (firSrc : Nat) (comb : Bool) : Nat :=
  match firSrc, comb with
  | 1, _ => 40
  | 2, false => 60
  | 2, true => 76
  | 3, false => 96
  | 3, true => 112
  | 4, false => 180
  | 4, true => 196
  | 5, false => 348
  | 5, true => 364
  | _, _ => 0

/-- The spacing 12 Tc + G before the next device frame (R238 to R240). -/
def Dev.spacing (d : Dev) (n : Nat) (tech : Tech) (rxRate : Nat) (comb : Bool) : Nat :=
  12 + max (d.guardField (pavOf n) tech rxRate) (guardMin (d.fld F.CH_RX_CTL_FIR_SRC n) comb)

/-- FWT in Tc; an FWI of 15 is taken as 4 (R242). -/
def fwtTc (fwi : Nat) : Nat := 4096 * 2 ^ (if fwi = 15 then 4 else fwi)

/-- ΔFWT in Tc (R242). -/
def Dev.dfwt (d : Dev) (p : Nat) : Nat := d.fld F.PAV_SEQ_DEP_DFWT p * 256

/-- Opening and close of the response window after a frame, in Tc from its end edge (R242). HLTB, for which the table has no row, takes that
of REQB, and STAY QUIET that of the other NFC-V requests (the model's choice: log entry 16). -/
def Dev.window (d : Dev) (p : Nat) (use : FrameUse) (tech : Tech) (fwi slot : Nat) : Nat × Nat :=
  let opens : Nat := match tech with
    | .nfcA => 1108
    | .typeB => 1024
    | _ => 4288
  match use with
  | .reqA | .anticoll | .select | .hlta => (1108, 1300)
  | .rats => (1108, 65536 + d.dfwt p)
  | .t2Read => (1108, 13560)
  | .t2Write => (1108, 135600)
  | .reqB | .slotMarker => (1024, 7680)
  | .sensf => (32768 + 16384 * slot - 256, 32768 + 16384 * slot + 256)
  | .inventory | .stayQuiet | .t5Read => (4288, 4416)
  | .t5Write => (4288, 271200)
  | .hltB => (1024, 7680)
  | _ => (opens, fwtTc fwi + d.dfwt p)

/-- The row of R242 that an EXCHANGE with WIN_CLOSE 0 takes: the one its first byte names, else that of a block with the FWI
of 4 (R407; log entry 16). -/
def exchangeUse (tech : Tech) (data : List Byte) : FrameUse :=
  let b := byteAt data 0
  match tech with
  | .nfcA =>
    if b = 0x26 ∨ b = 0x52 then .reqA
    else if b = 0x93 ∨ b = 0x95 ∨ b = 0x97 then .select
    else if b = 0x50 then .hlta
    else if b = 0x30 then .t2Read
    else if b = 0xA2 then .t2Write
    else if b = 0xE0 then .rats else .iBlock
  | .typeB => if b % 16 = 5 then .reqB else .iBlock
  | .nfcF => .sensf
  | .nfcV => if bitAt b 6 then .t5Write else .inventory

/-! ### Standard settings (R118, R119) -/

/-- FIR_SRC and standard filter of listening (R119). -/
def listenSetting : Nat × Nat := (3, 10)

/-- FIR_SRC and standard filter of a technology and receive rate (R119). -/
def stdSetting (tech : Tech) (rate : Nat) : Nat × Nat :=
  match tech with
  | .nfcF => (4, if rate ≤ 1 then 7 else 8)
  | .nfcV => (5, 9)
  | _ =>
    match rate with
    | 0 => (4, 0)
    | 1 => (4, 1)
    | 2 => (3, 2)
    | 3 => (3, 3)
    | 4 => (2, 4)
    | 5 => (2, 5)
    | _ => (1, 6)

/-- Write the coefficients of a standard filter into a bank (R118, R120). -/
def Dev.loadBank (d : Dev) (n : Nat) (bankB : Bool) (c : List Int) : Dev :=
  d.each c.zipIdx fun d ck => d.wr (if bankB then .CH_RX_COEF_B else .CH_RX_COEF_A) n ck.2 (ofInt 18 ck.1)

/-- The device applies a standard setting: FIR_SRC, the default shifts, DC_SUB and the inactive bank, which it makes active
(R118). A change of FIR_SRC refills the filter (R115). A cross-fade in progress, or one that waits for a frame's end, ends at once: the
bank that CH_RX_FIR.ACTIVE does not name is the one loaded (the model's choice: log entry 60). -/
def Dev.applyStd (d : Dev) (n src filt : Nat) (dcSub : Bool) : Dev :=
  if d.on F.CH_RX_CTL_STD n then
    let b := d.on F.CH_RX_FIR_ACTIVE n
    let d := (d.setSrc n src).setOn F.CH_RX_CTL_DC_SUB n 0 dcSub
    let d := (d.setOn F.CH_RX_FIR_FADING n 0 false).setOn F.CH_RX_FIR_PENDING n 0 false
    let d := (d.wr .CH_RX_SHIFT n 0 0x210000).modCh n fun c => { c with shiftPend := none, srcPend := none }
    (d.loadBank n (!b) (firCoef filt)).setOn F.CH_RX_FIR_ACTIVE n 0 (!b)
  else d

/-- The standard setting of a poll rate. -/
def Dev.applyRate (d : Dev) (n : Nat) (tech : Tech) (rate : Nat) : Dev :=
  d.applyStd n (stdSetting tech rate).1 (stdSetting tech rate).2 true

/-- The listen row, on a channel in the LISTEN role (R118, R288). -/
def Dev.listenStd (d : Dev) (n : Nat) : Dev :=
  d.cond ((d.ch n).role == .listen) fun d => d.applyStd n listenSetting.1 listenSetting.2 false

/-- Change a channel's listener. -/
def Dev.modLsn (d : Dev) (n : Nat) (f : Lsn → Lsn) : Dev := d.modCh n fun c => { c with lsn := f c.lsn }

/-- The session of a listener ends (R301); the limit of SFGT stays in force for its last answer (R297). -/
def Dev.lsnEnd (d : Dev) (n : Nat) (st : LsnState) : Dev :=
  let d := match (d.ch n).lsn.sess with
    | some s => (d.freeSes s).stir (pavOf n)
    | none => d
  d.modLsn n fun l => { armed := l.armed, field := l.field, since := l.since, endTc := l.endTc, endOne := l.endOne, uid := l.uid,
                        freq := l.freq, notBefore := l.notBefore, sendTo := l.sendTo, inFrame := l.inFrame, state := st }

/-- A reader's frame is over for the listener's receive path: what it held back applies, a listen row that waited for it among it
(R112, R115, R117, R118, R131). -/
def Dev.lsnFrameEnd (d : Dev) (n : Nat) : Dev :=
  let late := (d.ch n).stdPend
  let d := ((d.modLsn n fun l => { l with inFrame := false }).frameEnded n).modCh n fun c => { c with stdPend := false }
  d.cond late fun d => d.listenStd n

/-- A listener leaves a reader's frame that it is in, when the field goes or the role ends. -/
def Dev.lsnLeave (d : Dev) (n : Nat) : Dev := d.cond (d.ch n).lsn.inFrame fun d => d.lsnFrameEnd n

/-- A half-band stage (R110): taps, passband edge and start of the stopband in Hz; flatness of the passband in 0.01 dB and alias rejection in
dB. -/
structure HbStage where
  taps : Nat
  pass : Nat
  stop : Nat
  flat : Nat := 1
  rej  : Nat := 85
deriving DecidableEq, Repr

/-- HB1 to HB5 (R110). -/
def hbStages : List HbStage :=
  [{ taps := 7, pass := 5420000, stop := 21700000 }, { taps := 11, pass := 2710000, stop := 10850000 },
   { taps := 15, pass := 1690000, stop := 5090000 }, { taps := 19, pass := 920000, stop := 2470000 },
   { taps := 23, pass := 480000, stop := 1210000 }]

/-- The delay of HBk, half its length less one in input samples, in quarters of a Tc (R110). -/
def hbDelay (k : Nat) : Nat := ((hbStages.map (·.taps)).getD (k - 1) 1 - 1) / 2 * hbPeriod (k - 1)

/-- Group delay to the framer input in quarters of a Tc: 2 Tc for converter and crossing, the half-band stages up to FIR_SRC, the
filter's 31.5 input samples, and in combined reception 16 Tc (R121, R207). -/
def latQuarters (firSrc : Nat) (comb : Bool) : Nat :=
  if firSrc = 0 ∨ 5 < firSrc then 0
  else 8 + ((List.range firSrc).map fun k => hbDelay (k + 1)).foldl (· + ·) 0 + 63 * hbPeriod firSrc / 2 + if comb then 64 else 0

/-- The group delay of a channel to its framer, in quarters of a Tc (R121, R207). -/
def Dev.rxLat (d : Dev) (n : Nat) : Nat := latQuarters (d.fld F.CH_RX_CTL_FIR_SRC n) (d.combNow n)

/-- The air CRC of a technology, as sent (R159). -/
def airCrc (tech : Tech) (l : List Byte) : List Byte :=
  match tech with
  | .nfcA => crcA l
  | .nfcF => crcF l
  | _ => crcB l

/-- A frame with its air CRC appended. -/
def withCrc (tech : Tech) (l : List Byte) : List Byte := l ++ airCrc tech l

end Sys2Proof.Machine
end

