-- ==== Sys2Proof/Machine/Admission.lean ====
section
/-! DEFINITION. Declared lengths and the admission of transactions (R63, R67, R71, R92, R193, R194, R233 to R236, R334, R343 to
R350, R428). -/

namespace Sys2Proof.Machine

/-! ### Declared length (R235) -/

/-- Microseconds in Tc, rounded up. -/
def usTc (us : Nat) : Nat := (us * 1356 + 99) / 100

/-- FIR_SRC that a rate will receive through (R118, R119). -/
def Dev.srcFor (d : Dev) (n : Nat) (tech : Tech) (rate : Nat) : Nat :=
  if d.on F.CH_RX_CTL_STD n then (stdSetting tech rate).1 else d.fld F.CH_RX_CTL_FIR_SRC n

/-- The spacing before a device frame of a planned transaction (R235, R238, R240). -/
def Dev.planGap (d : Dev) (n : Nat) (tech : Tech) (rx : Nat) (comb : Bool) : Nat :=
  12 + max (d.guardField (pavOf n) tech rx) (guardMin (d.srcFor n tech rx) comb)

/-- One planned frame of len bytes with its spacing, its window and its longest answer (R235); a request with the option flag has its
end-of-frame request beside it (R242). -/
def Dev.planFrame (d : Dev) (n : Nat) (comb : Bool) (tech : Tech) (tx rx len : Nat) (use : FrameUse) (fwi slot rxLen : Nat) : Nat :=
  d.planGap n tech rx comb + (d.modSet n).frameTc tech tx (List.replicate len 0) 0 +
    (if use = .t5Write then d.planGap n tech rx comb + (d.modSet n).frameTc tech tx [] 0 else 0) +
    (d.window (pavOf n) use tech fwi slot).2 + tagFrameTc tech rx rxLen

/-- Ramps of the leader and the field guard (R235). -/
def Dev.planBase (d : Dev) (n : Nat) : Nat :=
  d.fld F.CH_RAMP_UP n + d.fld F.CH_RAMP_DOWN n + usTc (d.fld F.PAV_SEQ_FIELD_GT_US (pavOf n))

/-- The blocks and host steps of a script (R235, R266, R271): each APDU in the blocks of the smallest frame size, since the tag's is not
known (log entry 17). -/
def Dev.planScript (d : Dev) (n : Nat) (comb : Bool) (k : PStep) (g : Prog) (l : List SStep) : Nat :=
  let room := if k.cidEn then 12 else 13
  l.foldl (fun a x => a + (if x.host then d.fld F.PAV_SEQ_HOST_WAIT (pavOf n) * tcMs else 0) +
    ((if x.host then 261 else x.apdu.length) + room - 1) / room * d.planFrame n comb k.tech 0 0 16 .iBlock g.declFwi 0 g.rxMax) 0

/-- Activation, action and deselection of one tag (R235, R262). -/
def Dev.planAction (d : Dev) (n : Nat) (comb : Bool) (g : Prog) (k : PStep) : Nat :=
  let f (len : Nat) (use : FrameUse) : Nat := d.planFrame n comb k.tech 0 0 len use g.declFwi 0 g.rxMax
  (if k.action = 0 then 0 else if k.tech = .nfcA then f 4 .rats + f 5 .pps else f 11 .attrib) +
    (if k.action = 2 then
      d.planScript n comb k g (tblGet (d.pav (pavOf n)).scripts k.script []) else 0) +
    (if k.action ≠ 0 ∧ (k.deselect ∨ k.halt) then f 4 .sDeselect else 0) +
    (if k.halt then (if k.tech = .typeB then f 7 .hltB else f 4 .hlta) else 0)

/-- The longest identification that a step's limits permit, with its actions (R235; log entry 17). -/
def Dev.planStep (d : Dev) (n : Nat) (g : Prog) (k : PStep) : Nat :=
  let comb := d.combined (arbOf n) (if g.fgEn then some g.fg else none)
  let f (len : Nat) (use : FrameUse) (slot : Nat) : Nat := d.planFrame n comb k.tech 0 0 len use g.declFwi slot g.rxMax
  match k.tech with
  | .nfcA =>
    g.maxTags * (f 1 .reqA 0 + g.iter * f 7 .anticoll 0 + 3 * f 9 .select 0 + d.planAction n comb g k) + f 1 .reqA 0
  | .typeB => (2 ^ (k.p1 % 8 + 1) - 1) * f 5 .reqB 0 + g.maxTags * d.planAction n comb g k
  | .nfcF =>
    ((([0, 1, 3, 7, 15].filter (k.tsn ≤ ·)).map fun t => d.planFrame n comb .nfcF k.txMax k.txMax 8 .sensf 0 t g.rxMax).foldl (· + ·) 0)
  | .nfcV =>
    let slots := if bitAt k.p1 0 then 1 else 16
    let v (len : Nat) (use : FrameUse) : Nat := d.planFrame n comb .nfcV (bits k.p1 3 1) (bits k.p1 2 1) len use 0 0 g.rxMax
    (1 + g.maxTags) * slots * v 14 .inventory + g.maxTags * (if k.halt then v 12 .stayQuiet else 0)

/-- The frames of a tag operation: identification, activation and its commands (R235, R270; log entry 17). -/
def Dev.planTagOp (d : Dev) (n : Nat) (q : QDesc) : Nat :=
  let op := byteAt q.d.param 0
  let count := leAt q.d.param 6 2
  let f (len : Nat) (use : FrameUse) (rx : Nat) : Nat := d.planFrame n false .nfcA 0 0 len use 4 0 rx
  let ident := f 1 .reqA 3 + 32 * f 7 .anticoll 5 + 3 * f 9 .select 3
  let v (len : Nat) (use : FrameUse) (rx : Nat) : Nat := d.planFrame n false .nfcV 0 0 len use 0 0 rx
  match op with
  | 0 => ident + ((count + 3) / 4) * f 4 .t2Read 18
  | 1 => ident + count * f 8 .t2Write 1
  | 2 => ident + f 4 .rats 20 + f 5 .pps 3 + (4 + 8192 / 15 + 1) * f 21 .iBlock 259
  | 3 => count * v 14 .t5Read 261
  | _ => count * v 45 .t5Write 4

/-- The end-of-frame request of an EXCHANGE with the option flag, with its spacing (R242). -/
def Dev.eofTc (d : Dev) (n : Nat) (f : AirFrame) (t : Txn) : Nat :=
  if f.optEof then d.planGap n f.tech f.rxRate (d.combined (arbOf n) t.fg) + (d.modSet n).frameTc f.tech f.txRate [] 0 else 0

/-- D less the lead, in Tc, with the settings in force (R235, R408). -/
def Dev.declLen (d : Dev) (n : Nat) (t : Txn) : Nat :=
  match t.work with
  | .exchange =>
    let own := match t.frame with
      | some f => d.planBase n + d.planGap n f.tech f.rxRate (d.combined (arbOf n) t.fg) + (d.modSet n).frameTc f.tech f.txRate f.data f.lastBits + d.eofTc n f t +
          f.winClose +
          tagFrameTc f.tech f.rxRate (min 8192 f.rxMax)
      | none => d.planBase n
    match t.desc with
    | some q => max (usTc (leAt q.d.param 10 4) - d.leadTc (pavOf n)) own
    | none => own
  | .tagOp =>
    match t.desc with
    | some q => d.planBase n + d.planTagOp n q
    | none => d.planBase n
  | .cycle _ _ => d.planBase n + (t.prog.steps.map (d.planStep n t.prog)).foldl (· + ·) 0
  | .pilot => t.declTc
  | .cal => t.declTc

/-! ### The generation check (R333) -/

/-- SET_ROLE descriptors that are pending on a channel or wait ahead in its queue (R327). -/
def Dev.rolesAhead (d : Dev) (n : Nat) : Nat :=
  let c := d.ch n
  c.roleQ.length + (c.tq.run.toList.filter fun (x : QDesc) => x.d.op == 0x10).length +
    (c.tq.q.filter fun (x : QDesc) => x.d.op == 0x10).length

/-- A descriptor passes the generation check: against its session when it names one, else against its channel, where a SET_ROLE
must carry the generation that `ahead` earlier ones produce. Targets other than channels always pass (R327, R333; log entry 25). -/
def Dev.genOk (d : Dev) (q : Desc) (ahead : Nat := 0) : Bool :=
  if q.target < 192 then
    if q.session = 0x1FF then q.gen == ((d.ch q.target).gen + (if q.op = 0x10 then ahead else 0)) % 256
    else
      let x := d.ses q.session
      decide (q.session < 384) && decide (x.kind ≠ .free) && x.chan == q.target && x.gen % 256 == q.gen
  else true

/-! ### What a transaction drives -/

/-- The coils that must have a transaction's permissions, with their effective levels (R66, R195, R197). -/
def Dev.planLent (d : Dev) (n : Nat) (t : Txn) : List Driven :=
  let l := d.level n t.level
  match t.fg with
  | some g => d.groupLent (arbOf n) g l
  | none => [{ ch := n, lvl := l }]

/-- The coils that a transaction would drive (R70, R197). -/
def Dev.planDriven (d : Dev) (n : Nat) (t : Txn) : List Driven := drivenOf (d.planLent n t)

/-- Free transaction-class entries that a transaction needs before it asks (R428). -/
def Txn.need (t : Txn) : Nat :=
  match t.work with
  | .exchange => 3
  | .tagOp => 3
  | .cycle _ _ => 11 + 3 * t.prog.maxTags
  | .pilot => 0
  | .cal => 0

/-- Channels whose coil or tap a transaction uses: the channel, and its group's members (R194, R233). -/
def Dev.useChans (d : Dev) (n : Nat) (t : Txn) : List Nat :=
  match t.fg with
  | some g => (n :: (d.members (arbOf n) g).map (8 * arbOf n + ·)).eraseDups
  | none => [n]

/-- A calibration waits for a channel and holds back its admissions (R336). -/
def Dev.calWaits (d : Dev) (n : Nat) : Bool := d.cal.runs.any fun (r : CalRun) => !r.started && r.chans.contains n

/-- The pavilion can run transactions: it is ACTIVE with no change pending (R580 to R584), its sequencer runs and is neither
halted nor dead (R287, R518, R573), and the device is RUNNING outside the safe state (R493, R569). -/
def Dev.pavRuns (d : Dev) (p : Nat) : Bool :=
  let x := d.pav p
  d.pwr.boot == .running && x.state == .active && x.change.isNone && d.on F.PAV_SEQ_CTL_EN p && !x.dead && !x.haltAsk &&
    !d.pwr.safe && !d.pwr.extest

/-- A SET_ROLE waits on a channel that has no other descriptor started: it takes effect before the channel's next cycle (R326). -/
def Dev.roleNext (d : Dev) (n : Nat) : Bool :=
  (d.ch n).tq.run.isNone && (d.ch n).tq.q.head?.any (fun (q : QDesc) => q.d.op == 0x10)

/-- A cycle of a program waits while a detected channel's first cycle is open (R286). -/
def Dev.firstRuns (d : Dev) (n : Nat) (t : Txn) : Bool :=
  let l := (d.pav (pavOf n)).first
  (match t.work with
   | .cycle _ false => true
   | _ => false) && !l.contains n && l.any fun m => (d.ch m).cycleOpen && (d.ch m).prog.isSome

/-- The sequencer asks for admission of a waiting transaction at all (R286, R326, R336, R428). -/
def Dev.asks (d : Dev) (n : Nat) (t : Txn) : Bool :=
  if t.work = .cal then d.pavRuns (pavOf n)
  else
    d.pavRuns (pavOf n) && (d.useChans n t).all (fun k => !d.calWaits k && !(d.ch k).borrowed && (d.ch k).roleQ.isEmpty && !d.roleNext k) &&
      decide (t.need ≤ d.outFree n) && (d.ch n).dataWait.isEmpty && (d.ch n).outq.waiting.isEmpty && !d.firstRuns n t

/-- A condition of R18 outside the four permissions that makes a transaction wait, shown as CAUSE bit 13: chain B causes that
wait, CH_TX_CTL.EN, a member busy, a listener's exclusion, a priority probe, an overdue self-test (R38, R92, R185, R194, R292, R574). -/
def Dev.otherWait (d : Dev) (n : Nat) (t : Txn) (driven : List Driven) : Bool :=
  (d.pav (pavOf n)).dip || !d.synActive || d.testWaits n || (driven.any fun k => !d.on F.CH_TX_CTL_EN k.ch) || !d.on F.CH_TX_CTL_EN n ||
    ((d.useChans n t).any fun k => k != n && d.engaged k) || ((d.ch n).fieldOf.isSome) ||
    ((arbChans (arbOf n)).any fun k => k != n && (d.ch k).role == .listen && (d.ch k).lsn.field &&
      d.on F.CH_LSN_CTL_ARB_EXCL k) ||
    ((arbChans (arbOf n)).any fun m => m != n && (match (d.ch m).txn with
      | some u => u.phase != .waiting && u.fg.isSome && (d.useChans m u).contains n
      | none => false))

/-! ### The checks in order (R344) -/

/-- What refuses a transaction at an attempt, before the permissions: its descriptor's generation and deadline, level, supply,
isolation, chain B, its group, and the steps 1 and 2 of R344. With STD = 1 a FIR_SRC of 0 refuses nothing, since the standard setting
that admission applies sets it (R114, R118; which comes first is the model's choice: log entry 60). -/
def Dev.refusal (d : Dev) (n : Nat) (t : Txn) : Option Status :=
  let p := pavOf n
  let stale : Bool := match t.desc with
    | some q => !d.genOk q.d
    | none => false
  let late : Bool := match t.desc with
    | some q => q.late d.now
    | none => false
  let uses := d.useChans n t
  if stale then some .staleRole
  else if late then some .late
  else if (d.ch n).role ≠ .poll ∧ t.work ≠ .pilot ∧ t.work ≠ .cal then some .badDescriptor
  else if d.fld F.CH_RX_CTL_FIR_SRC n = 0 ∧ !d.on F.CH_RX_CTL_STD n ∧ t.work ≠ .cal then some .badDescriptor
  else if d.level n t.level = 255 then some .badDescriptor
  else if d.fld F.PAV_VDRV_NOM p = 0 then some .notReady
  else if uses.any d.isolated then some .faultAbort
  else if uses.any (fun k => !d.enLock k) then some .limitRefused
  else if uses.any (fun k => d.on F.CH_LIM_STAT_TRIP k || d.on F.CH_FEN_STAT_CHAIN_FAULT k) then some .faultAbort
  else
    let g := match t.fg with
      | some g => d.groupCheck n g (d.level n t.level)
      | none => none
    match g with
    | some st => some st
    | none => d.neverAdmit n (d.planLent n t) (d.declLen n t)

/-- Whether an older transaction of the pavilion waits for the bucket alone (R350). -/
def Dev.olderWaits (d : Dev) (n : Nat) (t : Txn) : Bool :=
  (pavChans (pavOf n)).any fun m =>
    match (d.ch m).txn with
    | some u =>
      u.phase == .waiting && decide (u.order < t.order) && d.asks m u && (d.refusal m u).isNone &&
        (let len := d.declLen m u
         !d.otherWait m u (d.planDriven m u) && d.missing m (d.planLent m u) len == 8)
    | none => false

/-- The transaction is admitted (R343): its group is loaded, its levels, rates and declared length are fixed, its reservation is
made. -/
def Dev.admitNow (d : Dev) (n : Nat) (t : Txn) : Dev :=
  let dr := d.planDriven n t
  let len := d.declLen n t
  let d := match t.fg with
    | some g => d.groupLoad (arbOf n) g
    | none => d
  let d := if t.work = .cal then d else d.applyRate n t.tech t.rxRate
  let d := (d.modTxn n fun t => { t with declTc := len }).setFld F.CH_ADM_STAT_CAUSE n 0 0
  d.grantAdmission n dr len

/-- A transaction refused for its group's mode 2 setting marks the group (R201). -/
def Dev.markRefused (d : Dev) (n : Nat) (t : Txn) (st : Status) : Dev :=
  match t.fg with
  | some g => d.cond (st == .badDescriptor && (d.mode2Bad (arbOf n) g || d.mode2Thin (arbOf n) g (d.level n t.level))) fun d =>
      d.setOn F.ARB_FG_STAT_REFUSED (arbOf n) g true
  | none => d

/-- One attempt at admission of a channel's waiting transaction (R344, R349). -/
def Dev.tryAdmit (d : Dev) (n : Nat) : Dev :=
  match (d.ch n).txn with
  | none => d
  | some t =>
    if t.phase ≠ .waiting then d
    else if !d.asks n t then d
    else
      match d.refusal n t with
      | some st => ((d.markRefused n t st).setFld F.CH_ADM_STAT_CAUSE n 0 0).refuse n st
      | none =>
        let dr := d.planLent n t
        let len := d.declLen n t
        let other := d.otherWait n t (d.planDriven n t)
        let m := d.missing n dr len
        let m := if m = 0 ∧ d.olderWaits n t then 8 else m
        if !other && m == 0 then d.admitNow n t
        else d.setFld F.CH_ADM_STAT_CAUSE n 0 (m + 32 * b2n other)

/-- The waiting transactions of a pavilion in the order in which they began to wait (R350). -/
def Dev.waitOrder (d : Dev) (p : Nat) : List Nat :=
  sortPairs ((pavChans p).filterMap fun n =>
    match (d.ch n).txn with
    | some t => if t.phase = .waiting then some (t.order, n) else none
    | none => none)

/-- The permissions of an admitted transaction still hold (R345 to R348, R372): its own reservation does not stand against it. -/
def Dev.permits (d : Dev) (n : Nat) (t : Txn) : Bool :=
  let lent := if t.fg.isSome then d.planLent n t else t.driven
  d.gntOk (pavOf n) && d.gateOk (arbOf n) t.declTc && (lent.all fun k => d.creditOk k.ch && d.dutyOk k.ch t.declTc) &&
    decide ((t.eRsv : Int) ≤ d.tokensNow (pavOf n) - (((d.pav (pavOf n)).rsv : Int) - (t.eRsv : Int)))

/-- A pilot probe's field may come up (R90 to R92, R183): chain B and what a field needs beside the four permissions. -/
def Dev.probeCan (d : Dev) (n : Nat) : Bool :=
  d.pavRuns (pavOf n) && d.synActive && !(d.pav (pavOf n)).dip && d.fld F.PAV_VDRV_NOM (pavOf n) != 0 && d.on F.CH_TX_CTL_EN n &&
    !d.isolated n && d.enLock n && !d.on F.CH_LIM_STAT_TRIP n && !d.on F.CH_FEN_STAT_CHAIN_FAULT n && !d.calWaits n

/-- The length of a pilot probe in Tc (R180). -/
def probeTc : Nat := 64

/-- Units from now to the start of the first probe of an arbour's batch that is not up yet, and the place that a probe has in it (R184). -/
def Dev.probeTurn (d : Dev) (n : Nat) : Nat :=
  let l := (d.arb (arbOf n)).pilot
  let k := l.findIdx fun x => x == n % 8
  match l.head?.bind fun h => (d.ch (8 * arbOf n + h)).txn with
  | some t => if t.phase = .up then t.tUp + probeTc * k - d.tc else d.leadLeft (pavOf n) + probeTc * k
  | none => d.leadLeft (pavOf n) + probeTc * k

/-- The conditions of an admitted pilot probe that is not up yet still hold (R18, R372): its field interval, in its turn of the batch, lies in
the open span, and its own reservation does not stand against it. -/
def Dev.probeHolds (d : Dev) (n : Nat) (t : Txn) : Bool :=
  let a := arbOf n
  d.probeCan n && d.gntOk (pavOf n) && fits (d.gateRemain (a / 4) (a % 4) (25000 * d.probeTurn n)) (25000 * probeTc) &&
    d.creditOk n && d.dutyOk n probeTc &&
    decide ((t.eRsv : Int) ≤ d.tokensNow (pavOf n) - (((d.pav (pavOf n)).rsv : Int) - (t.eRsv : Int)))

/-- An admitted transaction whose conditions no longer hold before its field start: it returns to waiting, or completes (R63,
R372). -/
def Dev.recheck (d : Dev) (n : Nat) : Dev :=
  match (d.ch n).txn with
  | none => d
  | some t =>
    if t.phase ≠ .admitted then d
    else if t.work = .pilot then (if d.probeHolds n t then d else d.dropProbe n)
    else
      let uses := d.useChans n t
      if d.fld F.PAV_VDRV_NOM (pavOf n) = 0 then d.refuse n .notReady
      else if uses.any d.isolated then d.refuse n .faultAbort
      else if uses.any (fun k => !d.enLock k) then d.refuse n .limitRefused
      else if uses.any (fun k => d.on F.CH_LIM_STAT_TRIP k || d.on F.CH_FEN_STAT_CHAIN_FAULT k) then d.refuse n .faultAbort
      else if (d.pav (pavOf n)).dip || !d.synActive || t.driven.any (fun k => !d.on F.CH_TX_CTL_EN k.ch) || !d.permits n t then
        d.backToWait n
      else d

/-- The admitted transactions of a pavilion are judged again (R372), and every waiting one is tried again (R349). -/
def Dev.retry (d : Dev) (p : Nat) : Dev :=
  let d := d.each (pavChans p) Dev.recheck
  d.each (d.waitOrder p) Dev.tryAdmit

/-- Every transaction of the device that has no field yet is judged again (R349, R372). -/
def Dev.retryAll (d : Dev) : Dev := (List.range 6).foldl Dev.retry d

/-! ### Fields of the calibration engine (R522, R528, R529, R535, R538; log entry 30) -/

/-- L_lim: the lowest level number whose predicted power lies at least 1 dB below CH_PWR_LIM (R529). -/
def Dev.levelLim (d : Dev) (n : Nat) : Nat :=
  ((List.range 255).find? fun l =>
    decide (d.fld F.CH_FIELD_MAX_PWR n ^ 40 * 10 ^ 4 ≤ d.fld F.CH_PWR_LIM_MW n ^ 40 * 10 ^ l)).getD 254

/-- The fields of the channel procedure: level and length in Tc; step 4 is place 19 and step 6 place 21 (R528). -/
def Dev.calSteps (d : Dev) (n : Nat) : List (Nat × Nat) :=
  let l := d.levelLim n
  List.replicate 15 (80, 452) ++ [(l, 2034), (l + 12, 2034), (l + 24, 2034), (l + 40, 2034), (l + 12, 2712), (l + 12, 6780),
    (max 20 l, 4068)]

/-- The fields of the coupling measurement on one coil (R535). -/
def Dev.calCoupling (d : Dev) (n : Nat) : List (Nat × Nat) :=
  if d.enLock n then [(max 48 (d.levelLim n), 2034), (max 48 (d.levelLim n), 2712)] else []

/-- The fields that a procedure raises on a channel, in order. Levels that the manual does not state are free. -/
def Dev.calFields (d : Dev) (r : CalRun) (n : Nat) : List (Nat × Nat) × Dev :=
  match r.kind with
  | 0 => (d.calSteps n ++ d.calCoupling n, d)
  | 6 => (d.calSteps n, d)
  | 7 => (d.calCoupling n, d)
  | _ =>
    let (a, d) := d.free
    let (b, d) := d.free
    let (c, d) := d.free
    ([(a % 255, 9040), (b % 255, 9040), (c % 255, 9040)] ++ (if d.on F.CAL_REF_CTL_COUPON then [(20, 27120)] else []), d)

/-- How many fields a procedure raises on a channel. -/
def Dev.calCount (d : Dev) (r : CalRun) (n : Nat) : Nat := (d.calFields r n).1.length

/-- A procedure has raised every field of a channel. -/
def Dev.calRaised (d : Dev) (r : CalRun) (n : Nat) : Bool := decide (d.calCount r n ≤ (tblGet r.fields n (0, 0)).1)

/-- A channel has ended the first k fields of a procedure, or all it has. -/
def Dev.calEnded (d : Dev) (r : CalRun) (k n : Nat) : Bool :=
  decide (min k (d.calCount r n) ≤ (tblGet r.fields n (0, 0)).1) && (d.ch n).txn.isNone

/-- A channel's next field has its turn: start-up takes the channels whose number modulo 16 is i in phase i, then the even arbours, then
the odd ones (R533); a coupling measurement drives one coil at a time, then the even coils of the pairs together, then the odd ones
(R535). -/
def Dev.calTurn (d : Dev) (r : CalRun) (n : Nat) : Bool :=
  let k := (tblGet r.fields n (0, 0)).1
  let base := if r.kind = 0 then 22 else 0
  if r.kind ≠ 0 ∧ r.kind ≠ 7 then true
  else if k < base then r.chans.all fun m => decide (n % 16 ≤ m % 16) || d.calEnded r base m
  else
    let mine := r.chans.filter fun m => arbOf m == arbOf n
    r.chans.all (d.calEnded r base) && (arbOf n % 2 == 0 || r.chans.all fun m => arbOf m % 2 == 1 || d.calEnded r (base + 2) m) &&
      (if k = base then mine.all fun m => decide (n ≤ m) || d.calEnded r (base + 1) m
       else mine.all fun m => d.calEnded r (base + 1 + (if n % 2 = 1 ∧ m % 2 = 0 then 1 else 0)) m ||
         n % 2 == m % 2 && decide (base + 2 ≤ (tblGet r.fields m (0, 0)).1))

/-- The next field of a procedure on a borrowed channel starts to wait for admission, when its turn comes (R522, R533, R535). -/
def Dev.calNext (d : Dev) (n : Nat) : Dev :=
  match d.calOf n with
  | none => d
  | some r =>
    let k := tblGet r.fields n (0, 0)
    if (d.ch n).txn.isSome || !d.calTurn r n then d
    else
      let (l, d) := d.calFields r n
      match l[k.1]? with
      | none => d
      | some x =>
        let d := { d with cal := { d.cal with runs := d.cal.runs.map fun (y : CalRun) =>
          if y.kind = r.kind ∧ y.unit = r.unit then { y with fields := tblPut y.fields n (k.1 + 1, k.2) } else y } }
        d.startWait n { work := .cal, level := min 254 x.1, declTc := x.2, finished := true }

/-! ### Meanings -/

/-- TRANSACTION_ADMISSION (R344, R349, R522): on a borrowed channel, of its procedure's next field. -/
def execTransactionAdmission (ch : Fin 192) (s : State) : Host.Outcome State Fault Refusal :=
  onDev (fun _ d => (d.calNext ch).tryAdmit ch) s

end Sys2Proof.Machine
end

