-- ==== Sys2Proof/Machine/Clock.lean ====
section
/-! DEFINITION. Network time: the tick, TIME_LOCK, loads and the PPS discipline (R51 to R60), and the gate timelines' change of
clock with lock (R365 to R368). -/

namespace Sys2Proof.Machine

/-- A closing of network time as an instant of the carrier count, which a step of network time does not move (R721). -/
def Dev.toCarrier (d : Dev) : Closing → Closing
  | .net u => .car (d.carU + (u - d.netU))
  | c => c

/-- Lock is lost in a pavilion that runs its operational list: its first fallback period starts at the end of the entry in
progress, and running fields keep their closings (R367, R721). -/
def Dev.gateUnlock (d : Dev) (p : Nat) : Dev :=
  let g := (d.pav p).gate
  match g.mode, g.oper with
  | .oper, some l =>
    let (m, left) := l.entryAt d.now
    let d := d.modPav p fun x => { x with gate := { d.loadFb p (d.tc + (left * 339 + 24999) / 25000) g with
      mode := .fallback, lostEnd := some m, lostPri := l.priAt d.now } }
    d.each (pavChans p) fun d n => d.modTxn n fun t => { t with closing := d.toCarrier t.closing }
  | _, _ => d

/-- TIME_LOCK takes a value: a change posts TIME_LOCK_CHANGE (R60) and acts on the gates (R367); under the new timeline transactions are
tried and judged again (R349, R372). -/
def Dev.setLock (d : Dev) (b : Bool) : Dev :=
  if d.locked = b then d
  else
    let d := d.setOn F.TIME_STAT_LOCK 0 0 b
    let d := d.event .timeLockChange 0x3FF
      (toLe 1 (b2n b) ++ toLe 1 (d.fld F.TIME_CTL_SOURCE) ++ toLe 2 0 ++ toLe 4 (d.rd .TIME_PPS_OFS))
    (if b then d else (List.range 6).foldl Dev.gateUnlock d).retryAll

/-- Network time takes a value in ns in one step (R53, R56). -/
def Dev.setTime (d : Dev) (ns : Nat) : Dev :=
  { d with time := { d.time with net := ns * nsUnit, slewPer := 0 } }

/-- A step of network time: the gates leave the operational list before it (R367), lock clears (R57), head descriptors are judged again
(R403), and transactions too (R349, R372). -/
def Dev.stepTime (d : Dev) (ns : Nat) : Dev :=
  ((((d.cond d.locked fun d => (List.range 6).foldl Dev.gateUnlock d).setTime ns).setLock false).expireAll).retryAll

/-- The slew of an offset in ns over the following second (R56). -/
def Dev.slew (d : Dev) (ofs : Int) : Dev :=
  { d with time := { d.time with slewRun := 0, slewPer := -(ofs * 25000000) } }

/-- Network time runs on to the next 1 MHz tick (R52, R53). -/
def Dev.toTick (d : Dev) : Dev := d.runGap (1000 * nsUnit - d.time.net % (1000 * nsUnit))

/-- A load of TIME_SET (R53): it acts at the next 1 MHz tick, to which the clock runs on within the write (log entry 42). -/
def Dev.timeLoad (d : Dev) : Dev :=
  let d := d.toTick
  let ns := d.rd .TIME_SET_NS + (d.rd .TIME_SET_SL + 2 ^ 32 * d.fld F.TIME_SET_SH_SEC) * 10 ^ 9
  (d.setOn F.TIME_CTL_HOST_LOCK 0 0 false).stepTime ns

/-- The source is free-run (R51). -/
def Dev.freeRun (d : Dev) : Bool := d.fld F.TIME_CTL_SOURCE == 0 || d.fld F.TIME_CTL_SOURCE == 3

/-- TIME_LOCK follows HOST_LOCK while the source is free-run (R51), but on the slow clock (R59; log entry 58). -/
def Dev.hostLock (d : Dev) : Dev :=
  if d.freeRun then d.setLock (d.on F.TIME_CTL_HOST_LOCK && !d.on F.TIME_STAT_CLOCK_SRC) else d

/-- SOURCE has changed: the next edge is the first (R56), and no holdover goes on (log entry 58). -/
def Dev.sourceChanged (d : Dev) : Dev :=
  { d.setOn F.TIME_STAT_HOLDOVER 0 0 false with time := { d.time with firstEdge := true } }

/-- An offset is stepped out: the first after SOURCE is set, or beyond 1 ms (R56). -/
def Dev.stepDue (d : Dev) (ofs : Int) : Bool := d.time.firstEdge || decide (10 ^ 6 < ofs.natAbs)

/-- The correction that an edge or a TIME message with offset `ofs` ns brings: a step beyond 1 ms or at the first, else a slew
and one-eighth into TIME_RATE (R56). -/
def Dev.correct (d : Dev) (ofs : Int) : Dev :=
  let step := d.stepDue ofs
  let d := { d with time := { d.time with firstEdge := false } }
  if step then d.stepTime ((d.nowFull : Int) - ofs).toNat
  else
    -- a rate beyond 32 bits saturates: the model's choice (log entry 58)
    let r := clampInt (-(2 ^ 31)) (2 ^ 31 - 1) (d.fldI F.TIME_RATE_RATE + ofs * 125)
    (d.wr .TIME_RATE 0 0 (ofInt 32 r)).slew ofs

/-- The lock rule of an offset (R57); `may`: neither a step (R57) nor the sender (R673) stands against lock. Only an edge restarts
the count of edges: a missed edge, the end of holdover, a load or a change of SOURCE leaves it (the model's choice: log entry
58). -/
def Dev.judgeLock (d : Dev) (ofs : Int) (may : Bool := true) : Dev :=
  let good := if ofs.natAbs ≤ 250 then sat 4 (d.fld F.TIME_STAT_GOOD_EDGES + 1) else 0
  let d := d.setFld F.TIME_STAT_GOOD_EDGES 0 0 good
  if 1000 < ofs.natAbs then d.setLock false
  else if good = 4 ∧ may then d.setLock true else d

/-- POWER of lock with the slow clock: holdover on it clears TIME_LOCK at once (R59). -/
def Dev.slowClock (d : Dev) : Dev := (d.setOn F.TIME_STAT_CLOCK_SRC 0 0 true).setLock false

/-! ### Meanings -/

/-- TIME_LOAD (R53). -/
def execTimeLoad (s : State) : Host.Outcome State Fault Refusal := onDev (fun _ d => d.timeLoad) s

/-- The seconds latched for a path by a read of TIME_NOW_NS, and the read itself (R54, R693). -/
def Dev.readNowNs (d : Dev) (ksk : Bool) : Nat × Dev :=
  let sec := d.nowFull / 10 ^ 9
  (d.nowFull % 10 ^ 9,
   { d with time := if ksk then { d.time with secKsk := sec } else { d.time with secPci := sec } })

/-- TIME_NOW_NS_READ (R54). -/
def execTimeNowNsRead (kiosk : Bool) (s : State) : Host.Outcome State Fault Refusal :=
  onDev (fun _ d => (d.readNowNs kiosk).2.emit (.readData kiosk (d.readNowNs kiosk).1)) s

/-- A write of TIME_NEXT_SL marks the seconds of the coming edge as written (R691). -/
def Dev.writeNextSl (d : Dev) (v : Nat) : Dev :=
  let d := d.wr .TIME_NEXT_SL 0 0 v
  { d with time := { d.time with nextWritten := true } }

/-- TIME_NEXT_SL_WRITE (R691). -/
def execTimeNextSlWrite (v : Word) (s : State) : Host.Outcome State Fault Refusal :=
  onDev (fun _ d => d.writeNextSl v.toNat) s

/-- The seconds that a PPS edge stands for (R55, R691). With none ever written, the first edge counts from second 0 (the model's
choice: log entry 58). -/
def Dev.edgeSec (d : Dev) : Nat :=
  if d.time.nextWritten then d.rd .TIME_NEXT_SL + 2 ^ 32 * d.fld F.TIME_NEXT_SH_SEC else d.time.prevSec + 1

/-- Time enters holdover, which is counted from its start; with nothing to hold on to, lock ends at once (R58, R59, R674). -/
def Dev.enterHoldover (d : Dev) : Dev :=
  let d := d.cond (!d.on F.TIME_STAT_HOLDOVER) fun d => { d with time := { d.time with holdAt := d.nowFull } }
  let d := d.setOn F.TIME_STAT_HOLDOVER 0 0 true
  if d.fld F.TIME_CTL_HOLDOVER_MAX = 0 ∨ d.on F.TIME_STAT_CLOCK_SRC then d.setLock false else d

/-- An active TIME_PPS edge with SOURCE = 1, at a sample of the present carrier cycle: the offset is recorded, lock is judged, and time corrected (R55 to R57). It ends
holdover whatever its offset (the model's choice above 1 µs: log entry 58). -/
def Dev.ppsEdge (d : Dev) (q : Fin 4) : Dev :=
  if d.fld F.TIME_CTL_SOURCE = 1 then
    let sec := d.edgeSec
    let ofs : Int := (d.timeFull (4 * d.time.tc + q) : Int) - (sec * 10 ^ 9 : Nat)
    let d := d.wr .TIME_PPS_OFS 0 0 (ofInt 32 (clampInt (-(2 ^ 31)) (2 ^ 31 - 1) ofs))
    let d := { d with time := { d.time with nextWritten := false, prevSec := sec } }
    let d := d.setOn F.TIME_STAT_HOLDOVER 0 0 false
    (d.judgeLock ofs (!d.stepDue ofs)).correct ofs
  else d

/-- PPS_MISSING (R58): 100 µs after the expected second. -/
def execPpsMissing (s : State) : Host.Outcome State Fault Refusal :=
  onDev (fun _ d =>
    if d.fld F.TIME_CTL_SOURCE = 1 then
      ((d.runGap ((d.edgeSec * 10 ^ 9 + 100000) * nsUnit - d.time.net)).setOn F.TIME_STAT_PPS_MISSING 0 0 true).enterHoldover
    else d) s

/-- HOLDOVER_EXPIRY (R58): TIME_CTL.HOLDOVER_MAX seconds after the missed edge. -/
def execHoldoverExpiry (s : State) : Host.Outcome State Fault Refusal :=
  onDev (fun _ d =>
    if d.on F.TIME_STAT_HOLDOVER && !d.freeRun then
      (d.runGap ((d.time.holdAt + d.fld F.TIME_CTL_HOLDOVER_MAX * 10 ^ 9) * nsUnit - d.time.net)).setLock false
    else d) s

end Sys2Proof.Machine
end

