-- ==== Sys2Proof/Machine/Demod.lean ====
section
/-! DEFINITION. The demodulator and the framer: bit decisions and collisions, bytes and their parity, character frames, and the reader's
pauses (R141 to R148, R157, R161 to R166). Bit patterns that the manual leaves to the technologies' standards: log entry 61. -/

namespace Sys2Proof.Machine

/-- One decoded frame (R162, R163): bytes in order of reception, and what was seen in them. -/
structure RxFrame where
  data      : List Byte := []
  /-- Valid bits of the last byte; 0 means 8. -/
  lastBits  : Nat := 0
  /-- Bit position of the first parity error, if any (R161). -/
  parityErr : Option Nat := none
  /-- Bit position of an NFC-A byte without its parity bit, if any (R173). -/
  noParity  : Option Nat := none
  /-- Bit position of the first coding violation that is not a collision, if any. -/
  coding    : Option Nat := none
  /-- The subcarrier stopped without a valid end of frame (R157). -/
  noEof     : Bool := false
  /-- Bit position of the first extra guard time beyond 2 E, if any (R147). -/
  egt       : Option Nat := none
  /-- Collided bit periods, and the first collided data bit (R165). -/
  collCount : Nat := 0
  collPos   : Option Nat := none
deriving DecidableEq, Repr

/-- What the framer decodes a frame with. -/
structure RxSet where
  tech   : Tech := .nfcA
  rate   : Nat := 0
  dual   : Bool := false
  /-- CH_DEM_CTL.COLL_THR, 1/256 (R164), and SOF_THR, dB (R155, R157). -/
  thr    : Nat := 64
  sofThr : Nat := 8
  /-- The noise floor (R155). -/
  floor  : Nat := 0
  /-- BPSK: the phase reference and the start of frame's logic 0 (R142). -/
  ref    : Cx := {}
  zero   : Cx := {}
  /-- NFC-F: reversed polarity (R143). -/
  rev    : Bool := false
  /-- RX_ALIGN, and the device's own bits below it (R163). -/
  align  : Nat := 0
  sent   : Nat := 0
  /-- Bit periods that a capture step marks as collisions (R172). -/
  marks  : List Nat := []
deriving DecidableEq, Repr

/-- One bit as decided, and whether it collided. -/
structure RxBit where
  v    : Bool := false
  coll : Bool := false
deriving DecidableEq, Repr

/-! ### Thresholds and bits (R143, R155, R157, R164, R165) -/

/-- An energy exceeds a floor by some dB (R155, R157). -/
def aboveDb (db floor e : Nat) : Bool := decide (floor ^ 10 * 10 ^ db < e ^ 10)

/-- Energy of one correlation. -/
def energyOf (x : Int × Int) : Nat := (Cx.mk x.1 x.2).norm

/-- A coding without halves: BPSK (R141). -/
def isBpsk (tech : Tech) (rate : Nat) : Bool := tech == .typeB || (tech == .nfcA && decide (1 ≤ rate))

/-- The weaker of two amplitudes is at or above the threshold times the stronger, from their squares (R164). -/
def nearlyEqual (thr x y : Nat) : Bool := decide (thr ^ 2 * max x y ≤ 65536 * min x y)

/-- A BPSK bit (R142, R164, R165): its value by the nearer phasor, 1 where neither is nearer; it collides where it differs from the
reference in magnitude, or stands in quadrature to it, by the threshold. -/
def bpskBit (s : RxSet) (p : Cx) : RxBit :=
  let c := p.mul s.ref.conj
  let side : Int := if (s.zero.mul s.ref.conj).re < 0 then c.re else -c.re
  let r := s.ref.norm
  { v := decide (0 ≤ side)
    coll := decide ((256 + s.thr) ^ 2 * r ≤ 65536 * p.norm) || decide (65536 * p.norm ≤ (256 - s.thr) ^ 2 * r) ||
      decide (s.thr ^ 2 * r ^ 2 ≤ 65536 * c.im.natAbs ^ 2) }

/-- One bit period decided (R141, R164, R165): the stronger half's value, 1 where neither is stronger. NFC-A sends 1 with its first
half modulated; NFC-V, and NFC-F in normal polarity, with its second (log entry 61). -/
def symBit (s : RxSet) (x : Sym) : RxBit :=
  let a := energyOf x.a
  let b := energyOf x.b
  if isBpsk s.tech s.rate then bpskBit s ⟨x.a.1, x.a.2⟩
  else match s.tech with
    | .nfcV =>
      if s.dual then
        let p := energyOf x.a28
        let q := energyOf x.b28
        { v := decide (a + q ≤ b + p)
          coll := decide (s.thr * max a p ≤ 256 * min a p) || decide (s.thr * max b q ≤ 256 * min b q) }
      else { v := decide (a ≤ b), coll := nearlyEqual s.thr a b }
    | .nfcF => { v := if s.rev then decide (b ≤ a) else decide (a ≤ b), coll := nearlyEqual s.thr a b }
    | _ => { v := decide (b ≤ a), coll := nearlyEqual s.thr a b }

/-- A half-bit is modulated: above the floor by SOF_THR; with dual subcarrier, at fc/32 rather than fc/28 (R147, R157). -/
def halfOn (s : RxSet) (x x28 : Int × Int) : Bool :=
  if s.dual then decide (energyOf x28 < energyOf x) else aboveDb s.sofThr s.floor (energyOf x)

/-- The halves of a bit period that are modulated. -/
def halvesOn (s : RxSet) (x : Sym) : Bool × Bool := (halfOn s x.a x.a28, halfOn s x.b x.b28)

/-- A bit period without modulation ends an NFC-A frame at 106 kbit/s, and stops an NFC-F or single-subcarrier NFC-V signal
(R148, R157). -/
def symQuiet (s : RxSet) (x : Sym) : Bool := !s.dual && !isBpsk s.tech s.rate && halvesOn s x == (false, false)

/-- The tag's NFC-V end of frame, in halves (R147): logic 0, three halves of subcarrier, three without. -/
def eofV : List (Bool × Bool) := [(true, false), (true, true), (true, false), (false, false)]

/-- The bit periods that carry data, and whether the end that the technology asks for follows them (R147, R157). -/
def dataSyms (s : RxSet) (l : List Sym) : List Sym × Bool :=
  if s.tech = .nfcV then
    let k := l.length - 4
    if 4 ≤ l.length ∧ (l.drop k).map (halvesOn s) = eofV then (l.take k, true) else (l.takeWhile fun x => !symQuiet s x, false)
  else (l.takeWhile fun x => !symQuiet s x, true)

/-- The bits of a run of bit periods, with the steps that mark collisions (R172). -/
def bitsOf (s : RxSet) (l : List Sym) : List RxBit :=
  l.zipIdx.map fun x => let b := symBit s x.1; { b with coll := b.coll || s.marks.contains x.2 }

/-! ### Bytes (R161 to R166) -/

/-- A frame as far as it is packed: finished bytes in the frame, the byte in progress and its bits so far. -/
structure Pack where
  f   : RxFrame := {}
  cur : Nat := 0
  cnt : Nat := 0
deriving DecidableEq, Repr

/-- The bit position of the next data bit (R166). -/
def Pack.pos (p : Pack) : Nat := 8 * p.f.data.length + p.cnt

/-- A bit period that is no data bit: a collision in it counts, and has no position (R165, R166). -/
def Pack.mark (p : Pack) (b : RxBit) : Pack := { p with f := { p.f with collCount := p.f.collCount + b2n b.coll } }

/-- A data bit: it goes to bit `cnt`, or with `msb` to the place that the first bit received at bit 7 gives it (R162). -/
def Pack.data (msb : Bool) (p : Pack) (b : RxBit) : Pack :=
  let p := { p with f := { p.f with collPos := if b.coll then p.f.collPos.or (some p.pos) else p.f.collPos } }
  { p.mark b with cur := if msb then 2 * p.cur + b2n b.v else p.cur + b2n b.v * 2 ^ p.cnt, cnt := p.cnt + 1 }

/-- The byte in progress is finished. -/
def Pack.byte (p : Pack) : Pack := { f := { p.f with data := p.f.data ++ toLe 1 p.cur } }

/-- A data bit that finishes its byte with its eighth. -/
def Pack.bit8 (msb : Bool) (p : Pack) (b : RxBit) : Pack := let q := p.data msb b; if q.cnt = 8 then q.byte else q

/-- What is left of a byte at the frame's end: its bits from bit 0 upward, and their count (R163). -/
def Pack.rest (p : Pack) : RxFrame := if p.cnt = 0 then p.f else { p.byte.f with lastBits := p.cnt }

/-- The position of the first received data bit of the byte in progress. -/
def Pack.first (align : Nat) (p : Pack) : Nat := if p.f.data = [] then align else 8 * p.f.data.length

/-- A bit of an NFC-A frame: eight of data, then their odd parity, over the device's own bits too in the first byte (R147, R161,
R163). -/
def packA (s : RxSet) (p : Pack) (b : RxBit) : Pack :=
  if p.cnt < 8 then p.data false b
  else
    let whole := p.cur + if p.f.data = [] then s.sent else 0
    let odd : Bool := ((List.range 8).countP (fun i => bitAt whole i) + b2n b.v) % 2 == 1
    let p := { p with f := { p.f with parityErr := if odd then p.f.parityErr else p.f.parityErr.or (some (p.first s.align)) } }
    (p.mark b).byte

/-- An NFC-A frame at 106 to 848 kbit/s: it may end after any number of bits (R157, R163); a last byte of eight bits without its
parity bit is noted (R173, R175). -/
def frameA (s : RxSet) (l : List RxBit) : RxFrame :=
  if l = [] then {}
  else
    let p := l.foldl (packA s) { cnt := s.align }
    if p.cnt = 8 then { p.byte.f with noParity := some (p.first s.align) } else p.rest

/-- Bits to bytes with nothing between them: NFC-V, and NFC-F with the first bit at bit 7 (R147, R162). -/
def framePlain (msb : Bool) (l : List RxBit) : RxFrame := (l.foldl (Pack.bit8 msb) {}).rest

/-- An NFC-F frame ends after the length byte's count and the two CRC bytes (R148). -/
def frameF (l : List RxBit) : RxFrame :=
  let n := byteAt (framePlain true (l.take 8)).data 0
  framePlain true (l.take (8 * (n + 2)))

/-- The bit periods of a signal up to its frame's end edge: the last data or parity bit's at 106 kbit/s, the last CRC bit's of NFC-F, the end
of frame's, or where the subcarrier ends (R148, R150, R157). -/
def usedSyms (s : RxSet) (l : List Sym) : Nat :=
  let (x, eof) := dataSyms s l
  match s.tech with
  | .nfcV => if eof then l.length else x.length
  | .nfcF => min x.length (8 * (byteAt (framePlain true (bitsOf s (x.take 8))).data 0 + 2))
  | _ => x.length

/-- The bits left are an end of frame: 10 or 11 bit periods at logic 0, 10 at the very-high bit rates (R147). -/
def isEofB (fast : Bool) (l : List RxBit) : Bool := (l.length == 10 || (l.length == 11 && !fast)) && l.all fun b => !b.v

/-- Characters (R147): start bit 0, 8 data bits, stop bit 1, up to 2 E of guard, none at the very-high bit rates; then the end of
frame. `gap` counts the guard so far; the first argument is fuel. -/
def charsB (fast : Bool) : Nat → Nat → Pack → List RxBit → Pack
  | 0, _, p, _ => { p with f := { p.f with noEof := true } }
  | _, _, p, [] => { p with f := { p.f with noEof := true } }
  | k + 1, gap, p, b :: t =>
    if b.v then
      let wide : Bool := decide ((if fast then 0 else 2) < gap + 1)
      charsB fast k (gap + 1) { p.mark b with f := { (p.mark b).f with egt := if wide then p.f.egt.or (some p.pos) else p.f.egt } } t
    else if isEofB fast (b :: t) then (b :: t).foldl Pack.mark p
    else if t.length < 9 then { ((b :: t).foldl Pack.mark p) with f := { ((b :: t).foldl Pack.mark p).f with noEof := true } }
    else
      let q := (t.take 8).foldl (Pack.data false) (p.mark b)
      let stop := t.getD 8 {}
      let q := { q with f := { q.f with coding := if stop.v then q.f.coding else q.f.coding.or (some p.pos) } }
      charsB fast k 0 (q.mark stop).byte (t.drop 9)

/-- A Type B frame, or one at a very-high bit rate. -/
def frameB (fast : Bool) (l : List RxBit) : RxFrame := (charsB fast (l.length + 1) 0 {} l).f

/-- A tag frame decoded from its bit periods (R141 to R148, R157, R161 to R166). -/
def demod (s : RxSet) (l : List Sym) : RxFrame :=
  let (x, eof) := dataSyms s l
  let b := bitsOf s x
  match s.tech with
  | .nfcV => { framePlain false b with noEof := !eof }
  | .nfcF => frameF b
  | .typeB => frameB (decide (4 ≤ s.rate)) b
  | .nfcA => if s.rate ≤ 3 then frameA s b else frameB true b

/-- The first collided bit period (R214). -/
def firstColl (s : RxSet) (l : List Sym) : Option Nat := (bitsOf s (dataSyms s l).1).findIdx? (·.coll)

/-! ### Reader frames (R145, R146) -/

/-- The pauses of an envelope, as start and width in quarters of a Tc: falls below half the held amplitude (R146). -/
def pausesOf (held : Nat) (env : List (Nat × Nat)) : List (Nat × Nat) :=
  (env.foldl (fun (acc : List (Nat × Nat) × Nat × Bool) r =>
    let low : Bool := decide (2 * r.1 < held)
    let l := if low then (if acc.2.2 then (match acc.1 with
        | p :: t => (p.1, p.2 + r.2) :: t
        | [] => [(acc.2.1, r.2)]) else (acc.2.1, r.2) :: acc.1) else acc.1
    (l, acc.2.1 + r.2, low)) ([], 0, false)).1.reverse

/-- The pause widths that are accepted, in Tc (R146). -/
def pauseRange (rate : Nat) : Nat × Nat := [(20, 48), (10, 24), (5, 12), (3, 6)].getD rate (3, 6)

/-- A pause has an accepted width (R146). -/
def pauseOk (rate : Nat) (p : Nat × Nat) : Bool := decide (4 * (pauseRange rate).1 ≤ p.2) && decide (p.2 ≤ 4 * (pauseRange rate).2)

/-- The half-bits in a time of a reader's frame, the nearest whole number on the measured bit clock (R144). -/
def halfOf (x : ReaderRaw) (time : Nat) : Nat := if x.dur = 0 then 0 else (4 * time * x.durBits + x.dur) / (2 * x.dur)

/-- The half-bits in which the pauses start, counted from the start of frame. The bit clock is tracked: each pause places the next one, so
that a drift adds up over no longer than the time between two pauses (R144; log entry 61). -/
def halvesOf (x : ReaderRaw) (ps : List (Nat × Nat)) : List Nat :=
  (ps.foldl (fun (a : List Nat × Nat × Nat) p =>
    let h := a.2.1 + halfOf x (p.1 - a.2.2)
    (a.1 ++ [h], h, p.1)) ([], 0, 0)).1

/-- Modified Miller sequences (R147): a pause in mid-bit, at the start, none. -/
inductive Miller where
  | x | y | z
deriving DecidableEq, Repr

/-- The sequence of a bit period whose halves have pauses; two pauses are a violation. -/
def millerOf (h : List Nat) (i : Nat) : Option Miller :=
  match h.contains (2 * i), h.contains (2 * i + 1) with
  | true, true => none
  | true, false => some .z
  | false, true => some .x
  | false, false => some .y

/-- The bits of a reader frame (R147): 1 is X; 0 is Y after a 1, else Z; a 0 and then Y end the frame, and that 0 is not data. `last` is
the bit before; the second part is false where a violation ended the decoding. -/
def millerBits (last : Bool) : List (Option Miller) → List Bool × Bool
  | [] => ([], false)
  | none :: _ => ([], false)
  | some .x :: t => let r := millerBits true t; (true :: r.1, r.2)
  | some .z :: t => if last then ([], false) else let r := millerBits false t; (false :: r.1, r.2)
  | some .y :: t => if last then (let r := millerBits false t; (false :: r.1, r.2)) else ([], true)

/-- A reader frame decoded from its envelope at a rate (R145 to R147, R161). The 0 of the end of frame is the last bit. -/
def demodReader (rate : Nat) (x : ReaderRaw) : RxFrame :=
  let ps := pausesOf x.held x.env
  let hs := halvesOf x ps
  let n := hs.foldl max 0 / 2 + 3
  let (bits, ok) := millerBits false ((List.range n).drop 1 |>.map (millerOf hs))
  let f := frameA {} (bits.dropLast.map fun v => { v := v })
  let bad := ps.findIdx? fun p => !pauseOk rate p
  { f with coding := match bad with
      | some i => some (hs.getD i 0 / 2)
      | none => if ok then f.coding else some (8 * f.data.length) }

end Sys2Proof.Machine
end

