-- ==== Sys2Proof/Machine/Separate.lean ====
section
/-! DEFINITION. Symbol vectors and what the arbour engine makes of them: covariance, its two largest eigenvalues, the two-beam separator,
and slot attribution (R211 to R227, R229, R230). -/

namespace Sys2Proof.Machine

/-! ### Symbol vectors (R211 to R213) -/

/-- One element of a response vector: whether it is valid, and its value (R212). -/
structure Elem where
  valid : Bool := true
  v     : Cx := {}
deriving DecidableEq, Repr

/-- The channel of place i of the attribution taps L6, L7, 0 to 7, H0, H1 of arbour a; none on another device (R211, R230). -/
def tapChan (a i : Nat) : Option Nat := if 8 * a + i < 2 ∨ 193 < 8 * a + i then none else some (8 * a + i - 2)

/-- A field of another exchange than that of channel n stood on channel m at a carrier cycle (R212). -/
def Dev.fieldAt (d : Dev) (n m tc : Nat) : Bool :=
  let c := d.ch m
  (c.fieldOf.any fun l => l != n && c.onAt.any fun t => decide (t ≤ tc)) ||
    c.past.any fun x => decide (x.1 ≤ tc) && decide (tc < x.2)

/-- The tap of channel m was receiving a frame of another exchange than that of channel n at a carrier cycle, by itself or as a member of
a combined group, whether or not that frame has ended (R205, R212). -/
def Dev.rxAt (d : Dev) (n m tc : Nat) : Bool :=
  let c := d.ch m
  (c.rxBy.any fun x => x.1 != n && decide (x.2 ≤ tc)) ||
    c.rxPast.any fun x => x.1 != n && decide (x.2.1 ≤ tc) && decide (tc < x.2.2)

/-- The tap of place i is valid, for a frame of channel n, at a carrier cycle (R212, R230). -/
def Dev.tapValid (d : Dev) (n i tc : Nat) : Bool :=
  match tapChan (arbOf n) i with
  | some m => !d.fieldAt n m tc && !d.rxAt n m tc
  | none => false

/-- The symbol periods of a bit: two half-bits of a Manchester coding, else one (R211). -/
def perBit (tech : Tech) (rate : Nat) : Nat := if isBpsk tech rate then 1 else 2

/-- The symbol vectors of a frame of channel n, each element with its validity at its own time: vector k of K ends K − 1 − k symbol
periods of `per` Tc before the end edge (R211, R212). -/
def Dev.vectors (d : Dev) (n per stop : Nat) (l : List (List (Int × Int))) : List (List Elem) :=
  l.zipIdx.map fun v => (List.range 12).map fun i =>
    let x := v.1.getD i (0, 0)
    { valid := d.tapValid n i (stop - (l.length - v.2) * per), v := ⟨x.1, x.2⟩ }

/-- The symbol vectors of a whole frame of channel n (R211). -/
def Dev.frameVecs (d : Dev) (n : Nat) (f : AirFrame) (w : RxWire) : List (List Elem) :=
  d.vectors n (bitTc f.tech f.rxRate f.dual / perBit f.tech f.rxRate) ((w.stop - d.rxLat n) / 4) w.vecs

/-- The places that are valid in some vector: the others are left out (R212). -/
def livePlaces (l : List (List Elem)) : List Nat := (List.range 12).filter fun i => l.any fun v => (v.getD i {}).valid

/-- A vector on some places, an invalid element adding nothing. -/
def onPlaces (ps : List Nat) (v : List Elem) : List Cx := ps.map fun i => if (v.getD i {}).valid then (v.getD i {}).v else {}

/-! ### Covariance and eigenvectors (R215, R223) -/

/-- R = Σ v v^H, as a list of rows. -/
def covariance (l : List (List Cx)) : List (List Cx) :=
  let m := (l.headD []).length
  (List.range m).map fun i => (List.range m).map fun j => (l.map fun v => (v.getD i {}).mul (v.getD j {}).conj).foldl Cx.add {}

/-- A matrix with a vector. -/
def matVec (r : List (List Cx)) (v : List Cx) : List Cx := r.map fun row => dotT row v

/-- u^H R u. -/
def rayleigh (r : List (List Cx)) (u : List Cx) : Int := (dotH u (matVec r u)).re

/-- A matrix brought to entries below 2^96, by a power of two. -/
def matTrim (r : List (List Cx)) : List (List Cx) :=
  let top := (r.map fun row => (row.map fun c => max c.re.natAbs c.im.natAbs).foldl max 0).foldl max 0
  let k := if top = 0 then 0 else Nat.log2 top + 1 - 96
  r.map fun row => row.map fun c => ⟨c.re / 2 ^ k, c.im / 2 ^ k⟩

/-- The square of a Hermitian matrix, trimmed. -/
def matSquare (r : List (List Cx)) : List (List Cx) := matTrim (r.map fun x => r.map fun y => dotT x (y.map Cx.conj))

/-- The principal eigenvector of a Hermitian matrix: the largest column of its power 2^32, entries below 2^96 (R215, R223; log entry
62). -/
def principal (r : List (List Cx)) : List Cx :=
  let p := (List.range 32).foldl (fun m _ => matSquare m) (matTrim r)
  ((p.map fun row => row.map Cx.conj).foldl (fun (best : List Cx) c => if normV best < normV c then c else best) [])

/-- A matrix less what an eigenvector carries of it, times ‖u‖⁴. -/
def deflate (r : List (List Cx)) (u : List Cx) : List (List Cx) :=
  let n := normV u
  let l := rayleigh r u
  (r.zip u).map fun x => (x.1.zip u).map fun y => (Cx.scale (n * n : Nat) y.1).sub (Cx.scale l (x.2.mul y.2.conj))

/-- The eigenvalue of an eigenvector. -/
def eigenvalue (r : List (List Cx)) (u : List Cx) : Rat := if normV u = 0 then 0 else (rayleigh r u : Rat) / normV u

/-- The two largest eigenvalues with their eigenvectors, the larger first. -/
def topTwo (r : List (List Cx)) : (Rat × List Cx) × (Rat × List Cx) :=
  let u := principal r
  let w := principal (matTrim (deflate r u))
  ((eigenvalue r u, u), (eigenvalue r w, w))

/-! ### Fit of a pair (R215) -/

/-- The part of a unit vector along u that lies along e. -/
def shareOf (u e : List Cx) : Rat := if normV u = 0 ∨ normV e = 0 then 0 else ((dotH e u).norm : Rat) / (normV u * normV e : Nat)

/-- The part of λ1 + λ2 that lies along e. -/
def lambdaPart (x y : Rat × List Cx) (e : List Cx) : Rat :=
  if x.1 + y.1 = 0 then 0 else (x.1 * shareOf x.2 e + y.1 * shareOf y.2 e) / (x.1 + y.1)

/-- The fit of two fingerprints: the part of λ1 + λ2 within their span. -/
def fitOf (x y : Rat × List Cx) (f g : List Cx) : Rat := lambdaPart x y f + lambdaPart x y (lessProj g f)

/-- Every pair of a list, in order. -/
def pairsOf : List Nat → List (Nat × Nat)
  | [] => []
  | a :: t => t.map (fun b => (a, b)) ++ pairsOf t

/-- A fingerprint on the places in use. -/
def Dev.printOn (d : Dev) (a : Nat) (ps : List Nat) (c : Nat) : List Cx := ps.map fun i => (d.fingerprint a c).getD i {}

/-- The pair of candidates with the best fit, beam A's first, and the fit (R215, R218). -/
def Dev.bestPair (d : Dev) (a : Nat) (ps : List Nat) (x y : Rat × List Cx) : Nat × Nat × Rat :=
  let l := (pairsOf (d.candidates a)).map fun p => (p, fitOf x y (d.printOn a ps p.1) (d.printOn a ps p.2))
  let b := l.foldl (fun b p => if b.2 < p.2 then p else b) ((0, 1), 0)
  let first : Bool := decide (lambdaPart x y (d.printOn a ps b.1.2) ≤ lambdaPart x y (d.printOn a ps b.1.1))
  if first then (b.1.1, b.1.2, b.2) else (b.1.2, b.1.1, b.2)

/-- λ1/λ2 in 0.25 dB, rounded down, saturating at 255 (R232). -/
def spanOf (x y : Rat) : Nat :=
  if y ≤ 0 then (if x ≤ 0 then 0 else 255) else ((List.range 256).reverse.find? fun k => decide (y ^ 40 * 10 ^ k ≤ x ^ 40)).getD 0

/-! ### The separator (R214 to R221) -/

/-- The correlation of two fingerprints as a ratio of squares. -/
def Dev.pairCorr (d : Dev) (a s t : Nat) : Nat × Nat :=
  let f := d.fingerprint a s
  let g := d.fingerprint a t
  ((dotH f g).norm, normV f * normV g)

/-- What the separator computes at a decision: the pair, λ1, λ2, and the fit. -/
structure SepView where
  s   : Nat := 0
  t   : Nat := 1
  l1  : Rat := 0
  l2  : Rat := 0
  fit : Rat := 0
deriving DecidableEq, Repr

/-- The computation over the symbol vectors held (R215). -/
def Dev.sepView (d : Dev) (a : Nat) (v : List (List Elem)) : SepView :=
  let ps := livePlaces v
  let (x, y) := topTwo (covariance (v.map (onPlaces ps)))
  let (s, t, f) := d.bestPair a ps x y
  { s := s, t := t, l1 := x.1, l2 := y.1, fit := f }

/-- The first reason to decline a separation, as ARB_SEP_STAT.LAST, or 1 when it is accepted (R217). `held`: the start of frame lies in
the history; `step`: a capture step; `beams`: both beams' start-of-frame correlations suffice. No pair of slots with one on another
device fits (R230). -/
def Dev.sepReason (d : Dev) (a : Nat) (x : SepView) (held step beams : Bool) : Nat :=
  let c := d.pairCorr a x.s x.t
  if !held then 2
  else if step then 3
  else if x.l2 ^ 10 * 10 ^ d.fld F.ARB_SEP_EIG a < x.l1 ^ 10 then 4
  else if !(d.candFresh a x.s && d.candFresh a x.t) then 5
  else if d.fld F.ARB_SEP_CORR a ^ 2 * c.2 ≤ c.1 * 65536 then 6
  else if remoteSlot a x.s || remoteSlot a x.t then 7
  else if x.fit * 256 < d.fld F.ARB_SEP_FIT a then 7
  else if !beams then 8
  else 1

/-- Record a separation decision (R221, R232); the fit is rounded down to 1/256 (log entry 62). -/
def Dev.sepRecord (d : Dev) (a : Nat) (x : SepView) (reason : Nat) : Dev :=
  let c := d.pairCorr a x.s x.t
  let d := d.setFld F.ARB_SEP_STAT_LAST a 0 reason
  let d := if reason = 1 then d.addFld F.ARB_SEP_STAT_ACCEPTS a 0 1 else d.addFld F.ARB_SEP_STAT_DECLINES a 0 1
  d.wr .ARB_SEP_LAST a 0 (rho256 c.1 c.2 + 256 * sat 255 (x.fit * 256).floor.toNat + 65536 * spanOf x.l1 x.l2)

/-- Joint mode is in force for a transaction (R214). -/
def Dev.joint (d : Dev) (n : Nat) (fg : Option Nat) : Bool := d.on F.ARB_CTL_JOINT_EN (arbOf n) && d.combined (arbOf n) fg

/-- What the framer decodes the frame of a transaction with (R141 to R143, R155, R163, R172). -/
def Dev.rxSet (d : Dev) (n : Nat) (t : Txn) (f : AirFrame) : RxSet :=
  { tech := f.tech, rate := f.rxRate, dual := f.dual, thr := d.fld F.CH_DEM_CTL_COLL_THR n, sofThr := d.fld F.CH_DEM_CTL_SOF_THR n,
    floor := t.sof.floor, ref := ⟨t.sof.ref.1, t.sof.ref.2⟩, zero := ⟨t.sof.zero.1, t.sof.zero.2⟩,
    rev := match d.fld F.CH_FRM_CTL_F_POL n with
      | 0 => t.sof.rev
      | 1 => false
      | _ => true
    align := f.rxAlign, sent := byteAt f.data (f.data.length - 1) % 2 ^ f.rxAlign, marks := t.marks }

/-- The end edge of a tag frame as a carried index, in quarters of a Tc (R144, R150): the end of its last bit period, the periods received
after it left out at their measured length, which is rounded down (log entry 61). -/
def Dev.endEdge (d : Dev) (n : Nat) (t : Txn) (f : AirFrame) (w : RxWire) : Nat :=
  let k := w.syms.length - usedSyms (d.rxSet n t f) w.syms
  w.stop - (if t.sof.durBits = 0 then k * (4 * bitTc f.tech f.rxRate f.dual) else k * t.sof.dur / t.sof.durBits)

/-- The separator follows the frame of a transaction in joint mode, unless it follows another (R213, R214). -/
def Dev.sepFollow (d : Dev) (n : Nat) (fg : Option Nat) : Dev :=
  if d.joint n fg ∧ (d.arb (arbOf n)).follow = none then d.modArb (arbOf n) fun x => { x with follow := some n, hist := [] } else d

/-- The symbol vectors of a frame up to a bit period are held, the latest 256 of them (R213). -/
def Dev.sepHold (d : Dev) (n : Nat) (l : List (List (Int × Int))) : Dev :=
  if (d.arb (arbOf n)).follow = some n then d.modArb (arbOf n) fun x => { x with hist := l.drop (l.length - 256) } else d

/-- The separator is asked, once in a frame, at its first collided bit period, or with `step` at a capture step (R171, R214, R217): its
decision is recorded, and stands for the frame. While it follows another group's frame it declines with BUSY, 9; ARB_SEP_LAST then shows
what the history held gives, that of the other group's frame (R214; the model's choice: log entry 62). -/
def Dev.sepAsk (d : Dev) (n : Nat) (t : Txn) (f : AirFrame) (w : RxWire) (step : Bool) : Dev :=
  let a := arbOf n
  let s := d.rxSet n t f
  match if d.joint n t.fg && t.sep.isNone then (match firstColl s w.syms with
      | some k => some k
      | none => if step then some w.syms.length else none) else none with
  | none => d
  | some k =>
    let late : Bool := step && (firstColl s w.syms).isNone
    let per := perBit f.tech f.rxRate
    let l := w.vecs.take (w.pre + per * (k + 1))
    let d := d.sepHold n l
    let v := d.vectors n (bitTc f.tech f.rxRate f.dual / per) ((w.stop - d.rxLat n) / 4) (d.arb a).hist
    let x := d.sepView a v
    let beams : Bool := aboveDb s.sofThr w.floorA w.corrA && aboveDb s.sofThr w.floorB w.corrB
    let busy : Bool := (d.arb a).follow.any fun m => m != n
    let held : Bool := (d.arb a).follow == some n && decide (l.length ≤ 256)
    let r := if busy then 9 else d.sepReason a x held (late || t.air == .captured) beams
    (d.sepRecord a x r).modTxn n fun t => { t with sep := some { reason := r, s := x.s, t := x.t } }

/-- The weights of the beam that is blind to tag t, on the places that are valid (R212, R218), scaled by ‖f_t‖². -/
def Dev.beamWeights (d : Dev) (a : Nat) (ps : List Nat) (s t : Nat) : List Cx := lessProj (d.printOn a ps s) (d.printOn a ps t)

/-- One symbol of a beam: w^H v over the elements valid in that symbol (R212, R218). -/
def beamSym (ps : List Nat) (w : List Cx) (v : List Elem) : Int × Int :=
  let c := dotH w (onPlaces ps v)
  (c.re, c.im)

/-- Symbols to bit periods: in twos for codings with halves. -/
def toSyms : Nat → List (Int × Int) → List Sym
  | 1, l => l.map fun x => { a := x }
  | _, l => (List.range (l.length / 2)).map fun i => { a := l.getD (2 * i) (0, 0), b := l.getD (2 * i + 1) (0, 0) }

/-- The frame that a beam gives, decoded on its own: its first symbol is the start of frame's first, logic 0 in BPSK (R147, R218). -/
def Dev.beamFrame (d : Dev) (n : Nat) (t : Txn) (f : AirFrame) (w : RxWire) (s u floor : Nat) : RxFrame :=
  let l := d.frameVecs n f w
  let ps := livePlaces l
  let z := l.map (beamSym ps (d.beamWeights (arbOf n) ps s u))
  let z0 := z.headD (0, 0)
  demod { (d.rxSet n t f) with dual := false, floor := floor, ref := ⟨z0.1, z0.2⟩, zero := ⟨z0.1, z0.2⟩, marks := [] }
    (toSyms (perBit f.tech f.rxRate) (z.drop w.pre))

/-! ### Attribution (R222 to R227) -/

/-- A vector restricted to the valid elements (R212). -/
def validOnly (r : List Elem) (v : List Cx) : List Cx := (r.zip v).filterMap fun x => if x.1.valid then some x.2 else none

/-- The response vector of a frame: the principal eigenvector over its symbol vectors, each place valid that was valid in some of them
(R223). -/
def response (v : List (List Elem)) : List Elem :=
  let ps := livePlaces v
  let u := principal (covariance (v.map (onPlaces ps)))
  (List.range 12).map fun i => match ps.findIdx? (· == i) with
    | some k => { v := u.getD k {} }
    | none => { valid := false }

/-- Magnitudes in place of phasors, for a seam that holds magnitudes only (R229). -/
def magnitudes (v : List Cx) : List Cx := v.map fun c => ⟨(Nat.sqrt (c.norm * 2 ^ 32) : Nat), 0⟩

/-- ρ² of a candidate as a ratio: |f^H r|² and ‖f‖²‖r‖², over the valid elements (R223). -/
def Dev.rhoOf (d : Dev) (a : Nat) (r : List Elem) (c : Nat) : Nat × Nat :=
  let f := validOnly r (d.fingerprint a c)
  let v := validOnly r (r.map (·.v))
  let remote : Bool := d.on F.ARB_CM_STAT_SEAM_MAG_ONLY a && remoteSlot a c
  let f := if remote then magnitudes f else f
  let v := if remote then magnitudes v else v
  ((dotH f v).norm, normV f * normV v)

/-- One ratio is larger than another. -/
def ratioGt (x y : Nat × Nat) : Bool :=
  if x.2 = 0 then false else if y.2 = 0 then decide (0 < x.1) else decide (y.1 * x.2 < x.1 * y.2)

/-- An attribution: candidate, class, ρ1 and ρ2 in 1/256, PARTIAL (R224, R225, R227). -/
structure Attr where
  cand : Nat := 15
  cls  : Nat := 0
  rho1 : Nat := 0
  rho2 : Nat := 0
  part : Bool := false
deriving DecidableEq, Repr

/-- The best of a list of candidates with their ratios, and the next best ratio. -/
def bestTwo (l : List (Nat × (Nat × Nat))) : Option (Nat × (Nat × Nat) × (Nat × Nat)) :=
  l.foldl (fun acc x =>
    match acc with
    | none => some (x.1, x.2, (0, 1))
    | some (c, b, s) =>
      if ratioGt x.2 b then some (x.1, x.2, b)
      else if ratioGt x.2 s then some (c, b, x.2) else some (c, b, s)) none

/-- Slot attribution of a response vector heard by channel n (R223, R224, R227). To a slot on another device, whose own taps are not heard
here, it is partial (R230). -/
def Dev.attribute (d : Dev) (n : Nat) (r : List Elem) : Attr :=
  let a := arbOf n
  let alone := !(r.zipIdx.any fun e => e.1.valid && decide (e.2 ≠ 2 + n % 8))
  match bestTwo ((d.candidates a).map fun c => (c, d.rhoOf a r c)) with
  | none => { part := alone }
  | some (c, b, s) =>
    let part := alone || remoteSlot a c
    let min_ := d.fld F.ARB_ATTR_MIN a
    let conf := decide (min_ ^ 2 * b.2 ≤ 65536 * b.1) && decide (0 < b.2) &&
      gapAtLeast b.1 b.2 s.1 (max 1 s.2) (d.fld F.ARB_ATTR_GAP a) && d.candFresh a c && !part
    let amb := decide (d.fld F.ARB_ATTR_LOW a ^ 2 * b.2 ≤ 65536 * b.1) && decide (0 < b.2)
    { cand := c, cls := if conf then 2 else if amb then 1 else 0,
      rho1 := rho256 b.1 b.2, rho2 := rho256 s.1 s.2, part := part }

/-- The response vector of a frame of channel n that ended at a carrier cycle (R223). -/
def Dev.responseOf (d : Dev) (n : Nat) (f : AirFrame) (w : RxWire) : List Elem := response (d.frameVecs n f w)

/-- ARB_ATTR_LAST takes an attribution (R225). -/
def Dev.attrLast (d : Dev) (a : Nat) (x : Attr) : Dev :=
  d.wr .ARB_ATTR_LAST a 0 (x.cand % 16 + 16 * x.cls + 64 * b2n x.part + 256 * x.rho1 + 65536 * x.rho2)

end Sys2Proof.Machine
end

