-- ==== Sys2Proof/Machine/Receive.lean ====
section
/-! DEFINITION. The receive chain's own events: filter banks, gain control, carrier estimates (R112 to R133), and the judgement
of a received frame: its measures, its checks and its status (R143 to R145, R151, R155, R158 to R175). -/

namespace Sys2Proof.Machine

/-! ### Filter and gain -/

/-- A write of 1 to SWITCH (R117). -/
def Dev.firSwitch (d : Dev) (n : Nat) : Dev :=
  if d.on F.CH_RX_FIR_PENDING n || d.on F.CH_RX_FIR_FADING n then d
  else if d.inFrame n then d.setOn F.CH_RX_FIR_PENDING n 0 true
  else d.fadeStart n

/-- FIR_SWITCH (R117). -/
def execFirSwitch (ch : Fin 192) (s : State) : Host.Outcome State Fault Refusal := onDev (fun _ d => d.firSwitch ch) s

/-- Fade length in output samples (R117). -/
def fadeLen (fade : Nat) : Nat := 16 * 2 ^ fade

/-- The Tc that a channel's fade takes: its output samples at the filter's input rate (R110, R113, R117). A FADE or FIR_SRC that changes
while the fade runs acts on it as it stands at the fade's end (the model's choice: log entry 60). -/
def Dev.fadeTc (d : Dev) (n : Nat) : Nat := fadeLen (d.fld F.CH_RX_FIR_FADE n) * refillTc (d.fld F.CH_RX_CTL_FIR_SRC n) / 64

/-- FIR_FADE_END (R117): FADE after the fade's start. -/
def execFirFadeEnd (ch : Fin 192) (s : State) : Host.Outcome State Fault Refusal :=
  onDev (fun _ d =>
    if d.on F.CH_RX_FIR_FADING ch then
      let d := d.runTo ((d.ch ch).fadeAt + d.fadeTc ch)
      (d.setOn F.CH_RX_FIR_FADING ch 0 false).setOn F.CH_RX_FIR_ACTIVE ch 0 (!d.on F.CH_RX_FIR_ACTIVE ch)
    else d) s

/-- A write of a filter coefficient (R116). -/
def Dev.coefWrite (d : Dev) (n : Nat) (bankB : Bool) (k v : Nat) : Dev :=
  if d.on F.CH_RX_FIR_FADING n || d.on F.CH_RX_FIR_ACTIVE n == bankB then d.setOn F.CH_RX_FIR_WR_REFUSED n 0 true
  else d.wr (if bankB then .CH_RX_COEF_B else .CH_RX_COEF_A) n k (bits v 0 18)

/-- COEF_WRITE (R116). -/
def execCoefWrite (ch : Fin 192) (bankB : Bool) (k : Fin 32) (v : Word) (s : State) : Host.Outcome State Fault Refusal :=
  onDev (fun _ d => d.coefWrite ch bankB k v.toNat) s

/-- A write of CH_RX_AGC (R131, R133); a member of a group that receives combined keeps its leader's state, and its own mode acts once that
reception is over (R208). -/
def Dev.agcWrite (d : Dev) (n v : Nat) : Dev :=
  let man := bits v 8 5
  let d := d.setFld F.CH_RX_AGC_MODE n 0 (bits v 0 1)
  let d := if man ≤ 24 then d.setFld F.CH_RX_AGC_GAIN_MAN n 0 man else d
  let d := if bits v 24 4 = 0 then d else d.setFld F.CH_RX_AGC_TARGET n 0 (bits v 24 4)
  if d.follows n then d
  else if d.on F.CH_RX_AGC_MODE n then
    (d.agcMove n [0, 1, 2] 3).setGain n (d.fld F.CH_RX_AGC_GAIN_MAN n)
  else d.agcMove n [3] 0

/-- AGC_MODE_WRITE (R131). -/
def execAgcModeWrite (ch : Fin 192) (v : Word) (s : State) : Host.Outcome State Fault Refusal :=
  onDev (fun _ d => d.agcWrite ch v.toNat) s

/-- AGC_HOLD_RELEASE (R131). -/
def execAgcHoldRelease (ch : Fin 192) (s : State) : Host.Outcome State Fault Refusal :=
  onDev (fun _ d => d.agcMove ch [1] 0) s

/-- AGC_OVERLOAD (R132): in TRACK the gain falls by 12 dB; the saturation bit is set in every state. -/
def execAgcOverload (ch : Fin 192) (s : State) : Host.Outcome State Fault Refusal :=
  onDev (fun _ d =>
    let d := d.setOn F.CH_RX_SAT_ADC ch 0 true
    if d.agc ch = 0 then d.setGain ch (d.fld F.CH_RX_AGC_GAIN_NOW ch - 6) else d) s

/-- The highest gain step, in 2 dB, that keeps the ADC peak at or below TARGET dB under full scale (R130). -/
def agcGain (amp target : Nat) : Nat :=
  ((List.range 25).reverse.find? fun g => decide (amp ^ 20 * 10 ^ (2 * g + target) ≤ 65536 ^ 20)).getD 0

/-- The frames of the field that a channel's coil stands in hold its estimate: from a device frame's start to the end of its window or
its response (R126). -/
def Dev.fieldHold (d : Dev) (n : Nat) : Bool :=
  match (d.ch n).fieldOf.filter fun _ => d.coilOn n with
  | some m =>
    match (d.ch m).txn with
    | some t => t.air != .idle && t.air != .staged
    | none => false
  | none => true

/-- Frames or the absence of a field hold the fine estimate (R126). A listening channel holds it inside reader frames, and while its
answer is on the air. -/
def Dev.frameHold (d : Dev) (n : Nat) : Bool :=
  d.inFrame n || (if (d.ch n).role = .listen then decide (d.tc < (d.ch n).lsn.sendTo) else d.fieldHold n)

/-- The fine estimate is held (R126): also at the next sample after a gain change. -/
def Dev.estHeld (d : Dev) (n : Nat) : Bool := d.gainHold n (2 * d.tc + 1) || d.frameHold n

/-! ### Carrier estimates (R124 to R130) -/

/-- A phasor's amplitude at HB1 output, of squared magnitude num/den in converter steps, as a whole number of units that divide the
ADC full scale, 8,191 steps at a gain of 0 dB, into 2^w: the largest that does not exceed it, below 2^w (R127). `mdb` is the gain in
0.001 dB, `sh` the shift of HB1. -/
def ampUnits (w sh : Nat) (mdb : Int) (num den : Nat) : Nat :=
  let top := (num * (2 ^ w * 2 ^ sh) ^ 2) ^ 10000 * 10 ^ (-mdb).toNat
  let ok (a : Nat) : Bool := decide ((a * 8191) ^ 20000 * den ^ 10000 * 10 ^ mdb.toNat ≤ top)
  (List.range w).reverse.foldl (fun a k => if ok (a + 2 ^ k) then a + 2 ^ k else a) 0

/-- The HB1 samples of a window that ends now, each with its gain step and half cycle: sample i of k stands half a Tc times k − 1 − i before the
window's end (R110, R127). -/
def Dev.hb1Samples (d : Dev) (n : Nat) (l : List (Int × Int)) : List ((Int × Int) × Nat × Nat) :=
  l.zipIdx.map fun x => let h := 2 * d.tc - (l.length - 1 - x.2); (x.1, d.gainAt n h, h)

/-- The coefficient of the fine estimate, in units of 2^-24 (R125); no value of TAU makes the quotient a tie. -/
def fineAlpha (tau : Nat) : Nat := (2 * (2 ^ 24 * 100) + 2712 * tau) / (2 * 2712 * tau)

/-- One step of the fine estimate, for one part (R125). -/
def fineStep (tau : Nat) (e x : Rat) : Rat := e + (fineAlpha tau : Rat) / 2 ^ 24 * (x - e)

/-- The samples of a window that the fine estimate takes: those outside a gain change's hold (R126). -/
def Dev.fineTakes (d : Dev) (n : Nat) (l : List (Int × Int)) : List ((Int × Int) × Nat × Nat) :=
  (d.hb1Samples n l).filter fun x => !d.gainHold n x.2.2

/-- The amplitude of a phasor at a gain step in units that divide full scale into 2^w, where it lies between two the one that a free value
says (R127; log entry 1); and its angle, in 1/65,536 turn. -/
def Dev.phasorOf (d : Dev) (n w g : Nat) (e : Rat × Rat) : Nat × Nat × Dev :=
  let q := e.1 * e.1 + e.2 * e.2
  let (x, d) := d.free
  let a := ampUnits w (bits (d.rd .CH_RX_SHIFT n) 0 2) (d.pgaMilli n g) q.num.toNat q.den
  let den : Int := e.1.den * e.2.den
  (sat (2 ^ w - 1) (a + x % 2), Config.argTurn ((e.1 * den).num) ((e.2 * den).num), d)

/-- The fine estimate runs over the samples of a window, unless it is held (R125 to R127). -/
def Dev.fineWindow (d : Dev) (n : Nat) (l : List (Int × Int)) : Dev :=
  let xs := d.fineTakes n l
  if d.frameHold n || xs.isEmpty then d
  else
    let tau := d.fld F.CH_RX_FINE_TAU n
    let (r, d) := d.free
    let c := d.ch n
    let e := xs.foldl (fun (e : (Rat × Rat) × Nat) x =>
      let y := (d.regain n e.2 x.2.1 (r % 2 == 1) e.1.1, d.regain n e.2 x.2.1 (r / 2 % 2 == 1) e.1.2)
      ((fineStep tau y.1 x.1.1, fineStep tau y.2 x.1.2), x.2.1)) ((c.fineRe, c.fineIm), c.fineGain)
    let d := d.modCh n fun c => { c with fineRe := e.1.1, fineIm := e.1.2, fineGain := e.2 }
    let (a, ph, d) := d.phasorOf n 24 e.2 e.1
    (d.setFld F.CH_RX_EST_F_AMP_AMP n 0 a).setFld F.CH_RX_EST_F_PH_PHASE n 0 (ph % 65536)

/-- The coarse estimate of a window's latest 16 samples, all at the last one's gain (R124, R127). -/
def Dev.coarseWindow (d : Dev) (n : Nat) (l : List (Int × Int)) : Dev :=
  let xs := d.hb1Samples n l
  let xs := xs.drop (xs.length - 16)
  let g := (xs.getLast?.map (·.2.1)).getD 0
  let (r, d) := d.free
  let s := xs.foldl (fun (s : Rat × Rat) x =>
    (s.1 + d.regain n x.2.1 g (r % 2 == 1) x.1.1, s.2 + d.regain n x.2.1 g (r / 2 % 2 == 1) x.1.2)) (0, 0)
  let (a, ph, d) := d.phasorOf n 16 g (s.1 / 16, s.2 / 16)
  (d.setFld F.CH_RX_EST_C_AMP n 0 a).setFld F.CH_RX_EST_C_PHASE n 0 (ph / 64 % 1024)

/-- A carrier returns on the channel: a field of its own, or an outside one that it listens to (R131). -/
def Dev.carrierOn (d : Dev) (n : Nat) : Bool := d.coilOn n || (d.ch n).lsn.field

/-- A window's estimates, gain and saturation bits (R124 to R132). In TRACK the gain follows the coarse estimate while a carrier
stands, a member of a combined group its leader's (R208); after a field's end it is kept (R131). -/
def Dev.takeEstimates (d : Dev) (w : WinFacts) : Dev :=
  let n := w.ch
  let d := d.wr .CH_RX_SAT n 0 (d.rd .CH_RX_SAT n ||| bits w.sat 0 9)
  if w.hb1 = [] then d
  else
    let d := (d.fineWindow n w.hb1).coarseWindow n w.hb1
    if d.agc n = 0 ∧ (d.carrierOn n ∨ d.follows n) then d.setGain n (agcGain (d.fld F.CH_RX_EST_C_AMP n) (d.fld F.CH_RX_AGC_TARGET n)) else d

/-! ### Checks and status of a frame (R145, R158 to R175) -/

/-- What the framer says of one frame: its status but for collisions, the kind of its first error and its position. -/
structure Verdict where
  status : Status := .ok
  kind   : Nat := 0
  pos    : Nat := 0xFFFF
deriving DecidableEq, Repr

/-- What the framer measured of a frame (R144, R145, R151, R155). -/
structure RxFacts where
  frame   : RxFrame := {}
  /-- Frame delay time in 0.25 Tc (R151). -/
  fdt     : Nat := 0
  /-- The bit duration lies within tolerance; its error in 0.1 % (R145). -/
  rateOk  : Bool := true
  rateErr : Int := 0
  /-- Start-of-frame correlation above the noise floor, 0.5 dB. -/
  snr     : Nat := 0
deriving DecidableEq, Repr

/-- A time measured over n bit periods of e quarter-Tc lies within the tolerance of its mode, in 0.1 % (R145). -/
def rateOk (tol e n dur : Nat) : Bool := decide (((dur : Int) - (e * n : Nat)).natAbs * 1000 ≤ tol * (e * n)) || n == 0

/-- The tolerance of a tag's bit duration, in 0.1 % (R145). -/
def rateTol (tech : Tech) (rate : Nat) : Nat := if vhbr tech rate then 20 else 50

/-- The measured error of a bit duration in 0.1 %; how it is rounded is open (R145; log entry 1). -/
def Dev.rateErr (d : Dev) (e n dur : Nat) : Int × Dev :=
  if n = 0 ∨ e = 0 then (0, d) else d.quot (1000 * ((dur : Int) - (e * n : Nat))) (e * n)

/-- Correlation above a floor in 0.5 dB: the largest step that it reaches, or, as a free value says, the next; saturating at 255 (log
entry 1). -/
def Dev.snrOf (d : Dev) (corr floor : Nat) : Nat × Dev :=
  let k := ((List.range 256).reverse.find? fun k => decide (floor ^ 20 * 10 ^ k ≤ corr ^ 20)).getD 0
  let (x, d) := d.free
  (sat 255 (if floor ^ 20 * 10 ^ k = corr ^ 20 then k else k + x % 2), d)

/-- The measures of a frame, with its start edge on the air less the group delay (R122, R151). -/
def Dev.measure (d : Dev) (n : Nat) (t : Txn) (f : AirFrame) (x : RxFrame) : RxFacts × Dev :=
  let e := 4 * bitTc f.tech f.rxRate f.dual
  let (err, d) := d.rateErr e t.sof.durBits t.sof.dur
  let (snr, d) := d.snrOf t.sof.corr t.sof.floor
  ({ frame := x, fdt := t.sof.first - d.rxLat n - 4 * t.reqTc, rateOk := rateOk (rateTol f.tech f.rxRate) e t.sof.durBits t.sof.dur,
     rateErr := err, snr := snr }, d)

/-- A frame's last two bytes are its air CRC (R160). -/
def crcGood (tech : Tech) (data : List Byte) : Bool :=
  decide (2 ≤ data.length) && decide (data.drop (data.length - 2) = airCrc tech (data.take (data.length - 2)))

/-- The NFC-F length byte disagrees with the frame, of which only whole bytes count (R148). -/
def lenBad (f : RxFrame) : Bool :=
  decide (byteAt f.data 0 ≤ 1) || decide (f.data.length - b2n (f.lastBits != 0) < byteAt f.data 0 + 2)

/-- An error put into a list in rising order of positions, after its equals. -/
def insertErr (e : Verdict) : List Verdict → List Verdict
  | [] => [e]
  | x :: t => if e.pos < x.pos then e :: x :: t else x :: insertErr e t

/-- The errors that stand at a bit of a frame, in rising order of their positions (R173, R175; log entry 13). -/
def bitErrors (tech : Tech) (rxCrc : Bool) (f : RxFrame) : List Verdict :=
  let l : List Verdict :=
    (match f.egt with | some p => [⟨.protocolError, 7, p⟩] | none => []) ++
    (match f.noParity with | some p => if tech = .nfcA ∧ rxCrc then [⟨.protocolError, 1, p⟩] else [] | none => []) ++
    (match f.parityErr with | some p => if tech = .nfcA then [⟨.crcError, 1, p⟩] else [] | none => []) ++
    (match f.coding with | some p => [⟨.protocolError, 3, p⟩] | none => [])
  l.foldr insertErr []

/-- The errors of a frame in the order in which they are met: the bit rate, measured over its start; errors at a bit; what only
the frame's end shows: status, kind, position (R173, R175; log entry 13). The kinds 4, 5 and 6 concern no one bit, and CH_FRM_ERR.POS
reads 0xFFFF for them (the model's choice: log entry 61). -/
def errorsOf (tech : Tech) (rxCrc inRate : Bool) (f : RxFrame) : List Verdict :=
  (if inRate then [] else [⟨.protocolError, 4, 0xFFFF⟩]) ++ bitErrors tech rxCrc f ++
  (if tech = .nfcF ∧ lenBad f then [⟨.protocolError, 5, 0xFFFF⟩] else []) ++
  (if f.noEof then [⟨.protocolError, 6, 0xFFFF⟩] else []) ++
  (if rxCrc && !crcGood tech f.data then [⟨.crcError, 2, 8 * (f.data.length - 2)⟩] else [])

/-- The verdict on a frame but for collisions (R173, R174). -/
def verdict (tech : Tech) (rxCrc inRate : Bool) (rxMax : Nat) (f : RxFrame) : Verdict :=
  let es := errorsOf tech rxCrc inRate f
  let st : Status :=
    if es.any (fun e => e.status == .protocolError) then .protocolError
    else if es.any (fun e => e.status == .crcError) then .crcError
    else if rxMax < f.data.length then .bufferShort else .ok
  match es with
  | [] => { status := st }
  | e :: _ => { status := st, kind := e.kind, pos := e.pos }

/-! ### The CH_FRM registers (R175) -/

/-- CH_FRM_COLL.POS: the first collided data bit, unless it is one of a CRC-bearing frame's two last bytes (R165, R166). -/
def collPos (rxCrc : Bool) (f : RxFrame) : Option Nat := f.collPos.filter fun p => !rxCrc || decide (p < 8 * (f.data.length - 2))

/-- The registers that describe an exchange's last frame; `pos` is its first collided data bit. -/
def Dev.frameRegs (d : Dev) (n : Nat) (st : Status) (f : Option (RxFacts × Verdict)) (pos : Option Nat) (captured separated : Bool) : Dev :=
  match f with
  | none => d.noFrameRegs n st
  | some (x, v) =>
    let d := d.wr .CH_FRM_LAST n 0 (st.ctorIdx + 256 * (x.frame.lastBits % 8) + 65536 * sat 8191 x.frame.data.length)
    let d := d.wr .CH_FRM_COLL n 0 (sat 0xFFFF (pos.getD 0xFFFF) + 65536 * sat 255 x.frame.collCount +
      2 ^ 24 * b2n captured + 2 ^ 25 * b2n separated)
    let d := d.wr .CH_FRM_ERR n 0 (sat 0xFFFF v.pos + 65536 * v.kind)
    let d := d.wr .CH_FRM_TIME n 0 (sat 0xFFFFFF x.fdt)
    (d.setFld F.CH_FRM_QUAL_RATE_ERR n 0 (ofInt 8 (clampInt (-128) 127 x.rateErr))).setFld F.CH_FRM_QUAL_SNR n 0 (sat 255 x.snr)

end Sys2Proof.Machine
end

