-- ==== Sys2Proof/Machine/Air.lean ====
section
/-! DEFINITION. A transaction's frames: staging, the frame and window events, and the judgement of what was received (R154 to
R175, R205 to R227, R238 to R242). -/

namespace Sys2Proof.Machine

/-! ### Staging device frames -/

/-- A device frame with its window (R242). -/
def Dev.mkFrame (d : Dev) (n : Nat) (use : FrameUse) (tech : Tech) (tx rx : Nat) (data : List Byte) (lastBits : Nat := 0)
    (rxCrc : Bool := true) (rxAlign : Nat := 0) (fwi : Nat := 4) (slot : Nat := 0) : AirFrame :=
  let w := d.window (pavOf n) use tech fwi slot
  { use := use, tech := tech, txRate := tx, rxRate := rx, data := data, lastBits := lastBits, rxCrc := rxCrc,
    rxAlign := rxAlign, dual := tech == .nfcV && bitAt (byteAt data 0) 0, winOpen := w.1, winClose := w.2, slot := slot, optEof := use == .t5Write }

/-- Stage a device frame at the spacing of R238 after the last end edge, and not before `notBefore` (R238, R241), modulated as its
transaction's settings say (R78, R84). A change of technology or rate applies its standard setting (R118). -/
def Dev.stage (d : Dev) (n : Nat) (f : AirFrame) : Dev :=
  match (d.ch n).txn with
  | none => d
  | some t =>
    let (tech, rx) := match t.frame with
      | some g => (g.tech, g.rxRate)
      | none => (f.tech, f.rxRate)
    let gap := d.spacing n tech rx (d.combined (arbOf n) t.fg)
    let d := if f.tech = t.tech ∧ f.rxRate = t.rxRate then d else d.applyRate n f.tech f.rxRate
    d.modTxn n fun t => { t with
      frame := some { f with
        wave := t.mods.wave f.tech f.txRate
        dual := if f.tech = .nfcV ∧ f.data = [] then t.frame.any (·.dual) else f.dual }
      air := .staged, capCount := 0, marks := [], sep := none, winOver := false, dueTc := max (t.endTc + gap) t.notBefore,
      tech := f.tech, txRate := f.txRate, rxRate := f.rxRate }

/-- The next window of the same device frame: a further time slot of NFC-F (R242, R254). -/
def Dev.nextSlotWindow (d : Dev) (n slot : Nat) : Dev :=
  d.modTxn n fun t => { t with
    air := .winWait, capCount := 0, marks := [], sep := none, winOver := false
    frame := t.frame.map fun f => { f with slot := slot, winOpen := 32768 + 16384 * slot - 256, winClose := 32768 + 16384 * slot + 256 } }

/-! ### Frame events -/

/-- Where a channel's frame exchange stands. -/
def Dev.airOf (d : Dev) (n : Nat) : AirPhase :=
  match (d.ch n).txn with
  | some t => if t.phase = .up then t.air else .idle
  | none => .idle

/-- DEVICE_FRAME_START (R131, R147, R238): the staged frame starts on the air. -/
def execDeviceFrameStart (ch : Fin 192) (s : State) : Host.Outcome State Fault Refusal :=
  onDev (fun _ d =>
    match (d.ch ch).txn with
    | some t =>
      match t.frame with
      | some f =>
        if d.airOf ch = .staged then
          let d := d.runTo t.dueTc
          ((d.modTxn ch fun t => { t with
            air := .sending, dueTc := d.tc + t.mods.frameTc f.tech f.txRate f.data f.lastBits }).agcMove ch [0] 1).emit
            (.air ch f (t.mods.line f.tech f.txRate f.data f.lastBits))
        else d
      | none => d
    | none => d) s

/-- DEVICE_FRAME_END (R242): the end edge from which the window counts. A request with the option flag is followed, after turn-round and
guard (the model's choice: log entry 16), by the end-of-frame request from which its window counts. -/
def execDeviceFrameEnd (ch : Fin 192) (s : State) : Host.Outcome State Fault Refusal :=
  onDev (fun _ d =>
    match (d.ch ch).txn with
    | some t =>
      if d.airOf ch = .sending then
        let d := d.runTo t.dueTc
        let d := d.cond t.sess.isSome fun d => d.modSes (t.sess.getD 0) fun x => { x with tLast := d.now }
        let d := d.modTxn ch fun t => { t with air := .winWait, endTc := d.tc, reqTc := d.tc }
        match t.frame with
        | some f => d.cond f.optEof fun d => d.stage ch { f with data := [], lastBits := 0, optEof := false }
        | none => d
      else d
    | none => d) s

/-! ### Tap weights at a start of frame (R209, R210) -/

/-- A tap more than THR dB below the strongest; the leader never (R210). -/
def Dev.tapWeak (d : Dev) (a lead : Nat) (l : List TapFacts) (k : TapFacts) : Bool :=
  let p (x : TapFacts) : Nat := (Cx.mk x.re x.im).norm
  let top := (l.map p).foldl max 0
  k.tap != lead && decide (p k ^ 10 * 10 ^ d.fld F.ARB_CT_DT_THR a k.tap < top ^ 10)

/-- The weights of combiner mode 2: conj(r) over the noise power, scaled so that the largest magnitude is 1, parts rounded
towards 0 (R209; log entry 8). -/
def mrcWeights (l : List TapFacts) : List (Nat × Nat) :=
  let top := (l.map fun k => (Cx.mk k.re k.im).norm * 10 ^ 12 / (max 1 k.noise) ^ 2).foldl max 0
  l.map fun k =>
    let part (x : Int) : Int :=
      let m : Nat := Nat.sqrt (1024 ^ 2 * x.natAbs ^ 2 * 10 ^ 12 / (max 1 k.noise) ^ 2 / max 1 top)
      if x < 0 then -(m : Int) else m
    -- the conjugate aligns the tap's phasor
    (k.tap, ofInt 12 (part k.re) + 2 ^ 16 * ofInt 12 (part (-k.im)))

/-- What a start of frame does to the tap weights of a combined group's members (R209, R210). -/
def Dev.sofWeights (d : Dev) (n : Nat) (taps : List TapFacts) : Dev :=
  match (d.ch n).txn with
  | some t =>
    match t.fg with
    | some g =>
      let a := arbOf n
      let mode := d.fld F.ARB_FG_CTL_COMB a g
      let taps := taps.filter fun k => (d.members a g).contains k.tap
      if !d.combined a t.fg || mode == 0 then d
      else
        let d := if mode = 2 then d.each (mrcWeights taps) fun d w => d.wr .ARB_CT_W a w.1 w.2 else d
        let weak := (taps.filter (d.tapWeak a (n % 8) taps)).map fun k => k.tap % 8
        let d := d.modTxn n fun t => { t with zeroed := weak.map fun k => (k, d.rd .ARB_CT_W a k) }
        d.each weak fun d k => d.wr .ARB_CT_W a k 0
    | none => d
  | none => d

/-! ### Starts of frame (R142, R143, R147, R154 to R156) -/

/-- Tap weights set to 0 for one frame return (R210). -/
def Dev.tapsBack (d : Dev) (n : Nat) : Dev :=
  match (d.ch n).txn with
  | some t => (d.each t.zeroed fun d w => d.wr .ARB_CT_W (arbOf n) w.1 w.2).modTxn n fun t => { t with zeroed := [] }
  | none => d

/-- The framer leaves a received frame of a transaction: its taps' weights return, the separator lets it go, and what the chain held
back applies (R112, R115, R117, R131, R210, R213). -/
def Dev.leaveFrame (d : Dev) (n : Nat) : Dev := ((d.tapsBack n).sepLeave n |>.agcMove n [2] 0).chainFree n

/-- The start sequence has a form that its technology permits (R142, R143, R147): the phase reference of a BPSK tag, the parts of a
character frame's start, an NFC-F preamble in the polarity asked for. -/
def Dev.sofForm (d : Dev) (n : Nat) (f : AirFrame) (x : SofFacts) : Bool :=
  (!isBpsk f.tech f.rxRate || decide (32 ≤ x.cycles)) &&
    (match f.tech with
     | .nfcF => decide (48 ≤ x.pre) && decide (x.pre ≤ 96) &&
        (match d.fld F.CH_FRM_CTL_F_POL n with
         | 1 => !x.rev
         | 2 => x.rev
         | _ => true)
     | .typeB => if f.rxRate ≤ 3 then (x.low == 10 || x.low == 11) && (x.high == 2 || x.high == 3) else x.low == 10 && x.high == 2
     | .nfcA => f.rxRate ≤ 3 || (x.low == 10 && x.high == 2)
     | .nfcV => true)

/-- The carrier cycle at which a response window opens, counted from the end of the device frame that it follows (R242). -/
def openTc (t : Txn) (f : AirFrame) : Nat := t.reqTc + f.winOpen

/-- RESPONSE_WINDOW_OPEN (R154, R155, R242). -/
def execResponseWindowOpen (ch : Fin 192) (s : State) : Host.Outcome State Fault Refusal :=
  onDev (fun _ d =>
    match (d.ch ch).txn with
    | some t =>
      if d.airOf ch = .winWait then
        (d.runTo ((t.frame.map (openTc t)).getD 0)).modTxn ch fun t => { t with air := .winOpen }
      else d
    | none => d) s

/-- The noise floor in force: until 32 Tc of window have passed, that of the channel's previous window (R155). -/
def Dev.floorNow (d : Dev) (n : Nat) (t : Txn) (f : AirFrame) (measured : Nat) : Nat :=
  if d.tc < openTc t f + 32 then (d.ch n).floor else measured

/-- A start of frame is declared (R115, R142, R143, R154, R155): the framer hears, the correlation exceeds the floor by SOF_THR, and the
first edge lies inside the window. -/
def Dev.declares (d : Dev) (n : Nat) (t : Txn) (f : AirFrame) (x : SofFacts) : Bool :=
  d.hears n && d.sofForm n f x && aboveDb (d.fld F.CH_DEM_CTL_SOF_THR n) (d.floorNow n t f x.floor) x.corr &&
    decide (4 * openTc t f + d.rxLat n ≤ x.first)

/-- The framer locks to a start of frame (R131, R169, R209, R210, R213); through every tap of a combined group (R205, R212). -/
def Dev.lockTo (d : Dev) (n : Nat) (t : Txn) (f : AirFrame) (air : AirPhase) (taps : List TapFacts) (x : SofFacts) : Dev :=
  let fl := d.floorNow n t f x.floor
  ((((d.modTxn n fun t => { t with air := air, sof := { x with floor := fl }, marks := [], sep := none }).modCh n fun c =>
    { c with floor := fl }).agcMove n [0] 2).sofWeights n taps |>.sepFollow n t.fg).rxBegin n ((x.first - d.rxLat n) / 4) (n :: d.followers n)

/-- The framer searches for a start of frame. -/
def Dev.searches (d : Dev) (n : Nat) : Bool := d.airOf n == .winOpen || d.airOf n == .capturing

/-- SOF_DETECTED (R131, R154, R155, R168, R169, R210): in an open response window, in an open capture window, or on a channel that
listens. -/
def execSofDetected (ch : Fin 192) (taps : List TapFacts) (x : SofFacts) (s : State) : Host.Outcome State Fault Refusal :=
  onDev (fun _ d =>
    let d := d.cond (d.searches ch) fun d => d.runTo (x.first / 4)
    match (d.ch ch).txn, d.airOf ch with
    | some t, .winOpen =>
      match t.frame with
      | some f => if d.declares ch t f x then d.lockTo ch t f .receiving taps x else d
      | none => d
    | some t, .capturing =>
      match t.frame with
      | some f => if d.declares ch t f x && decide (4 * d.tc ≤ t.capEnd) then d.lockTo ch t f .captured taps x else d
      | none => d
    | _, _ =>
      if (d.ch ch).lsn.field && d.hears ch && !d.inFrame ch then
        ((d.modCh ch fun c => { c with lsn := { c.lsn with inFrame := true } }).agcGo ch [0] 2).rxBegin ch ((x.first - d.rxLat ch) / 4) [ch.val]
      else d) s

/-! ### Capture steps (R167 to R172) -/

/-- A measurement exceeds the reference energy by the margin (R167). -/
def overMargin (margin ref e : Nat) : Bool := decide (ref < e) && decide (ref ^ 10 * 10 ^ margin ≤ (e - ref) ^ 10)

/-- Two consecutive measurements make a capture step (R167). -/
def Dev.isStep (d : Dev) (n : Nat) (t : Txn) (x : StepFacts) : Bool :=
  let m := d.fld F.CH_DEM_CTL_MARGIN n
  overMargin m t.sof.energy x.e1 && overMargin m t.sof.energy x.e2

/-- CAPTURE_STEP (R131, R167, R168, R171, R172): the separator is asked first; unless it accepts, the frame is abandoned for a capture
window. Inside a captured frame the step only counts; with CAPTURE_EN = 0 it is a collision at its bit. -/
def execCaptureStep (ch : Fin 192) (x : StepFacts) (s : State) : Host.Outcome State Fault Refusal :=
  onDev (fun _ d =>
    let n : Nat := ch
    match (d.ch n).txn with
    | some t =>
      match t.frame, d.airOf n with
      | some f, .receiving =>
        if !d.isStep n t x then d
        else
          let d := d.sepAsk n t f x.wire true
          match (d.ch n).txn.bind (·.sep) with
          | some { reason := 1, .. } => d
          | _ =>
            if !d.on F.CH_DEM_CTL_CAPTURE_EN n then
              (d.modTxn n fun t => { t with marks := t.marks ++ [x.bit] }).agcMove n [2] 0
            else (d.modTxn n fun t => { t with
              air := .capturing, capCount := 1, capFrom := x.first
              capEnd := x.first + 4 * captureTc f.tech f.rxRate f.dual }).leaveFrame n
      | some _, .captured => if d.isStep n t x then d.modTxn n fun t => { t with capCount := t.capCount + 1 } else d
      | _, _ => d
    | none => d) s

/-! ### What was received -/

/-- The end of a frame exchange: its status, the results it reports, and the SNR of its frame. -/
structure RxOut where
  status  : Status := .noResponse
  results : List RxResult := []
  collPos : Option Nat := none
  snr     : Nat := 0
deriving DecidableEq, Repr

/-- The first result's bytes. -/
def RxOut.data (r : RxOut) : List Byte := (r.results.headD {}).data

/-- The data of a frame without its two check bytes. -/
def RxOut.body (r : RxOut) : List Byte := r.data.take (r.data.length - 2)

/-- A frame's bytes and attribution as a result (R225, R415). -/
def Dev.resultOf (d : Dev) (a : Nat) (st : Status) (f : RxFrame) (at_ : Option Attr) : RxResult :=
  let r : RxResult := { status := st, data := f.data, lastBits := f.lastBits % 8 }
  match at_ with
  | some x => { r with rho1 := x.rho1, rho2 := x.rho2, cls := x.cls, partialV := x.part,
                       slot := if x.cand < 10 then d.hubSlot a x.cand else 0xFFF }
  | none => r

/-- One beam of a separation: its own verdict, with the slot of its fingerprint (R218, R220, R223). -/
def Dev.beam (d : Dev) (n : Nat) (t : Txn) (f : AirFrame) (w : RxWire) (inRate : Bool) (r : List Elem) (s u floor : Nat) :
    RxResult × Attr :=
  let x := d.beamFrame n t f w s u floor
  let v := verdict f.tech f.rxCrc inRate f.rxMax x
  let at_ := { d.attribute n r with cand := s }
  (d.resultOf (arbOf n) v.status x (some at_), at_)

/-- The status of a frame that was not separated (R165, R169, R170, R174): a captured frame that passes every check is
COLLISION_CAPTURED whatever its length. -/
def frameStatus (captured : Bool) (steps : Nat) (coll : Bool) (v : Status) : Status :=
  if captured then (if steps ≤ 1 ∧ !coll ∧ (v = .ok ∨ v = .bufferShort) then .collisionCaptured else .collision)
  else if coll then .collision else v

/-- A tag frame's end edge: separation, capture, collision and checks give one status; the registers and the attribution
follow (R165 to R175, R214 to R227). Of a separation's two results ARB_ATTR_LAST shows beam B's, the one attributed last (R225; the
model's choice: log entry 62). -/
def Dev.receive (d : Dev) (n : Nat) (t : Txn) (f : AirFrame) (w : RxWire) : RxOut × Dev :=
  let a := arbOf n
  let (x, d) := d.measure n t f (demod (d.rxSet n t f) w.syms)
  let v := verdict f.tech f.rxCrc x.rateOk f.rxMax x.frame
  let pos := collPos f.rxCrc x.frame
  let captured : Bool := t.air == .captured
  let d := d.sepAsk n t f w false
  match (d.ch n).txn.bind (·.sep) with
  | some { reason := 1, s := p, t := q } =>
    let r := d.responseOf n f w
    let (ra, aa) := d.beam n t f w x.rateOk r p q w.floorA
    let (rb, ab) := d.beam n t f w x.rateOk r q p w.floorB
    let d := (d.attrLast a aa).attrLast a ab
    let d := d.frameRegs n .collisionSeparated (some (x, v)) pos false true
    ({ status := .collisionSeparated, results := [ra, rb], collPos := pos, snr := x.snr }, d)
  | _ =>
    let st := frameStatus captured t.capCount (decide (0 < x.frame.collCount) || !t.marks.isEmpty) v.status
    let at_ := if d.on F.ARB_CTL_ATTR_EN a && (st == .ok || st == .collisionCaptured) then
      some (d.attribute n (d.responseOf n f w)) else none
    let d := match at_ with
      | some z => d.attrLast a z
      | none => d
    let d := d.frameRegs n st (some (x, v)) pos captured false
    ({ status := st, results := [d.resultOf a st x.frame at_], collPos := pos, snr := x.snr }, d)

/-- A frame exchange is over, with an end edge from which turn-round and guards count (R151): its channel is idle until the next frame
is staged. -/
def Dev.frameOver (d : Dev) (n endTc : Nat) : Dev :=
  ((d.leaveFrame n).modTxn n fun t => { t with air := .idle, endTc := endTc }).frameEnded n

end Sys2Proof.Machine
end

