-- ==== Sys2Proof/Machine/Arbiters.lean ====
section
/-! DEFINITION. What the write arbiters send: output data, event entries and capture samples, in the order of R435 to R438. -/

namespace Sys2Proof.Machine

/-- Network time of a sample, from that of the latest one produced and what lies between their carried indices (R49, R107, R443). -/
def Dev.sampleTime (d : Dev) (n : Nat) (c : Cap) (i : Nat) : Nat :=
  let at_ (k : Nat) : Nat := (c.at_ - (c.idx - k) * d.pointStep n c.point) / 2 ^ 24
  c.tLast - (d.timeFull (at_ (c.idx - 1)) - d.timeFull (at_ i))

/-- CAPTURE_PROGRESS when the bytes written have crossed a multiple of the interval (R443, R416). -/
def Dev.capProgress (d : Dev) (n : Nat) (was last : Nat) : Dev :=
  match (d.ch n).cap with
  | none => d
  | some c =>
    let step := 4096 * 2 ^ d.fld F.CH_CAP_CTL_PROG n
    if was / step < c.written / step then
      d.post { kind := .captureProgress, source := n, time := d.sampleTime n c last,
               body := toLe 8 last ++ toLe 4 (4 * (last + 1) % c.desc.d.bufLen) }
    else d

/-- One write of a channel's samples into the host's circular buffer (R436, R439, R443). -/
def Dev.sendSamples (d : Dev) (n : Nat) : Dev :=
  match (d.ch n).cap with
  | none => d
  | some c =>
    match c.buf with
    | [] => d
    | (i, b) :: t =>
      let k := d.sampleSize n
      let d := d.emit (.memWrite (c.desc.d.bufAddr + 4 * i % c.desc.d.bufLen) (b.take k))
      let d := d.modCap n fun c => { c with buf := if b.length ≤ k then t else (i + k / 4, b.drop k) :: t, written := c.written + k }
      d.capProgress n c.written (i + k / 4 - 1)

/-- The next write of a leaf (R438). -/
def Dev.leafWrite (d : Dev) (l : Nat) : Dev :=
  (if (d.dataAt l).isEmpty then if d.entryMay l then d.postHead l else d.sendSamples l else d.dataPiece l).dropDeficits

/-- A bound of the writes that wait. -/
def Dev.traffic (d : Dev) : Nat :=
  (d.chans.map (fun (e : Nat × Ch) => e.1) ++ [192]).foldl (fun k l =>
    k + 2 * (((d.dataAt l).foldl (fun k (w : Nat × List Byte) => k + w.2.length + 1) 0) + (d.outq l).held.length + (d.outq l).waiting.length +
      (if l < 192 then ((d.ch l).cap.elim 0 fun c => c.buf.foldl (fun k (r : Nat × List Byte) => k + r.2.length) 0) else 0))) 1

/-- The arbiters send writes, each from the leaf whose turn it is, until a write after which they stop, or none is left. `stop` sees the
leaf, and the device before and after its write. -/
def Dev.serve : Nat → (Nat → Dev → Dev → Bool) → Dev → Dev
  | 0, _, d => d
  | f + 1, stop, d =>
    match d.grant with
    | none => d
    | some (l, e) => if stop l d (e.leafWrite l) then e.leafWrite l else Dev.serve f stop (e.leafWrite l)

/-- The arbiters send writes until the head entry of a source's queue has left it, behind the source's output data (R396, R427): the other
leaves' writes whose turn comes before go first. A disabled ring discards the entry (R388); while the ring is full, or the bus master
off, it stays. -/
def Dev.postNow (d : Dev) (source : Nat) : Dev :=
  let l := min source 192
  let off : Bool := (d.outq l).held.head?.any fun e => !d.on F.HIF_RING_CFG_EN (evRing (e.ring.getD 0))
  let d := d.cond (!(d.dataAt l).isEmpty || d.entryMay l) fun d =>
    d.serve d.traffic fun x a b => (x == l && (a.dataAt l).isEmpty) || ((b.dataAt l).isEmpty && !b.entryMay l)
  d.cond off fun d => d.postHead l

/-- Samples in a channel's elastic buffer. -/
def Dev.samplesHeld (d : Dev) (n : Nat) : Nat := (d.ch n).cap.elim 0 fun c => c.buf.foldl (fun k (r : Nat × List Byte) => k + r.2.length / 4) 0

/-- The arbiters send writes until `k` samples of a channel have gone, or all of them (R438, R443). -/
def Dev.writeSamples (d : Dev) (n k : Nat) : Dev :=
  let rest := d.samplesHeld n - k
  d.cond (decide (rest < d.samplesHeld n)) fun d => d.serve d.traffic fun _ _ b => decide (b.samplesHeld n ≤ rest)

/-- The arbiters send writes until no output data waits (R384). -/
def Dev.flushAll (d : Dev) : Dev :=
  let none (d : Dev) : Bool := (d.chans.map (fun (e : Nat × Ch) => e.1) ++ [192]).all fun l => (d.dataAt l).isEmpty
  d.cond (!none d) fun d => d.serve d.traffic fun _ _ b => none b

end Sys2Proof.Machine
end

