-- ==== Sys2Proof/Machine/Combiner.lean ====
section
/-! DEFINITION. The combiner of a group's receive taps, over the HB2 samples of a window (R123, R129, R205 to R207). -/

namespace Sys2Proof.Machine

/-- The shift field of half-band stage k, from 1 to 5 (R111, R140). -/
def Dev.hbShift (d : Dev) (n k : Nat) : Nat := bits (d.rd .CH_RX_SHIFT n 0) (4 * (k - 1)) 2

/-- The fine estimate as held, in units of the output of stage k: at the gain in force, and each later stage has a gain of 2 and its shift
(R110, R111, R127, R129). -/
def Dev.estAt (d : Dev) (n k : Nat) (up : Bool) : Rat × Rat :=
  let g : Rat := (List.range (k - 1)).foldl (fun a j => a * 2 / (2 : Rat) ^ d.hbShift n (j + 2)) 1
  let f := d.regain n (d.ch n).fineGain (d.fld F.CH_RX_AGC_GAIN_NOW n) up
  (f (d.ch n).fineRe * g, f (d.ch n).fineIm * g)

/-- A tap's stream as the arbour engine takes it: its HB2 samples, the newest first, less its fine estimate, delayed by DELAY/16 HB2
samples (R205, R211). The manual gives no coefficients of the 8-point interpolator: `Config.interp` forms its output (log entry 8). -/
def Dev.tapStream (d : Dev) (n : Nat) (up : Bool) (x : List (Int × Int)) : Rat × Rat :=
  let e := d.estAt n 2 up
  Config.interp (d.fld F.ARB_CT_DT_DELAY (arbOf n) (n % 8)) ((x.take 8).map fun c => ((c.1 : Rat) - e.1, (c.2 : Rat) - e.2))

/-- A tap's share of the combiner's sum, times 1,024: its stream times the tap weight (R205). -/
def Dev.tapShare (d : Dev) (n : Nat) (up : Bool) (x : List (Int × Int)) : Rat × Rat :=
  let y := d.tapStream n up x
  let g := cxOf 12 (d.rd .ARB_CT_W (arbOf n) (n % 8))
  (g.re * y.1 - g.im * y.2, g.re * y.2 + g.im * y.1)

/-- One sample of a group's combined stream, saturated to 18 bits, and whether it saturated: each group has a sum of its own, into which
its member taps add (R205, R206). `hb2` gives a channel's HB2 samples, the newest first. -/
def Dev.combine (d : Dev) (a g : Nat) (up : Bool) (hb2 : Nat → List (Int × Int)) : Cx × Bool :=
  let s := (d.members a g).foldl (fun (s : Rat × Rat) k =>
    let y := d.tapShare (8 * a + k) up (hb2 (8 * a + k))
    (s.1 + y.1, s.2 + y.2)) (0, 0)
  let part (x : Rat) : Int := roundQ up x.num (1024 * x.den)
  (⟨satTo 18 (part s.1), satTo 18 (part s.2)⟩, satTo 18 (part s.1) != part s.1 || satTo 18 (part s.2) != part s.2)

/-- The HB2 samples that a window gave of a channel, the newest first, `j` samples before its end. -/
def hb2Of (l : List WinFacts) (j n : Nat) : List (Int × Int) :=
  ((l.find? fun w => w.ch == n).map fun w => (w.hb2.take (w.hb2.length - j)).reverse).getD []

/-- The combined streams of a window: a sum that saturates in it sets COMB_SAT (R205). -/
def Dev.combWindow (d : Dev) (l : List WinFacts) : Dev :=
  d.each ((l.map (·.ch)).filter d.combNow) fun d n =>
    match (d.ch n).txn.bind (·.fg) with
    | some g =>
      let (x, d) := d.free
      let m := (l.map fun w => w.hb2.length).foldl max 0
      if (List.range (min 64 m)).any fun j => (d.combine (arbOf n) g (x % 2 == 1) (hb2Of l j)).2 then
        d.setOn F.ARB_SEP_STAT_COMB_SAT (arbOf n) 0 true
      else d
    | none => d

/-- Carrier cycles in one cycle of a tag's subcarrier, by receive rate; 0 for NFC-F, which has none (R141). -/
def subTc (tech : Tech) (rate : Nat) : Nat :=
  match tech with
  | .nfcF => 0
  | .nfcV => 32
  | _ => if rate ≤ 3 then 16 else 2 ^ (7 - rate)

/-- One element of a symbol vector, over a symbol period of `per` HB2 samples, the newest first, with the seven before them (R211): the
correlation of the tap's stream with the subcarrier, or for NFC-F the stream's mean, referred to a gain of 0 dB. The vectors that a frame
brings as operands hold it (log entry 62). -/
def Dev.symElem (d : Dev) (n : Nat) (up : Bool) (tech : Tech) (rate per : Nat) (x : List (Int × Int)) : Rat × Rat :=
  let c := subTc tech rate
  let s := (List.range per).foldl (fun (s : Rat × Rat) k =>
    let y := d.tapStream n up (x.drop (per - 1 - k))
    let o := if c = 0 then (1, 0) else Config.subOsc c k
    (s.1 + (y.1 * o.1 + y.2 * o.2), s.2 + (y.2 * o.1 - y.1 * o.2))) (0, 0)
  let m : Rat := if c = 0 then max 1 per else 1
  let f := d.regain n (d.fld F.CH_RX_AGC_GAIN_NOW n) 0 up
  (f (s.1 / m), f (s.2 / m))

end Sys2Proof.Machine
end

