-- ==== Sys2Proof/Machine/RegFile.lean ====
section
/-! DEFINITION. A write of one register by the access types of its fields, under the locks and seals (R7 to R9, R376, R510,
R687), without the effects that single registers add. -/

namespace Sys2Proof.Machine

/-- A value lies in a field's stated range. -/
def inRange (rng : List (Nat × Nat)) (x : Nat) : Bool :=
  rng.isEmpty || rng.any fun (a : Nat × Nat) => decide (a.1 ≤ x) && decide (x ≤ a.2)

/-- The fields that a seal guards (R510): the regulatory fields and SEC_BOOT_CTL.PREFER. -/
def FldRow.isSealed (f : FldRow) : Bool := f.acc == .rwl || f.fld == F.SEC_BOOT_CTL_PREFER

/-- Whether a plain write may change a sealed field (R376, R510). -/
def NonVol.plainOpen (nv : NonVol) (f : FldRow) : Bool :=
  if f.acc = .rwl then decide (nv.life = 1) && !nv.regLock else decide (nv.life ≤ 1)

/-- Whether a sealed write may change a sealed field (R510): a regulatory one only in MANUFACTURE or PROVISIONED and before the
lock, PREFER in every state but DECOMMISSIONED. -/
def NonVol.sealOpen (nv : NonVol) (f : FldRow) : Bool :=
  if f.acc = .rwl then (decide (nv.life = 1) || decide (nv.life = 2)) && !nv.regLock else decide (nv.life ≤ 4)

/-- The register value after one field's part of a write of v (R7, R8, R687). -/
def FldRow.put (f : FldRow) (opn : Bool) (cur v : Nat) : Nat :=
  let x := bits v f.fld.lo f.fld.w
  let set : Nat := if inRange f.rng x then setBits cur f.fld.lo f.fld.w x else cur
  match f.acc with
  | .rw => if f.isSealed && !opn then cur else set
  | .rwl => if opn then set else cur
  | .w1c => setBits cur f.fld.lo f.fld.w ((bits cur f.fld.lo f.fld.w) &&& (2 ^ f.fld.w - 1 - x))
  | .ro | .wo | .rs => cur

/-- A sealed field whose value a plain write would change while its seal holds (R510). -/
def FldRow.refuses (f : FldRow) (nv : NonVol) (cur v : Nat) : Bool :=
  f.isSealed && !nv.plainOpen f && decide (2 ≤ nv.life) && inRange f.rng (bits v f.fld.lo f.fld.w) &&
    bits v f.fld.lo f.fld.w != bits cur f.fld.lo f.fld.w

/-- A plain write of a register, field by field (R7 to R9, R510, R687). -/
def Dev.plainWrite (d : Dev) (nv : NonVol) (r : RegName) (i j v : Nat) : Dev :=
  let cur := d.rd r i j
  let new := (fieldRows r).foldl (fun (c : Nat) (f : FldRow) => f.put (nv.plainOpen f) c v) cur
  let d := if (fieldRows r).any (fun (f : FldRow) => f.refuses nv cur v) then d.setOn F.SEC_STAT_SEAL_REFUSED 0 0 true else d
  if new = cur then d else d.wr r i j new

/-- The sealed registers that SEALED_WRITE reaches (R510, R511). -/
def sealedRegs : List RegName := [.SYN_TRIM_MIN, .SYN_TRIM_MAX, .CH_PWR_LIM, .PAV_LOCK, .SHP_CH_EN_LOCK, .SEC_BOOT_CTL]

end Sys2Proof.Machine
end

