-- ==== Sys2Proof/Machine/Gates.lean ====
section
/-! DEFINITION. Gate lists and fallback windows, energy buckets, credit shapers and coexistence (R351 to R378, R720, R721). -/

namespace Sys2Proof.Machine

/-- Change the gate state of a pavilion. -/
def Dev.modGate (d : Dev) (p : Nat) (f : Gate → Gate) : Dev := d.modPav p fun x => { x with gate := f x.gate }

/-- The channels of a pavilion whose transaction is on the air. -/
def Dev.upIn (d : Dev) (p : Nat) : List Nat :=
  (pavChans p).filter fun n =>
    match (d.ch n).txn with
    | some t => t.phase == .up || t.phase == .rampDown
    | none => false

/-- Whether a field still stands, not yet falling. -/
def Dev.stillUp (d : Dev) (n : Nat) : Bool :=
  match (d.ch n).txn with
  | some t => t.phase == .up
  | none => false

/-- The number of coils that a channel's transaction drives. -/
def Dev.coilCount (d : Dev) (n : Nat) : Nat :=
  match (d.ch n).txn with
  | some t => t.driven.length
  | none => 0

/-- Fields end at a closing: normal ramp-down, GATE_CUT, and one cut counted for each field (R86, R364, R721; log entry 21). -/
def Dev.gateCut (d : Dev) (n : Nat) : Dev :=
  if d.stillUp n then (d.addFld F.PAV_GATE_CUTS_COUNT (pavOf n) 0 (d.coilCount n)).rampDown n .normal (some .gateCut)
  else d

/-- The channels of a pavilion whose transaction is admitted and not yet up. -/
def Dev.admittedIn (d : Dev) (p : Nat) : List Nat :=
  (pavChans p).filter fun n => (d.ch n).txn.any fun t => t.phase == .admitted

/-- Fields of a pavilion whose arbour is closed by a mask end; the others, and those whose field start is still to come, are from now on
held to the new timeline (R364, R720). -/
def Dev.cutClosed (d : Dev) (p mask : Nat) : Dev :=
  let d := d.each (d.upIn p) fun d n =>
    if bitAt mask (arbOf n % 4) then d.modTxn n fun t => { t with closing := d.closingOf p (arbOf n % 4) 0 } else d.gateCut n
  d.each (d.admittedIn p) fun d n =>
    d.modTxn n fun t => { t with closing := d.closingOf p (arbOf n % 4) (25000 * d.leadLeft p) }

/-! ### PAV_GATE_CTL (R362, R363, R720) -/

/-- The admin list as its registers hold it (R359). -/
def Dev.adminList (d : Dev) (p : Nat) : List (Nat × Nat × Bool) :=
  (List.range (d.fld F.PAV_GATE_CTL_ADMIN_LEN p)).map fun e =>
    (d.rd .PAV_GCL_ADMIN_D p e, bits (d.rd .PAV_GCL_ADMIN_M p e) 0 4, bitAt (d.rd .PAV_GCL_ADMIN_M p e) 4)

/-- The change time for a base time: 100 µs ahead at least (R362), a 64-bit count of ns (R4). -/
def changeTime (now base cycle : Nat) : Nat :=
  if now + 100000 ≤ base then base else (base + (now + 100000 - base + cycle - 1) / cycle * cycle) % 2 ^ 64

/-- CHANGE takes the admin list, or sets ADMIN_ERR (R362); on a following pavilion an EPOCH will give the change time (R681). -/
def Dev.gateChange (d : Dev) (p : Nat) : Dev :=
  if (d.pav p).gate.pend.isSome then d
  else
    let l := d.adminList p
    let cyc := d.rd .PAV_GATE_CYCLE p
    let good : Bool := decide (1 ≤ l.length) && decide (l.length ≤ 64) && l.all (fun (e : Nat × Nat × Bool) => decide (1000 ≤ e.1)) &&
      decide (1000 ≤ cyc)
    if good then
      let t := changeTime d.now (d.pair .PAV_GATE_BASE_L .PAV_GATE_BASE_H p) cyc
      let follow := bitAt (d.fld F.PRM_EPOCH_CTL_FOLLOW) p
      d.modGate p fun g => { g with pend := some { base := t, cycle := cyc, entries := l, follow := follow } }
    else d.setOn F.PAV_GATE_STAT_ADMIN_ERR p 0 true

/-- CANCEL drops the pending list (R363). -/
def Dev.gateCancel (d : Dev) (p : Nat) : Dev := d.modGate p fun g => { g with pend := none }

/-- Setting EN from 0 to 1 takes effect 100 µs later; clearing it opens every arbour at once (R720). -/
def Dev.gateEn (d : Dev) (p : Nat) (was : Bool) : Dev :=
  let is := d.on F.PAV_GATE_CTL_EN p
  if is && !was then d.modGate p fun g => { g with enAt := some (d.tc + 1356) }
  else if !is && was then
    let d := d.modGate p fun g => { g with mode := .open_, enAt := none, lostEnd := none }
    d.each (pavChans p) fun d n => d.modTxn n fun t => { t with closing := .never }
  else d

/-- A write of PAV_GATE_CTL: CANCEL acts first, then CHANGE; ADMIN_LEN is judged by PENDING before the write (R362, R363, R720). -/
def Dev.gateCtlWrite (d : Dev) (nv : NonVol) (p v : Nat) : Dev :=
  let was := d.on F.PAV_GATE_CTL_EN p
  let len := d.fld F.PAV_GATE_CTL_ADMIN_LEN p
  let pend := (d.pav p).gate.pend.isSome
  let d := d.plainWrite nv .PAV_GATE_CTL p 0 (if pend then setBits v 8 7 len else v)
  let d := d.cond (bitAt v 2) (·.gateCancel p)
  let d := d.cond (bitAt v 1) (·.gateChange p)
  (d.gateEn p was).retry p

/-- A write of the admin list, its base time or its cycle time; discarded while a change is pending (R363). -/
def Dev.gateAdminWrite (d : Dev) (nv : NonVol) (r : RegName) (p e v : Nat) : Dev :=
  if (d.pav p).gate.pend.isSome then d else d.plainWrite nv r p e v

/-- GATE_CHANGE (R362): a write of PAV_GATE_CTL with CHANGE set. -/
def execGateChange (pav : Fin 6) (v : Word) (s : State) : Host.Outcome State Fault Refusal :=
  onDev (fun nv d => d.gateCtlWrite nv pav (setBits v.toNat 1 1 1)) s

/-- GATE_CANCEL (R363): a write of PAV_GATE_CTL with CANCEL set. -/
def execGateCancel (pav : Fin 6) (v : Word) (s : State) : Host.Outcome State Fault Refusal :=
  onDev (fun nv d => d.gateCtlWrite nv pav (setBits v.toNat 2 1 1)) s

/-- GATE_ENABLE (R720): a write of PAV_GATE_CTL that sets or clears EN. -/
def execGateEnable (pav : Fin 6) (v : Word) (s : State) : Host.Outcome State Fault Refusal :=
  onDev (fun nv d => d.gateCtlWrite nv pav v.toNat) s

/-! ### The timeline's instants -/

/-- A pavilion takes up the timeline that R365 names: the operational list under lock, else fallback windows from now on; what the
new timeline closes now ends (R365, R366, R720). -/
def Dev.gateTake (d : Dev) (p : Nat) : Dev :=
  let g := (d.pav p).gate
  match d.locked, g.oper with
  | true, some l =>
    (d.modGate p fun g => { g with mode := .oper, enAt := none, lostEnd := none }).cutClosed p (l.entryAt d.now).1
  | _, _ =>
    let d := d.modGate p fun g => { (d.loadFb p d.tc g) with mode := .fallback, enAt := none, lostEnd := none }
    d.cutClosed p (d.pav p).gate.fbMask

/-- Units from now to a pending list change or enabling that closes arbour i of a pavilion (R364, R720). -/
def Dev.changeLeft (d : Dev) (p i : Nat) : Option Nat :=
  let g := (d.pav p).gate
  match g.enAt, g.pend with
  | some e, _ =>
    let dt := 25000 * e - d.carU
    if (d.gateRemain p i dt).isSome then none else some dt
  | none, some l =>
    if g.mode ≠ .open_ ∧ d.locked ∧ !l.follow ∧ !bitAt (l.entryAt l.base).1 i then some (339 * l.base - d.netU) else none
  | none, none => none

/-- The nearer of two instants. -/
def sooner (a b : Option Nat) : Option Nat :=
  match a, b with
  | none, x => x
  | x, none => x
  | some x, some y => some (min x y)

/-- Units from now to the closing that ends a running field (R361, R364, R720, R721). -/
def Dev.cutLeft (d : Dev) (n : Nat) : Option Nat :=
  match (d.ch n).txn with
  | some t => if t.phase = .up then sooner (d.closeLeft t.closing) (d.changeLeft (pavOf n) (arbOf n % 4)) else none
  | none => none

/-- The longest normal ramp-down of a transaction's coils, in Tc (R85). -/
def Dev.downTc (d : Dev) (n : Nat) : Nat :=
  match (d.ch n).txn with
  | some t => (t.driven.map fun k => d.fld F.CH_RAMP_DOWN k.ch).foldl max 0
  | none => 0

/-- Units from now to the start of the ramp-down that a closing brings to a channel's field (R86). -/
def Dev.fallLeft (d : Dev) (n : Nat) : Option Nat := (d.cutLeft n).map (· - 25000 * d.downTc n)

/-- The clock runs on by units of 1/339 ns, in the carrier's time or in network time, to the last cycle at or before that instant. -/
def Dev.runOn (d : Dev) (u : Nat) (net : Bool) : Dev :=
  if net then d.runNetBy (d.netU + u) else d.runTo ((d.carU + u) / 25000)

/-- The instant that lies `u` units ahead is reached before another cycle is over: a ramp-down that waited for that cycle would end too
late (R86). -/
def Dev.atHand (d : Dev) (u : Nat) (net : Bool) : Bool :=
  u == 0 || (if net then decide (u ≤ d.tick.netU - d.netU) else decide (u < 25000))

/-- GATE_CLOSING (R86, R361, R721): an arbour passes from open to closed in the operational list, or in the fallback windows. Its fields
begin to fall by their ramp-down before the closing that they were admitted against, or that a pending change brings: the clock runs on
to the first such instant, or to the last cycle before it, so that the ramp-down ends no later than the closing. -/
def execGateClosing (arb : Fin 24) (fallback : Bool) (s : State) : Host.Outcome State Fault Refusal :=
  onDev (fun _ d =>
    let a : Nat := arb
    let d := match (arbChans a).foldl (fun x n => sooner x (d.fallLeft n)) none with
      | some u => d.runOn u !fallback
      | none => d
    d.each (arbChans a) fun d n => d.cond ((d.fallLeft n).any fun u => d.atHand u !fallback) (·.gateCut n)) s

/-- GATE_ENTRY_BOUNDARY (R349, R360): the next entry of the operational list in force begins. -/
def execGateEntryBoundary (pav : Fin 6) (s : State) : Host.Outcome State Fault Refusal :=
  onDev (fun _ d =>
    let d := match (d.pav pav).gate.mode, (d.pav pav).gate.oper with
      | .oper, some l => d.runNet (339 * (d.now + (l.entryAt d.now).2))
      | _, _ => d
    d.retry pav) s

/-- GATE_LIST_SWITCH (R364): at the change time the pending list becomes operational, and under lock with gate control on it is the
timeline at once. -/
def execGateListSwitch (pav : Fin 6) (s : State) : Host.Outcome State Fault Refusal :=
  onDev (fun _ d =>
    let p : Nat := pav
    match (d.pav p).gate.pend with
    | none => d
    | some l =>
      if l.follow then d else
      let d := d.runNet (339 * l.base)
      let d := d.modGate p fun g => { g with oper := some l, pend := none }
      let d := if (d.pav p).gate.mode ≠ .open_ ∧ d.locked then
          (d.modGate p fun g => { g with mode := .oper, lostEnd := none }).cutClosed p (l.entryAt l.base).1
        else d
      d.retry p) s

/-- GATE_ENABLE_EFFECT (R720). -/
def execGateEnableEffect (pav : Fin 6) (s : State) : Host.Outcome State Fault Refusal :=
  onDev (fun _ d =>
    match (d.pav pav).gate.enAt with
    | some e => ((d.runTo e).gateTake pav).retry pav
    | none => d) s

/-- Carrier cycle at which a pavilion's next fallback period starts, rounded up to a whole cycle (R366, R367; log entry 42). -/
def Gate.nextFb (g : Gate) : Nat := if g.lostEnd.isSome then g.fbStart else g.fbStart + usTc g.fbPeriod

/-- FALLBACK_PERIOD_START (R366, R367, R369). -/
def execFallbackPeriodStart (pav : Fin 6) (s : State) : Host.Outcome State Fault Refusal :=
  onDev (fun _ d =>
    let p : Nat := pav
    if (d.pav p).gate.mode = .fallback then
      let d := d.runTo (d.pav p).gate.nextFb
      (d.modGate p fun g => { (d.loadFb p d.tc g) with lostEnd := none }).retry p
    else d) s

/-- OPER_LIST_TAKEOVER (R368, R721): at a cycle start of the operational list; running fields keep the closing they were admitted
against. -/
def execOperListTakeover (pav : Fin 6) (s : State) : Host.Outcome State Fault Refusal :=
  onDev (fun _ d =>
    let p : Nat := pav
    match (d.pav p).gate.mode, (d.pav p).gate.oper with
    | .fallback, some l =>
      if d.locked then
        let d := d.runNet (d.netU + l.toCycle d.netU % (339 * l.cycle))
        (d.modGate p fun g => { g with mode := .oper, lostEnd := none }).retry p
      else d
    | _, _ => d) s

/-- The fallback registers: open length, period, configuration. -/
def fbReg (which : Nat) : RegName :=
  if which = 0 then .PAV_GATE_FB_OPEN else if which = 1 then .PAV_GATE_FB_PERIOD else .PAV_GATE_FB_CFG

/-- GATE_FB_WRITE (R369): checked against its own range; in effect from the next period start. -/
def execGateFbWrite (pav : Fin 6) (which : Fin 3) (v : Word) (s : State) : Host.Outcome State Fault Refusal :=
  onDev (fun nv d => d.plainWrite nv (fbReg which) pav 0 v.toNat) s

/-! ### Buckets (R355 to R358) -/

/-- Tokens and their limits after a change of RATE or DEPTH: what is held is kept, clamped to the new depth (R358). -/
def Dev.clampTokens (d : Dev) (p : Nat) : Dev := d.settleTokens p

/-- A write of PAV_BKT_RATE or PAV_BKT_DEPTH (R357, R358). -/
def Dev.bktWrite (d : Dev) (nv : NonVol) (p : Nat) (depth : Bool) (v : Nat) : Dev :=
  let r : RegName := if depth then .PAV_BKT_DEPTH else .PAV_BKT_RATE
  let new := (d.settleTokens p).plainWrite nv r p 0 v
  if new.fld F.PAV_BKT_RATE_RATE p + new.fld F.PAV_BKT_DEPTH_DEPTH p ≤ d.fld F.PAV_LOCK_BUDGET p then (new.clampTokens p).retry p
  else d.setOn F.PAV_BKT_STAT_REFUSED p 0 true

/-- BUDGET has been loaded or written: DEPTH is lowered first, down to 1 mJ, then RATE (R357). -/
def Dev.fitBudget (d : Dev) (p : Nat) : Dev :=
  let b := d.fld F.PAV_LOCK_BUDGET p
  let r := d.fld F.PAV_BKT_RATE_RATE p
  if r + d.fld F.PAV_BKT_DEPTH_DEPTH p ≤ b then d
  else
    let d := d.settleTokens p
    let d := d.setFld F.PAV_BKT_DEPTH_DEPTH p 0 (max 1 (b - r))
    let d := if b < r + 1 then d.setFld F.PAV_BKT_RATE_RATE p 0 (b - 1) else d
    d.clampTokens p

/-- A plain write of PAV_LOCK (R357, R376). -/
def Dev.lockWrite (d : Dev) (nv : NonVol) (p v : Nat) : Dev := ((d.plainWrite nv .PAV_LOCK p 0 v).fitBudget p).retry p

/-- BKT_WRITE (R357, R358). -/
def execBktWrite (pav : Fin 6) (depth : Bool) (v : Word) (s : State) : Host.Outcome State Fault Refusal :=
  onDev (fun nv d => d.bktWrite nv pav depth v.toNat) s

/-- BUDGET_WRITE (R357): a write of PAV_LOCK. -/
def execBudgetWrite (pav : Fin 6) (v : Word) (s : State) : Host.Outcome State Fault Refusal :=
  onDev (fun nv d => d.lockWrite nv pav v.toNat) s

/-! ### Credit shapers (R351 to R354) -/

/-- The shaper registers: control, ceiling, floor. -/
def shpReg (which : Nat) : RegName := if which = 0 then .CH_SHP_CTL else if which = 1 then .CH_SHP_HI else .CH_SHP_LO

/-- The start of the next 64 Tc window of the common grid (R719). -/
def Dev.nextWindow (d : Dev) : Nat := (d.tc / 64 + 1) * 64

/-- A write of a shaper register: the settings in force hold to the next window boundary (R354). -/
def Dev.shpWrite (d : Dev) (nv : NonVol) (n which v : Nat) : Dev :=
  let d := d.settleCredit n
  let d := d.modCh n fun c => { c with shpOld := some (c.shpOld.getD { d.shpRegs n with until_ := d.nextWindow }) }
  d.plainWrite nv (shpReg which) n 0 v

/-- SHP_WRITE (R354). -/
def execShpWrite (ch : Fin 192) (which : Fin 3) (v : Word) (s : State) : Host.Outcome State Fault Refusal :=
  onDev (fun nv d => d.shpWrite nv ch which v.toNat) s

/-- The end of the next interval of a grid of `len` cycles, after one that ended at `last` of the grid (R352, R719). -/
def Dev.gridEnd (d : Dev) (len last : Nat) : Nat := max ((d.tc + len - 1) / len * len) ((last / len + 1) * len)

/-- DUTY_SLICE_END (R352): the duty of every channel is brought up to date, and waiting transactions are tried again. -/
def execDutySliceEnd (s : State) : Host.Outcome State Fault Refusal :=
  onDev (fun _ d =>
    let e := d.gridEnd tcMs d.time.sliceAt
    let d := d.runTo e
    let d := { d with time := { d.time with sliceAt := e } }
    (d.each d.chanKeys fun d n => d.settleDuty n).retryAll) s

/-! ### Coexistence (R370 to R375) -/

/-- A pavilion's entry or fallback period in force asks for coexistence priority (R374). -/
def Dev.priNow (d : Dev) (p : Nat) : Bool :=
  let g := (d.pav p).gate
  match g.mode with
  | .open_ => false
  | .oper => g.oper.any fun (l : GList) => l.priAt d.now
  | .fallback => if g.lostEnd.isSome && decide (d.tc < g.fbStart) then g.lostPri else g.fbPri

/-- The level of the COEX_PRI output (R374), a function of the state. -/
def Dev.coexPri (d : Dev) : Bool :=
  match d.fld F.SHP_COEX_PRI_MODE with
  | 1 => false
  | 2 => true
  | _ => (List.range 6).any fun p => (d.pav p).req && d.priNow p

/-- The fields of a channel's transaction that a fast ramp-down takes: those that stand, and those that fall by the normal one (R85,
R373). -/
def Dev.fallable (d : Dev) (n : Nat) : Nat :=
  match (d.ch n).txn with
  | some t => if t.phase = .up ∨ t.phase = .rampDown ∧ t.ramp = .normal then t.driven.countP fun (k : Driven) => !k.hard else 0
  | none => 0

/-- A fall of the grant acts: fields that are up fall fast with COEX_REVOKED, each counted, and admitted transactions wait again (R372,
R373); what waits shows the cause (R378). -/
def Dev.grantFall (d : Dev) (p : Nat) : Dev :=
  (d.each (pavChans p) fun d n =>
    ((d.addFld F.PAV_COEX_STAT_REVOKES p 0 (d.fallable n)).rampDown n .fast (some .coexRevoked)).backToWait n).retry p

/-- COEX_GNT_FALL (R371 to R373, R375): the grant has been low for 1 µs. -/
def execCoexGntFall (pav : Fin 6) (s : State) : Host.Outcome State Fault Refusal :=
  onDev (fun _ d =>
    let p : Nat := pav
    let was := (d.pav p).gntPin
    let d := d.modPav p fun x => { x with gntPin := false }
    if was && d.on F.PAV_COEX_EN p then d.grantFall p else d) s

/-- COEX_GNT_RISE (R347, R349). -/
def execCoexGntRise (pav : Fin 6) (s : State) : Host.Outcome State Fault Refusal :=
  onDev (fun _ d => (d.modPav pav fun x => { x with gntPin := true }).retry pav) s

/-- A write of PAV_COEX (R375): setting EN while the grant is low acts as its fall. -/
def Dev.coexWrite (d : Dev) (nv : NonVol) (p v : Nat) : Dev :=
  let was := d.on F.PAV_COEX_EN p
  let d := d.plainWrite nv .PAV_COEX p 0 v
  (if d.on F.PAV_COEX_EN p && !was && !(d.pav p).gntPin then d.grantFall p else d).retry p

/-- COEX_EN_WRITE (R375). -/
def execCoexEnWrite (pav : Fin 6) (v : Word) (s : State) : Host.Outcome State Fault Refusal :=
  onDev (fun nv d => d.coexWrite nv pav v.toNat) s

end Sys2Proof.Machine
end

