-- ==== Sys2Proof/Machine/Drip.lean ====
section
/-! DEFINITION. The quantities that the calibration engine forms and applies: records, temperature sets, residuals, Drip
(R541 to R554; log entry 29). -/

namespace Sys2Proof.Machine

/-! ### Records (R551 to R554) -/

/-- The key of a record: type 1 channel set, 2 reference, 3 arbour coupling; owner; index. -/
def recKey (ty owner ix : Nat) : Nat := (ty * 256 + owner) * 8 + ix

/-- A copy of a record is valid: header, length, generation and check word (R551). -/
def recOk (l : List Byte) : Bool :=
  decide (28 ≤ l.length) && leAt l 0 2 == 0x4C43 && leAt l 6 2 == l.length && leAt l 8 4 != 0xFFFFFFFF &&
    leAt l (l.length - 4) 4 == crc32c (l.take (l.length - 4))

/-- The copy that counts: the valid one with the higher generation (R554). -/
def recBest (c : List Byte × List Byte) : Option (List Byte) :=
  match recOk c.1, recOk c.2 with
  | true, true => if leAt c.1 8 4 < leAt c.2 8 4 then some c.2 else some c.1
  | true, false => some c.1
  | false, true => some c.2
  | false, false => none

/-- The record of a key, if a valid copy is held. -/
def NonVol.record (nv : NonVol) (key : Nat) : Option (List Byte) := (tblFind nv.calRec key).bind recBest

/-- A record's bytes: header, payload, check word (R551). -/
def recBytes (ty ix owner gen : Nat) (temp : Nat) (time : Nat) (payload : List Byte) : List Byte :=
  let b := toLe 2 0x4C43 ++ toLe 1 ty ++ toLe 1 ix ++ toLe 2 owner ++ toLe 2 (28 + payload.length) ++ toLe 4 gen ++
    toLe 2 temp ++ toLe 2 0 ++ toLe 8 time ++ payload
  b ++ toLe 4 (crc32c b)

/-- Write a record to the copy with the lower valid generation, or to an invalid copy (R554). -/
def NonVol.putRecord (nv : NonVol) (key : Nat) (l : List Byte) : NonVol :=
  let c := tblGet nv.calRec key ([], [])
  let new := if !recOk c.1 then (l, c.2) else if !recOk c.2 then (c.1, l)
    else if leAt c.1 8 4 ≤ leAt c.2 8 4 then (l, c.2) else (c.1, l)
  { nv with calRec := tblPut nv.calRec key new }

/-- The generation of the next write of a record (R551). -/
def NonVol.nextGen (nv : NonVol) (key : Nat) : Nat :=
  match nv.record key with
  | some l => leAt l 8 4 + 1
  | none => 1

/-! ### Temperature sets (R541 to R545) -/

/-- The quantities of a channel set (R552): feedforward, sensor gain, P_MAX, phase, series trim, shunt trim, modulation trim,
ADC offsets I and Q, PGA offset and slope, PREEMP. -/
def setVals (l : List Byte) : List Int :=
  [(leAt l 24 2 : Nat), (leAt l 26 2 : Nat), (leAt l 28 2 % 4096 : Nat), (leAt l 30 2 : Nat), toInt 7 (leAt l 32 1),
   (leAt l 33 1 % 64 : Nat), toInt 8 (leAt l 34 1), toInt 16 (leAt l 36 2), toInt 16 (leAt l 38 2), toInt 8 (leAt l 40 1),
   toInt 8 (leAt l 41 1), (leAt l 35 1 % 8 : Nat)]

/-- A channel's valid sets: index, temperature in 0.25 °C, and quantities. -/
def NonVol.sets (nv : NonVol) (n : Nat) : List (Nat × Int × List Int) :=
  (List.range 5).filterMap fun i => (nv.record (recKey 1 n i)).map fun (l : List Byte) => (i, toInt 10 (leAt l 12 2), setVals l)

/-- The set nearest at or below a temperature, and the one nearest above (R543). -/
def setLower (l : List (Nat × Int × List Int)) (t : Int) : Option (Nat × Int × List Int) :=
  l.foldl (fun a (x : Nat × Int × List Int) => if t < x.2.1 then a else match a with
    | some y => if y.2.1 < x.2.1 then some x else a
    | none => some x) none
/-- The set nearest above a temperature. -/
def setUpper (l : List (Nat × Int × List Int)) (t : Int) : Option (Nat × Int × List Int) :=
  l.foldl (fun a (x : Nat × Int × List Int) => if x.2.1 ≤ t then a else match a with
    | some y => if x.2.1 < y.2.1 then some x else a
    | none => some x) none

/-- A rational number as numerator and positive denominator. -/
abbrev Rat2 := Int × Int

/-- Quantity q of a channel interpolated at a temperature (R543); phase, quantity 3, along the shorter arc. -/
def interp (l : List (Nat × Int × List Int)) (t : Int) (q : Nat) : Option Rat2 :=
  match setLower l t, setUpper l t with
  | none, none => none
  | some a, none => some (a.2.2.getD q 0, 1)
  | none, some b => some (b.2.2.getD q 0, 1)
  | some a, some b =>
    let vi := a.2.2.getD q 0
    let dv := b.2.2.getD q 0 - vi
    let dv := if q = 3 then toInt 16 (ofInt 16 dv) else dv
    some (vi * (b.2.1 - a.2.1) + dv * (t - a.2.1), b.2.1 - a.2.1)

/-- Quantities whose residual is a ratio: gains and P_MAX (R544). -/
def isRatio (q : Nat) : Bool := q == 0 || q == 1 || q == 2

/-- The residual of a result against an interpolation (R544). -/
def residOf (q : Nat) (v : Int) (i : Rat2) : Rat2 :=
  if isRatio q then (if i.1 = 0 then (1, 1) else (v * i.2, i.1))
  else
    let x := v * i.2 - i.1
    if q = 3 then (let m := 65536 * i.2; ((x + m / 2) % m - m / 2, i.2)) else (x, i.2)

/-- An interpolation corrected by a residual. -/
def withResid (q : Nat) (i r : Rat2) : Rat2 :=
  if isRatio q then (i.1 * r.1, i.2 * r.2) else (i.1 * r.2 + r.1 * i.2, i.2 * r.2)

/-- Round a rational to the nearest whole number. -/
def Dev.nearest2 (d : Dev) (x : Rat2) (scale : Nat) : Int × Dev :=
  if x.2 < 0 then d.nearest (-x.1) ((-x.2).toNat * scale) else d.nearest x.1 (x.2.toNat * scale)

/-- A quantity as it is applied: held to its width; phase in 1/1024 turn (R545). -/
def holdQty (q : Nat) (v : Int) : Int :=
  match q with
  | 0 | 1 => clampInt 0 65535 v
  | 2 => clampInt 0 4095 v
  | 3 => v % 1024
  | 4 => clampInt (-64) 63 v
  | 5 => clampInt 0 63 v
  | 7 | 8 => clampInt (-32768) 32767 v
  | _ => clampInt (-128) 127 v

/-- The quantities of a channel formed at a die temperature (R543 to R545); none without a valid set. -/
def Dev.form (d : Dev) (nv : NonVol) (n : Nat) (t : Int) : Option (List Int) × Dev :=
  let l := nv.sets n
  match setLower l t, setUpper l t with
  | none, none => (none, d)
  | lo, up =>
    let res := tblGet d.cal.resid n []
    let r := (List.range 11).foldl (fun (a : List Int × Dev) q =>
      let i := (interp l t q).getD (0, 1)
      let (v, d) := a.2.nearest2 (withResid q i (res.getD q (if isRatio q then (1, 1) else (0, 1)))) (if q = 3 then 64 else 1)
      (a.1 ++ [holdQty q v], d)) ([], d)
    let near := match lo, up with
      | some a, some b => if b.2.1 - t < t - a.2.1 then b else a
      | some a, none => a
      | none, some b => b
      | none, none => (0, 0, [])
    (some (r.1 ++ [near.2.2.getD 11 0]), r.2)

/-! ### Application and Drip (R547 to R550) -/

/-- The quantities of a channel in force. -/
def Dev.calApplied (d : Dev) (n : Nat) : List Int := tblGet d.cal.applied n []

/-- Put a quantity into force, with its register. -/
def Dev.calPut (d : Dev) (n q : Nat) (v : Int) : Dev :=
  let old := (d.calApplied n)[q]?
  let d := d.putApplied n q v
  match q with
  | 2 => d.setFld F.CH_FIELD_MAX_PWR n 0 v.toNat
  | 3 => d.setFld F.CH_PHASE_OFS_CAL n 0 (ofInt 10 v)
  | 11 => if old = some v then d else d.setFld F.CH_MOD_SHAPE_PREEMP n 0 (ofInt 3 v)
  | _ => d

/-- The automatic tuner has moved the trim away from its calibrated value (R101, R550). -/
def Dev.autoMoved (d : Dev) (n : Nat) : Bool :=
  d.on F.CH_TUNE_CTL_AUTO n && d.fld F.CH_TUNE_SER n != d.fld F.CH_TUNE_CAL_SER n

/-- Interpolated tuner trims take effect with the field off (R550). -/
def Dev.calTune (d : Dev) (n : Nat) (ser shunt : Int) : Dev :=
  let moved := d.autoMoved n
  let d := (d.setFld F.CH_TUNE_CAL_SER n 0 (ofInt 7 ser)).setFld F.CH_TUNE_CAL_SHUNT n 0 (ofInt 6 shunt)
  if moved then d else (d.setFld F.CH_TUNE_SER n 0 (ofInt 7 ser)).setFld F.CH_TUNE_SHUNT n 0 (ofInt 6 shunt)

/-- What Drip still has to apply of the phase (R548). -/
def Dev.dripPhase (d : Dev) (n : Nat) (target : Int) : Dev :=
  d.setFld F.CH_CAL_DRIP_PHASE_LEFT n 0 (ofInt 10 (toInt 10 (ofInt 10 (target - (d.fld F.CH_PHASE_OFS_CAL n : Nat)))))

/-- The formed quantities of a channel take effect as far as they may now (R547). -/
def Dev.calSettle (d : Dev) (n : Nat) : Dev :=
  match tblFind d.cal.target n with
  | none => d
  | some t =>
    let v (q : Nat) : Int := t.getD q 0
    let d := d.calPut n 2 (v 2)
    let d := if d.inFrame n then d else d.each [7, 8, 9, 10] fun d q => d.calPut n q (v q)
    if d.coilOn n then d.dripPhase n (v 3)
    else
      let d := d.each [0, 1, 3, 6, 11] fun d q => d.calPut n q (v q)
      let d := (d.calPut n 4 (v 4)).calPut n 5 (v 5)
      (d.calTune n (v 4) (v 5)).wr .CH_CAL_DRIP n 0 0

/-- The largest x below 2,048 with p · 10^x ≤ q, for 0 < p ≤ q, found bit by bit. -/
def logSteps (p q : Nat) : Nat :=
  [1024, 512, 256, 128, 64, 32, 16, 8, 4, 2, 1].foldl (fun x k => if p * 10 ^ (x + k) ≤ q then x + k else x) 0

/-- The decimal logarithm of q/p as a whole number; how it is rounded, and what it is of 0, are free values (log entry 1). -/
def Dev.logRatio (d : Dev) (p q : Nat) : Int × Dev :=
  let up (a b : Nat) (x : Nat) : Nat := logSteps a b + (if a * 10 ^ logSteps a b = b then 0 else x % 2)
  let (x, d) := d.free
  if p = 0 ∨ q = 0 then (toInt 12 x, d) else if p ≤ q then ((up p q x : Nat), d) else (-(up q p x : Nat), d)

/-- A change of the feedforward scale in 0.01 dB (R548). -/
def Dev.gainDelta (d : Dev) (a b : Nat) : Int × Dev := if a = b then (0, d) else d.logRatio (a ^ 2000) (b ^ 2000)

/-- The residual gain error of a field at a level with a power in µW: over the level's ideal, in 0.01 dB (R66, R556). -/
def Dev.resGain (d : Dev) (n lvl uw : Nat) : Int × Dev :=
  d.logRatio ((1000 * d.fld F.CH_FIELD_MAX_PWR n) ^ 1000) (uw ^ 1000 * 10 ^ (25 * lvl))

/-- A phase of the drive-tap current against the accumulator, with USER taken as 0 (R530), in 1/65,536 turn. -/
def Dev.alignedPhase (d : Dev) (n ph : Nat) : Int := (ph : Int) - (64 * d.fld F.CH_PHASE_OFS_USER n : Nat)

/-- The residual phase error: over the aligned phase 0, in 0.1° (R530, R556). -/
def Dev.resPhase (d : Dev) (n ph : Nat) : Int × Dev := d.quot (3600 * toInt 16 (ofInt 16 (d.alignedPhase n ph))) 65536

/-! ### The drive of a running field (R72 to R76, R548) -/

/-- The feedforward scale of a channel at the die temperature last applied, 1/32,768 (R72, R546). -/
def Dev.ffScale (d : Dev) (n : Nat) : Nat :=
  match tblFind d.cal.target n with
  | some l => (l.getD 0 0).toNat
  | none => Config.blankScale n

/-- The pulse width of a coil whose field is up: the setpoint's feedforward scaled by NOM over VDRV, or by 1 with VCOMP_EN = 0 (R72,
R76), less what Drip holds back (R548), and what the loop adds (R73, R74). -/
def Dev.pulseOut (d : Dev) (n lvl : Nat) : Output :=
  let p := pavOf n
  let k := (d.ch n).drive
  let v := if d.on F.CH_TX_CTL_VCOMP_EN n then d.fld F.PAV_VDRV_MEAS p else d.fld F.PAV_VDRV_NOM p
  .pulse n lvl (d.ffScale n * d.fld F.PAV_VDRV_NOM p * k.num) (32768 * v * k.den) k.corr (d.fldI F.CH_CAL_DRIP_GAIN_LEFT n)

/-- Set the pulse width of a channel's coil, while its field is up. -/
def Dev.pulse (d : Dev) (n : Nat) : Dev :=
  match (d.ch n).fieldOf.filter fun _ => d.coilOn n with
  | some m =>
    match (d.ch m).txn with
    | some t =>
      match t.driven.find? fun k => k.ch == n with
      | some k => d.emit (d.pulseOut n k.lvl)
      | none => d
    | none => d
  | none => d

/-- A channel's quantities are formed again and take effect (R546, R547). -/
def Dev.calForm (d : Dev) (nv : NonVol) (n : Nat) : Dev :=
  match d.form nv n (d.fldI F.CAL_TEMP_DIE) with
  | (none, d) => d
  | (some t, d) =>
    let old := tblGet d.cal.target n (d.calApplied n)
    let d := { d with cal := { d.cal with target := tblPut d.cal.target n t } }
    let d := if d.coilOn n then
        let (g, d) := d.gainDelta (old.getD 0 0).toNat (t.getD 0 0).toNat
        d.setFld F.CH_CAL_DRIP_GAIN_LEFT n 0 (ofInt 12 (clampInt (-2048) 2047 (d.fldI F.CH_CAL_DRIP_GAIN_LEFT n + g)))
      else d
    (d.calSettle n).pulse n

/-- A field-group transaction holds Drip on a channel (R549). -/
def Dev.dripHeld (d : Dev) (n : Nat) : Bool :=
  (arbChans (arbOf n)).any fun m =>
    match (d.ch m).txn with
    | some t => t.phase != .waiting &&
        (match t.fg with
         | some g => (d.members (arbOf n) g).contains (n % 8)
         | none => false)
    | none => false

/-- One bounded step of a pending correction on a running field (R548): one phase step at most once per 176 µs, 0.05 dB at most
in 100 µs. -/
def Dev.dripStep (d : Dev) (n : Nat) : Dev :=
  if !d.coilOn n || d.dripHeld n then d
  else
    let t := tblGet d.cal.target n []
    let ph := d.fldI F.CH_CAL_DRIP_PHASE_LEFT n
    let due (l : Tbl Nat) (gap : Nat) : Bool := match tblFind l n with
      | some x => decide (x + gap ≤ d.tc)
      | none => true
    let d := if ph ≠ 0 ∧ due d.cal.dripPh 2387 then
        let one : Int := if 0 < ph then 1 else -1
        let d := d.calPut n 3 (((d.fld F.CH_PHASE_OFS_CAL n : Nat) + one) % 1024)
        ({ d with cal := { d.cal with dripPh := tblPut d.cal.dripPh n d.tc } }).setFld
          F.CH_CAL_DRIP_PHASE_LEFT n 0 (ofInt 10 (ph - one))
      else d
    let g := d.fldI F.CH_CAL_DRIP_GAIN_LEFT n
    if g ≠ 0 ∧ due d.cal.dripGn 1356 then
      let new := g - clampInt (-5) 5 g
      let d := ({ d with cal := { d.cal with dripGn := tblPut d.cal.dripGn n d.tc } }).setFld
        F.CH_CAL_DRIP_GAIN_LEFT n 0 (ofInt 12 new)
      (if new = 0 then d.calPut n 0 (t.getD 0 0) else d).pulse n
    else d

/-! ### Meanings -/

/-- CAL_TEMP_UPDATE (R543 to R546). -/
def execCalTempUpdate (s : State) : Host.Outcome State Fault Refusal :=
  onDev (fun nv d =>
    let d := d.setFld F.CAL_TEMP_DIE 0 0 (d.fld F.PWR_TEMP_DIE)
    d.each allChans fun d n => d.calForm nv n) s

/-- DRIP_STEP (R548, R549). -/
def execDripStep (ch : Fin 192) (s : State) : Host.Outcome State Fault Refusal := onDev (fun _ d => d.dripStep ch) s

end Sys2Proof.Machine
end

