-- ==== Sys2Proof/Machine/Kmac.lean ====
section
/-! DEFINITION. SHAKE256 and KMAC256, the digest and tag functions that the manual names (R458, R483, R497), as FIPS 202 and
NIST SP 800-185 define them (log entry 14). -/

namespace Sys2Proof.Machine

/-- A lane of the Keccak state. -/
abbrev Lane := BitVec 64

/-- The state as five planes of five lanes: lane x of plane y. -/
abbrev Planes := List (List Lane)

/-- The walk of the rho step over the 24 lanes other than (0, 0): position and offset, the (t + 1)(t + 2)/2 of FIPS 202. -/
def rhoWalk : List (Nat × Nat × Nat) :=
  ((List.range 24).foldl (fun (acc : List (Nat × Nat × Nat) × Nat × Nat) t =>
    (acc.1 ++ [(acc.2.1, acc.2.2, (t + 1) * (t + 2) / 2 % 64)], acc.2.2, (2 * acc.2.1 + 3 * acc.2.2) % 5)) ([], 1, 0)).1

/-- The rotation that the rho step gives lane (x, y). -/
def rhoOffset (x y : Nat) : Nat :=
  match rhoWalk.find? fun (e : Nat × Nat × Nat) => e.1 == x && e.2.1 == y with
  | some e => e.2.2
  | none => 0

/-- The bits rc of FIPS 202, by the feedback register x^8 + x^6 + x^5 + x^4 + 1 from 1 on, n of them. -/
def rcBits : Nat → Nat → List Bool
  | 0, _ => []
  | n + 1, r => (r % 2 == 1) :: rcBits n (if 128 ≤ r then Nat.xor (2 * r) 0x171 else 2 * r)

/-- The constant of a round from its seven bits of the register: bit j stands at place 2^j − 1. -/
def roundConst (b : List Bool) : Lane :=
  (b.zipIdx.filter (·.1)).foldl (fun (s : Lane) e => s ^^^ (1#64 <<< (2 ^ e.2 - 1))) 0

/-- The constants of the 24 rounds. -/
def roundConsts : List Lane :=
  let b := rcBits 168 1
  (List.range 24).map fun i => roundConst ((b.drop (7 * i)).take 7)

/-- Exclusive or, lane by lane. -/
def xorLanes (p q : List Lane) : List Lane := List.zipWith (· ^^^ ·) p q

/-- The theta step: every lane takes in the parities of two columns, those of its neighbours. -/
def thetaStep (a : Planes) : Planes :=
  let par := a.foldl xorLanes (List.replicate 5 0)
  let mix := xorLanes (par.drop 4 ++ par.take 4) ((par.drop 1 ++ par.take 1).map fun l => l.rotateLeft 1)
  a.map (xorLanes mix)

/-- The rho and pi steps together: lane (x, y) of the result is lane (x + 3y, x), rotated. -/
def rhoPiStep (a : Planes) : Planes :=
  (List.range 5).map fun y => (List.range 5).map fun x =>
    let w := (x + 3 * y) % 5
    ((a.getD x []).getD w 0).rotateLeft (rhoOffset w x)

/-- The chi step of a plane. -/
def chiPlane : List Lane → List Lane
  | [p, q, r, s, t] => [p ^^^ (~~~q &&& r), q ^^^ (~~~r &&& s), r ^^^ (~~~s &&& t), s ^^^ (~~~t &&& p), t ^^^ (~~~p &&& q)]
  | l => l

/-- A round of Keccak-f[1600] with its constant, which enters lane (0, 0). -/
def keccakStep (a : Planes) (rc : Lane) : Planes :=
  match (rhoPiStep (thetaStep a)).map chiPlane with
  | (l :: p) :: ps => ((l ^^^ rc) :: p) :: ps
  | b => b

/-- The lanes of a byte string, as planes; what it leaves of the 25 is 0. -/
def planesOf (l : List Byte) : Planes :=
  (List.range 5).map fun y => (List.range 5).map fun x => BitVec.ofNat 64 (leAt l (40 * y + 8 * x) 8)

/-- The state after the blocks of a padded message, 136 bytes each. -/
def absorbAll : Nat → Planes → List Byte → Planes
  | 0, a, _ => a
  | n + 1, a, m => absorbAll n (roundConsts.foldl keccakStep (List.zipWith xorLanes a (planesOf (m.take 136)))) (m.drop 136)

/-- A message with its domain byte, padded to whole blocks of 136 bytes with the last bit set. -/
def padBlocks (dom : Nat) (m : List Byte) : List Byte :=
  let z := 135 - m.length % 136
  if z = 0 then m ++ bytes [dom + 0x80] else m ++ bytes [dom] ++ List.replicate (z - 1) 0 ++ bytes [0x80]

/-- The sponge of rate 136 bytes, for an output of at most 136 bytes. -/
def sponge136 (dom : Nat) (m : List Byte) (out : Nat) : List Byte :=
  let p := padBlocks dom m
  ((absorbAll (p.length / 136) (planesOf []) p).flatten.flatMap fun l => toLe 8 l.toNat).take out

/-- SHAKE256 with a 256-bit output (FIPS 202). -/
def shake256 (m : List Byte) : List Byte := sponge136 0x1F m 32

/-- The bytes of a number without leading zeros, at least one (SP 800-185). -/
def minBytes (n : Nat) : Nat := if n < 256 then 1 else if n < 65536 then 2 else if n < 16777216 then 3 else 4

/-- left_encode of SP 800-185. -/
def leftEncode (n : Nat) : List Byte := toLe 1 (minBytes n) ++ toBe (minBytes n) n
/-- right_encode of SP 800-185. -/
def rightEncode (n : Nat) : List Byte := toBe (minBytes n) n ++ toLe 1 (minBytes n)
/-- encode_string of SP 800-185. -/
def encodeString (s : List Byte) : List Byte := leftEncode (8 * s.length) ++ s
/-- bytepad of SP 800-185 to the rate of 136 bytes. -/
def bytepad136 (x : List Byte) : List Byte :=
  let y := leftEncode 136 ++ x
  y ++ List.replicate ((136 - y.length % 136) % 136) 0

/-- KMAC256 with a 128-bit output and a customization string (SP 800-185). -/
def kmac256 (key msg custom : List Byte) : List Byte :=
  sponge136 0x04 (bytepad136 (encodeString (bytes [75, 77, 65, 67]) ++ encodeString custom) ++
    bytepad136 (encodeString key) ++ msg ++ rightEncode 128) 16

/-- The customization string AZ192-LEDGER (R458). -/
def customLedger : List Byte := bytes [65, 90, 49, 57, 50, 45, 76, 69, 68, 71, 69, 82]
/-- The customization string AZ192-CMD (R497). -/
def customCmd : List Byte := bytes [65, 90, 49, 57, 50, 45, 67, 77, 68]

end Sys2Proof.Machine
end

