-- ==== Sys2Proof/Machine/Ledger.lean ====
section
/-! DEFINITION. The ledger: entries, cache, lookups, rule evaluation, grants and host-confirmed decisions (R454 to R478). -/

namespace Sys2Proof.Machine

/-- Change the ledger. -/
def Dev.modLed (d : Dev) (f : Ledger → Ledger) : Dev := { d with ledger := f d.ledger }

/-- The credential identifier of a tag identifier (R460). -/
def credOfTag (tech : Tech) (ident : List Byte) : List Byte :=
  padTo 15 (padTo 10 ident) ++ toLe 1 (tech.ctorIdx + 16 * (ident.length % 16))

/-! ### Entries (R457 to R459) -/

/-- An entry is empty. -/
def entEmpty (e : List Byte) : Bool := allZero (padTo 64 e)
/-- An entry names a credential. -/
def entMatch (e cred : List Byte) (kind : Nat) : Bool := decide (e.take 16 = cred) && byteAt e 27 / 128 == kind
/-- HOME of an entry (R457). -/
def entHome (e : List Byte) : Nat := leAt e 32 2 % 0x1000
/-- START_MIN of an entry. -/
def entStart (e : List Byte) : Nat := leAt e 28 2 % 2048
/-- END_MIN of an entry. -/
def entEnd (e : List Byte) : Nat := leAt e 30 2 % 2048

/-- The seal of an entry at an index (R458). -/
def entSeal (key : List Byte) (ix : Nat) (e : List Byte) : List Byte := kmac256 key (toLe 4 ix ++ e.take 48) customLedger

/-- An entry that matched counts as found (R459). -/
def entGood (key : List Byte) (ix : Nat) (e : List Byte) : Bool :=
  decide (entSeal key ix e = (e.drop 48).take 16) && decide (entStart e ≤ 1439) && decide (entEnd e ≤ 1439) &&
    !(decide (3072 ≤ entHome e) && decide (entHome e ≤ 0xFFE)) && allZero ((e.drop 38).take 10)

/-! ### The cache (R463) -/

/-- The set of an index among 4,096 (log entry 15). -/
def cacheSet (ix : Nat) : Nat := ix % 4096

/-- An entry enters the cache, or becomes the most recently used of its set; a 17th of a set drops its oldest (R463). -/
def cachePut (c : List (Nat × List Byte)) (ix : Nat) (e : List Byte) : List (Nat × List Byte) :=
  let c := (ix, e) :: c.filter (fun (x : Nat × List Byte) => x.1 != ix)
  if (c.filter fun (x : Nat × List Byte) => cacheSet x.1 == cacheSet ix).length ≤ 16 then c
  else
    match c.reverse.find? (fun (x : Nat × List Byte) => cacheSet x.1 == cacheSet ix) with
    | some v => c.filter fun (x : Nat × List Byte) => x.1 != v.1
    | none => c

/-- Remove the cached copies of a range of indices (R465). -/
def Dev.cacheDrop (d : Dev) (first count : Nat) : Dev :=
  d.modLed fun l => { l with cache := l.cache.filter fun (x : Nat × List Byte) =>
    !(decide (first ≤ x.1) && decide (x.1 < first + count)) }

/-! ### Rule evaluation (R466 to R468) -/

/-- Local time in seconds at a network time in ns (R466). -/
def Dev.localTime (d : Dev) (ns : Nat) : Int :=
  ((ns / 10 ^ 9 : Nat) : Int) - (d.fld F.SYS_LEDGER_TZ_LEAP_S : Nat) + d.fldI F.SYS_LEDGER_TZ_OFS_MIN * 60

/-- A local minute lies in a daily window (R468). -/
def inDaily (start end_ m : Nat) : Bool :=
  if start = end_ then true
  else if start < end_ then decide (start ≤ m) && decide (m < end_)
  else decide (start ≤ m) || decide (m < end_)

/-- DECISION of an entry for an arbour at a time (R467); 2 when nothing was found. -/
def Dev.decision (d : Dev) (e : Option (List Byte)) (arb ns : Nat) : Nat :=
  match e with
  | none => 2
  | some e =>
    let nb := leAt e 16 4
    let na := leAt e 20 4
    let days := byteAt e 27 % 128
    let sec := ns / 10 ^ 9 % 2 ^ 32
    let loc := d.localTime ns
    let wday := ((loc / 86400 + 3) % 7).toNat
    let minute := (loc % 86400 / 60).toNat
    if bitAt (byteAt e 36) 0 then 1
    else if !d.on F.TIME_STAT_LOCK && !d.on F.SYS_LEDGER_CTL_UNLOCKED &&
        (nb != 0 || na != 0 || days != 0x7F || entStart e != entEnd e) then 1
    else if (nb ≠ 0 ∧ sec < nb) ∨ (na ≠ 0 ∧ na ≤ sec) then 1
    else if !bitAt days wday then 1
    else if !inDaily (entStart e) (entEnd e) minute then 1
    else if !bitAt (leAt e 24 3) arb then 1
    else 0

/-! ### Grants (R471 to R474) -/

/-- The GRANT output of an arbour may be driven (R473, R474, R569). -/
def Dev.grantOk (d : Dev) (a : Nat) : Bool := d.on F.ARB_GRANT_EN a && !d.on F.ARB_GRANT_FAULT a && !d.pwr.safe

/-- Drive a grant; one that falls in a running pulse restarts its width (R471, R472). -/
def Dev.driveGrant (d : Dev) (a pulse : Nat) : Dev :=
  let w := if pulse = 0 then d.fld F.ARB_GRANT_PULSE a else pulse
  (d.modArb a fun x => { x with
    grant := true, grantEnd := d.tc + 10 * tcMs * w, grantAt := if x.grant then x.grantAt else d.tc }).addFld F.ARB_GRANT_CNT_COUNT a 0 1

/-- Post a GRANT event (R416, R470). -/
def Dev.postGrant (d : Dev) (k : Lookup) (entry dec : Nat) (out : Option Nat) (rule : Nat) : Dev :=
  d.post { kind := .grant, source := k.ch, time := k.time,
           body := toLe 4 (entry % 2 ^ 23) ++ toLe 1 dec ++ toLe 1 (out.getD 0xFF) ++ toLe 2 rule ++ k.cred.take 4 }

/-- A decision becomes pending; a 65th makes the oldest expire (R475). -/
def Dev.addPend (d : Dev) (p : PendDec) : Dev :=
  d.modLed fun l =>
    match l.pend with
    | [] => { l with pend := [p] }
    | o :: t =>
      if l.pend.length < 64 then { l with pend := l.pend ++ [p] }
      else { l with pend := t ++ [p], expired := (l.expired ++ [(o.ch, o.entry)]).drop (l.expired.length + 1 - 64) }

/-- The pair of R469: credential and KIND. -/
def Lookup.pairKey (k : Lookup) : List Byte := k.cred ++ toLe 1 k.kind

/-- The decision on an entry that names no home slot, or on none: hold-off, record, output and event (R467 to R475). -/
def Dev.decideOpen (d : Dev) (k : Lookup) (ix : Nat) (e : Option (List Byte)) : Dev :=
  let a := arbOf k.ch
  let held := d.ledger.holdOff.any fun (h : Nat × List Byte × Nat) =>
    h.1 == a && h.2.1 == k.pairKey && decide (k.time < h.2.2 + d.fld F.SYS_LEDGER_CTL_HOLDOFF * 10 ^ 6)
  if held then d
  else
    let dec := d.decision e a k.time
    let d := d.modLed fun l =>
      let o := l.holdOff.filter fun (h : Nat × List Byte × Nat) => !(h.1 == a && h.2.1 == k.pairKey)
      { l with holdOff := (o ++ [(a, k.pairKey, k.time)]).drop (o.length + 1 - 256) }
    let b := e.getD []
    let confirm : Bool := k.mode == 2 || bitAt (byteAt b 36) 1
    if confirm then (d.postGrant k ix dec none (leAt b 34 2)).addPend
      { entry := ix, ch := k.ch, pulse := byteAt b 37, due := d.tc + d.fld F.SYS_LEDGER_CONFIRM_MS * tcMs }
    else if dec = 0 ∧ d.grantOk a then (d.driveGrant a (byteAt b 37)).postGrant k ix dec (some a) (leAt b 34 2)
    else d.postGrant k ix dec none (leAt b 34 2)

/-- A lookup ends with the entry found, or with none (R467 to R478): a slot entry is judged by the slot attributed. -/
def Dev.judge (d : Dev) (k : Lookup) (found : Option (Nat × List Byte)) : Dev :=
  match found with
  | none => d.decideOpen k k.home none
  | some (ix, e) =>
    if entHome e = 0xFFF then d.decideOpen k ix (some e)
    else
      match k.slot with
      | none => d
      | some s =>
        if bitAt (byteAt e 36) 0 then d.postGrant k ix 1 none (leAt e 34 2)
        else if s ≠ entHome e then d.postGrant k ix 3 none (leAt e 34 2) else d

/-- The requests of a lookup's read: one sequence, which wraps at the window's end (R383, R462). -/
def Dev.spanReads (d : Dev) (k : Lookup) : List (Nat × Nat) :=
  let l := d.ledger
  let n := min k.span (l.entries - k.home)
  d.reads (l.base + 64 * k.home) (64 * n) ++ d.reads l.base (64 * (k.span - n))

/-- A lookup's read may be issued: the device makes requests, and keeps at most 256 reads outstanding (R383, R384). -/
def Dev.mayRead (d : Dev) (k : Lookup) : Bool :=
  d.mayReq && decide ((d.ledger.lookups.map fun x => (d.spanReads x).length).sum + (d.spanReads k).length ≤ 256)

/-- The reads that wait are issued in order as far as they may be (R383, R384). -/
def Dev.issueReads (d : Dev) : Dev :=
  d.each d.ledger.waiting fun d k =>
    if d.ledger.waiting.head? = some k && d.mayRead k then
      (d.modLed fun l => { l with waiting := l.waiting.tail, lookups := l.lookups ++ [k] }).each (d.spanReads k) fun d x => d.emit (.memRead x.1 x.2)
    else d

/-- No lookup is open (R455). -/
def Ledger.idle (l : Ledger) : Bool := l.lookups.isEmpty && l.waiting.isEmpty

/-- An identification that completes with OK is looked up (R461 to R463): in the cache at once, else by a read of the window. -/
def Dev.lookup (d : Dev) (ch kind mode : Nat) (cred : List Byte) (slot : Option Nat) : Dev :=
  if d.ledger.att ∧ mode ≠ 0 then
    let l := d.ledger
    let h := crc32c (cred ++ toLe 1 kind) % l.entries
    let k : Lookup := { seq := l.nextSeq, ch := ch, cred := cred, kind := kind, home := h, mode := mode, time := d.stamp, slot := slot
                        span := d.fld F.SYS_LEDGER_CTL_PROBE_MAX }
    match l.cache.find? fun (x : Nat × List Byte) => entMatch x.2 cred kind with
    | some (ix, e) =>
      ((d.modLed fun l => { l with cache := cachePut l.cache ix e }).addStat
        .SYS_LEDGER_HITS_L .SYS_LEDGER_HITS_H 0 8 1).judge k (some (ix, e))
    | none =>
      ((d.modLed fun l => { l with waiting := l.waiting ++ [k], nextSeq := l.nextSeq + 1 }).addStat
        .SYS_LEDGER_MISS_L .SYS_LEDGER_MISS_H 0 9 1).issueReads
  else d

/-- Walk the entries read from index ix on: the first that matches, or none at an empty one or the end (R462). -/
def walk (cred : List Byte) (kind entries : Nat) : Nat → List Byte → Nat → Option (Nat × List Byte)
  | 0, _, _ => none
  | n + 1, data, ix =>
    let e := padTo 64 data
    if entEmpty e then none
    else if entMatch e cred kind then some (ix % entries, e)
    else walk cred kind entries n (data.drop 64) (ix + 1)

/-! ### Attach, detach and invalidate (R454 to R456, R465) -/

/-- No ledger is attached and the cache is empty (R455, R456). -/
def Dev.emptyLedger (d : Dev) : Dev :=
  d.modLed fun l => { l with att := false, base := 0, entries := 0, key := 0, cache := [] }

/-- A checked LEDGER_ATTACH or LEDGER_DETACH takes effect and completes (R455, R456); an attach empties the lists of R475. -/
def Dev.ledgerChange (d : Dev) (q : QDesc) : Dev :=
  let d := d.emptyLedger
  let d := if q.d.op = 0x30 then
      d.modLed fun l => { l with pend := [], expired := [], att := true, base := q.d.bufAddr, entries := leAt q.d.param 0 4, key := byteAt q.d.param 4 }
    else d
  d.done q .ok

/-- A lookup has ended: what waited for it may go on (R455, R465). -/
def Dev.lookupEnded (d : Dev) (seq : Nat) : Dev :=
  let d := d.modLed fun l => { l with
    invals := l.invals.map fun (v : Inval) => { v with seqs := v.seqs.filter (· != seq) } }
  let ready := d.ledger.invals.filter fun (v : Inval) => v.seqs.isEmpty
  let d := d.modLed fun l => { l with invals := l.invals.filter fun (v : Inval) => !v.seqs.isEmpty }
  let d := d.each ready fun d (v : Inval) => (d.cacheDrop v.first v.count).done v.desc .ok
  match d.ledger.change with
  | some q => if d.ledger.idle then (d.modLed fun l => { l with change := none }).ledgerChange q else d
  | none => d

/-- A lookup leaves the list and ends. -/
def Dev.endLookup (d : Dev) (k : Lookup) (found : Option (Nat × List Byte)) : Dev :=
  (((d.modLed fun l => { l with lookups := l.lookups.filter fun (x : Lookup) => x.seq != k.seq }).judge k found).lookupEnded k.seq).issueReads

/-- The ledger key in force. -/
def NonVol.ledgerKey (nv : NonVol) (slot : Nat) : List Byte := tblGet nv.keys (0x10 + slot) []

/-! ### Meanings -/

/-- LEDGER_READ_DONE (R459, R462, R463): the oldest window read, with the bytes read. -/
def execLedgerReadDone (data : List Byte) (s : State) : Host.Outcome State Fault Refusal :=
  onDev (fun nv d =>
    match d.ledger.lookups with
    | [] => d
    | k :: _ =>
      match walk k.cred k.kind (max 1 d.ledger.entries) k.span data k.home with
      | none => d.endLookup k none
      | some (ix, e) =>
        if entGood (nv.ledgerKey d.ledger.key) ix e then
          (d.modLed fun l => { l with cache := cachePut l.cache ix e }).endLookup k (some (ix, e))
        else (d.addFld F.SYS_LEDGER_ERR_SEAL_FAIL 0 0 1).endLookup k none) s

/-- LEDGER_READ_TIMEOUT (R464). -/
def execLedgerReadTimeout (s : State) : Host.Outcome State Fault Refusal :=
  onDev (fun _ d =>
    match d.ledger.lookups with
    | [] => d
    | k :: _ => (d.addFld F.SYS_LEDGER_ERR_READ_ERR 0 0 1).endLookup k none) s

/-- GRANT_PULSE_END (R472): the end of the pulse width. -/
def execGrantPulseEnd (arb : Fin 24) (s : State) : Host.Outcome State Fault Refusal :=
  onDev (fun _ d =>
    if (d.arb arb).grant then (d.runTo (d.arb arb).grantEnd).modArb arb fun a => { a with grant := false, grantEnd := 0 } else d) s

/-- CONFIRM_EXPIRY (R475): the oldest pending decision, SYS_LEDGER_CONFIRM.MS after it was made. -/
def execConfirmExpiry (s : State) : Host.Outcome State Fault Refusal :=
  onDev (fun _ d =>
    match d.ledger.pend with
    | [] => d
    | o :: t => (d.runTo o.due).modLed fun l => { l with
        pend := t, expired := (l.expired ++ [(o.ch, o.entry)]).drop (l.expired.length + 1 - 64) }) s

end Sys2Proof.Machine
end

