-- ==== Sys2Proof/Machine/Cycle.lean ====
section
/-! DEFINITION. What a poll program's cycle reports and how it ends: presence, attribution events, lookups, adaptation, the order
of polling, and the steps' progress (R226, R249 to R261, R275 to R278, R285, R461, R479, R480). -/

namespace Sys2Proof.Machine

/-! ### Reports of an identification -/

/-- The BODY of TAG_ARRIVED, TAG_LEFT and SLOT_ATTRIBUTED (R416). -/
def tagBody (tech : Tech) (ident : List Byte) (rho1 : Nat) : List Byte :=
  toLe 1 (tech.ctorIdx + 16 * (ident.length % 16)) ++ toLe 1 rho1 ++ padTo 10 ident

/-- The step in progress. -/
def Txn.step (t : Txn) : PStep := t.prog.steps.getD t.stepIx {}

/-- An identifier on a presence list. -/
def Pres.is (p : Pres) (tech : Tech) (ident : List Byte) : Bool := p.tech == tech && p.ident == ident

/-- An identifier on a channel's presence list. -/
def Dev.presOf (d : Dev) (n : Nat) (tech : Tech) (ident : List Byte) : Option Pres :=
  (d.ch n).presence.find? fun p => p.is tech ident

/-- An attribution of a tag identifier: a CONFIDENT one that is its first since TAG_ARRIVED, or that names a different slot, posts
SLOT_ATTRIBUTED (R226). The slot that was posted. An identifier that a full list does not track has no slot to compare with. -/
def Dev.attributed (d : Dev) (n : Nat) (tech : Tech) (ident : List Byte) (r : RxResult) : Option Nat × Dev :=
  if r.cls == 2 && r.slot != 0xFFF && ((d.presOf n tech ident).bind (·.slot)) != some r.slot then
    (some r.slot,
     (d.modCh n fun c => { c with presence := c.presence.map fun (p : Pres) => if p.is tech ident then { p with slot := some r.slot } else p }).post
       { kind := .slotAttributed, source := n, session := r.slot, time := d.stamp, body := tagBody tech ident r.rho1 })
  else (none, d)

/-- A slot entry already looked up for a tag is judged by a slot attributed after its identification (R477): at once where the cache holds
the entry, at its lookup's end where that still runs. -/
def Dev.slotJudge (d : Dev) (n kind : Nat) (cred : List Byte) (slot : Nat) : Dev :=
  let mine (k : Lookup) : Bool := k.ch == n && k.kind == kind && k.cred == cred
  if !d.ledger.att then d
  else if (d.ledger.lookups ++ d.ledger.waiting).any mine then
    let put (k : Lookup) : Lookup := if mine k then { k with slot := some slot } else k
    d.modLed fun l => { l with lookups := l.lookups.map put, waiting := l.waiting.map put }
  else
    match d.ledger.cache.find? fun (x : Nat × List Byte) => entMatch x.2 cred kind with
    | some (ix, e) =>
      if entHome e = 0xFFF then d
      else d.judge { seq := 0, ch := n, cred := cred, kind := kind, home := ix, mode := 1, time := d.stamp, slot := some slot, span := 0 } (some (ix, e))
    | none => d

/-- A later frame of a tag on the presence list brings its attribution (R226, R477); one with another status than OK decides nothing (R20). -/
def Dev.laterFrame (d : Dev) (n : Nat) (ident : List Byte) (r : RxResult) : Dev :=
  match (d.ch n).txn with
  | none => d
  | some t =>
    if (d.presOf n t.tech ident).isNone then d
    else
      match d.attributed n t.tech ident r with
      | (none, d) => d
      | (some s, d) =>
        let d := d.modTxn n fun t => { t with id := { t.id with slotHub := some s } }
        if t.id.tainted || r.status != .ok || t.prog.decision == 0 then d
        else if t.step.action < 2 then d.slotJudge n 0 (credOfTag t.tech ident) s
        else
          match t.sess with
          | some x => if (d.ses x).credValid then d.slotJudge n 1 (d.ses x).cred s else d
          | none => d

/-- An identification: with OK, the presence list and TAG_ARRIVED; SLOT_ATTRIBUTED, and the lookup of a tag identifier (R226, R275, R461,
R478). `r` carries the frame's attribution. -/
def Dev.identified (d : Dev) (n : Nat) (t : Txn) (ident : List Byte) (r : RxResult) (snr : Nat) : Dev :=
  let tech := t.step.tech
  let known := d.presOf n tech ident
  let arrives : Bool := known.isNone && r.status == .ok
  let full : Bool := decide (8 ≤ (d.ch n).presence.length)
  let d := d.cond arrives fun d =>
    let p : Pres := { tech := tech, ident := ident }
    let d := if full then d else d.modCh n fun c => { c with presence := c.presence ++ [p] }
    (d.post { kind := .tagArrived, source := n, time := d.stamp, body := tagBody tech ident 0, presFull := full }).modTxn n
      fun t => { t with changed := t.changed || !full }
  let (conf, d) := if known.isSome || arrives then d.attributed n tech ident r else (none, d)
  let slot : Option Nat :=
    if conf.isSome then conf
    else if !d.on F.ARB_CTL_ATTR_EN (arbOf n) && arrives then some (192 * d.position + n) else none
  let need := 2 * (d.fld F.CH_DEM_CTL_SOF_THR n + d.fld F.CH_ADAPT_HEADROOM n)
  let d := d.modTxn n fun t => { t with
    id := { t.id with found := t.id.found ++ [ident], slotHub := slot, tainted := r.status != .ok, idSt := some r.status },
    snrLow := t.snrLow || ((known.isSome || arrives) && decide (snr < need)) }
  -- a frame with another status than OK never leads to a GRANT (R20)
  if t.step.action < 2 ∧ r.status = .ok then d.lookup n 0 t.prog.decision (credOfTag tech ident) slot else d

/-! ### Presence at the end of a cycle (R275, R276) -/

/-- The verdict of a cycle's steps on an identifier: present, absent, or neither (R276). -/
def presVerdict (log : List (Tech × Status × List (List Byte))) (p : Pres) : Option Bool :=
  let mine := log.filter fun (e : Tech × Status × List (List Byte)) => e.1 == p.tech
  if mine.any (fun (e : Tech × Status × List (List Byte)) => e.2.2.contains p.ident) then some true
  else if mine.any (fun (e : Tech × Status × List (List Byte)) => e.2.1 == .noResponse || e.2.1 == .ok) then some false
  else none

/-- Put an identifier's count of absences into a presence list. -/
def presSet (l : List Pres) (p : Pres) (k : Nat) : List Pres :=
  l.map fun q => if q.is p.tech p.ident then { q with absent := k } else q

/-- Account a cycle that ended with OK or NO_RESPONSE against the presence list, posting TAG_LEFT (R276). -/
def Dev.accountPresence (d : Dev) (n : Nat) (t : Txn) : Dev :=
  let lim := d.fld F.PAV_SEQ_PRES_LEFT_CYCLES (pavOf n)
  d.each (d.ch n).presence fun d p =>
    match presVerdict t.stepLog p with
    | some true =>
      d.modCh n fun c => { c with presence := presSet c.presence p 0 }
    | some false =>
      if t.adapted then d
      else if p.absent + 1 < lim then
        d.modCh n fun c => { c with presence := presSet c.presence p (p.absent + 1) }
      else
        ((d.modCh n fun c => { c with presence := c.presence.filter fun q => !q.is p.tech p.ident }).modTxn n
          fun t => { t with changed := true }).event .tagLeft n (tagBody p.tech p.ident 0)
    | none => d

/-! ### Adaptation (R479, R480) -/

/-- The level that a program's cycle takes, and whether it is adapted (R479). -/
def Dev.cycleLevel (d : Dev) (n lp : Nat) : Nat × Bool :=
  let la := d.fld F.CH_ADAPT_STAT_LVL_NOW n
  if d.on F.CH_ADAPT_LVL_EN n && !(d.ch n).presence.isEmpty && decide (d.level n lp < d.fld F.CH_ADAPT_LVL_MAX n) &&
      la != 0xFF && decide ((d.ch n).adaptCnt < 15) && decide (d.level n lp < la) then (la, true)
  else (lp, false)

/-- The adapted level after a cycle (R479). -/
def Dev.adaptAfter (d : Dev) (n : Nat) (t : Txn) : Dev :=
  let lp := d.level n t.prog.level
  if !d.on F.CH_ADAPT_LVL_EN n || d.fld F.CH_ADAPT_LVL_MAX n ≤ lp then
    ((d.setFld F.CH_ADAPT_STAT_LVL_NOW n 0 0xFF).setOn F.CH_ADAPT_STAT_ACTIVE n 0 false).modCh n fun c => { c with good := 0, adaptCnt := 0 }
  else
    let d := d.modCh n fun c => { c with adaptCnt := if t.adapted then c.adaptCnt + 1 else 0 }
    if d.on F.PAV_ADAPT_FREEZE (pavOf n) then d
    else
      let all := (d.ch n).presence.all fun q => presVerdict t.stepLog q == some true
      let la := if d.fld F.CH_ADAPT_STAT_LVL_NOW n = 0xFF then lp else d.fld F.CH_ADAPT_STAT_LVL_NOW n
      let put (d : Dev) (l g : Nat) : Dev :=
        ((d.setFld F.CH_ADAPT_STAT_LVL_NOW n 0 l).setOn F.CH_ADAPT_STAT_ACTIVE n 0 (decide (lp < l))).modCh n
          fun c => { c with good := g }
      if (d.ch n).presence.isEmpty then put d lp 0
      else if all && !t.snrLow then
        let g := (d.ch n).good + 1
        if g < d.fld F.CH_ADAPT_STEP_CYCLES n then put d la g
        else put d (min (d.fld F.CH_ADAPT_LVL_MAX n) (la + 4)) 0
      else put d lp 0

/-- The recency of identifications after a cycle (R480). -/
def Dev.orderAfter (d : Dev) (n : Nat) (t : Txn) : Dev :=
  let p := pavOf n
  if d.on F.PAV_ADAPT_FREEZE p then d
  else if t.stepLog.any (fun (e : Tech × Status × List (List Byte)) => !e.2.2.isEmpty) then
    (d.modPav p fun x => { x with order := n :: x.order.filter (· != n) }).modCh n fun c => { c with sinceId := 0 }
  else d.modCh n fun c => { c with sinceId := sat 255 (c.sinceId + 1) }

/-! ### The end of a cycle -/

/-- A channel is unbound from its program (R247, R278). -/
def Dev.unbind (d : Dev) (n : Nat) : Dev := d.modCh n fun c => { c with prog := none, leaving := false }

/-- The channels bound to a slot. -/
def Dev.boundTo (d : Dev) (p slot : Nat) : List Nat := (pavChans p).filter fun n => (d.ch n).prog == some slot

/-- A stopped program whose last bound channel has ended: the run ends and its PROG_STOP completes (R278; log entry 18). -/
def Dev.stopDone (d : Dev) (p slot : Nat) : Dev :=
  match tblFind (d.pav p).runs slot with
  | some r =>
    match r.stop with
    | some q =>
      if (d.boundTo p slot).isEmpty then (d.modPav p fun x => { x with runs := tblDel x.runs slot }).done q .ok else d
    | none => d
  | none => d

/-- A cycle of a bound channel is over: it may leave a program that it no longer belongs to (R248, R278). -/
def Dev.cycleClosed (d : Dev) (n : Nat) (t : Txn) : Dev :=
  let d := d.modCh n fun c => { c with cycleOpen := false }
  match t.work with
  | .cycle slot false => if t.stopAsked || (d.ch n).leaving then (d.unbind n).stopDone (pavOf n) slot else d
  | _ => d

/-- The status of a cycle counts for presence (R276). -/
def Status.counts (s : Status) : Bool := s == .ok || s == .noResponse

/-- A cycle's bookkeeping at its end: presence, adaptation, order, and Belvedere's baseline by the status at which the identification of
the step run last stands (R276, R285, R479, R480). -/
def Dev.cycleBooks (d : Dev) (n : Nat) (t : Txn) (st : Status) : Dev :=
  let d := if st.counts then d.accountPresence n t else d
  let d := (d.adaptAfter n t).orderAfter n t
  if t.id.idSt.any Status.counts && bitAt (d.rd .PAV_BLV_STAT (pavOf n)) (n % 32) then d.modCh n fun c => { c with blvAdopt := true } else d

/-- A status that lets a cycle go on to its next step (R253). -/
def Status.goesOn (s : Status) : Bool :=
  match s with
  | .ok | .okPartial | .noResponse | .collision | .collisionCaptured | .collisionSeparated => true
  | _ => false

/-- A script that broke earlier in the cycle decides how the cycle completes, unless an error ended it: OK_PARTIAL with that step and status
word (R272). -/
def Txn.brokeSt (t : Txn) (st : Status) : Option (Nat × Nat) := if st.goesOn then t.broke else none

/-- The work of a transaction ends with a status and its field falls (R237, R253, R272). -/
def Dev.finish (d : Dev) (n : Nat) (st : Status) (b : CBody := { result := st }) : Dev :=
  match (d.ch n).txn with
  | none => d
  | some t =>
    let (st, b, d) : Status × CBody × Dev := match t.brokeSt st with
      | some x => (.okPartial, { b with result := .okPartial }, d.modTxn n fun t => { t with scriptIx := x.1, lastSw := x.2 })
      | none => (st, b, d)
    let d := match t.work with
      | .cycle _ _ => d.cycleBooks n t st
      | _ => d
    let d := match (d.ch n).txn with
      | some t => if t.finished then d else d.completeWork n t st b
      | none => d
    d.rampDown n .normal none

/-! ### Steps (R249, R253, R261) -/

/-- The detection frame of NFC-A: REQA, or WUPA with USE_WUP (R254, R257). -/
def Dev.reqA (d : Dev) (n : Nat) : Dev :=
  let wup : Bool := ((d.ch n).txn.map fun t => t.prog.useWup).getD false
  (d.modTxn n fun t => { t with id := { t.id with phase := .detect, level := 1, known := [], nbits := 0, uid := [], iters := 0, path := [], todo := [] } }).stage n
    (d.mkFrame n .reqA .nfcA 0 0 (bytes [if wup then 0x52 else 0x26]) (lastBits := 7) (rxCrc := false))

/-- REQB or WUPB with AFI and 2^code slots (R254). -/
def Dev.reqB (d : Dev) (n code : Nat) : Dev :=
  match (d.ch n).txn with
  | some t =>
    let k := t.step
    let d := d.modTxn n fun t => { t with id := { t.id with phase := .detect, slots := 2 ^ code, slot := 0, collided := false } }
    d.stage n (d.mkFrame n .reqB .typeB 0 0
      (withCrc .typeB (bytes [0x05, k.p0, code % 8 + (if t.prog.useWup then 8 else 0)])))
  | none => d

/-- SENSF_REQ with the system code, request code 0 and a TSN (R254). -/
def Dev.sensfReq (d : Dev) (n tsn : Nat) : Dev :=
  match (d.ch n).txn with
  | some t =>
    let k := t.step
    let d := d.modTxn n fun t => { t with id := { t.id with phase := .slotF, slots := tsn + 1, slot := 0, collided := false } }
    let f := d.mkFrame n .sensf .nfcF k.txMax k.txMax (withCrc .nfcF (bytes [6, 0, k.p0, k.p1, 0, tsn]))
    d.stage n f
  | none => d

/-- INVENTORY with a mask (R254): value and bit length. -/
def Dev.inventory (d : Dev) (n : Nat) (mask : Nat × Nat) : Dev :=
  match (d.ch n).txn with
  | some t =>
    let k := t.step
    let one := bitAt k.p1 0
    let flags := b2n (bitAt k.p1 1) + 2 * b2n (!bitAt k.p1 2) + 4 + 16 * b2n (k.p0 != 0) + 32 * b2n one
    let d := d.modTxn n fun t => { t with id := { t.id with
      phase := .slotV, mask := mask, slots := if one then 1 else 16, slot := 0 } }
    d.stage n (d.mkFrame n .inventory .nfcV (bits k.p1 3 1) (bits k.p1 2 1)
      (withCrc .nfcV (bytes [flags, 0x01] ++ (if k.p0 = 0 then [] else bytes [k.p0]) ++ bytes [mask.2] ++
        toLe ((mask.2 + 7) / 8) mask.1)))
  | none => d

/-- The step in progress starts with its detection frame (R249, R254). -/
def Dev.startStep (d : Dev) (n : Nat) : Dev :=
  let d := d.modTxn n fun t => { t with id := {} }
  match (d.ch n).txn with
  | some t =>
    match t.step.tech with
    | .nfcA => d.reqA n
    | .typeB => d.reqB n 0
    | .nfcF => d.sensfReq n t.step.tsn
    | .nfcV => d.inventory n (0, 0)
  | none => d

/-- A step ends with a status (R249, R253, R261): the next step starts, or the cycle ends. -/
def Dev.endStep (d : Dev) (n : Nat) (st : Status) : Dev :=
  match (d.ch n).txn with
  | none => d
  | some t =>
    let found : Bool := !t.id.found.isEmpty
    let d := d.modTxn n fun t => { t with
      stepLog := t.stepLog ++ [(t.step.tech, st, t.id.found)], stepIx := t.stepIx + 1 }
    let stop : Bool := !st.goesOn || t.stopAsked || t.ending || decide (t.prog.steps.length ≤ t.stepIx + 1) ||
      (found && (t.prog.stopFirst || !t.step.nextOnFound))
    if stop then d.finish n st else d.startStep n

/-- A step's identification ends with a status, and the step with it (R261, R285). -/
def Dev.endIdent (d : Dev) (n : Nat) (st : Status) : Dev :=
  (d.modTxn n fun t => { t with id := { t.id with idSt := some st } }).endStep n st

/-- The detection frame meets NO_RESPONSE, or the last slot, mask or queued tag of a round is over (R261): OK, or NO_RESPONSE when no tag
was found. -/
def Dev.endDetect (d : Dev) (n : Nat) : Dev :=
  match (d.ch n).txn with
  | some t => d.endIdent n (if t.id.found = [] then .noResponse else .ok)
  | none => d

end Sys2Proof.Machine
end

