-- ==== Sys2Proof/Machine/IsoDep.lean ====
section
/-! DEFINITION. ISO-DEP: activation, rates, blocks, recovery, waiting-time extension, and the end of a tag's handling (R241, R257,
R262 to R269, R328 to R331). Block and command codes are those of ISO/IEC 14443 (log entry 20). -/

namespace Sys2Proof.Machine

/-- Frame sizes by code (R264). -/
def fscOf (code : Nat) : Nat := [16, 24, 32, 40, 48, 64, 96, 128, 256, 512, 1024, 2048, 4096].getD code 256

/-- Change the identification state of a channel's step. -/
def Dev.modId (d : Dev) (n : Nat) (f : IdState → IdState) : Dev := d.modTxn n fun t => { t with id := f t.id }
/-- Change the ISO-DEP exchange of a channel. -/
def Dev.modDep (d : Dev) (n : Nat) (f : DepRun → DepRun) : Dev := d.modTxn n fun t => { t with dep := f t.dep }
/-- The session of a channel's transaction. -/
def Dev.txnSes (d : Dev) (n : Nat) : Option Nat := (d.ch n).txn.bind (·.sess)

/-! ### Halting a tag, and what follows it (R243, R254, R257) -/

/-- The frame that halts the tag handled now (R254). -/
def Dev.haltFrame (d : Dev) (n : Nat) : Dev :=
  match (d.ch n).txn with
  | none => d
  | some t =>
    let k := t.step
    let d := d.modId n fun i => { i with phase := .halt }
    match k.tech with
    | .typeB => d.stage n (d.mkFrame n .hltB .typeB 0 0 (withCrc .typeB (bytes [0x50] ++ t.id.ident)))
    | .nfcV => d.stage n (d.mkFrame n .stayQuiet .nfcV (bits k.p1 3 1) (bits k.p1 2 1)
        (withCrc .nfcV (bytes [b2n (bitAt k.p1 1) + 2 * b2n (!bitAt k.p1 2) + 0x20, 0x02] ++ t.id.ident)))
    | _ => d.stage n (d.mkFrame n .hlta .nfcA 0 0 (withCrc .nfcA (bytes [0x50, 0x00])))

/-- What an ATS says: FSCI, rate byte, FWI, SFGI, CID supported; absent bytes take the defaults of ISO/IEC 14443-4. -/
def parseAts (a : List Byte) : Nat × Nat × Nat × Nat × Bool :=
  if a.length < 2 then (2, 0, 4, 0, true)
  else
    let t0 := byteAt a 1
    let ta := bitAt t0 4
    let tb := bitAt t0 5
    let tc := bitAt t0 6
    let ib := 2 + b2n ta
    let ic := ib + b2n tb
    (t0 % 16, if ta then byteAt a 2 else 0, if tb then byteAt a ib / 16 else 4, if tb then byteAt a ib % 16 else 0,
     if tc then bitAt (byteAt a ic) 1 else true)

/-- The rates chosen from an ATS's rate byte and its very-high extension, within the step's maxima (R263). -/
def chooseRates (answer : List Byte) (ta txMax rxMax : Nat) : Nat × Nat :=
  let tx := bits ta 0 3 + 8 * bits (Config.vhbrRates answer true) 4 3
  let rx := bits ta 4 3 + 8 * bits (Config.vhbrRates answer false) 4 3
  let pick (m lim : Nat) : Nat := ((List.range 7).reverse.find? fun r => decide (r ≤ lim) && (r == 0 || bitAt m (r - 1))).getD 0
  if bitAt ta 7 then
    let r := pick (tx &&& rx) (min txMax rxMax)
    (r, r)
  else (pick tx txMax, pick rx rxMax)

/-- RATS or ATTRIB for the tag handled now, with a session allocated before it is sent (R262, R269, R329). -/
def Dev.activate (d : Dev) (n : Nat) (answer : List Byte) : Dev :=
  match (d.ch n).txn with
  | none => d
  | some t =>
    let k := t.step
    let base : Sess := {
      kind := .pollDep, state := 1, tech := (if k.tech = .typeB then 1 else 0), ident := t.id.ident, fsdi := k.fsdi,
      cid := (if k.cidEn then k.cid else 0), script := (if k.action = 2 then k.script else 0xF), fg := t.fg.getD 0,
      fgUsed := t.fg.isSome, answer := answer, fwi := t.prog.declFwi }
    match d.allocSes n 2 (fun x => { base with gen := x.gen, chan := n }) with
    | (none, d) => d.endStep n .notReady
    | (some s, d) =>
      let d := (d.modTxn n fun t => { t with sess := some s, dep := {} }).modId n fun i => { i with phase := .activate, answer := answer }
      if k.tech = .typeB then
        let inf := answer.drop 9
        let (rt, rr) := chooseRates answer (byteAt inf 0) k.txMax k.rxMax
        let sel := if 4 ≤ rt ∨ 4 ≤ rr then byteAt (Config.vhbrSelect rt rr) 0 else 16 * rt + 64 * rr
        let fo := byteAt inf 2
        let d := d.modSes s fun x => { x with
          fsci := byteAt inf 1 / 16, fwi := fo / 16, cidUsed := k.cidEn && bitAt fo 0, txRate := rt, rxRate := rr,
          sfgi := if inf.length ≤ 3 then 0 else byteAt inf 3 / 16 }
        d.stage n (d.mkFrame n .attrib .typeB 0 0
          (withCrc .typeB (bytes [0x1D] ++ t.id.ident ++ bytes [0, k.fsdi + sel, 1, if k.cidEn then k.cid else 0]))
          (fwi := fo / 16))
      else
        d.stage n (d.mkFrame n .rats .nfcA 0 0 (withCrc .nfcA (bytes [0xE0, 16 * k.fsdi + (if k.cidEn then k.cid else 0)])))

/-- A Type B tag answered as ISO-DEP capable: the protocol type bit of its ATQB. -/
def depB (answer : List Byte) : Bool := bitAt (byteAt answer 10) 0

/-- The next tag of the round is handled, or the round ends (R254, R261). -/
def Dev.nextInRound (d : Dev) (n : Nat) : Dev :=
  match (d.ch n).txn with
  | none => d
  | some t =>
    let i := t.id
    let k := t.step
    match i.queue with
    | (ident, answer, ok) :: rest =>
      let d := d.modId n fun i => { i with queue := rest, ident := ident, tainted := !ok }
      if k.tech = .typeB ∧ k.action ≠ 0 ∧ depB answer then d.activate n answer else d.haltFrame n
    | [] =>
      if i.result ≠ .ok then d.endStep n i.result
      else
        match k.tech with
        | .typeB =>
          if !i.collided then d.endDetect n
          else if i.slots < 2 ^ (k.p1 % 8) then d.reqB n (Nat.log2 i.slots + 1) else d.endIdent n .okPartial
        | .nfcF =>
          if !i.collided then d.endDetect n
          else
            match [1, 3, 7, 15].find? (fun t => decide (i.slots ≤ t)) with
            | some tsn => d.sensfReq n tsn
            | none => d.endIdent n .okPartial
        | .nfcV =>
          match i.masks with
          | m :: ms => (d.modId n fun i => { i with masks := ms }).inventory n m
          | [] => d.endDetect n
        | .nfcA => d.endStep n .ok

/-- The tag handled now is done with: halted, deselected or left (R257, R261, R278). -/
def Dev.afterTag (d : Dev) (n : Nat) (halted : Bool) : Dev :=
  match (d.ch n).txn with
  | none => d
  | some t =>
    if t.ending || t.stopAsked then d.finish n t.id.result
    else if t.id.result ≠ .ok then d.endStep n t.id.result
    else if t.step.tech = .nfcA then
      if halted then d.reqA n else d.endStep n .ok
    else d.nextInRound n

/-! ### Blocks (R264 to R268) -/

/-- A block with its CID, without its check value. -/
def Sess.block (x : Sess) (pcb : Nat) (inf : List Byte) : List Byte :=
  bytes [pcb + 8 * b2n x.cidUsed] ++ (if x.cidUsed then bytes [x.cid] else []) ++ inf

/-- Send a block with the session's rates and FWT. -/
def Dev.sendBlock (d : Dev) (n : Nat) (use : FrameUse) (pcb : Nat) (inf : List Byte) : Dev :=
  match d.txnSes n with
  | none => d
  | some s =>
    let x := d.ses s
    let tech : Tech := if x.tech = 1 then .typeB else .nfcA
    let f := d.mkFrame n use tech x.txRate x.rxRate (withCrc tech (x.block pcb inf)) (fwi := x.fwi)
    (d.modDep n fun p => { p with capWait := false }).stage n f

/-- Send an I-block or R(ACK), which recovery may repeat. -/
def Dev.sendKept (d : Dev) (n : Nat) (use : FrameUse) (pcb : Nat) (inf : List Byte) : Dev :=
  (d.modDep n fun p => { p with lastBlk := toLe 1 pcb ++ inf, lastUse := use }).sendBlock n use pcb inf

/-- Send the next block of a command (R265, R266). -/
def Dev.sendChunk (d : Dev) (n : Nat) : Dev :=
  match d.txnSes n, (d.ch n).txn with
  | some s, some t =>
    let x := d.ses s
    let room := fscOf x.fsci - (if x.cidUsed then 4 else 3)
    let inf := t.dep.toSend.take room
    let rest := t.dep.toSend.drop room
    let more : Bool := !rest.isEmpty
    let d := (d.modDep n fun p => { p with toSend := rest, chaining := more }).modSes s fun x => { x with state := if more then 3 else 2 }
    d.sendKept n .iBlock (0x02 + 16 * b2n more + x.blockNum) inf
  | _, _ => d

/-- Send an APDU (R265, R266). -/
def Dev.sendApdu (d : Dev) (n : Nat) (apdu : List Byte) : Dev :=
  ((d.modDep n fun p => { toSend := apdu, capped := p.capped }).modId n fun i => { i with phase := .isoDep }).sendChunk n

/-- S(DESELECT) (R269). -/
def Dev.deselect (d : Dev) (n : Nat) : Dev :=
  match d.txnSes n with
  | some s =>
    ((d.modSes s fun x => { x with state := 5 }).modId n fun i => { i with phase := .deselect }).sendBlock n .sDeselect 0xC2 []
  | none => d

/-- The tag's action is over: it is deselected or halted as its step asks (R254, R269). -/
def Dev.finishTag (d : Dev) (n : Nat) : Dev :=
  match (d.ch n).txn with
  | none => d
  | some t =>
    if t.sess.isSome ∧ (t.step.deselect ∨ t.step.halt ∨ t.ending) then d.deselect n
    else if t.sess.isNone ∧ t.step.halt ∧ t.step.tech ≠ .nfcF then d.haltFrame n
    else d.afterTag n false

/-- S(DESELECT) has its answer, or has none. An answer releases the session (R331); without one it stays until its transaction's end. An
answer that is damaged ends the step with its status (R261). -/
def Dev.deselected (d : Dev) (n : Nat) (r : RxOut) : Dev :=
  let ok : Bool := r.status == .ok || r.status == .collisionCaptured
  let d := d.cond ok fun d => match d.txnSes n with
    | some s => d.freeSes s
    | none => d
  let d := d.modTxn n fun t => { t with sess := none }
  if r.status.goesOn then d.afterTag n true
  else
    match (d.ch n).txn with
    | some t => if t.id.result ≠ .ok then d.afterTag n true else d.endStep n r.status
    | none => d

/-- The work ends with a status and the field is to fall: a session that is active is deselected first where its step's DESELECT is 1
(R269). -/
def Dev.endField (d : Dev) (n : Nat) (st : Status) : Dev :=
  match (d.ch n).txn with
  | some t =>
    if t.step.deselect && t.id.phase != .deselect && t.sess.any (fun s => decide (2 ≤ (d.ses s).state)) then
      (d.modTxn n fun t => { t with ending := true, id := { t.id with result := st } }).deselect n
    else d.finish n st
  | none => d

/-- Recovery of a missing or damaged block, or the end of the exchange with the failure's status (R267, R268). -/
def Dev.recover (d : Dev) (n : Nat) (st : Status) : Dev :=
  match d.txnSes n, (d.ch n).txn with
  | some s, some t =>
    let x := d.ses s
    if t.dep.capWait ∧ st = .noResponse then
      (d.modDep n fun p => { p with capped := true }).endField n .noResponse
    else if t.dep.retries < d.fld F.PAV_SEQ_DEP_RETRY (pavOf n) then
      let d := d.modDep n fun p => { p with retries := p.retries + 1 }
      if t.dep.lastUse = .rAck then d.sendBlock n .rAck (byteAt t.dep.lastBlk 0) (t.dep.lastBlk.drop 1)
      else d.sendBlock n .rNak (0xB2 + x.blockNum) []
    else d.endField n st
  | _, _ => d

/-- S(WTX) answered, with the longer wait (R267). -/
def Dev.answerWtx (d : Dev) (n wtxm : Nat) : Dev :=
  match d.txnSes n with
  | none => d
  | some s =>
    let x := d.ses s
    let p := pavOf n
    let cap := d.fld F.PAV_SEQ_DEP_FWT_CAP p * tcMs
    let wait := min (fwtTc x.fwi * wtxm + d.dfwt p) (4096 * 2 ^ 14)
    let capped : Bool := cap != 0 && decide (cap ≤ wait)
    let d := (d.modSes s fun x => { x with wtxm := wtxm, state := 4 }).sendBlock n .sWtx 0xF2 (bytes [wtxm])
    d.modTxn n fun t => { t with
      dep := { t.dep with wtxm := wtxm, capWait := capped, retries := 0 },
      frame := t.frame.map fun f => { f with winClose := if capped then cap else wait } }

/-- What a tag block brings: the whole response when it is complete, else the device after its next block (R265 to R268). -/
def Dev.onBlock (d : Dev) (n : Nat) (r : RxOut) : Option (List Byte) × Dev :=
  match d.txnSes n, (d.ch n).txn with
  | some s, some t =>
    if r.status ≠ .ok ∧ r.status ≠ .collisionCaptured then (none, d.recover n r.status)
    else
      let x := d.ses s
      let b := r.body
      let pcb := byteAt b 0
      let hdr := 1 + b2n (bitAt pcb 3)
      let bn := pcb % 2
      match pcb / 64 with
      | 0 =>
        if bitAt pcb 2 then (none, d.endField n .protocolError)
        else if bn ≠ x.blockNum ∨ t.dep.chaining then (none, d.recover n .protocolError)
        else
          let got := t.dep.got ++ b.drop hdr
          let d := (d.modSes s fun x => { x with blockNum := 1 - x.blockNum, state := 2 }).modDep n
            fun p => { p with got := got, retries := 0 }
          if bitAt pcb 4 then (none, d.sendKept n .rAck (0xA2 + (1 - bn)) []) else (some got, d)
      | 2 =>
        if bitAt pcb 4 then (none, d.endField n .protocolError)
        else if bn = x.blockNum ∧ t.dep.chaining then
          (none, ((d.modSes s fun x => { x with blockNum := 1 - x.blockNum }).modDep n fun p => { p with retries := 0 }).sendChunk n)
        else if t.dep.retries < d.fld F.PAV_SEQ_DEP_RETRY (pavOf n) then
          (none, (d.modDep n fun p => { p with retries := p.retries + 1 }).sendBlock n t.dep.lastUse (byteAt t.dep.lastBlk 0)
            (t.dep.lastBlk.drop 1))
        else (none, d.endField n .protocolError)
      | 3 =>
        let w := byteAt b hdr % 64
        if bits pcb 4 2 = 3 ∧ 1 ≤ w ∧ w ≤ 59 then (none, d.answerWtx n w) else (none, d.endField n .protocolError)
      | _ => (none, d.endField n .protocolError)
  | _, _ => (none, d)

/-! ### Activation answers (R241, R262, R263) -/

/-- The start-up frame guard in Tc (R241). -/
def sfgtTc (sfgi : Nat) : Nat := if sfgi = 0 ∨ 15 ≤ sfgi then 0 else 4096 * 2 ^ sfgi

/-- The session is active: the first block waits for SFGT (R241, R332). -/
def Dev.activated (d : Dev) (n s : Nat) : Dev :=
  let from_ := match (d.ch n).txn with
    | some t => t.endTc + d.spacing n t.tech t.rxRate (d.combined (arbOf n) t.fg)
    | none => 0
  (d.modSes s fun x => { x with state := 2, tOpen := d.stamp, tLast := d.stamp }).modTxn n
    fun t => { t with notBefore := from_ + sfgtTc (d.ses s).sfgi }

/-- An ATS is in: rates are chosen and set by PPS, or the session starts at once (R262, R263). True: the session is ready. -/
def Dev.onAts (d : Dev) (n s : Nat) (a : List Byte) : Bool × Dev :=
  match (d.ch n).txn with
  | none => (false, d)
  | some t =>
    let k := t.step
    let (fsci, ta, fwi, sfgi, cid) := parseAts a
    let (tx, rx) := chooseRates a ta k.txMax k.rxMax
    let d := d.modSes s fun x => { x with
      fsci := fsci, fwi := if fwi = 15 then 4 else fwi, sfgi := sfgi, cidUsed := k.cidEn && cid, answer := a }
    let d := d.activated n s
    if tx = 0 ∧ rx = 0 then (true, d)
    else
      let sel := if 4 ≤ tx ∨ 4 ≤ rx then Config.vhbrSelect tx rx else bytes [0x11, 4 * rx + tx]
      let d := d.modSes s fun x => { x with txRate := tx, rxRate := rx }
      let f := d.mkFrame n .pps .nfcA 0 0 (withCrc .nfcA (bytes [0xD0 + (if k.cidEn then k.cid else 0)] ++ sel)) (fwi := fwi)
      -- PPS itself does not wait for SFGT (R241)
      let nb := match (d.ch n).txn with
        | some t => t.notBefore
        | none => 0
      let d := (d.modTxn n fun t => { t with notBefore := 0 }).stage n f
      (false, (d.modTxn n fun t => { t with notBefore := nb }).modId n fun i => { i with phase := .pps })

end Sys2Proof.Machine
end

