-- ==== Sys2Proof/Machine/Scripts.lean ====
section
/-! DEFINITION. APDU scripts and host steps (R271 to R274, R409, R418), and the Type 2, 4 and 5 tag operations (R270). -/

namespace Sys2Proof.Machine

/-! ### Scripts -/

/-- The event of a HOST step: OK_PARTIAL with HOLD, for the ISODEP_EXCHANGE in progress, the RUN_CYCLE, or the program's cycle
(R274, R404), or BUFFER_SHORT with HOLD where the response does not fit (R266); that descriptor may later see HOST_TIMEOUT (R418). -/
def Dev.hold (d : Dev) (n : Nat) : Dev :=
  match (d.ch n).txn with
  | none => d
  | some t =>
    let s := t.sess.getD 0x1FF
    let mark (q : QDesc) (room len : Nat) : Entry :=
      let st : Status := if room < len then .bufferShort else .okPartial
      { (q.entry d st (t.mark { result := st, len := len, sw := t.lastSw })) with
        hold := true, session := s, step := t.scriptIx, wtxCapped := t.dep.capped }
    let (held, d) : Option QDesc × Dev :=
      match t.hostDesc, t.work, t.desc with
      | some q, _, _ => (some q, (d.completeE q (mark q q.d.bufLen t.hostLen)).endRun q)
      | none, .cycle _ true, some q =>
        (some q, ((d.output n q.d.bufAddr (t.report.take q.d.bufLen)).completeE q (mark q q.d.bufLen t.report.length)).endRun q)
      | none, .cycle slot false, _ =>
        match tblFind (d.pav (pavOf n)).runs slot with
        | some r =>
          let reg := progRegion r.start n
          (some r.start, (d.output n reg.1 (t.report.take reg.2)).post
            { mark r.start reg.2 t.report.length with cycle := true, source := n, irq := false })
        | none => (none, d)
      | _, _, _ => (none, d)
    let d := d.modSes s fun x => { x with hold := true, scriptStep := t.scriptIx }
    d.modTxn n fun t => { t with
      held := held, hostDesc := none, hostLen := 0, air := .idle, dueTc := d.tc + d.fld F.PAV_SEQ_HOST_WAIT (pavOf n) * tcMs, id := { t.id with phase := .hostHold },
      desc := match t.work with
        | .cycle _ true => none
        | _ => t.desc }

/-- The script is over: an ISODEP_EXCHANGE in progress completes, and the tag is finished with the script's result; one that broke stands
for the cycle (R272; log entry 46). -/
def Dev.scriptEnd (d : Dev) (n : Nat) (st : Status) : Dev :=
  match (d.ch n).txn with
  | none => d
  | some t =>
    let d := (d.hostDone t st).modTxn n fun t => { t with hostDesc := none }
    (if st = .ok then d else d.modTxn n fun t => { t with
      id := { t.id with result := st }, broke := some (t.broke.getD (t.scriptIx, t.lastSw)) }).finishTag n

/-- The step at hand of the script: an APDU is sent, or the host is awaited (R272, R274); a program that stops sends none (R278). -/
def Dev.runScript (d : Dev) (n : Nat) : Dev :=
  match (d.ch n).txn with
  | none => d
  | some t =>
    let d := match t.sess with
      | some s => d.modSes s fun x => { x with scriptStep := t.scriptIx % 16 }
      | none => d
    if t.stopAsked then d.endField n .ok
    else match t.script.drop t.scriptIx with
    | [] => d.scriptEnd n .ok
    | k :: _ => if k.host then d.hold n else d.sendApdu n k.apdu

/-- The script of a step starts (R271). -/
def Dev.startScript (d : Dev) (n : Nat) : Dev :=
  match (d.ch n).txn with
  | none => d
  | some t =>
    let l := tblGet (d.pav (pavOf n)).scripts t.step.script []
    (d.modTxn n fun t => { t with script := l, scriptIx := 0 }).runScript n

/-- A script step's response (R272, R273): its report, its status word, its credential, and the next step. -/
def Dev.scriptResponse (d : Dev) (n : Nat) (t : Txn) (resp : List Byte) : Dev :=
  let k := t.script.getD t.scriptIx {}
  let m := resp.length - 2
  let sw := beNat (resp.drop m)
  let data := resp.take m
  let d := d.modTxn n fun t => { t with
    lastSw := sw, report := if k.report then t.report ++ resp else t.report, hostLen := if t.hostDesc.isSome then resp.length else t.hostLen }
  let d := match t.sess with
    | some s => d.modSes s fun x => { x with lastSw := sw }
    | none => d
  let d := match t.hostDesc with
    | some q => d.output n q.d.bufAddr (resp.take q.d.bufLen)
    | none => d
  let matched : Bool := k.swAny || sw == 0x9000
  if !matched then d.scriptEnd n .okPartial
  else if k.extract && decide (data.length < k.idOfs + 16) then d.endField n .protocolError
  else
    let cred := (data.drop k.idOfs).take 16
    let d := if k.extract then
        ((match t.sess with
         | some s => d.modSes s fun x => { x with cred := cred, credValid := true }
         | none => d).cond (!t.id.tainted) fun d => d.lookup n 1 t.prog.decision cred t.id.slotHub)
      else d
    if t.ending then d.finishTag n
    else if k.endOnMatch then d.scriptEnd n .ok
    else (d.modTxn n fun t => { t with scriptIx := t.scriptIx + 1 }).runScript n

/-! ### Tag operations (R270) -/

/-- The result of a tag operation: its data, or a status (R270, R415). -/
def Dev.tagOpEnd (d : Dev) (n : Nat) (st : Status) : Dev :=
  match (d.ch n).txn with
  | none => d
  | some t =>
    match t.desc with
    | some q =>
      let data := t.tag.data
      let d := d.output n q.d.bufAddr (data.take q.d.bufLen)
      d.finish n (if st = .ok ∧ q.d.bufLen < data.length then .bufferShort else st)
        { result := st, len := if st = .ok ∧ q.d.bufLen < data.length then data.length else min data.length q.d.bufLen, sw := t.lastSw }
    | none => d.finish n st

/-- The OP of a TAG_OP. -/
def Txn.tagOp (t : Txn) : Nat := match t.desc with | some q => byteAt q.d.param 0 | none => 0

/-- The UID of addressed Type 5 commands, or none (R407). -/
def Txn.tagUid (t : Txn) : List Byte :=
  match t.desc with
  | some q => let u := (q.d.param.drop 8).take 8; if allZero u then [] else u
  | none => []

/-- The next air command of a Type 2 or Type 5 operation, or its end (R270). -/
def Dev.tagNext (d : Dev) (n : Nat) : Dev :=
  match (d.ch n).txn with
  | none => d
  | some t =>
    let x := t.tag
    if x.left = 0 then d.tagOpEnd n .ok
    else
      let input := match t.desc with | some q => q.input | none => []
      let v (opt cmd : Nat) (arg : List Byte) : List Byte :=
        withCrc .nfcV (bytes [0x02 + 0x20 * b2n (!t.tagUid.isEmpty) + opt, cmd] ++ t.tagUid ++ arg)
      match t.tagOp with
      | 0 => d.stage n (d.mkFrame n .t2Read .nfcA 0 0 (withCrc .nfcA (bytes [0x30, x.next])))
      | 1 => d.stage n (d.mkFrame n .t2Write .nfcA 0 0 (withCrc .nfcA (bytes [0xA2, x.next] ++ padTo 4 (input.drop (4 * x.cmds)))) (rxCrc := false))
      | 3 =>
        if x.left = 1 then d.stage n (d.mkFrame n .t5Read .nfcV 0 0 (v 0 0x20 (bytes [x.next])))
        else d.stage n (d.mkFrame n .t5Read .nfcV 0 0 (v 0 0x23 (bytes [x.next, x.left - 1])))
      | _ =>
        let size := input.length / max 1 (x.cmds + x.left)
        d.stage n (d.mkFrame n .t5Write .nfcV 0 0 (v 0x40 0x21 (bytes [x.next] ++ (input.drop (size * x.cmds)).take size)))

/-- The operation starts on the tag identified, or at once for Type 5. -/
def Dev.tagStart (d : Dev) (n : Nat) : Dev :=
  match (d.ch n).txn with
  | some t =>
    let q := t.desc.getD {}
    ((d.modTxn n fun t => { t with tag := { next := leAt q.d.param 4 2, left := leAt q.d.param 6 2 } }).modId n
      fun i => { i with phase := .done }).tagNext n
  | none => d

/-- The answer to a Type 2 or Type 5 command (R270). -/
def Dev.tagAnswer (d : Dev) (n : Nat) (r : RxOut) : Dev :=
  match (d.ch n).txn with
  | none => d
  | some t =>
    if r.status ≠ .ok ∧ r.status ≠ .collisionCaptured then d.tagOpEnd n r.status
    else
      let x := t.tag
      let go (k : Nat) (more : List Byte) : Dev :=
        (d.modTxn n fun t => { t with tag := { x with
          next := x.next + k, left := x.left - k, cmds := x.cmds + 1, data := x.data ++ more } }).tagNext n
      match t.tagOp with
      | 0 =>
        if r.body.length < 16 then d.tagOpEnd n .protocolError
        else go (min 4 x.left) (r.body.take (4 * min 4 x.left))
      | 1 => if byteAt r.data 0 % 16 = 0xA then go 1 [] else d.tagOpEnd n .protocolError
      | 3 => if bitAt (byteAt r.body 0) 0 ∨ r.body = [] then d.tagOpEnd n .protocolError else go x.left (r.body.drop 1)
      | _ => if bitAt (byteAt r.body 0) 0 ∨ r.body = [] then d.tagOpEnd n .protocolError else go 1 []

/-- The NDEF application identifier's SELECT of a Type 4 read. -/
def selectNdefApp : List Byte :=
  bytes [0x00, 0xA4, 0x04, 0x00, 0x07, 0xD2, 0x76, 0x00, 0x00, 0x85, 0x01, 0x01, 0x00]

/-- SELECT of a file by its identifier. -/
def selectFile (id : Nat) : List Byte := bytes [0x00, 0xA4, 0x00, 0x0C, 0x02] ++ toBe 2 id

/-- READ BINARY. -/
def readBinary (ofs len : Nat) : List Byte := bytes [0x00, 0xB0] ++ toBe 2 ofs ++ bytes [len]

/-- The APDUs of a Type 4 NDEF read, in order (R270): 0 application, 1 CC, 2 CC bytes, 3 NDEF file, 4 its length, 5 its bytes. -/
def Dev.t4Response (d : Dev) (n : Nat) (t : Txn) (resp : List Byte) : Dev :=
  let m := resp.length - 2
  let sw := beNat (resp.drop m)
  let data := resp.take m
  let d := d.modTxn n fun t => { t with lastSw := sw }
  let d := match t.sess with
    | some s => d.modSes s fun x => { x with lastSw := sw }
    | none => d
  let x := t.tag
  let to_ (y : TagRun) (apdu : List Byte) : Dev := (d.modTxn n fun t => { t with tag := y }).sendApdu n apdu
  if sw ≠ 0x9000 then d.tagOpEnd n .protocolError
  else
    match x.stage with
    | 0 => to_ { x with stage := 1 } (selectFile 0xE103)
    | 1 => to_ { x with stage := 2 } (readBinary 0 15)
    | 2 =>
      if data.length < 15 ∨ byteAt data 7 ≠ 4 then d.tagOpEnd n .protocolError
      else to_ { x with stage := 3, mle := min 255 (max 1 (beNat ((data.drop 3).take 2))) }
        (selectFile (beNat ((data.drop 9).take 2)))
    | 3 => to_ { x with stage := 4 } (readBinary 0 2)
    | 4 =>
      let len := min 8192 (beNat (data.take 2))
      if data.length < 2 then d.tagOpEnd n .protocolError
      else if len = 0 then d.tagOpEnd n .ok
      else to_ { x with stage := 5, ndefLen := len } (readBinary 2 (min x.mle len))
    | _ =>
      let got := (x.data ++ data).take x.ndefLen
      if data = [] then d.tagOpEnd n .protocolError
      else if got.length < x.ndefLen then
        to_ { x with data := got } (readBinary (2 + got.length) (min x.mle (x.ndefLen - got.length)))
      else (d.modTxn n fun t => { t with tag := { x with data := got } }).tagOpEnd n .ok

/-- A whole response APDU (R266): to the script, or to the Type 4 read. -/
def Dev.onApdu (d : Dev) (n : Nat) (resp : List Byte) : Dev :=
  match (d.ch n).txn with
  | none => d
  | some t =>
    if resp.length < 2 then d.endField n .protocolError
    else if t.work = .tagOp then d.t4Response n t resp
    else d.scriptResponse n t resp

/-- The session of an activated tag is ready: its action starts (R245, R270), unless a stop was asked for (R278). -/
def Dev.startAction (d : Dev) (n : Nat) : Dev :=
  match (d.ch n).txn with
  | none => d
  | some t =>
    if t.work = .tagOp then
      (d.modTxn n fun t => { t with tag := { stage := 0 } }).sendApdu n selectNdefApp
    else if t.stopAsked then d.endField n .ok
    else if t.step.action = 2 then d.startScript n
    else d.finishTag n

end Sys2Proof.Machine
end

