-- ==== Sys2Proof/Machine/Identify.lean ====
section
/-! DEFINITION. Identification: anticollision, cascade levels, slots and masks (R243, R254 to R261), and what each received frame,
or a window without one, makes the sequencer do next. -/

namespace Sys2Proof.Machine

/-! ### NFC-A (R255 to R260) -/

/-- SEL of a cascade level. -/
def selCode (level : Nat) : Nat := if level = 1 then 0x93 else if level = 2 then 0x95 else 0x97

/-- SELECT with four UID bytes of a level and their BCC (R256). -/
def Dev.select (d : Dev) (n : Nat) (u : List Byte) : Dev :=
  match (d.ch n).txn with
  | some t =>
    (d.modId n fun i => { i with phase := .select, known := u, nbits := 32, path := i.path ++ [u] }).stage n
      (d.mkFrame n .select .nfcA 0 0 (withCrc .nfcA (bytes [selCode t.id.level, 0x70] ++ u ++ [xorAll u])))
  | none => d

/-- ANTICOLLISION with the known bits of a level; past ITER frames of one identification the step ends with OK_PARTIAL (R255,
R261; log entry 19). -/
def Dev.anticoll (d : Dev) (n : Nat) (known : List Byte) (nbits : Nat) : Dev :=
  match (d.ch n).txn with
  | some t =>
    if t.prog.iter ≤ t.id.iters then d.endIdent n .okPartial
    else
      let nvb := 16 * (2 + nbits / 8) + nbits % 8
      (d.modId n fun i => { i with phase := .anticoll, known := known, nbits := nbits, iters := i.iters + 1 }).stage n
        (d.mkFrame n .anticoll .nfcA 0 0 (bytes [selCode t.id.level, nvb] ++ known.take ((nbits + 7) / 8))
          (lastBits := nbits % 8) (rxCrc := false) (rxAlign := nbits % 8))
  | none => d

/-- The level's bytes: the known ones, with the received ones after them; the byte that was cut joins both (R163, R255). -/
def joinLevel (known : List Byte) (nbits : Nat) (rx : List Byte) : List Byte :=
  let k := nbits / 8
  if nbits % 8 = 0 then known.take k ++ rx
  else
    let low := BitVec.ofNat 8 (byteAt known k % 2 ^ (nbits % 8))
    known.take k ++ (match rx with
      | [] => [low]
      | b :: t => (low ||| b) :: t)

/-- Keep the bits below p of a level and set bit p (R255). -/
def splitAt (u : List Byte) (p : Nat) : List Byte :=
  let b := BitVec.ofNat 8 (byteAt u (p / 8) % 2 ^ (p % 8) + 2 ^ (p % 8))
  u.take (p / 8) ++ [b]

/-- An answer to ANTICOLLISION (R255 to R258, R260). -/
def Dev.onAnticoll (d : Dev) (n : Nat) (t : Txn) (r : RxOut) : Dev :=
  let i := t.id
  let u := joinLevel i.known i.nbits r.data
  let whole : Dev :=
    if u.length < 5 then d.endIdent n .protocolError
    else if xorAll (u.take 4) ≠ u.getD 4 0 then d.endIdent n .crcError
    else d.select n (u.take 4)
  match r.status with
  | .ok => whole
  | .collisionCaptured => whole
  | .collision =>
    match r.collPos with
    | some c =>
      let p := c + 8 * (i.nbits / 8)
      if 32 ≤ p then whole
      else if p = 31 then d.select n ((splitAt u 31).take 4)
      else d.anticoll n (splitAt u p) (p + 1)
    | none => whole
  | .collisionSeparated =>
    let levels := (r.results.filter (·.status == .ok)).map fun x => joinLevel i.known i.nbits x.data
    match levels.filter fun u => decide (u.length = 5) && xorAll (u.take 4) == u.getD 4 0 with
    | [] => (d.reqA n).modId n fun j => { j with iters := i.iters }
    | [a] => d.select n (a.take 4)
    | a :: b :: _ => (d.modId n fun i => { i with beamB := i.path ++ [b.take 4] }).select n (a.take 4)
  | st => d.endIdent n st

/-- A tag of this step is identified: it is reported unless it was found before, and MAX_TAGS bounds the step (R261). One found before only
brings its attribution (R226). False: it is not to be handled. -/
def Dev.tagFound (d : Dev) (n : Nat) (ident : List Byte) (r : RxOut) : Bool × Dev :=
  match (d.ch n).txn with
  | none => (false, d)
  | some t =>
    if t.id.found.contains ident then (false, d.laterFrame n ident (r.results.headD {}))
    else if t.prog.maxTags ≤ t.id.found.length then
      (false, d.modId n fun i => { i with result := .okPartial, idSt := some .okPartial })
    else (true, d.identified n t ident (r.results.headD {}) r.snr)

/-- A SAK (R259): a further cascade level, or the tag identified. A tag found before in the step ends it, since what answers has been halted:
with WUPA the halted tags answer again (R257, R261; the model's choice: log entry 19). -/
def Dev.onSak (d : Dev) (n : Nat) (t : Txn) (r : RxOut) : Dev :=
  let st := r.status
  if st ≠ .ok ∧ st ≠ .collisionCaptured ∧ st ≠ .collisionSeparated then d.endIdent n st
  else
    let sak := byteAt r.data 0
    let u := t.id.known
    let part := if bitAt sak 2 ∧ byteAt u 0 = 0x88 then u.drop 1 else u
    if bitAt sak 2 then
      if 3 ≤ t.id.level then d.endIdent n .protocolError
      else
        let d := d.modId n fun i => { i with level := i.level + 1, uid := i.uid ++ part, known := [], nbits := 0 }
        match t.id.todo with
        | u :: l => (d.modId n fun i => { i with todo := l }).select n u
        | [] => d.anticoll n [] 0
    else
      let ident := t.id.uid ++ part
      let res := r.results.headD {}
      let d := d.modId n fun i => { i with ident := ident, tainted := res.status != .ok }
      if t.work = .tagOp then
        let d := d.laterFrame n ident res
        if t.tagOp = 2 then (if bitAt sak 5 then d.activate n [] else d.tagOpEnd n .protocolError) else d.tagStart n
      else if t.id.found.contains ident then (d.laterFrame n ident res).endIdent n .ok
      else
        let (_, d) := d.tagFound n ident r
        if t.step.action ≠ 0 ∧ bitAt sak 5 then d.activate n [] else d.finishTag n

/-- An answer to REQA or WUPA, or its absence (R249, R257, R260, R261). -/
def Dev.onAtqa (d : Dev) (n : Nat) (t : Txn) (r : RxOut) : Dev :=
  match r.status with
  | .noResponse => d.endDetect n
  | .crcError => d.endIdent n .crcError
  | .protocolError => d.endIdent n .protocolError
  | .bufferShort => d.endIdent n .bufferShort
  | _ =>
    if t.prog.maxTags ≤ t.id.found.length then d.endIdent n .okPartial
    else
      match t.id.beamB with
      | u :: l => (d.modId n fun i => { i with beamB := [], todo := l }).select n u
      | [] => d.anticoll n [] 0

/-! ### Slotted techniques (R254) -/

/-- One slot's outcome: identifier bytes from an answer, if any (R254). -/
def slotIdent (tech : Tech) (r : RxResult) : Option (List Byte) :=
  match tech with
  | .typeB => if r.data.length = 14 ∨ r.data.length = 15 then (if byteAt r.data 0 = 0x50 then some ((r.data.drop 1).take 4) else none) else none
  | .nfcF => if 12 ≤ r.data.length ∧ byteAt r.data 1 = 1 then some ((r.data.drop 2).take 8) else none
  | .nfcV => if 12 ≤ r.data.length ∧ ¬ bitAt (byteAt r.data 0) 0 then some ((r.data.drop 2).take 8) else none
  | .nfcA => none

/-- The answers of a slot are reported, and queued without their check value where frames are to follow (R254, R260, R332). -/
def Dev.slotFound (d : Dev) (n : Nat) (r : RxOut) : Dev :=
  d.each r.results fun d x =>
    match (d.ch n).txn with
    | none => d
    | some t =>
      let k := t.step
      match slotIdent k.tech x with
      | none => d
      | some ident =>
        let (new, d) := d.tagFound n ident { r with results := [x] }
        let answer := x.data.take (x.data.length - 2)
        let handle : Bool := new && ((k.tech == .typeB && (k.halt || (k.action != 0 && depB answer))) || (k.tech == .nfcV && k.halt))
        if handle then d.modId n fun i => { i with queue := i.queue ++ [(ident, answer, x.status == .ok)] } else d

/-- The next slot of the round, or the tags that wait, or the round's end (R254). -/
def Dev.nextSlot (d : Dev) (n : Nat) : Dev :=
  match (d.ch n).txn with
  | none => d
  | some t =>
    let s := t.id.slot + 1
    if t.id.slots ≤ s then d.nextInRound n
    else
      let d := d.modId n fun i => { i with slot := s }
      let k := t.step
      match k.tech with
      | .typeB => (d.modId n fun i => { i with phase := .slotB }).stage n
          (d.mkFrame n .slotMarker .typeB 0 0 (withCrc .typeB (bytes [16 * s + 5])))
      | .nfcF => d.nextSlotWindow n s
      | _ => d.stage n (d.mkFrame n .inventory .nfcV (bits k.p1 3 1) (bits k.p1 2 1) [])

/-- A slot had a collision: another tag is to be resolved (R254). NFC-V has no slot number to lengthen the mask by in a round of one slot:
the step ends with OK_PARTIAL (the model's choice: log entry 19). -/
def Dev.slotCollided (d : Dev) (n : Nat) (t : Txn) : Dev :=
  match t.step.tech with
  | .nfcV =>
    if t.id.slots = 16 then
      d.modId n fun i => { i with masks := i.masks ++ [(i.mask.1 + i.slot * 2 ^ i.mask.2, i.mask.2 + 4)] }
    else d.modId n fun i => { i with result := .okPartial, idSt := some .okPartial }
  | _ => d.modId n fun i => { i with collided := true }

/-- A slot is over (R254, R261). A captured answer, and a separation with a result that is dropped, leave a tag to resolve (R260). -/
def Dev.onSlot (d : Dev) (n : Nat) (t : Txn) (r : RxOut) : Dev :=
  match r.status with
  | .noResponse => d.nextSlot n
  | .ok => (d.slotFound n r).nextSlot n
  | .collisionCaptured => ((d.slotFound n r).slotCollided n t).nextSlot n
  | .collisionSeparated =>
    let good := r.results.filter fun (x : RxResult) => x.status == .ok
    ((d.slotFound n { r with results := good }).cond (decide (good.length < r.results.length)) fun d => d.slotCollided n t).nextSlot n
  | .collision => (d.slotCollided n t).nextSlot n
  | st => d.endIdent n st

/-! ### Dispatch -/

/-- The ATS or the answer to ATTRIB (R262, R329). A session whose activation fails stays until its transaction's end (R331). -/
def Dev.onActivate (d : Dev) (n : Nat) (t : Txn) (r : RxOut) : Dev :=
  match t.sess with
  | none => d.endStep n .protocolError
  | some s =>
    let fail (st : Status) : Dev :=
      if t.work = .tagOp then d.tagOpEnd n st else (d.modTxn n fun t => { t with sess := none }).endStep n st
    if r.status ≠ .ok ∧ r.status ≠ .collisionCaptured then fail r.status
    else if t.step.tech = .typeB then (d.activated n s).startAction n
    else
      match d.onAts n s r.body with
      | (true, d) => d.startAction n
      | (false, d) => d

/-- The answer to PPS (R263); without a good one the session, which is active, is deselected as its step asks (R269). -/
def Dev.onPps (d : Dev) (n : Nat) (t : Txn) (r : RxOut) : Dev :=
  if (r.status = .ok ∨ r.status = .collisionCaptured) ∧ byteAt r.data 0 / 16 = 0xD then d.startAction n
  else
    let st := if r.status = .ok ∨ r.status = .collisionCaptured then .protocolError else r.status
    if t.work = .tagOp then d.tagOpEnd n st
    else if t.step.deselect then (d.modId n fun i => { i with result := st }).deselect n
    else (d.modTxn n fun t => { t with sess := none }).endStep n st

/-- An exchange's frame is over: its results complete it, and its field is held or falls (R237, R408, R415, R417). -/
def Dev.onExchange (d : Dev) (n : Nat) (t : Txn) (r : RxOut) : Dev :=
  match t.desc with
  | none => d
  | some q =>
    let body (x : RxResult) (room : Nat) (st : Status) : CBody := x.mark
      { result := st, lastBits := x.lastBits, len := if st = .bufferShort then x.data.length else min room x.data.length }
    let d := match r.results with
      | [] => (d.completeE q (q.entry d r.status { result := r.status })).endRun q
      | [x] =>
        ((d.output n q.d.bufAddr (x.data.take q.d.bufLen)).completeE q
          (q.entry d r.status (body x q.d.bufLen r.status))).endRun q
      | x :: y :: _ =>
        -- two adjacent entries, beam A first, each in its half of the buffer (R417)
        let half := q.d.bufLen / 2
        let ofs := half / 4 * 4
        let cut (z : RxResult) : Status := if z.status = Status.ok ∧ half < z.data.length then .bufferShort else z.status
        let d := (d.output n q.d.bufAddr (x.data.take half)).output n (q.d.bufAddr + ofs) (y.data.take half)
        let d := d.post { (q.entry d .collisionSeparated (body x half (cut x))) with more := true }
        (d.completeE q (q.entry d .collisionSeparated (body y half (cut y)))).endRun q
    let d := d.modTxn n fun t => { t with desc := none, finished := true, result := r.status }
    if t.holdField then d else d.rampDown n .normal none

/-- What the outcome of a frame makes the sequencer do (R233 to R278). -/
def Dev.onFrame (d : Dev) (n : Nat) (r : RxOut) : Dev :=
  match (d.ch n).txn with
  | none => d
  | some t =>
    let d := match t.sess with
      | some s => d.modSes s fun x => { x with
          tLast := if r.results.isEmpty then x.tLast else d.stamp, lastStatus := r.status.ctorIdx }
      | none => d
    let d := d.cond (!r.results.isEmpty) fun d => d.modTxn n fun t => { t with results := r.results }
    let d := d.cond (t.id.phase.handles) fun d =>
      (d.modId n fun i => { i with tainted := i.tainted || r.status == .collisionCaptured }).laterFrame n
        (if t.id.ident = [] then t.tagUid else t.id.ident) (r.results.headD {})
    match t.work with
    | .exchange => d.onExchange n t r
    | .pilot => d
    | .cal => d
    | _ =>
      match t.id.phase with
      | .detect =>
        if t.work = .tagOp ∧ r.status = .noResponse then d.tagOpEnd n .noResponse
        else if t.step.tech = .nfcA then d.onAtqa n t r else d.onSlot n t r
      | .anticoll => d.onAnticoll n t r
      | .select => d.onSak n t r
      | .slotB => d.onSlot n t r
      | .slotF => d.onSlot n t r
      | .slotV => d.onSlot n t r
      | .activate => d.onActivate n t r
      | .pps => d.onPps n t r
      | .isoDep =>
        match d.onBlock n r with
        | (some resp, d) => d.onApdu n resp
        | (none, d) => d
      | .deselect => d.deselected n r
      | .halt =>
        if r.status = .noResponse then d.afterTag n true
        else if t.step.tech = .nfcA then d.endIdent n .protocolError
        else if r.status.goesOn then d.afterTag n true
        else d.endIdent n r.status
      | .done => d.tagAnswer n r
      | _ => d

/-- The outcome of a frame. A stop that was asked for acts once the exchange in progress is over: an activation goes on to its end, and an
ISO-DEP exchange to its last block (R278). -/
def Dev.frameDone (d : Dev) (n endTc : Nat) (r : RxOut) : Dev :=
  let d := d.frameOver n endTc
  match (d.ch n).txn with
  | none => d
  | some t =>
    if t.stopAsked ∧ ¬ t.ending ∧ ¬ t.id.phase.closes then d.endField n (if r.status.goesOn then .ok else r.status)
    else d.onFrame n r

/-- A frame exchange ends without a frame: the registers take their no-frame values (R154, R170, R175). -/
def Dev.noFrame (d : Dev) (n endTc : Nat) (st : Status) : Dev := (d.frameRegs n st none none false false).frameDone n endTc { status := st }

end Sys2Proof.Machine
end

