-- ==== Sys2Proof/Machine/Sequencer.lean ====
section
/-! DEFINITION. The sequencer's own occasions: field start and end, windows, tag frames, host waits, poll cycles and stagger
phases (R85, R154, R170, R173, R237, R241, R250 to R253, R274, R343, R408, R480). -/

namespace Sys2Proof.Machine

/-! ### Poll cycles -/

/-- A cycle of a program on a channel starts to wait for admission (R249, R479). -/
def Dev.startCycle (d : Dev) (n slot : Nat) (g : Prog) (desc : Option QDesc) : Dev :=
  let (lvl, adapted) := if desc.isSome then (g.level, false) else d.cycleLevel n g.level
  let k := g.steps.headD {}
  d.startWait n { work := .cycle slot desc.isSome, desc := desc, tech := k.tech,
                  txRate := (if k.tech = .nfcF then k.txMax else if k.tech = .nfcV then bits k.p1 3 1 else 0),
                  rxRate := (if k.tech = .nfcF then k.txMax else if k.tech = .nfcV then bits k.p1 2 1 else 0),
                  level := lvl, fg := (if g.fgEn then some g.fg else none), prog := g, adapted := adapted }

/-- The stagger phase of a channel (R251). -/
def phaseOf (g : Prog) (n : Nat) : Nat := n % 8 % 2 ^ g.stagger

/-- An open cycle of a bound channel starts once the channel carries no other transaction (R234, R250). -/
def Dev.launch (d : Dev) (n : Nat) : Dev :=
  let c := d.ch n
  match c.prog with
  | some slot =>
    match tblFind (d.pav (pavOf n)).runs slot, tblFind (d.pav (pavOf n)).progs slot with
    | some r, some g =>
      if c.cycleOpen && c.txn.isNone && c.role == .poll && !c.borrowed && phaseOf g n == r.phase then d.startCycle n slot g none
      else d
    | _, _ => d
  | none => d

/-- The order in which a phase's channels ask: ascending, or those that identified a tag lately first (R480). -/
def Dev.askOrder (d : Dev) (p : Nat) (l : List Nat) : List Nat :=
  if d.on F.PAV_ADAPT_ORDER_EN p then
    let w := d.fld F.PAV_ADAPT_ORDER_WINDOW p
    let recent := (d.pav p).order.filter fun n => l.contains n && decide ((d.ch n).sinceId < w)
    recent ++ l.filter fun n => !recent.contains n
  else l

/-- A program loaded over a running one takes its place at the next cycle start: until then the cycle that runs, and its later phases,
keep the old one (R248). -/
def Dev.takeNewProg (d : Dev) (p slot : Nat) : Dev :=
  match tblFind (d.pav p).progsNew slot with
  | none => d
  | some g => d.modPav p fun x => { x with progs := tblPut x.progs slot g, progsNew := tblDel x.progsNew slot }

/-- A cycle starts at phase 0 on the channels that are free for it, with the program loaded last (R248, R250, R251, R338). -/
def Dev.openCycle (d : Dev) (p slot : Nat) : Dev :=
  let d := d.takeNewProg p slot
  let skipped := ((tblFind (d.pav p).runs slot).map (·.skipped)).getD []
  let chans := (d.boundTo p slot).filter fun n =>
    !(d.ch n).cycleOpen && !(d.ch n).borrowed && (d.ch n).role == .poll && !skipped.contains n
  let d := d.modPav p fun x => { x with runs := x.runs.map fun (e : Nat × ProgRun) =>
    if e.1 = slot then (e.1, { e.2 with t0 := some d.tc, phase := 0, late := false, skipped := [] }) else e }
  let d := d.each chans fun d n => d.modCh n fun c => { c with cycleOpen := true }
  d.each (d.askOrder p chans) Dev.launch

/-- A program is loaded over a running one (R248): a channel that leaves its mask is unbound, after its current cycle where it has one. One
that the mask newly names is not bound: only a start binds (R247; the model's choice: log entry 46). -/
def Dev.maskChange (d : Dev) (p slot : Nat) (g : Prog) : Dev :=
  (d.each (d.boundTo p slot) fun d n =>
    let out : Bool := !bitAt g.chMask (n % 32)
    if out && !(d.ch n).cycleOpen then d.unbind n else d.modCh n fun c => { c with leaving := out }).stopDone p slot

/-- A program cycle that is open on a channel, and has not begun, is not run (R250, R596), nor is one that was set aside. -/
def Dev.dropCycle (d : Dev) (n : Nat) : Dev :=
  let d := d.cond ((d.ch n).aside.any Txn.isCycle) fun d => d.modCh n fun c => { c with aside := none }
  match (d.ch n).txn with
  | some t =>
    match t.work with
    | .cycle _ false => if t.phase = .waiting then d.modCh n fun c => { c with txn := none, cycleOpen := false } else d
    | _ => d.modCh n fun c => { c with cycleOpen := false }
  | none => d.modCh n fun c => { c with cycleOpen := false }

/-- After a dip every bound channel of a running program starts a fresh cycle, from step 0 and stagger phase 0: what had not begun is not run,
and none counts as skipped (R253, R596). -/
def Dev.freshCycle (d : Dev) (p slot : Nat) : Dev :=
  let d := d.each (d.boundTo p slot) Dev.dropCycle
  let d := d.modPav p fun x => { x with runs := x.runs.map fun (e : Nat × ProgRun) =>
    if e.1 = slot then (e.1, { e.2 with skipped := [] }) else e }
  d.openCycle p slot

/-- POLL_CYCLE_DUE (R248, R251, R252, R286, R596), PERIOD after the cycle before: a channel whose cycle is open is skipped; with stagger
the others start after the last phase. Without stagger each channel's cycle is due by itself (log entry 65). -/
def execPollCycleDue (pav : Fin 6) (slot : Fin 16) (s : State) : Host.Outcome State Fault Refusal :=
  onDev (fun _ d =>
    let p : Nat := pav
    match tblFind (d.pav p).runs slot with
    | none => d
    | some r =>
      if r.stop.isSome || (d.pav p).state != .active || (d.pav p).dip ||
          (d.pav p).first.any (fun n => (d.ch n).cycleOpen && (d.ch n).prog.isSome) then d
      else
        let d := match r.t0 with
          | some t => d.runTo (t + usTc (tblGet (d.pav p).progs slot {}).period)
          | none => d
        let busy := (d.boundTo p slot).filter fun n => (d.ch n).cycleOpen && !(d.ch n).borrowed
        let d := d.addFld F.PAV_SEQ_SKIPS_COUNT p 0 busy.length
        let g := tblGet (d.pav p).progs slot {}
        let d := d.modPav p fun x => { x with runs := x.runs.map fun (e : Nat × ProgRun) =>
          if e.1 = slot.val then (e.1, { e.2 with late := true, skipped := busy }) else e }
        if busy.isEmpty || g.stagger == 0 then d.openCycle p slot else d) s

/-- STAGGER_PHASE_START (R251): the next phase, or the late cycle after the last one. -/
def execStaggerPhaseStart (pav : Fin 6) (slot : Fin 16) (s : State) : Host.Outcome State Fault Refusal :=
  onDev (fun _ d =>
    let p : Nat := pav
    match tblFind (d.pav p).runs slot with
    | none => d
    | some r =>
      let g := tblGet (d.pav p).progs slot {}
      let chans := (d.boundTo p slot).filter fun n => (d.ch n).cycleOpen
      if chans.any (fun n => phaseOf g n == r.phase) then d
      else if r.phase + 1 < 2 ^ g.stagger then
        let d := d.modPav p fun x => { x with runs := x.runs.map fun (e : Nat × ProgRun) =>
          if e.1 = slot.val then (e.1, { e.2 with phase := r.phase + 1 }) else e }
        d.each (d.askOrder p (chans.filter fun n => phaseOf g n == r.phase + 1)) Dev.launch
      else if r.late then d.openCycle p slot else d) s

/-! ### Fields -/

/-- The work of a transaction whose field has come up: its first frame is staged after ramp and field guard (R241). -/
def Dev.firstFrame (d : Dev) (n : Nat) : Dev :=
  match (d.ch n).txn with
  | none => d
  | some t =>
    let start := d.tc + d.fld F.CH_RAMP_UP n + usTc (d.fld F.PAV_SEQ_FIELD_GT_US (pavOf n))
    let d := d.modTxn n fun t => { t with notBefore := start, endTc := 0 }
    match t.work with
    | .exchange =>
      match t.frame with
      | some f => d.stage n f
      | none => d
    | .tagOp => if t.tagOp < 3 then d.reqA n else d.tagStart n
    | .cycle _ _ => d.startStep n
    | .pilot => d
    | .cal => d

/-- The field start of an admitted transaction whose conditions still hold: each coil rises at the pulse width of its setpoint (R72, R85,
R241, R343, R372). -/
def Dev.fieldStart (d : Dev) (n : Nat) : Dev :=
  let d := (d.runTo (d.tc + d.leadLeft (pavOf n))).recheck n
  match (d.ch n).txn with
  | some t =>
    if t.phase = .admitted then
      let d := d.modTxn n fun t => { t with phase := .up, tUp := d.tc }
      ((d.each t.coils fun d k => (d.coilUp n k).pulse k).agcJoin n).firstFrame n
    else d
  | none => d

/-- A transaction's ramp-down has ended: what its field's end decides completes, sessions and reservation go, the parking loads
reconnect (R85, R88, R89, R331, R356, R370). -/
def Dev.fieldEnded (d : Dev) (n : Nat) : Dev :=
  match (d.ch n).txn with
  | none => d
  | some t =>
    if t.phase ≠ .rampDown then d
    else
      let st := t.endCause.getD .ok
      let d := if t.finished then d
        else
          let d := d.frameRegs n st none none false false
          let d := match t.work with
            | .cycle _ _ => d.cycleBooks n t st
            | _ => d
          match (d.ch n).txn with
          | some t => d.completeWork n t st
          | none => d
      let d := d.tapsBack n
      let d := if t.work = .pilot ∨ t.work = .cal then d else d.freeAll n
      let d := d.each (d.useChans n t) fun d k => d.agcBack n (d.combined (arbOf n) t.fg) k
      let d := d.each t.coils fun d k => (d.coilDown k).calSettle k
      let back : Option Txn := if t.work = .pilot ∨ t.work = .cal ∧ !(d.ch n).borrowed then (d.ch n).aside else none
      let d := if back.isSome then d.modCh n fun c => { c with aside := none } else d
      let d := if t.work = .pilot then d.modArb (arbOf n) fun x => { x with pilot := x.pilot.erase (n % 8) } else d
      let d := ((d.unreserve n t.eRsv).modCh n fun c => { c with txn := back }).txnsMoved (pavOf n)
      let d := match t.work with
        | .cycle _ false => d.cycleClosed n t
        | .cal =>
          match t.endCause with
          | some st => (d.calAbort n st).each (((d.calOf n).map fun (r : CalRun) => r.chans).getD []) Dev.launch
          | none => d
        | _ => d
      (d.launch n).retry (pavOf n)

/-- FIELD_RAMP_DOWN_END (R85, R233). A field of a calibration procedure ends with its step, by its ramp-down (log entry 30). -/
def execFieldRampDownEnd (ch : Fin 192) (s : State) : Host.Outcome State Fault Refusal :=
  onDev (fun _ d =>
    let d := match (d.ch ch).txn with
      | some t => if t.work = Work.cal ∧ t.phase = TxnPhase.up then d.rampDown ch .normal none else d
      | none => d
    let d := match (d.ch ch).txn with
      | some t => if t.phase = TxnPhase.rampDown then d.runTo t.dueTc else d
      | none => d
    d.fieldEnded ch) s

/-- DECLARED_LENGTH_END (R408): a held field with no continuing EXCHANGE falls, by the ramp-down that the declared length still holds
(R343; log entry 65). -/
def execDeclaredLengthEnd (ch : Fin 192) (s : State) : Host.Outcome State Fault Refusal :=
  onDev (fun _ d =>
    match (d.ch ch).txn with
    | some t =>
      if t.phase = .up ∧ t.work = .exchange ∧ t.holdField ∧ t.finished then
        (d.runTo (t.tUp + t.declTc - d.fallTc (t.falls .normal none []))).rampDown ch .normal none
      else d
    | none => d) s

/-! ### Windows and frames -/

/-- RESPONSE_WINDOW_CLOSE (R154 to R156, R242): no start of frame was found, and the window's noise floor is kept; a frame being received
is followed through. -/
def execResponseWindowClose (ch : Fin 192) (floor : Nat) (s : State) : Host.Outcome State Fault Refusal :=
  onDev (fun _ d =>
    let d := match (d.ch ch).txn with
      | some t => d.cond ([AirPhase.winOpen, .winWait, .receiving].contains (d.airOf ch)) fun d =>
          d.runTo (t.reqTc + (t.frame.map fun (f : AirFrame) => f.winClose).getD 0)
      | none => d
    match d.airOf ch with
    | .winOpen | .winWait => (d.modCh ch fun c => { c with floor := floor }).noFrame ch d.tc .noResponse
    | .receiving => d.modTxn ch fun t => { t with winOver := true }
    | _ => d) s

/-- FALSE_SOF (R156): a violation in the bit period `per` after a start of frame. In the first two the start of frame is discarded and
the search resumes, unless its window has closed: the frame exchange is then over, and the guard before the next device frame counts from
the discard (the model's choice: log entry 61). -/
def execFalseSof (ch : Fin 192) (per : Nat) (s : State) : Host.Outcome State Fault Refusal :=
  onDev (fun _ d =>
    let n : Nat := ch
    let count (d : Dev) : Dev := (d.addFld F.CH_FRM_QUAL_FALSE_SOF n 0 1)
    if 2 ≤ per then d
    else
      match (d.ch n).txn, d.airOf n with
      | some t, .receiving =>
        if t.winOver then (count (d.leaveFrame n)).noFrame n d.tc .noResponse
        else (count (d.modTxn n fun t => { t with air := .winOpen })).leaveFrame n
      | _, .captured => (count (d.modTxn n fun t => { t with air := .capturing })).leaveFrame n
      | _, _ =>
        if (d.ch n).lsn.inFrame then
          (count d).lsnFrameEnd n
        else d) s

/-- The end edge of a capture window without a start of frame, as a carried index (R170): the end of the first measurement from the
step on with an energy no more than SOF_THR above the noise floor. -/
def Dev.captureQuiet (d : Dev) (n : Nat) (t : Txn) (f : AirFrame) (en : List Nat) : Nat :=
  let i := (en.findIdx? fun e => !aboveDb (d.fld F.CH_DEM_CTL_SOF_THR n) t.sof.floor e).getD en.length
  t.capFrom + 4 * measureTc f.tech f.rxRate f.dual * (i + 1)

/-- CAPTURE_WINDOW_CLOSE (R170): the exchange completes with COLLISION. `en`: the in-band energies from the step on. -/
def execCaptureWindowClose (ch : Fin 192) (en : List Nat) (s : State) : Host.Outcome State Fault Refusal :=
  onDev (fun _ d =>
    let n : Nat := ch
    match (d.ch n).txn with
    | some t =>
      match t.frame with
      | some f =>
        if d.airOf n = .capturing then
          let d := d.runTo ((t.capEnd + 3) / 4)
          let q := d.captureQuiet n t f en
          d.atIndex (q - d.rxLat n) fun d => d.noFrame n ((max q t.capEnd - d.rxLat n + 3) / 4) .collision
        else d
      | none => d
    | none => d) s

/-- TAG_FRAME_RECEIVED (R122, R150, R151, R153, R173): a frame's end. Turn-round and guard count from the first whole carrier cycle that is
not before its end edge (the model's choice: log entry 61). -/
def execTagFrameReceived (ch : Fin 192) (w : RxWire) (s : State) : Host.Outcome State Fault Refusal :=
  onDev (fun _ d =>
    let n : Nat := ch
    if d.airOf n = .receiving ∨ d.airOf n = .captured then
      match (d.ch n).txn with
      | some t =>
        match t.frame with
        | some f =>
          let d := d.runTo ((w.stop + 3) / 4)
          let q := d.endEdge n t f w - d.rxLat n
          d.atIndex q fun d =>
            let (r, d) := d.receive n t f w
            (d.frameDone n ((q + 3) / 4) r).calSettle n
        | none => d
      | none => d
    else d) s

/-- The PROG_START of the program whose cycle a transaction is (R404): its HOST_TIMEOUT stands for the cycle's own event (R277). -/
def Txn.startOf (t : Txn) (d : Dev) (n : Nat) : Option QDesc :=
  match t.work with
  | .cycle slot false => (tblFind (d.pav (pavOf n)).runs slot).map (·.start)
  | _ => none

/-- HOST_WAIT_EXPIRY (R274, R418): HOST_TIMEOUT is posted for the descriptor held, the tag is deselected and the transaction
ends. -/
def execHostWaitExpiry (ch : Fin 192) (s : State) : Host.Outcome State Fault Refusal :=
  onDev (fun _ d =>
    let n : Nat := ch
    match (d.ch n).txn with
    | some t =>
      if t.phase = .up ∧ t.id.phase = .hostHold then
        let d := d.runTo t.dueTc
        let d := match t.held with
          | some q => d.post { (q.entry d .hostTimeout { result := .hostTimeout, sw := t.lastSw }) with
              source := n, session := t.sess.getD 0x1FF, step := t.scriptIx, irq := false }
          | none => d
        let d := match t.sess with
          | some x => d.modSes x fun y => { y with hold := false }
          | none => d
        (d.modTxn n fun t => { t with
          ending := true, finished := t.held == t.startOf d n, held := none, id := { t.id with result := .hostTimeout } }).deselect n
      else d
    | none => d) s

end Sys2Proof.Machine
end

