-- ==== Sys2Proof/Machine/Supply.lean ====
section
/-! DEFINITION. Supplies and die temperature, the windows of the common grid with the limiter, the tuner and the field-enable
chains (R64, R71 to R104, R351, R355, R590 to R599, R719). -/

namespace Sys2Proof.Machine

/-! ### Supply warnings (R592, R595, R416) -/

/-- Post SUPPLY_WARN: supply number, below warning, measured mV; its rise also sets the cause bit. -/
def Dev.supplyWarn (d : Dev) (supply : Nat) (below : Bool) (mv : Nat) : Dev :=
  let d := if below then d.setMisc 3 else d
  d.event .supplyWarn (if supply = 0 then 0x3FF else 0x200 + (supply - 1))
    (toLe 1 supply ++ toLe 1 (b2n below) ++ toLe 2 mv)

/-- VDRV of a pavilion lies below 90 % of NOM (R64, R591). -/
def Dev.vdrvBelow (d : Dev) (p : Nat) : Bool := decide (d.fld F.PAV_VDRV_MEAS p * 10 < d.fld F.PAV_VDRV_NOM p * 9)

/-- A listening channel's answer is abandoned (R597). -/
def Dev.dropAnswer (d : Dev) (n : Nat) : Dev :=
  if (d.ch n).role = .listen then d.modCh n fun c => { c with lsn := { c.lsn with staged := none } } else d

/-- A dip of VDRV starts (R595, R597). -/
def Dev.dipStart (d : Dev) (p : Nat) : Dev :=
  let d := d.modPav p fun x => { x with dip := true }
  let d := d.each (pavChans p) fun d n => ((d.rampDown n .fast (some .supplyDip)).backToWait n).dropAnswer n
  let d := d.addFld F.PAV_VDRV_STAT_DIPS p 0 1
  d.supplyWarn (p + 1) true (100 * d.fld F.PAV_VDRV_MEAS p)

/-- A dip of VDRV ends; `restart` where running programs start a new cycle at once (R595, R596). -/
def Dev.dipEnd (d : Dev) (p : Nat) (restart : Bool) : Dev :=
  let d := d.modPav p fun x => { x with dip := false, okAt := none }
  let d := d.supplyWarn (p + 1) false (100 * d.fld F.PAV_VDRV_MEAS p)
  let d := if restart then
      d.each ((d.pav p).runs.filter fun (e : Nat × ProgRun) => e.2.stop.isNone) fun d (e : Nat × ProgRun) =>
        d.freshCycle p e.1
    else d
  d.retry p

/-- The count of the return runs while the rail stands above 92 % of NOM in a dip, and restarts where it falls below (R595). -/
def Dev.returnCount (d : Dev) (p : Nat) : Dev :=
  let above : Bool := (d.pav p).dip && decide (d.fld F.PAV_VDRV_NOM p * 92 < d.fld F.PAV_VDRV_MEAS p * 100)
  d.modPav p fun x => { x with okAt := if above then some (x.okAt.getD d.tc) else none }

/-- A measurement of VDRV_Pn, in 0.1 V (R64): the pulse widths of the pavilion's fields follow it (R72), and below warning a dip
starts (R595). -/
def Dev.vdrvMeas (d : Dev) (p meas : Nat) : Dev :=
  let d := (d.setFld F.PAV_VDRV_MEAS p 0 meas).each (pavChans p) Dev.pulse
  (if d.vdrvBelow p && !(d.pav p).dip then d.dipStart p else d).returnCount p

/-- VDRV_DIP (R595): the rail as measured, in 0.1 V. -/
def execVdrvDip (pav : Fin 6) (meas : Fin 256) (s : State) : Host.Outcome State Fault Refusal :=
  onDev (fun _ d => d.vdrvMeas pav meas) s

/-- VDRV_RETURN (R595, R596): the rail as measured, in 0.1 V, at the end of 200 µs above 92 % of NOM. -/
def execVdrvReturn (pav : Fin 6) (meas : Fin 256) (s : State) : Host.Outcome State Fault Refusal :=
  onDev (fun _ d =>
    let p : Nat := pav
    let d := d.vdrvMeas p meas
    match (d.pav p).okAt with
    | some t => (d.runTo (t + usTc 200)).dipEnd p true
    | none => d) s

/-- A write of PAV_VDRV (R595): the thresholds follow NOM at once, and 0 ends a dip. -/
def Dev.vdrvWrite (d : Dev) (nv : NonVol) (p v : Nat) : Dev :=
  let d := (d.plainWrite nv .PAV_VDRV p 0 v).returnCount p
  let dip := (d.pav p).dip
  if dip && d.fld F.PAV_VDRV_NOM p == 0 then d.dipEnd p false
  else if !dip && d.vdrvBelow p then d.dipStart p
  else d.retry p

/-- VDRV_NOM_WRITE (R595). -/
def execVdrvNomWrite (pav : Fin 6) (v : Word) (s : State) : Host.Outcome State Fault Refusal :=
  onDev (fun nv d => d.vdrvWrite nv pav v.toNat) s

/-- The measured core voltage and its lowest value since reset (R605). -/
def Dev.coreMv (d : Dev) (mv : Nat) : Dev :=
  (d.setFld F.PWR_CORE_MV 0 0 mv).setFld F.PWR_CORE_MIN_MV 0 0 (min mv (d.fld F.PWR_CORE_MIN_MV))

/-- CORE_WARN (R591, R592): the core voltage as measured, mV, below 0.68 V. -/
def execCoreWarn (mv : Fin 1024) (s : State) : Host.Outcome State Fault Refusal :=
  onDev (fun _ d =>
    let d := d.coreMv mv
    if d.on F.PWR_STAT_CORE_WARN || decide (680 ≤ mv.val) then d
    else ((d.setOn F.PWR_STAT_CORE_WARN 0 0 true).addFld F.PWR_CORE_DIPS_COUNT 0 0 1).supplyWarn 0 true mv) s

/-- CORE_WARN_RELEASE (R591, R592): from 0.70 V on. -/
def execCoreWarnRelease (mv : Fin 1024) (s : State) : Host.Outcome State Fault Refusal :=
  onDev (fun _ d =>
    let d := d.coreMv mv
    if d.on F.PWR_STAT_CORE_WARN && decide (700 ≤ mv.val) then (d.setOn F.PWR_STAT_CORE_WARN 0 0 false).supplyWarn 0 false mv else d) s

/-! ### Die temperature (R598, R599, monitors 0x0024 and 0x0025) -/

/-- TEMP_WARN follows the die with its hysteresis of 3 °C (R599). -/
def Dev.tempWarn (d : Dev) : Dev :=
  let die := d.fldI F.PWR_TEMP_DIE
  let lim : Int := 4 * d.fld F.PWR_TEMP_WARN
  if lim ≤ die then if d.on F.PWR_STAT_TEMP_WARN then d else (d.setOn F.PWR_STAT_TEMP_WARN 0 0 true).setMisc 3
  else if die ≤ lim - 12 then d.setOn F.PWR_STAT_TEMP_WARN 0 0 false else d

/-- DIE_TEMP_CONVERSION (R598, R599): both sensors in 0.25 °C. -/
def execDieTempConversion (a b : Int) (s : State) : Host.Outcome State Fault Refusal :=
  onDev (fun _ d =>
    let d := (List.range 6).foldl Dev.settleTokens d
    let d := (d.setFld F.PWR_TSENS_A 0 0 (ofInt 10 a)).setFld F.PWR_TSENS_B 0 0 (ofInt 10 b)
    let d := (d.setFld F.PWR_TEMP_DIE 0 0 (ofInt 10 (max a b))).tempWarn
    let d := if 20 < (a - b).natAbs then d.faultFree { code := 0x0025, cls := 0, kind := 3 } else d
    if (4 * d.fld F.FLT_TEMP_CUT : Nat) ≤ max a b then
      d.fault { code := 0x0024, cls := 3, kind := 3, value := ofInt 32 (max a b) }
    else d) s

/-! ### The windows of the common grid (R719) -/

/-- Credit after a window with measured power, under the settings in force in it (R351, R354). -/
def Dev.creditWindow (d : Dev) (n mw : Nat) : Int :=
  let t0 := max (d.ch n).creditAt (d.tc - 64)
  (d.shpAt n t0).step (d.creditAtTc n t0) (d.tc - t0) (mw * 64)

/-- Tokens after a window with the measured power of a pavilion (R355). -/
def Dev.tokenWindow (d : Dev) (p mw : Nat) : Int :=
  let t0 := max (d.pav p).tokAt (d.tc - 64)
  let c0 := ({ d with time := { d.time with tc := t0 } } : Dev).tokensNow p
  clampInt (-(d.depth p : Nat)) (d.depth p)
    (c0 + (d.fld F.PAV_BKT_RATE_RATE p * (d.tc - t0) * d.foldPct / 100 : Nat) - (mw * 64 : Nat))

/-- The limiter's limit for the window that ends now (R93, R97). -/
def Dev.limNow (d : Dev) (n : Nat) : Nat :=
  match (d.ch n).limOld with
  | some (v, t) => if d.tc ≤ t then v else d.fld F.CH_PWR_LIM_MW n
  | none => d.fld F.CH_PWR_LIM_MW n

/-- A field of the channel, or a Belvedere probe, stood within the window that ends now (R719). -/
def Dev.fieldIn (d : Dev) (n : Nat) : Bool :=
  d.coilOn n || ((d.ch n).downAt.or (d.ch n).offAt).any fun t => decide (d.tc < t + 64)

/-- The limiter judges a window (R93 to R95). -/
def Dev.limiter (d : Dev) (w : WinFacts) : Dev :=
  let n := w.ch
  if d.fieldIn n && overHalfDb w.drive (d.limNow n) then
    ((d.setOn F.CH_LIM_STAT_TRIP n 0 true).addFld F.CH_LIM_STAT_TRIPS n 0 1).faultFree
      { code := 0x0012, cls := 2, kind := 0, ix := n }
  else d

/-- A step of the automatic tuner is judged by the next field's return loss, in each of its windows: 0.5 dB worse takes it back
(R102). -/
def Dev.judgeTune (d : Dev) (n rl : Nat) : Dev :=
  match (d.ch n).retune with
  | none => d
  | some (ser, old) =>
    if rl + 2 ≤ old then
      (d.setOn F.CH_TUNE_STAT_STUCK n 0 true).modCh n fun c => { c with
        retune := none, tunePend := some (c.tunePend.getD (ser, d.fld F.CH_TUNE_SHUNT n)) }
    else d

/-- A window's return loss: RL, SIDE, LOW and TUNER_MISMATCH (R99, R100, R102). -/
def Dev.returnLoss (d : Dev) (n rl side : Nat) : Dev :=
  let d := (d.setFld F.CH_TUNE_STAT_RL n 0 rl).setFld F.CH_TUNE_STAT_SIDE n 0 side
  let thr := d.fld F.CH_TUNE_CTL_RL_THR n
  let low : Bool := decide (rl < thr)
  let d := d.setOn F.CH_TUNE_STAT_LOW n 0 low
  let d := if low && !(d.ch n).rlLow then
      (d.modCh n fun c => { c with rlLow := true }).event .tunerMismatch n
        (toLe 1 rl ++ toLe 1 side ++ toLe 1 (d.fld F.CH_TUNE_SER n))
    else if thr + 8 < rl then d.modCh n fun c => { c with rlLow := false } else d
  d.judgeTune n rl

/-- The loop may follow this window (R73, R76): unmodulated carrier of a field past its ramp-up, outside the device's own frames and
the response windows and frames that follow them. -/
def Dev.loopRuns (d : Dev) (w : WinFacts) : Bool :=
  d.on F.CH_TX_CTL_LOOP_EN w.ch && w.rl.isSome &&
    (match (d.ch w.ch).fieldOf with
     | some m =>
       (match (d.ch m).txn with
        | some t => t.phase == .up && (t.air == .idle || t.air == .staged) && decide (t.tUp + d.fld F.CH_RAMP_UP w.ch + 64 ≤ d.tc)
        | none => false)
     | none => false)

/-- The loop ceiling rescales the drive by the ratio of the limit to a measured power (R74, R97). -/
def Dev.ceilTo (d : Dev) (n lim meas : Nat) : Dev :=
  ((d.modCh n fun c => { c with drive := { c.drive with num := c.drive.num * lim, den := c.drive.den * meas } }).setOn
    F.CH_FIELD_STAT_CEILING n 0 true).pulse n

/-- A rise of a coil's drive by some 1/339 of 0.05 dB takes a measured power above a limit: a rise by 67,800 of them is one by a factor
of 10 (R74). -/
def overCeil (mw lim : Nat) (rise : Int) : Bool := decide (0 < rise) && decide (lim ^ 67800 < mw ^ 67800 * 10 ^ rise.toNat)

/-- The loop ceiling watches every window of a field that stands, with any overshoot in a device frame (R74, R83; log entry 59). -/
def Dev.ceilRuns (d : Dev) (n : Nat) : Bool := d.on F.CH_TX_CTL_LOOP_EN n && d.coilOn n && (d.ch n).downAt.isNone

/-- One update of the loop: the correction moves by the window's share 64/2,712 of the error, 8/339 (R73; log entry 59), unless the
coil is at full swing (R75), and no further than to CH_PWR_LIM, at which the loop then holds it (R74). -/
def Dev.loopStep (d : Dev) (w : WinFacts) : Dev :=
  let n := w.ch
  let lim := d.fld F.CH_PWR_LIM_MW n
  let runs := d.loopRuns w
  let d := d.cond runs fun d => (d.setFld F.CH_FIELD_STAT_ERR n 0 (ofInt 8 (clampInt (-128) 127 w.err))).cond w.headroom
    (·.setOn F.CH_FIELD_STAT_HEADROOM n 0 true)
  if d.ceilRuns n && decide (lim < w.mw) then d.ceilTo n lim w.mw
  else if !runs || w.headroom && decide (0 < w.err) then d
  else if overCeil w.mw lim (8 * w.err) then d.ceilTo n lim w.mw
  else (d.modCh n fun c => { c with drive := { c.drive with corr := c.drive.corr + 8 * w.err } }).pulse n

/-- What a window measured on a channel (R73 to R77, R99, R124 to R132, R351). -/
def Dev.window1 (d : Dev) (w : WinFacts) : Dev :=
  let n := w.ch
  let d := d.putCredit n (d.creditWindow n w.mw)
  let d := (d.setFld F.CH_PWR_MEAS_MW n 0 (sat 4095 w.mw)).setFld F.CH_PWR_MEAS_PEAK n 0
    (max (d.fld F.CH_PWR_MEAS_PEAK n) (sat 4095 w.mw))
  let d := d.loopStep w
  let d := match w.rl with
    | some (v, side) => if d.coilOn n then d.returnLoss n (sat 255 v) side else d
    | none => d
  d.takeEstimates w

/-- POWER_WINDOW_END (R719): power, credit, tokens, return loss and estimates of the channels named; every other channel, and one
whose field was off throughout, had 0 power. Then the limiter judges, and VDRV_P0 on stand as last measured in the window (R64). -/
def execPowerWindowEnd (l : List WinFacts) (vdrv : List (Fin 256)) (s : State) : Host.Outcome State Fault Refusal :=
  onDev (fun _ d =>
    let e := d.gridEnd 64 d.time.winAt
    let d := d.runTo e
    let d := { d with time := { d.time with winAt := e } }
    let l := (l.filter fun (w : WinFacts) => decide (w.ch < 192)).map fun (w : WinFacts) =>
      if d.fieldIn w.ch then w else { w with mw := 0, drive := 0 }
    let d := d.each (List.range 6) fun d p =>
      let mw := (l.filter fun (w : WinFacts) => pavOf w.ch == p).foldl (fun a (w : WinFacts) => a + w.mw) 0
      d.modPav p fun x => { x with tokens := d.tokenWindow p mw, tokAt := d.tc }
    let quiet := allChans.filter fun n => !l.any (fun (w : WinFacts) => w.ch == n) && d.fld F.CH_PWR_MEAS_MW n != 0
    let d := d.each quiet fun d n => d.setFld F.CH_PWR_MEAS_MW n 0 0
    let d := (d.each l Dev.window1).combWindow l
    let d := d.each l Dev.limiter
    (d.each (vdrv.take 6).zipIdx fun d v => d.vdrvMeas v.2 v.1).retryAll) s

/-! ### Limits, tuner, chains -/

/-- What follows a change of CH_PWR_LIM from a limit in force (R96, R97): the limiter keeps the older limit to the next window, and a
running field above the new limit is rescaled at once by the loop ceiling. -/
def Dev.limTail (d : Dev) (n old : Nat) : Dev :=
  let d := d.modCh n fun c => { c with limOld := some (old, d.nextWindow) }
  let new := d.fld F.CH_PWR_LIM_MW n
  let mw := d.fld F.CH_PWR_MEAS_MW n
  (d.cond (d.ceilRuns n && decide (new < mw)) fun d => d.ceilTo n new mw).retry (pavOf n)

/-- A write of CH_PWR_LIM (R96, R97). -/
def Dev.limWrite (d : Dev) (nv : NonVol) (n v : Nat) : Dev := (d.plainWrite nv .CH_PWR_LIM n 0 v).limTail n (d.limNow n)

/-- PWR_LIM_WRITE (R97). -/
def execPwrLimWrite (ch : Fin 192) (v : Word) (s : State) : Host.Outcome State Fault Refusal :=
  onDev (fun nv d => d.limWrite nv ch v.toNat) s

/-- A write of CH_TUNE (R98, R104). -/
def Dev.tuneWrite (d : Dev) (n v : Nat) : Dev :=
  let d := d.setOn F.CH_TUNE_CTL_AUTO n 0 false
  let ser := bits v 0 7
  let shunt := bits v 8 6
  if d.coilOn n then
    (d.setOn F.CH_TUNE_PENDING n 0 true).modCh n fun c => { c with tunePend := some (ser, shunt), retune := none }
  else (d.modCh n fun c => { c with tunePend := some (ser, shunt), retune := none }).tuneNow n

/-- TUNE_WRITE (R98, R104). -/
def execTuneWrite (ch : Fin 192) (v : Word) (s : State) : Host.Outcome State Fault Refusal :=
  onDev (fun _ d => d.tuneWrite ch v.toNat) s

/-- A write of CH_TX_CTL (R76, R92): with LOOP_EN = 0 the feedforward alone sets the level, so a running field loses the loop's correction
and ceiling factor at once (log entry 59), and its pulse width takes the setting that VCOMP_EN gives. -/
def Dev.txCtlWrite (d : Dev) (nv : NonVol) (n v : Nat) : Dev :=
  let d := d.plainWrite nv .CH_TX_CTL n 0 v
  ((d.cond (!d.on F.CH_TX_CTL_LOOP_EN n) fun d => d.modCh n fun c => { c with drive := {} }).pulse n).retry (pavOf n)

/-- A field-enable chain's read-back differs (R91, monitor 0x0011). -/
def Dev.chainFault (d : Dev) (n : Nat) : Dev :=
  (d.setOn F.CH_FEN_STAT_CHAIN_FAULT n 0 true).faultFree { code := 0x0011, cls := 2, kind := 0, ix := n }

/-- CHAIN_FAULT (R91). -/
def execChainFault (ch : Fin 192) (s : State) : Host.Outcome State Fault Refusal := onDev (fun _ d => d.chainFault ch) s

end Sys2Proof.Machine
end

