-- ==== Sys2Proof/Machine/Tokens.lean ====
section
/-! DEFINITION. Roots, keys, signed tokens and command authentication (R483 to R504). -/

namespace Sys2Proof.Machine

/-- A signed token (R502). -/
structure Token where
  magic    : Nat := 0
  kind     : Nat := 0
  signer   : Nat := 0
  keyIndex : Nat := 0
  arg      : Nat := 0
  serial   : Nat := 0
  ctr      : Nat := 0
  fromSt   : Nat := 0
  payload  : List Byte := []
  pubkey   : List Byte := []
  sig      : List Byte := []
  signedB  : List Byte := []
  /-- The reserved bytes are 0. -/
  clean    : Bool := false
deriving DecidableEq, Repr

/-- A part of a byte string. -/
def slice (b : List Byte) (o n : Nat) : List Byte := (b.drop o).take n

/-- Section entry i of a manifest (R488, R489). -/
def secEntry (m : List Byte) (i : Nat) : List Byte := slice m (1864 + 64 * i) 64

/-- Read a token of 3,144 bytes (R502). Of PAYLOAD, kinds 1 and 4 use nothing and kind 3 two bytes; the rest must be 0. -/
def Token.parse (b : List Byte) : Token :=
  let k := byteAt b 4
  { magic := leAt b 0 4, kind := k, signer := byteAt b 5, keyIndex := byteAt b 6, arg := byteAt b 7,
    serial := leAt b 8 8, ctr := leAt b 16 8, fromSt := byteAt b 24, payload := slice b 32 32,
    pubkey := slice b 64 1793, sig := slice b 1864 1280, signedB := b.take 1864,
    clean := allZero (slice b 25 7) && allZero (slice b 1857 7) &&
      (if k = 2 then true else if k = 3 then allZero (slice b 34 30) else allZero (slice b 32 32)) }

/-- The KEY_SLOT code of a root slot named by class and index (R484): 0 vendor, 1 owner. -/
def rootCode (signer keyIndex : Nat) : Nat := if signer = 1 then 0x20 + keyIndex else 0x30 + keyIndex

/-- A root slot exists, is written and is not revoked (R483). -/
def NonVol.rootLive (nv : NonVol) (code : Nat) : Bool :=
  (tblFind nv.roots code).isSome && !nv.revoked.contains code &&
    ((decide (0x20 ≤ code) && decide (code ≤ 0x21)) || (decide (0x30 ≤ code) && decide (code ≤ 0x32)))

/-- A public key and a signature by it hold against a root slot (R492, R503). -/
def NonVol.signedBy (nv : NonVol) (code : Nat) (pubkey msg sig : List Byte) : Bool :=
  nv.rootLive code && decide (shake256 pubkey = tblGet nv.roots code []) && Config.falconVerify pubkey msg sig

/-- The check of a token (R503): none when it is valid. `signers` are the classes the operation accepts. A counter mismatch is
named only where nothing else fails (log entry 24). -/
def NonVol.tokenCheck (nv : NonVol) (t : Token) (kinds signers : List Nat) : Option Status :=
  if t.magic ≠ 0x4B545A41 ∨ ¬ t.clean ∨ ¬ kinds.contains t.kind ∨ t.serial ≠ nv.serial ∨ t.fromSt ≠ nv.life ∨
      ¬ signers.contains t.signer ∨ ¬ nv.signedBy (rootCode t.signer t.keyIndex) t.pubkey t.signedB t.sig then some .authFail
  else if t.ctr ≠ nv.tokenCtr then some .authReplay
  else none

/-! ### Command authentication (R496 to R501) -/

/-- The key in a slot, if one is installed. -/
def NonVol.key (nv : NonVol) (slot : Nat) : Option (List Byte) := tblFind nv.keys slot

/-- At least one command key is installed. -/
def NonVol.anyKey (nv : NonVol) : Bool := (List.range 8).any fun k => (nv.key k).isSome

/-- A critical command (R407). -/
def critical (op : Nat) : Bool := [0x30, 0x31, 0x39, 0x3B, 0x3C].contains op

/-- A critical command needs an extension in the present state (R496). -/
def NonVol.needsAuth (nv : NonVol) (op : Nat) : Bool :=
  critical op && (if nv.life ≤ 1 then false else if nv.life = 2 then nv.anyKey else true)

/-- The tag of an extension (R498). -/
def cmdTag (key : List Byte) (ctr slot serial : Nat) (desc : List Byte) : List Byte :=
  kmac256 key (toLe 8 ctr ++ toLe 1 slot ++ toLe 8 serial ++ desc.take 60) customCmd

/-- HW of a command slot: after a reset it equals M (R500). -/
def Dev.markHw (d : Dev) (nv : NonVol) (slot : Nat) : Nat :=
  match tblFind d.sec.hw slot with
  | some h => h
  | none => tblGet nv.marks slot 0

/-- An authentication counts as failed or replayed (R519, R520). -/
def Dev.authBad (d : Dev) (st : Status) : Dev :=
  match st with
  | .authFail => (d.addFld F.SEC_STAT_AUTH_FAILS 0 0 1).setMisc 5
  | .authReplay => (d.addFld F.SEC_STAT_REPLAYS 0 0 1).setMisc 5
  | _ => d

/-- The acceptance of an extension (R499): its status, none when it passes, and the marks it leaves. `tagGood` is the tag's
verdict, `nvmOk` whether a write of M reads back. -/
def Dev.acceptExt (d : Dev) (nv : NonVol) (slot ctr : Nat) (tagGood nvmOk : Bool) : Option Status × NonVol × Dev :=
  if !tagGood then (some .authFail, nv, d.authBad .authFail)
  else if ctr ≤ d.markHw nv slot then (some .authReplay, nv, d.authBad .authReplay)
  else
    let up : Bool := decide (tblGet nv.marks slot 0 ≤ ctr)
    if up && !nvmOk then (some .faultAbort, nv, d)
    else
      let nv := if up then { nv with marks := tblSet nv.marks slot (min (ctr + 1024) (2 ^ 64 - 1)) 0 } else nv
      (none, nv, { d with sec := { d.sec with hw := tblPut d.sec.hw slot ctr } })

/-- The check of an extension on a descriptor (R412, R497 to R499): its bytes and the descriptor's. -/
def Dev.checkExt (d : Dev) (nv : NonVol) (desc ext : List Byte) (nvmOk : Bool) : Option Status × NonVol × Dev :=
  let slot := byteAt ext 1
  let ctr := leAt ext 8 8
  match (if slot < 8 then nv.key slot else none) with
  | none => (some .authFail, nv, d.authBad .authFail)
  | some key => d.acceptExt nv slot ctr (decide (cmdTag key ctr slot nv.serial desc = slice ext 16 16)) nvmOk

end Sys2Proof.Machine
end

