-- ==== Sys2Proof/Machine/Rings.lean ====
section
/-! DEFINITION. Rings, doorbells, take-up of descriptors, their start, deadlines, posting and interrupts (R384 to R413, R421 to
R434, R694, R717). -/

namespace Sys2Proof.Machine

/-! ### Ring set-up and doorbells (R386 to R395) -/

/-- A ring error: its status bit and the cause bit (R393, R394, R397). -/
def Dev.ringErr (d : Dev) (r : Nat) (f : Fld) : Dev := (d.setOn f r 0 true).setMisc 0

/-- A doorbell write (R393, R394): `cmd` for a command ring. -/
def Dev.doorbell (d : Dev) (r v : Nat) (cmd : Bool) : Dev :=
  let size := d.ringSize r
  let tail := d.rd .HIF_RING_TAIL r
  let head := d.rd .HIF_RING_HEAD r
  -- with the ring disabled LOG2_SIZE may have come down below TAIL: every difference is taken modulo SIZE
  let back := size - tail % size
  let room := if cmd then (head + size + back - 1) % size else (head + back) % size
  if v < size ∧ (v + back) % size ≤ room then d.wr .HIF_RING_TAIL r 0 v
  else d.ringErr r F.HIF_RING_STAT_DB_ERR

/-- COMMAND_DOORBELL (R393, R394). -/
def execCommandDoorbell (ring : Fin 32) (v : Word) (s : State) : Host.Outcome State Fault Refusal :=
  onDev (fun _ d => d.doorbell ring v.toNat true) s

/-- EVENT_DOORBELL (R390, R394): event ring EVQ. -/
def execEventDoorbell (evq : Fin 32) (v : Word) (s : State) : Host.Outcome State Fault Refusal :=
  onDev (fun _ d => d.doorbell (evRing evq) v.toNat false) s

/-- The rings may be enabled: no boot has failed (R493). -/
def Dev.ringsOpen (d : Dev) : Bool := decide (d.fld F.SEC_BOOT_STATE ≤ 2)

/-- A write of HIF_RING_CFG (R387, R388, R493). -/
def Dev.ringCfgWrite (d : Dev) (nv : NonVol) (r v : Nat) : Dev :=
  let old := d.rd .HIF_RING_CFG r
  let was := bitAt old 0
  let v := if was then setBits (setBits v 8 5 (bits old 8 5)) 16 5 (bits old 16 5) else v
  let v := if d.ringsOpen then v else setBits v 0 1 0
  let d := d.plainWrite nv .HIF_RING_CFG r 0 v
  if d.on F.HIF_RING_CFG_EN r && !was then
    let d := ((d.wr .HIF_RING_HEAD r 0 0).wr .HIF_RING_TAIL r 0 0).setOn F.HIF_RING_STAT_PHASE r 0 true
    d.modRing r fun x => { x with stopped := false, unsig := 0, oldest := 0 }
  else d

/-- A write of HIF_RING_BASE: only while EN = 0 (R387). -/
def Dev.ringBaseWrite (d : Dev) (nv : NonVol) (r : Nat) (hi : Bool) (v : Nat) : Dev :=
  if d.on F.HIF_RING_CFG_EN r then d
  else d.plainWrite nv (if hi then .HIF_RING_BASE_H else .HIF_RING_BASE_L) r 0 v

/-- RING_CFG_WRITE (R387, R388). -/
def execRingCfgWrite (ring : Fin 64) (v : Word) (s : State) : Host.Outcome State Fault Refusal :=
  onDev (fun nv d => d.ringCfgWrite nv ring v.toNat) s

/-! ### Policers (R405, R406) -/

/-- Tokens of a ring's policer now, in 1/13,560,000 of a token (R405). -/
def Dev.polNow (d : Dev) (r : Nat) : Nat :=
  min (d.fld F.HIF_RING_BURST_BURST r * 13560000) ((d.ring r).tok + d.fld F.HIF_RING_POL_RATE r * (d.tc - (d.ring r).tokAt))

/-- Bring a ring's policer up to the present cycle. -/
def Dev.settlePol (d : Dev) (r : Nat) : Dev := d.modRing r fun x => { x with tok := d.polNow r, tokAt := d.tc }

/-- A write of HIF_RING_POL or HIF_RING_BURST keeps the tokens held, clamped (R406). -/
def Dev.polWrite (d : Dev) (nv : NonVol) (r : Nat) (burst : Bool) (v : Nat) : Dev :=
  ((d.settlePol r).plainWrite nv (if burst then .HIF_RING_BURST else .HIF_RING_POL) r 0 v).settlePol r

/-- The policer refuses a descriptor. -/
def Dev.policed (d : Dev) (r : Nat) : Bool :=
  d.fld F.HIF_RING_POL_RATE r != 0 && decide (d.polNow r < 13560000)

/-- One token is used, unless the policer is off (R405). -/
def Dev.usePol (d : Dev) (r : Nat) : Dev :=
  if d.fld F.HIF_RING_POL_RATE r = 0 then d
  else (d.settlePol r).modRing r fun x => { x with tok := x.tok - 13560000 }

/-! ### Descriptors (R398, R407) -/

/-- Read a descriptor from its slot (R398). -/
def Desc.parse (b : List Byte) : Desc :=
  { op := byteAt b 0, irq := bitAt (byteAt b 1) 0, auth := bitAt (byteAt b 1) 1, noEvent := bitAt (byteAt b 1) 2,
    fence := bitAt (byteAt b 1) 3, target := leAt b 2 2 % 1024, gen := byteAt b 4, session := leAt b 6 2 % 512,
    deadline := leAt b 8 8, bufAddr := leAt b 16 8, bufLen := leAt b 24 4, txLen := leAt b 28 2, param := slice b 32 28 }

/-- The check word of a slot (R398). -/
def slotCrc (b : List Byte) : Bool := decide (leAt b 60 4 = crc32c (padTo 60 b))

/-- The class of a target: 0 channel, 1 arbour, 2 pavilion, 3 device; none where it names nothing. -/
def targetClass (t : Nat) : Option Nat :=
  if t < 192 then some 0 else if 0x100 ≤ t ∧ t < 0x118 then some 1 else if 0x200 ≤ t ∧ t < 0x206 then some 2
  else if t = 0x3FF then some 3 else none

/-- The target classes of an opcode (R407); empty where it is not listed. -/
def opTargets (op : Nat) : List Nat :=
  match op with
  | 0x00 | 0x12 => [0, 1, 2, 3]
  | 0x01 | 0x02 | 0x03 | 0x04 | 0x0C | 0x10 | 0x18 | 0x19 | 0x25 | 0x26 | 0x33 => [0]
  | 0x08 | 0x09 | 0x0A | 0x0B => [2]
  | 0x22 | 0x23 => [0, 3]
  | 0x29 => [0, 1]
  | 0x11 | 0x20 | 0x21 | 0x24 | 0x28 | 0x30 | 0x31 | 0x32 | 0x38 | 0x39 | 0x3A | 0x3B | 0x3C => [3]
  | _ => []

/-- The bits of PARAM bytes 32 on that an opcode uses; the others are reserved (R407). -/
def opMask (op : Nat) : List Nat :=
  let w (n : Nat) : List Nat := List.replicate n 0xFF
  let z (n : Nat) : List Nat := List.replicate n 0
  match op with
  | 0x01 => [0x03, 0xFF, 0x7F, 0x77, 0xFF, 0] ++ w 8
  | 0x02 => [0x01]
  | 0x04 => [0xFF, 0xFF, 0xFF, 0] ++ w 12
  | 0x08 | 0x09 | 0x0A | 0x0B | 0x0C => [0x0F]
  | 0x10 => [0x07]
  | 0x12 => w 4 ++ [0x01]
  | 0x18 => [0x03] ++ z 7 ++ w 16
  | 0x20 => [0x3F, 0x0F, 0x01]
  | 0x21 | 0x24 | 0x25 => [0xFF]
  | 0x22 | 0x23 => [0xFF, 0, 0, 0] ++ w 4
  | 0x29 => [0xFF, 0x01, 0x07, 0] ++ w 4
  | 0x30 => w 5
  | 0x32 => w 8
  | 0x33 => [0xFF, 0, 0, 0] ++ w 4
  | 0x38 => w 16
  | 0x39 => w 2
  | 0x3C => w 12
  | _ => []

/-- The reserved bytes and bits of a slot are 0 (R398, R407). -/
def reservedOk (b : List Byte) : Bool :=
  decide (byteAt b 1 < 16) && decide (leAt b 2 2 < 1024) && byteAt b 5 == 0 && decide (leAt b 6 2 < 512) && leAt b 30 2 == 0 &&
    (List.range 28).all fun k => byteAt b (32 + k) &&& (255 - (opMask (byteAt b 0)).getD k 0) == 0

/-- The reserved bytes of an extension are 0, and its check word holds (R412). -/
def extOk (e : List Byte) : Bool := allZero (slice e 2 6) && allZero (slice e 32 28)

/-- A rate code suits a technology, device to tag or tag to device (R22, R245; log entry 26). -/
def rateCodeOk (tech r : Nat) : Bool :=
  if tech ≤ 1 then decide (r ≤ 6) else if tech = 2 then r == 1 || r == 2 else decide (r ≤ 1)

/-- A power of two from 1,024 to 8,388,608 (R454). -/
def entriesOk (n : Nat) : Bool := (List.range 14).any fun k => n == 2 ^ (10 + k)

/-- The ledger key slot of a KEY_SLOT byte, coded 0 to 3 (R454). -/
def ledgerSlotOk (k : Nat) : Bool := decide (k ≤ 3)

/-- The KEY_SLOT of an operation exists (R486). -/
def keySlotOk (op slot : Nat) : Bool :=
  let ck := decide (slot ≤ 7)
  let lk := decide (0x10 ≤ slot) && decide (slot ≤ 0x13)
  let owner := slot == 0x20 || slot == 0x21
  let vendor := decide (0x30 ≤ slot) && decide (slot ≤ 0x32)
  match op with
  | 0 => ck
  | 1 => lk
  | 2 => ck || lk
  | 3 => owner
  | 4 => owner || vendor
  | 5 => true
  | _ => false

/-- Every parameter lies in its range (R407, R408, R439, R454, R486, R523 and the opcodes' own rules). -/
def Desc.paramOk (q : Desc) : Bool :=
  let p (k : Nat) : Nat := byteAt q.param (k - 32)
  match q.op with
  | 0x01 =>
    decide (1 ≤ q.txLen) && rateCodeOk (p 32) (p 33 % 16) && rateCodeOk (p 32) (p 33 / 16) &&
      !(bitAt (p 34) 0 && p 35 % 8 != 0)
  | 0x02 => decide (q.session < 384)
  | 0x03 => decide (q.session < 384) && decide (2 ≤ q.txLen) && decide (q.txLen ≤ 8192)
  | 0x04 =>
    let n := leAt q.param 6 2
    decide (p 32 ≤ 4) && decide (p 34 % 16 ≤ 6) && decide (p 34 / 16 ≤ 6) &&
      (if p 32 = 0 then decide (n ≤ 1020) else if p 32 = 1 then decide (n ≤ 255) else if p 32 = 2 then true else decide (n ≤ 256))
  | 0x10 => decide (p 32 ≤ 4)
  | 0x11 => decide (q.session < 384)
  | 0x18 =>
    decide (p 32 ≤ 2) && q.bufAddr % 4096 == 0 && q.bufLen % 4096 == 0 && decide (16384 ≤ q.bufLen)
  | 0x20 => decide (1 ≤ p 33) && decide (p 33 ≤ 8)
  | 0x21 | 0x22 | 0x23 | 0x24 => decide (p 32 < 64)
  | 0x25 => decide (p 32 < 64) || p 32 == 0x7F
  | 0x29 =>
    let ref := toInt 32 (leAt q.param 4 4)
    decide (p 34 % 8 ≤ 4) && (if p 32 = 1 then decide (192 ≤ q.target) else (p 32 == 0 || p 32 == 2) && decide (q.target < 192)) &&
      (p 32 != 2 || decide (-6000 ≤ ref) && decide (ref ≤ 3000))
  | 0x30 =>
    let n := leAt q.param 0 4
    q.bufAddr % 4096 == 0 && entriesOk n && q.bufLen == 64 * n && ledgerSlotOk (p 36)
  | 0x33 => decide (p 32 ≤ 1)
  | 0x39 => keySlotOk (p 32) (p 33)
  | _ => true

/-- What a slot is worth at take-up beyond authentication and generation (R400). -/
def Desc.good (q : Desc) (b : List Byte) : Bool :=
  (match targetClass q.target with
   | some c => (opTargets q.op).contains c
   | none => false) && reservedOk b && (decide (q.session < 384) || q.session == 0x1FF) && q.paramOk

/-! ### CANCEL (R411) -/

/-- The ring of a descriptor is named in a mask; 0 names all. -/
def inMask (mask ring : Nat) : Bool := mask == 0 || bitAt mask ring

/-- The waiting program cycle of a channel is cancelled (R411), one that is set aside as well. -/
def Dev.cancelCycle (d : Dev) (n : Nat) : Dev :=
  if (d.ch n).txn.any fun (t : Txn) => t.isCycle && t.phase == .waiting then
    (d.refuse n .cancelled).modCh n fun c => { c with cycleOpen := false }
  else d.cond ((d.ch n).aside.any Txn.isCycle) fun d => d.asideGone n .cancelled

/-- A descriptor whose transaction is set aside, by a borrow or behind a priority probe, waits likewise (R185, R338, R411). -/
def Dev.cancelAside (d : Dev) (n mask : Nat) : Dev :=
  d.cond ((d.ch n).aside.any fun t => t.desc.any fun q => inMask mask q.ring) fun d => d.asideGone n .cancelled

/-- Descriptors of a channel that wait for admission have not started in the sense of R411: they are cancelled with the queue's. -/
def Dev.cancelWaiting (d : Dev) (n mask : Nat) : Dev :=
  let d := d.cond ((d.ch n).txn.any fun (t : Txn) => t.phase == .waiting && t.desc.any fun q => inMask mask q.ring) fun d =>
    d.refuse n .cancelled
  d.cancelAside n mask

/-- The channels whose cycles a target's PROGRAM bit names: the target's own. -/
def targetChans (t : Nat) : List Nat :=
  if t < 192 then [t] else if t < 0x200 then arbChans (t - 0x100) else if t < 0x300 then pavChans (t - 0x200) else []

/-- The descriptors that a target has started and that have not begun their work: taken from its head into `run` by
DESCRIPTOR_START and not yet acted on, or a CAL without its borrow (R525; log entry 23). -/
def Dev.cancelRun (d : Dev) (t mask : Nat) : Dev :=
  match (d.tq t).run with
  | some q =>
    let acting : Bool := match (if t < 192 then (d.ch t).txn else none) with
      | some x => x.desc.any (·.same q) || x.hostDesc.any (·.same q)
      | none => false
    if !inMask mask q.ring then d
    else if d.calHeld q then d.calGiveUp q .cancelled
    else if !acting && decide (t < 192) && [0x01, 0x04, 0x0C].contains q.d.op then d.done q .cancelled
    else d
  | none => d

/-- A CANCEL acts (R411). -/
def Dev.cancel (d : Dev) (q : QDesc) : Dev :=
  let t := q.d.source
  let mask := leAt q.d.param 0 4
  let hit := (d.tq t).q.filter fun (x : QDesc) => inMask mask x.ring
  let d := d.modTq t fun x => { x with q := x.q.filter fun (y : QDesc) => !inMask mask y.ring }
  let d := (if t < 192 then d.cancelWaiting t mask else d).cancelRun t mask
  let d := d.each hit fun d x => (d.complete x .cancelled { result := .cancelled }).airGone x
  let d := if bitAt (byteAt q.d.param 4) 0 then d.each (targetChans t) Dev.cancelCycle else d
  d.complete q .ok

/-! ### Take-up (R389, R400 to R406, R432, R717) -/

/-- Rings are served (R384, R491, R569). -/
def Dev.takesUp (d : Dev) : Bool := d.pwr.boot == .running && !d.pwr.safe && d.mayReq && !d.pwr.sleepAsk

/-- The depth of a target's queue (R401). -/
def queueDepth (t : Nat) : Nat := if t < 192 then 16 else if t < 0x300 then 32 else 64

/-- The target's queue has room (R401); a CANCEL needs none. -/
def Dev.tqRoom (d : Dev) (q : Desc) : Bool :=
  q.op == 0x12 ||
    decide ((d.tq q.source).q.length + (if (d.tq q.source).run.isSome then 1 else 0) < queueDepth q.source)

/-- Outbound room that a take-up needs first (R432, R717). -/
def Dev.takeRoom (d : Dev) (target : Nat) : Bool :=
  decide (1 ≤ d.devFree) && d.host.devQ.waiting.isEmpty &&
    (match targetClass target with
     | some 0 => decide (1 ≤ d.outFree target) && (d.ch target).outq.waiting.isEmpty
     | some _ => decide (16 ≤ d.devFree)
     | none => true)

/-- HEAD moves past k slots; an empty ring may signal (R389, R423). -/
def Dev.advance (d : Dev) (r k : Nat) : Dev :=
  let d := d.wr .HIF_RING_HEAD r 0 ((d.rd .HIF_RING_HEAD r + k) % d.ringSize r)
  if d.on F.HIF_RING_CFG_IRQ_EMPTY r && d.rd .HIF_RING_HEAD r == d.rd .HIF_RING_TAIL r then d.fireVec r else d

/-- The completion of a descriptor that names no one: source the device (R400). Its IRQ counts where its check word has been found good
(R422). -/
def Dev.completeDev (d : Dev) (q : QDesc) (st : Status) (irq : Bool) : Dev :=
  let e := q.entry d st { result := st }
  d.post { e with source := 0x3FF, session := 0x1FF, irq := irq }

/-- A descriptor that a KEY_MANAGE token authorises needs no extension (R496). -/
def NonVol.tokenStands (nv : NonVol) (q : QDesc) : Bool :=
  q.d.op == 0x39 && decide (byteAt q.d.param 0 ≤ 1) && q.input.length == 3144 &&
    (nv.tokenCheck (Token.parse q.input) [2] [1]).isNone

/-- The status of a critical descriptor without an extension: that of its token where it carries one (R413, R503). -/
def NonVol.tokenVerdict (nv : NonVol) (q : QDesc) : Status :=
  if q.d.op = 0x39 ∧ byteAt q.d.param 0 ≤ 1 ∧ q.input.length = 3144 then
    (nv.tokenCheck (Token.parse q.input) [2] [1]).getD .authFail
  else .authFail

/-- The authentication step of a take-up (R400, R412, R413, R496): status, marks, and slots used. -/
def Dev.authStep (d : Dev) (nv : NonVol) (q : QDesc) (slot ext : List Byte) (nvmOk : Bool) : Option Status × NonVol × Dev × Nat :=
  if q.d.auth then
    if byteAt ext 0 ≠ 0xFF then (some .badDescriptor, nv, d, 1)
    else if !slotCrc ext || !extOk ext then (some .badDescriptor, nv, d, 2)
    else
      match d.checkExt nv slot ext nvmOk with
      | (st, nv, d) => (st, nv, d, 2)
  else if nv.needsAuth q.d.op && !nv.tokenStands q then
    let st := nv.tokenVerdict q
    (some st, nv, d.authBad st, 1)
  else (none, nv, d, 1)

/-- What remains after authentication: generation, opcode and parameters, deadline (R333, R400, R403). -/
def Dev.checkStep (d : Dev) (q : QDesc) (slot : List Byte) : Option Status :=
  if !d.genOk q.d (d.rolesAhead q.d.target) then some .staleRole
  else if !q.d.good slot then some .badDescriptor
  else if q.late d.now then some .late
  else none

/-- The reads that a take-up needs: the slots at HEAD, and the descriptor's input (R383, R389, R395, R399, R412). -/
def Dev.readSlots (d : Dev) (r head : Nat) (x : Desc) : Dev :=
  let at_ (k : Nat) : Nat := 64 * (d.pair .HIF_RING_BASE_L .HIF_RING_BASE_H r / 64) + 64 * (k % d.ringSize r)
  let d := (d.readMem (at_ head) 64).cond x.auth fun d => d.readMem (at_ (head + 1)) 64
  d.readMem x.bufAddr x.txLen

/-- A descriptor of Gatehouse's waits behind a LIFECYCLE taken up before it, and for the reset that a transition brings (R507). -/
def Dev.gateBusy (d : Dev) (x : Desc) : Bool :=
  (x.auth || critical x.op || x.op == 0x38 || x.op == 0x3A) &&
    (d.sec.lcDue || d.host.inFlight.any fun (y : QDesc) => y.d.op == 0x3A)

/-- One descriptor is taken up (R400); one that waits for its extension (R412), for its fence (R402) or for Gatehouse (R507) is not yet.
`slot` and `ext` are the bytes of the slot at HEAD and of the next one, `input` the bytes read from the buffer, `nvmOk` whether a write
of a counter mark would read back. -/
def Dev.takeUp (d : Dev) (nv : NonVol) (r : Nat) (slot ext input : List Byte) (nvmOk : Bool) : NonVol × Dev :=
  let head := d.rd .HIF_RING_HEAD r
  let tail := d.rd .HIF_RING_TAIL r
  let x := Desc.parse slot
  let q : QDesc := { d := x, ring := r, idx := head, evq := d.fld F.HIF_RING_CFG_EVQ r, input := padTo x.txLen input }
  if !(d.takesUp && d.on F.HIF_RING_CFG_EN r && !(d.ring r).stopped && head != tail && d.takeRoom x.target) then (nv, d)
  else if slotCrc slot && (x.fence && d.host.inFlight.any (fun (y : QDesc) => y.ring == r) || d.gateBusy x) then (nv, d)
  else if d.policed r then
    (nv, ((d.addFld F.HIF_RING_DROPS_COUNT r 0 1).completeDev q .droppedPoliced false).advance r 1)
  else if !slotCrc slot then (nv, ((d.usePol r).completeDev q .badDescriptor false).advance r 1)
  else if x.auth && (head + 1) % d.ringSize r == tail then (nv, d)
  else
    match (d.readSlots r head x).authStep nv q slot ext nvmOk with
    | (st, nv', d', k) =>
      match (match st with | some s => some s | none => d'.checkStep q slot) with
      | some s =>
        let d' := d'.usePol r
        let d' := if (targetClass x.target).isNone then d'.completeDev q s x.irq else d'.completeE q (q.entry d' s { result := s })
        (nv', d'.advance r k)
      | none =>
        if x.op = 0x12 then (nv', ((d'.usePol r).cancel q).advance r k)
        else if d.tqRoom x then
          let d' := { d' with host := { d'.host with inFlight := d'.host.inFlight ++ [q] } }
          (nv', ((d'.usePol r).modTq x.source fun t => { t with q := t.q ++ [q] }).advance r k)
        else (nv, d)

/-- DESCRIPTOR_TAKE_UP (R400). -/
def execDescriptorTakeUp (ring : Fin 32) (slot ext input : List Byte) (nvmOk : Bool) (s : State) :
    Host.Outcome State Fault Refusal :=
  onBoth (fun nv d => d.takeUp nv ring (padTo 64 slot) (padTo 64 ext) input nvmOk) s

/-- DESCRIPTOR_FETCH_ERROR (R397): of a ring that the device reads. -/
def execDescriptorFetchError (ring : Fin 32) (s : State) : Host.Outcome State Fault Refusal :=
  onDev (fun _ d =>
    if d.takesUp && d.on F.HIF_RING_CFG_EN ring && !(d.ring ring).stopped && d.rd .HIF_RING_HEAD ring != d.rd .HIF_RING_TAIL ring then
      (d.modRing ring fun x => { x with stopped := true }).ringErr ring F.HIF_RING_STAT_FETCH_ERR
    else d) s

/-! ### Start (R334, R403) -/

/-- A transaction of the target's channel stands in the way of air work (R233, R408). -/
def Dev.airBusy (d : Dev) (t op : Nat) : Bool :=
  match (d.ch t).txn with
  | none => false
  | some x =>
    if op = 0x02 then false
    else if op = 0x01 then !(x.work == .exchange && x.holdField && x.finished && x.phase == .up)
    else [0x04, 0x0C].contains op

/-- The role of a code (R342). -/
def roleOf (k : Nat) : Role :=
  if k = 0 then .parked else if k = 1 then .poll else if k = 2 then .listen else if k = 3 then .sweep
  else if k = 4 then .follower else .cal

/-- A SET_ROLE at the head becomes pending, unless the channel's bit in CH_EN_LOCK refuses the role (R325, R326). -/
def Dev.roleAsk (d : Dev) (n : Nat) (q : QDesc) : Dev :=
  let r := roleOf (byteAt q.d.param 0 % 8)
  if r ≠ .parked ∧ !d.enLock n then d.complete q .limitRefused { result := .limitRefused }
  else d.modCh n fun c => { c with roleQ := c.roleQ ++ [(q, r)] }

/-- A SET_ROLE becomes pending beside the descriptor that has started before it: a transaction of the channel, or a borrow of it, is what
both wait for (R326, R339). -/
def Dev.roleBeside (d : Dev) (t : Nat) (q : QDesc) : Bool :=
  decide (t < 192) && q.d.op == 0x10 && (d.engaged t || (d.ch t).borrowed)

/-- A started descriptor may leave the head of its queue now: no other has started, no SET_ROLE is pending before it, a borrow
holds nothing but SET_ROLE back, and what waits to be posted has been posted (R326, R338, R717). -/
def Dev.mayStart (d : Dev) (t : Nat) (q : QDesc) : Bool :=
  ((d.tq t).run.isNone || d.roleBeside t q) && d.pwr.boot == .running && !d.pwr.safe &&
    (if t < 192 then
      let c := d.ch t
      c.outq.waiting.isEmpty && decide (1 ≤ d.outFree t) && (c.roleQ.isEmpty || q.d.op == 0x10) &&
        (!c.borrowed || q.d.op == 0x10) && !d.airBusy t q.d.op
    else d.host.devQ.waiting.isEmpty && decide (1 ≤ d.devFree))

/-- A FOLLOWER takes no descriptor of its own (R193), but the SET_ROLE that ends its role; and a CANCEL aimed at one acts at take-up and
completes OK, as at any channel (the model's choice: log entry 63). -/
def Dev.lendsOnly (d : Dev) (t : Nat) (q : QDesc) : Bool := decide (t < 192) && (d.ch t).role == .follower && q.d.op != 0x10

/-- The head of a target's queue starts after the generation check, which comes before its deadline's (R193, R333, R334, R403). -/
def Dev.startHead (d : Dev) (t : Nat) : Dev :=
  match (d.tq t).q with
  | [] => d
  | q :: rest =>
    if !d.mayStart t q then d.expireHead t
    else
      let beside := (d.tq t).run.isSome
      let d := d.modTq t fun x => { x with q := rest }
      if !d.genOk q.d (if t < 192 then (d.ch t).roleQ.length else 0) then (d.complete q .staleRole { result := .staleRole }).airGone q
      else if q.late d.now then (d.complete q .late { result := .late }).airGone q
      else if beside then d.roleAsk t q
      else if d.lendsOnly t q then (d.complete q .badDescriptor { result := .badDescriptor }).airGone q
      else d.modTq t fun x => { x with run := some q }

/-- DESCRIPTOR_START (R334, R403). -/
def execDescriptorStart (target : Nat) (s : State) : Host.Outcome State Fault Refusal :=
  onDev (fun _ d => if (targetClass target).isSome then d.startHead target else d) s

/-- DEADLINE_EXPIRY (R349, R403): when network time reaches the earliest deadline of what is held or waits for a target. -/
def execDeadlineExpiry (target : Nat) (s : State) : Host.Outcome State Fault Refusal :=
  onDev (fun _ d =>
    if (targetClass target).isSome then
      (match d.deadline target with
       | some t => d.runNet (339 * t)
       | none => d).expire target
    else d) s

/-- The started descriptor of a target, when it has a given opcode. -/
def Dev.running (d : Dev) (t op : Nat) : Option QDesc :=
  match (d.tq t).run with
  | some q => if q.d.op = op then some q else none
  | none => none

/-- NOP (R407). -/
def execNop (target : Nat) (s : State) : Host.Outcome State Fault Refusal :=
  onDev (fun _ d =>
    match d.running target 0x00 with
    | some q => d.done q .ok
    | none => d) s

/-- CANCEL (R411): it acts at its take-up, which carries the effect; a CANCEL that stands started completes OK. -/
def execCancel (target : Nat) (ringMask : Word) (program : Bool) (s : State) : Host.Outcome State Fault Refusal :=
  onDev (fun _ d =>
    if (targetClass target).isSome then
      let hit := (d.tq target).q.filter fun (x : QDesc) => inMask ringMask.toNat x.ring
      let d := d.modTq target fun x => { x with q := x.q.filter fun (y : QDesc) => !inMask ringMask.toNat y.ring }
      let d := (if target < 192 then d.cancelWaiting target ringMask.toNat else d).cancelRun target ringMask.toNat
      let d := d.each hit fun d x => (d.complete x .cancelled { result := .cancelled }).airGone x
      if program then d.each (targetChans target) Dev.cancelCycle else d
    else d) s

/-! ### Posting and interrupts (R384, R422, R424, R427) -/

/-- EVENT_POST (R427, R435): the head entry of a source's outbound queue is written when its turn comes. -/
def execEventPost (source : Nat) (s : State) : Host.Outcome State Fault Refusal := onDev (fun _ d => d.postNow source) s

/-- MSIX_MOD_TIMER (R422): TIME after the oldest entry that no message has signalled. -/
def execMsixModTimer (evq : Fin 32) (s : State) : Host.Outcome State Fault Refusal :=
  onDev (fun _ d =>
    let r := evRing evq
    if d.fld F.HIF_RING_MOD_TIME r ≠ 0 ∧ (d.ring r).unsig ≠ 0 then
      (d.runTo ((d.ring r).oldest + usTc (d.fld F.HIF_RING_MOD_TIME r))).fireRing r
    else d) s

/-- A write of a row's Vector Control: unmasking sends a pending message once (R424). -/
def Dev.vecCtl (d : Dev) (v : Nat) (mask : Bool) : Dev :=
  let row := d.msix v
  if !mask && row.pend && d.host.msixEn && d.mayReq then
    let d := d.modMsix v fun r => { r with mask := false, pend := false }
    d.fireVec v
  else d.modMsix v fun r => { r with mask := mask }

/-- MSIX_UNMASK (R424). -/
def execMsixUnmask (vec : Fin 72) (s : State) : Host.Outcome State Fault Refusal := onDev (fun _ d => d.vecCtl vec false) s

/-- Messages of unmasked vectors that wait are sent once they can be (R384, R424; log entry 33). -/
def Dev.sendPend (d : Dev) : Dev :=
  d.each (List.range 72) fun d v => if (d.msix v).pend && !(d.msix v).mask then d.vecCtl v false else d

/-- The device can make requests again: what waited for it goes (R384). -/
def Dev.reqResume (d : Dev) : Dev := d.issueReads.sendPend.flushAll.retryAll

/-- BUS_MASTER_ENABLE_CHANGE (R384): Bus Master Enable and the MSI-X enable of configuration space. -/
def execBusMasterEnableChange (en msixEn : Bool) (s : State) : Host.Outcome State Fault Refusal :=
  onDev (fun _ d =>
    let d := { d with host := { d.host with busMaster := en, msixEn := msixEn } }
    if d.mayReq then d.reqResume else d) s

end Sys2Proof.Machine
end

