-- ==== Sys2Proof/Machine/Programs.lean ====
section
/-! DEFINITION. Program and script images, and the descriptors that the sequencer carries out (R244 to R248, R270, R271, R274,
R278, R325 to R332, R407 to R409). -/

namespace Sys2Proof.Machine

/-! ### Images (R244 to R246, R271) -/

/-- The technology of a code (R245). -/
def techOf (k : Nat) : Tech := if k = 0 then .nfcA else if k = 1 then .typeB else if k = 2 then .nfcF else .nfcV

/-- A step record's fields lie in their ranges (R245, R246). -/
def stepOk (b : List Byte) : Bool :=
  let x (k : Nat) : Nat := byteAt b k
  decide (x 0 ≤ 3) && decide (x 1 % 16 ≤ 6) && decide (x 1 / 16 ≤ 6) &&
    (x 0 != 2 || (x 1 % 16 == 1 || x 1 % 16 == 2) && (x 1 / 16 == 1 || x 1 / 16 == 2)) && decide (x 2 ≤ 2) && (x 2 == 0 || decide (x 0 ≤ 1)) && decide (x 3 ≤ 15) &&
    (x 0 != 1 || decide (x 5 ≤ 4)) && (x 0 != 3 || decide (x 5 ≤ 15)) && [0, 1, 3, 7, 15].contains (x 6) && decide (x 7 ≤ 12) &&
    decide (x 8 % 16 ≤ 14) && bits (x 8) 4 3 == 0 && decide (x 9 ≤ 7) && allZero (b.drop 10)

/-- A step record (R245). -/
def stepParse (b : List Byte) : PStep :=
  { tech := techOf (byteAt b 0), txMax := byteAt b 1 % 16, rxMax := byteAt b 1 / 16, action := byteAt b 2, script := byteAt b 3,
    p0 := byteAt b 4, p1 := byteAt b 5, tsn := byteAt b 6, fsdi := byteAt b 7, cid := byteAt b 8 % 16,
    cidEn := bitAt (byteAt b 8) 7, deselect := bitAt (byteAt b 9) 0, halt := bitAt (byteAt b 9) 1,
    nextOnFound := bitAt (byteAt b 9) 2 }

/-- The header of a program image lies in its ranges (R244, R246). -/
def progHeaderOk (b : List Byte) : Bool :=
  let x (k : Nat) : Nat := byteAt b k
  x 0 == 1 && decide (1 ≤ x 1) && decide (x 1 ≤ 16) && bits (x 2) 2 2 == 0 && bits (x 2) 7 1 == 0 && decide (1 ≤ x 3) &&
    decide (x 3 ≤ 8) && decide (1000 ≤ leAt b 8 4) && decide (leAt b 8 4 ≤ 60000000) && bits (x 12) 2 5 == 0 &&
    decide (x 14 ≤ 14) && decide (1 ≤ x 15) && decide (x 15 ≤ 32) && decide (3 ≤ leAt b 16 2) && decide (leAt b 16 2 ≤ 8192) &&
    decide (x 18 ≤ 2) && allZero ((b.drop 19).take 13)

/-- Read a poll program image; none when R246 refuses it. -/
def progParse (b : List Byte) : Option Prog :=
  let n := byteAt b 1
  let recs := (List.range n).map fun s => slice b (32 + 16 * s) 16
  if b.length = 36 + 16 * n ∧ leAt b (32 + 16 * n) 4 = crc32c (b.take (32 + 16 * n)) ∧ progHeaderOk b ∧ recs.all stepOk then
    some { steps := recs.map stepParse, stagger := byteAt b 2 % 4, report := bitAt (byteAt b 2) 4,
           stopFirst := bitAt (byteAt b 2) 5, useWup := bitAt (byteAt b 2) 6, maxTags := byteAt b 3, chMask := leAt b 4 4,
           period := leAt b 8 4, fg := byteAt b 12 % 4, fgEn := bitAt (byteAt b 12) 7, level := byteAt b 13,
           declFwi := byteAt b 14, iter := byteAt b 15, rxMax := leAt b 16 2, decision := byteAt b 18 }
  else none

/-- A script's step record lies in its ranges (R271). -/
def sstepOk (b : List Byte) (dataLen : Nat) : Bool :=
  let ofs := leAt b 2 2
  let len := leAt b 4 2
  decide (byteAt b 0 ≤ 1) && decide (byteAt b 1 ≤ 7) && decide (byteAt b 7 ≤ 1) &&
    (byteAt b 0 == 1 || (decide (4 ≤ len) && decide (len ≤ 261) && decide (ofs + len ≤ dataLen)))

/-- Read an APDU script image; none when R271 refuses it. -/
def scriptParse (b : List Byte) : Option (List SStep) :=
  let n := byteAt b 1
  let dl := leAt b 2 2
  let area := 8 + 8 * n
  let recs := (List.range n).map fun s => slice b (8 + 8 * s) 8
  if b.length = area + dl + 4 ∧ leAt b (area + dl) 4 = crc32c (b.take (area + dl)) ∧ byteAt b 0 = 1 ∧ 1 ≤ n ∧ n ≤ 8 ∧ dl ≤ 1972 ∧
      allZero (slice b 4 4) ∧ recs.all (sstepOk · dl) then
    some (recs.map fun r =>
      { host := byteAt r 0 == 1, extract := bitAt (byteAt r 1) 0, report := bitAt (byteAt r 1) 1,
        endOnMatch := bitAt (byteAt r 1) 2, apdu := slice b (area + leAt r 2 2) (leAt r 4 2), idOfs := byteAt r 6,
        swAny := byteAt r 7 == 1 })
  else none

/-- The SLOT of a program or script descriptor. -/
def QDesc.slot (q : QDesc) : Nat := byteAt q.d.param 0 % 16

/-- PROG_LOAD (R246, R248): into a running slot it waits for the next cycle. -/
def execProgLoad (pav : Fin 6) (s : State) : Host.Outcome State Fault Refusal :=
  onDev (fun _ d =>
    let p : Nat := pav
    match d.running (0x200 + p) 0x08 with
    | none => d
    | some q =>
      match progParse q.input with
      | none => d.done q .badDescriptor
      | some g =>
        let d := if (tblFind (d.pav p).runs q.slot).isSome then
            (d.modPav p fun x => { x with progsNew := tblPut x.progsNew q.slot g }).maskChange p q.slot g
          else d.modPav p fun x => { x with progs := tblPut x.progs q.slot g }
        d.done q .ok) s

/-- SCRIPT_LOAD (R271). -/
def execScriptLoad (pav : Fin 6) (s : State) : Host.Outcome State Fault Refusal :=
  onDev (fun _ d =>
    let p : Nat := pav
    match d.running (0x200 + p) 0x0B with
    | none => d
    | some q =>
      match scriptParse q.input with
      | none => d.done q .badDescriptor
      | some l => (d.modPav p fun x => { x with scripts := tblPut x.scripts q.slot l }).done q .ok) s

/-- A program starts: every channel of its mask is bound, or none is (R247). -/
def Dev.progStart (d : Dev) (p : Nat) (q : QDesc) : Dev :=
  match tblFind (d.pav p).progs q.slot with
  | none => d.done q .badDescriptor
  | some g =>
    if (tblFind (d.pav p).runs q.slot).isSome then d.done q .ok
    else
      let chans := (pavChans p).filter fun n => bitAt g.chMask (n % 32)
      if chans.any (fun n => (d.ch n).prog.isSome) then d.done q .badDescriptor
      else
        let d := d.each chans fun d n => d.modCh n fun c => { c with prog := some q.slot, leaving := false, cycleOpen := false }
        (d.modPav p fun x => { x with runs := tblPut x.runs q.slot { start := q } }).done q .ok

/-- PROG_START (R247). -/
def execProgStart (pav : Fin 6) (s : State) : Host.Outcome State Fault Refusal :=
  onDev (fun _ d =>
    match d.running (0x200 + pav.val) 0x09 with
    | none => d
    | some q => d.progStart pav q) s

/-- A bound channel is stopped (R278): an exchange in progress may finish, a held tag is deselected, a cycle that waits
completes with CANCELLED. -/
def Dev.stopChan (d : Dev) (slot : Nat) (r : ProgRun) (n : Nat) : Dev :=
  let mine (t : Txn) : Bool := t.work == .cycle slot false
  -- a cycle that is open and has not come to wait for admission, behind another transaction or the channel's turn, or that is set aside
  let unborn (d : Dev) : Dev :=
    let g := tblGet (d.pav (pavOf n)).progs slot {}
    (if (d.ch n).aside.any mine then d.asideGone n .cancelled
     else if (d.ch n).cycleOpen then d.cycleReport n { work := .cycle slot false, prog := g } .cancelled r.start
     else d).unbind n |>.modCh n fun c => { c with cycleOpen := false }
  match (d.ch n).txn with
  | some t =>
    if !mine t then unborn d
    else if t.phase = .waiting then (d.refuse n .cancelled).unbind n
    else
      let d := d.modTxn n fun t => { t with stopAsked := true }
      if t.phase = .up ∧ t.id.phase = .hostHold then
        let d := match t.sess with
          | some x => d.modSes x fun y => { y with hold := false }
          | none => d
        (d.modTxn n fun t => { t with ending := true, held := none }).deselect n
      else d
  | none => unborn d

/-- PROG_STOP (R278; log entry 18). -/
def execProgStop (pav : Fin 6) (s : State) : Host.Outcome State Fault Refusal :=
  onDev (fun _ d =>
    let p : Nat := pav
    match d.running (0x200 + p) 0x0A with
    | none => d
    | some q =>
      match tblFind (d.pav p).runs q.slot with
      | none => d.done q .ok
      | some r =>
        if r.stop.isSome then d
        else
          let d := d.modPav p fun x => { x with runs := tblPut x.runs q.slot { r with stop := some q } }
          (d.each (d.boundTo p q.slot) fun d n => d.stopChan q.slot r n).stopDone p q.slot) s

/-- RUN_CYCLE (R407): one cycle of a loaded program on a channel that carries no transaction. -/
def execRunCycle (ch : Fin 192) (s : State) : Host.Outcome State Fault Refusal :=
  onDev (fun _ d =>
    let n : Nat := ch
    match d.running n 0x0C with
    | none => d
    | some q =>
      match tblFind (d.pav (pavOf n)).progs q.slot with
      | none => d.done q .badDescriptor
      | some g => if (d.ch n).txn.isNone then d.startCycle n q.slot g (some q) else d) s

/-! ### EXCHANGE (R408) -/

/-- The device frame of an EXCHANGE (R407). -/
def Dev.exchangeFrame (d : Dev) (n : Nat) (q : QDesc) : AirFrame :=
  let p (k : Nat) : Nat := byteAt q.d.param (k - 32)
  let tech := techOf (p 32 % 4)
  let win := leAt q.d.param 6 4
  let f := d.mkFrame n (exchangeUse tech q.input) tech (p 33 % 16) (p 33 / 16)
    (if bitAt (p 34) 0 then withCrc tech q.input else q.input) (lastBits := p 35 % 8) (rxCrc := bitAt (p 34) 1)
    (rxAlign := bits (p 35) 4 3)
  { f with winClose := if win = 0 then f.winClose else win, rxMax := min q.d.bufLen 8192 }

/-- A new transaction for an EXCHANGE. -/
def Dev.openExchange (d : Dev) (n : Nat) (q : QDesc) : Dev :=
  let p (k : Nat) : Nat := byteAt q.d.param (k - 32)
  let f := d.exchangeFrame n q
  d.startWait n { work := .exchange, desc := some q, tech := f.tech, txRate := f.txRate, rxRate := f.rxRate, level := p 36,
                  fg := (if bitAt (p 34) 4 then some (bits (p 34) 5 2) else none), holdField := bitAt (p 34) 3, frame := some f }

/-- The frame of a continuing EXCHANGE and its window end within the declared length, and it is in time (R408). -/
def Dev.continues (d : Dev) (n : Nat) (t : Txn) (f : AirFrame) : Bool :=
  let gap := d.spacing n t.tech t.rxRate (d.combined (arbOf n) t.fg)
  decide (d.tc ≤ t.endTc + gap) &&
    decide (t.endTc + gap + t.mods.frameTc f.tech f.txRate f.data f.lastBits + d.eofTc n f t + f.winClose ≤ t.tUp + t.declTc)

/-- EXCHANGE (R408): it opens a transaction, or continues one whose field is held. With no filter input it has no air action (R114). -/
def execExchange (ch : Fin 192) (s : State) : Host.Outcome State Fault Refusal :=
  onDev (fun _ d =>
    let n : Nat := ch
    match d.running n 0x01 with
    | none => d
    | some q =>
      match (d.ch n).txn with
      | none => d.openExchange n q
      | some t =>
        let f := d.exchangeFrame n q
        if t.work = .exchange ∧ t.holdField ∧ t.finished ∧ t.phase = .up ∧ d.continues n t f then
          if d.fld F.CH_RX_CTL_FIR_SRC n = 0 ∧ !d.on F.CH_RX_CTL_STD n then d.done q .badDescriptor
          else (d.modTxn n fun t => { t with desc := some q, finished := false, results := [], holdField := bitAt (byteAt q.d.param 2) 3 }).stage n f
        else d) s

/-- ISODEP_EXCHANGE (R274, R409): the APDU of a session held at a HOST step. It waits for its outbound room (R428). -/
def execIsodepExchange (ch : Fin 192) (s : State) : Host.Outcome State Fault Refusal :=
  onDev (fun _ d =>
    let n : Nat := ch
    match d.running n 0x02 with
    | none => d
    | some q =>
      match (d.ch n).txn with
      | none => d.done q .badDescriptor
      | some t =>
        if t.sess = some q.d.session ∧ t.phase = .up ∧ t.id.phase = .hostHold ∧ ¬ t.ending then
          if d.outFree n < 4 || !(d.ch n).dataWait.isEmpty then d
          else
            let d := d.modSes q.d.session fun x => { x with hold := false }
            (d.modTxn n fun t => { t with hostDesc := some q, hostLen := 0, results := [], held := none, ending := bitAt (byteAt q.d.param 0) 0 }).sendApdu
              n q.input
        else if t.hostDesc.any (·.same q) then d
        else d.done q .badDescriptor) s

/-- TAG_OP (R270): identification as a step of one technology, then the operation. The descriptor names no technology: Type 2 and Type 4
operations identify with NFC-A, although a Type 4 tag may also be of Type B (the model's choice: log entry 46). -/
def execTagOp (ch : Fin 192) (s : State) : Host.Outcome State Fault Refusal :=
  onDev (fun _ d =>
    let n : Nat := ch
    match d.running n 0x04 with
    | none => d
    | some q =>
      if (d.ch n).txn.isSome then d
      else
        let p (k : Nat) : Nat := byteAt q.d.param (k - 32)
        let tech : Tech := if 3 ≤ p 32 then .nfcV else .nfcA
        let k : PStep := { tech := tech, txMax := p 34 % 16, rxMax := p 34 / 16, action := if p 32 = 2 then 1 else 0, fsdi := 8 }
        d.startWait n { work := .tagOp, desc := some q, tech := tech, level := p 33,
                        prog := { steps := [k], maxTags := 1, iter := 32 } }) s

/-! ### Sessions and roles (R325 to R332) -/

/-- The 512 bytes of a session context (R332). -/
def Sess.encode (x : Sess) : List Byte :=
  if x.kind = .free then bytes [0xFF, 0x01, x.gen] ++ List.replicate 509 0
  else
    let kind := if x.kind = .pollDep then 1 else 2
    let cut := x.answer.length > 47
    padTo 512 (padTo 16 (toLe 2 x.chan ++ bytes [x.gen, kind + 16 * b2n x.hold + 32 * b2n cut, x.tech + 16 * x.ident.length, x.state,
        x.txRate + 16 * x.rxRate, x.fsci + 16 * x.fsdi, x.fwi + 16 * x.sfgi, x.cid + 16 * b2n x.cidUsed + 32 * x.blockNum,
        x.wtxm, x.script + 16 * x.scriptStep, x.fg + 128 * b2n x.fgUsed]) ++
      padTo 16 x.ident ++ padTo 16 x.cred ++ padTo 8 (bytes [b2n x.credValid]) ++ toLe 8 x.tOpen ++ toLe 8 x.tLast ++
      padTo 8 (toLe 2 x.lastSw ++ bytes [x.lastStatus]) ++ bytes [sat 255 x.answer.length] ++ x.answer.take 47)

/-- SESSION_QUERY (R332): one version of a context. -/
def execSessionQuery (s : State) : Host.Outcome State Fault Refusal :=
  onDev (fun _ d =>
    match d.running 0x3FF 0x11 with
    | none => d
    | some q => d.doneOut q (d.ses q.d.session).encode) s

/-- The listener of a channel that takes a role (R327, R331, R410): written again, LISTEN keeps what it does, and a conversation whose
session is released starts afresh from IDLE (log entry 63); any other role leaves it. -/
def Dev.roleLsn (d : Dev) (n : Nat) (r : Role) : Dev :=
  if r = .listen ∧ (d.ch n).role = .listen then d.cond (d.ch n).lsn.sess.isSome fun d => d.lsnEnd n .idle
  else (d.lsnLeave n).modLsn n fun _ => {}

/-- One SET_ROLE takes effect (R327, R331, R410); a channel that begins to listen takes the listen row (R118, R288). -/
def Dev.takeRole (d : Dev) (n : Nat) (q : QDesc) (r : Role) : Dev :=
  let begins : Bool := (d.ch n).role != .listen
  let d := (((d.roleLsn n r).freeAll n).stir (pavOf n)).modCh n fun c => { c with role := r, home := r, gen := (c.gen + 1) % 256 }
  let d := if r = .poll then d else d.dropCycle n
  (d.cond begins fun d => d.listenStd n).complete q .ok

/-- The pending SET_ROLEs of a channel take effect once it has no transaction and is not borrowed (R326, R327, R339). -/
def Dev.rolesNow (d : Dev) (n : Nat) : Dev :=
  if (d.ch n).roleQ.isEmpty || d.engaged n || (d.ch n).borrowed then d
  else
    let l := (d.ch n).roleQ
    let d := d.modCh n fun c => { c with roleQ := [] }
    ((d.each l fun d x => d.takeRole n x.1 x.2).launch n).retry (pavOf n)

/-- SET_ROLE (R325 to R327): from the head of the queue it becomes pending, and it takes effect at once where it can. -/
def execSetRole (ch : Fin 192) (s : State) : Host.Outcome State Fault Refusal :=
  onDev (fun _ d =>
    let n : Nat := ch
    match d.running n 0x10 with
    | none => d
    | some q => ((d.endRun q).roleAsk n q).rolesNow n) s

/-- SET_ROLE_EFFECT (R326): pending SET_ROLEs take effect in descriptor order at one instant. -/
def execSetRoleEffect (ch : Fin 192) (s : State) : Host.Outcome State Fault Refusal := onDev (fun _ d => d.rolesNow ch) s

end Sys2Proof.Machine
end

