-- ==== Sys2Proof/Machine/Arbour.lean ====
section
/-! DEFINITION. Pilot probes, the coupling matrix's upkeep, and writes of matrix and weights (R180 to R190, R196, R200). -/

namespace Sys2Proof.Machine

/-! ### When a coil may be probed (R181 to R185) -/

/-- Roles in which a channel takes part in probing (R181, R182). -/
def Role.probes (r : Role) : Bool := r == .poll || r == .follower || r == .sweep

/-- The arbour runs no probe while a channel is in the LISTEN or CAL role (R182). -/
def Dev.arbProbes (d : Dev) (a : Nat) : Bool :=
  d.on F.ARB_CTL_PILOT_EN a && (arbChans a).all fun n => (d.ch n).role != .listen && !(d.ch n).borrowed

/-- What a probe of a coil drives (R180). -/
def Dev.probeDriven (d : Dev) (n : Nat) : List Driven := [{ ch := n, lvl := d.fld F.ARB_PILOT_LVL (arbOf n) }]

/-- Coil n may be probed now, by its channel's role and state (R182). -/
def Dev.coilFree (d : Dev) (n : Nat) : Bool :=
  (d.ch n).role.probes && !(d.ch n).borrowed && !d.engaged n && (d.ch n).fieldOf.isNone

/-- Back-to-back probes of some coils of an arbour are admitted together (R18, R71, R183, R184): each coil's power, credit and duty, one
open span for the whole length, and the energy of all. -/
def Dev.batchMay (d : Dev) (a : Nat) (cols : List Nat) : Bool :=
  let l := cols.map (8 * a + ·)
  let p := a / 4
  let dr := l.flatMap d.probeDriven
  let len := probeTc * cols.length
  l.all (fun n => d.probeCan n && (d.neverAdmit n (d.probeDriven n) probeTc).isNone && d.creditOk n && d.dutyOk n probeTc) &&
    decide (d.energy dr probeTc ≤ d.depth p) && d.bucketOk p (d.energy dr probeTc) && d.gntOk p && d.gateOk a len

/-- The receiver of a measurement: own tap 0 to 7, or 8 L7, 9 L6, 10 H0, 11 H1 (R178). -/
def rxChan (a rx : Nat) : Option Nat :=
  if rx < 8 then some (8 * a + rx)
  else if rx < 10 then (if a = 0 then none else some (8 * a - 1 - (rx - 8)))
  else if rx < 12 then (if a = 23 then none else some (8 * a + 8 + (rx - 10)))
  else none

/-- A channel is borrowed for an arbour coupling measurement (R181, R535), which a start-up calibration reaches after the channel
procedures of all its channels (R533). -/
def Dev.inCoupling (d : Dev) (n : Nat) : Bool :=
  (d.calOf n).any fun r => r.kind == 7 || r.kind == 0 && r.chans.all (d.calEnded r 22)

/-- The receive tap takes part (R181); a borrowed one only in a coupling measurement, alone or as a part of the start-up calibration. -/
def Dev.rxTakes (d : Dev) (n : Nat) : Bool :=
  !d.coilOn n && !d.inFrame n && (if (d.ch n).borrowed then d.inCoupling n else (d.ch n).role.probes)

/-- The gains, in 0.001 dB, that the probed coil's tap and the taps that take part hold (R180). -/
def Dev.tapGains (d : Dev) (a k : Nat) : Tbl Int :=
  (List.range 12).filterMap fun rx => (rxChan a rx).bind fun m =>
    if rx = k ∨ d.rxTakes m then some (rx, d.pgaMilli m (d.fld F.CH_RX_AGC_GAIN_NOW m)) else none

/-- The probe of coil n is admitted (R183, R343): a transaction of its channel, its energy reserved. What waits on the channel is set
aside meanwhile (R185). -/
def Dev.probeAdmit (d : Dev) (n : Nat) : Dev :=
  let d := d.modCh n fun c => { c with aside := c.txn, txn := none }
  let d := d.startWait n { work := .pilot, level := d.fld F.ARB_PILOT_LVL (arbOf n), finished := true }
  (d.modTxn n fun t => { t with declTc := probeTc }).grantAdmission n (d.probeDriven n) probeTc

/-- The probe of coil n starts: its field is up for 64 Tc, of which a linear ramp-up takes 16 (R180). The taps that take part do so at the
gains they hold now. -/
def Dev.probeUp (d : Dev) (n : Nat) : Dev :=
  let d := d.modArb (arbOf n) fun x => { x with gains := d.tapGains (arbOf n) (n % 8) }
  ((d.modTxn n fun t => { t with phase := .up, tUp := d.tc }).coilRise n n (.ramp n true .normal true 16)).pulse n

/-- The next probe of a batch starts, under the batch's one admission (R184); one whose conditions have failed (R18, R182, R372) is left
out. -/
def Dev.nextProbe (d : Dev) (a : Nat) : List Nat → Dev
  | [] => d
  | k :: l =>
    let n := 8 * a + k
    match (d.ch n).txn with
    | some t =>
      if d.arbProbes a && (d.ch n).role.probes && d.probeHolds n t then d.probeUp n
      else (d.dropProbe n).nextProbe a l
    | none => d

/-- Probes of an arbour are admitted together; the first starts at once where COEX_REQ has been high for the lead time, and at its
FIELD_START else (R184, R185, R343). -/
def Dev.batchAdmit (d : Dev) (a : Nat) (cols : List Nat) : Dev :=
  let now : Bool := d.leadLeft (a / 4) == 0
  let d := (d.each cols fun d k => d.probeAdmit (8 * a + k)).modArb a fun x => { x with pilot := cols }
  d.cond now fun d => d.nextProbe a cols

/-- A stream is suspended for the fabric: pilot batches are deferred (R452). -/
def Dev.fabricShort (d : Dev) : Bool := d.chanKeys.any fun n => (d.ch n).cap.any (·.susFab)

/-- A column's age exceeds some ms; one never refreshed exceeds every age (R185, R188). -/
def Dev.olderThan (d : Dev) (a k ms : Nat) : Bool :=
  match tblFind (d.arb a).colAt k with
  | some t => decide (ms * tcMs < d.tc - t)
  | none => true

/-- Something waits for admission on a channel that a batch of arbour a needs: its own, and the taps beyond its seams that take part
(R184, R186). -/
def Dev.batchWaits (d : Dev) (a : Nat) : Bool :=
  (List.range 12).any fun rx => (rxChan a rx).any fun m =>
    (match (d.ch m).txn with
     | some t => t.phase == .waiting
     | none => false) && (rx < 8 || d.rxTakes m)

/-- PILOT_BATCH (R184, R350, R452): of the columns `cols`, those whose age reaches PERIOD within a millisecond are due (the model's choice of
how far a batch may gather them: log entry 49). The batch asks for admission once, for its whole length, behind every transaction that
waits for the bucket. -/
def execPilotBatch (arb : Fin 24) (cols : Fin 256) (s : State) : Host.Outcome State Fault Refusal :=
  onDev (fun _ d =>
    let a : Nat := arb
    let due := (List.range 8).filter fun k => bitAt cols k && d.olderThan a k (d.fld F.ARB_PILOT_PERIOD a - 1) && d.coilFree (8 * a + k)
    if !d.arbProbes a || d.fabricShort || !(d.arb a).pilot.isEmpty || d.batchWaits a || due.isEmpty ||
        due.any (fun k => (d.ch (8 * a + k)).txn.isSome) ||
        !d.batchMay a due || d.olderWaits (8 * a) { order := d.host.order } then d
    else d.batchAdmit a due) s

/-- PRIORITY_PROBE (R185): of a column older than twice PERIOD, alone, ahead of a transaction that waits on its channel. -/
def execPriorityProbe (arb : Fin 24) (col : Fin 8) (s : State) : Host.Outcome State Fault Refusal :=
  onDev (fun _ d =>
    let a : Nat := arb
    let n := 8 * a + col.val
    if !d.arbProbes a || !d.olderThan a col (2 * d.fld F.ARB_PILOT_PERIOD a) || !(d.arb a).pilot.isEmpty || !d.coilFree n ||
        !d.batchMay a [col.val] then d
    else d.batchAdmit a [col.val]) s

/-- FIELD_START of a pilot probe (R184, R185, R343): the lead time of the batch's one admission is over, and its first probe starts. -/
def Dev.probeStart (d : Dev) (a : Nat) : Dev :=
  let d := d.runTo (d.tc + d.leadLeft (a / 4))
  d.nextProbe a (d.arb a).pilot

/-- FIELD_START (R85, R241, R343, R372): an admitted transaction whose conditions still hold raises its field. -/
def execFieldStart (ch : Fin 192) (s : State) : Host.Outcome State Fault Refusal :=
  onDev (fun _ d =>
    let n : Nat := ch
    match (d.ch n).txn with
    | some t =>
      if t.phase ≠ .admitted then d
      else if t.work = .pilot then (if (d.arb (arbOf n)).pilot.head? = some (n % 8) then d.probeStart (arbOf n) else d)
      else d.fieldStart n
    | none => d) s

/-! ### The result of a probe (R177, R178, R186, R187) -/

/-- The largest whole number of 2^-13 at or below num/den, times a gain in 0.001 dB, held below 2^17; and whether it is exact. -/
def entryMag (num den : Nat) (mdb : Int) : Nat × Bool := gainMag 8192 17 num den mdb

/-- One part of an entry, with its sign; the rounding is open (R177; log entry 1). -/
def Dev.entryPart (d : Dev) (x : Int) (den : Nat) (mdb : Int) : Int × Dev :=
  let (m, exact) := entryMag x.natAbs den mdb
  let (v, d) := d.free
  let m : Int := if exact then m else m + v % 2
  (if x < 0 then -m else m, d)

/-- The entry of R177: the receive tap's phasor over the probed coil's own, both referred to 0 dB by the gains held (R127, R180). -/
def Dev.entryOf (d : Dev) (p q : Cx) (gp gq : Int) : Cx × Dev :=
  let z := p.mul q.conj
  let (re, d) := d.entryPart z.re q.norm (gq - gp)
  let (im, d) := d.entryPart z.im q.norm (gq - gp)
  (⟨re, im⟩, d)

/-- Where an entry is stored: registers with arbour and index. A seam entry stands in both arbours (R178, R186). -/
def entryRegs (a k rx : Nat) : List (RegName × Nat × Nat) :=
  if rx < 8 then [(.ARB_CM, a, 8 * rx + k)]
  else if rx < 10 then
    if k < 2 ∧ 0 < a then [(.ARB_SEAM_LO, a, 4 + 2 * k + (rx - 8)), (.ARB_SEAM_HI, a - 1, 2 * k + (rx - 8))] else []
  else if 6 ≤ k ∧ a < 23 then
    [(.ARB_SEAM_HI, a, 4 + 2 * (7 - k) + (rx - 10)), (.ARB_SEAM_LO, a + 1, 2 * (7 - k) + (rx - 10))]
  else []

/-- A seam of an arbour has an entry, where the arbour has that seam (R179). -/
def Dev.seamValid (d : Dev) (r : RegName) (a : Nat) : Dev :=
  match r with
  | .ARB_SEAM_LO => d.cond (d.hasLo a) fun d => d.setOn F.ARB_CM_STAT_SEAM_LO_VALID a 0 true
  | .ARB_SEAM_HI => d.cond (d.hasHi a) fun d => d.setOn F.ARB_CM_STAT_SEAM_HI_VALID a 0 true
  | _ => d

/-- Write a measured or given entry whole. -/
def Dev.entryPut (d : Dev) (x : RegName × Nat × Nat) (c : Cx) : Dev :=
  (d.wr x.1 x.2.1 x.2.2 (cxTo 16 ⟨clampInt (-32768) 32767 c.re, clampInt (-32768) 32767 c.im⟩)).seamValid x.1 x.2.1

/-- Blend a measured entry into the stored one (R187). -/
def Dev.entryBlend (d : Dev) (den : Nat) (x : RegName × Nat × Nat) (c : Cx) : Dev :=
  let o := cxOf 16 (d.rd x.1 x.2.1 x.2.2)
  let (re, d) := d.quot (c.re - o.re) den
  let (im, d) := d.quot (c.im - o.im) den
  d.entryPut x ⟨o.re + re, o.im + im⟩

/-- A measured entry lies further than JUMP/256 from the stored one (R187). -/
def Dev.jumps (d : Dev) (a k : Nat) (m : Nat × Cx) : Bool :=
  m.1 < 8 && (let o := d.cm a m.1 k
    decide ((d.fld F.ARB_PILOT_CFG_JUMP a * 32) ^ 2 < (m.2.sub o).norm))

/-- A column has been refreshed, loaded or written: valid, of age 0 (R188, R190). -/
def Dev.colFresh (d : Dev) (a k : Nat) : Dev :=
  let d := d.modArb a fun x => { x with colAt := tblPut x.colAt k d.tc }
  (d.setFld F.ARB_CM_STAT_VALID a 0 (setBits (d.fld F.ARB_CM_STAT_VALID a) k 1 1)).setFld
    F.ARB_CM_STAT_STALE a 0 (setBits (d.fld F.ARB_CM_STAT_STALE a) k 1 0)

/-- The entries of column k from the phasors of its own tap and of others, at gains in 0.001 dB by receiver; the own entry stays 1
(R177). -/
def Dev.entriesOf (d : Dev) (k : Nat) (gains : Tbl Int) (l : List (Nat × Cx)) : List (Nat × Cx) × Dev :=
  match (l.find? fun (m : Nat × Cx) => m.1 == k).map (·.2), tblFind gains k with
  | some q, some gq =>
    if q.norm = 0 then ([], d)
    else (l.filter fun m => m.1 != k).foldl (fun (acc : List (Nat × Cx) × Dev) m =>
      match tblFind gains m.1 with
      | some gp =>
        let (c, d) := acc.2.entryOf m.2 q gp gq
        (acc.1 ++ [(m.1, c)], d)
      | none => acc) ([], d)
  | _, _ => ([], d)

/-- The entries that a probe of column k gives: from the taps that took part from its start and still do (R180, R181). -/
def Dev.probeEntries (d : Dev) (a k : Nat) (l : List (Nat × Cx)) : List (Nat × Cx) × Dev :=
  d.entriesOf k (d.arb a).gains (l.filter fun m => m.1 == k || (rxChan a m.1).any d.rxTakes)

/-- The measurements of a probe of column k go into the matrix (R187, R188): after a jump the column is replaced whole; a seam's entry, which
is no part of the column (R177), is blended all the same. -/
def Dev.probeStore (d : Dev) (a k : Nat) (l : List (Nat × Cx)) : Dev :=
  if l.isEmpty then d
  else
    let jump := l.any fun m => d.jumps a k m
    let den := 2 ^ (d.fld F.ARB_PILOT_CFG_AVG a + 1)
    let d := d.each l fun d m => d.each (entryRegs a k m.1) fun d x => if jump && decide (m.1 < 8) then d.entryPut x m.2 else d.entryBlend den x m.2
    let d := if jump then d.setFld F.ARB_CM_STAT_CHANGED a 0 (setBits (d.fld F.ARB_CM_STAT_CHANGED a) k 1 1) else d
    if l.any (fun (m : Nat × Cx) => decide (m.1 < 8)) then d.colFresh a k else d

/-- A probe's residual gain and phase errors are blended into the cupping report (R557). -/
def Dev.probeCup (d : Dev) (n : Nat) (cup : Nat × Nat) : Dev :=
  if d.on F.CAL_CTL_PILOT_CUP then
    let (rg, d) := d.resGain n (d.fld F.ARB_PILOT_LVL (arbOf n)) cup.1
    let (rp, d) := d.resPhase n cup.2
    let den := 2 ^ (d.fld F.ARB_PILOT_CFG_AVG (arbOf n) + 1)
    let g := d.fldI F.CH_CUP_ERR_GAIN n
    let p := d.fldI F.CH_CUP_ERR_PHASE n
    let (dg, d) := d.quot (rg - g) den
    let (dp, d) := d.quot (rp - p) den
    (d.setFld F.CH_CUP_ERR_GAIN n 0 (ofInt 16 (g + dg))).setFld F.CH_CUP_ERR_PHASE n 0 (ofInt 16 (p + dp))
  else d

/-- PILOT_PROBE_END (R180, R187, R557): after a probe's steady 32 Tc the carrier phasors by receiver, the probed coil's own tap among them,
at the gains held, and the power in µW and drive-tap phase in 1/65,536 turn; then its linear ramp-down of 16 Tc, and with its end the
next probe of the batch. A probe that was cut has no result. -/
def execPilotProbeEnd (arb : Fin 24) (meas : List (Nat × Int × Int)) (cup : Nat × Nat) (s : State) : Host.Outcome State Fault Refusal :=
  onDev (fun _ d =>
    let a : Nat := arb
    match (d.arb a).pilot with
    | [] => d
    | k :: rest =>
      let n := 8 * a + k
      match (d.ch n).txn with
      | some t =>
        if t.work = .pilot ∧ t.phase = .up then
          let d := d.runTo (t.tUp + 48)
          let (l, d) := d.probeEntries a k (meas.map fun (m : Nat × Int × Int) => (m.1, ⟨m.2.1, m.2.2⟩))
          let d := ((d.probeStore a k l).probeCup n cup).emit (.ramp n false .normal true 16)
          let d := (d.modTxn n fun t => { t with phase := .rampDown, dueTc := d.tc + 16 }).modCh n fun c => { c with downAt := some (d.tc + 16) }
          ((d.runTo (t.tUp + probeTc)).fieldEnded n).nextProbe a rest
        else if t.work = .pilot ∧ t.phase = .rampDown then ((d.runTo t.dueTc).fieldEnded n).nextProbe a rest
        else d
      | none => d) s

/-- A column's stale bit follows its age (R188); a column that has none has nothing to go stale. -/
def Dev.staleMark (d : Dev) (a k : Nat) : Dev :=
  let b : Bool := (tblFind (d.arb a).colAt k).isSome && d.olderThan a k (d.fld F.ARB_PILOT_CFG_STALE a)
  d.setFld F.ARB_CM_STAT_STALE a 0 (setBits (d.fld F.ARB_CM_STAT_STALE a) k 1 (b2n b))

/-- COLUMN_STALE (R188). -/
def execColumnStale (arb : Fin 24) (col : Fin 8) (s : State) : Host.Outcome State Fault Refusal :=
  onDev (fun _ d => d.staleMark arb col) s

/-- A write of ARB_PILOT_CFG: a new STALE judges every column (R188). -/
def Dev.pilotCfgWrite (d : Dev) (nv : NonVol) (a v : Nat) : Dev :=
  (d.plainWrite nv .ARB_PILOT_CFG a 0 v).each (List.range 8) fun d k => d.staleMark a k

/-- A write of ARB_FG_CTL: a mode 2 setting that cannot stand is marked (R201). -/
def Dev.fgCtlWrite (d : Dev) (nv : NonVol) (a g v : Nat) : Dev := (d.plainWrite nv .ARB_FG_CTL a g v).mode2Mark a g

/-- A write of a tap weight: discarded while a group in COMB 1 or 2 has the tap (R209). -/
def Dev.tapWeightWrite (d : Dev) (nv : NonVol) (a k v : Nat) : Dev :=
  if (List.range 4).any fun g => (d.members a g).contains k && d.fld F.ARB_FG_CTL_COMB a g != 0 then d
  else d.plainWrite nv .ARB_CT_W a k v

/-! ### Writes -/

/-- A write of ARB_CM or a seam register (R190). -/
def Dev.cmWrite (d : Dev) (r : RegName) (a j v : Nat) : Dev :=
  if d.on F.ARB_CTL_PILOT_EN a then d
  else
    let d := (d.wr r a j v).seamValid r a
    if r = .ARB_CM then d.colFresh a (j % 8) else d

/-- The registers of the matrix. -/
def cmReg (which : Nat) : RegName := if which = 0 then .ARB_CM else if which = 1 then .ARB_SEAM_LO else .ARB_SEAM_HI

/-- ARB_CM_WRITE (R190): which 0 the matrix, 1 the lower seam, 2 the upper seam. -/
def execArbCmWrite (arb : Fin 24) (which : Fin 3) (ix : Fin 64) (v : Word) (s : State) : Host.Outcome State Fault Refusal :=
  onDev (fun _ d => if which.val = 0 ∨ ix.val < 8 then d.cmWrite (cmReg which) arb ix v.toNat else d) s

/-- A write of a transmit weight (R196, R200). -/
def Dev.weightWrite (d : Dev) (nv : NonVol) (a g k v : Nat) : Dev :=
  if d.fld F.ARB_FG_CTL_MODE a g ≠ 0 then d
  else if 511 * 511 < (cxOf 10 v).norm then d.setOn F.ARB_FG_STAT_REFUSED a g true
  else d.plainWrite nv .ARB_FG_W a (8 * g + k) v

/-- FG_WEIGHT_WRITE (R196). -/
def execFgWeightWrite (arb : Fin 24) (g : Fin 4) (k : Fin 8) (v : Word) (s : State) : Host.Outcome State Fault Refusal :=
  onDev (fun nv d => d.weightWrite nv arb g k v.toNat) s

end Sys2Proof.Machine
end

