-- ==== Sys2Proof/Machine/Belvedere.lean ====
section
/-! DEFINITION. Belvedere sweeps, excursions and baselines (R279 to R286). -/

namespace Sys2Proof.Machine

/-- Units of a baseline in one unit of its register. -/
def blvUnit : Nat := 2 ^ 32

/-- A pavilion may sweep: EN, powered, outside the safe state (R280, R569, R582). -/
def Dev.maySweep (d : Dev) (p : Nat) : Bool :=
  d.on F.PAV_BLV_CTL_EN p && (d.pav p).state != .off && !d.pwr.safe && d.pwr.boot == .running

/-- Belvedere probes this channel (R281). -/
def Dev.blvProbes (d : Dev) (n : Nat) : Bool :=
  !d.on F.CH_BLV_THR_EXCL n && ((d.pav (pavOf n)).state == .watch || ((d.ch n).role == .sweep && !d.engaged n))

/-- The carrier of a probe (R282): an ACTIVE synthesiser, or REFCLK ÷ 2 where 0 Hz lies in the trim window. -/
def Dev.blvCarrier (d : Dev) : Bool :=
  d.synActive ||
    (decide (d.fldI F.SYN_TRIM_MIN_STEPS ≤ 0) && decide (0 ≤ d.fldI F.SYN_TRIM_MAX_STEPS))

/-- What a probe drives (R279). -/
def blvDriven (n : Nat) : List Driven := [{ ch := n, lvl := 96 }]

/-- A probe's permissions (R18, R63, R281): chain B but for the synthesiser, CH_EN_LOCK, limits, a nominal VDRV, the four
admissions, and an outbound place (R429). -/
def Dev.blvMay (d : Dev) (n : Nat) : Bool :=
  let dr := blvDriven n
  d.bCause n &&& 0x37 == 0 && d.blvCarrier && !d.isolated n && !d.on F.CH_FEN_STAT_CHAIN_FAULT n && !(d.ch n).borrowed &&
    d.fld F.PAV_VDRV_NOM (pavOf n) != 0 && (d.neverAdmit n dr 81).isNone && d.missing n dr 81 == 0 && decide (1 ≤ d.outFree n)

/-- BLV_SWEEP_START (R280), PERIOD after the sweep before. -/
def execBlvSweepStart (pav : Fin 6) (s : State) : Host.Outcome State Fault Refusal :=
  onDev (fun _ d =>
    let p : Nat := pav
    if d.maySweep p && (d.pav p).sweep.isNone then
      let d := match (d.pav p).sweptAt with
        | some t => d.runTo (t + d.fld F.PAV_BLV_CTL_PERIOD p * tcMs)
        | none => d
      (d.modPav p fun x => { x with sweep := some { t0 := d.tc }, sweptAt := some d.tc }).syncReq p
    else d) s

/-- Phase difference in 1/4096 turn of a register unit, signed, from the baseline to a measurement. -/
def phDiff (base meas : Nat) : Int := toInt 44 (meas * blvUnit + 2 ^ 44 - base % 2 ^ 44)

/-- A probe result is an excursion (R283). -/
def Dev.blvExcursion (d : Dev) (n amp ph : Nat) : Bool :=
  let c := d.ch n
  let da := ((amp * blvUnit : Nat) - (c.blvAmp : Int)).natAbs
  decide (d.fld F.CH_BLV_THR_AMP n * c.blvAmp ≤ da * 1000) ||
    decide (d.fld F.CH_BLV_THR_PH n * 4096 * blvUnit ≤ (phDiff c.blvPh ph).natAbs * 3600)

/-- The registers show the baseline. -/
def Dev.blvShow (d : Dev) (n : Nat) : Dev :=
  d.wr .CH_BLV_BASE n 0 ((d.ch n).blvAmp / blvUnit % 65536 + 65536 * ((d.ch n).blvPh / blvUnit % 4096))

/-- A probe result becomes the baseline, and DET clears (R285). -/
def Dev.blvAdoptNow (d : Dev) (n amp ph : Nat) : Dev :=
  let p := pavOf n
  let d := d.modCh n fun c => { c with
    blvBase := true, blvAdopt := false, blvRun := 0, blvAt := d.tc, blvAmp := amp * blvUnit, blvPh := ph * blvUnit }
  (d.wr .PAV_BLV_STAT p 0 (setBits (d.rd .PAV_BLV_STAT p) (n % 32) 1 0)).blvShow n

/-- Move a value towards another by at most a limit. -/
def approach (x target : Int) (lim : Nat) : Int := x + clampInt (-(lim : Int)) lim (target - x)

/-- The baseline follows the measurement (R284; log entry 27). -/
def Dev.blvDrift (d : Dev) (n amp ph : Nat) : Dev :=
  let c := d.ch n
  let dt := d.tc - c.blvAt
  let drift := d.fld F.CH_BLV_THR_DRIFT n
  let limA := c.blvAmp * drift * dt / (10000 * 13560000)
  let limP := drift * dt * 6 * 4096 * blvUnit / (360000 * 13560000)
  let a := approach c.blvAmp (amp * blvUnit : Nat) limA
  let f := ((c.blvPh : Int) + clampInt (-(limP : Int)) limP (phDiff c.blvPh ph)) % (2 ^ 44 : Int)
  (d.modCh n fun c => { c with blvAmp := a.toNat, blvPh := f.toNat, blvAt := d.tc }).blvShow n

/-- DETECT (R283, R286, R416). -/
def Dev.blvDetect (d : Dev) (n amp ph : Nat) : Dev :=
  let p := pavOf n
  let c := d.ch n
  let (da, d) := if c.blvAmp = 0 then (let (x, d) := d.free; ((x % 65536 : Nat) - (32768 : Int), d))
    else d.quot (((amp * blvUnit : Nat) - (c.blvAmp : Int)) * 1000) c.blvAmp
  let (dp, d) := d.quot (phDiff c.blvPh ph * 3600) (4096 * blvUnit)
  let d := d.wr .PAV_BLV_STAT p 0 (setBits (d.rd .PAV_BLV_STAT p) (n % 32) 1 1)
  let d := d.event .detect n (toLe 2 (ofInt 16 (clampInt (-32768) 32767 da)) ++ toLe 2 (ofInt 16 dp))
  if d.on F.PAV_BLV_CTL_WAKE p && (d.pav p).state == .watch then d.modPav p fun x => { x with wakeDet := true } else d

/-- The result of a channel's probe (R283 to R285). -/
def Dev.blvResult (d : Dev) (n amp ph : Nat) : Dev :=
  let p := pavOf n
  let d := d.wr .CH_BLV_MEAS n 0 (amp % 65536 + 65536 * (ph % 4096))
  let det := bitAt (d.rd .PAV_BLV_STAT p) (n % 32)
  if !(d.ch n).blvBase || (d.ch n).blvAdopt then d.blvAdoptNow n amp ph
  else
    let exc := d.blvExcursion n amp ph
    let run := if exc then (d.ch n).blvRun + 1 else 0
    let d := d.modCh n fun c => { c with blvRun := run }
    if det then d
    else if d.fld F.PAV_BLV_CTL_CONFIRM p ≤ run then d.blvDetect n amp ph
    else d.blvDrift n amp ph

/-- The estimated energy of a probe (R279, R348). -/
def Dev.blvEnergy (d : Dev) (n : Nat) : Nat := d.energy (blvDriven n) 81

/-- The row of consecutive sweeps with an excursion is broken: this sweep has no result for the channel (R283; log entry 65). -/
def Dev.blvNone (d : Dev) (n : Nat) : Dev := d.modCh n fun c => { c with blvRun := 0 }

/-- A channel lacks a permission at its step: it is skipped for this sweep (R281). -/
def Dev.blvSkip (d : Dev) (n : Nat) : Dev :=
  (d.wr .PAV_BLV_SKIP (pavOf n) 0 (setBits (d.rd .PAV_BLV_SKIP (pavOf n)) (n % 32) 1 1)).blvNone n

/-- One channel at the start of its probe step (R279, R281): its probe is admitted and its field starts at level 96, with a ramp-up of 16 Tc
in the shape of CH_RAMP (log entry 59); or it is skipped, or not probed. With it, whether the probe runs. -/
def Dev.blvRise (d : Dev) (n : Nat) : Bool × Dev :=
  if !d.blvProbes n then (false, d.blvNone n)
  else if d.blvMay n then
    let e := d.blvEnergy n
    let d := d.modPav (pavOf n) fun x => { x with rsv := x.rsv + e }
    (true, (d.coilRise n n (.ramp n true .normal (d.on F.CH_RAMP_SHAPE n) 16)).emit (d.pulseOut n 96))
  else (false, d.blvSkip n)

/-- The ramp-down of a probe starts, with its measurement over the 32 Tc before (R279). -/
def Dev.blvFall (d : Dev) (n : Nat) (meas : Nat × Nat) : Dev :=
  ((d.blvResult n (meas.1 % 65536) (meas.2 % 4096)).modCh n fun c => { c with downAt := some (d.tc + 16) }).emit
    (.ramp n false .normal (d.on F.CH_RAMP_SHAPE n) 16)

/-- A probe's field has ended (R279, R352, R356). Its end is no field's end for the automatic tuner, which takes no step (R101; the
model's choice: log entry 59); the limiter judges the probe's power (R93). -/
def Dev.blvDown (d : Dev) (n : Nat) : Dev := (d.coilOff n).unreserve n (d.blvEnergy n)

/-- The probes of one step: each of the channels at its step, with its measurement. They start together, and the permissions are those at
that start (R18, R281); 65 Tc later their ramp-down starts, and 81 Tc later their fields have ended (R279). -/
def Dev.blvProbe (d : Dev) (l : List (Nat × Nat × Nat)) : Dev :=
  let t0 := d.tc
  let x := l.foldl (fun (a : List (Nat × Nat × Nat) × Dev) m =>
    let r := a.2.blvRise m.1
    (if r.1 then a.1 ++ [m] else a.1, r.2)) ([], d)
  let d := (x.2.runTo (t0 + 65)).each x.1 fun d m => d.blvFall m.1 m.2
  (d.runTo (t0 + 81)).each x.1 fun d m => d.blvDown m.1

/-- The channels at step k of a pavilion's sweep, tap k of each arbour (R280), with the measurements at their taps in order. -/
def blvTaps (p k : Nat) (meas : List (Nat × Nat)) : List (Nat × Nat × Nat) :=
  (List.range 4).map fun b => (32 * p + 8 * b + k % 8, meas.getD b (0, 0))

/-- BLV_PROBE_STEP (R279 to R283): the next step of the sweep as a whole, from one lead time and 96 Tc a step after the sweep's start, with the
amplitude and phase that the probes will measure. Nothing comes between its start and its end (the model's choice: log entry 65). -/
def execBlvProbeStep (pav : Fin 6) (meas : List (Nat × Nat)) (s : State) : Host.Outcome State Fault Refusal :=
  onDev (fun _ d =>
    let p : Nat := pav
    match (d.pav p).sweep with
    | none => d
    | some w =>
      let d := (d.runTo (w.t0 + d.leadTc p + 96 * w.step)).blvProbe (blvTaps p w.step meas)
      (d.modPav p fun x => { x with sweep := if 7 ≤ w.step then none else some { w with step := w.step + 1 } }).syncReq p) s

/-- A write of CH_BLV_CMD (R285). -/
def Dev.blvCmdWrite (d : Dev) (n v : Nat) : Dev :=
  if bitAt v 0 then d.modCh n fun c => { c with blvAdopt := true } else d

/-- BLV_ADOPT (R285). -/
def execBlvAdopt (ch : Fin 192) (s : State) : Host.Outcome State Fault Refusal := onDev (fun _ d => d.blvCmdWrite ch 1) s

/-- A write of PAV_BLV_CTL: setting EN makes the next probe of each channel its baseline (R280, R285). -/
def Dev.blvCtlWrite (d : Dev) (nv : NonVol) (p v : Nat) : Dev :=
  let was := d.on F.PAV_BLV_CTL_EN p
  let d := d.plainWrite nv .PAV_BLV_CTL p 0 v
  if d.on F.PAV_BLV_CTL_EN p && !was then (d.each (pavChans p) fun d n => d.modCh n fun c => { c with blvBase := false }).modPav p fun x => { x with sweptAt := none }
  else d

end Sys2Proof.Machine
end

