-- ==== Sys2Proof/Machine/Synth.lean ====
section
/-! DEFINITION. The two synthesisers: states, calibrations, swaps, takeover, trim (R28 to R45, R722). -/

namespace Sys2Proof.Machine

/-- Change the synthesiser pair. -/
def Dev.modSyn (d : Dev) (f : Syn → Syn) : Dev := { d with syn := f d.syn }

/-- The state of a unit; true is SYN-B. -/
def Syn.unit (y : Syn) (b : Bool) : SynState := if b then y.b else y.a

/-- Put a unit into a state. -/
def Syn.put (y : Syn) (b : Bool) (st : SynState) : Syn :=
  let y := if b then { y with b := st } else { y with a := st }
  if st = .active then { y with activeB := b } else y

/-- The unit that stands by, if one does. -/
def Syn.standby (y : Syn) : Option Bool :=
  if y.a = .standby then some false else if y.b = .standby then some true else none

/-- The oldest calibration running. -/
def Syn.cal (y : Syn) : Option (SynCal × Bool) := y.runs.head?

/-- A unit has a calibration of its own, outside a cold start. -/
def Syn.ownRun (y : Syn) (b : Bool) : Bool := y.runs.any fun r => r.1 != .cold && r.2 == b

/-- A unit is calibrating in the cold start of both. -/
def Syn.inCold (y : Syn) (b : Bool) : Bool := y.unit b == .calibrating && !y.ownRun b

/-- SYN_STAT.SINGLE takes a value; its rise sets the cause of R718. -/
def Dev.setSingle (d : Dev) (b : Bool) : Dev :=
  if b && !d.on F.SYN_STAT_SINGLE then (d.setOn F.SYN_STAT_SINGLE 0 0 true).setMisc 4
  else d.setOn F.SYN_STAT_SINGLE 0 0 b

/-- SYN_STAT.CAL_FAIL is set (R31, R718). -/
def Dev.setCalFail (d : Dev) : Dev := (d.setOn F.SYN_STAT_CAL_FAIL 0 0 true).setMisc 4

/-- A calibration of a unit starts: its die temperature is recorded (R31), and its time counts. -/
def Dev.recordTemp (d : Dev) (b : Bool) : Dev :=
  (d.setFld (if b then F.SYN_CAL_TEMP_B_TEMP else F.SYN_CAL_TEMP_A_TEMP) 0 0 (d.fld F.PWR_TEMP_DIE)).modSyn fun y =>
    if b then { y with startB := d.tc } else { y with startA := d.tc }

/-- The carrier cycle at which the calibration of a unit began. -/
def Syn.start (y : Syn) (b : Bool) : Nat := if b then y.startB else y.startA

/-- What a calibration that succeeds lasts: 1.6 ms; and the limit of every calibration: 3.2 ms (R31, R33). -/
def synCalTc : Nat := 21696
/-- 3.2 ms (R31). -/
def synLimitTc : Nat := 43392

/-- The synthesiser fault 0x0020 of a unit: class 0 while a unit is ACTIVE, else class 2 with every field cut (R31, R567). -/
def Dev.synFault (d : Dev) (b calFail : Bool) : Dev :=
  d.fault { code := 0x0020, cls := if d.synActive then 0 else 2, kind := 3, value := b2n b + 256 * b2n calFail }

/-- SYNCAL descriptors that a calibration serves complete (R722). -/
def Dev.endWaiters (d : Dev) (st : Status) : Dev :=
  let w := d.syn.waiters
  (d.modSyn fun y => { y with waiters := [] }).each w fun d q => d.done q st

/-- A unit fails its calibration: it goes OFF, CAL_FAIL is set, a fault is reported (R31). -/
def Dev.unitFailed (d : Dev) (b : Bool) : Dev :=
  let d := (d.modSyn fun y => y.put b .off).setCalFail
  let d := d.cond d.syn.standby.isNone fun d => d.setSingle true
  d.synFault b true

/-- A calibration leaves the list of those running; where it was the oldest, the descriptors it served complete (R722). -/
def Dev.synRunEnd (d : Dev) (r : SynCal × Bool) (st : Status) : Dev :=
  let first := d.syn.cal == some r
  let d := d.modSyn fun y => { y with runs := y.runs.erase r, swapDue := y.swapDue && r.1 != .standbyCal }
  d.cond first (·.endWaiters st)

/-- A calibration of one unit ends in failure (R31, R722). -/
def Dev.calFailed (d : Dev) (r : SynCal × Bool) : Dev := (d.unitFailed r.2).synRunEnd r .faultAbort

/-- The cold start of both units begins (R36). -/
def Dev.coldStart (d : Dev) : Dev :=
  if d.syn.refOk then
    ((d.modSyn fun y => { y with a := .calibrating, b := .calibrating, runs := [(.cold, false)], swapDue := false,
                                 takeover := false }).recordTemp false).recordTemp true
  else d

/-- A restart of an OFF unit begins, whatever else runs (R31). -/
def Dev.restart (d : Dev) (b : Bool) : Dev :=
  if d.syn.unit b = .off then
    (d.modSyn fun y => { (y.put b .calibrating) with runs := y.runs ++ [(.restart, b)] }).recordTemp b
  else d

/-- No pavilion is ACTIVE (R586). -/
def Dev.devWatch (d : Dev) : Bool := (List.range 6).all fun p => (d.pav p).state != .active

/-- The device is in WATCH and not about to leave it (R587). -/
def Dev.watching (d : Dev) : Bool :=
  d.pwr.boot == .running && d.devWatch && !(List.range 6).any fun p => (d.pav p).change.any fun x => x.dest == .active

/-- What WATCH leaves of the synthesisers (R31, R587): the STANDBY unit is OFF, and with WATCH_SYN = 0 both are, with no fault; a
calibration goes on with WATCH_SYN = 1 and ends unanswered otherwise (log entry 58). -/
def Dev.watchSyn (d : Dev) : Dev :=
  if !d.watching || d.syn.takeover then d
  else if d.on F.PWR_CTL_WATCH_SYN then
    d.modSyn fun y => { y with a := if y.a = .standby then .off else y.a, b := if y.b = .standby then .off else y.b }
  else (d.modSyn fun y => { y with a := .off, b := .off, runs := [], swapDue := false }).endWaiters .faultAbort

/-- A calibration request or trigger of R32, with the SYNCAL descriptor that makes it, if one does (R722). A unit that is about to
take over is no unit STANDBY for it (R29, R31). -/
def Dev.calTrigger (d : Dev) (q : Option QDesc) : Dev :=
  match d.syn.cal with
  | some _ => d.modSyn fun y => { y with waiters := y.waiters ++ q.toList }
  | none =>
    match (if d.syn.takeover then none else d.syn.standby) with
    | some b =>
      (d.modSyn fun y => { (y.put b .calibrating) with
        runs := [(.standbyCal, b)], waiters := y.waiters ++ q.toList }).recordTemp b
    | none =>
      match q with
      | some x => d.done x .faultAbort
      | none => d

/-- A swap within step 4 or step 6 of a channel procedure makes the engine repeat that step, once (R531). -/
def Dev.swapRepeat (d : Dev) : Dev :=
  let again (n : Nat) (k : Nat × Nat) : Nat × Nat :=
    let up : Bool := match (d.ch n).txn with
      | some t => t.work == Work.cal && t.phase != TxnPhase.waiting
      | none => false
    if up && k.1 == 20 && !bitAt k.2 0 then (19, setBits k.2 0 1 1)
    else if up && k.1 == 22 && !bitAt k.2 1 then (21, setBits k.2 1 1 1)
    else k
  { d with cal := { d.cal with runs := d.cal.runs.map fun (r : CalRun) =>
    if r.kind = 0 ∨ r.kind = 6 then { r with fields := r.fields.map fun (e : Nat × Nat × Nat) => (e.1, again e.1 e.2) } else r } }

/-- SYN_SWAP and SYN_LAST_SWAP after a swap to unit b (R31, R33, R416, R718). -/
def Dev.swapped (d : Dev) (b emergency : Bool) (step cycles : Nat) : Dev :=
  let d := d.swapRepeat.incoherent.wr .SYN_LAST_SWAP 0 0 (sat 255 step + 256 * (cycles % 16) + 4096 * b2n emergency)
  (d.event .synSwap 0x3FF (toLe 1 (b2n b) ++ toLe 1 (b2n emergency) ++ toLe 1 (sat 255 step) ++ toLe 1 (cycles % 16))).setMisc 4

/-- Whether a unit is ACTIVE has changed since it was `was`: what waits for one is tried, and what was admitted is judged again (R38,
R349, R372). -/
def Dev.synMoved (d : Dev) (was : Bool) : Dev := if d.synActive = was then d else d.retryAll

/-! ### Meanings -/

/-- SYN_COLD_START_DONE (R31, R36): which units succeeded. A unit that the cold start lost before has failed already. Where that unit
has become ACTIVE by a restart meanwhile, the other stands by (R29; log entry 11). -/
def execSynColdStartDone (aOk bOk : Bool) (s : State) : Host.Outcome State Fault Refusal :=
  onDev (fun _ d =>
    if d.syn.runs.contains (.cold, false) then
      let was := d.synActive
      let a := d.syn.inCold false
      let b := d.syn.inCold true
      let aUp := a && aOk
      let bUp := b && bOk
      let d := d.modSyn fun y =>
        let y := if aUp then y.put false (if was then .standby else .active) else y
        if bUp then y.put true (if was || aUp then .standby else .active) else y
      let d := d.setSingle d.syn.standby.isNone
      let d := d.cond (a && !aOk) (·.unitFailed false)
      let d := d.cond (b && !bOk) (·.unitFailed true)
      ((d.synRunEnd (.cold, false) (if aUp || bUp then .ok else .faultAbort)).watchSyn).synMoved was
    else d) s

/-- CAL_REQ (R32). -/
def execCalReq (s : State) : Host.Outcome State Fault Refusal := onDev (fun _ d => d.calTrigger none) s

/-- RESTART_A (R31). -/
def execRestartA (s : State) : Host.Outcome State Fault Refusal := onDev (fun _ d => d.restart false) s

/-- RESTART_B (R31). -/
def execRestartB (s : State) : Host.Outcome State Fault Refusal := onDev (fun _ d => d.restart true) s

/-- SYN_CAL_COMPLETE (R31, R33): a unit's own calibration completes, of SYN-A or, with true, of SYN-B, 1.6 ms after its start. A restart
ends as STANDBY or ACTIVE; a calibration under R32 waits for its aligned swap, or becomes ACTIVE where the other unit has been lost
meanwhile (log entry 11). -/
def execSynCalComplete (b : Bool) (s : State) : Host.Outcome State Fault Refusal :=
  onDev (fun _ d =>
    match d.syn.runs.find? fun r => r.1 != .cold && r.2 == b with
    | some r =>
      if !d.syn.refOk then d
      else
        let was := d.synActive
        let d := d.runTo (d.syn.start r.2 + synCalTc)
        let act := d.synActive || d.syn.takeover
        if r.1 = .standbyCal ∧ act then d.modSyn fun y => { y with swapDue := true }
        else
          let d := d.modSyn fun y => y.put r.2 (if act then .standby else .active)
          let d := d.cond act fun d => d.setSingle false
          ((d.synRunEnd r .ok).watchSyn).synMoved was
    | none => d) s

/-- ALIGNED_SWAP (R33): the measured phase step in 0.01° and the cycles it took. -/
def execAlignedSwap (step cycles : Nat) (s : State) : Host.Outcome State Fault Refusal :=
  onDev (fun _ d =>
    match d.syn.runs.find? fun r => r.1 == .standbyCal with
    | some r =>
      if d.syn.swapDue then
        let d := d.modSyn fun y => (y.put (!r.2) .standby).put r.2 .active
        ((d.swapped r.2 false step cycles).synRunEnd r .ok).watchSyn
      else d
    | none => d) s

/-- SYN_CAL_TIMEOUT (R31): the calibration of SYN-A or, with true, of SYN-B finds no lock within 3.2 ms: its own one, or the cold start,
which ends with every unit still in it. -/
def execSynCalTimeout (b : Bool) (s : State) : Host.Outcome State Fault Refusal :=
  onDev (fun _ d =>
    match d.syn.runs.find? fun r => r.1 != .cold && r.2 == b with
    | some r => (d.runTo (d.syn.start r.2 + synLimitTc)).calFailed r
    | none =>
      if d.syn.inCold b then
        let d := d.runTo (d.syn.start b + synLimitTc)
        ((d.cond (d.syn.inCold false) (·.unitFailed false)).cond (d.syn.inCold true) (·.unitFailed true)).synRunEnd (.cold, false)
          .faultAbort
      else d) s

/-- A unit that calibrates has lost lock: its calibration ends at once as a failure, and a cold start that has lost both its units
ends with them (R31, R722). -/
def Dev.calLost (d : Dev) (b : Bool) : Dev :=
  match d.syn.runs.find? fun r => r.1 != .cold && r.2 == b with
  | some r => d.calFailed r
  | none =>
    let d := d.unitFailed b
    if !d.syn.inCold (!b) then d.synRunEnd (.cold, false) .faultAbort else d

/-- SYN_LOSS_OF_LOCK (R31, R718): of SYN-A or, with true, of SYN-B. The ACTIVE unit's loss is reported and sets SINGLE at once; with a unit
STANDBY the fields go on to the takeover (class 0, R567). Where the calibration of the other unit has locked and waits for its swap, that
unit becomes ACTIVE without one (log entry 11). -/
def execSynLossOfLock (b : Bool) (s : State) : Host.Outcome State Fault Refusal :=
  onDev (fun _ d =>
    match d.syn.unit b with
    | .off => d
    | .calibrating => (d.setMisc 4).calLost b
    | .standby =>
      let was := d.synActive || d.syn.takeover
      ((((d.modSyn fun y => { y.put b .off with takeover := false }).setSingle true).setMisc 4).synFault b false).synMoved was
    | .active =>
      let d := ((d.modSyn fun y => y.put b .off).setMisc 4).setSingle true
      match d.syn.standby with
      | some _ => (d.modSyn fun y => { y with takeover := true }).fault { code := 0x0020, cls := 0, kind := 3, value := b2n b }
      | none =>
        let d := d.synFault b false
        (match d.syn.runs.find? fun (r : SynCal × Bool) => r.1 == SynCal.standbyCal with
        | some r => if d.syn.swapDue then (d.modSyn fun y => y.put r.2 .active).synRunEnd r .ok else d
        | none => d).synMoved true) s

/-- EMERGENCY_TAKEOVER (R31): the STANDBY unit becomes ACTIVE at the next zero crossing. -/
def execEmergencyTakeover (step cycles : Nat) (s : State) : Host.Outcome State Fault Refusal :=
  onDev (fun _ d =>
    if d.syn.takeover then
      match d.syn.standby with
      | some b =>
        let d := d.modSyn fun y => { (y.put b .active) with takeover := false }
        ((d.swapped b true step cycles).watchSyn).synMoved true
      | none => d
    else d) s

/-- SYN_TEMP_CHECK (R32, R34): every 10 ms; 12 °C from the ACTIVE unit's calibration temperature. -/
def execSynTempCheck (s : State) : Host.Outcome State Fault Refusal :=
  onDev (fun _ d =>
    let d := d.runTo (d.syn.checkAt + 10 * tcMs)
    let d := d.modSyn fun y => { y with checkAt := d.tc }
    let ref := if d.syn.activeB then d.fldI F.SYN_CAL_TEMP_B_TEMP else d.fldI F.SYN_CAL_TEMP_A_TEMP
    if d.on F.SYN_CTL_TEMP_TRIG_EN && d.synActive && decide (48 ≤ (d.fldI F.PWR_TEMP_DIE - ref).natAbs) then
      d.calTrigger none
    else d) s

/-- REFCLK is absent: both units go OFF, fields are removed, network time runs on the slow clock (R52, R59, R567). -/
def Dev.refclkLost (d : Dev) : Dev :=
  if d.syn.refOk then
    let d := d.modSyn fun y => { y with a := .off, b := .off, runs := [], swapDue := false, takeover := false, refOk := false }
    let d := d.faultFree { code := 0x0021, cls := 2, kind := 3 }
    ((d.endWaiters .faultAbort).slowClock).retryAll
  else d

/-- REFCLK_LOSS (R52, R59, R567). -/
def execRefclkLoss (s : State) : Host.Outcome State Fault Refusal := onDev (fun _ d => d.refclkLost) s

/-- REFCLK_RETURN (R36): a cold start begins. -/
def execRefclkReturn (s : State) : Host.Outcome State Fault Refusal :=
  onDev (fun _ d =>
    if d.syn.refOk then d
    else (((d.modSyn fun y => { y with refOk := true }).setOn F.TIME_STAT_CLOCK_SRC 0 0 false).coldStart).hostLock) s

/-- A write of SYN_TRIM: taken within the window, else discarded with TRIM_REFUSED (R40, R41). -/
def Dev.writeTrim (d : Dev) (v : Nat) : Dev :=
  let x := toInt 18 v
  if d.fldI F.SYN_TRIM_MIN_STEPS ≤ x ∧ x ≤ d.fldI F.SYN_TRIM_MAX_STEPS then
    if -35000 ≤ x ∧ x ≤ 35000 then
      (d.setFld F.SYN_TRIM_STEPS 0 0 v).modSyn fun y => { y with trimPend := some (v % 2 ^ 18) }
    else d
  else if d.on F.SYN_STAT_TRIM_REFUSED then d
  else (d.setOn F.SYN_STAT_TRIM_REFUSED 0 0 true).setMisc 4

/-- SYN_TRIM_WRITE (R41). -/
def execSynTrimWrite (v : Word) (s : State) : Host.Outcome State Fault Refusal :=
  onDev (fun _ d => d.writeTrim v.toNat) s

/-- TRIM_APPLY (R40): at the next zero crossing, on both units. -/
def execTrimApply (s : State) : Host.Outcome State Fault Refusal :=
  onDev (fun _ d => d.modSyn fun y =>
    match y.trimPend with
    | some t => { y with trim := t, trimPend := none }
    | none => y) s

/-- PHASE_OFS_USER_WRITE (R44). -/
def execPhaseOfsUserWrite (ch : Fin 192) (v : Word) (s : State) : Host.Outcome State Fault Refusal :=
  onDev (fun _ d => d.setFld F.CH_PHASE_OFS_USER ch 0 (bits v.toNat 16 10)) s

end Sys2Proof.Machine
end

