-- ==== Sys2Proof/Machine/Monitors.lean ====
section
/-! DEFINITION. The monitors of R567: what each detection does beside the reaction of its class, self-test, injection, and the end
of isolation (R560 to R578). -/

namespace Sys2Proof.Machine

/-! ### The table (R567) -/

/-- The kinds of scope that a monitor's row names: 0 channel, 1 arbour, 2 pavilion, 3 device; empty where the code names no
monitor (R567, R578; log entry 22). -/
def monKinds (code : Nat) : List Nat :=
  match code with
  | 0x0001 => [3] | 0x0002 => [2] | 0x0003 => [0] | 0x0004 => [3] | 0x0005 => [0, 3] | 0x0006 => [1] | 0x0007 => [2]
  | 0x0008 => [3] | 0x0009 => [0, 1] | 0x000A => [3] | 0x0010 => [3] | 0x0011 => [0] | 0x0012 => [0] | 0x0013 => [0, 2, 3]
  | 0x0014 => [0, 2] | 0x0015 => [0] | 0x0016 => [2] | 0x0017 => [3] | 0x0020 => [3] | 0x0021 => [3] | 0x0022 => [3]
  | 0x0023 => [2] | 0x0024 => [3] | 0x0025 => [3] | 0x0030 => [1] | 0x0031 => [0, 1, 2, 3] | 0x0032 => [0, 1, 2, 3]
  | 0x0033 => [3] | 0x0040 => [0, 1, 2, 3] | 0x0041 => [3]
  | _ => []

/-- The class of a monitor's row at a kind of scope (R567). -/
def Dev.monClass (d : Dev) (code kind : Nat) : Nat :=
  match code with
  | 0x0001 | 0x0004 | 0x0009 | 0x0025 => 0
  | 0x0003 | 0x0005 | 0x0006 | 0x0031 | 0x0032 => 1
  | 0x0008 | 0x0010 | 0x0017 | 0x0022 | 0x0024 | 0x0033 => 3
  | 0x0020 => if d.synActive then 0 else 2
  | 0x0040 => if kind = 3 then 3 else 2
  | 0x0041 => if d.on F.FLT_CTL_REMOTE_SAFE then 3 else 0
  | _ => 2

/-- The instances of a kind of scope. -/
def kindCount (kind : Nat) : Nat := if kind = 0 then 192 else if kind = 1 then 24 else if kind = 2 then 6 else 1

/-- Monitors that periodic self-test exercises (R567, R574). -/
def monTested (code : Nat) : Bool :=
  !(monKinds code).isEmpty && !([0x0009, 0x000A, 0x0024, 0x0025, 0x0040, 0x0041].contains code)

/-! ### Class 2 and class 3 rows -/

/-- A transaction's work of a pavilion completes with FAULT_ABORT at once (R573), one that is set aside as well. -/
def Dev.abortWork (d : Dev) (n : Nat) : Dev :=
  let d := d.asideGone n .faultAbort
  match (d.ch n).txn with
  | some t =>
    if t.phase = .waiting ∨ t.phase = .admitted then d.refuse n .faultAbort
    else if t.finished then d else ((d.noFrameRegs n .faultAbort).completeWork n t .faultAbort).abortSes n
  | none => d

/-- Recovery of a pavilion (R573): its transactions complete, a PROG_STOP that waits completes, its slots are cleared and its
microcode reloads. -/
def Dev.recoverPav (d : Dev) (p code : Nat) : Dev :=
  let d := d.each (pavChans p) Dev.abortWork
  let stops := (d.pav p).runs.filterMap fun (e : Nat × ProgRun) => e.2.stop
  let d := d.clearSlots p
  let d := d.each stops fun d q => d.done q .faultAbort
  d.modPav p fun x => { x with reload := some code }

/-- The operational list of a pavilion is discarded, and its credits and tokens are 0 (monitor 0x0007, R366). -/
def Dev.loseLists (d : Dev) (p : Nat) : Dev :=
  let d := d.modGate p fun g => { g with oper := none }
  let d := if (d.pav p).gate.mode = .oper then
      d.modGate p fun g => { (d.loadFb p d.tc g) with mode := .fallback, lostEnd := none } else d
  let d := d.modPav p fun x => { x with tokens := 0, tokAt := d.tc }
  d.each (pavChans p) fun d n => d.modCh n fun c => { c with credit := 0, creditAt := d.tc }

/-- The registers that hold a regulatory field of a scope (R376, monitor 0x0013). -/
def regScope (kind ix : Nat) : List (RegName × Nat × Nat) :=
  if kind = 0 then [(.CH_PWR_LIM, ix, 0)]
  else if kind = 2 then [(.PAV_LOCK, ix, 0), (.SHP_CH_EN_LOCK, 0, ix)]
  else [(.SYN_TRIM_MIN, 0, 0), (.SYN_TRIM_MAX, 0, 0)]

/-- The regulatory record's value of a register; blank where no record is held (R512). -/
def NonVol.regVal (nv : NonVol) (r : RegName) (i j : Nat) : Nat :=
  tblGet (nv.reg.getD []) (regKey r i j) (regReset r j)

/-- Regulatory fields of a scope take their record's values (monitor 0x0013). -/
def Dev.reloadReg (d : Dev) (nv : NonVol) (l : List (RegName × Nat × Nat)) : Dev :=
  d.each l fun d (x : RegName × Nat × Nat) => d.wr x.1 x.2.1 x.2.2 (nv.regVal x.1 x.2.1 x.2.2)

/-- A class 2 or class 3 row's own reaction, beside the cut and isolation of its class (R567). -/
def Dev.rowEffect (d : Dev) (nv : NonVol) (code kind ix : Nat) : Dev :=
  match code with
  | 0x0002 | 0x0016 => d.recoverPav ix code
  | 0x0007 => d.loseLists ix
  | 0x0008 | 0x0010 => { d with pwr := { d.pwr with gateDown := true } }
  | 0x000A => (d.each (List.range 6) fun d p => d.wr .SHP_CH_EN_LOCK 0 p 0).setOn F.SEC_STAT_REG_RECORD_BAD 0 0 true
  | 0x0011 => d.setOn F.CH_FEN_STAT_CHAIN_FAULT ix 0 true
  | 0x0012 => (d.setOn F.CH_LIM_STAT_TRIP ix 0 true).addFld F.CH_LIM_STAT_TRIPS ix 0 1
  | 0x0013 => { (d.reloadReg nv (regScope kind ix)) with sec := { d.sec with mismatchAt := some d.tc } }
  | _ => d

/-- The class of a detection: a second mismatch of a regulatory field within one second is class 3 (monitor 0x0013). -/
def Dev.detClass (d : Dev) (code kind : Nat) : Nat :=
  if code = 0x0013 then
    match d.sec.mismatchAt with
    | some t => if d.tc ≤ t + 1000 * tcMs then 3 else 2
    | none => 2
  else d.monClass code kind

/-! ### Class 0 and class 1 rows -/

/-- A descriptor that the device holds completes with FAULT_ABORT (monitors 0x0005, 0x0031). -/
def Dev.abortDesc (d : Dev) (ring idx : Nat) : Dev :=
  match d.host.inFlight.find? fun (q : QDesc) => q.ring == ring && q.idx == idx with
  | none => d
  | some q =>
    let src := q.d.source
    if (d.tq src).q.any (·.same q) then
      (d.modTq src fun t => { t with q := t.q.filter fun r => !r.same q }).complete q .faultAbort { result := .faultAbort }
    else
      match (d.ch src).txn with
      | some t =>
        if src < 192 ∧ (t.desc.any (·.same q) ∨ t.hostDesc.any (·.same q)) then
          if t.phase = .waiting ∨ t.phase = .admitted then d.refuse src .faultAbort
          else d.rampDown src .normal (some .faultAbort)
        else d.done q .faultAbort
      | none => d.done q .faultAbort

/-- A damaged completion is posted with FAULT_ABORT (monitor 0x0032). -/
def Dev.checkEntry (d : Dev) (source place : Nat) : Dev :=
  d.modOutq source fun q => { q with held := q.held.modify place fun e =>
    if e.kind = .completion then { e with status := .faultAbort } else e }

/-- The entry that a detection replaces by its FAULT event: a damaged one of an outbound queue (monitor 0x0005), or an unsolicited one
that fails its check (monitor 0x0032). -/
def Dev.replaces (d : Dev) (code : Nat) (item : FaultItem) : Option (Nat × Nat) :=
  match item with
  | .event s k =>
    match (d.outq s).held[k]? with
    | some e => if code = 0x0005 ∨ code = 0x0032 ∧ e.kind ≠ .completion then some (s, k) else none
    | none => none
  | _ => none

/-- A session is lost: it is released and its exchange completes with FAULT_ABORT (monitor 0x0003, R331); a listener starts afresh from
IDLE (log entry 63). -/
def Dev.loseSession (d : Dev) (s : Nat) : Dev :=
  let x := d.ses s
  if x.kind = .free then d
  else
    let n := x.chan
    let d := match (d.ch n).txn with
      | some t => if t.sess = some s then d.rampDown n .normal (some .faultAbort) else d
      | none => d
    if (d.ch n).lsn.sess = some s then d.lsnEnd n .idle else d.freeSes s

/-- Every column of an arbour's matrix becomes invalid, and its running group transactions complete with FAULT_ABORT (monitor
0x0006). -/
def Dev.loseMatrix (d : Dev) (a : Nat) : Dev :=
  let d := d.setFld F.ARB_CM_STAT_VALID a 0 0
  d.each (arbChans a) fun d n =>
    match (d.ch n).txn with
    | some t => if t.fg.isSome then d.strike n .normal .faultAbort else d
    | none => d

/-- What a class 0 or class 1 detection does to the item it found (R565, R567). -/
def Dev.itemEffect (d : Dev) (code ix : Nat) (item : FaultItem) : Dev :=
  match code, item with
  | 0x0001, _ => d.addFld F.FLT_ECC_CORR 0 0 1
  | 0x0003, .session n => d.loseSession n
  | 0x0004, .entry k => d.cacheDrop k 1
  | 0x0005, .desc r k => d.abortDesc r k
  | 0x0006, _ => d.loseMatrix ix
  | 0x0031, .desc r k => d.abortDesc r k
  | 0x0032, .event s k => d.checkEntry s k
  | _, _ => d

/-- Monitors of uncorrectable memory errors, which FLT_ECC.UNCORR counts (R567, R579). -/
def monUncorr (code : Nat) : Bool := decide (0x0002 ≤ code) && decide (code ≤ 0x0008)

/-- The VALUE of a detection: the replaced entry's KIND where an entry is replaced, else what the monitor measured (R571). -/
def Dev.itemValue (d : Dev) (item : FaultItem) (value : Nat) : Nat :=
  match item with
  | .event s k =>
    match (d.outq s).held[k]? with
    | some e => e.kind.ctorIdx
    | none => value
  | _ => value

/-! ### Meanings -/

/-- The threshold of a monitor that compares a measured value stands against it (R567): a supply over 0.90 V at least, VDRV over 13.2 V,
in mV, a die temperature from FLT_TEMP.CUT on, in 0.25 °C. -/
def Dev.detHolds (d : Dev) (code value : Nat) : Bool :=
  if code = 0x0022 then decide (900 < value) else if code = 0x0023 then decide (13200 < value)
  else if code = 0x0024 then decide (4 * (d.fld F.FLT_TEMP_CUT : Int) ≤ toInt 32 value) else true

/-- FAULT_DETECTION (R565 to R571): a monitor's detection on a scope, with the item it found and the value it measured. REFCLK
loss and the synthesisers' own states are moved by their own commands. -/
def execFaultDetection (code kind ix : Nat) (item : FaultItem) (value : Word) (s : State) : Host.Outcome State Fault Refusal :=
  onDev (fun nv d =>
    if (monKinds code).contains kind && decide (ix < kindCount kind) && code != 0x0040 && code != 0x0041 &&
        d.detHolds code value.toNat then
      if code = 0x0021 then d.refclkLost
      else
        let v := d.itemValue item value.toNat
        let cls := d.detClass code kind
        let d := if monUncorr code then d.addFld F.FLT_ECC_UNCORR 0 0 1 else d
        let d := if cls ≤ 1 then d.itemEffect code ix item
          else (d.react { code := code, cls := cls, kind := kind, ix := ix }).rowEffect nv code kind ix
        let x : Detect := { code := code, cls := cls, kind := kind, ix := ix, value := v }
        match d.replaces code item with
        | some (s, k) => ((d.record x).standIn s k x).refill s
        | none => d.report x
    else d) s

/-- SCRUB_PASS (R568): every word once per 100 ms. -/
def execScrubPass (s : State) : Host.Outcome State Fault Refusal :=
  onDev (fun _ d =>
    if d.on F.FLT_SCRUB_EN then
      let d := d.runTo (d.flt.scrubAt + 100 * tcMs)
      { d.addFld F.FLT_SCRUB_PASSES 0 0 1 with flt := { d.flt with scrubAt := d.tc } }
    else d) s

/-- SELF_TEST (R574): a monitor's test on a scope, once per period, has passed or failed; a channel's only with no field up. -/
def execSelfTest (code kind ix : Nat) (pass : Bool) (s : State) : Host.Outcome State Fault Refusal :=
  onDev (fun _ d =>
    if d.on F.FLT_STEST_EN && monTested code && (monKinds code).contains kind && decide (ix < kindCount kind) &&
        (kind != 0 || !d.coilOn ix) then
      let k := testKey code kind ix
      let d := match tblFind d.flt.tests k with
        | some t => d.runTo (t + d.testTc)
        | none => d
      let d := { d with flt := { d.flt with tests := tblPut d.flt.tests k d.tc } }
      if pass then d.cond (kind == 0) fun d => d.retry (pavOf ix)
      else (d.setOn F.FLT_STAT_STEST_FAIL 0 0 true).fault
        { code := 0x0040, cls := d.monClass 0x0040 kind, kind := kind, ix := ix, value := code, stest := true }
    else d) s

/-- The microcode section of the booted manifest, as read from the flash, has its digest (R489, R573). -/
def Dev.microcodeOk (d : Dev) (b : Option (List Byte)) : Bool :=
  match b, (List.range 4).find? fun i => byteAt (secEntry d.sec.manifest i) 0 == 1 with
  | some b, some i =>
    let e := secEntry d.sec.manifest i
    shake256 (padTo (leAt e 8 4) b) == slice e 16 32
  | _, _ => false

/-- MICROCODE_RELOAD_DONE (R573): what the flash gave for the microcode section, none where it did not answer. A failed reload leaves the
pavilion isolated until the next reset and posts a second event. -/
def execMicrocodeReloadDone (pav : Fin 6) (sec : Option (List Byte)) (s : State) : Host.Outcome State Fault Refusal :=
  onDev (fun _ d =>
    let p : Nat := pav
    match (d.pav p).reload with
    | none => d
    | some code =>
      let ok := d.microcodeOk sec
      let d := d.modPav p fun x => { x with reload := none, dead := !ok }
      if ok then d
      else d.event .fault (0x200 + p) ({ code := code, cls := 2, kind := 2, ix := p, value := 1 } : Detect).body) s

/-- A write of FLT_INJECT (R578): class 0 and class 1 are only recorded and reported, a synthesiser's state never changes. -/
def Dev.inject (d : Dev) (nv : NonVol) (v : Nat) : Dev :=
  let code := bits v 0 16
  let kind := bits v 20 2
  let ix := bits v 24 8
  if (nv.life = 1 ∨ nv.life = 4) ∧ (monKinds code).contains kind ∧ ix < kindCount kind then
    let cls := d.detClass code kind
    let x : Detect := { code := code, cls := cls, kind := kind, ix := ix, value := 0xFFFFFFFF }
    let d := if cls ≤ 1 then d else (d.react x).rowEffect nv code kind ix
    d.report x
  else d

/-- FAULT_INJECT (R578). -/
def execFaultInject (v : Word) (s : State) : Host.Outcome State Fault Refusal := onDev (fun nv d => d.inject nv v.toNat) s

/-- A write of FLT_ISO_CH[p] (R566). -/
def Dev.isoChWrite (d : Dev) (nv : NonVol) (p v : Nat) : Dev := (d.plainWrite nv .FLT_ISO_CH 0 p v).retry p

/-- A write of FLT_ISO_PAV: the bit of a pavilion whose reload failed stays (R566, R573). -/
def Dev.isoPavWrite (d : Dev) (nv : NonVol) (v : Nat) : Dev :=
  let keep := (List.range 6).foldl (fun m p => if (d.pav p).dead then setBits m p 1 0 else m) v
  (d.plainWrite nv .FLT_ISO_PAV 0 0 keep).retryAll

/-- ISOLATION_CLEAR (R566): a write of FLT_ISO_PAV, or of FLT_ISO_CH for one pavilion's channels. -/
def execIsolationClear (ofPav : Bool) (pav : Fin 6) (v : Word) (s : State) : Host.Outcome State Fault Refusal :=
  onDev (fun nv d => if ofPav then d.isoPavWrite nv v.toNat else d.isoChWrite nv pav v.toNat) s

/-- GRANT_READBACK_FAULT (R474, monitor 0x0030). -/
def execGrantReadbackFault (arb : Fin 24) (s : State) : Host.Outcome State Fault Refusal :=
  onDev (fun _ d => d.faultFree { code := 0x0030, cls := 2, kind := 1, ix := arb }) s

end Sys2Proof.Machine
end

