-- ==== Sys2Proof/Machine/Listen.lean ====
section
/-! DEFINITION. Listen mode: field detection, the states of ISO/IEC 14443-3, the ISO-DEP listener, the Type 4 Tag and forwarded
APDUs (R288 to R309). Frame and block codes are those of ISO/IEC 14443 (log entry 20). -/

namespace Sys2Proof.Machine

/-- The channel listens (R288): in the LISTEN role, in an ACTIVE pavilion, outside a borrow and the safe state. -/
def Dev.listens (d : Dev) (n : Nat) : Bool :=
  (d.ch n).role == .listen && !(d.ch n).borrowed && (d.pav (pavOf n)).state == .active && !d.pwr.safe

/-! ### The outside field (R289, R294, R295) -/

/-- The UID by UID_MODE (R295); a random one is drawn at field presence (R294). -/
def Dev.lsnUid (d : Dev) (n : Nat) : List Byte × Dev :=
  let u0 := toLe 4 (d.rd .CH_LSN_UID0 n)
  match d.fld F.CH_LSN_ID_UID_MODE n with
  | 0 => (u0, d)
  | 1 => (u0 ++ toLe 3 (d.rd .CH_LSN_UID1 n), d)
  | _ => let (r, d) := d.freeBytes 3; (bytes [0x08] ++ r, d)

/-- The last 32 of the amplitudes given, one for each cycle, all pass a test (R289). -/
def for32 (l : List Nat) (f : Nat → Bool) : Bool := decide (32 ≤ l.length) && (l.drop (l.length - 32)).all f

/-- LISTEN_FIELD_PRESENT (R289, R294): the coarse amplitudes of the last cycles in mV, newest last, and the outside carrier's offset in
Hz (R290). -/
def execListenFieldPresent (ch : Fin 192) (amps : List Nat) (freq : Int) (s : State) : Host.Outcome State Fault Refusal :=
  onDev (fun _ d =>
    let n : Nat := ch
    if d.listens n && !(d.ch n).lsn.field && for32 amps fun a => decide (10 * d.fld F.CH_LSN_FD_ON n ≤ a) then
      let (u, d) := d.lsnUid n
      (d.modLsn n fun l => { armed := l.armed, field := true, since := d.tc, state := .idle, uid := u, freq := clampInt (-32768) 32767 freq }).listenStd n
    else d) s

/-- Carrier cycles in `k` cycles of the outside carrier, which listen timings count (R290). -/
def Dev.outTc (d : Dev) (n k : Nat) : Nat := k * 13560000 / (13560000 + (d.ch n).lsn.freq).toNat

/-- LISTEN_FIELD_ABSENT (R289, R292, R301): the coarse amplitudes of the last cycles in mV, newest last. A reader's frame in progress is
over with its field. With the outside field of CH000 goes what its harvester gave (R317). -/
def execListenFieldAbsent (ch : Fin 192) (amps : List Nat) (s : State) : Host.Outcome State Fault Refusal :=
  onDev (fun _ d =>
    let n : Nat := ch
    if (d.ch n).lsn.field && for32 amps fun a => decide (a < 10 * d.fld F.CH_LSN_FD_OFF n) then
      let d := ((d.lsnLeave n).lsnEnd n .off).modLsn n fun l => { l with field := false, uid := [], freq := 0 }
      (d.cond (n == 0) fun d => d.setOn F.LDG_EH_ACTIVE 0 0 false).retry (pavOf n)
    else d) s

/-- A write of CH_LSN_FD: discarded whole where it would leave OFF at or above ON (R289). -/
def Dev.lsnFdWrite (d : Dev) (nv : NonVol) (n v : Nat) : Dev :=
  let e := d.plainWrite nv .CH_LSN_FD n 0 v
  if e.fld F.CH_LSN_FD_ON n ≤ e.fld F.CH_LSN_FD_OFF n then d else e

/-- LSN_FD_WRITE (R289). -/
def execLsnFdWrite (ch : Fin 192) (v : Word) (s : State) : Host.Outcome State Fault Refusal :=
  onDev (fun nv d => d.lsnFdWrite nv ch v.toNat) s

/-! ### Answers of ISO/IEC 14443-3 (R294 to R297) -/

/-- The rate at which a listener answers now. -/
def Dev.lsnTxRate (d : Dev) (n : Nat) : Nat := ((d.ch n).lsn.sess.map fun s => (d.ses s).rxRate).getD 0

/-- An answer is staged (R297). -/
def Dev.lsnStage (d : Dev) (n : Nat) (b : List Byte) (align : Nat := 0) (fixed : Bool := false) (ats : Bool := false) : Dev :=
  let rate := d.lsnTxRate n
  d.modLsn n fun l => { l with staged := some { data := b, align := align, rate := rate, fixed := fixed, ats := ats } }

/-- The four identifier bytes and BCC of a cascade level (R295). -/
def lsnLevel (uid : List Byte) (level : Nat) : List Byte :=
  let b := if uid.length = 4 then uid else if level = 1 then bytes [0x88] ++ uid.take 3 else uid.drop 3
  b ++ [xorAll b]

/-- The cascade level is the last. -/
def lsnLast (uid : List Byte) (level : Nat) : Bool := uid.length == 4 || level == 2

/-- The known bits of an ANTICOLLISION frame match the level's bytes (R294): k bits, in the bytes that follow NVB. -/
def knownMatch (lvl known : List Byte) (k : Nat) : Bool :=
  (List.range k).all fun i => bitAt (byteAt lvl (i / 8)) (i % 8) == bitAt (byteAt known (i / 8)) (i % 8)

/-- A frame of the READY states (R294): its answer and next state, or none where it is another frame. -/
def Dev.lsnReady (d : Dev) (n : Nat) (l : Lsn) (f : RxFrame) : Option Dev :=
  let nvb := byteAt f.data 1
  let k := (nvb / 16 - 2) * 8 + nvb % 16
  let lvl := lsnLevel l.uid l.level
  let sel := selCode l.level
  if byteAt f.data 0 ≠ sel ∨ f.data.length < 2 then none
  else if nvb = 0x70 then
    if crcGood .nfcA f.data && f.data.length == 9 && slice f.data 2 5 == lvl then
      let star : Bool := l.state == .readyS
      if lsnLast l.uid l.level then
        some ((d.lsnStage n (withCrc .nfcA (bytes [0x20])) (fixed := true)).modLsn n fun x => { x with state := if star then .activeS else .active })
      else some ((d.lsnStage n (withCrc .nfcA (bytes [0x04])) (fixed := true)).modLsn n fun x => { x with level := 2 })
    else none
  else if 0x20 ≤ nvb ∧ nvb < 0x70 ∧ nvb % 16 < 8 ∧ knownMatch lvl (f.data.drop 2) k then
    some (d.lsnStage n (lvl.drop (k / 8)) (align := k % 8) (fixed := true))
  else none

/-- The ATS (R296). -/
def Dev.ats (d : Dev) (n : Nat) : List Byte :=
  let rates := [0x00, 0x11, 0x33, 0x77].getD (d.fld F.CH_LSN_ATS_RATES n) 0
  let h := d.fld F.CH_LSN_ATS_HIST_LEN n
  let hist := (List.range 4).flatMap fun j => toLe 4 (d.rd .CH_LSN_HIST n j)
  bytes [5 + h, 0x70 + d.fld F.CH_LSN_ATS_FSCI n, rates + 128 * d.fld F.CH_LSN_ATS_SAME_RATE n,
    16 * d.fld F.CH_LSN_ATS_FWI n + d.fld F.CH_LSN_ATS_SFGI n, if d.on F.CH_LSN_ATS_CID_EN n then 2 else 0] ++ hist.take h

/-- RATS (R294, R329, R330): a session, or no answer. -/
def Dev.lsnRats (d : Dev) (n : Nat) (l : Lsn) (f : RxFrame) : Dev :=
  let par := byteAt f.data 1
  let ats := d.ats n
  let base : Sess := {
    kind := .listenDep, state := 2, ident := l.uid, fsci := par / 16, fsdi := d.fld F.CH_LSN_ATS_FSCI n,
    fwi := d.fld F.CH_LSN_ATS_FWI n, sfgi := d.fld F.CH_LSN_ATS_SFGI n, cid := par % 16,
    cidUsed := d.on F.CH_LSN_ATS_CID_EN n, blockNum := 1, tOpen := d.stamp, tLast := d.stamp, answer := f.data.take 2 ++ ats }
  match d.allocSes n 1 (fun x => { base with gen := x.gen, chan := n }) with
  | (some s, d) => (d.lsnStage n (withCrc .nfcA ats) (ats := true)).modLsn n fun x => { x with state := .protocol, sess := some s }
  | (none, d) => d.modLsn n fun x => { x with state := if l.state = .activeS then .halt else .idle }

/-! ### ISO-DEP listener (R298 to R301) -/

/-- A block of the listener with its check bytes; it carries the CID where the command did (R298). -/
def lsnBlock (l : Lsn) (x : Sess) (pcb : Nat) (inf : List Byte) : List Byte :=
  withCrc .nfcA (bytes [pcb + 8 * b2n l.withCid] ++ (if l.withCid then bytes [x.cid] else []) ++ inf)

/-- The next block of a response (R299). -/
def Dev.lsnChunk (d : Dev) (n : Nat) (resp : List Byte) : Dev :=
  let l := (d.ch n).lsn
  match l.sess with
  | none => d
  | some s =>
    let x := d.ses s
    let room := fscOf x.fsci - 3 - b2n l.withCid
    let rest := resp.drop room
    let b := lsnBlock l x (0x02 + 16 * b2n (!rest.isEmpty) + x.blockNum) (resp.take room)
    ((d.modSes s fun y => { y with state := if rest.isEmpty then 2 else 3 }).modLsn n fun l => { l with rest := rest, lastBlk := b }).lsnStage n b

/-- A response APDU goes out, after the reader's answer to an S(WTX) that is out (R308); its last two bytes are the session's last status
word (R332). -/
def Dev.lsnRespond (d : Dev) (n : Nat) (resp : List Byte) : Dev :=
  let d := match (d.ch n).lsn.sess with
    | some s => d.modSes s fun x => { x with hold := false, lastSw := beNat (resp.drop (resp.length - 2)) }
    | none => d
  let d := d.modLsn n fun l => { l with waiting := false }
  if (d.ch n).lsn.wtxOut then d.modLsn n fun l => { l with queued := some resp } else d.lsnChunk n resp

/-- A status word as a response. -/
def swBytes (sw : Nat) : List Byte := toBe 2 sw

/-- The error response (R300, R305, R309). -/
def Dev.lsnError (d : Dev) (n : Nat) : Dev := d.lsnRespond n (swBytes (d.fld F.CH_LSN_ERR_SW n))

/-- A LISTEN_APDU event (R304, R305, R309, R419); its status is that of the session's latest exchange (R332). -/
def Dev.lsnEvent (d : Dev) (n : Nat) (st : Status) (len ofs wlen : Nat) (localWrite : Bool) : Dev :=
  let l := (d.ch n).lsn
  let d := match l.sess with
    | some s => d.modSes s fun x => { x with lastStatus := st.ctorIdx }
    | none => d
  d.post { status := st, kind := .listenApdu, source := n, session := l.sess.getD 0x1FF, time := d.stamp, localWrite := localWrite,
           body := toLe 2 (sat 0xFFFF len) ++ toLe 2 0 ++ toLe 2 ofs ++ toLe 2 wlen,
           ring := l.armed.map fun (a : Nat × Nat × Nat) => a.2.2 }

/-- A command is forwarded to the host (R305, R410); a late response can from now on only be the new command's (R309; log entry 63). -/
def Dev.lsnForward (d : Dev) (n : Nat) (apdu : List Byte) : Dev :=
  match (d.ch n).lsn.armed with
  | none => (d.addFld F.CH_OUTQ_LSN_REFUSED n 0 1).lsnError n
  | some (addr, len, _) =>
    let d := d.modLsn n fun l => { l with apduLen := apdu.length }
    if len < apdu.length then (d.lsnEvent n .bufferShort apdu.length 0 0 false).lsnError n
    else
      let d := ((d.output n addr apdu).lsnEvent n .ok apdu.length 0 0 false).modLsn n fun l => { l with waiting := true, capped := false }
      match (d.ch n).lsn.sess with
      | some s => d.modSes s fun x => { x with hold := true }
      | none => d

/-! ### Type 4 Tag (R302 to R304) -/

/-- Byte i of a tag image. -/
def Image.byte (m : Image) (i : Nat) : Byte := tblGet m.mem i 0

/-- Bytes of a tag image. -/
def Image.read (m : Image) (o n : Nat) : List Byte := (List.range n).map fun i => m.byte (o + i)

/-- Bytes written into a tag image. -/
def Image.write (m : Image) (o : Nat) (b : List Byte) : Image :=
  { m with mem := (b.zipIdx.foldl (fun (t : Tbl Byte) (x : Byte × Nat) => tblSet t (o + x.2) x.1 0) m.mem) }

/-- A big-endian half-word of a tag image. -/
def Image.half (m : Image) (o : Nat) : Nat := beNat (m.read o 2)

/-- The NDEF file that the CC gives lies within the image (R303). -/
def Image.ccOk (m : Image) : Bool := decide (m.half 11 + 0x100 ≤ 4096 * m.pages)

/-- The tag image that a channel serves, if it is allocated. -/
def Dev.served (d : Dev) (n : Nat) : Option Nat :=
  let i := d.fld F.CH_LSN_CTL_IMAGE n
  if i < 64 ∧ (d.img i).pages ≠ 0 then some i else none

/-- The selected file: where it starts in the image, and its size. -/
def T4Sel.file (t : T4Sel) (m : Image) : Option (Nat × Nat) :=
  match t with
  | .cc => some (0, 15)
  | .ndef => some (0x100, m.half 11)
  | _ => Option.none

/-- Le of a READ BINARY, short or extended; none without Le. -/
def leOf (a : List Byte) : Option Nat :=
  if a.length = 5 then some (if byteAt a 4 = 0 then 256 else byteAt a 4)
  else if a.length = 7 ∧ byteAt a 4 = 0 then some (let v := beNat (slice a 5 2); if v = 0 then 65536 else v)
  else none

/-- Lc of a command, short or extended, with the data; none where the command is shorter than that. -/
def lcOf (a : List Byte) : Option (Nat × List Byte) :=
  let at_ (lc k : Nat) : Option (Nat × List Byte) := if k + lc ≤ a.length then some (lc, slice a k lc) else none
  if byteAt a 4 ≠ 0 then at_ (byteAt a 4) 5
  else if 7 ≤ a.length then at_ (beNat (slice a 5 2)) 7
  else if a.length = 5 then some (0, []) else none

/-- The AID of the NDEF application. -/
def ndefAid : List Byte := bytes [0xD2, 0x76, 0x00, 0x00, 0x85, 0x01, 0x01]

/-- The answer to a Type 4 Tag command (R302), with the new selection and, for an UPDATE BINARY, where and which bytes it writes, none
where it is refused; no answer where the command is not one, or is shorter than its Lc. -/
def t4Answer (m : Image) (sel : T4Sel) (wrEn : Bool) (a : List Byte) : Option (List Byte × T4Sel × Option (Nat × List Byte)) :=
  let head := beNat (a.take 4)
  let data := ((lcOf a).map (·.2)).getD []
  let ofs := head % 65536
  if head = 0x00A40400 ∧ data = ndefAid then some (swBytes 0x9000, .app, none)
  else if head = 0x00A4000C ∧ data.length = 2 ∧ sel ≠ .none then
    let id := beNat data
    if id = 0xE103 then some (swBytes 0x9000, .cc, none)
    else if id = m.half 9 then some (swBytes 0x9000, .ndef, none)
    else some (swBytes 0x6A82, sel, none)
  else
    match sel.file m with
    | none => none
    | some (base, size) =>
      if head / 65536 = 0x00B0 then
        match leOf a with
        | none => none
        | some le =>
          let len := min le (min (size - ofs) (m.half 3))
          if size ≤ ofs ∨ 4096 * m.pages < base + ofs + len then some (swBytes 0x6B00, sel, none)
          else some (m.read (base + ofs) len ++ swBytes 0x9000, sel, none)
      else if head / 65536 = 0x00D6 then
        match lcOf a with
        | none => none
        | some (lc, data) =>
          if m.byte 14 ≠ 0 ∨ ¬ wrEn ∨ sel = .cc then some (swBytes 0x6982, sel, some (ofs, []))
          else if size < ofs + lc ∨ 4096 * m.pages < base + ofs + lc then some (swBytes 0x6B00, sel, some (ofs, []))
          else some (swBytes 0x9000, sel, some (ofs, data))
      else none

/-- A command names another application: the NDEF application is deselected (R302). -/
def otherAid (a : List Byte) : Bool := beNat (a.take 4) == 0x00A40400 && ((lcOf a).map (·.2)).getD [] != ndefAid

/-- A reader writes bytes of an image: staged host writes of the same bytes remember it (R315). -/
def Image.readerWrite (m : Image) (o : Nat) (b : List Byte) : Image :=
  { m.write o b with staged := m.staged.map fun (w : Staged) =>
      { w with hit := w.hit || (decide (o < w.ofs + w.data.length) && decide (w.ofs < o + b.length)) } }

/-- A whole command APDU (R300, R302). Each UPDATE BINARY that the device answers posts its event, of no bytes where it refuses it
(R304). -/
def Dev.lsnCommand (d : Dev) (n : Nat) (a : List Byte) : Dev :=
  let l := (d.ch n).lsn
  let fwd := d.fld F.CH_LSN_CTL_FWD n
  let ans := match d.served n with
    | some i => if d.on F.CH_LSN_CTL_T4_EN n ∧ fwd ≠ 1 then t4Answer (d.img i) l.t4 (d.on F.CH_LSN_CTL_WRITE_EN n) a else none
    | none => none
  -- a command that would post an entry needs two free places (R431)
  let posts : Bool := match ans with
    | some (_, _, wr) => wr.isSome
    | none => fwd != 2 && l.armed.isSome
  if posts && decide (d.outFree n < 2) then (d.addFld F.CH_OUTQ_LSN_REFUSED n 0 1).lsnError n
  else
  match ans with
  | some (resp, sel, wr) =>
    let d := d.modLsn n fun l => { l with t4 := sel }
    let d := match wr with
      | some (o, b) =>
        (d.cond (!b.isEmpty) fun d => d.modImg (d.fld F.CH_LSN_CTL_IMAGE n) fun m => m.readerWrite (0x100 + o) b).lsnEvent
          n .ok a.length o b.length true
      | none => d
    d.lsnRespond n resp
  | none =>
    let d := if otherAid a then d.modLsn n fun l => { l with t4 := .none } else d
    if fwd = 2 then d.lsnError n else d.lsnForward n a

/-! ### Frames of the PROTOCOL state -/

/-- PPS names announced rates (R294, R296). -/
def Dev.ppsOk (d : Dev) (n : Nat) (b : List Byte) : Bool :=
  let p1 := if byteAt b 1 = 0x11 then byteAt b 2 else 0
  let max := d.fld F.CH_LSN_ATS_RATES n
  (byteAt b 1 == 0x11 || byteAt b 1 == 0x01) && decide (p1 < 16) && decide (p1 % 4 ≤ max) && decide (p1 / 4 ≤ max) &&
    (!d.on F.CH_LSN_ATS_SAME_RATE n || p1 % 4 == p1 / 4)

/-- The last block is sent again. -/
def Dev.lsnAgain (d : Dev) (n : Nat) : Dev :=
  let b := (d.ch n).lsn.lastBlk
  if b = [] then d else d.lsnStage n b

/-- R(ACK) of the listener. -/
def Dev.lsnAck (d : Dev) (n s : Nat) : Dev :=
  let b := lsnBlock (d.ch n).lsn (d.ses s) (0xA2 + (d.ses s).blockNum) []
  (d.modLsn n fun l => { l with lastBlk := b }).lsnStage n b

/-- A block of the reader (R298 to R301, R307, R308): PCB, information, and the session. An I-block toggles the block number. -/
def Dev.lsnOnBlock (d : Dev) (n s pcb : Nat) (inf : List Byte) : Dev :=
  let l := (d.ch n).lsn
  let x := d.ses s
  if pcb / 64 = 0 then
    let d := d.modSes s fun x => { x with blockNum := 1 - x.blockNum, state := 2 }
    let d := d.modLsn n fun l => { l with
      asm := l.asm ++ inf, rest := [], lastBlk := [], staged := none, cmdAt := l.endTc, tmrAt := l.endTc, ext := 0 }
    if 8192 < l.asm.length + inf.length then d.modLsn n fun l => { l with asm := [] }
    else if bitAt pcb 4 then d.lsnAck n s
    else
      let a := (d.ch n).lsn.asm
      (d.modLsn n fun l => { l with asm := [] }).lsnCommand n a
  else if pcb / 64 = 2 then
    if pcb % 2 = x.blockNum then d.lsnAgain n
    else if bitAt pcb 4 then d.lsnAck n s
    else if l.rest ≠ [] then (d.modSes s fun x => { x with blockNum := 1 - x.blockNum }).lsnChunk n l.rest
    else d
  else if bits pcb 4 2 = 0 then
    let rate := d.lsnTxRate n
    ((d.lsnEnd n .halt).lsnStage n (lsnBlock l x 0xC2 [])).modLsn n fun l => { l with staged := l.staged.map fun a => { a with rate := rate } }
  else if bits pcb 4 2 = 3 ∧ l.wtxOut then
    let d := (d.modSes s fun x => { x with state := 2 }).modLsn n fun l => { l with wtxOut := false, queued := none, tmrAt := l.endTc }
    match l.queued with
    | some resp => d.lsnChunk n resp
    | none => d
  else d

/-- The PCB of a block that a listener handles: I-block without NAD, R-block, S(DESELECT) or S(WTX) (R294, R298). -/
def lsnPcb (pcb : Nat) : Bool :=
  !bitAt pcb 2 && bitAt pcb 1 &&
    (pcb / 32 == 0 || pcb / 32 == 5 || pcb / 64 == 3 && pcb % 2 == 0 && (bits pcb 4 2 == 0 || bits pcb 4 2 == 3))

/-- The CID rule of a listener (R298): a block names the RATS's CID, or names none where that CID is 0 or no CID is in use. -/
def Sess.takesCid (x : Sess) (cid : Bool) (k : Nat) : Bool := if cid then x.cidUsed && k == x.cid else !x.cidUsed || x.cid == 0

/-- A valid frame of the PROTOCOL state (R294, R298); any other frame, a RATS among them, leaves no mark (R330). -/
def Dev.lsnProtocol (d : Dev) (n s : Nat) (f : RxFrame) : Dev :=
  let b := f.data.take (f.data.length - 2)
  let pcb := byteAt b 0
  let x := d.ses s
  let seen (d : Dev) : Dev := d.modSes s fun x => { x with tLast := d.stamp }
  if pcb / 16 = 0xD then
    let d := d.cond (pcb % 16 = x.cid && d.ppsOk n b) seen
    if pcb % 16 = x.cid && d.ppsOk n b then
      let p1 := if byteAt b 1 = 0x11 then byteAt b 2 else 0
      (d.lsnStage n (withCrc .nfcA (bytes [pcb]))).modSes s fun x => { x with txRate := p1 % 4, rxRate := p1 / 4 }
    else d
  else
    let cid := bitAt pcb 3
    if lsnPcb pcb && x.takesCid cid (byteAt b 1 % 16) && b != [] then
      ((seen d).modLsn n fun l => { l with withCid := cid }).lsnOnBlock n s pcb (b.drop (1 + b2n cid)) else d

/-- A short frame. -/
def rxShort (f : RxFrame) (cmd : Nat) : Bool := f.data.length == 1 && f.lastBits == 7 && byteAt f.data 0 % 128 == cmd

/-- A frame is broken (R294): parity, coding, its end, or the CRC that its kind bears. -/
def rxBroken (f : RxFrame) (crcBorne : Bool) : Bool :=
  f.parityErr.isSome || f.noParity.isSome || f.coding.isSome || f.noEof || f.data.isEmpty || (crcBorne && !crcGood .nfcA f.data)

/-- The frame is a short frame or an ANTICOLLISION, which bear no CRC. -/
def rxNoCrc (f : RxFrame) : Bool :=
  (f.data.length == 1 && f.lastBits == 7) ||
    ([0x93, 0x95, 0x97].contains (byteAt f.data 0) && decide (2 ≤ f.data.length) && byteAt f.data 1 != 0x70)

/-- ATQA (R295). -/
def atqa (uid : List Byte) : List Byte := bytes [if uid.length = 7 then 0x44 else 0x04, 0x00]

/-- What a reader's frame makes a listener do (R294). A listener is ready 100 µs after its field was declared present. -/
def Dev.lsnOnFrame (d : Dev) (n : Nat) (f : RxFrame) (inRate : Bool) : Dev :=
    let l := (d.ch n).lsn
    let idle (st : LsnState) : Dev := d.modLsn n fun l => { l with state := st, level := 1, staged := none }
    if !d.listens n || !l.field || !inRate || decide (d.tc < l.since + usTc 100) || rxBroken f (!rxNoCrc f) then d
    else
      let wup := rxShort f 0x52
      match l.state with
      | .off => d
      | .idle => if wup || rxShort f 0x26 then (idle .ready).lsnStage n (atqa l.uid) (fixed := true) else d
      | .halt => if wup then (idle .readyS).lsnStage n (atqa l.uid) (fixed := true) else d
      | .ready => (d.lsnReady n l f).getD (idle .idle)
      | .readyS => (d.lsnReady n l f).getD (idle .halt)
      | .active | .activeS =>
        if f.data.take 2 = bytes [0x50, 0x00] ∧ f.data.length = 4 then idle .halt
        else if byteAt f.data 0 = 0xE0 ∧ f.data.length = 4 then d.lsnRats n l f
        else idle (if l.state = .active then .idle else .halt)
      | .protocol =>
        match l.sess with
        | some x => d.lsnProtocol n x f
        | none => d

/-- The rate at which a reader sends to a listener (R146, R294). -/
def Dev.lsnRate (d : Dev) (n : Nat) : Nat :=
  match (d.ch n).lsn.sess with
  | some x => (d.ses x).txRate
  | none => 0

/-- READER_FRAME_RECEIVED (R131, R145, R146, R153, R294): the end edge of a reader's frame. -/
def execReaderFrameReceived (ch : Fin 192) (x : ReaderRaw) (s : State) : Host.Outcome State Fault Refusal :=
  onDev (fun _ d =>
    let n : Nat := ch
    let rate := d.lsnRate n
    let e := 4 * bitTc .nfcA rate
    let d := d.cond (d.ch n).lsn.field fun d => d.runTo ((x.stop + 3) / 4)
    let q := x.stop - d.rxLat n
    d.atIndex q fun d =>
      let f := demodReader rate x
      let d := (d.modLsn n fun l => { l with endTc := (q + 3) / 4, endOne := lastBitA f.data (f.lastBits % 8) }).lsnFrameEnd n
      let (err, d) := d.rateErr e x.durBits x.dur
      let d := d.setFld F.CH_FRM_QUAL_RATE_ERR n 0 (ofInt 8 (clampInt (-128) 127 err))
      d.lsnOnFrame n f (rateOk 50 e x.durBits x.dur)) s

/-- The carrier cycle at which a staged answer goes out (R153, R297): the point of the response grid with n = 9, or the first one with n
of at least 9 that is not over and, for an answer in PROTOCOL, not before SFGT after the ATS. A wait of `w` carrier cycles is over at the
least n at which 128 n + r cycles of the outside carrier last that long. -/
def Dev.answerTc (d : Dev) (n : Nat) (a : Answer) : Nat :=
  let l := (d.ch n).lsn
  let at_ (k : Nat) : Nat := l.endTc + d.outTc n (128 * k + if l.endOne then 84 else 20)
  let w := max d.tc (if a.ats then 0 else l.notBefore) - l.endTc
  let cycles := (w * (13560000 + l.freq).toNat + 13559999) / 13560000
  if a.fixed then at_ 9 else at_ (max 9 ((cycles - (if l.endOne then 84 else 20) + 127) / 128))

/-- The bits of an answer's frame (R141, R147, R163): a start bit, 1 at 106 kbit/s and 0 behind the phase reference at the rates above,
then data and parity bits from the first bit that is sent. -/
def Answer.line (a : Answer) : List Bool := (a.rate == 0) :: (airBitsA a.data 0).drop a.align

/-- LISTEN_ANSWER_SEND (R131, R293, R297): the staged answer goes out by load modulation at its grid point. While VDRV lies below warning
no answer is sent (R597). -/
def execListenAnswerSend (ch : Fin 192) (s : State) : Host.Outcome State Fault Refusal :=
  onDev (fun _ d =>
    let n : Nat := ch
    match (d.ch n).lsn.staged with
    | some a =>
      if (d.pav (pavOf n)).dip then d.modLsn n fun l => { l with staged := none }
      else if d.listens n then
        let d := d.runTo (d.answerTc n a)
        let after := d.tc + d.outTc n (128 * (1 + 9 * a.data.length) + sfgtTc (d.fld F.CH_LSN_ATS_SFGI n))
        let d := match (d.ch n).lsn.sess with
          | some s => d.modSes s fun x => { x with tLast := d.timeOf (4 * (d.tc + d.outTc n (tagFrameTc .nfcA a.rate a.data.length))) }
          | none => d
        let end_ := d.tc + d.outTc n (tagFrameTc .nfcA a.rate a.data.length)
        ((d.modLsn n fun l => { l with staged := none, sendTo := end_, notBefore := if a.ats then after else l.notBefore }).agcGo n [0] 1).emit
          (.load n a.rate a.data a.line)
      else d
    | none => d) s

/-- The largest WTXM that keeps FWT × WTXM within 4,096 × 2^14 Tc (R307). -/
def wtxmFor (m fwi : Nat) : Nat := min m (2 ^ (14 - fwi))

/-- The carrier cycle at which the extension timer fires: 80 % of the wait in force (R307). -/
def Dev.wtxTc (d : Dev) (n s : Nat) : Nat :=
  let l := (d.ch n).lsn
  l.tmrAt + d.outTc n ((4 * fwtTc (d.ses s).fwi * max 1 l.ext + 4) / 5)

/-- LISTEN_WTX_TIMER (R307). -/
def execListenWtxTimer (ch : Fin 192) (s : State) : Host.Outcome State Fault Refusal :=
  onDev (fun _ d =>
    let n : Nat := ch
    let l := (d.ch n).lsn
    match l.sess with
    | some x =>
      if l.waiting && !l.wtxOut && l.staged.isNone then
        let d := d.runTo (d.wtxTc n x)
        let m := wtxmFor (d.fld F.CH_LSN_WTX_WTXM n) (d.ses x).fwi
        let d := (d.modSes x fun y => { y with wtxm := m, state := 4 }).modLsn n fun l => { l with wtxOut := true, ext := m }
        let b := lsnBlock l (d.ses x) 0xF2 (bytes [m])
        (d.modLsn n fun l => { l with lastBlk := b }).lsnStage n b
      else d
    | none => d) s

/-- LISTEN_HOST_CAP_EXPIRY (R309). -/
def execListenHostCapExpiry (ch : Fin 192) (s : State) : Host.Outcome State Fault Refusal :=
  onDev (fun _ d =>
    let n : Nat := ch
    let l := (d.ch n).lsn
    if l.waiting then
      let d := d.runTo (l.cmdAt + d.outTc n (d.fld F.PAV_LISTEN_HOST_CAP_MS (pavOf n) * tcMs))
      ((d.lsnError n).modLsn n fun l => { l with capped := true }).lsnEvent n .hostTimeout l.apduLen 0 0 false
    else d) s

/-! ### Descriptors of a listening channel (R306, R309, R410) -/

/-- LISTEN_ARM (R410). -/
def execListenArm (ch : Fin 192) (s : State) : Host.Outcome State Fault Refusal :=
  onDev (fun _ d =>
    let n : Nat := ch
    match d.running n 0x26 with
    | none => d
    | some q =>
      if (d.ch n).role ≠ .listen then d.done q .badDescriptor
      else (d.modLsn n fun l => { l with armed := some (q.d.bufAddr, q.d.bufLen, q.evq) }).done q .ok) s

/-- LISTEN_RESPOND (R301, R306, R308, R309): a session that ended after the descriptor started no longer passes the check of R333. -/
def execListenRespond (ch : Fin 192) (s : State) : Host.Outcome State Fault Refusal :=
  onDev (fun _ d =>
    let n : Nat := ch
    match d.running n 0x03 with
    | none => d
    | some q =>
      let l := (d.ch n).lsn
      if !d.genOk q.d then d.done q .staleRole
      else if (d.ch n).role ≠ .listen ∨ l.sess ≠ some q.d.session then d.done q .badDescriptor
      else if l.waiting then (d.lsnRespond n q.input).done q .ok
      else if l.capped then (d.modLsn n fun l => { l with capped := false }).done q .hostTimeout
      else d.done q .badDescriptor) s

end Sys2Proof.Machine
end

