-- ==== Sys2Proof/Machine/TagMem.lean ====
section
/-! DEFINITION. The tag-memory pool (R303, R310 to R316, R407). -/

namespace Sys2Proof.Machine

/-- Pages held by images and by shadow pages (R310, R311). -/
def Dev.pagesUsed (d : Dev) : Nat :=
  (d.images.map fun (e : Nat × Image) => e.2.pages + (e.2.staged.map (·.pages)).foldl (· + ·) 0).foldl (· + ·) 0

/-- Shadow pages held. -/
def Dev.pagesShadow (d : Dev) : Nat :=
  (d.images.map fun (e : Nat × Image) => (e.2.staged.map (·.pages)).foldl (· + ·) 0).foldl (· + ·) 0

/-- Free pages of the pool. -/
def Dev.pagesFree (d : Dev) : Nat := 256 - d.pagesUsed

/-- Pages of the persistent images. -/
def Dev.pagesKept (d : Dev) : Nat :=
  (d.images.map fun (e : Nat × Image) => if e.2.persist then e.2.pages else 0).foldl (· + ·) 0

/-- Channels in the LISTEN role that serve an image. -/
def Dev.servers (d : Dev) (i : Nat) : List Nat :=
  d.chanKeys.filter fun n => (d.ch n).role == .listen && d.fld F.CH_LSN_CTL_IMAGE n == i

/-- Channels to which an image is bound (R303). -/
def Dev.bound (d : Dev) (i : Nat) : List Nat := allChans.filter fun n => d.fld F.CH_LSN_CTL_IMAGE n == i

/-- The image that a descriptor names. -/
def QDesc.image (q : QDesc) : Nat := byteAt q.d.param 0

/-- TAGMEM_ALLOC (R310, R316): the pages left free must not be fewer than those asked for. -/
def execTagmemAlloc (s : State) : Host.Outcome State Fault Refusal :=
  onDev (fun _ d =>
    match d.running 0x3FF 0x20 with
    | none => d
    | some q =>
      let pages := byteAt q.d.param 1
      let keep := bitAt (byteAt q.d.param 2) 0
      if (d.img q.image).pages ≠ 0 then d.done q .badDescriptor
      else if d.pagesFree < 2 * pages ∨ (keep ∧ 4 < d.pagesKept + pages) then d.done q .notReady
      else (d.modImg q.image fun _ => { pages := pages, persist := keep }).done q .ok) s

/-- TAGMEM_FREE (R310): it waits for staged writes of the image. -/
def execTagmemFree (s : State) : Host.Outcome State Fault Refusal :=
  onBoth (fun nv d =>
    match d.running 0x3FF 0x21 with
    | none => (nv, d)
    | some q =>
      if (d.img q.image).pages = 0 ∨ !(d.servers q.image).isEmpty then (nv, d.done q .badDescriptor)
      else if !(d.img q.image).staged.isEmpty then (nv, d)
      else ({ nv with images := tblDel nv.images q.image }, (d.modImg q.image fun _ => {}).done q .ok)) s

/-- A descriptor of an image comes from the device or from the channel that serves it, and lies within the image (R303, R407). -/
def Dev.imgReach (d : Dev) (q : QDesc) (len : Nat) : Bool :=
  (q.d.target == 0x3FF || d.served q.d.target == some q.image) &&
    decide (leAt q.d.param 4 4 + len ≤ 4096 * (d.img q.image).pages) && (d.img q.image).pages != 0

/-- TAGMEM_WRITE (R311): the bytes are staged in shadow pages until their commit. -/
def execTagmemWrite (target : Nat) (s : State) : Host.Outcome State Fault Refusal :=
  onDev (fun _ d =>
    match d.running target 0x22 with
    | none => d
    | some q =>
      let o := leAt q.d.param 4 4
      let n := q.input.length
      let pages := if n = 0 then 0 else (o + n - 1) / 4096 - o / 4096 + 1
      if (d.img q.image).staged.any (fun (w : Staged) => w.desc.same q) then d
      else if !d.imgReach q n then d.done q .badDescriptor
      else if d.pagesFree < pages then d.done q .notReady
      else d.modImg q.image fun m => { m with staged := m.staged ++ [{ desc := q, ofs := o, data := q.input, pages := pages }] }) s

/-- TAGMEM_COMMIT (R303, R312, R314, R315): the oldest staged write of an image takes effect in one step. -/
def execTagmemCommit (image : Fin 64) (s : State) : Host.Outcome State Fault Refusal :=
  onDev (fun _ d =>
    let m := d.img image
    match m.staged with
    | [] => d
    | w :: rest =>
      let q := w.desc
      let d := d.modImg image fun m => { m with staged := rest }
      let m' := m.write w.ofs w.data
      if q.late d.now then d.done q .late
      else if !(d.bound image).isEmpty && !m'.ccOk then d.done q .badDescriptor
      else
        let d := d.modImg image fun m => m.write w.ofs w.data
        (d.completeE q { (q.entry d .ok) with overlap := w.hit }).endRun q) s

/-- TAGMEM_READ (R314): one committed version. -/
def execTagmemRead (target : Nat) (s : State) : Host.Outcome State Fault Refusal :=
  onDev (fun _ d =>
    match d.running target 0x23 with
    | none => d
    | some q =>
      if d.imgReach q q.d.bufLen then d.doneOut q ((d.img q.image).read (leAt q.d.param 4 4) q.d.bufLen)
      else d.done q .badDescriptor) s

/-- TAGMEM_SAVE (R316). -/
def execTagmemSave (s : State) : Host.Outcome State Fault Refusal :=
  onBoth (fun nv d =>
    match d.running 0x3FF 0x24 with
    | none => (nv, d)
    | some q =>
      let m := d.img q.image
      if m.pages = 0 ∨ !m.persist then (nv, d.done q .badDescriptor)
      else ({ nv with images := tblPut nv.images q.image (m.pages, m.mem) }, d.done q .ok)) s

/-- TAGMEM_BIND (R303). -/
def execTagmemBind (ch : Fin 192) (s : State) : Host.Outcome State Fault Refusal :=
  onDev (fun _ d =>
    let n : Nat := ch
    match d.running n 0x25 with
    | none => d
    | some q =>
      let i := q.image
      let d' := d.modLsn n fun l => { l with t4 := .none }
      if i = 0x7F then (d'.setFld F.CH_LSN_CTL_IMAGE n 0 0x7F).done q .ok
      else if (d.img i).pages = 0 ∨ !(d.img i).ccOk then d.done q .badDescriptor
      else (d'.setFld F.CH_LSN_CTL_IMAGE n 0 i).done q .ok) s

end Sys2Proof.Machine
end

