-- ==== Sys2Proof/Machine/Capture.lean ====
section
/-! DEFINITION. Capture streams, link capacity and shedding (R50, R137 to R139, R439 to R452). -/

namespace Sys2Proof.Machine

/-! ### Suspension (R444, R449 to R451) -/

/-- TRELLIS_MARGIN_UPDATE (R50, R450): the measured margin in steps of 0.5 %. -/
def execTrellisMarginUpdate (margin : Int) (s : State) : Host.Outcome State Fault Refusal :=
  onDev (fun _ d =>
    let m := clampInt (-128) 127 margin
    let d := d.setFld F.SYS_TRELLIS_MARGIN_MARGIN 0 0 (ofInt 8 m)
    let d := if m < d.fldI F.SYS_TRELLIS_MARGIN_MIN_SEEN then d.setFld F.SYS_TRELLIS_MARGIN_MIN_SEEN 0 0 (ofInt 8 m) else d
    let d := d.recap
    if m ≤ -60 then d.faultFree { code := 0x0017, cls := 3 } else d) s

/-! ### Link (R447, R385) -/

/-- The capture budget of a link, in Mbit/s, as numerator and denominator (R447). -/
def budgetRatio (speed width mps : Nat) : Nat × Nat :=
  let g := [0, 25, 50, 80, 160].getD speed 0
  let e := if 512 ≤ mps then 92 else if 256 ≤ mps then 88 else 80
  if speed ≤ 2 then (width * g * 100 * 8 * e * 90, 10 * 100 * 100) else (width * g * 100 * 128 * e * 90, 130 * 100 * 100)

/-- What the endpoint can train to: 2.5 to 16.0 GT/s (codes 1 to 4), ×1, ×2 or ×4, and a Max_Payload_Size of at most 512 bytes (R379,
R383). -/
def linkOk (speed width mps : Nat) : Bool :=
  decide (1 ≤ speed) && decide (speed ≤ 4) && [1, 2, 4].contains width && [128, 256, 512].contains mps

/-- LINK_TRAINING (R379, R447, R449): the negotiated rate and width, and Max_Payload_Size. -/
def execLinkTraining (speed width mps : Nat) (s : State) : Host.Outcome State Fault Refusal :=
  onDev (fun _ d =>
    if !linkOk speed width mps then d else
    let d := { d with host := { d.host with linkUp := true, mps := mps } }
    let d := (d.setFld F.HIF_LINK_SPEED 0 0 speed).setFld F.HIF_LINK_WIDTH 0 0 width
    let r := budgetRatio speed width mps
    let (b, d) := d.quot r.1 r.2
    (d.setFld F.HIF_CAP_BUDGET_MBPS 0 0 b.toNat).recap) s

/-! ### Streams (R437 to R446) -/

/-- CAPTURE_START (R139, R439, R442, R448): it waits while the channel has a stream or it does not fit, for its pavilion to be ACTIVE
(R584, R585), and for an ACTIVE synthesiser (R38). -/
def execCaptureStart (ch : Fin 192) (s : State) : Host.Outcome State Fault Refusal :=
  onDev (fun _ d =>
    let n : Nat := ch
    match d.running n 0x18 with
    | none => d
    | some q =>
      let point := byteAt q.d.param 0 % 4
      if point = 2 ∧ 6780000 * rateUnit < d.pointRate n 2 then d.done q .badDescriptor
      else if (d.ch n).cap.isSome || !d.capFits n point || (d.pav (pavOf n)).state != .active || (d.pav (pavOf n)).change.isSome || !d.synActive then d
      else
        let k : Cap := { desc := q, point := point, samples := leAt q.d.param 8 8, start := leAt q.d.param 16 8,
                         susBor := (d.ch n).borrowed }
        (d.endRun q).modCh n fun c => { c with cap := some k }) s

/-- The carried index of the first sample of a point at or after the present cycle, in the same units: samples of a stage stand at whole
periods of it (R107, R110). -/
def Dev.pointNext (d : Dev) (n point : Nat) : Nat :=
  let k := hbPeriod (if point = 0 then 3 else if point = 1 then 4 else d.fld F.CH_RX_CTL_FIR_SRC n)
  2 ^ 24 * ((4 * d.tc + k - 1) / k * k)

/-- CAPTURE_STREAM_START (R440): the first sample at or after START. -/
def execCaptureStreamStart (ch : Fin 192) (s : State) : Host.Outcome State Fault Refusal :=
  onDev (fun _ d =>
    match (d.ch ch).cap with
    | some c =>
      if c.running || c.ended then d
      else
        let d := d.runNet (339 * c.start)
        ((d.modCap ch fun c => { c with running := true, at_ := d.pointNext ch c.point }).modCap ch fun c =>
          if c.held then c.gap else c).recap
    | none => d) s

/-- Bytes in the elastic buffer. -/
def Cap.fill (c : Cap) : Nat := (c.buf.map fun (r : Nat × List Byte) => r.2.length).foldl (· + ·) 0

/-- How many of some samples belong to a stream that runs (R440). -/
def Cap.count (c : Cap) (k : Nat) : Nat := if !c.running || c.ended then 0 else if c.samples = 0 then k else min k (c.samples - c.idx)

/-- Samples that the point has produced, `step` apart, with the network time of the last: kept, or missing while suspended or when the
buffer fills (R107, R440, R444 to R446). -/
def Cap.produce (c : Cap) (step now : Nat) (data : List Byte) : Cap :=
  let k := c.count (data.length / 4)
  if k = 0 then c
  else
    let room := if c.gapFrom.isSome then 0 else (16384 - c.fill) / 4
    let keep := min k room
    let buf := if keep = 0 then c.buf else c.buf ++ [(c.idx, data.take (4 * keep))]
    let full : Bool := c.gapFrom.isNone && decide (keep < k)
    { c with
      buf := buf, idx := c.idx + k, at_ := c.at_ + k * step, tLast := now,
      susBuf := c.susBuf || full, gapFrom := if full then some (c.idx + keep) else c.gapFrom,
      ended := c.samples != 0 && decide (c.samples ≤ c.idx + k) }

/-- The 4 bytes of a captured sample, and whether a part saturated (R138). -/
def Dev.capWord (d : Dev) (n : Nat) (up : Bool) (x : Cx) : List Byte × Bool :=
  let r := shiftSatC up 16 (d.fld F.CH_RX_SHIFT_CAP n) x
  (toLe 2 (ofInt 16 r.1.re) ++ toLe 2 (ofInt 16 r.1.im), r.2)

/-- The carried index of the last of `k` samples of a stream, in quarters of a Tc (R107). -/
def Dev.capLast (d : Dev) (n k : Nat) : Nat :=
  match (d.ch n).cap with
  | some c => (c.at_ + (c.count k - 1) * d.pointStep n c.point) / 2 ^ 24
  | none => 0

/-- The samples that a stream's point produced, each with its carried index (R107), up to the last of which the clock has run: capture
words (R138; two equally near ones differ by a free value, log entry 1), and the resampler's position moves on (R134, R136). -/
def Dev.capTake (d : Dev) (n : Nat) (x : List (Int × Int)) : Dev :=
  let (up, d) := d.free
  let q := d.capLast n x.length
  let d := d.cond ((d.ch n).cap.any fun c => c.count x.length != 0) fun d => d.runTo ((q + 3) / 4)
  let w := x.map fun (c : Int × Int) => d.capWord n (up % 2 == 1) ⟨satTo 18 c.1, satTo 18 c.2⟩
  let rs : Bool := (d.ch n).cap.any fun c => c.point == 2 && c.running
  let d := d.cond ((d.ch n).cap.any (·.running) && w.any (·.2)) fun d => d.setOn F.CH_RX_SAT_CAP n 0 true
  let d := d.cond rs fun d => d.modCh n fun c => { c with rsPos := c.rsPos + x.length * rsStep (d.fld F.CH_RX_RS_M n) }
  d.modCap n fun c => c.produce (d.pointStep n c.point) (d.timeOf q) (w.flatMap (·.1))

/-- CAPTURE_WRITE (R138, R443): `x` are the samples that the point has produced since the last command, of 18 bits each in I and Q; up
the arbiters send writes until `k` samples of the elastic buffer, or all of them, have gone to host memory. -/
def execCaptureWrite (ch : Fin 192) (x : List (Int × Int)) (k : Nat) (s : State) : Host.Outcome State Fault Refusal :=
  onDev (fun _ d =>
    let n : Nat := ch
    (d.capTake n x).writeSamples n k) s

/-- The CAPTURE_GAP entries of a gap: runs of at most 0xFFFF_FFFF samples (R445). -/
def gapRuns : Nat → Nat → Nat → List (Nat × Nat)
  | 0, _, _ => []
  | f + 1, first, k => if k ≤ 0xFFFFFFFF then [(first, k)] else (first, 0xFFFFFFFF) :: gapRuns f (first + 0xFFFFFFFF) (k - 0xFFFFFFFF)

/-- Post the CAPTURE_GAP of an open gap, which closes it (R445). -/
def Dev.gapPost (d : Dev) (n : Nat) (first k : Nat) : Dev :=
  let d := d.each (gapRuns (k / 0xFFFFFFFF + 1) first k) fun d r =>
    (d.event .captureGap n (toLe 8 r.1 ++ toLe 4 r.2)).addFld F.CH_CAP_GAPS_COUNT n 0 1
  d.modCap n fun c => { c with gapFrom := none }

/-- The entry can be posted to its ring at once: nothing stands before it, and the ring has room or the entry is discarded. -/
def Dev.gapMay (d : Dev) (n : Nat) : Bool :=
  (d.ch n).outq.held.isEmpty && (d.ch n).outq.waiting.isEmpty &&
    (match d.route { kind := .captureGap, source := n } with
     | some r => !d.on F.HIF_RING_CFG_EN (evRing r) || d.ringRoom (evRing r)
     | none => true)

/-- CAPTURE_GAP (R445): with no cause left, the entry is posted to its ring and collecting resumes. -/
def execCaptureGap (ch : Fin 192) (s : State) : Host.Outcome State Fault Refusal :=
  onDev (fun _ d =>
    let n : Nat := ch
    match (d.ch n).cap with
    | some c =>
      match c.gapFrom with
      | some g => if c.held || !d.gapMay n then d else (d.gapPost n g (c.idx - g)).postNow n
      | none => d
    | none => d) s

/-- ELASTIC_BUFFER_FULL (R446): at 16 KiB. -/
def execElasticBufferFull (ch : Fin 192) (s : State) : Host.Outcome State Fault Refusal :=
  onDev (fun _ d => d.modCap ch fun c => if c.running && !c.ended && decide (16384 ≤ c.fill) then { c.gap with susBuf := true } else c) s

/-- ELASTIC_BUFFER_RESUME (R446): at 8 KiB or less. -/
def execElasticBufferResume (ch : Fin 192) (s : State) : Host.Outcome State Fault Refusal :=
  onDev (fun _ d => d.modCap ch fun c => if c.fill ≤ 8192 then { c with susBuf := false } else c) s

/-- CAPTURE_STOP (R440). -/
def execCaptureStop (ch : Fin 192) (s : State) : Host.Outcome State Fault Refusal :=
  onDev (fun _ d =>
    match d.running ch 0x19 with
    | none => d
    | some q => (d.modCap ch fun c => { c with ended := true }).done q .ok) s

/-- CAPTURE_STREAM_END (R441, R445): an open gap is reported, then the CAPTURE_START completes. -/
def execCaptureStreamEnd (ch : Fin 192) (s : State) : Host.Outcome State Fault Refusal :=
  onDev (fun _ d =>
    let n : Nat := ch
    match (d.ch n).cap with
    | some c =>
      if c.ended && c.buf.isEmpty then
        let d := match c.gapFrom with
          | some g => if g < c.idx then d.gapPost n g (c.idx - g) else d
          | none => d
        let t := if c.running then c.tLast else d.now
        let d := d.completeE c.desc { (c.desc.entry d .ok { len := c.written }) with capEnd := true, time := t }
        ((d.modCh n fun c => { c with cap := none }).stir (pavOf n)).recap
      else d
    | none => d) s

end Sys2Proof.Machine
end

