-- ==== Sys2Proof/Machine/Calibrate.lean ====
section
/-! DEFINITION. Calibration procedures: their requests, borrows, results and records (R521 to R558). -/

namespace Sys2Proof.Machine

/-! ### Requests (R523 to R525, R532, R534) -/

/-- The procedure that a CAL descriptor asks for; none where R523 refuses it. -/
def calRunOf (q : QDesc) : Option CalRun :=
  let kind := byteAt q.d.param 0
  let t := q.d.target
  let ref := toInt 32 (leAt q.d.param 4 4)
  if 4 < byteAt q.d.param 2 % 8 then none
  else if kind = 0 ∧ t < 192 then some { kind := 6, unit := t, chans := [t], desc := some q }
  else if kind = 1 ∧ 0x100 ≤ t ∧ t < 0x118 then
    some { kind := 7, unit := t - 0x100, chans := arbChans (t - 0x100), desc := some q }
  else if kind = 2 ∧ t < 192 ∧ -6000 ≤ ref ∧ ref ≤ 3000 then some { kind := 8, unit := t, chans := [t], desc := some q }
  else none

/-- A procedure takes its place in the engine. -/
def Dev.calAdd (d : Dev) (r : CalRun) : Dev := { d with cal := { d.cal with runs := d.cal.runs ++ [r] } }

/-- CAL (R523, R524): the target's started descriptor asks for its procedure. -/
def execCal (target : Nat) (s : State) : Host.Outcome State Fault Refusal :=
  onDev (fun _ d =>
    match d.running target 0x29 with
    | none => d
    | some q =>
      if d.cal.runs.any (fun (r : CalRun) => r.desc.any q.same) then d
      else
        match calRunOf q with
        | none => d.done q .badDescriptor
        | some r => if r.kind ≠ 7 ∧ !d.enLock r.unit then d.done q .limitRefused else d.calAdd r) s

/-- A channel may be borrowed now (R336, R429): no transaction in progress, no session, no outside field on a listener, one
free outbound place, its pavilion ACTIVE (R584, R585), and a synthesiser ACTIVE (R38). -/
def Dev.mayBorrow (d : Dev) (n : Nat) : Bool :=
  let c := d.ch n
  !d.engaged n && c.fieldOf.isNone && !c.borrowed && (d.sessionsOf n).isEmpty && !(c.role == .listen && c.lsn.field) &&
    decide (1 ≤ d.outFree n) && (d.pav (pavOf n)).state == .active && d.pwr.boot == .running && !d.pwr.safe && d.synActive

/-- A channel is borrowed (R337, R338, R444): what waits on it is set aside, and its capture stream is suspended. -/
def Dev.borrow (d : Dev) (n : Nat) : Dev :=
  (d.modCh n fun c => { c with borrowed := true, home := c.role, role := .cal, aside := c.txn, txn := none }).modCap n
    fun k => { k.gap with susBor := true }

/-- A waiting procedure borrows its channels once they are free (R336, R539); one with a coupling measurement also needs a free entry of
the device's queue (R429). -/
def Dev.calBegin (d : Dev) (r : CalRun) : Dev :=
  if r.started || !r.chans.all d.mayBorrow || (r.kind == 8 && d.on F.CAL_STAT_REF_BUSY) ||
      ((r.kind == 0 || r.kind == 7) && d.devFree == 0) then d
  else
    let d := { d with cal := { d.cal with runs := d.cal.runs.map fun (x : CalRun) =>
      if x.kind = r.kind ∧ x.unit = r.unit then { x with started := true, begun := d.tc } else x } }
    let d := d.each r.chans Dev.borrow
    d.cond (r.kind == 8) fun d => d.setOn F.CAL_STAT_REF_BUSY 0 0 true

/-- The procedure of a target: the descriptor's target, or 0x200 + p for a start-up. -/
def Dev.calAt (d : Dev) (target : Nat) : Option CalRun :=
  d.cal.runs.find? fun (r : CalRun) => match r.desc with
    | some q => q.d.target == target
    | none => 0x200 + r.unit == target

/-- CAL_BORROW_START (R336, R337, R539). -/
def execCalBorrowStart (target : Nat) (s : State) : Host.Outcome State Fault Refusal :=
  onDev (fun _ d =>
    match d.calAt target with
    | some r => d.calBegin r
    | none => d) s

/-- STARTUP_CAL_START (R532, R534): once per reset and pavilion, on every enabled channel. -/
def execStartupCalStart (pav : Fin 6) (s : State) : Host.Outcome State Fault Refusal :=
  onDev (fun _ d =>
    let p : Nat := pav
    if d.on F.CAL_CTL_STARTUP_EN && (d.pav p).state == .active && d.pwr.boot == .running && d.synActive &&
        d.fld F.PAV_VDRV_NOM p != 0 && !bitAt (d.fld F.CAL_STAT_STARTUP_DONE) p && !bitAt (d.fld F.CAL_STAT_STARTUP_RUN) p then
      let r : CalRun := { kind := 0, unit := p, chans := (pavChans p).filter d.enLock }
      ((d.setFld F.CAL_STAT_STARTUP_RUN 0 0 (setBits (d.fld F.CAL_STAT_STARTUP_RUN) p 1 1)).calAdd r).calBegin r
    else d) s

/-- SYNCAL (R32, R722). -/
def execSyncal (s : State) : Host.Outcome State Fault Refusal :=
  onDev (fun _ d =>
    match d.running 0x3FF 0x28 with
    | none => d
    | some q => if d.syn.waiters.any q.same then d else d.calTrigger (some q)) s

/-! ### The cupping report (R556, R558) -/

/-- The report of a channel lies within limits (R558). -/
def Dev.cupWithin (d : Dev) (n : Nat) : Bool :=
  decide ((d.fldI F.CH_CUP_ERR_GAIN n).natAbs ≤ d.fld F.CAL_LIMIT_GAIN) &&
    decide ((d.fldI F.CH_CUP_ERR_PHASE n).natAbs ≤ d.fld F.CAL_LIMIT_PHASE) &&
    decide (d.fld F.CAL_LIMIT_EYE ≤ d.fld F.CH_CUP_EYE_EYE n) && decide (d.fld F.CH_CUP_EYE_EVM n ≤ d.fld F.CAL_LIMIT_EVM)

/-! ### Results (R528 to R530, R535 to R538, R541 to R544) -/

/-- P_MAX from the power at full swing (R529). -/
def Dev.pMaxOf (d : Dev) (n full : Nat) : Int × Dev :=
  let p := pavOf n
  let nom := d.fld F.PAV_VDRV_NOM p
  let meas := d.fld F.PAV_VDRV_MEAS p
  if meas = 0 then
    let (x, d) := d.free
    ((x % 4096 : Nat), d)
  else d.quot (full * 81 * nom ^ 2 : Nat) (100 * meas ^ 2)

/-- The place of the largest of a list, the first of equals. -/
def topPlace (l : List Nat) : Nat := (l.zipIdx.foldl (fun (a x : Nat × Nat) => if a.1 < x.1 then x else a) (l.headD 0, 0)).2

/-- The trims that step 2 chooses by return loss: series over ±4 steps around CH_TUNE, then shunt over ±2 (R528); candidates stay in the
fields' ranges, and of equal ones the first counts (the model's choice: log entry 30). -/
def Dev.tunerPick (d : Dev) (n : Nat) (rls : List Nat) : Int × Nat :=
  (clampInt (-64) 63 (d.fldI F.CH_TUNE_SER n + topPlace (rls.take 9) - 4),
   (clampInt 0 63 ((d.fld F.CH_TUNE_SHUNT n : Int) + topPlace ((rls.drop 9).take 5) - 2)).toNat)

/-- The receive EVM in 0.1 %: the root of the error vectors' mean square over the ideal's (R556); its rounding is open (log entry 1). -/
def Dev.evmOf (d : Dev) (l : List ((Int × Int) × (Int × Int))) : Nat × Dev :=
  let e := (l.map fun x => (Cx.norm ⟨x.1.1 - x.2.1, x.1.2 - x.2.2⟩)).foldl (· + ·) 0
  let r := (l.map fun x => (Cx.norm ⟨x.2.1, x.2.2⟩)).foldl (· + ·) 0
  let v := sqrtRatio (10 ^ 6 * e) r
  let (x, d) := d.free
  (if r = 0 then x % 4096 else if v ^ 2 * r = 10 ^ 6 * e then v else v + x % 2, d)

/-- An eye opening: the smallest of the decision distances, 0 of none (R556). -/
def eyeOf (l : List Nat) : Nat := (l.min?).getD 0

/-- The quantities of a result, in the order of the channel set. -/
def calVals (f : ChCal) (pMax ph ser : Int) (shunt : Nat) : List Int :=
  [(f.ff % 65536 : Nat), (f.sense % 65536 : Nat), clampInt 0 4095 pMax, ph % 65536, ser, (shunt : Nat), f.modTrim,
   f.adcI, f.adcQ, f.pgaOfs, f.pgaSlope, (f.preemp % 8 : Nat)]

/-- The channel procedure's results of one channel take effect (R527, R528). Step 4's target is a phase of 0 (R530): the offset in force
less the phase measured. -/
def Dev.calChan (d : Dev) (f : ChCal) (proc : Nat) : Dev :=
  let n := f.ch
  let (pm, d) := d.pMaxOf n f.full
  let lvl := max 20 (d.levelLim n)
  let (ser, shunt) := d.tunerPick n f.rls
  let v := calVals f pm ((64 * d.fld F.CH_PHASE_OFS_CAL n : Nat) - d.alignedPhase n f.phase) ser shunt
  let (ph, d) := d.nearest (v.getD 3 0) 64
  let app := (List.range 12).map fun q => if q = 3 then ph % 1024 else if q = 11 then v.getD 11 0 else holdQty q (v.getD q 0)
  let d := { d with cal := { d.cal with live := tblPut d.cal.live n v, target := tblPut d.cal.target n app } }
  let d := d.each (List.range 12) fun d q => d.calPut n q (app.getD q 0)
  let d := d.setFld F.CH_MOD_SHAPE_PREEMP n 0 (f.preemp % 8)
  let d := ((d.setFld F.CH_TUNE_SER n 0 (ofInt 7 ser)).setFld F.CH_TUNE_SHUNT n 0 shunt)
  let d := (d.setFld F.CH_TUNE_CAL_SER n 0 (ofInt 7 ser)).setFld F.CH_TUNE_CAL_SHUNT n 0 shunt
  let (rg, d) := d.resGain n lvl f.power
  let (rp, d) := d.resPhase n f.phase6
  let d := (d.setFld F.CH_CUP_ERR_GAIN n 0 (ofInt 16 rg)).setFld F.CH_CUP_ERR_PHASE n 0 (ofInt 16 rp)
  let (evm, d) := d.evmOf f.evm
  let d := (d.setFld F.CH_CUP_EYE_EVM n 0 (sat 4095 evm)).blvAdoptNow n (f.blvAmp % 65536) (f.blvPh % 4096)
  (d.setFld F.CH_CAL_LAST_TEMP n 0 (d.fld F.PWR_TEMP_DIE)).setFld F.CH_CAL_LAST_PROC n 0 proc

/-- The residuals of a channel after a result (R544). -/
def Dev.calResid (d : Dev) (nv : NonVol) (n : Nat) : Dev :=
  let l := nv.sets n
  let v := tblGet d.cal.live n []
  if l.isEmpty then { d with cal := { d.cal with resid := tblDel d.cal.resid n } }
  else { d with cal := { d.cal with resid := tblPut d.cal.resid n ((List.range 11).map fun q =>
    residOf q (v.getD q 0) ((interp l (d.fldI F.PWR_TEMP_DIE) q).getD (0, 1))) } }

/-- The average envelope delay of a tap over the driven coils that couple into it by 0.05 or more: sum and count (R536). -/
def Dev.tapDelay (d : Dev) (f : ArbCal) (k : Nat) : Nat × Nat :=
  let l := f.delays.filter fun (x : Nat × Nat × Nat) => x.2.1 == k && decide (8192 ^ 2 ≤ 400 * (d.cm f.arb k x.1).norm)
  (l.foldl (fun a (x : Nat × Nat × Nat) => a + x.2.2) 0, l.length)

/-- DELAY of a tap (R536): one without a delay of its own takes a free value. -/
def Dev.putDelay (d : Dev) (f : ArbCal) (k : Nat) : Dev :=
  let all := ((List.range 8).map (d.tapDelay f)).filter fun (x : Nat × Nat) => x.2 != 0
  let own := d.tapDelay f k
  if own.2 = 0 then
    let (x, d) := d.free
    d.setFld F.ARB_CT_DT_DELAY f.arb k (x % 256)
  else
    let m := all.foldl (fun (a x : Nat × Nat) => if a.1 * x.2 < x.1 * a.2 then x else a) own
    let num : Nat := (m.1 * own.2 - own.1 * m.2) * 16
    let den := 256 * m.2 * own.2
    let (v, d) := d.nearest num den
    let d := d.setFld F.ARB_CT_DT_DELAY f.arb k (clampInt 0 255 v).toNat
    d.cond (decide (255 * den < num)) fun d => d.setOn F.CAL_STAT_DELAY_CLAMP 0 0 true

/-- THR of a tap (R537). -/
def Dev.putThr (d : Dev) (f : ArbCal) (k : Nat) : Dev :=
  if d.on F.CAL_CTL_THR_TRIM then
    let low := f.noise.foldl min (f.noise.getD 0 0)
    let (r, d) := d.nearest (f.noise.getD k 0 - low) 100
    d.setFld F.ARB_CT_DT_THR f.arb k (clampInt 6 20 (20 - r)).toNat
  else d

/-- The gains in 0.001 dB of the taps that an arbour's coupling measurement hears, by receiver (R535). -/
def Dev.allGains (d : Dev) (a : Nat) : Tbl Int :=
  (List.range 12).filterMap fun rx => (rxChan a rx).map fun m => (rx, d.pgaMilli m (d.fld F.CH_RX_AGC_GAIN_NOW m))

/-- The results of a coupling measurement take effect (R524, R535 to R537). -/
def Dev.calArb (d : Dev) (f : ArbCal) (proc : Nat) : Dev :=
  let a := f.arb
  let live := (List.range 8).filter fun k => d.enLock (8 * a + k)
  let d := d.each live fun d k =>
    let l := (f.phasors.filter fun (x : Nat × Nat × Int × Int) => x.1 == k && (match rxChan a x.2.1 with
      | some m => decide (x.2.1 < 8) || d.rxTakes m
      | none => false)).map fun (x : Nat × Nat × Int × Int) => (x.2.1, (⟨x.2.2.1, x.2.2.2⟩ : Cx))
    let (l, d) := d.entriesOf k (d.allGains a) l
    d.each l fun d x => d.each (entryRegs a k x.1) fun d y => d.entryPut y x.2
  let d := d.each live fun d k => d.colFresh a k
  let d := d.each (List.range 8) fun d k => (d.putDelay f k).putThr f k
  d.each live fun d k =>
    let n := 8 * a + k
    ((d.setFld F.CH_CUP_EYE_EYE n 0 (sat 255 (eyeOf (f.eyes.getD k [])))).setFld F.CH_CAL_LAST_TEMP n 0 (d.fld F.PWR_TEMP_DIE)).setFld
      F.CH_CAL_LAST_PROC n 0 proc

/-- The ADC full scale of a channel at a gain of 0 dB, in 0.01 dBm (R538). -/
def Dev.adcFull (d : Dev) (n : Nat) : Int :=
  match tblFind d.cal.ref n with
  | some l => l.getD 1 0
  | none => Config.adcFullDbm n

/-- The results of a reference calibration take effect (R538): the stated level less the level over full scale is the full scale; the eye
stands against the coupon's known depth. -/
def Dev.calRef (d : Dev) (n : Nat) (stated : Int) (f : RefCal) : Dev :=
  let coupon := d.on F.CAL_REF_CTL_COUPON
  let (fs, d) := d.quot (stated - f.rel.getD 0) 10
  let (eye, d) := d.quot (100 * eyeOf f.eye : Nat) (d.fld F.CAL_REF_CTL_DEPTH)
  let eye := if coupon then sat 255 eye.toNat else 0
  let v : List Int := [stated, fs, (f.scale : Nat), (b2n coupon : Nat), (eye : Nat)]
  let d := { d with cal := { d.cal with ref := tblPut d.cal.ref n v } }
  let d := d.cond coupon fun d => d.setFld F.CH_CUP_EYE_EYE n 0 eye
  (d.setFld F.CH_CAL_LAST_TEMP n 0 (d.fld F.PWR_TEMP_DIE)).setFld F.CH_CAL_LAST_PROC n 0 8

/-! ### Stores (R541, R542, R551 to R554) -/

/-- The payload of a channel set (R552). -/
def Dev.setPayload (d : Dev) (n : Nat) : List Byte :=
  let v (q : Nat) : Int := (tblGet d.cal.live n []).getD q 0
  toLe 2 (v 0).toNat ++ toLe 2 (v 1).toNat ++ toLe 2 (v 2).toNat ++ toLe 2 (v 3).toNat ++ toLe 1 (ofInt 7 (v 4)) ++
    toLe 1 (ofInt 6 (v 5)) ++ toLe 1 (ofInt 8 (v 6)) ++ toLe 1 (v 11).toNat ++ toLe 2 (ofInt 16 (v 7)) ++ toLe 2 (ofInt 16 (v 8)) ++
    toLe 1 (ofInt 8 (v 9)) ++ toLe 1 (ofInt 8 (v 10)) ++ toLe 2 (d.fld F.CH_CUP_ERR_GAIN n) ++ toLe 2 (d.fld F.CH_CUP_ERR_PHASE n) ++
    toLe 1 (d.fld F.CH_CUP_EYE_EYE n) ++ toLe 1 (sat 255 (d.fld F.CH_CUP_EYE_EVM n)) ++ List.replicate 12 0

/-- The payload of a reference record (R553). -/
def Dev.refPayload (d : Dev) (n : Nat) : List Byte :=
  let v (q : Nat) : Int := (tblGet d.cal.ref n []).getD q 0
  toLe 4 (ofInt 32 (v 0)) ++ toLe 2 (ofInt 16 (v 1)) ++ toLe 2 (v 2).toNat ++ toLe 1 (v 3).toNat ++ toLe 1 (v 4).toNat ++
    List.replicate 26 0

/-- The payload of an arbour record (R553). -/
def Dev.arbPayload (d : Dev) (a : Nat) : List Byte :=
  ((List.range 64).flatMap fun j => toLe 4 (d.rd .ARB_CM a j)) ++ ((List.range 8).flatMap fun j => toLe 4 (d.rd .ARB_SEAM_LO a j)) ++
    ((List.range 8).flatMap fun j => toLe 4 (d.rd .ARB_SEAM_HI a j)) ++
    ((List.range 8).flatMap fun k => toLe 1 (d.fld F.ARB_CT_DT_DELAY a k)) ++
    ((List.range 8).flatMap fun k => toLe 1 (d.fld F.ARB_CT_DT_THR a k)) ++ List.replicate 4 0

/-- Write a record of the present results (R551). -/
def Dev.store (d : Dev) (nv : NonVol) (ty owner ix : Nat) (payload : List Byte) : NonVol :=
  let key := recKey ty owner ix
  nv.putRecord key (recBytes ty ix owner (nv.nextGen key) (d.fld F.PWR_TEMP_DIE) (if d.locked then d.now else 0) payload)

/-- A set stored within 3.0 °C of another invalidates that other (R542). -/
def Dev.storeSet (d : Dev) (nv : NonVol) (n ix : Nat) : NonVol :=
  let t := d.fldI F.PWR_TEMP_DIE
  let near := (nv.sets n).filter fun (x : Nat × Int × List Int) => x.1 != ix && decide ((x.2.1 - t).natAbs ≤ 12)
  d.store { nv with calRec := near.foldl (fun m (x : Nat × Int × List Int) => tblDel m (recKey 1 n x.1)) nv.calRec } 1 n ix (d.setPayload n)

/-- A descriptor's STORE (R541, R558): withheld outside limits. -/
def Dev.calStore (d : Dev) (nv : NonVol) (r : CalRun) (within : Bool) : NonVol × Dev :=
  match r.desc with
  | none => (nv, d)
  | some q =>
    if !bitAt (byteAt q.d.param 1) 0 then (nv, d)
    else if !within then (nv, d.setOn F.CAL_STAT_STORE_SKIPPED 0 0 true)
    else if r.kind = 6 then (d.storeSet nv r.unit (byteAt q.d.param 2 % 8), d)
    else if r.kind = 7 then (d.store nv 3 r.unit 0 (d.arbPayload r.unit), d)
    else (d.store nv 2 r.unit 0 (d.refPayload r.unit), d)

/-! ### The end of a procedure (R526, R527, R540) -/

/-- CALREF is absent or off its stated level by more than 3 dB (R540). -/
def Dev.refBad (d : Dev) (n : Nat) (stated : Int) (f : RefCal) : Bool :=
  match f.rel with
  | none => true
  | some x => decide (3000 < (10 * d.adcFull n + x - stated).natAbs)

/-- All results of a procedure take effect in one step (R527). -/
def Dev.calApply (d : Dev) (r : CalRun) (f : CalFacts) : Dev :=
  match r.kind with
  | 8 =>
    match r.desc with
    | some q => d.calRef r.unit (toInt 32 (leAt q.d.param 4 4)) f.ref
    | none => d
  | 7 => d.each (f.arbs.filter fun (x : ArbCal) => x.arb == r.unit) fun d x => d.calArb x 7
  | _ =>
    let d := d.each (f.chans.filter fun (x : ChCal) => r.chans.contains x.ch) fun d x => d.calChan x (if r.kind = 0 then r.unit else 6)
    if r.kind = 0 then d.each (f.arbs.filter fun (x : ArbCal) => x.arb / 4 == r.unit) fun d x => d.calArb x r.unit else d

/-- The channels that a procedure calibrated, whose reports CAL_DONE judges (R558). -/
def Dev.calJudged (d : Dev) (r : CalRun) : List Nat := r.chans.filter d.enLock

/-- A procedure runs to its end (R527). After one that probes no baseline itself the next sweep's probe sets it (R285). -/
def Dev.calFinish (d : Dev) (nv : NonVol) (r : CalRun) (f : CalFacts) : NonVol × Dev :=
  let d := d.calApply r f
  let within := (d.calJudged r).all d.cupWithin
  let s := d.calStore nv r within
  let d := s.2
  let d := if r.kind = 0 ∨ r.kind = 6 then d.each r.chans fun d n => d.calResid s.1 n
    else d.each r.chans fun d n => d.modCh n fun c => { c with blvBase := false }
  let d := (d.calLeave r).calDone r within
  let d := match r.desc with
    | some q => d.done q .ok
    | none => d
  (s.1, (d.each r.chans Dev.launch).retryAll)

/-- The time that a procedure takes from the start of its borrow while every permission holds, in Tc (R521): a reference calibration with
the coupon, or without. -/
def calTc (kind : Nat) (coupon : Bool) : Nat :=
  match kind with
  | 0 => usTc 38000
  | 6 => usTc 2500
  | 7 => usTc 1800
  | _ => usTc (if coupon then 6000 else 4000)

/-- CAL_PROCEDURE_END (R521, R526, R527, R540): what the procedure of a target found, at the end of its time. It waits for its fields: each
has been raised and has ended. A CALREF that is bad ends it after step 1. -/
def execCalProcedureEnd (target : Nat) (f : CalFacts) (s : State) : Host.Outcome State Fault Refusal :=
  onBoth (fun nv d =>
    match d.calAt target with
    | none => (nv, d)
    | some r =>
      if !r.started || !r.chans.all (d.calRaised r) || r.chans.any d.inProgress then (nv, d)
      else
        let bad : Bool := r.kind == 8 && r.desc.any fun q => d.refBad r.unit (toInt 32 (leAt q.d.param 4 4)) f.ref
        if bad then
          (nv, ((((d.runTo (r.begun + usTc 1500)).setOn F.CAL_STAT_REF_BAD 0 0 true).calAbort r.unit .faultAbort).launch r.unit).retry
            (pavOf r.unit))
        else (d.runTo (r.begun + calTc r.kind (d.on F.CAL_REF_CTL_COUPON))).calFinish nv r f) s

end Sys2Proof.Machine
end

