-- ==== Sys2Proof/Machine/Flash.lean ====
section
/-! DEFINITION. The flash port: operations of FLS_CTL, of the execute-in-place window and of the mirror (R555, R640 to R648). -/

namespace Sys2Proof.Machine

/-- Change the flash port. -/
def Dev.modFlash (d : Dev) (f : Flash → Flash) : Dev := { d with flash := f d.flash }

/-- The byte ranges of a manifest's slot that a running image needs: the manifest and its sections (R488, R489, R645). -/
def imageRanges (slot : Nat) (m : List Byte) : List (Nat × Nat) :=
  let base := if slot = 0 then 0 else 0x1000000
  (base, 3400) :: (List.range 4).filterMap fun i =>
    let e := (m.drop (1864 + 64 * i)).take 64
    if byteAt e 0 = 0xFF then none else some (base + leAt e 4 4, leAt e 8 4)

/-- The bytes that an operation changes (R643). -/
def FlashOp.span (f : FlashOp) : Nat × Nat :=
  match f.op with
  | 2 => (f.addr, f.len)
  | 3 => (f.addr, 0x1000)
  | 4 => (f.addr, 0x10000)
  | 7 => (f.addr, f.len)
  | _ => (0, 0)

/-- The operation touches the image that runs (R645). -/
def Dev.flsProtected (d : Dev) (f : FlashOp) : Bool :=
  f.cs == 0 &&
    (f.op == 5 || (d.fld F.SEC_BOOT_STATE == 2 && (imageRanges (d.fld F.SEC_BOOT_SLOT) d.sec.manifest).any fun (r : Nat × Nat) =>
      decide (f.span.2 ≠ 0) && decide (f.span.1 < r.1 + r.2) && decide (r.1 < f.span.1 + f.span.2)))

/-- The operation is refused before it reaches the flash (R646). A LEN outside its range, which the register does not take (R648), still
refuses the OP written with it (log entry 51). -/
def Dev.flsRefused (d : Dev) (f : FlashOp) : Bool :=
  !d.on F.FLS_CS_CFG_PRESENT 0 f.cs || !(decide (1 ≤ f.len) && decide (f.len ≤ 256)) ||
    (match f.op with
     | 2 => f.addr / 256 != (f.addr + f.len - 1) / 256
     | 3 => f.addr % 0x1000 != 0
     | 4 => f.addr % 0x10000 != 0
     | _ => false)

/-- An error of the port with its cause (R643, R645). -/
def Dev.flsErr (d : Dev) (cause : Nat) : Dev := (d.setOn F.FLS_STAT_ERR 0 0 true).setFld F.FLS_STAT_CAUSE 0 0 cause

/-- An operation of FLS_CTL has ended (R646): its cause, 0 none. -/
def Dev.flsEnd (d : Dev) (cause : Nat) : Dev :=
  let d := ((d.setOn F.FLS_STAT_BUSY 0 0 false).setOn F.FLS_STAT_DONE 0 0 true).setFld F.FLS_STAT_CAUSE 0 0 cause
  (d.cond (cause != 0) fun d => d.setOn F.FLS_STAT_ERR 0 0 true).setMisc 6

/-- A command as the table of R640 lays it on the wires: the address bytes that a chip takes, high byte first, the cycles between
address and data, and the lanes of both. -/
def Dev.flsCmd (d : Dev) (cs cmd addr : Nat) (data : List Byte) : Dev :=
  let n := if [0x0B, 0x6B, 0xEB, 0x02, 0x32, 0x20, 0xD8].contains cmd then (if d.on F.FLS_CS_CFG_ADDR4 0 cs then 4 else 3) else 0
  let cycles := if cmd = 0x0B ∨ cmd = 0x6B then 8 else if cmd = 0xEB then 6 else 0
  let lanes := if cmd = 0xEB then (4, 4) else if cmd = 0x6B ∨ cmd = 0x32 then (1, 4) else (1, 1)
  d.emit (.flash cs cmd (toLe n addr).reverse cycles lanes data)

/-- 4-byte address mode is entered before the first access to a chip that uses it (R640). -/
def Dev.flsFour (d : Dev) (cs : Nat) : Dev :=
  if d.on F.FLS_CS_CFG_ADDR4 0 cs && !d.flash.four.contains cs then
    (d.modFlash fun x => { x with four := x.four ++ [cs] }).flsCmd cs 0xB7 0 []
  else d

/-- The read opcode of a chip (R640). -/
def Dev.flsReadOp (d : Dev) (cs : Nat) : Nat := [0x0B, 0x6B, 0xEB].getD (d.fld F.FLS_CS_CFG_READ 0 cs) 0x0B

/-- What an operation sends to the flash, all of it at its start (R640, R643; log entry 51); an export is one program for each page of the mirror, which starts on a
4 KiB boundary (R555). -/
def Dev.flsSend (d : Dev) (f : FlashOp) : Dev :=
  let d := d.flsFour f.cs
  let change (d : Dev) (cmd addr : Nat) (data : List Byte) : Dev :=
    ((d.flsCmd f.cs 0x05 0 []).flsCmd f.cs 0x06 0 []).flsCmd f.cs cmd addr data
  let prog := if d.fld F.FLS_CS_CFG_READ 0 f.cs = 0 then 0x02 else 0x32
  match f.op with
  | 0 | 1 => d.flsCmd f.cs (d.flsReadOp f.cs) f.addr (List.replicate f.len 0)
  | 2 => change d prog f.addr f.data
  | 3 => change d 0x20 f.addr []
  | 4 => change d 0xD8 f.addr []
  | 5 => change d 0xC7 0 []
  | 7 => d.each (List.range ((f.len + 255) / 256)) fun d k => change d prog (f.addr + 256 * k) (slice f.data (256 * k) 256)
  | 8 => d.flsCmd f.cs (d.flsReadOp f.cs) f.addr []
  | _ => d.flsCmd f.cs 0x9F 0 []

/-- An operation takes the port. -/
def Dev.flsTake (d : Dev) (f : FlashOp) : Dev := (d.modFlash fun x => { x with run := some { f with at_ := d.tc } }).flsSend f

/-- A read of the window, which its command sends and ends. -/
def FlashOp.isXipRead (f : FlashOp) : Bool := f.xip && f.op == 0

/-- The operation reads a chip's bytes: a read of the window, READ of FLS_CTL, or an import (R640, R644). -/
def FlashOp.isRead (f : FlashOp) : Bool := f.op == 0 || f.op == 1 || f.op == 8

/-- The operation on the port is a program or erase that a waiting read suspends (R644). -/
def Dev.flsSuspends (d : Dev) (g f : FlashOp) : Bool :=
  f.isRead && [2, 3, 4, 5, 7].contains g.op && d.on F.FLS_CS_CFG_SUSPEND 0 g.cs

/-- An operation takes the port, or waits for it; a read is served while a chip that may be suspended programs or erases, which
resumes after it (R644). -/
def Dev.flsStart (d : Dev) (f : FlashOp) : Dev :=
  match d.flash.run with
  | none => if f.isXipRead then d.flsSend f else d.flsTake f
  | some g =>
    if d.flsSuspends g f then
      if f.isXipRead then ((d.flsCmd g.cs 0x75 0 []).flsSend f).flsCmd g.cs 0x7A 0 []
      else ((d.flsCmd g.cs 0x75 0 []).modFlash fun x => { x with susp := some g }).flsTake f
    else d.modFlash fun x => { x with wait := x.wait ++ [f] }

/-- The port is free: waiting reads of the window are served, then the operation of FLS_CTL, then that of the mirror (R644), then
programs of the window, which that rule does not place (log entry 67). A suspended operation resumes before any of these three but a
waiting read. -/
def Dev.flsNext (d : Dev) : Dev :=
  let w := d.flash.wait
  let ops := (w.filter fun f => !f.xip && decide (f.op < 7)) ++ (w.filter fun f => !f.xip && decide (7 ≤ f.op)) ++
    (w.filter fun f => f.xip && !f.isXipRead)
  let d := d.modFlash fun x => { x with run := none, wait := ops }
  let d := d.each (w.filter FlashOp.isXipRead) Dev.flsSend
  match d.flash.susp, (if d.flash.susp.isSome then ops.find? FlashOp.isRead else ops.head?) with
  | _, some f => (d.modFlash fun x => { x with wait := ops.erase f }).flsTake f
  | some g, none => (d.modFlash fun x => { x with run := some g, susp := none }).flsCmd g.cs 0x7A 0 []
  | none, none => d

/-- The bytes of FLS_BUF. -/
def Dev.flsBytes (d : Dev) (n : Nat) : List Byte := ((List.range 64).flatMap fun j => toLe 4 (d.rd .FLS_BUF 0 j)).take n

/-- Put bytes at the start of FLS_BUF. -/
def Dev.flsPut (d : Dev) (l : List Byte) : Dev :=
  let b := overwrite (d.flsBytes 256) 0 l
  d.each (List.range 64) fun d j => d.wr .FLS_BUF 0 j (leAt b (4 * j) 4)

/-- A write of FLS_CTL (R645, R646). -/
def Dev.flsCtlWrite (d : Dev) (nv : NonVol) (v : Nat) : Dev :=
  if d.on F.FLS_STAT_BUSY then d
  else
    let d := d.plainWrite nv .FLS_CTL 0 0 v
    let op := bits v 0 4
    if op = 0 ∨ 6 < op then d
    else
      let len := bits v 16 9
      let f : FlashOp := { op := op, cs := d.fld F.FLS_CTL_CS, addr := d.rd .FLS_ADDR, len := len,
                           data := if op = 2 then d.flsBytes len else [] }
      if d.flsRefused f then d.flsEnd 2
      else if d.flsProtected f then d.flsEnd 1
      else ((d.setOn F.FLS_STAT_BUSY 0 0 true).setFld F.FLS_STAT_CAUSE 0 0 0).flsStart f

/-- A write of FLS_ADDR or FLS_BUF: discarded while BUSY (R646). -/
def Dev.flsHeldWrite (d : Dev) (nv : NonVol) (r : RegName) (j v : Nat) : Dev :=
  if d.on F.FLS_STAT_BUSY then d else d.plainWrite nv r 0 j v

/-- A write of FLS_CS_CFG: chip select 0 keeps its address mode, and its read setting follows the manifest (R641, R648). -/
def Dev.flsCfgWrite (d : Dev) (nv : NonVol) (c v : Nat) : Dev :=
  let cur := d.rd .FLS_CS_CFG 0 c
  d.plainWrite nv .FLS_CS_CFG 0 c (if c = 0 then setBits (setBits v 1 3 (bits cur 1 3)) 8 7 (bits cur 8 7) else v)

/-! ### The mirror (R555) -/

/-- The bytes of the mirror: header and the valid copy of every record. -/
def NonVol.mirrorBytes (nv : NonVol) : List Byte :=
  let l := nv.calRec.filterMap fun (e : Nat × List Byte × List Byte) => recBest e.2
  let h := toLe 4 0x524D4C43 ++ toLe 4 0 ++ toLe 8 nv.serial ++ toLe 4 l.length ++ toLe 8 0
  h ++ toLe 4 (crc32c h) ++ l.flatten

/-- A write of CAL_MIRROR_CTL starts an operation unless one runs; an export onto a running image is refused (R555, R645). -/
def Dev.mirrorWrite (d : Dev) (nv : NonVol) (v : Nat) : Dev :=
  if d.on F.CAL_MIRROR_CTL_BUSY then d.plainWrite nv .CAL_MIRROR_CTL 0 0 v
  else
    let d := d.plainWrite nv .CAL_MIRROR_CTL 0 0 v
    let data := if bitAt v 0 then nv.mirrorBytes else []
    let f : FlashOp := { op := if bitAt v 0 then 7 else 8, cs := d.fld F.CAL_MIRROR_CTL_CS,
                         addr := 4096 * d.fld F.CAL_MIRROR_ADDR_ADDR, len := data.length, data := data }
    if !bitAt v 0 && !bitAt v 1 then d
    else if d.flsProtected f then (d.flsErr 1).setOn F.CAL_MIRROR_CTL_ERR 0 0 true
    else (d.setOn F.CAL_MIRROR_CTL_BUSY 0 0 true).flsStart f

/-- Records laid end to end, by their length fields. -/
def splitRecords : Nat → List Byte → List (List Byte)
  | 0, _ => []
  | k + 1, l =>
    let n := leAt l 6 2
    if n = 0 ∨ l.length < n then [] else l.take n :: splitRecords k (l.drop n)

/-- The key of a record by its header, where it names a record that exists (R551). -/
def recOwnKey (l : List Byte) : Option Nat :=
  let ty := leAt l 2 1
  let ix := leAt l 3 1
  let owner := leAt l 4 2
  if (ty = 1 ∧ ix < 5 ∧ owner < 192 ∧ l.length = 64) ∨ (ty = 2 ∧ ix = 0 ∧ owner < 192 ∧ l.length = 64) ∨
      (ty = 3 ∧ ix = 0 ∧ owner < 24 ∧ l.length = 368) then some (recKey ty owner ix) else none

/-- An import takes each record that is newer than the NVM's, or missing there (R555). -/
def NonVol.importRec (nv : NonVol) (l : List Byte) : NonVol :=
  match recOwnKey l with
  | none => nv
  | some key =>
    if !recOk l then nv
    else match nv.record key with
      | none => nv.putRecord key l
      | some old => if leAt old 8 4 < leAt l 8 4 then nv.putRecord key l else nv

/-- The mirror's header is whole and names this device (R555). -/
def NonVol.mirrorOk (nv : NonVol) (l : List Byte) : Bool :=
  decide (32 ≤ l.length) && leAt l 0 4 == 0x524D4C43 && leAt l 28 4 == crc32c (l.take 28) && leAt l 8 8 == nv.serial

/-! ### Meanings -/

/-- A write of FLS_CTL that carries an OP. -/
def flsOp (op : Nat) (v : Word) (s : State) : Host.Outcome State Fault Refusal :=
  onDev (fun nv d => d.flsCtlWrite nv (setBits v.toNat 0 4 op)) s

/-- FLS_READ (R646). -/
def execFlsRead (v : Word) (s : State) : Host.Outcome State Fault Refusal := flsOp 1 v s
/-- FLS_PROGRAM (R643). -/
def execFlsProgram (v : Word) (s : State) : Host.Outcome State Fault Refusal := flsOp 2 v s
/-- FLS_ERASE_4K (R643). -/
def execFlsErase4k (v : Word) (s : State) : Host.Outcome State Fault Refusal := flsOp 3 v s
/-- FLS_ERASE_64K (R643). -/
def execFlsErase64k (v : Word) (s : State) : Host.Outcome State Fault Refusal := flsOp 4 v s
/-- FLS_ERASE_CHIP (R645). -/
def execFlsEraseChip (v : Word) (s : State) : Host.Outcome State Fault Refusal := flsOp 5 v s
/-- FLS_READ_ID (R646). -/
def execFlsReadId (v : Word) (s : State) : Host.Outcome State Fault Refusal := flsOp 6 v s

/-- FLASH_OP_DONE (R643, R646): the last status value read, and the data of a read. -/
def execFlashOpDone (status : Fin 256) (data : List Byte) (s : State) : Host.Outcome State Fault Refusal :=
  onDev (fun _ d =>
    match d.flash.run with
    | none => d
    | some f =>
      if 7 ≤ f.op then d else
      let d := if [2, 3, 4, 5].contains f.op then d.setFld F.FLS_STAT_STATUS_REG 0 0 status
        else if f.op = 1 then d.flsPut (padTo f.len data)
        else if f.op = 6 then d.flsPut (padTo 3 data)
        else d
      (if f.xip then d else d.flsEnd 0).flsNext) s

/-- The limit of FLS_TMO for a program or erase, in carrier cycles; for an operation without one, none (R643). -/
def Dev.flsLimit (d : Dev) (op : Nat) : Option Nat :=
  match op with
  | 2 => some (d.fld F.FLS_TMO_PROG * tcMs)
  | 3 => some (d.fld F.FLS_TMO_SECTOR * 10 * tcMs)
  | 4 => some (d.fld F.FLS_TMO_BLOCK * 100 * tcMs)
  | 5 => some (d.fld F.FLS_TMO_CHIP * 10000 * tcMs)
  | _ => none

/-- FLASH_OP_TIMEOUT (R643): the limit of the program or erase on the port has run out since it took the port. -/
def execFlashOpTimeout (s : State) : Host.Outcome State Fault Refusal :=
  onDev (fun _ d =>
    match d.flash.run with
    | none => d
    | some f =>
      match d.flsLimit f.op with
      | none => d
      | some n =>
        let d := d.runTo (f.at_ + n)
        (if f.xip then d.flsErr 3 else d.flsEnd 3).flsNext) s

/-- XIP_READ (R642, R644): an offset in the window and a length. -/
def execXipRead (ofs len : Nat) (s : State) : Host.Outcome State Fault Refusal :=
  onDev (fun _ d => d.flsStart { op := 0, cs := d.fld F.FLS_XIP_CS, addr := ofs % 2 ^ 26, len := len, xip := true }) s

/-- XIP_WRITE (R642, R643, R645): a program of 1 to 256 bytes within one page. -/
def execXipWrite (ofs : Nat) (data : List Byte) (s : State) : Host.Outcome State Fault Refusal :=
  onDev (fun _ d =>
    let a := ofs % 2 ^ 26
    let l := data.take (256 - a % 256)
    let f : FlashOp := { op := 2, cs := d.fld F.FLS_XIP_CS, addr := a, len := l.length, data := l, xip := true }
    if l = [] then d
    else if d.flsProtected f then d.flsErr 1
    else d.flsStart f) s

/-- MIRROR_EXPORT (R555). -/
def execMirrorExport (s : State) : Host.Outcome State Fault Refusal :=
  onDev (fun nv d => d.mirrorWrite nv (16 * d.fld F.CAL_MIRROR_CTL_CS + 1)) s

/-- MIRROR_IMPORT (R555). -/
def execMirrorImport (s : State) : Host.Outcome State Fault Refusal :=
  onDev (fun nv d => d.mirrorWrite nv (16 * d.fld F.CAL_MIRROR_CTL_CS + 2)) s

/-- MIRROR_DONE (R555, R643): of the mirror operation that has the port: whether the flash answered in time, the last status that an
export read, and the bytes that an import read. -/
def execMirrorDone (ok : Bool) (status : Fin 256) (image : List Byte) (s : State) : Host.Outcome State Fault Refusal :=
  onBoth (fun nv d =>
    match d.flash.run with
    | none => (nv, d)
    | some f =>
      if f.op < 7 then (nv, d)
      else
        let imp : Bool := f.op == 8
        let good := ok && (!imp || nv.mirrorOk image)
        let nv := if imp && good then (splitRecords (leAt image 16 4) (image.drop 32)).foldl NonVol.importRec nv else nv
        let d := d.cond (!imp) fun d => (d.setFld F.FLS_STAT_STATUS_REG 0 0 status).cond (!ok) fun d => d.flsErr 3
        let d := (d.setOn F.CAL_MIRROR_CTL_BUSY 0 0 false).cond (!good) fun d => d.setOn F.CAL_MIRROR_CTL_ERR 0 0 true
        (nv, d.flsNext)) s

end Sys2Proof.Machine
end

