-- ==== Sys2Proof/Machine/Pcie.lean ====
section
/-! DEFINITION. The PCI Express function as configuration space presents it, and accesses to configuration space (R379 to R384). The manual
names the capabilities; the layout of their registers is the PCI Express Base Specification's (log entry 69). -/

namespace Sys2Proof.Machine

/-- The capabilities of the function (R380): it has no others, no I/O space, no ATS, no SR-IOV and no Function Level Reset. -/
inductive PcieCap where
  | powerManagement | msix | pcie | errorReporting | serialNumber
deriving DecidableEq, Repr

/-- What configuration space presents of the function: fixed identifiers, the subsystem's from NVM, its serial number, its capabilities,
and the BARs with their sizes (R379 to R381). A BAR: its number, its size, whether it is 64 bits wide and prefetchable. -/
structure PcieFn where
  vendor : Nat := 0x1F3D
  device : Nat := 0x0192
  rev    : Nat := 0xB0
  cls    : Nat := 0x118000
  subVen : Nat
  subId  : Nat
  serial : Nat
  caps   : List PcieCap := [.powerManagement, .msix, .pcie, .errorReporting, .serialNumber]
  bars   : List (Nat × Nat × Bool × Bool) := [(0, 0x100000, true, false), (2, 0x40000, true, false), (4, 0x2000, true, false)]
deriving DecidableEq, Repr

/-- The function as configuration space presents it (R379 to R381). -/
def NonVol.pcieFn (nv : NonVol) : PcieFn :=
  { subVen := nv.subsys % 65536, subId := nv.subsys / 65536 % 65536, serial := nv.serial }

/-- The Max_Payload_Size field of Device Control and the like: 128 bytes is code 0. -/
def payCode (mps : Nat) : Nat := Nat.log2 mps - 7

/-- The type of a base address register in its low bits, 64-bit or prefetchable; its upper half has none. -/
def PcieFn.barType (f : PcieFn) (k : Nat) : Nat :=
  match f.bars.find? fun (b : Nat × Nat × Bool × Bool) => b.1 == k with
  | some b => 4 * b2n b.2.2.1 + 8 * b2n b.2.2.2
  | none => 0

/-- The address bits that a base address register holds: those above its size. -/
def PcieFn.barHold (f : PcieFn) (k v : Nat) : Nat :=
  match f.bars.find? fun (b : Nat × Nat × Bool × Bool) => b.1 == k with
  | some b => v / b.2.1 * b.2.1
  | none => if k < 6 then v else 0

/-- A read of a word of configuration space (R379 to R383). -/
def Dev.cfgRead (d : Dev) (nv : NonVol) (a : Nat) : Nat :=
  let f := nv.pcieFn
  let x := d.host.pcie
  let o := a % 4096
  match a / 4096 with
  | 0 =>
    if o = 0 then f.vendor + 2 ^ 16 * f.device
    else if o = 4 then 4 * b2n d.host.busMaster + 2 ^ 20
    else if o = 8 then f.rev + 2 ^ 8 * f.cls
    else if 0x10 ≤ o ∧ o < 0x28 then tblGet x.bars ((o - 0x10) / 4) 0 + f.barType ((o - 0x10) / 4)
    else if o = 0x2C then f.subVen + 2 ^ 16 * f.subId else 0
  | 1 => if o = 0 then 0x30001 else if o = 4 then x.power else 0
  | 2 => if o = 0 then 0x11 + 2 ^ 16 * 71 + 2 ^ 31 * b2n d.host.msixEn else if o = 4 then 4 else if o = 8 then 0x1004 else 0
  | 3 =>
    if o = 0 then 0x20010
    else if o = 4 then payCode 512
    else if o = 8 then x.devCtl + 2 ^ 5 * payCode (max 128 d.host.mps) + 2 ^ 16 * x.devSta
    else if o = 0xC then 4 + 2 ^ 4 * 4
    else if o = 0x10 then 2 ^ 16 * (d.fld F.HIF_LINK_SPEED + 2 ^ 4 * d.fld F.HIF_LINK_WIDTH) else 0
  | 4 =>
    if o = 0 then 0x20001 else if o = 4 then x.uncSta else if o = 8 then x.uncMask else if o = 0xC then x.uncSev
    else if o = 0x10 then x.corSta else if o = 0x14 then x.corMask else 0
  | 5 => if o = 0 then 0x10003 else if o = 4 then f.serial % 2 ^ 32 else if o = 8 then f.serial / 2 ^ 32 else 0
  | _ => 0

/-- The function's capability registers after a write of a word of configuration space. Bus Master Enable, the MSI-X enable and
Max_Payload_Size have commands of their own. -/
def PcieRegs.write (x : PcieRegs) (f : PcieFn) (a v : Nat) : PcieRegs :=
  let o := a % 4096
  match a / 4096 with
  | 0 => if 0x10 ≤ o ∧ o < 0x28 then { x with bars := tblPut x.bars ((o - 0x10) / 4) (f.barHold ((o - 0x10) / 4) v) } else x
  | 1 => if o = 4 ∧ (v % 4 = 0 ∨ v % 4 = 3) then { x with power := v % 4 } else x
  | 3 =>
    if o = 8 then { x with devCtl := setBits (v % 2 ^ 15) 5 3 0, devSta := x.devSta &&& (15 - v / 2 ^ 16 % 16) } else x
  | 4 =>
    if o = 4 then { x with uncSta := x.uncSta &&& (2 ^ 32 - 1 - v) }
    else if o = 8 then { x with uncMask := v }
    else if o = 0xC then { x with uncSev := v }
    else if o = 0x10 then { x with corSta := x.corSta &&& (2 ^ 32 - 1 - v) }
    else if o = 0x14 then { x with corMask := v } else x
  | _ => x

/-- A write of a word of configuration space (R380, R383): back in D0 the device makes requests again. -/
def Dev.cfgWrite (d : Dev) (nv : NonVol) (a v : Nat) : Dev :=
  let was := d.mayReq
  let d := { d with host := { d.host with pcie := d.host.pcie.write nv.pcieFn a v } }
  if !was && d.mayReq then d.reqResume else d

end Sys2Proof.Machine
end

