-- ==== Sys2Proof/Machine/Pins.lean ====
section
/-! DEFINITION. Pins: the levels that follow from the state (R89, R319, R374, R471, R614 to R617) and the balls where they lie
(R607 to R612). A pin that a command names (a port's frame, an input's edge) is that command's. -/

namespace Sys2Proof.Machine

/-! ### Levels -/

/-- Configuration-ready has been reached: before it, and in reset and SLEEP, every pin is in its Reset or Unpowered column (R615). -/
def Dev.pinsLive (d : Dev) : Bool := d.pwr.boot == .loading || d.pwr.boot == .running

/-- The parking load lies across the channel's TX pins: whenever no field of it is up (R89, R617). -/
def Dev.parked (d : Dev) (n : Nat) : Bool := !d.pinsLive || (d.ch n).parking || !d.coilOn n

/-- The trims that the tuner switches connect, none while they are open: below the VDRV warning and in the safe state too (R614,
R616). -/
def Dev.tunerPins (d : Dev) (n : Nat) : Option (Int × Nat) :=
  if d.pinsLive && !d.pwr.safe && !(d.pav (pavOf n)).dip && (d.coilOn n || (d.ch n).role == .listen && !(d.ch n).borrowed) then
    some (d.fldI F.CH_TUNE_SER n, d.fld F.CH_TUNE_SHUNT n)
  else none

/-- The grant wave stands on GRANT and GRANTB of an arbour; else, and while its pavilion is not ACTIVE, both are low (R471, R614). -/
def Dev.grantWave (d : Dev) (a : Nat) : Bool := d.pinsLive && !d.pwr.safe && (d.pav (a / 4)).state == .active && (d.arb a).grant

/-- The levels of GRANT and GRANTB of an arbour (R471): a 10 kHz square wave and its complement, 50 µs or 678 Tc each half, high first
(R710), and both low outside a grant. -/
def Dev.grantPins (d : Dev) (a : Nat) : Bool × Bool :=
  let hi : Bool := (d.tc - (d.arb a).grantAt) / 678 % 2 == 0
  if d.grantWave a then (hi, !hi) else (false, false)

/-- COEX_REQ_Pn (R370, R614). -/
def Dev.coexReqPin (d : Dev) (p : Nat) : Bool := d.pinsLive && !d.pwr.safe && (d.pav p).req

/-- COEX_PRI (R374, R614). -/
def Dev.coexPriPin (d : Dev) : Bool := d.pinsLive && !d.pwr.safe && d.coexPri

/-- The drive of a coil by the transaction in progress that uses it. -/
def Dev.drivenNow (d : Dev) (n : Nat) : Option Driven :=
  ((arbChans (arbOf n)).filterMap fun m =>
    match (d.ch m).txn with
    | some t => if t.phase = .waiting then none else t.driven.find? fun k => k.ch == n
    | none => none).head?

/-- Chain A enables the driver: a transaction in progress drives the coil, which has not been cut hard and is not isolated (R85, R90,
R566). -/
def Dev.chainA (d : Dev) (n : Nat) : Bool := (d.drivenNow n).any (fun k => !k.hard) && !d.isolated n

/-- Chain B allows the driver: none of its causes, and no mismatch of a chain's read-back (R90, R91). -/
def Dev.chainB (d : Dev) (n : Nat) : Bool := d.bCause n == 0 && !d.on F.CH_FEN_STAT_CHAIN_FAULT n

/-- The harvest switch of CH000 is open, in a powered device: chain A or chain B enables its driver, or LDG_EH.EN = 0 (R319). -/
def Dev.harvestOpen (d : Dev) : Bool := !d.on F.LDG_EH_EN || d.coilOn 0 || d.chainA 0 || d.chainB 0

/-- EH_WAKE and LDG_EH.ACTIVE (R317, R318): EH_OUT stands at or above 3.0 V. The register's own bit holds whether the outside field that
raised it still stands; an open harvest switch lets nothing through (log entry 56). -/
def Dev.ehWakePin (d : Dev) : Bool := d.on F.LDG_EH_ACTIVE && !d.harvestOpen

/-! ### Balls (R607 to R612) -/

/-- The name of a row by its index, 1 to 51 (R607). -/
def rowName (i : Nat) : String :=
  let l := ["A", "B", "C", "D", "E", "F", "G", "H", "J", "K", "L", "M", "N", "P", "T", "U", "V", "W", "Y"]
  let s := l.getD ((i - 1) % 19) ""
  if i ≤ 19 then s else if i ≤ 38 then "A" ++ s else "B" ++ s

/-- Pins of a channel's port. -/
inductive PortPin where
  | txP | txN | tuns | rxsP | rxsN | tunp
deriving DecidableEq, Repr

/-- First column of a pavilion's field, its fence (R609). -/
def fenceCol (p : Nat) : Nat := 1 + 17 * (if p ≤ 2 then p else 5 - p)

/-- Row index and column of a channel's pin (R610). -/
def portBall (n : Nat) (x : PortPin) : Nat × Nat :=
  let p := n / 32
  let j := n / 8 - 4 * p
  let k := n % 8
  let t := if k ≤ 3 then 0 else 1
  let s := if k ≤ 3 then k else 7 - k
  let c := fenceCol p + 1 + 4 * s
  let tx := if p ≤ 2 then 4 * j + 2 * t + 1 else 51 - 4 * j - 2 * t
  let rx := if p ≤ 2 then tx + 1 else tx - 1
  match x with
  | .txP => (tx, c) | .txN => (tx, c + 1) | .tuns => (tx, c + 3)
  | .rxsP => (rx, c) | .rxsN => (rx, c + 1) | .tunp => (rx, c + 3)

/-- Supplies of the middle band. -/
inductive Rail where
  | vss | core | ana | io | pcie085 | pcie18
deriving DecidableEq, Repr

/-- The rail of a middle-band ball in columns 5 to 47 (R611). -/
def bandRail (row col : Nat) : Rail :=
  if (row + col) % 2 = 0 then .vss
  else if col ≤ 6 then .pcie085
  else if col = 7 then .pcie18
  else if col ≤ 9 ∨ 46 ≤ col then .io
  else if col ≤ 13 ∨ (41 ≤ col ∧ col ≤ 44) then .ana
  else .core

/-- GRANT_aa and GRANTB_aa (R612). -/
def grantBall (a : Nat) (comp : Bool) : Nat × Nat :=
  if a < 12 then (18 + a, if comp then 2 else 1) else (6 + a, if comp then 50 else 51)

/-- COEX_REQ_Pn and COEX_GNT_Pn (R612). -/
def coexBall (p : Nat) (gnt : Bool) : Nat × Nat := (30 + p, if gnt then 51 else 50)

/-- The other signals of the middle band, each with row index and column (R612). -/
def bandSignals : List (String × Nat × Nat) :=
  [("RESET_N", 17, 1), ("PERST_N", 17, 2), ("EH_OUT", 30, 1), ("EH_OUT", 30, 2), ("EH_WAKE", 31, 1), ("TIME_PPS", 31, 2),
   ("TMR_IN0", 32, 1), ("TMR_IN1", 32, 2), ("TMR_IN2", 33, 1), ("TMR_IN3", 33, 2), ("CALREF_P", 34, 1), ("CALREF_N", 34, 2),
   ("REFCLK_P", 35, 1), ("REFCLK_N", 35, 2), ("PCIE_TXP_0", 18, 3), ("PCIE_TXN_0", 18, 4), ("PCIE_TXP_1", 20, 3),
   ("PCIE_TXN_1", 20, 4), ("PCIE_TXP_2", 22, 3), ("PCIE_TXN_2", 22, 4), ("PCIE_TXP_3", 24, 3), ("PCIE_TXN_3", 24, 4),
   ("PCIE_RXP_0", 26, 3), ("PCIE_RXN_0", 26, 4), ("PCIE_RXP_1", 28, 3), ("PCIE_RXN_1", 28, 4), ("PCIE_RXP_2", 30, 3),
   ("PCIE_RXN_2", 30, 4), ("PCIE_RXP_3", 32, 3), ("PCIE_RXN_3", 32, 4), ("PCIE_REFCLK_P", 34, 3), ("PCIE_REFCLK_N", 34, 4),
   ("PRM_UP_TXP", 18, 48), ("PRM_UP_TXN", 18, 49), ("PRM_UP_RXP", 20, 48), ("PRM_UP_RXN", 20, 49), ("PRM_DN_TXP", 22, 48),
   ("PRM_DN_TXN", 22, 49), ("PRM_DN_RXP", 24, 48), ("PRM_DN_RXN", 24, 49), ("FLS_SCK", 26, 48), ("FLS_CS0_N", 26, 49),
   ("FLS_CS1_N", 27, 48), ("FLS_CS2_N", 27, 49), ("FLS_IO0", 28, 48), ("FLS_IO1", 28, 49), ("FLS_IO2", 29, 48),
   ("FLS_IO3", 29, 49), ("KSK_CS_N", 30, 48), ("KSK_SCK", 30, 49), ("KSK_MOSI", 31, 48), ("KSK_MISO", 31, 49),
   ("JTAG_TCK", 32, 48), ("JTAG_TMS", 32, 49), ("JTAG_TDI", 33, 48), ("JTAG_TDO", 33, 49), ("JTAG_TRST_N", 34, 48),
   ("COEX_PRI", 17, 50)]

/-- What a ball of the array carries. -/
inductive Ball where
  | rail (r : Rail)
  | vdrv (p : Nat)
  | port (ch : Nat) (x : PortPin)
  | grant (a : Nat) (comp : Bool)
  | coex (p : Nat) (gnt : Bool)
  | signal (name : String)
deriving DecidableEq, Repr

/-- A ball of a pavilion's field (R609, R610): field row 1 to 16 from the top, and the array's row and column. -/
def fieldBall (p row col : Nat) : Ball :=
  if col = fenceCol p then (if row % 2 = 1 then .vdrv p else .rail .vss)
  else
    let strip := if p ≤ 2 then (row - 1) / 4 else (51 - row) / 4
    let set := if p ≤ 2 then (row - 1) / 2 % 2 else (51 - row) / 2 % 2
    let tx : Bool := if p ≤ 2 then row % 2 = 1 else (51 - row) % 2 = 0
    let x := col - fenceCol p - 1
    let n := 32 * p + 8 * strip + (if set = 0 then x / 4 else 7 - x / 4)
    match x % 4 with
    | 0 => .port n (if tx then .txP else .rxsP)
    | 1 => .port n (if tx then .txN else .rxsN)
    | 2 => .rail .vss
    | _ => .port n (if tx then .tuns else .tunp)

/-- What the ball at a row index and column carries (R608 to R612): the top band to row 16, the bottom band from row 36. -/
def ballAt (row col : Nat) : Ball :=
  if row ≤ 16 then fieldBall ((col - 1) / 17) row col
  else if 36 ≤ row then fieldBall (5 - (col - 1) / 17) row col
  else if 5 ≤ col ∧ col ≤ 47 then .rail (bandRail row col)
  else
    match (List.range 24).find? (fun a => grantBall a false == (row, col) || grantBall a true == (row, col)) with
    | some a => .grant a (grantBall a true == (row, col))
    | none =>
      match (List.range 6).find? (fun p => coexBall p false == (row, col) || coexBall p true == (row, col)) with
      | some p => .coex p (coexBall p true == (row, col))
      | none =>
        match bandSignals.find? fun (x : String × Nat × Nat) => x.2 == (row, col) with
        | some x => .signal x.1
        | none => .rail .vss

/-! ### The states of the pins (R614) -/

/-- The columns of R614 for a powered device. -/
inductive PinCol where
  | reset | active | resting | dip | sleep | safe
deriving DecidableEq, Repr

/-- The column in force for the pins of a pavilion, and of the device with its pavilion 0 (R614, R615). -/
def Dev.pinCol (d : Dev) (p : Nat) : PinCol :=
  if d.pwr.boot = .sleeping then .sleep else if !d.pinsLive then .reset else if d.pwr.safe then .safe
  else if (d.pav p).dip then .dip else if (d.pav p).state = .active then .active else .resting

/-- The other pins of R614, by group. -/
inductive PinGroup where
  | rxs | coexGnt | pcie | refIn | resetN | perstN | inputs | kskMiso | flsData | flsCs | prm | tdo | jtagIn
deriving DecidableEq, Repr

/-- The electrical states of those pins. -/
inductive PinState where
  | highZ | idleInput | input | ignored | terminated | pullUp | link | linkL1 | txOff | onSelect | held | driven | running | off | shifting
deriving DecidableEq, Repr

/-- R614 for the pins that carry no level of the state; a supply dip of VDRV changes none of them but the antenna ports. -/
def pinState (g : PinGroup) (c : PinCol) : PinState :=
  match g, c with
  | .rxs, .reset | .rxs, .sleep => .idleInput
  | .rxs, _ => .input
  | .coexGnt, .reset | .coexGnt, .sleep | .coexGnt, .safe => .ignored
  | .coexGnt, _ => .input
  | .pcie, .reset => .terminated
  | .pcie, .resting => .linkL1
  | .pcie, .sleep => .txOff
  | .pcie, _ => .link
  | .refIn, .reset | .refIn, .sleep => .terminated
  | .refIn, _ | .resetN, _ | .perstN, _ => .input
  | .inputs, .reset | .inputs, .sleep => .ignored
  | .inputs, _ => .input
  | .kskMiso, .reset | .kskMiso, .sleep | .flsData, .reset | .flsData, .sleep | .flsCs, .sleep => .highZ
  | .kskMiso, _ => .onSelect
  | .flsData, _ => .held
  | .flsCs, .reset => .pullUp
  | .flsCs, _ => .driven
  | .prm, .reset | .prm, .sleep => .off
  | .prm, _ => .running
  | .tdo, .reset | .tdo, .sleep => .highZ
  | .tdo, _ => .shifting
  | .jtagIn, .reset | .jtagIn, .sleep => .idleInput
  | .jtagIn, _ => .input

end Sys2Proof.Machine
end

