-- ==== Sys2Proof/Machine/Timers.lean ====
section
/-! DEFINITION. Timers and statistic counters: sources, prescaler, count, compare, capture, and the make-up of SLEEP
(R649 to R664). -/

namespace Sys2Proof.Machine

/-! ### Flags and statistic counters (R658, R662, R663) -/

/-- A flag of a timer rises; with its enable it signals (R658). -/
def Dev.tmrFlag (d : Dev) (t : Nat) (flag ie : Fld) : Dev :=
  if d.on flag t then d
  else
    let d := d.setOn flag t 0 true
    if d.on ie t then (d.wr .TMR_GSTAT 0 0 (setBits (d.rd .TMR_GSTAT) t 1 1)).setMisc 7 else d

/-- Statistic counter j takes n happenings (R662, R663). -/
def Dev.scAdd (d : Dev) (j n : Nat) : Dev := if n = 0 then d else d.addStat .TMR_SC_L .TMR_SC_H j j n

/-- n happenings of source `src`; for wraps and matches, of timer t (R662). -/
def Dev.happen (d : Dev) (src t n : Nat) : Dev :=
  d.each (List.range 8) fun d j =>
    if d.fld F.TMR_SC_SEL_SRC 0 j = src ∧ (src = 6 ∨ src = 7 → d.fld F.TMR_SC_SEL_TIMER 0 j = t) then d.scAdd j n else d

/-- A write of TMR_SC_SEL (R662). -/
def Dev.scSelWrite (d : Dev) (nv : NonVol) (j v : Nat) : Dev :=
  let d := d.plainWrite nv .TMR_SC_SEL 0 j v
  if bitAt v 16 then
    ((d.wr .TMR_SC_L 0 j 0).wr .TMR_SC_H 0 j 0).wr .TMR_SC_OVF 0 0 (setBits (d.rd .TMR_SC_OVF) j 1 0)
  else d

/-! ### The count (R651 to R655, R660) -/

/-- The prescaler's divisor in 1/65,536 (R651). -/
def Dev.tmrDiv (d : Dev) (t : Nat) : Nat := d.fld F.TMR_PRE_INT t * 65536 + d.fld F.TMR_PRE_FRAC t

/-- No transaction of a pavilion is in progress. -/
def Dev.pavIdle (d : Dev) (p : Nat) : Bool := (pavChans p).all fun n => !d.inProgress n

/-- A sequencer is halted: it was asked to, and no transaction of its pavilion is in progress (R518). -/
def Dev.halted (d : Dev) (p : Nat) : Bool := (d.pav p).haltAsk && d.pavIdle p

/-- A debug halt is in force (R660). -/
def Dev.haltInForce (d : Dev) : Bool := d.pwr.frozen || (List.range 6).any d.halted

/-- A timer is held by a debug halt (R660). -/
def Dev.tmrFrozen (d : Dev) (t : Nat) : Bool := d.on F.TMR_CTL_DBG_FREEZE t && d.haltInForce

/-- Written values that are not held are in force from this tick (R655). -/
def Dev.tmrSync (d : Dev) (t : Nat) : Dev :=
  d.modTmr t fun x => { x with
    per := if x.perHold then x.per else d.rd .TMR_PERIOD t
    cmp := if x.cmpHold then x.cmp else d.rd .TMR_CMP t }

/-- Held values take effect at a wrap (R655). -/
def Dev.tmrTake (d : Dev) (t : Nat) : Dev :=
  d.modTmr t fun x => { x with per := d.rd .TMR_PERIOD t, cmp := d.rd .TMR_CMP t, perHold := false, cmpHold := false }

/-- What n wraps leave: the flag, WRAPS, the statistic counters, and a one-shot timer's end (R652). -/
def Dev.tmrWrapped (d : Dev) (t n : Nat) : Dev :=
  let d := (d.tmrFlag t F.TMR_STAT_PERIOD_EV F.TMR_CTL_PERIOD_IE).addFld F.TMR_STAT_WRAPS t 0 n
  let d := d.happen 6 t n
  if d.on F.TMR_CTL_ONE_SHOT t then d.setOn F.TMR_CTL_EN t 0 false else d

/-- What n compare matches leave (R654). -/
def Dev.tmrMatched (d : Dev) (t n : Nat) : Dev :=
  if n = 0 then d else (d.tmrFlag t F.TMR_STAT_CMP_EV F.TMR_CTL_CMP_IE).happen 7 t n

/-- A timer tick: the count rises by one, or wraps (R652 to R655). -/
def Dev.tmrTick (d : Dev) (t : Nat) : Dev :=
  let d := d.tmrSync t
  let c := d.rd .TMR_COUNT t
  let wrap : Bool := decide ((d.tmr t).per ≤ c)
  let new := if wrap then 0 else c + 1
  let d := d.wr .TMR_COUNT t 0 new
  let d := if wrap then (d.tmrTake t).tmrWrapped t 1 else d
  if new = (d.tmr t).cmp then d.tmrMatched t 1 else d

/-- A source tick of an enabled timer passes the prescaler (R651, R653, R660). -/
def Dev.srcTick (d : Dev) (t : Nat) : Dev :=
  if !d.on F.TMR_CTL_EN t || d.tmrFrozen t then d
  else
    let n := d.tmrDiv t
    let a := (d.tmr t).acc + 65536
    if n ≤ a then (d.modTmr t fun x => { x with acc := a - n }).tmrTick t
    else d.modTmr t fun x => { x with acc := a }

/-- The timer tick that is due, with the source ticks that lead to it (R651). -/
def Dev.tickThrough (d : Dev) (t : Nat) : Dev :=
  let n := d.tmrDiv t
  let a := (d.tmr t).acc
  let k := max 1 ((n - a + 65535) / 65536)
  (d.modTmr t fun x => { x with acc := a + k * 65536 - n }).tmrTick t

/-- The count that the next timer tick gives (R652, R655). -/
def Dev.tmrNext (d : Dev) (t : Nat) : Nat :=
  let e := d.tmrSync t
  if (e.tmr t).per ≤ e.rd .TMR_COUNT t then 0 else e.rd .TMR_COUNT t + 1

/-- The compare value that the next timer tick is judged by (R654, R655). -/
def Dev.tmrNextCmp (d : Dev) (t : Nat) : Nat := if d.tmrNext t = 0 then d.rd .TMR_CMP t else ((d.tmrSync t).tmr t).cmp

/-! ### Capture (R656, R657) -/

/-- A capture trigger, at a network time in ns. -/
def Dev.capture (d : Dev) (t ns : Nat) : Dev :=
  let d := if d.on F.TMR_STAT_CAP_NEW t then d.setOn F.TMR_STAT_CAP_OVR t 0 true else d
  let d := (d.wr .TMR_CAP t 0 (d.rd .TMR_COUNT t)).setPair .TMR_CAP_TL .TMR_CAP_TH t 0 ns
  d.tmrFlag t F.TMR_STAT_CAP_NEW F.TMR_CTL_CAP_IE

/-- A read of TMR_CAP: it clears CAP_NEW and latches the capture's time for its path (R657, R693). -/
def Dev.readCap (d : Dev) (t : Nat) (ksk : Bool) : Nat × Dev :=
  let time := d.pair .TMR_CAP_TL .TMR_CAP_TH t
  (d.rd .TMR_CAP t,
   (d.setOn F.TMR_STAT_CAP_NEW t 0 false).modTmr t fun x => if ksk then { x with capKsk := time } else { x with capPci := time })

/-! ### Register writes -/

/-- A write of TMR_CTL (R649, R653, R657). -/
def Dev.tmrCtlWrite (d : Dev) (nv : NonVol) (t v : Nat) : Dev :=
  let was := d.on F.TMR_CTL_EN t
  let v' := if was then setBits v 2 6 (bits (d.rd .TMR_CTL t) 2 6) else v
  let d := d.plainWrite nv .TMR_CTL t 0 v'
  let d := if !was && d.on F.TMR_CTL_EN t then
      (d.modTmr t fun x => { x with acc := 0 }).setFld F.TMR_STAT_WRAPS t 0 0
    else d
  if bitAt v 24 then d.capture t d.now else d

/-- A write of TMR_PRE or TMR_COUNT: discarded while EN = 1 (R653). -/
def Dev.tmrHeldWrite (d : Dev) (nv : NonVol) (r : RegName) (t v : Nat) : Dev :=
  if d.on F.TMR_CTL_EN t then d else d.plainWrite nv r t 0 v

/-- A write of TMR_PERIOD or TMR_CMP (R655): in force at the next tick, or held for the wrap. -/
def Dev.tmrPerWrite (d : Dev) (t : Nat) (isCmp : Bool) (v : Nat) : Dev :=
  let d := d.tmrSync t
  let hold := d.on F.TMR_CTL_PRELOAD t
  if isCmp then (d.wr .TMR_CMP t 0 v).modTmr t fun x => { x with cmpHold := hold }
  else (d.wr .TMR_PERIOD t 0 v).modTmr t fun x => { x with perHold := hold }

/-! ### SLEEP (R659) -/

/-- Source ticks in a SLEEP of n slow-clock ticks: five times the nominal rate in Hz at the trim in force (R28, R649, R659). -/
def Dev.srcRate5 (d : Dev) (src : Nat) : Int :=
  let fc : Int := 5 * 13560000 + toInt 18 d.syn.trim
  match src with
  | 0 => fc
  | 1 => 4 * fc
  | 2 => 5 * 27120000
  | 3 => 5 * 32768
  | 4 => 5 * 1000000
  | _ => 0

/-- Advance a timer by k timer ticks at once (R652 to R655). -/
def Dev.tmrAdvance (d : Dev) (t k : Nat) : Dev :=
  let d := d.tmrSync t
  let c := d.rd .TMR_COUNT t
  let p := (d.tmr t).per
  let m := (d.tmr t).cmp
  let first := if p ≤ c then 1 else p - c + 1
  if k = 0 then d
  else if k < first then (d.wr .TMR_COUNT t 0 (c + k)).tmrMatched t (b2n (decide (c < m ∧ m ≤ c + k)))
  else
    let d := d.tmrMatched t (b2n (decide (c < m ∧ m ≤ p)))
    let d := d.tmrTake t
    let p2 := (d.tmr t).per
    let m2 := (d.tmr t).cmp
    if d.on F.TMR_CTL_ONE_SHOT t then
      ((d.wr .TMR_COUNT t 0 0).tmrWrapped t 1).tmrMatched t (b2n (decide (m2 = 0)))
    else
      let rest := k - first
      let more := rest / (p2 + 1)
      let c2 := rest % (p2 + 1)
      ((d.wr .TMR_COUNT t 0 c2).tmrWrapped t (more + 1)).tmrMatched t
        (if p2 < m2 then 0 else more + b2n (decide (m2 ≤ c2)))

/-- The make-up of a timer after a SLEEP of n slow-clock ticks (R659). -/
def Dev.sleepMakeUp (d : Dev) (ticks t : Nat) : Dev :=
  if d.on F.TMR_CTL_EN t then
    let (s, d) := d.nearest (ticks * d.srcRate5 (d.fld F.TMR_CTL_SRC t)) (5 * 32768)
    let a := (d.tmr t).acc + s.toNat * 65536
    let n := d.tmrDiv t
    (d.modTmr t fun x => { x with acc := a % n }).tmrAdvance t (a / n)
  else d

/-! ### Meanings -/

/-- TIMER_TICK (R649, R651, R652): a tick of the clock that SRC selects; the ticks of pins and of Promenade frames come with those
(log entry 68). -/
def execTimerTick (t : Fin 16) (s : State) : Host.Outcome State Fault Refusal :=
  onDev (fun _ d => if d.fld F.TMR_CTL_SRC t ≤ 4 then d.srcTick t else d) s

/-- TIMER_WRAP (R652, R655): the timer tick that wraps the count, where one is next. -/
def execTimerWrap (t : Fin 16) (s : State) : Host.Outcome State Fault Refusal :=
  onDev (fun _ d => if d.on F.TMR_CTL_EN t && !d.tmrFrozen t && d.tmrNext t == 0 then d.tickThrough t else d) s

/-- TIMER_COMPARE_MATCH (R654): the timer tick that gives the count the value of TMR_CMP, where one is next. -/
def execTimerCompareMatch (t : Fin 16) (s : State) : Host.Outcome State Fault Refusal :=
  onDev (fun _ d =>
    if d.on F.TMR_CTL_EN t && !d.tmrFrozen t && d.tmrNext t == d.tmrNextCmp t then d.tickThrough t else d) s

/-- TIMER_ENABLE (R653): a write of TMR_CTL. -/
def execTimerEnable (t : Fin 16) (v : Word) (s : State) : Host.Outcome State Fault Refusal :=
  onDev (fun nv d => d.tmrCtlWrite nv t v.toNat) s

/-- TIMER_PERIOD_WRITE (R655): TMR_PERIOD or, with true, TMR_CMP. -/
def execTimerPeriodWrite (t : Fin 16) (isCmp : Bool) (v : Word) (s : State) : Host.Outcome State Fault Refusal :=
  onDev (fun _ d => d.tmrPerWrite t isCmp v.toNat) s

/-- The network time of an edge at a sample of the present carrier cycle (R49, R656). -/
def Dev.edgeNs (d : Dev) (q : Fin 4) : Nat := d.timeOf (4 * d.time.tc + q)

/-- TIMER_CAPTURE (R656): the trigger that CAP_SRC selects, at a sample of the present carrier cycle. -/
def execTimerCapture (t : Fin 16) (q : Fin 4) (s : State) : Host.Outcome State Fault Refusal :=
  onDev (fun _ d => if d.fld F.TMR_CTL_CAP_SRC t = 0 then d else d.capture t (d.edgeNs q)) s

/-- CAP_SW (R657). -/
def execCapSw (t : Fin 16) (s : State) : Host.Outcome State Fault Refusal := onDev (fun _ d => d.capture t d.now) s

/-- TMR_CAP_READ (R657). -/
def execTmrCapRead (t : Fin 16) (kiosk : Bool) (s : State) : Host.Outcome State Fault Refusal :=
  onDev (fun _ d => (d.readCap t kiosk).2.emit (.readData kiosk (d.readCap t kiosk).1)) s

/-- SC_CLEAR (R662). -/
def execScClear (j : Fin 8) (s : State) : Host.Outcome State Fault Refusal :=
  onDev (fun nv d => d.scSelWrite nv j (setBits (d.rd .TMR_SC_SEL 0 j) 16 1 1)) s

/-- An edge selection names this edge: 0 rising, 1 falling, 2 both. -/
def edgeIs (sel : Nat) (rising : Bool) : Bool := sel == 2 || sel == (if rising then 0 else 1)

/-- TMR_IN_EDGE (R650, R656, R662): an edge whose level has held for two samples; captures take the count before the edge counts. -/
def execTmrInEdge (pin : Fin 4) (rising : Bool) (q : Fin 4) (s : State) : Host.Outcome State Fault Refusal :=
  onDev (fun _ d =>
    let d := d.each (List.range 16) fun d t =>
      let d := if d.fld F.TMR_CTL_CAP_SRC t = pin.val + 1 ∧ edgeIs (d.fld F.TMR_CTL_CAP_EDGE t) rising then
          d.capture t (d.edgeNs q) else d
      if d.fld F.TMR_CTL_SRC t = pin.val + 5 ∧ edgeIs (d.fld F.TMR_CTL_EDGE t) rising then d.srcTick t else d
    if rising then d.happen (pin.val + 1) 0 1 else d) s

/-- PPS_EDGE (R55 to R57, R656, R662): an edge of TIME_PPS at a sample of the present carrier cycle; the one that TIME_CTL.PPS_EDGE
does not choose has no effect. -/
def execPpsEdge (rising : Bool) (q : Fin 4) (s : State) : Host.Outcome State Fault Refusal :=
  onDev (fun _ d =>
    if edgeIs (d.fld F.TIME_CTL_PPS_EDGE) rising then
      let d := d.each (List.range 16) fun d t => if d.fld F.TMR_CTL_CAP_SRC t = 5 then d.capture t (d.edgeNs q) else d
      (d.happen 5 0 1).ppsEdge q
    else d) s

/-- A Promenade frame starts at a network time in ns: captures first, then counts (R649, R656). -/
def Dev.frameTick (d : Dev) (ns : Nat) : Dev :=
  d.each (List.range 16) fun d t =>
    let d := if d.fld F.TMR_CTL_CAP_SRC t = 6 then d.capture t ns else d
    if d.fld F.TMR_CTL_SRC t = 9 then d.srcTick t else d

end Sys2Proof.Machine
end

