-- ==== Sys2Proof/Machine/Power.lean ====
section
/-! DEFINITION. Resets, the states of the pavilions, device WATCH, and SLEEP (R385, R580 to R605, R659). -/

namespace Sys2Proof.Machine

/-! ### Resets (R601, R602) -/

/-- The register that a key of the file names is one of these. -/
def keyIn (l : List RegName) (k : Nat) : Bool := l.any fun r => r.ctorIdx == k / 16384

/-- The registers of PD0 (R580, R605). -/
def ldgRegs : List RegName :=
  [.LDG_RST_CAUSE, .LDG_RST_CTL, .LDG_WAKE, .LDG_WAKE_TIMER, .LDG_SLEEP_TICKS_L, .LDG_SLEEP_TICKS_H, .LDG_EH]

/-- The registers of the timers (R659). -/
def tmrRegs : List RegName :=
  [.TMR_CTL, .TMR_PRE, .TMR_COUNT, .TMR_PERIOD, .TMR_CMP, .TMR_CAP, .TMR_CAP_TL, .TMR_CAP_TH, .TMR_STAT, .TMR_GSTAT, .TMR_SC_OVF,
   .TMR_SC_SEL, .TMR_SC_L, .TMR_SC_H]

/-- What every reset leaves: the registers named, the levels of the input pins, and the model's own counters. -/
def Dev.bare (d : Dev) (keep : List RegName) : Dev :=
  { regs := d.regs.filter (fun (e : Nat × Word) => keyIn keep e.1), pavs := tblMap d.pavs (fun x => { gntPin := x.gntPin }) {},
    syn := { refOk := d.syn.refOk }, out := d.out, freeCtr := d.freeCtr }

/-- A cause of R601 is recorded. -/
def Dev.setCause (d : Dev) (b : Nat) : Dev := d.wr .LDG_RST_CAUSE 0 0 (setBits (d.rd .LDG_RST_CAUSE) b 1 1)

/-- The device is in reset by a cause, beside those that already hold it (R601, R603). ONCE_EN and ONCE_SLOT stay across an
internal reset (R494). -/
def Dev.resetBy (d : Dev) (cause : Nat) : Dev :=
  let once := if cause = 7 ∨ cause = 8 then bits (d.rd .SEC_BOOT_CTL) 4 2 else 0
  let held := d.pwr.held.filter (· != cause) ++ [cause]
  let e := d.bare ldgRegs
  let e := { e with pwr := { held := held } }
  (e.wr .SEC_BOOT_CTL 0 0 (16 * once)).setCause cause

/-- PD0 is first powered (R601, R605): no register keeps a value, and power-on holds the device in reset. -/
def Dev.firstPower (d : Dev) : Dev := { d.bare [] with pwr := { held := [0] } }

/-- POWER_ON (R601). -/
def execPowerOn (s : State) : Host.Outcome State Fault Refusal := onDev (fun _ d => d.firstPower) s

/-- RESET_ASSERT (R601, R602): a cause by its bit of LDG_RST_CAUSE; that of bit 0 is the first powering of PD0. -/
def execResetAssert (cause : Fin 10) (s : State) : Host.Outcome State Fault Refusal :=
  onDev (fun _ d => if cause.val = 0 then d.firstPower else d.resetBy cause) s

/-- BROWNOUT (R591, R594): 0 core, 1 analogue, 2 I/O, 3 PCI Express. -/
def execBrownout (supply : Fin 4) (s : State) : Host.Outcome State Fault Refusal :=
  onDev (fun _ d => d.resetBy (3 + supply.val)) s

/-- LIFECYCLE_RESET (R506): 1 ms after the transition's completion was posted. -/
def execLifecycleReset (s : State) : Host.Outcome State Fault Refusal :=
  onDev (fun _ d => if d.sec.lcDue then (d.runTo (d.sec.lcAt + tcMs)).resetBy 8 else d) s

/-- REBOOT (R494). -/
def execReboot (s : State) : Host.Outcome State Fault Refusal := onDev (fun _ d => d.resetBy 7) s

/-! ### Hot reset (R385, R604, R695) -/

/-- The host's work on a channel ends (R385): its field falls as usual, its program stops, its entries go. -/
def Dev.hotCh (d : Dev) (n : Nat) : Dev :=
  let own : Bool := match (d.ch n).txn with
    | some t => t.work != Work.pilot && t.work != Work.cal
    | none => false
  (d.cond own fun d => d.dropWork n .normal).modCh n fun c => { c with
    prog := none, leaving := false, cycleOpen := false, aside := none, outq := {}, dataWait := [] }

/-- A hot reset or link-down (R385): the host interface alone. -/
def Dev.hotReset (d : Dev) (linkDown : Bool) : Dev :=
  let d := d.each d.chanKeys Dev.hotCh
  let d := d.clearHeld
  let d := { d with pavs := tblMap d.pavs (fun x => { x with runs := [], first := [] }) {} }
  let d := d.each (List.range 64) fun d r => d.setOn F.HIF_RING_CFG_EN r 0 false
  let d := { d with host := { d.host with
    msix := [], msixEn := false, busMaster := false, pcie := {}, devQ := {}, dataWait := [], arbs := [], inFlight := [], tq := {},
    linkUp := d.host.linkUp && !linkDown } }
  if linkDown then (d.setFld F.HIF_LINK_SPEED 0 0 0).setFld F.HIF_LINK_WIDTH 0 0 0 else d

/-- HOT_RESET (R385): a hot reset, or with true a link-down. -/
def execHotReset (linkDown : Bool) (s : State) : Host.Outcome State Fault Refusal := onDev (fun _ d => d.hotReset linkDown) s

/-- PERST_N_ASSERT (R601, R604). -/
def execPerstNAssert (s : State) : Host.Outcome State Fault Refusal :=
  onDev (fun _ d => if d.on F.LDG_RST_CTL_PERST_SCOPE then d.hotReset true else d.resetBy 2) s

/-! ### Pavilion states (R582 to R587) -/

/-- A state by its code in PWR_PAV (R605). -/
def pavStateOf (c : Nat) : PavState := if c = 0 then .off else if c = 1 then .watch else .active

/-- The code of a state. -/
def PavState.code (x : PavState) : Nat :=
  match x with
  | .off => 0
  | .watch => 1
  | .active => 2

/-- The state asked for (R582). -/
def Dev.pavReq (d : Dev) (p : Nat) : PavState := pavStateOf (d.fld F.PWR_PAV_REQ 0 p)

/-- A pavilion is quiet (R584): no transaction in progress, no capture stream, no listen session. -/
def Dev.pavQuiet (d : Dev) (p : Nat) : Bool :=
  (pavChans p).all fun n => !d.inProgress n && (d.ch n).fieldOf.isNone && (d.ch n).cap.isNone &&
    ((d.ch n).role != .listen || (d.sessionsOf n).isEmpty)

/-- The device starts to leave WATCH (R36, R587): a cold start, or a restart of the unit that is OFF. -/
def Dev.leaveWatch (d : Dev) : Dev :=
  if !d.devWatch then d
  else if d.syn.a = .off ∧ d.syn.b = .off then d.coldStart
  else if d.syn.a = .off then d.restart false
  else if d.syn.b = .off then d.restart true
  else d

/-- Leaving WATCH takes a cold start of both synthesisers (R36, R587). -/
def Dev.coldLeave (d : Dev) : Bool := d.devWatch && d.syn.a == .off && d.syn.b == .off && d.syn.refOk

/-- The change of a pavilion to a state: the one under way to that state, asked for again, or a new one (R583). -/
def Dev.changeTo (d : Dev) (p : Nat) (dest : PavState) (temp : Bool) : PavChange :=
  match (d.pav p).change.filter fun c => c.dest == dest with
  | some c => { c with temp := temp }
  | none => { dest := dest, temp := temp, at_ := d.tc, cold := dest == .active && d.coldLeave }

/-- A pavilion is to change its state. -/
def Dev.pavChange (d : Dev) (p : Nat) (dest : PavState) (temp : Bool) : Dev :=
  let c := d.changeTo p dest temp
  (d.cond (dest == .active) Dev.leaveWatch).modPav p fun x => { x with change := some c }

/-- A write of PWR_PAV (R582 to R585). -/
def Dev.pwrPavWrite (d : Dev) (nv : NonVol) (p v : Nat) : Dev :=
  let d := d.plainWrite nv .PWR_PAV 0 p v
  let x := d.pav p
  let req := d.pavReq p
  let waking : Bool := x.change.any fun c => c.dest == .active && c.temp
  if req = .active then
    if x.state = .active then (d.modPav p fun x => { x with change := none, temp := false }).retry p
    else d.pavChange p .active false
  else if waking ∨ (x.state = .active ∧ x.temp ∧ x.change = none) then d
  else if x.state = req then d.modPav p fun x => { x with change := none }
  else d.pavChange p req false

/-- PAV_STATE_REQUEST (R582). -/
def execPavStateRequest (pav : Fin 6) (v : Word) (s : State) : Host.Outcome State Fault Refusal :=
  onDev (fun nv d => d.pwrPavWrite nv pav v.toNat) s

/-- The detected channels bound to a program run one cycle first (R286): those of the lowest stagger phase start, the others' phases follow
(R251). -/
def Dev.firstCycle (d : Dev) (p slot : Nat) (det : List Nat) : Dev :=
  let g := tblGet (d.pav p).progs slot {}
  let l := det.filter fun n => (d.ch n).prog == some slot && (d.ch n).role == .poll && !(d.ch n).borrowed
  match (l.map (phaseOf g)).min? with
  | none => d
  | some k =>
    let d := d.modPav p fun x => { x with runs := x.runs.map fun (e : Nat × ProgRun) =>
      if e.1 = slot then (e.1, { e.2 with phase := k }) else e }
    let d := d.each l fun d n => d.modCh n fun c => { c with cycleOpen := true }
    d.each l Dev.launch

/-- A pavilion comes into ACTIVE (R286, R583, R585). -/
def Dev.pavUp (d : Dev) (p : Nat) (temp : Bool) : Dev :=
  let d := d.stir p
  let det := if (d.pav p).wakeDet then
      (pavChans p).filter fun n => bitAt (d.rd .PAV_BLV_STAT p) (n % 32) && (d.ch n).prog.isSome
    else []
  let d := d.modPav p fun x => { x with
    state := .active, change := none, temp := temp, everActive := true, wakeDet := false, first := det }
  (d.each ((d.pav p).runs.map (·.1)) fun d slot => d.firstCycle p slot det).retry p

/-- A pavilion leaves ACTIVE, or changes between WATCH and OFF (R288, R582, R587). -/
def Dev.pavDown (d : Dev) (p : Nat) (dest : PavState) : Dev :=
  let d := d.modPav p fun x => { x with
    state := dest, change := none, temp := false, first := [], sweep := if dest = .off then none else x.sweep }
  let d := d.each ((pavChans p).filter fun n => (d.ch n).role == .listen) fun d n =>
    d.modCh n fun c => { c with lsn := { armed := c.lsn.armed } }
  (d.syncReq p).watchSyn

/-- The carrier cycle at which a change of state is in force: some time after the request, and from ACTIVE after the pavilion has become
quiet (R583); the 3.2 ms of the cold start that it began come beside (R587). -/
def Dev.changeAt (d : Dev) (p : Nat) (c : PavChange) : Nat :=
  let x := d.pav p
  if c.dest = .active then c.at_ + usTc ((if x.state = .off then 400 else 180) + (if c.cold then 3200 else 0))
  else (if x.state = .active then max c.at_ x.stirAt else c.at_) + usTc 20

/-- PAV_STATE_CHANGE_DONE (R583, R584, R587). -/
def execPavStateChangeDone (pav : Fin 6) (s : State) : Host.Outcome State Fault Refusal :=
  onDev (fun _ d =>
    let p : Nat := pav
    match (d.pav p).change with
    | none => d
    | some c =>
      if c.dest = .active then (if d.synActive then (d.runTo (d.changeAt p c)).pavUp p c.temp else d)
      else if (d.pav p).state = .active ∧ !d.pavQuiet p then d
      else (d.runTo (d.changeAt p c)).pavDown p c.dest) s

/-- A descriptor at the head of a channel queue of the pavilion needs a field or the receive chain (R585). -/
def Dev.headNeedsAir (d : Dev) (p : Nat) : Bool :=
  (pavChans p).any fun n =>
    match (d.ch n).tq.run, (d.ch n).tq.q with
    | some q, _ => airOps.contains q.d.op
    | none, q :: _ => airOps.contains q.d.op
    | none, [] => false

/-- PAV_WAKE (R585): by a DETECT, or by a held descriptor with AUTO. -/
def execPavWake (pav : Fin 6) (s : State) : Host.Outcome State Fault Refusal :=
  onDev (fun _ d =>
    let p : Nat := pav
    let x := d.pav p
    let asked : Bool := x.wakeDet || (d.on F.PWR_PAV_AUTO 0 p && d.headNeedsAir p)
    if asked && x.state != .active && d.pavReq p != .active && !(x.change.any fun c => c.dest == .active) then
      d.pavChange p .active true
    else d) s

/-- PAV_IDLE_EXPIRY (R585): IDLE after the pavilion has become quiet. -/
def execPavIdleExpiry (pav : Fin 6) (s : State) : Host.Outcome State Fault Refusal :=
  onDev (fun _ d =>
    let p : Nat := pav
    let x := d.pav p
    if x.temp && x.state == .active && x.change.isNone && d.pavQuiet p && !d.headNeedsAir p then
      (d.runTo (x.stirAt + d.fld F.PWR_PAV_IDLE 0 p * tcMs)).pavChange p (d.pavReq p) false
    else d) s

/-! ### SLEEP (R588, R589, R659) -/

/-- A write of PWR_CTL (R587, R588): WATCH_SYN written 0 in WATCH stops the synthesisers at once (log entry 58). -/
def Dev.pwrCtlWrite (d : Dev) (nv : NonVol) (v : Nat) : Dev :=
  let d := (d.plainWrite nv .PWR_CTL 0 0 v).watchSyn
  if bits v 16 16 = 0x5EE0 then { d with pwr := { d.pwr with sleepAsk := true } } else d

/-- SLEEP_REQUEST (R588). -/
def execSleepRequest (s : State) : Host.Outcome State Fault Refusal :=
  onDev (fun nv d => d.pwrCtlWrite nv (setBits (d.rd .PWR_CTL) 16 16 0x5EE0)) s

/-- A target has a descriptor that has started its work. -/
def Dev.hasStarted (d : Dev) (t : Nat) : Bool :=
  match (d.tq t).run with
  | none => false
  | some q =>
    let waits : Bool := match (if t < 192 then (d.ch t).txn else none) with
      | some x => x.phase == TxnPhase.waiting && x.desc.any q.same
      | none => false
    !d.calHeld q && !waits

/-- SLEEP may be entered: every pavilion quiet, no descriptor at work, no flash operation running (R588, R647). -/
def Dev.maySleep (d : Dev) : Bool :=
  d.pwr.sleepAsk && d.flash.run.isNone && (List.range 6).all d.pavQuiet && !(d.busyTargets.any d.hasStarted) &&
    d.chanKeys.all (fun n => (d.ch n).roleQ.isEmpty) && d.images.all (fun (e : Nat × Image) => e.2.staged.isEmpty) &&
    d.syn.waiters.isEmpty && d.ledger.change.isNone && d.ledger.invals.isEmpty &&
    !(d.cal.runs.any fun (r : CalRun) => r.started)

/-- SLEEP_ENTRY (R588): queued descriptors are cancelled unposted, timers are saved, and all but PD0 loses power. -/
def execSleepEntry (s : State) : Host.Outcome State Fault Refusal :=
  onDev (fun _ d =>
    if d.maySleep then
      let e := d.bare (ldgRegs ++ tmrRegs)
      { e with timers := d.timers, time := { net := d.time.net }, syn := { e.syn with trim := d.syn.trim },
               pwr := { boot := .sleeping } }
    else d) s

/-- The end of a SLEEP of some slow-clock ticks (R589, R659): by the timer, or by EH_WAKE. -/
def Dev.wake (d : Dev) (ticks : Nat) (byEh : Bool) : Dev :=
  let ticks := ticks % 2 ^ 64
  let d := d.setPair .LDG_SLEEP_TICKS_L .LDG_SLEEP_TICKS_H 0 0 ticks
  let d := (d.setOn F.LDG_WAKE_BY_TIMER 0 0 (!byEh)).setOn F.LDG_WAKE_BY_EH 0 0 byEh
  let d := (List.range 16).foldl (fun d t => d.sleepMakeUp ticks t) d
  { d.setCause 9 with time := { net := d.time.net + ticks * slowTick }, syn := { d.syn with trim := 0 }, pwr := { held := [9] } }

/-- WAKE_TIMER_EXPIRY (R589): after LDG_WAKE_TIMER.SEC seconds, 32,768 slow-clock ticks each; a SEC of 0 never
expires (the model's choice: log entry 67). -/
def execWakeTimerExpiry (s : State) : Host.Outcome State Fault Refusal :=
  onDev (fun _ d =>
    let sec := d.fld F.LDG_WAKE_TIMER_SEC
    if d.pwr.boot = .sleeping ∧ d.on F.LDG_WAKE_TIMER_EN ∧ sec ≠ 0 then d.wake (32768 * sec) false else d) s

/-- EH_WAKE_RISE (R317, R319, R320, R589): in SLEEP, the slow-clock ticks slept. Behind an open harvest switch EH_WAKE does not rise. -/
def execEhWakeRise (ticks : Nat) (s : State) : Host.Outcome State Fault Refusal :=
  onDev (fun _ d =>
    if d.harvestOpen then d
    else
    let d := d.setOn F.LDG_EH_ACTIVE 0 0 true
    if d.on F.LDG_EH_WAKE_EN then
      let d := d.setOn F.LDG_EH_WAKE_SEEN 0 0 true
      if d.pwr.boot = .sleeping then d.wake ticks true else d
    else d) s

end Sys2Proof.Machine
end

