-- ==== Sys2Proof/Machine/Promenade.lean ====
section
/-! DEFINITION. The Promenade link: frames, lanes, positions, hop delay, time, seams, carrier coherence, epochs and fault
broadcasts (R576, R577, R665 to R683). -/

namespace Sys2Proof.Machine

/-- Change the Promenade's record. -/
def Dev.modProm (d : Dev) (f : Prom → Prom) : Dev := { d with prom := f d.prom }

/-- Change a port. -/
def Dev.modPrt (d : Dev) (up : Bool) (f : PrmPort → PrmPort) : Dev :=
  d.modProm fun p => if up then { p with upP := f p.upP } else { p with dnP := f p.dnP }

/-- A message becomes due at a port. -/
def Dev.prmDue (d : Dev) (up : Bool) (ty : Nat) (body : List Byte) : Dev := d.modPrt up fun p => p.addDue ty body

/-- The port is enabled (R683). -/
def Dev.prmEn (d : Dev) (up : Bool) : Bool := if up then d.on F.PRM_CTL_UP_EN else d.on F.PRM_CTL_DN_EN

/-- Network time in 0.25 ns, `sub` of them after the last carrier cycle (R669). -/
def Dev.now4 (d : Dev) (sub : Nat) : Nat := d.time.net * 4 / nsUnit + sub

/-! ### Frames (R665, R666) -/

/-- Bits of a byte, least significant first. -/
def byteBits (b : Byte) : List Bool := (List.range 8).map fun i => b.getLsbD i

/-- The additive scrambler x^9 + x^5 + 1 over payload bits (R666). -/
def whiten (state : Nat) : List Bool → List Bool
  | [] => []
  | b :: t =>
    let w := bitAt state 8 != bitAt state 4
    (b != w) :: whiten ((state * 2 + b2n w) % 512) t

/-- The 320 bits of a frame (R665): sync word, whitened payload, CRC-32C. -/
def prmWire (counter : Nat) (pay : List Byte) : List Bool :=
  (List.range 32).map (fun i => bitAt 0x5A4D31E7 (31 - i)) ++ whiten (counter % 511 + 1) (pay.flatMap byteBits) ++
    (toLe 4 (crc32c pay)).flatMap byteBits

/-- Bytes of a run of bits, each least significant bit first. -/
def bitBytes (n : Nat) (l : List Bool) : List Byte :=
  (List.range n).map fun i => BitVec.ofNat 8 (((l.drop (8 * i)).take 8).foldr (fun b a => b2n b + 2 * a) 0)

/-- The payload of a frame from the 288 bits after its sync word, under a seed: the scrambler taken off, where the CRC-32C passes
(R665 to R667). -/
def prmPayload (seed : Nat) (w : List Bool) : Option (List Byte) :=
  let pay := bitBytes 32 (whiten (seed % 511 + 1) (w.take 256))
  if w.length = 288 ∧ bitBytes 4 (w.drop 256) = toLe 4 (crc32c pay) then some pay else none

/-- The seed for the coming frame that a receiver finds on two frames in succession: the first of 511 under which the one passes, where
the other passes under the next (R667). -/
def prmAcquire (a b : List Bool) : Option Nat :=
  ((List.range 511).find? fun k => (prmPayload k a).isSome).bind fun k =>
    if (prmPayload (k + 1) b).isSome then some ((k + 2) % 511) else none

/-- The rank of a message type in the table of R669. -/
def prmRank (ty : Nat) : Nat :=
  if ty = 8 then 1 else if ty = 6 ∨ ty = 7 then 2 else if ty = 2 ∨ ty = 3 then 3 else if ty = 4 then 4
  else if ty = 1 then 5 else if ty = 5 then 6 else if ty = 9 ∨ ty = 10 then 7 else if ty = 11 then 8 else 9

/-- The highest-ranked message due, the oldest of equals. -/
def prmFirst (l : List (Nat × List Byte)) : Option (Nat × List Byte) :=
  l.foldl (fun (acc : Option (Nat × List Byte)) (m : Nat × List Byte) =>
    match acc with
    | none => some m
    | some x => if prmRank m.1 < prmRank x.1 then some m else acc) none

/-! ### Seams between devices (R675, R676) -/

/-- The arbour at a port's seam. -/
def seamArb (up : Bool) : Nat := if up then 0 else 23
/-- The register of the seam at a port. -/
def seamReg (up : Bool) : RegName := if up then .ARB_SEAM_LO else .ARB_SEAM_HI

/-- An entry of the coupling matrix as its magnitude alone (R229): the phase is 0. -/
def magOnly (w : Nat) : Nat :=
  let re := toInt 16 (w % 2 ^ 16)
  let im := toInt 16 (w / 2 ^ 16 % 2 ^ 16)
  min 32767 (Nat.sqrt (re.natAbs ^ 2 + im.natAbs ^ 2))

/-- The carriers at a port are known not to be coherent (R229): upstream by the device's own state, downstream by the last PRM_SEAM_B. -/
def Dev.magSeam (d : Dev) (up : Bool) : Bool :=
  if up then !d.on F.PRM_STAT_COHERENT else d.on F.ARB_CM_STAT_SEAM_MAG_ONLY (seamArb up)

/-- The seam entries become due at a port (R675); while the carriers are not coherent they carry magnitude only (R229). -/
def Dev.seamDue (d : Dev) (up : Bool) : Dev :=
  let cut (e : Nat) : Nat := if d.magSeam up then magOnly e else e
  let w (j : Nat) : List Byte := toLe 4 (cut (d.rd (seamReg up) (seamArb up) j))
  let edge := cut (if up then d.rd .ARB_CM 0 8 else d.rd .ARB_CM 23 55)
  let mag := b2n (up && !d.on F.PRM_STAT_COHERENT)
  let d := d.prmDue up 9 ((List.range 7).flatMap w)
  (d.prmDue up 10 (w 7 ++ toLe 4 edge ++ toLe 1 mag)).modPrt up fun p => { p with seamAt := d.tc }

/-- The seam with the neighbour at a port is lost: its entries are invalid at once, and slots lapse (R231, R677). -/
def Dev.seamLost (d : Dev) (up : Bool) : Dev :=
  let a := seamArb up
  let d := if up then d.setOn F.ARB_CM_STAT_SEAM_LO_VALID a 0 false else d.setOn F.ARB_CM_STAT_SEAM_HI_VALID a 0 false
  let d := (d.setOn F.ARB_CM_STAT_SEAM_REMOTE a 0 false).setOn F.ARB_CM_STAT_SEAM_MAG_ONLY a 0 false
  d.modProm fun p => { p with slots := p.slots.filter fun (x : SeamSlot) => x.up != up,
                              asked := p.asked.filter fun (x : SeamSlot) => x.up != up }

/-- After a change of a condition of R675: where the exchange has stopped, the seam is lost. -/
def Dev.seamCheck (d : Dev) : Dev :=
  [true, false].foldl (fun (d : Dev) (up : Bool) => if d.seamOn up then d else d.seamLost up) d

/-! ### Sending (R669) -/

/-- What becomes due at this frame by the frame counter, with the phases of log entry 31. -/
def Dev.prmPeriodic (d : Dev) (up : Bool) : Dev :=
  let c := (d.prt up).sent
  let d := if up then (if c % 1000 = 500 then d.prmDue true 2 [] else d)
    else
      let d := if c % 1000 = 0 then (d.prmDue false 1 []).prmDue false 11 [] else d
      if c % 250 = 0 then d.prmDue false 5 [] else d
  if d.seamOn up ∧ (d.prt up).seamAt + 1356000 ≤ d.tc then d.seamDue up else d

/-- A slot for a probe of an edge coil is proposed (R677): its coil, and how far ahead it starts, in ns. -/
def Dev.prmPropose (d : Dev) (up : Bool) (coil ahead : Nat) : Dev :=
  let mine : Bool := if up then decide (coil < 2) else decide (190 ≤ coil) && decide (coil < 192)
  if mine && d.seamOn up && d.locked && (d.prt up).lock && decide (200000 ≤ ahead) && decide (ahead ≤ 10000000) then
    let t := (d.now + ahead) % 2 ^ 64
    let d := d.modProm fun p => { p with asked := p.asked ++ [{ up := up, mine := true, coil := coil, time := t }] }
    d.prmDue up 6 (toLe 8 t ++ toLe 1 coil ++ toLe 1 (d.fld F.ARB_PILOT_LVL (arbOf coil)))
  else d

/-- Bytes 2 on of a message as it is sent at 0.25 ns instant t, with the top 16 bits of the ACTIVE accumulator. -/
def Dev.prmBody (d : Dev) (ty : Nat) (body : List Byte) (t phase : Nat) : List Byte :=
  if ty = 1 then toLe 8 (t / 4)
  else if ty = 2 then toLe 8 t
  else if ty = 3 then body ++ toLe 8 t
  else if ty = 5 then toLe 2 phase ++ toLe 4 (ofInt 32 (d.fldI F.SYN_TRIM_STEPS))
  else if ty = 11 then toLe 1 (b2n (d.on F.PRM_CTL_SEAM_EN))
  else body

/-- PRM_FRAME_SEND (R665, R669): at a frame start, `sub` quarter nanoseconds after the last carrier cycle. The engine may propose a
probe slot for a coil first. Before the position is taken, and with CHAIN_LONG, byte 1 carries the position field as it stands, 0 (the
model's choice: log entry 68). The frame tick of R649 is that of the UP port, or of DN with UP disabled (log entry 68). -/
def execPrmFrameSend (up : Bool) (sub : Nat) (phase : Fin 65536) (probe : Option (Nat × Nat)) (s : State) :
    Host.Outcome State Fault Refusal :=
  onDev (fun _ d =>
    if d.prmEn up then
      let d := d.prmPeriodic up
      let d := match probe with
        | some x => d.prmPropose up x.1 x.2
        | none => d
      let m := (prmFirst (d.prt up).due).getD (0, [])
      let t := d.now4 sub
      let d := d.cond (up || !d.on F.PRM_CTL_UP_EN) fun d => d.frameTick (t / 4 % 2 ^ 64)
      let pay := padTo 32 (toLe 1 m.1 ++ toLe 1 (d.position % 16 + 128 * b2n d.locked) ++ d.prmBody m.1 m.2 t phase)
      let d := d.emit (.prom up pay (prmWire (d.prt up).sent pay))
      let d := d.modPrt up fun p => { p with due := p.due.erase m, sent := (p.sent + 1) % 2 ^ 32 }
      if m.1 = 2 then d.modProm fun p => { p with t1 := some t } else d
    else d) s

/-! ### Lanes (R667, R668) -/

/-- A lane has changed (R668). -/
def Dev.laneChange (d : Dev) (up is : Bool) : Dev :=
  let d := if up then d.setOn F.PRM_STAT_UP_LINK 0 0 is else d.setOn F.PRM_STAT_DN_LINK 0 0 is
  (d.setOn F.PRM_STAT_LINK_CHG 0 0 true).setMisc 2

/-- PRM_LANE_UP (R667): the bits after the sync word of the frame that follows it, and of the next one. -/
def execPrmLaneUp (up : Bool) (one two : List Bool) (s : State) : Host.Outcome State Fault Refusal :=
  onDev (fun _ d =>
    match (if d.prmEn up && !d.laneUp up then prmAcquire one two else none) with
    | some seed =>
      let d := (d.laneChange up true).modPrt up fun p => { p with seed := seed, crcRun := 0, rxAt := d.tc }
      if up then
        (d.setOn F.PRM_HOP_VALID 0 0 false).modProm fun p => { p with hops := [], hopCount := 0, t1 := none }
      else d
    | none => d) s

/-- Promenade time enters holdover (R58, R674). -/
def Dev.prmHoldover (d : Dev) : Dev := d.cond (d.fld F.TIME_CTL_SOURCE == 2) Dev.enterHoldover

/-- A lane goes down (R668, R674, R677, R679). -/
def Dev.laneLost (d : Dev) (up : Bool) : Dev :=
  if d.laneUp up then
    let d := (d.laneChange up false).addFld (if up then F.PRM_LINK_UP_LOSSES else F.PRM_LINK_DN_LOSSES) 0 0 1
    let d := d.modPrt up fun p => { p with lock := false, wish := false }
    let d := if up then d.incoherent.prmHoldover else d
    d.seamLost up
  else d

/-- PRM_LANE_DOWN (R668): eight frame times, 8.192 µs, without a sync word. -/
def execPrmLaneDown (up : Bool) (s : State) : Host.Outcome State Fault Refusal :=
  onDev (fun _ d => d.cond (d.laneUp up) fun d => (d.runTo ((d.prt up).rxAt + 112)).laneLost up) s

/-- A frame has failed its CRC-32C; four in succession take the lane down (R662, R668). -/
def Dev.prmBad (d : Dev) (up : Bool) : Dev :=
  let d := d.addFld (if up then F.PRM_LINK_UP_CRC_ERR else F.PRM_LINK_DN_CRC_ERR) 0 0 1
  let d := d.happen (if up then 8 else 9) 0 1
  let d := d.modPrt up fun p => { p with crcRun := p.crcRun + 1, seed := (p.seed + 1) % 511, rxAt := d.tc }
  if (d.prt up).crcRun = 4 then d.laneLost up else d

/-- A frame has passed its CRC-32C: the seed advances, and the sender's TIME_LOCK is noted (R667, R669); its fall brings holdover
(R674). -/
def Dev.prmRx (d : Dev) (up : Bool) (pay : List Byte) : Dev :=
  let was := (d.prt up).lock
  let is := bitAt (byteAt pay 1) 7
  let d := d.modPrt up fun p => { p with crcRun := 0, seed := (p.seed + 1) % 511, lock := is, rxAt := d.tc }
  if up && was && !is && !d.on F.PRM_STAT_CHAIN_LONG then d.prmHoldover else d

/-- A frame arrives where the lane is up: the 288 bits after its sync word. One that fails its check is counted; one whose TYPE is
another than `ty` is not this command's message, and does no more than a frame does. -/
def prmOn (up : Bool) (ty : Nat) (w : List Bool) (f : List Byte → Dev → Dev) (s : State) : Host.Outcome State Fault Refusal :=
  onDev (fun _ d =>
    if d.prmEn up && d.laneUp up then
      match prmPayload (d.prt up).seed w with
      | none => d.prmBad up
      | some pay => (d.prmRx up pay).cond (byteAt pay 0 == ty) (f pay)
    else d) s

/-- The same for a message that the device takes over UP only, and not where the chain is too long (R671). -/
def prmOnUp (ty : Nat) (w : List Bool) (f : List Byte → Dev → Dev) (s : State) : Host.Outcome State Fault Refusal :=
  prmOn true ty w (fun pay d => if d.on F.PRM_STAT_CHAIN_LONG then d else f pay d) s

/-- PRM_FRAME_CRC_FAIL (R662, R668): a frame that fails its check; one that passes is not this command's. -/
def execPrmFrameCrcFail (up : Bool) (w : List Bool) (s : State) : Host.Outcome State Fault Refusal :=
  onDev (fun _ d => d.cond (d.prmEn up && d.laneUp up && (prmPayload (d.prt up).seed w).isNone) fun d => d.prmBad up) s

/-- PRM_IDLE (R669). -/
def execPrmIdle (up : Bool) (w : List Bool) (s : State) : Host.Outcome State Fault Refusal := prmOn up 0 w (fun _ d => d) s

/-! ### Positions (R670, R671) -/

/-- A position is taken, or found too high. -/
def Dev.takePos (d : Dev) (p : Nat) : Dev :=
  let d := d.modProm fun x => { x with posSet := true }
  if p < 16 then (d.setFld F.PRM_STAT_POS 0 0 p).setOn F.PRM_STAT_POS_VALID 0 0 true
  else d.setOn F.PRM_STAT_CHAIN_LONG 0 0 true

/-- POSITION_TIMEOUT (R670): 5 ms after configuration-ready, from which the carrier count counts. -/
def execPositionTimeout (s : State) : Host.Outcome State Fault Refusal :=
  onDev (fun _ d => if d.prom.posSet || d.laneUp true then d else (d.runTo (5 * tcMs)).takePos 0) s

/-- PRM_HELLO (R670, R675): `peer` says that the neighbour's own conditions for the seam exchange hold. -/
def execPrmHello (up : Bool) (w : List Bool) (peer : Bool) (s : State) : Host.Outcome State Fault Refusal :=
  prmOn up 11 w (fun pay d =>
    let named := byteAt pay 1 % 16 + 1
    let d := if up then
        if d.prom.posSet then
          (if named = (if d.on F.PRM_STAT_CHAIN_LONG then 16 else d.position) then d else d.setOn F.PRM_STAT_POS_CONFLICT 0 0 true)
        else d.takePos named
      else d
    (d.modPrt up fun p => { p with wish := bitAt (byteAt pay 2) 0 && peer }).seamCheck) s

/-! ### Hop delay and time (R672 to R674) -/

/-- PRM_DELAY_REQ (R672): received at DN; the answer carries t2, and t3 when it is sent. -/
def execPrmDelayReq (w : List Bool) (sub : Nat) (s : State) : Host.Outcome State Fault Refusal :=
  prmOn false 2 w (fun _ d => d.prmDue false 3 (toLe 8 (d.now4 sub))) s

/-- PRM_DELAY_RESP (R672): received at UP at t4; network time is one of 64 bits (R4). -/
def execPrmDelayResp (w : List Bool) (sub : Nat) (s : State) : Host.Outcome State Fault Refusal :=
  prmOn true 3 w (fun pay d =>
    match d.prom.t1 with
    | none => d
    | some t1 =>
      let twice : Int := toInt 66 (((d.now4 sub : Int) - t1) % 2 ^ 66).toNat - toInt 64 (leAt pay 10 8 + 2 ^ 64 - leAt pay 2 8)
      let d := d.modProm fun p => { p with t1 := none, hops := (twice :: p.hops).take 64, hopCount := sat 64 (p.hopCount + 1) }
      let (m, d) := d.quot (d.prom.hops.foldl (· + ·) 0) (2 * d.prom.hops.length)
      (d.setFld F.PRM_HOP_DELAY 0 0 (clampInt 0 65535 m).toNat).setOn F.PRM_HOP_VALID 0 0 (d.prom.hopCount == 64)) s

/-- PRM_TIME (R673): with SOURCE = 2 the offset is recorded, lock is judged and time corrected, as at a PPS edge. Times of 64 bits are
compared modulo 2^64 (R4). -/
def execPrmTime (w : List Bool) (sub : Nat) (s : State) : Host.Outcome State Fault Refusal :=
  prmOnUp 1 w (fun pay d =>
    if d.fld F.TIME_CTL_SOURCE = 2 then
      let away := toInt 66 (((d.now4 sub : Int) - 4 * leAt pay 2 8 - d.fld F.PRM_HOP_DELAY) % 2 ^ 66).toNat
      let (ofs, d) := d.quot away 4
      let d := d.wr .PRM_TIME_OFS 0 0 (ofInt 32 (clampInt (-(2 ^ 31)) (2 ^ 31 - 1) ofs))
      let may : Bool := d.prom.upP.lock && d.on F.PRM_HOP_VALID && !d.stepDue ofs
      let d := d.cond d.prom.upP.lock (·.setOn F.TIME_STAT_HOLDOVER 0 0 false)
      (d.judgeLock ofs may).correct ofs
    else d) s

/-! ### Seam messages and slots (R676, R677) -/

/-- An entry of the sender's seam whose receive tap lies on the sender is stored as entry (j + 4) mod 8 (R676), without a phase while the
carriers are not coherent (R229). -/
def Dev.seamTake (d : Dev) (up : Bool) (pay : List Byte) (j : Nat) : Dev :=
  let e := leAt pay (2 + 4 * j) 4
  (d.wr (seamReg up) (seamArb up) ((j + 4) % 8) (if d.magSeam up then magOnly e else e)).seamValid (seamReg up) (seamArb up)

/-- PRM_SEAM_A (R676). -/
def execPrmSeamA (up : Bool) (w : List Bool) (s : State) : Host.Outcome State Fault Refusal :=
  prmOn up 9 w (fun pay d =>
    if d.seamOn up then
      ((List.range 4).foldl (fun (d : Dev) (j : Nat) => d.seamTake up pay j) d).setOn F.ARB_CM_STAT_SEAM_REMOTE (seamArb up) 0 true
    else d) s

/-- PRM_SEAM_B (R676): the edge coupling, and whether the entries hold magnitudes only. Entry 7 has its receive tap here. -/
def execPrmSeamB (up : Bool) (w : List Bool) (s : State) : Host.Outcome State Fault Refusal :=
  prmOn up 10 w (fun pay d =>
    if d.seamOn up then
      let mag : Bool := bitAt (byteAt pay 10) 0 || (up && !d.on F.PRM_STAT_COHERENT)
      let e : Word := BitVec.ofNat 32 (if mag then magOnly (leAt pay 6 4) else leAt pay 6 4)
      let d := d.modProm fun p => if up then { p with edgeUp := e } else { p with edgeDn := e }
      (d.setOn F.ARB_CM_STAT_SEAM_REMOTE (seamArb up) 0 true).setOn F.ARB_CM_STAT_SEAM_MAG_ONLY (seamArb up) 0 mag
    else d) s

/-- PRM_PROBE (R677): answered, with accept while the seam exchange is enabled. -/
def execPrmProbe (up : Bool) (w : List Bool) (s : State) : Host.Outcome State Fault Refusal :=
  prmOn up 6 w (fun pay d =>
    let yes := d.seamOn up
    let d := d.prmDue up 7 ((pay.drop 2).take 10 ++ toLe 1 (b2n yes))
    if yes then
      d.modProm fun p => { p with slots := p.slots ++ [{ up := up, mine := false, coil := byteAt pay 10, time := leAt pay 2 8 }] }
    else d) s

/-- PRM_PROBE_ACK (R677): agrees to, or declines, a slot that was proposed. -/
def execPrmProbeAck (up : Bool) (w : List Bool) (s : State) : Host.Outcome State Fault Refusal :=
  prmOn up 7 w (fun pay d =>
    let x : SeamSlot := { up := up, mine := true, coil := byteAt pay 10, time := leAt pay 2 8 }
    if d.prom.asked.contains x then
      d.modProm fun p => { p with asked := p.asked.erase x, slots := if bitAt (byteAt pay 12) 0 then p.slots ++ [x] else p.slots }
    else d) s

/-- The taps of this device that hear a remote coil of the seam at a port, with their seam entries (R178). -/
def seamHears (up : Bool) (coil : Nat) : List (Nat × Nat) :=
  if up then (if coil = 191 then [(0, 0), (1, 1)] else [(0, 2), (1, 3)])
  else if coil = 0 then [(7, 0), (6, 1)] else [(7, 2), (6, 3)]

/-- SEAM_PROBE_SLOT (R183, R187, R677): an agreed slot arrives. A coil of this device is probed where the probe is admitted; a coil
of the neighbour is measured by the taps that may take part, given with what they measured in units of 2^-13. -/
def execSeamProbeSlot (up : Bool) (coil : Fin 192) (meas : List (Nat × Int × Int)) (s : State) :
    Host.Outcome State Fault Refusal :=
  onDev (fun _ d =>
    match d.prom.slots.find? fun (x : SeamSlot) => x.up == up && x.coil == coil.val with
    | none => d
    | some x =>
      let d := (d.runNet (339 * x.time)).modProm fun p => { p with slots := p.slots.erase x }
      let n : Nat := coil
      if x.mine then
        let a := arbOf n
        if d.arbProbes a && (d.arb a).pilot.isEmpty && d.coilFree n && (d.ch n).txn.isNone && d.batchMay a [n % 8] then
          d.batchAdmit a [n % 8]
        else d
      else
        let a := seamArb up
        let den := 2 ^ (d.fld F.ARB_PILOT_CFG_AVG a + 1)
        let l := (seamHears up n).filterMap fun (e : Nat × Nat) =>
          if d.rxTakes (8 * a + e.1) then
            (meas.find? fun (m : Nat × Int × Int) => m.1 == e.1).map fun (m : Nat × Int × Int) => (e.2, (⟨m.2.1, m.2.2⟩ : Cx))
          else none
        if l.isEmpty then d
        else (d.each l fun (d : Dev) (e : Nat × Cx) => d.entryBlend den (seamReg up, a, e.1) e.2).seamDue up) s

/-! ### Carrier coherence (R678, R679) -/

/-- The phase error of a PHASE message as a fraction of a turn over 65536 · 2 · 10^10, between -1/2 and 1/2 (R678). -/
def Dev.phaseErr (d : Dev) (carried own : Nat) : Int :=
  let fc : Int := 67800000 + d.fldI F.SYN_TRIM_STEPS
  let t : Int := (((carried : Int) - own) * 20000000000 + d.fld F.PRM_HOP_DELAY * fc * 65536) % 1310720000000000
  if 1310720000000000 ≤ 2 * t then t - 1310720000000000 else t

/-- One step of the carrier phase towards zero error, at most one in 176 µs (R678). -/
def Dev.phaseMove (d : Dev) (e : Int) : Dev :=
  let may : Bool := match d.prom.movedAt with
    | some t => decide (t + 2387 ≤ d.tc)
    | none => true
  if e ≠ 0 ∧ may then
    let c := d.fld F.PRM_PHASE_CORR
    (d.setFld F.PRM_PHASE_CORR 0 0 (if 0 < e then (c + 1) % 1024 else (c + 1023) % 1024)).modProm fun p =>
      { p with movedAt := some d.tc }
  else d

/-- PRM_PHASE (R678, R679): the device's own accumulator, top 16 bits, at the message's arrival; whether the upstream device is
coherent, and whether it has swapped since the last message. -/
def execPrmPhase (w : List Bool) (own : Fin 65536) (coh swapped : Bool) (s : State) : Host.Outcome State Fault Refusal :=
  prmOnUp 5 w (fun pay d =>
    if d.on F.PRM_CTL_PHASE_EN && decide (1 ≤ d.position) then
      let e := d.phaseErr (leAt pay 2 2) own
      let (r, d) := d.quot (e * 36000) 1310720000000000
      let d := d.setFld F.PRM_PHASE_ERR 0 0 (ofInt 16 r)
      let same : Bool := decide (toInt 32 (leAt pay 4 4) = d.fldI F.SYN_TRIM_STEPS)
      let d :=
        if 1310720000000000 * 5 < e.natAbs * 360 ∨ ¬ same ∨ swapped then d.incoherent
        else if e.natAbs * 360 ≤ 1310720000000000 * 2 ∧ (coh ∨ byteAt pay 1 % 16 = 0) then
          let d := d.modProm fun p => { p with cohRun := sat 16 (p.cohRun + 1) }
          if d.prom.cohRun = 16 then d.setOn F.PRM_STAT_COHERENT 0 0 true else d
        else d.modProm fun p => { p with cohRun := 0 }
      d.phaseMove e
    else d) s

/-! ### Gate epochs (R680, R681) -/

/-- An EPOCH has been sent or received: it is recorded, and gives its change time to the lists that wait for one. -/
def Dev.epochTaken (d : Dev) (t num : Nat) : Dev :=
  let d := (d.setPair .PRM_EPOCH_T_L .PRM_EPOCH_T_H 0 0 t).setFld F.PRM_EPOCH_CTL_NUM 0 0 num
  if d.now + 100000 ≤ t then
    (List.range 6).foldl (fun (d : Dev) (p : Nat) =>
      match (d.pav p).gate.pend with
      | some l =>
        if l.follow ∧ bitAt (d.fld F.PRM_EPOCH_CTL_FOLLOW) p then
          d.modGate p fun g => { g with pend := some { l with base := t, follow := false } }
        else d
      | none => d) d
  else d

/-- The EPOCH message for DN. -/
def Dev.epochDue (d : Dev) (t num : Nat) : Dev := d.prmDue false 4 (toLe 8 t ++ toLe 2 num)

/-- SEND of PRM_EPOCH_CTL (R680). -/
def Dev.epochSend (d : Dev) : Dev :=
  let t := d.pair .PRM_EPOCH_T_L .PRM_EPOCH_T_H
  if d.now + 1000000 ≤ t then
    let num := (d.fld F.PRM_EPOCH_CTL_NUM + 1) % 65536
    (d.epochDue t num).epochTaken t num
  else d.setOn F.PRM_EPOCH_CTL_LATE 0 0 true

/-- A write of PRM_EPOCH_CTL. -/
def Dev.epochWrite (d : Dev) (nv : NonVol) (v : Nat) : Dev :=
  (d.plainWrite nv .PRM_EPOCH_CTL 0 0 v).cond (bitAt v 8) Dev.epochSend

/-- EPOCH_SEND (R680): a write of PRM_EPOCH_CTL with SEND set. -/
def execEpochSend (v : Word) (s : State) : Host.Outcome State Fault Refusal :=
  onDev (fun nv d => d.epochWrite nv (setBits v.toNat 8 1 1)) s

/-- PRM_EPOCH (R680, R681): received at UP, recorded and forwarded. -/
def execPrmEpoch (w : List Bool) (s : State) : Host.Outcome State Fault Refusal :=
  prmOnUp 4 w (fun pay d =>
    let t := leAt pay 2 8
    let num := leAt pay 10 2
    (d.epochDue t num).epochTaken t num) s

/-! ### Fault broadcasts (R577, R682) -/

/-- PRM_FAULT (R577, R682): forwarded, posted, and acted upon. -/
def execPrmFault (up : Bool) (w : List Bool) (s : State) : Host.Outcome State Fault Refusal :=
  prmOn up 8 w (fun pay d =>
    let code := leAt pay 2 2
    let cls := byteAt pay 4
    let pos := byteAt pay 5
    let hops := byteAt pay 6
    let d := if pos = d.position ∨ 15 ≤ hops then d else d.broadcast code cls pos (hops + 1) (!up) up
    let d := if pos + 1 = d.position then d.seamLost true else if pos = d.position + 1 then d.seamLost false else d
    let safe : Bool := d.on F.FLT_CTL_REMOTE_SAFE && cls == 3
    d.fault { code := 0x0041, cls := if safe then 3 else 0, kind := 3, value := code + 65536 * (cls % 4), remote := true, pos := pos }) s

end Sys2Proof.Machine
end

