-- ==== Sys2Proof/Machine/RegFind.lean ====
section
/-! DEFINITION. Which register lies at an address of BAR0 (R684 to R686). -/

namespace Sys2Proof.Machine

/-- The unit instance and inner index that an address names in one row of the map. -/
def RegRow.find (w : RegRow) (ofs : Nat) : Option (Nat × Nat) :=
  if ofs < w.base then none
  else
    let r := ofs - w.base
    let i := if w.ostride = 0 then 0 else r / w.ostride
    let r := if w.ostride = 0 then r else r % w.ostride
    let m := if w.mstride = 0 then 0 else r / w.mstride
    let r := if w.mstride = 0 then r else r % w.mstride
    let k := if w.istride = 0 then 0 else r / w.istride
    let r := if w.istride = 0 then r else r % w.istride
    if r = 0 ∧ i < w.ocount ∧ m < w.mcount ∧ k < w.icount then some (i, m * w.icount + k) else none

/-- The register at an address: its name, unit instance and inner index; none where the map has none. -/
def regAt (ofs : Nat) : Option (RegName × Nat × Nat) :=
  regList.findSome? fun r => (r.row.find ofs).map fun (x : Nat × Nat) => (r, x.1, x.2)

end Sys2Proof.Machine
end

