-- ==== Sys2Proof/Machine/Security.lean ====
section
/-! DEFINITION. Gatehouse's descriptors: keys, roots, life-cycle transitions, the regulatory lock, sealed registers, attestation
and debug access (R483 to R518). -/

namespace Sys2Proof.Machine

/-! ### Keys and roots (R486, R487, R500, R504) -/

/-- One valid descriptor's tokens raise the token counter (R504). -/
def NonVol.spendToken (nv : NonVol) : NonVol := { nv with tokenCtr := nv.tokenCtr + 1 }

/-- Install a key: HW keeps its value and M becomes HW + 1,024 (R500). -/
def installKey (nv : NonVol) (d : Dev) (slot : Nat) (key : List Byte) : NonVol × Dev :=
  let nv' := { nv with keys := tblPut nv.keys slot key }
  if slot < 8 then
    let hw := d.markHw nv slot
    ({ nv' with marks := tblSet nv.marks slot (min (hw + 1024) (2 ^ 64 - 1)) 0 },
     { d with sec := { d.sec with hw := tblPut d.sec.hw slot hw } })
  else (nv', d)

/-- The states in which an operation is allowed (R486). -/
def keyStateOk (op life : Nat) : Bool :=
  if op ≤ 2 then [1, 2, 3, 4].contains life else if op = 3 then [1, 2].contains life else [2, 3].contains life

/-- An invalid token completes its descriptor and is counted. -/
def Dev.tokenBad (d : Dev) (q : QDesc) (st : Status) : Dev := (d.authBad st).done q st

/-- OP 0 and 1: a key in clear, or a key token (R486, R503, R504). -/
def keyInstallOp (nv : NonVol) (d : Dev) (q : QDesc) (slot : Nat) : NonVol × Dev :=
  if q.input.length = 32 then
    let r := installKey nv d slot q.input
    (r.1, r.2.done q .ok)
  else if q.input.length = 3144 then
    let t := Token.parse q.input
    match nv.tokenCheck t [2] [1] with
    | some st => (nv, d.tokenBad q st)
    | none =>
      if t.arg ≠ slot then (nv.spendToken, d.done q .badDescriptor)
      else
        let r := installKey nv.spendToken d slot t.payload
        (r.1, r.2.done q .ok)
  else (nv, d.done q .badDescriptor)

/-- The signer class of a root slot: 0 vendor, 1 owner. -/
def rootClass (slot : Nat) : Nat := if slot < 0x30 then 1 else 0

/-- Another slot of a slot's class is written and not revoked (R487). -/
def NonVol.otherRoot (nv : NonVol) (slot : Nat) : Bool :=
  [0x20, 0x21, 0x30, 0x31, 0x32].any fun k => k != slot && rootClass k == rootClass slot && nv.rootLive k

/-- OP 4: a revoke token signed through another unrevoked slot of the same class; the last such slot of a class stays (R487). -/
def revokeOp (nv : NonVol) (d : Dev) (q : QDesc) (slot : Nat) : NonVol × Dev :=
  let t := Token.parse q.input
  if q.input.length ≠ 3144 then (nv, d.done q .badDescriptor)
  else
    match nv.tokenCheck t [4] [rootClass slot] with
    | some st => (nv, d.tokenBad q st)
    | none =>
      if t.arg ≠ slot ∨ !nv.otherRoot slot then (nv.spendToken, d.done q .badDescriptor)
      else if rootCode t.signer t.keyIndex = slot then (nv, d.tokenBad q .authFail)
      else
        let nv := nv.spendToken
        ({ nv with revoked := if nv.revoked.contains slot then nv.revoked else nv.revoked ++ [slot] }, d.done q .ok)

/-- KEY_MANAGE (R486). -/
def Dev.keyManage (d : Dev) (nv : NonVol) (q : QDesc) : NonVol × Dev :=
  let op := byteAt q.d.param 0
  let slot := byteAt q.d.param 1
  if !keySlotOk op slot || !keyStateOk op nv.life then (nv, d.done q .badDescriptor)
  else
    match op with
    | 0 | 1 => keyInstallOp nv d q slot
    | 2 => ({ nv with keys := tblDel nv.keys slot }, d.done q .ok)
    | 3 =>
      if (tblFind nv.roots slot).isSome || q.input.length != 32 then (nv, d.done q .badDescriptor)
      else ({ nv with roots := tblPut nv.roots slot q.input }, d.done q .ok)
    | 4 => revokeOp nv d q slot
    | _ =>
      let v := leNat q.input
      if q.input.length ≠ 4 ∨ v < nv.minVer ∨ d.rd .SEC_BOOT_VER < v then (nv, d.done q .badDescriptor)
      else ({ nv with minVer := v }, d.done q .ok)

/-- KEY_MANAGE (R486). -/
def execKeyManage (s : State) : Host.Outcome State Fault Refusal :=
  onBoth (fun nv d =>
    match d.running 0x3FF 0x39 with
    | none => (nv, d)
    | some q => d.keyManage nv q) s

/-! ### Debug level (R514, R515) -/

/-- The level of a state without a token (R515). -/
def stateLevel (life : Nat) : Nat := [3, 3, 1, 0, 2, 1].getD life 0

/-- The debug level in force (R515). -/
def Dev.debugLevel (d : Dev) (nv : NonVol) : Nat :=
  match d.sec.token with
  | some (l, _) => max l (stateLevel nv.life)
  | none => stateLevel nv.life

/-- A level above 1 has opened (R519, R520). -/
def Dev.debugOpened (d : Dev) (nv : NonVol) (was : Nat) : Dev :=
  if was ≤ 1 ∧ 1 < d.debugLevel nv then (d.setOn F.SEC_STAT_DEBUG_SEEN 0 0 true).setMisc 5 else d

/-- The signer classes of debug tokens in a state; none where a token raises nothing (R515). -/
def debugSigners (life : Nat) : List Nat :=
  if life = 2 then [0, 1] else if life = 3 then [1] else if life = 4 then [0] else []

/-- A debug token (R502, R515). -/
def debugOp (nv : NonVol) (d : Dev) (q : QDesc) (t : Token) : NonVol × Dev :=
  if debugSigners nv.life = [] then (nv, d.done q .badDescriptor)
  else
    match nv.tokenCheck t [3] (debugSigners nv.life) with
    | some st => (nv, d.tokenBad q st)
    | none =>
      let secs := leAt t.payload 0 2
      if 3 < t.arg ∨ secs = 0 then (nv.spendToken, d.done q .badDescriptor)
      else
        let was := d.debugLevel nv
        let d := { d with sec := { d.sec with token := some (t.arg, secs), tokenAt := d.tc } }
        (nv.spendToken, (d.debugOpened nv was).done q .ok)

/-! ### Life-cycle transitions (R505 to R509) -/

/-- The signer classes of a transition's tokens, in order; each entry lists the classes accepted. None: not permitted (R505). -/
def transTokens (src dst : Nat) : Option (List (List Nat)) :=
  match src, dst with
  | 0, 1 => some [[0]]
  | 1, 2 => some [[1]]
  | 2, 3 => some [[1]]
  | 1, 4 | 2, 4 => some [[0]]
  | 3, 4 => some [[1], [0]]
  | 0, 5 | 1, 5 | 4, 5 => some [[0]]
  | 2, 5 => some [[0, 1]]
  | 3, 5 => some [[1]]
  | _, _ => none

/-- The condition of a transition (R505). -/
def NonVol.transOk (nv : NonVol) (dst : Nat) : Bool :=
  if nv.life = 0 ∧ dst = 1 then [0x30, 0x31, 0x32].all fun k => (tblFind nv.roots k).isSome
  else if nv.life = 2 ∧ dst = 3 then nv.regLock else true

/-- The wipe and the fuses of a transition (R506, R508, R512). -/
def NonVol.transit (nv : NonVol) (dst : Nat) : NonVol :=
  let nv := { nv with
    keys := [], images := [], trans := none, life := dst,
    reg := if nv.life = 0 ∧ dst = 1 then some [] else nv.reg
    identity := dst != 5 && (nv.identity || (nv.life == 0 && dst == 1)) }
  if dst = 5 then { nv with revoked := [0x20, 0x21, 0x30, 0x31, 0x32] } else nv

/-- The tokens of a LIFECYCLE descriptor. -/
def lcTokens (input : List Byte) : List Token :=
  if input.length = 3144 then [Token.parse input]
  else if input.length = 6288 then [Token.parse (input.take 3144), Token.parse (input.drop 3144)]
  else []

/-- The first failure among tokens and the classes they must have (R503). -/
def NonVol.tokensBad (nv : NonVol) : List Token → List (List Nat) → Option Status
  | t :: ts, c :: cs =>
    match nv.tokenCheck t [1] c with
    | some st => some st
    | none => nv.tokensBad ts cs
  | _, _ => none

/-- A LIFECYCLE descriptor (R505, R506): `eraseOk` says whether every item read back as erased (R509). The new state's debug level may be
one above 1 (R515, R520). -/
def Dev.lifecycle (d : Dev) (nv : NonVol) (q : QDesc) (eraseOk : Bool) : NonVol × Dev :=
  match lcTokens q.input with
  | [] => (nv, d.done q .badDescriptor)
  | t :: ts =>
    if t.kind = 3 ∧ ts = [] then debugOp nv d q t
    else
      match transTokens nv.life t.arg with
      | none => (nv, d.done q .badDescriptor)
      | some classes =>
        if classes.length ≠ (t :: ts).length ∨ (ts.any fun u => u.arg != t.arg) then (nv, d.done q .badDescriptor)
        else
          match nv.tokensBad (t :: ts) classes with
          | some st => (nv, d.tokenBad q st)
          | none =>
            let nv := nv.spendToken
            if !nv.transOk t.arg then (nv, d.done q .badDescriptor)
            else
              let d := { d.emptyLedger with sec := { d.sec with lcDue := true, lcAt := d.tc } }
              if eraseOk then (nv.transit t.arg, (d.debugOpened (nv.transit t.arg) (d.debugLevel nv)).done q .ok)
              else ({ nv with trans := some t.arg }, d.done q .faultAbort)

/-- LIFECYCLE (R505, R506). -/
def execLifecycle (eraseOk : Bool) (s : State) : Host.Outcome State Fault Refusal :=
  onBoth (fun nv d =>
    match d.running 0x3FF 0x3A with
    | none => (nv, d)
    | some q => if d.sec.lcDue then (nv, d) else d.lifecycle nv q eraseOk) s

/-! ### The regulatory lock and sealed registers (R510 to R512) -/

/-- The registers of the regulatory fields (R376). -/
def regKeys : List (RegName × Nat × Nat) :=
  [(.SYN_TRIM_MIN, 0, 0), (.SYN_TRIM_MAX, 0, 0)] ++ (List.range 6).flatMap (fun p => [(.PAV_LOCK, p, 0), (.SHP_CH_EN_LOCK, 0, p)]) ++
    allChans.map fun n => (.CH_PWR_LIM, n, 0)

/-- The regulatory values in force, as a record (R512). -/
def Dev.regRecord (d : Dev) : Tbl Nat :=
  regKeys.foldl (fun (t : Tbl Nat) (x : RegName × Nat × Nat) =>
    tblSet t (regKey x.1 x.2.1 x.2.2) (d.rd x.1 x.2.1 x.2.2) (regReset x.1 x.2.2)) []

/-- REG_LOCK (R512). -/
def execRegLock (s : State) : Host.Outcome State Fault Refusal :=
  onBoth (fun nv d =>
    match d.running 0x3FF 0x3B with
    | none => (nv, d)
    | some q =>
      if nv.life = 0 then (nv, d.done q .limitRefused)
      else if nv.regLock then (nv, d.done q .ok)
      else ({ nv with reg := some d.regRecord, regLock := true }, d.done q .ok)) s

/-- A channel whose bit in CH_EN_LOCK has become 0 loses its field (R90, R372). -/
def Dev.enLockTail (d : Dev) (p was : Nat) : Dev :=
  (d.each ((pavChans p).filter fun n => bitAt was (n % 32) && !d.enLock n) fun d n =>
    (d.cutCoil n .hard .limitRefused).strike n .hard .limitRefused).retry p

/-- What follows a change of a sealed register. -/
def Dev.sealedTail (d : Dev) (r : RegName) (i j was : Nat) : Dev :=
  match r with
  | .PAV_LOCK => (d.fitBudget i).retry i
  | .CH_PWR_LIM => d.limTail i ((d.wr .CH_PWR_LIM i 0 was).limNow i)
  | .SHP_CH_EN_LOCK => d.enLockTail j was
  | _ => d

/-- A sealed write changes a regulatory field outside its conditions (R510). -/
def sealBad (nv : NonVol) (r : RegName) (cur v : Nat) : Bool :=
  (fieldRows r).any fun (f : FldRow) => f.acc == .rwl && !nv.sealOpen f && inRange f.rng (bits v f.fld.lo f.fld.w) &&
    bits v f.fld.lo f.fld.w != bits cur f.fld.lo f.fld.w

/-- A sealed write (R510, R511): the register at OFFSET becomes (old AND NOT MASK) OR (VALUE AND MASK). The status refuses it where
it names no sealed register or would change a regulatory field outside its conditions. -/
def Dev.sealedApply (d : Dev) (nv : NonVol) (ofs value mask : Nat) : Status × NonVol × Dev :=
  match regAt ofs with
  | none => (.badDescriptor, nv, d)
  | some (r, i, j) =>
    if !sealedRegs.contains r then (.badDescriptor, nv, d)
    else
      let cur := d.rd r i j
      let v := (cur &&& (0xFFFFFFFF ^^^ mask)) ||| (value &&& mask)
      if sealBad nv r cur v then (.limitRefused, nv, d)
      else
        let new := (fieldRows r).foldl (fun (c : Nat) (f : FldRow) => f.put (nv.sealOpen f) c v) cur
        let d := if new = cur then d else (d.wr r i j new).sealedTail r i j cur
        let nv := if r = .SEC_BOOT_CTL then { nv with prefer := new % 2 } else nv
        let d := d.cond (r == .SEC_BOOT_CTL && bits v 16 16 == 0x5EC0) fun d => d.resetBy 7
        (.ok, nv, d)

/-- SEALED_WRITE (R510, R511): one that writes REBOOT resets the device, and its descriptor with it (R494). -/
def execSealedWrite (s : State) : Host.Outcome State Fault Refusal :=
  onBoth (fun nv d =>
    match d.running 0x3FF 0x3C with
    | none => (nv, d)
    | some q =>
      match d.sealedApply nv (leAt q.d.param 0 4) (leAt q.d.param 4 4) (leAt q.d.param 8 4) with
      | (st, nv, d) => (nv, d.cond (d.pwr.boot != .held) fun d => d.done q st)) s

/-! ### Attestation (R513) -/

/-- SEC_OTP: written and revoked root slots (R519). -/
def NonVol.otpBits (nv : NonVol) : Nat :=
  let slots := [0x30, 0x31, 0x32, 0x20, 0x21]
  let sum (f : Nat → Bool) : Nat := (slots.zipIdx.map fun (x : Nat × Nat) => if f x.1 then 2 ^ x.2 else 0).foldl (· + ·) 0
  sum (fun k => (tblFind nv.roots k).isSome) + 256 * sum (fun k => nv.revoked.contains k)

/-- One bit per installed key of `n` slots from a base (R519). -/
def NonVol.keyBits (nv : NonVol) (base n : Nat) : Nat :=
  ((List.range n).map fun k => if (nv.key (base + k)).isSome then 2 ^ k else 0).foldl (· + ·) 0

/-- The first 2,312 bytes of an attestation report (R513). -/
def Dev.attestBody (d : Dev) (nv : NonVol) (nonce : List Byte) : List Byte :=
  let id := padTo 1793 Config.idPublic
  let head := toLe 4 0x54415A41 ++ toLe 2 1 ++ toLe 1 nv.life ++
    toLe 1 (d.fld F.SEC_BOOT_SLOT + 2 * d.fld F.SEC_BOOT_SIGNER + 4 * d.fld F.SEC_BOOT_KEY_INDEX) ++ toLe 8 nv.serial ++
    toLe 8 d.now ++
    toLe 1 (d.fld F.TIME_STAT_LOCK + 2 * b2n nv.regLock + 4 * d.debugLevel nv + 16 * d.fld F.SEC_STAT_DEBUG_SEEN)
  let b := padTo 28 head ++ toLe 4 (d.rd .SEC_BOOT_VER) ++ toLe 4 nv.minVer ++ toLe 4 nv.otpBits ++ padTo 16 nonce ++
    padTo 32 d.sec.manDigest ++ shake256 (Config.regRecord (nv.reg.getD []) nv.regLock) ++ toLe 1 (nv.keyBits 0 8) ++
    toLe 1 (nv.keyBits 0x10 4)
  let marks := (List.range 8).flatMap fun k => toLe 8 (tblGet nv.marks k 0)
  padTo 2312 (padTo 512 (padTo 128 b ++ marks ++ shake256 id) ++ id)

/-- The attestation report (R513). -/
def Dev.attest (d : Dev) (nv : NonVol) (nonce : List Byte) : List Byte :=
  let b := d.attestBody nv nonce
  let cert := padTo 64 (toLe 8 nv.serial ++ shake256 (padTo 1793 Config.idPublic) ++ toLe 1 Config.certKeyIndex)
  b ++ padTo 1280 (Config.falconSign b) ++ cert ++ padTo 1280 Config.certSig

/-- ATTEST (R513). -/
def execAttest (s : State) : Host.Outcome State Fault Refusal :=
  onDev (fun nv d =>
    match d.running 0x3FF 0x38 with
    | none => d
    | some q =>
      if nv.life = 0 then d.done q .notReady
      else if q.d.bufLen < 4936 then d.done q .bufferShort { result := .bufferShort, len := 4936 }
      else d.doneOut q (d.attest nv (q.d.param.take 16))) s

/-! ### Debug access (R515, R517, R518) -/

/-- What JTAG's IDCODE reads on silicon revision B0, at every level (R514). -/
def jtagIdcode : Nat := 0x10192A6D

/-- DEBUG_TOKEN_EXPIRY (R515): at the end of the token's duration. -/
def execDebugTokenExpiry (s : State) : Host.Outcome State Fault Refusal :=
  onDev (fun _ d =>
    match d.sec.token with
    | some (_, secs) =>
      let d := d.runTo (d.sec.tokenAt + secs * 1000 * tcMs)
      { d with sec := { d.sec with token := none } }
    | none => d) s

/-- DEBUG_HALT (R518, R660): units 0 to 5 are the sequencers, 6 is Trellis. It needs level 2. A sequencer halts once no
transaction of its pavilion is in progress (`Dev.halted`); until then it starts none. -/
def execDebugHalt (unit : Fin 7) (s : State) : Host.Outcome State Fault Refusal :=
  onDev (fun nv d =>
    if d.debugLevel nv < 2 then d
    else if unit.val = 6 then { d with pwr := { d.pwr with frozen := true } }
    else d.modPav unit fun x => { x with haltAsk := true }) s

/-- DEBUG_HALT_RELEASE (R518, R660). -/
def execDebugHaltRelease (unit : Fin 7) (s : State) : Host.Outcome State Fault Refusal :=
  onDev (fun _ d =>
    if unit.val = 6 then { d with pwr := { d.pwr with frozen := false } }
    else (d.modPav unit fun x => { x with haltAsk := false }).retry unit) s

/-- EXTEST (R517): an instruction that drives pins comes into force, which needs level 1, or leaves it. -/
def execExtest (on : Bool) (s : State) : Host.Outcome State Fault Refusal :=
  onDev (fun nv d =>
    if on then
      if d.debugLevel nv = 0 then d
      else ({ d with pwr := { d.pwr with extest := true } }).cutChans d.chanKeys
    else ({ d with pwr := { d.pwr with extest := false } }).retryAll) s

end Sys2Proof.Machine
end

