-- ==== Sys2Proof/Machine/Readback.lean ====
section
/-! DEFINITION. Reading the set-up registers: fields that show the state of a unit, and the shadows of each access path (R7, R9,
R54, R128, R657, R685, R692, R693). -/

namespace Sys2Proof.Machine

/-- Bits of a mask from a condition on each index. -/
def maskOf (n : Nat) (f : Nat → Bool) : Nat := (List.range n).foldl (fun a k => if f k then a + 2 ^ k else a) 0

/-! ### Fields that show a unit's state -/

/-- The die temperature with which the calibration engine works, in 0.25 °C (R546). -/
def Dev.calTemp (d : Dev) : Int := d.fldI F.CAL_TEMP_DIE

/-- The device state, coded as PWR_STAT.DEV (R586). -/
def Dev.devState (d : Dev) : Nat :=
  if (List.range 6).all (fun p => (d.pav p).state == .active) then 0 else if d.devWatch then 2 else 1

/-- Supplies, REFCLK and Tj lie within R698 as last observed (R561, log entry 45): a rail not yet measured counts as within. -/
def Dev.recommended (d : Dev) : Bool :=
  let t := d.fldI F.PWR_TEMP_DIE
  let core := d.fld F.PWR_CORE_MV
  d.syn.refOk && decide (-160 ≤ t) && decide (t ≤ 440) && (core == 0 || decide (650 ≤ core) && decide (core ≤ 850)) &&
    (List.range 6).all fun p =>
      let v := d.fld F.PAV_VDRV_MEAS p
      d.fld F.PAV_VDRV_NOM p == 0 || v == 0 || decide (50 ≤ v) && decide (v ≤ 120)

/-- The conditions of the guarantee (R561). -/
def Dev.guar (d : Dev) (nv : NonVol) : Bool :=
  d.recommended && d.on F.FLT_STAT_POST_PASS && d.on F.FLT_STEST_EN && decide (d.fld F.FLT_STEST_PERIOD ≤ 1000) &&
    d.on F.FLT_SCRUB_EN && decide (d.debugLevel nv ≤ 1)

/-- Fields of the SYS, PWR, SYN, TMR, KSK and PRM units. -/
def Dev.showDevice (d : Dev) (r : RegName) (i j : Nat) : List (Fld × Nat) :=
  match r with
  | .SYS_TAGMEM_STAT => [(F.SYS_TAGMEM_STAT_FREE, d.pagesFree), (F.SYS_TAGMEM_STAT_SHADOW, d.pagesShadow)]
  | .SYS_TAGMEM_PERSIST => [(F.SYS_TAGMEM_PERSIST_PAGES, d.pagesKept)]
  | .SYS_SESS_STAT => [(F.SYS_SESS_STAT_ACTIVE, d.sesActive)]
  | .LDG_EH => [(F.LDG_EH_ACTIVE, b2n d.ehWakePin)]
  | .SYS_LEDGER_STAT =>
    let l := d.ledger
    [(F.SYS_LEDGER_STAT_ATTACHED, b2n l.att), (F.SYS_LEDGER_STAT_KEY_SLOT, l.key),
     (F.SYS_LEDGER_STAT_LOG2_ENTRIES, Nat.log2 l.entries), (F.SYS_LEDGER_STAT_PENDING, l.pend.length)]
  | .SYS_LEDGER_BASE_L => [(F.SYS_LEDGER_BASE_L_ADDR, d.ledger.base % 2 ^ 32)]
  | .SYS_LEDGER_BASE_H => [(F.SYS_LEDGER_BASE_H_ADDR, d.ledger.base / 2 ^ 32)]
  | .PWR_STAT => [(F.PWR_STAT_DEV, d.devState), (F.PWR_STAT_VDRV_WARN, maskOf 6 fun p => (d.pav p).dip)]
  | .PWR_PAV =>
    let x := d.pav j
    [(F.PWR_PAV_STATE, x.state.code), (F.PWR_PAV_TEMP_ACTIVE, b2n x.temp),
     (F.PWR_PAV_PENDING, b2n (x.state == .active && x.change.any fun c => c.dest != .active))]
  | .SYN_STAT =>
    [(F.SYN_STAT_A_STATE, d.syn.a.ctorIdx), (F.SYN_STAT_B_STATE, d.syn.b.ctorIdx), (F.SYN_STAT_ACTIVE_UNIT, b2n d.syn.activeB)]
  | .TIME_NOW_NS => [(F.TIME_NOW_NS_NS, d.nowFull % 10 ^ 9)]
  | .TMR_STAT =>
    [(F.TMR_STAT_PEND, b2n ((d.tmr i).perHold || (d.tmr i).cmpHold)), (F.TMR_STAT_FROZEN, b2n (d.tmrFrozen i))]
  | .PRM_STAT => [(F.PRM_STAT_SEAM_ON, b2n (d.seamOn true || d.seamOn false))]
  | _ => []

/-- Fields of the SEC, FLT, SHP and HIF units. -/
def Dev.showGuard (d : Dev) (nv : NonVol) (r : RegName) (i : Nat) : List (Fld × Nat) :=
  let slot := d.fld F.SEC_CK_SEL_SLOT
  let m := tblGet nv.marks slot 0
  let hw := tblGet d.sec.hw slot m
  match r with
  | .SEC_LC => [(F.SEC_LC_STATE, nv.life)]
  | .SEC_SERIAL_L => [(F.SEC_SERIAL_L_SERIAL, nv.serial % 2 ^ 32)]
  | .SEC_SERIAL_H => [(F.SEC_SERIAL_H_SERIAL, nv.serial / 2 ^ 32)]
  | .SEC_MINVER => [(F.SEC_MINVER_VERSION, nv.minVer)]
  | .SEC_BOOT_CTL => [(F.SEC_BOOT_CTL_PREFER, nv.prefer)]
  | .SEC_OTP => [(F.SEC_OTP_WRITTEN, nv.otpBits % 32), (F.SEC_OTP_REVOKED, nv.otpBits / 256)]
  | .SEC_CK_STAT => [(F.SEC_CK_STAT_CK_LOADED, nv.keyBits 0 8), (F.SEC_CK_STAT_LK_LOADED, nv.keyBits 0x10 4)]
  | .SEC_CK_MARK_L => [(F.SEC_CK_MARK_L_M, m % 2 ^ 32)]
  | .SEC_CK_MARK_H => [(F.SEC_CK_MARK_H_M, m / 2 ^ 32)]
  | .SEC_CK_HW_L => [(F.SEC_CK_HW_L_HW, hw % 2 ^ 32)]
  | .SEC_CK_HW_H => [(F.SEC_CK_HW_H_HW, hw / 2 ^ 32)]
  | .SEC_TOKEN_CTR_L => [(F.SEC_TOKEN_CTR_L_CTR, nv.tokenCtr % 2 ^ 32)]
  | .SEC_TOKEN_CTR_H => [(F.SEC_TOKEN_CTR_H_CTR, nv.tokenCtr / 2 ^ 32)]
  | .SEC_DEBUG => [(F.SEC_DEBUG_LEVEL, d.debugLevel nv)]
  | .FLT_STAT =>
    [(F.FLT_STAT_SAFE, b2n d.pwr.safe), (F.FLT_STAT_GUAR, b2n (d.guar nv)),
     (F.FLT_STAT_ISO_ANY, b2n ((List.range 6).any (fun p => d.rd .FLT_ISO_CH 0 p != 0) || d.rd .FLT_ISO_PAV != 0))]
  | .SHP_LOCK_STAT => [(F.SHP_LOCK_STAT_REG_LOCK, b2n nv.regLock)]
  | .HIF_RING_STAT =>
    [(F.HIF_RING_STAT_FULL, b2n (decide (32 ≤ i) && d.on F.HIF_RING_CFG_EN i && !d.ringRoom i))]
  | .HIF_RING_TOKENS => [(F.HIF_RING_TOKENS_TOKENS, d.polNow i / 13560000)]
  | .HIF_CAP_LOAD => [(F.HIF_CAP_LOAD_STREAMS, d.streams.countP fun n => (d.ch n).cap.any (·.running))]
  | .HIF_CAP_FABRIC =>
    [(F.HIF_CAP_FABRIC_KSPS, fabricKsps (d.fldI F.SYS_TRELLIS_MARGIN_MARGIN)),
     (F.HIF_CAP_FABRIC_SUSPENDED, d.streams.countP fun n => (d.ch n).cap.any Cap.held)]
  | .HIF_DEVQ => [(F.HIF_DEVQ_USED, d.host.devQ.held.length)]
  | _ => []

/-- The operational entry in force (R360). -/
def Dev.gateEntry (d : Dev) (p : Nat) : Nat :=
  match (d.pav p).gate.mode, (d.pav p).gate.oper with
  | .oper, some l => ((gateSegs l.cycle 0 l.entries).findIdx? fun s => decide (cycleOff d.now l.base l.cycle < s.2.1)).getD 0
  | _, _ => 0

/-- PAV_GATE_CHG: the pending change time, or OPER_BASE once applied. -/
def Gate.chg (g : Gate) : Nat :=
  match g.pend, g.oper with
  | some l, o => if l.follow then (o.map (·.base)).getD 0 else l.base
  | none, some l => l.base
  | none, none => 0

/-- An operational entry (R360). -/
def Gate.operEntry (g : Gate) (e : Nat) : Nat × Nat × Bool := (g.oper.map fun l => l.entries.getD e (0, 0, false)).getD (0, 0, false)

/-- Fields of a pavilion. -/
def Dev.showPav (d : Dev) (r : RegName) (p e : Nat) : List (Fld × Nat) :=
  let x := d.pav p
  match r with
  | .PAV_VDRV => [(F.PAV_VDRV_WARN, b2n (d.vdrvBelow p))]
  | .PAV_VDRV_STAT =>
    [(F.PAV_VDRV_STAT_RETURN, b2n (x.dip && decide (d.fld F.PAV_VDRV_NOM p * 92 < d.fld F.PAV_VDRV_MEAS p * 100)))]
  | .PAV_SEQ_CTL => [(F.PAV_SEQ_CTL_RUN, maskOf 16 fun k => (tblFind x.runs k).isSome)]
  | .PAV_SEQ_STAT =>
    [(F.PAV_SEQ_STAT_PROGS, maskOf 16 fun k => (tblFind x.progs k).isSome),
     (F.PAV_SEQ_STAT_SCRIPTS, maskOf 16 fun k => (tblFind x.scripts k).isSome)]
  | .PAV_GATE_STAT =>
    [(F.PAV_GATE_STAT_OPER_VALID, b2n x.gate.oper.isSome), (F.PAV_GATE_STAT_PENDING, b2n x.gate.pend.isSome),
     (F.PAV_GATE_STAT_FALLBACK, b2n (x.gate.mode == .fallback)), (F.PAV_GATE_STAT_ENTRY, d.gateEntry p),
     (F.PAV_GATE_STAT_OPEN, maskOf 4 fun k => (d.gateRemain p k 0).isSome),
     (F.PAV_GATE_STAT_OPER_LEN, (x.gate.oper.map (·.entries.length)).getD 0)]
  | .PAV_GATE_CHG_L => [(F.PAV_GATE_CHG_L_NS, x.gate.chg % 2 ^ 32)]
  | .PAV_GATE_CHG_H => [(F.PAV_GATE_CHG_H_NS, x.gate.chg / 2 ^ 32)]
  | .PAV_GATE_OPER_CYCLE => [(F.PAV_GATE_OPER_CYCLE_NS, (x.gate.oper.map (·.cycle)).getD 0)]
  | .PAV_COEX => [(F.PAV_COEX_GNT, b2n x.gntPin), (F.PAV_COEX_REQ, b2n x.req)]
  | .PAV_GCL_OPER_D => [(F.PAV_GCL_OPER_D_DURATION, (x.gate.operEntry e).1)]
  | .PAV_GCL_OPER_M =>
    [(F.PAV_GCL_OPER_M_OPEN, (x.gate.operEntry e).2.1), (F.PAV_GCL_OPER_M_PRI, b2n (x.gate.operEntry e).2.2)]
  | _ => []

/-- Fields of an arbour. -/
def Dev.showArb (d : Dev) (r : RegName) (a g : Nat) : List (Fld × Nat) :=
  match r with
  | .ARB_GRANT => [(F.ARB_GRANT_ACTIVE, b2n (d.arb a).grant)]
  | .ARB_FG_STAT =>
    (if d.fld F.ARB_FG_CTL_MODE a g = 2 then [] else [(F.ARB_FG_STAT_NULL_DEPTH, 0)]) ++
    [(F.ARB_FG_STAT_RUNNING, b2n ((arbChans a).any fun n =>
      match (d.ch n).txn with
      | some t => t.phase != .waiting && t.fg == some g
      | none => false))]
  | _ => []

/-- Work of a channel waits for outbound room (R428, R717). -/
def Dev.outWaits (d : Dev) (n : Nat) : Bool :=
  let c := d.ch n
  !c.outq.waiting.isEmpty ||
    (match c.txn with
     | some t => t.phase == .waiting && (decide (d.outFree n < t.need) || !c.dataWait.isEmpty)
     | none => !c.tq.q.isEmpty && !d.takeRoom n) ||
    c.tq.run.any fun q => q.d.op == 0x02 && d.calHeld q && (decide (d.outFree n < 4) || !c.dataWait.isEmpty)

/-- The index of a temperature set; 7 none. -/
def setIx (x : Option (Nat × Int × List Int)) : Nat := (x.map (·.1)).getD 7

/-- The temperature of a set as its register holds it; 0 where there is none. -/
def NonVol.setTemp (nv : NonVol) (n k : Nat) : Nat :=
  match (nv.sets n).find? fun (x : Nat × Int × List Int) => x.1 == k with
  | some x => ofInt 10 x.2.1
  | none => 0

/-- Fields of a channel's transmit side, role and airtime. -/
def Dev.showTx (d : Dev) (r : RegName) (n : Nat) : List (Fld × Nat) :=
  let c := d.ch n
  match r with
  | .CH_ROLE =>
    [(F.CH_ROLE_ROLE, c.role.ctorIdx), (F.CH_ROLE_HOME, (if c.borrowed then c.home else c.role).ctorIdx), (F.CH_ROLE_GEN, c.gen),
     (F.CH_ROLE_BORROWED, b2n c.borrowed), (F.CH_ROLE_PENDING, b2n (!c.roleQ.isEmpty || d.roleNext n))]
  | .CH_SESS =>
    let l := d.sessionsOf n
    [(F.CH_SESS_SESS0, l.getD 0 0x1FF), (F.CH_SESS_SESS1, l.getD 1 0x1FF)]
  | .CH_ADM_STAT =>
    let waits : Bool := c.txn.any fun t => t.phase == .waiting
    -- what a priority probe of this coil has set aside waits too, for that probe's sake (R185)
    let probed : Bool := c.aside.isSome && c.txn.any fun t => t.work == .pilot
    let asks : Bool := c.txn.any fun t => t.phase == .waiting && d.asks n t
    [(F.CH_ADM_STAT_WAIT, b2n (waits || c.aside.isSome)),
     (F.CH_ADM_STAT_CAUSE, if probed then 32 else if asks then d.fld F.CH_ADM_STAT_CAUSE n else 0)]
  | .CH_FIELD_STAT =>
    [(F.CH_FIELD_STAT_ON, b2n (d.coilOn n)),
     (F.CH_FIELD_STAT_LVL_NOW, if d.coilOn n then ((d.drivenNow n).map (·.lvl)).getD 0xFF else 0xFF)]
  | .CH_FEN_STAT =>
    [(F.CH_FEN_STAT_A_REQ, b2n (d.chainA n)), (F.CH_FEN_STAT_B_ALLOW, b2n (d.chainB n)),
     (F.CH_FEN_STAT_DRIVING, b2n (d.coilOn n && d.chainA n && d.chainB n)), (F.CH_FEN_STAT_B_CAUSE, d.bCause n)]
  | .CH_ADAPT_STAT => if d.on F.CH_ADAPT_LVL_EN n then [] else [(F.CH_ADAPT_STAT_LVL_NOW, 0xFF), (F.CH_ADAPT_STAT_ACTIVE, 0)]
  | .CH_TUNE_STAT =>
    [(F.CH_TUNE_STAT_AT_SPAN, b2n (decide (d.fld F.CH_TUNE_CTL_SPAN n ≤
      (d.fldI F.CH_TUNE_SER n - d.fldI F.CH_TUNE_CAL_SER n).natAbs)))]
  | .CH_SEQ_STAT =>
    [(F.CH_SEQ_STAT_PROG, c.prog.getD 31), (F.CH_SEQ_STAT_PRESENT, c.presence.length),
     (F.CH_SEQ_STAT_PHASE, match c.prog with
       | some k => ((tblFind (d.pav (pavOf n)).progs k).map fun g => phaseOf g n).getD 0
       | none => 0)]
  | .CH_LSN_STAT =>
    [(F.CH_LSN_STAT_FIELD, b2n c.lsn.field), (F.CH_LSN_STAT_STATE, c.lsn.state.ctorIdx),
     (F.CH_LSN_STAT_FREQ_OFS, ofInt 16 (clampInt (-32768) 32767 c.lsn.freq))]
  | _ => []

/-- Fields of a channel's receive side, streams and calibration. -/
def Dev.showRx (d : Dev) (nv : NonVol) (r : RegName) (n : Nat) : List (Fld × Nat) :=
  let c := d.ch n
  let cp := c.cap.getD {}
  let run : Bool := c.cap.any (·.running)
  match r with
  | .CH_CAP_STAT =>
    [(F.CH_CAP_STAT_STATE, if c.cap.isNone then 0 else if !run then 1 else if cp.held then 3 else 2),
     (F.CH_CAP_STAT_CAUSE, b2n cp.susFab + 2 * b2n cp.susLink + 4 * b2n cp.susBuf + 8 * b2n cp.susBor)]
  | .CH_CAP_IDX_L => [(F.CH_CAP_IDX_L_IDX, cp.idx % 2 ^ 32)]
  | .CH_CAP_IDX_H => [(F.CH_CAP_IDX_H_IDX, cp.idx / 2 ^ 32)]
  | .CH_OUTQ =>
    [(F.CH_OUTQ_USED, c.outq.count 0), (F.CH_OUTQ_WAIT, b2n (d.outWaits n)), (F.CH_OUTQ_DATA, b2n (!c.dataWait.isEmpty))]
  | .CH_RX_CTL => [(F.CH_RX_CTL_COMB, b2n (d.combNow n))]
  | .CH_RX_LAT => [(F.CH_RX_LAT_TC, d.rxLat n / 4), (F.CH_RX_LAT_QUARTER, d.rxLat n % 4)]
  | .CH_RX_EST_F_PH => [(F.CH_RX_EST_F_PH_HELD, b2n (d.estHeld n))]
  | .CH_RX_CAP =>
    [(F.CH_RX_CAP_RUN, b2n run), (F.CH_RX_CAP_POINT, if run then cp.point else 0),
     (F.CH_RX_CAP_DOUBLE, b2n (run && decide (3390000 * rateUnit < d.capRate n)))]
  | .CH_CUP_EYE => [(F.CH_CUP_EYE_WITHIN, b2n (d.cupWithin n))]
  | .CH_CAL_SETS =>
    let l := nv.sets n
    [(F.CH_CAL_SETS_VALID, maskOf 5 fun k => l.any fun (x : Nat × Int × List Int) => x.1 == k),
     (F.CH_CAL_SETS_LOWER, setIx (setLower l d.calTemp)), (F.CH_CAL_SETS_UPPER, setIx (setUpper l d.calTemp)),
     (F.CH_CAL_SETS_REF_VALID, b2n (nv.record (recKey 2 n 0)).isSome)]
  | .CH_CAL_SET_T0 => [(F.CH_CAL_SET_T0_T0, nv.setTemp n 0), (F.CH_CAL_SET_T0_T1, nv.setTemp n 1)]
  | .CH_CAL_SET_T2 => [(F.CH_CAL_SET_T2_T2, nv.setTemp n 2), (F.CH_CAL_SET_T2_T3, nv.setTemp n 3)]
  | .CH_CAL_SET_T4 => [(F.CH_CAL_SET_T4_T4, nv.setTemp n 4)]
  | .CH_CAL_DRIP => [(F.CH_CAL_DRIP_HELD, b2n (d.dripHeld n))]
  | _ => []

/-! ### Fields that show a quantity in a coarser unit: numerator and denominator, the rounding left open (log entry 1) -/

/-- The age of a column in ms; none where it has none (R188). -/
def Dev.colAge (d : Dev) (a k : Nat) : Int × Nat :=
  match tblFind (d.arb a).colAt k with
  | some t => if 0xFFFF * tcMs ≤ d.tc - t then (0xFFFF, 1) else ((d.tc - t : Nat), tcMs)
  | none => (0xFFFF, 1)

/-- Such fields of a register. -/
def Dev.showUnits (d : Dev) (r : RegName) (i j : Nat) : List (Fld × Int × Nat) :=
  match r with
  | .PAV_BKT_LEVEL => [(F.PAV_BKT_LEVEL_TOKENS, d.tokensNow i, 13560)]
  | .PAV_BKT_RSV => [(F.PAV_BKT_RSV_RESERVED, ((d.pav i).rsv : Nat), 13560)]
  | .CH_SHP_CREDIT => [(F.CH_SHP_CREDIT_CREDIT, d.creditAtNow i, 13560)]
  | .CH_DUTY => [(F.CH_DUTY_ON_US, (d.dutyTc i * 100 : Nat), 1356)]
  | .ARB_CM_AGE => [(F.ARB_CM_AGE_AGE_LO, d.colAge i (2 * j)), (F.ARB_CM_AGE_AGE_HI, d.colAge i (2 * j + 1))]
  | .HIF_CAP_LOAD => [(F.HIF_CAP_LOAD_KSPS, (d.rateSum (d.streams.filter fun n => (d.ch n).cap.any (·.running)) : Nat), 1000 * rateUnit)]
  | .CH_CAP_STAT =>
    [(F.CH_CAP_STAT_FILL, ((((d.ch i).cap.getD {}).buf.map fun (b : Nat × List Byte) => b.2.length).foldl (· + ·) 0 : Nat), 64)]
  | .KSK_STAT => if d.tc < d.ksk.busyTo then [(F.KSK_STAT_BUSY, 1, 2)] else []
  | .SEC_DEBUG =>
    match d.sec.token with
    | some (_, secs) =>
      let left := secs * 13560000 - (d.tc - d.sec.tokenAt)
      [(F.SEC_DEBUG_REMAIN, (min left (0xFFFF * 13560000) : Nat), 13560000)]
    | none => []
  | _ => []

/-- The value a register shows (R7). -/
def Dev.show_ (d : Dev) (nv : NonVol) (r : RegName) (i j : Nat) : Nat × Dev :=
  let l := d.showDevice r i j ++ d.showGuard nv r i ++ d.showPav r i j ++ d.showArb r i j ++ d.showTx r i ++ d.showRx nv r i
  let v := l.foldl (fun c (x : Fld × Nat) => setBits c x.1.lo x.1.w x.2) (d.rd r i j)
  (d.showUnits r i j).foldl (fun (a : Nat × Dev) (x : Fld × Int × Nat) =>
    let (q, e) := a.2.quot x.2.1 x.2.2
    (setBits a.1 x.1.lo x.1.w (ofInt x.1.w q), e)) (v, d)

/-! ### Shadows (R54, R128, R657, R692, R693) -/

/-- The high partner of a low register (R692). -/
def pairHigh (r : RegName) : Option RegName :=
  match r with
  | .SYS_LEDGER_BASE_L => some .SYS_LEDGER_BASE_H
  | .SYS_LEDGER_HITS_L => some .SYS_LEDGER_HITS_H
  | .SYS_LEDGER_MISS_L => some .SYS_LEDGER_MISS_H
  | .TMR_SC_L => some .TMR_SC_H
  | .PRM_EPOCH_T_L => some .PRM_EPOCH_T_H
  | .SEC_SERIAL_L => some .SEC_SERIAL_H
  | .SEC_CK_MARK_L => some .SEC_CK_MARK_H
  | .SEC_CK_HW_L => some .SEC_CK_HW_H
  | .SEC_TOKEN_CTR_L => some .SEC_TOKEN_CTR_H
  | .FLT_FIRST_T_L => some .FLT_FIRST_T_H
  | .LDG_SLEEP_TICKS_L => some .LDG_SLEEP_TICKS_H
  | .HIF_RING_BASE_L => some .HIF_RING_BASE_H
  | .PAV_GATE_BASE_L => some .PAV_GATE_BASE_H
  | .PAV_GATE_CHG_L => some .PAV_GATE_CHG_H
  | .CH_CAP_IDX_L => some .CH_CAP_IDX_H
  | .CH_RX_EST_F_AMP => some .CH_RX_EST_F_PH
  | _ => none

/-- The shadows of a path. -/
def Dev.shadows (d : Dev) (ksk : Bool) : Tbl Nat := if ksk then d.ksk.shKsk else d.ksk.shPci

/-- Change the shadows of a path. -/
def Dev.modShadows (d : Dev) (ksk : Bool) (f : Tbl Nat → Tbl Nat) : Dev :=
  { d with ksk := if ksk then { d.ksk with shKsk := f d.ksk.shKsk } else { d.ksk with shPci := f d.ksk.shPci } }

/-- A read of a register by a path: PCI Express, or with true Kiosk. -/
def Dev.readReg (d : Dev) (nv : NonVol) (ksk : Bool) (r : RegName) (i j : Nat) : Nat × Dev :=
  let sec := if ksk then d.time.secKsk else d.time.secPci
  let cap := if ksk then (d.tmr i).capKsk else (d.tmr i).capPci
  match r with
  | .TIME_NOW_NS => d.readNowNs ksk
  | .TIME_NOW_SL => (sec % 2 ^ 32, d)
  | .TIME_NOW_SH => (sec / 2 ^ 32 % 2 ^ 16, d)
  | .TMR_CAP => d.readCap i ksk
  | .TMR_CAP_TL => (cap % 2 ^ 32, d)
  | .TMR_CAP_TH => (cap / 2 ^ 32 % 2 ^ 32, d)
  | _ =>
    match tblFind (d.shadows ksk) (regKey r i j) with
    | some v =>
      let (w, e) := d.show_ nv r i j
      (if r = .CH_RX_EST_F_PH then setBits w 0 16 v else v, e.modShadows ksk fun t => tblDel t (regKey r i j))
    | none =>
      match pairHigh r with
      | some h =>
        let hi := (d.show_ nv h i j).1
        let (v, e) := d.show_ nv r i j
        (v, e.modShadows ksk fun t => tblPut t (regKey h i j) hi)
      | none => d.show_ nv r i j

/-- A read of a BAR0 address: 0 where the map has no register (R685). -/
def Dev.readAddr (d : Dev) (nv : NonVol) (ksk : Bool) (addr : Nat) : Nat × Dev :=
  match regAt addr with
  | some (r, i, j) => d.readReg nv ksk r i j
  | none => (0, d)

/-! ### Meanings -/

/-- EST_F_AMP_READ (R128, R693). -/
def execEstFAmpRead (ch : Fin 192) (kiosk : Bool) (s : State) : Host.Outcome State Fault Refusal :=
  onDev (fun nv d =>
    match d.readReg nv kiosk .CH_RX_EST_F_AMP ch 0 with
    | (v, d) => d.emit (.readData kiosk v)) s

/-- A read of BAR2 (R393): page r's doorbell reads TAIL, every other offset 0. -/
def Dev.readBar2 (d : Dev) (a : Nat) : Nat := if a % 4096 = 0 ∧ a / 4096 < 64 then d.rd .HIF_RING_TAIL (a / 4096) else 0

/-- A read of BAR4 (R381, R694): the MSI-X table, and its pending bits in two words of 64. -/
def Dev.readBar4 (d : Dev) (a : Nat) : Nat :=
  if a < 0x480 then
    let row := d.msix (a / 16)
    match a % 16 / 4 with
    | 0 => row.addrLo
    | 1 => row.addrHi
    | 2 => row.data
    | _ => b2n row.mask
  else if 0x1000 ≤ a ∧ a < 0x1010 then
    ((List.range 32).map fun k => b2n (d.msix (32 * ((a - 0x1000) / 4) + k)).pend * 2 ^ k).sum
  else 0

/-- The 32 bits that a read of a space returns (R382, R693): those of the containing word. -/
def Dev.readSpace (d : Dev) (nv : NonVol) (sp : Space) (ksk : Bool) (a : Nat) : Nat × Dev :=
  match sp with
  | .bar0 => d.readAddr nv ksk a
  | .bar2 => (d.readBar2 a, d)
  | .bar4 => (d.readBar4 a, d)
  | .config => (d.cfgRead nv a, d)

/-- PAIR_LOW_READ (R382, R393, R692, R693): a read of a register, for a low register with the latch of its high partner. Kiosk reaches the
set-up registers alone. -/
def execPairLowRead (sp : Space) (addr : BitVec 20) (kiosk : Bool) (s : State) : Host.Outcome State Fault Refusal :=
  onDev (fun nv d =>
    match d.readSpace nv (if kiosk then .bar0 else sp) kiosk (addr.toNat / 4 * 4) with
    | (v, d) => d.emit (.readData kiosk v)) s

end Sys2Proof.Machine
end

