-- ==== Sys2Proof/Machine/RegWrite.lean ====
section
/-! DEFINITION. A 32-bit write of a BAR0 address with everything that follows from it, and of BAR4 (R7 to R9, R635, R685, R687 to
R695). -/

namespace Sys2Proof.Machine

/-! ### Registers whose write acts, beside those with a row of their own -/

/-- A write of SYN_CTL (R31, R32). -/
def Dev.synCtlWrite (d : Dev) (nv : NonVol) (v : Nat) : Dev :=
  let d := (d.plainWrite nv .SYN_CTL 0 0 v).cond (bitAt v 0) fun d => d.calTrigger none
  (d.cond (bitAt v 1) fun d => d.restart false).cond (bitAt v 2) fun d => d.restart true

/-- A write of TIME_CTL (R51, R53, R56). A change of SOURCE from free-run leaves TIME_LOCK as it stands until the new source judges it
(the model's choice: log entry 58). -/
def Dev.timeCtlWrite (d : Dev) (nv : NonVol) (v : Nat) : Dev :=
  let was := d.fld F.TIME_CTL_SOURCE
  let d := d.plainWrite nv .TIME_CTL 0 0 v
  let d := if d.fld F.TIME_CTL_SOURCE = was then d else d.sourceChanged
  d.hostLock.cond (bitAt v 12) Dev.timeLoad

/-- A write of PRM_CTL or ARB_CTL, which may end a seam exchange (R231, R675). -/
def Dev.seamWrite (d : Dev) (nv : NonVol) (r : RegName) (i v : Nat) : Dev := (d.plainWrite nv r i 0 v).seamCheck

/-- A write of PWR_FOLD: the buckets have filled at the rate in force up to now (R599). -/
def Dev.foldWrite (d : Dev) (nv : NonVol) (v : Nat) : Dev :=
  ((List.range 6).foldl Dev.settleTokens d).plainWrite nv .PWR_FOLD 0 0 v

/-- A write of CH_RX_SHIFT: at once, or at the end of the frame being received (R112). -/
def Dev.shiftWrite (d : Dev) (nv : NonVol) (n v : Nat) : Dev :=
  let old := d.rd .CH_RX_SHIFT n
  let e := d.plainWrite nv .CH_RX_SHIFT n 0 v
  if d.inFrame n then
    (e.wr .CH_RX_SHIFT n 0 old).modCh n fun c => { c with shiftPend := some (e.rd .CH_RX_SHIFT n) }
  else e

/-- A write of CH_RX_CTL: a change of FIR_SRC takes effect between frames (R115), and with it the rates of streams (R448). A listening
channel that gets STD = 1 takes the listen row (R118, R288), after the frame it is in (R115). -/
def Dev.rxCtlWrite (d : Dev) (nv : NonVol) (n v : Nat) : Dev :=
  let old := d.fld F.CH_RX_CTL_FIR_SRC n
  let e := d.plainWrite nv .CH_RX_CTL n 0 v
  let new := e.fld F.CH_RX_CTL_FIR_SRC n
  let back := e.setFld F.CH_RX_CTL_FIR_SRC n 0 old
  let e := if d.inFrame n then back.modCh n fun c => { c with srcPend := if new = old then none else some new }
    else if new = old then e else (back.setSrc n new).recap
  if e.on F.CH_RX_CTL_STD n && !d.on F.CH_RX_CTL_STD n then
    if (d.ch n).lsn.inFrame then e.modCh n fun c => { c with stdPend := true } else e.listenStd n
  else e

/-- A write of ARB_GRANT: with EN = 0 the output may not be driven (R473). -/
def Dev.grantWrite (d : Dev) (nv : NonVol) (a v : Nat) : Dev :=
  let d := d.plainWrite nv .ARB_GRANT a 0 v
  if d.on F.ARB_GRANT_EN a then d else d.modArb a fun x => { x with grant := false, grantEnd := 0 }

/-- A write of SHP_CH_EN_LOCK (R90, R376). -/
def Dev.enLockWrite (d : Dev) (nv : NonVol) (p v : Nat) : Dev :=
  let was := d.rd .SHP_CH_EN_LOCK 0 p
  let d := d.plainWrite nv .SHP_CH_EN_LOCK 0 p v
  if d.rd .SHP_CH_EN_LOCK 0 p = was then d else d.enLockTail p was

/-- A write of SEC_BOOT_CTL: REBOOT is an internal reset (R494). -/
def Dev.bootCtlWrite (d : Dev) (nv : NonVol) (v : Nat) : Dev :=
  let d := d.plainWrite nv .SEC_BOOT_CTL 0 0 v
  if bits v 16 16 = 0x5EC0 then d.resetBy 7 else d

/-- A write after which transactions of a pavilion may be admitted. -/
def Dev.freeWrite (d : Dev) (nv : NonVol) (r : RegName) (i p v : Nat) : Dev := (d.plainWrite nv r i 0 v).retry p

/-! ### One register -/

/-- A write of a device-wide register. -/
def Dev.writeDevice (d : Dev) (nv : NonVol) (ksk : Bool) (r : RegName) (i j v : Nat) : Option Dev :=
  match r with
  | .PWR_CTL => some (d.pwrCtlWrite nv v)
  | .PWR_PAV => some (d.pwrPavWrite nv j v)
  | .PWR_FOLD => some (d.foldWrite nv v)
  | .SYN_CTL => some (d.synCtlWrite nv v)
  | .SYN_TRIM => some (d.writeTrim v)
  | .TIME_CTL => some (d.timeCtlWrite nv v)
  | .TIME_NEXT_SL => some (d.writeNextSl v)
  | .TMR_CTL => some (d.tmrCtlWrite nv i v)
  | .TMR_PRE | .TMR_COUNT => some (d.tmrHeldWrite nv r i v)
  | .TMR_PERIOD => some (d.tmrPerWrite i false v)
  | .TMR_CMP => some (d.tmrPerWrite i true v)
  | .TMR_SC_SEL => some (d.scSelWrite nv j v)
  | .KSK_CTL => some (if ksk then d else d.plainWrite nv r i j v)
  | .FLS_CTL => some (d.flsCtlWrite nv v)
  | .FLS_ADDR | .FLS_BUF => some (d.flsHeldWrite nv r j v)
  | .FLS_CS_CFG => some (d.flsCfgWrite nv j v)
  | .PRM_CTL => some (d.seamWrite nv r i v)
  | .PRM_EPOCH_CTL => some (d.epochWrite nv v)
  | .SEC_BOOT_CTL => some (d.bootCtlWrite nv v)
  | .FLT_ISO_CH => some (d.isoChWrite nv j v)
  | .FLT_ISO_PAV => some (d.isoPavWrite nv v)
  | .FLT_INJECT => some (d.inject nv v)
  | .CAL_MIRROR_CTL => some (d.mirrorWrite nv v)
  | .SHP_CH_EN_LOCK => some (d.enLockWrite nv j v)
  | .HIF_RING_BASE_L => some (d.ringBaseWrite nv i false v)
  | .HIF_RING_BASE_H => some (d.ringBaseWrite nv i true v)
  | .HIF_RING_CFG => some (d.ringCfgWrite nv i v)
  | .HIF_RING_POL => some (d.polWrite nv i false v)
  | .HIF_RING_BURST => some (d.polWrite nv i true v)
  | _ => none

/-- A write of a register of a pavilion, an arbour or a channel. -/
def Dev.writeUnit (d : Dev) (nv : NonVol) (r : RegName) (i j v : Nat) : Option Dev :=
  match r with
  | .PAV_VDRV => some (d.vdrvWrite nv i v)
  | .PAV_SEQ_CTL => some (d.freeWrite nv r i i v)
  | .PAV_BLV_CTL => some (d.blvCtlWrite nv i v)
  | .PAV_BKT_RATE => some (d.bktWrite nv i false v)
  | .PAV_BKT_DEPTH => some (d.bktWrite nv i true v)
  | .PAV_LOCK => some (d.lockWrite nv i v)
  | .PAV_GATE_CTL => some (d.gateCtlWrite nv i v)
  | .PAV_GATE_BASE_L | .PAV_GATE_BASE_H | .PAV_GATE_CYCLE | .PAV_GCL_ADMIN_D | .PAV_GCL_ADMIN_M => some (d.gateAdminWrite nv r i j v)
  | .PAV_COEX => some (d.coexWrite nv i v)
  | .ARB_CTL => some (d.seamWrite nv r i v)
  | .ARB_GRANT => some (d.grantWrite nv i v)
  | .ARB_CM | .ARB_SEAM_LO | .ARB_SEAM_HI => some (d.cmWrite r i j v)
  | .ARB_PILOT_CFG => some (d.pilotCfgWrite nv i v)
  | .ARB_FG_CTL => some (d.fgCtlWrite nv i j v)
  | .ARB_CT_W => some (d.tapWeightWrite nv i j v)
  | .ARB_FG_W => some (d.weightWrite nv i (j / 8) (j % 8) v)
  | .CH_SHP_CTL => some (d.shpWrite nv i 0 v)
  | .CH_SHP_HI => some (d.shpWrite nv i 1 v)
  | .CH_SHP_LO => some (d.shpWrite nv i 2 v)
  | .CH_TX_CTL => some (d.txCtlWrite nv i v)
  | .CH_LIM_STAT | .CH_FIELD_LVL => some (d.freeWrite nv r i (pavOf i) v)
  | .CH_TUNE => some (d.tuneWrite i v)
  | .CH_PWR_LIM => some (d.limWrite nv i v)
  | .CH_RX_CTL => some (d.rxCtlWrite nv i v)
  | .CH_RX_SHIFT => some (d.shiftWrite nv i v)
  | .CH_RX_FIR => some ((d.plainWrite nv r i 0 v).cond (bitAt v 1) fun d => d.firSwitch i)
  | .CH_RX_RS => some (d.plainWrite nv r i 0 v).recap
  | .CH_RX_AGC => some (d.agcWrite i v)
  | .CH_RX_COEF_A => some (d.coefWrite i false j v)
  | .CH_RX_COEF_B => some (d.coefWrite i true j v)
  | .CH_BLV_CMD => some (d.blvCmdWrite i v)
  | .CH_LSN_FD => some (d.lsnFdWrite nv i v)
  | _ => none

/-- A 32-bit write of a register by a path: PCI Express, or with true Kiosk (R687). -/
def Dev.writeReg (d : Dev) (nv : NonVol) (ksk : Bool) (r : RegName) (i j v : Nat) : NonVol × Dev :=
  let e := match d.writeDevice nv ksk r i j v with
    | some e => e
    | none =>
      match d.writeUnit nv r i j v with
      | some e => e
      | none => d.plainWrite nv r i j v
  let nv' := if r = .SEC_BOOT_CTL then { nv with prefer := d.plainWrite nv r i j v |>.fld F.SEC_BOOT_CTL_PREFER } else nv
  (nv', e)

/-- A write of a BAR0 address: discarded where the map has no register (R685). -/
def Dev.writeAddr (d : Dev) (nv : NonVol) (ksk : Bool) (addr v : Nat) : NonVol × Dev :=
  match regAt addr with
  | some (r, i, j) => d.writeReg nv ksk r i j v
  | none => (nv, d)

/-- A 32-bit write of BAR4 (R694, R695). -/
def Dev.writeBar4 (d : Dev) (addr v : Nat) : Dev :=
  if addr < 0x480 then
    let k := addr / 16
    match addr % 16 / 4 with
    | 0 => d.modMsix k fun r => { r with addrLo := v / 4 * 4 }
    | 1 => d.modMsix k fun r => { r with addrHi := v }
    | 2 => d.modMsix k fun r => { r with data := v }
    | _ => d.vecCtl k (bitAt v 0)
  else d

/-- A 32-bit write of BAR2 (R393): page r's doorbell; every other offset ignores it. -/
def Dev.writeBar2 (d : Dev) (a v : Nat) : Dev :=
  if a % 4096 = 0 ∧ a / 4096 < 64 then d.doorbell (a / 4096) v (decide (a / 4096 < 32)) else d

/-- REGISTER_WRITE (R382, R393, R685, R687, R694, R695): a 32-bit write from PCI Express to a space; one that is not aligned has no effect
(log entry 44). -/
def execRegisterWrite (sp : Space) (addr : BitVec 20) (v : Word) (s : State) : Host.Outcome State Fault Refusal :=
  onBoth (fun nv d =>
    let a := addr.toNat
    if a % 4 ≠ 0 then (nv, d)
    else
      match sp with
      | .bar0 => d.writeAddr nv false a v.toNat
      | .bar2 => (nv, d.writeBar2 a v.toNat)
      | .bar4 => (nv, d.writeBar4 a v.toNat)
      | .config => (nv, d.cfgWrite nv a v.toNat)) s

end Sys2Proof.Machine
end

