-- ==== Sys2Proof/Machine/Boot.lean ====
section
/-! DEFINITION. The boot: release of reset, the NVM load, the manifest check, configuration-ready and the sections (R488 to R495,
R507, R512, R554, R575, R603). -/

namespace Sys2Proof.Machine

/-! ### Manifests (R488 to R492) -/

/-- The signer classes that a state accepts (R490): 0 vendor, 1 owner. -/
def bootSigners (life : Nat) : List Nat := if life = 2 ∨ life = 3 then [0, 1] else if life = 5 then [] else [0]

/-- The largest length of a section of a kind (R489). -/
def secMax (kind : Nat) : Nat := if kind = 0 then 393216 else if kind = 1 then 131072 else 8192

/-- A section entry meets R489, and its section lies within 16 MiB of the slot base. -/
def entryOk (e : List Byte) : Bool :=
  let k := byteAt e 0
  if k = 0xFF then allZero (e.drop 1)
  else
    decide (k ≤ 2) && allZero (slice e 1 3) && allZero (slice e 12 4) && allZero (slice e 48 16) && leAt e 4 4 % 256 == 0 &&
      decide (0x1000 ≤ leAt e 4 4) && decide (1 ≤ leAt e 8 4) && decide (leAt e 8 4 ≤ secMax k) &&
      decide (leAt e 4 4 + leAt e 8 4 ≤ 0x1000000)

/-- The entries of a manifest of one kind. -/
def kindCountIn (m : List Byte) (k : Nat) : Nat := (List.range 4).countP fun i => byteAt (secEntry m i) 0 == k

/-- Check 9 of R492. -/
def sectionsOk (m : List Byte) : Bool :=
  (List.range 4).all (fun i => entryOk (secEntry m i)) && kindCountIn m 0 == 1 && kindCountIn m 1 == 1 &&
    decide (kindCountIn m 2 ≤ 1) && decide (byteAt m 16 ≤ 2) && decide (25 ≤ byteAt m 17) && decide (byteAt m 17 ≤ 100)

/-- The checks of a manifest in their order (R492): the code of the first that fails, 0 when it passes. -/
def NonVol.manifestCheck (nv : NonVol) (flash : Option (List Byte)) : Nat :=
  match flash with
  | none => 10
  | some b =>
    let m := padTo 3400 b
    let code := rootCode (byteAt m 6) (byteAt m 7)
    let pub := slice m 64 1793
    if leAt m 0 4 ≠ 0x4D315A41 then 1
    else if leAt m 4 2 ≠ 1 ∨ ¬ allZero (slice m 19 5) ∨ ¬ allZero (slice m 32 32) ∨ ¬ allZero (slice m 1857 7) ∨
        4 ≤ byteAt m 16 ∨ 2 ≤ byteAt m 18 then 2
    else if ¬ (bootSigners nv.life).contains (byteAt m 6) then 3
    else if ¬ nv.rootLive code then 4
    else if shake256 pub ≠ tblGet nv.roots code [] then 5
    else if ¬ Config.falconVerify pub (m.take 2120) (slice m 2120 1280) then 6
    else if leAt m 8 4 < nv.minVer then 7
    else if leAt m 24 8 ≠ 0 ∧ leAt m 24 8 ≠ nv.serial then 8
    else if ¬ sectionsOk m then 9
    else 0

/-- The failure code of a slot (R492): 0 A, 1 B. -/
def Dev.setFail (d : Dev) (slot code : Nat) : Dev := d.setFld (if slot = 0 then F.SEC_BOOT_FAIL_A else F.SEC_BOOT_FAIL_B) 0 0 code

/-- A manifest has passed. -/
def Dev.takeManifest (d : Dev) (slot : Nat) (m : List Byte) : Dev :=
  let d := (d.setFld F.SEC_BOOT_SLOT 0 0 slot).setFld F.SEC_BOOT_SIGNER 0 0 (byteAt m 6)
  let d := d.setFld F.SEC_BOOT_KEY_INDEX 0 0 (byteAt m 7)
  { d with sec := { d.sec with manifest := m, manDigest := shake256 m } }

/-- Step 3 of the boot (R491, R494): the preferred slot, then the other. -/
def Dev.bootManifest (d : Dev) (nv : NonVol) (a b : Option (List Byte)) : Dev :=
  let first := if d.on F.SEC_BOOT_CTL_ONCE_EN then d.fld F.SEC_BOOT_CTL_ONCE_SLOT else nv.prefer % 2
  let d := (d.setOn F.SEC_BOOT_CTL_ONCE_EN 0 0 false).setOn F.SEC_BOOT_CTL_ONCE_SLOT 0 0 false
  let img (k : Nat) : Option (List Byte) := if k = 0 then a else b
  let c1 := nv.manifestCheck (img first)
  if c1 = 0 then d.takeManifest first (padTo 3400 ((img first).getD []))
  else
    let d := d.setFail first c1
    let other := 1 - first
    let c2 := nv.manifestCheck (img other)
    if c2 = 0 then d.takeManifest other (padTo 3400 ((img other).getD [])) else d.setFail other c2

/-! ### The NVM load (R316, R491, R512, R543, R554) -/

/-- Every calibration record that the device has a place for: channel sets, references, arbours (R551). -/
def allRecords : List Nat :=
  (allChans.flatMap fun n => (List.range 5).map fun i => recKey 1 n i) ++ allChans.map (fun n => recKey 2 n 0) ++
    (List.range 24).map fun a => recKey 3 a 0

/-- The records absent (R554). -/
def NonVol.absent (nv : NonVol) : List Nat := allRecords.filter fun k => (nv.record k).isNone

/-- An arbour's record is loaded (R232, R553). -/
def Dev.loadArb (d : Dev) (nv : NonVol) (a : Nat) : Dev :=
  match nv.record (recKey 3 a 0) with
  | none => d
  | some l =>
    let d := d.each (List.range 64) fun d j => d.wr .ARB_CM a j (leAt l (24 + 4 * j) 4)
    let d := d.each (List.range 8) fun d j => d.wr .ARB_SEAM_LO a j (leAt l (280 + 4 * j) 4)
    let d := d.each (List.range 8) fun d j => d.wr .ARB_SEAM_HI a j (leAt l (312 + 4 * j) 4)
    let d := d.each (List.range 8) fun d k =>
      (d.setFld F.ARB_CT_DT_DELAY a k (byteAt l (344 + k))).setFld F.ARB_CT_DT_THR a k (byteAt l (352 + k))
    d.each (List.range 8) fun d k => d.colFresh a k

/-- A channel's reference record is loaded (R538, R553). -/
def Dev.loadRef (d : Dev) (nv : NonVol) (n : Nat) : Dev :=
  match nv.record (recKey 2 n 0) with
  | none => d
  | some l =>
    let v : List Int := [toInt 32 (leAt l 24 4), toInt 16 (leAt l 28 2), (leAt l 30 2 : Nat), (leAt l 32 1 : Nat), (leAt l 33 1 : Nat)]
    { d with cal := { d.cal with ref := tblPut d.cal.ref n v } }

/-- The regulatory fields take their record's values; without a record CH_EN_LOCK reads 0. In BLANK no record is read, and they take
their blank values (R512). -/
def Dev.loadReg (d : Dev) (nv : NonVol) : Dev :=
  let d := d.reloadReg (if nv.life = 0 then { nv with reg := some [] } else nv) regKeys
  let d := if nv.reg.isSome ∨ nv.life = 0 then d
    else (d.each (List.range 6) fun d p => d.wr .SHP_CH_EN_LOCK 0 p 0).setOn F.SEC_STAT_REG_RECORD_BAD 0 0 true
  d.each (List.range 6) fun d p => d.fitBudget p

/-- What the NVM gives the volatile state. -/
def Dev.loadNvm (d : Dev) (nv : NonVol) : Dev :=
  let d := (d.loadReg nv).setFld F.SEC_BOOT_CTL_PREFER 0 0 nv.prefer
  let d := d.setFld F.CAL_NVM_STAT_BAD 0 0 (sat 0xFFFF nv.absent.length)
  let d := d.each (allChans.filter fun n => !(nv.sets n).isEmpty) fun d n => d.calForm nv n
  let d := d.each (List.range 24) fun d a => d.loadArb nv a
  let d := d.each allChans fun d n => d.loadRef nv n
  { d with images := nv.images.map fun (e : Nat × Nat × Tbl Byte) =>
      (e.1, ({ pages := e.2.1, mem := e.2.2, persist := true } : Image)) }

/-! ### Meanings -/

/-- RESET_RELEASE (R491, R507, R603): a cause is released; with the last one the boot begins. The operands are what the flash holds
at the two slots, none where it does not answer. -/
def execResetRelease (cause : Fin 10) (slotA slotB : Option (List Byte)) (s : State) : Host.Outcome State Fault Refusal :=
  onBoth (fun nv d =>
    let held := d.pwr.held.filter (· != cause.val)
    let d := { d with pwr := { d.pwr with held := held } }
    if held.isEmpty && d.pwr.boot == .held then
      let nv := match nv.trans with
        | some t => nv.transit t
        | none => nv
      let d := { d with pwr := { d.pwr with boot := .booting } }
      (nv, (d.loadNvm nv).bootManifest nv slotA slotB)
    else (nv, d)) s

/-- A boot that does not reach RUNNING (R493, R520). -/
def Dev.bootFailed (d : Dev) (st : Nat) : Dev :=
  let d := (d.setFld F.SEC_BOOT_STATE 0 0 st).setMisc 5
  d.each (List.range 64) fun d r => d.setOn F.HIF_RING_CFG_EN r 0 false

/-- Reports of the boot: failed power-on tests (R575), and what the NVM load missed (R512, R554). -/
def Dev.bootReports (d : Dev) (nv : NonVol) (postFail : List Nat) : Dev :=
  let d := d.each postFail fun d (c : Nat) => d.fault { code := 0x0040, cls := 3, kind := 3, value := c, stest := true }
  let d := if d.on F.SEC_STAT_REG_RECORD_BAD then d.faultFree { code := 0x000A, cls := 2, kind := 3 } else d
  d.each nv.absent fun d (k : Nat) =>
    d.faultFree { code := 0x0009, cls := 0, kind := if k / 2048 = 3 then 1 else 0, ix := k / 8 % 256 }

/-- CONFIGURATION_READY (R36, R491, R493, R575, R603, R719): the operand names the monitors whose power-on test failed. -/
def execConfigurationReady (postFail : List Nat) (s : State) : Host.Outcome State Fault Refusal :=
  onDev (fun nv d =>
    if d.pwr.boot ≠ .booting then d
    else
      let d := { d with pwr := { d.pwr with boot := .loading }, time := { d.time with tc := 0 } }
      let d := d.setOn F.FLT_STAT_POST_PASS 0 0 postFail.isEmpty
      let d := d.coldStart
      let d := d.each (List.range 6) fun d p => d.modPav p fun x => { x with change := some { dest := .active, at_ := d.tc } }
      let d := if d.sec.manifest.isEmpty then d.bootFailed 4 else d.setFld F.SEC_BOOT_STATE 0 0 1
      d.bootReports nv postFail) s

/-- The first section that fails: its entry and code (R492). -/
def secFail (m : List Byte) (secs : List (Option (List Byte))) : Option (Nat × Nat) :=
  (List.range 4).findSome? fun i =>
    let e := secEntry m i
    if byteAt e 0 = 0xFF then none
    else
      match secs.getD i none with
      | none => some (i, 10)
      | some b => if shake256 (padTo (leAt e 8 4) b) = slice e 16 32 then none else some (i, 11)

/-- The register preload (R489): pairs of BAR0 offset and value, applied in order as ordinary writes until one resets the device. -/
def Dev.preload (nv : NonVol) (d : Dev) : List (Nat × Nat) → NonVol × Dev
  | [] => (nv, d)
  | x :: t =>
    if d.pwr.boot = .loading then
      match d.writeAddr nv false x.1 x.2 with
      | (nv, d) => Dev.preload nv d t
    else (nv, d)

/-- The pairs of a preload section. -/
def preloadPairs (b : List Byte) : List (Nat × Nat) := (List.range (b.length / 8)).map fun i => (leAt b (8 * i) 4, leAt b (8 * i + 4) 4)

/-- The preload section of a manifest, as read. -/
def preloadOf (m : List Byte) (secs : List (Option (List Byte))) : List (Nat × Nat) :=
  match (List.range 4).find? fun i => byteAt (secEntry m i) 0 == 2 with
  | some i => preloadPairs (padTo (leAt (secEntry m i) 8 4) ((secs.getD i none).getD []))
  | none => []

/-- SECTIONS_LOADED (R491, R493, R495, R641): what the flash gave for the four entries, none where it did not answer. -/
def execSectionsLoaded (secs : List (Option (List Byte))) (s : State) : Host.Outcome State Fault Refusal :=
  onBoth (fun nv d =>
    if d.pwr.boot ≠ .loading ∨ d.fld F.SEC_BOOT_STATE ≠ 1 then (nv, d)
    else
      let m := d.sec.manifest
      match secFail m secs with
      | some (i, code) =>
        let d := d.setFail (d.fld F.SEC_BOOT_SLOT) code
        let d := if code = 11 then d.setFld F.SEC_BOOT_SECTION 0 0 i else d
        (nv, d.bootFailed 3)
      | none =>
        let d := (d.setFld F.FLS_CS_CFG_READ 0 0 (byteAt m 16)).setFld F.FLS_CS_CFG_MHZ 0 0 (byteAt m 17)
        match Dev.preload nv d (preloadOf m secs) with
        | (nv, d) =>
          if d.pwr.boot ≠ .loading then (nv, d)
          else
            let d := { d with pwr := { d.pwr with boot := .running } }
            let d := (d.setFld F.SEC_BOOT_STATE 0 0 2).wr .SEC_BOOT_VER 0 0 (leAt m 8 4)
            ((if bitAt (byteAt m 18) 0 then { nv with minVer := max nv.minVer (leAt m 8 4) } else nv), d)) s

end Sys2Proof.Machine
end

