-- ==== Sys2Proof/Machine/Kiosk.lean ====
section
/-! DEFINITION. The Kiosk port: frames, the status byte and sealed Kiosk writes (R628 to R639). A frame is one command: its SPI
mode (true for mode 3), its address, the clock cycles from select to release, and for a write the bytes it carried. -/

namespace Sys2Proof.Machine

/-- The port answers: from configuration-ready, in every power state except SLEEP (R614). -/
def Dev.kskUp (d : Dev) : Bool := d.pwr.boot == .loading || d.pwr.boot == .running

/-- The writes of an earlier frame are still being applied: within the bound that R632 or R639 gives them a free value says, after it
they are not (log entry 32). -/
def Dev.kskBusy (d : Dev) : Bool × Dev :=
  if d.tc < d.ksk.busyTo then
    let (x, d) := d.free
    (x % 2 == 1, d)
  else (false, d)

/-- The status byte at the fall of the select; bits 1 to 3 are those of the last frame (R636). -/
def Dev.kskStatus (d : Dev) (busy : Bool) : Nat :=
  128 * b2n (d.fld F.SEC_BOOT_STATE == 2) + 64 * b2n d.pwr.safe + 32 * b2n (d.rd .HIF_MISC_STAT != 0) + 16 * b2n busy +
    d.ksk.lastErr + b2n (!d.on F.KSK_CTL_WRITE_EN)

/-- The writes of a frame are applied within a bound, in ns, of its release (R632, R639). -/
def Dev.kskApplying (d : Dev) (ns : Nat) : Dev :=
  { d with ksk := { d.ksk with busyTo := d.tc + (ns * 339 + 24999) / 25000 } }

/-- How a frame ended, as the three bits of the status byte: 2 for FRAME_ERR, 4 for ADDR_END, 8 for SEAL_ERR, 0 for none. -/
def Dev.kskEnd (d : Dev) (mode : Bool) (bits : Nat) : Dev :=
  { d.setOn F.KSK_STAT_MODE 0 0 mode with ksk := { d.ksk with lastErr := bits } }

/-- A frame is discarded with a cause (R633). -/
def Dev.kskDiscard (d : Dev) (mode : Bool) (cause : Nat) : Dev :=
  let d := (d.setOn F.KSK_STAT_FRAME_ERR 0 0 true).setFld F.KSK_STAT_FRAME_CAUSE 0 0 cause
  (d.addFld F.KSK_STAT_DISCARDS 0 0 1).kskEnd mode 2

/-- A frame has run past the end of the space (R634). -/
def Dev.kskPast (d : Dev) (mode : Bool) : Dev := (d.setOn F.KSK_STAT_ADDR_END 0 0 true).kskEnd mode 4

/-- Bits a frame's data phase has carried. -/
def kskBits (cycles dummy : Nat) : Nat := cycles - 32 - dummy

/-- The last byte of the space is 0x0F_FFFF (R634). -/
def kskSpace : Nat := 0x100000

/-- Words a read frame has read: the first at the last address bit, each following one as the second byte of the word before it
starts (R631). -/
def kskWords (cycles dummy : Nat) : Nat :=
  if cycles < 32 then 0 else 1 + (kskBits cycles dummy + 23) / 32

/-- Reads of consecutive words, with every effect each has; 0 past the end of the space. -/
def Dev.kskReads (d : Dev) (nv : NonVol) (addr : Nat) : Nat → List Byte × Dev
  | 0 => ([], d)
  | n + 1 =>
    let (v, d) := if addr < kskSpace then d.readAddr nv true addr else (0, d)
    let (l, d) := d.kskReads nv (addr + 4) n
    (toLe 4 v ++ l, d)

/-- A read frame (R631, R633, R634). What is shifted out is the status byte, then the data bytes. -/
def Dev.kskRead (d : Dev) (nv : NonVol) (mode : Bool) (addr cycles dummy : Nat) : Dev :=
  if !d.kskUp then d
  else
    let (busy, d) := d.kskBusy
    let st := (d.kskStatus busy : Byte)
    let nb := kskBits cycles dummy
    if addr % 4 ≠ 0 ∨ busy = true then
      (d.kskDiscard mode (if nb = 0 then 1 else if addr % 4 ≠ 0 then 3 else 5)).emit (.kiosk (st :: List.replicate (nb / 8) 0))
    else
      match d.kskReads nv addr (kskWords cycles dummy) with
      | (l, d) =>
        let d := d.emit (.kiosk (st :: l.take (nb / 8)))
        if nb = 0 then d.kskDiscard mode 1
        else if 8 * (kskSpace - addr) < nb then d.kskPast mode
        else d.kskEnd mode 0

/-- KSK_READ_SLOW (R631). -/
def execKskReadSlow (mode : Bool) (addr : BitVec 24) (cycles : Nat) (s : State) : Host.Outcome State Fault Refusal :=
  onDev (fun nv d => d.kskRead nv mode addr.toNat cycles 0) s

/-- KSK_READ (R631). -/
def execKskRead (mode : Bool) (addr : BitVec 24) (cycles : Nat) (s : State) : Host.Outcome State Fault Refusal :=
  onDev (fun nv d => d.kskRead nv mode addr.toNat cycles 8) s

/-- KSK_READ_FAST (R631). -/
def execKskReadFast (mode : Bool) (addr : BitVec 24) (cycles : Nat) (s : State) : Host.Outcome State Fault Refusal :=
  onDev (fun nv d => d.kskRead nv mode addr.toNat cycles 16) s

/-- The cause that discards a write frame, 0 for none; the lowest wins (R633). `whole` says that its data are whole words, or for a
sealed write exactly 36 bytes. -/
def Dev.kskWriteCause (d : Dev) (addr cycles : Nat) (whole big busy : Bool) : Nat :=
  if kskBits cycles 0 = 0 then 1
  else if !whole then 2
  else if addr % 4 ≠ 0 then 3
  else if busy then 5
  else if big then 6
  else if !d.on F.KSK_CTL_WRITE_EN then 7
  else 0

/-- The words of a frame applied in ascending order, until one of them resets the device (R632). -/
def Dev.kskWrites (nv : NonVol) (d : Dev) (addr : Nat) (data : List Byte) : Nat → NonVol × Dev
  | 0 => (nv, d)
  | n + 1 =>
    if d.kskUp then
      match d.writeAddr nv true addr (leAt data 0 4) with
      | (nv, d) => Dev.kskWrites nv d (addr + 4) (data.drop 4) n
    else (nv, d)

/-- KSK_WRITE (R632 to R635): `data` holds the whole bytes the frame carried. -/
def execKskWrite (mode : Bool) (addr : BitVec 24) (cycles : Nat) (data : List Byte) (s : State) :
    Host.Outcome State Fault Refusal :=
  onBoth (fun nv d =>
    if !d.kskUp then (nv, d)
    else
      let nb := kskBits cycles 0
      let (busy, d) := d.kskBusy
      let cause := d.kskWriteCause addr.toNat cycles (nb % 32 == 0) (decide (8192 < nb)) busy
      let d := d.emit (.kiosk [(d.kskStatus busy : Byte)])
      if cause ≠ 0 then (nv, d.kskDiscard mode cause)
      else if 8 * (kskSpace - addr.toNat) < nb then (nv, (d.addFld F.KSK_STAT_DISCARDS 0 0 1).kskPast mode)
      else Dev.kskWrites nv ((d.kskEnd mode 0).kskApplying (1000 + 50 * (nb / 32))) addr.toNat data (nb / 32)) s

/-! ### Sealed Kiosk writes (R637 to R639) -/

/-- The descriptor image over which the tag is computed (R638). -/
def kskImage (addr : Nat) (data : List Byte) : List Byte :=
  [0x3C, 0x02, 0xFF, 0x03, 0, 0, 0xFF, 0x01] ++ List.replicate 24 0 ++ toLe 4 addr ++ slice data 0 8 ++ List.replicate 16 0

/-- The verdict on the authentication of a sealed Kiosk write: SEAL_CAUSE, 0 when it passes (R638, R639). -/
def Dev.kskAuth (d : Dev) (nv : NonVol) (addr : Nat) (data : List Byte) (nvmOk : Bool) : Nat × NonVol × Dev :=
  if d.pwr.gateDown then (5, nv, d)
  else if !nv.needsAuth 0x3C then (0, nv, d)
  else
    let slot := byteAt data 8
    let ctr := leAt data 12 8
    match (if slot < 8 then nv.key slot else none) with
    | none => (1, nv, d.authBad .authFail)
    | some key =>
      match d.acceptExt nv slot ctr (decide (cmdTag key ctr slot nv.serial (kskImage addr data) = slice data 20 16)) nvmOk with
      | (none, nv, d) => (0, nv, d)
      | (some .authFail, nv, d) => (1, nv, d)
      | (some .authReplay, nv, d) => (2, nv, d)
      | (some _, nv, d) => (5, nv, d)

/-- A sealed Kiosk write applied or refused: SEAL_CAUSE, 0 when it is applied (R639). -/
def Dev.kskSeal (d : Dev) (nv : NonVol) (addr : Nat) (data : List Byte) (nvmOk : Bool) : Nat × NonVol × Dev :=
  match d.kskAuth nv addr data nvmOk with
  | (0, nv, d) =>
    match d.sealedApply nv addr (leAt data 0 4) (leAt data 4 4) with
    | (.ok, nv, d) => (0, nv, d)
    | (.limitRefused, nv, d) => (4, nv, d)
    | (_, nv, d) => (3, nv, d)
  | e => e

/-- KSK_SEALED_WRITE (R633, R637 to R639): `nvmOk` says whether a write of M reads back. -/
def execKskSealedWrite (mode : Bool) (addr : BitVec 24) (cycles : Nat) (data : List Byte) (nvmOk : Bool) (s : State) :
    Host.Outcome State Fault Refusal :=
  onBoth (fun nv d =>
    if !d.kskUp then (nv, d)
    else
      let (busy, d) := d.kskBusy
      let cause := d.kskWriteCause addr.toNat cycles (kskBits cycles 0 == 288) false busy
      let d := d.emit (.kiosk [(d.kskStatus busy : Byte)])
      if cause ≠ 0 then (nv, d.kskDiscard mode cause)
      else
        match d.kskSeal nv addr.toNat data nvmOk with
        | (0, nv, d) => (nv, d.cond (d.pwr.boot != .held) fun d => (d.kskEnd mode 0).kskApplying 2000000)
        | (c, nv, d) =>
          let d := (d.setOn F.KSK_STAT_SEAL_ERR 0 0 true).setFld F.KSK_STAT_SEAL_CAUSE 0 0 c
          (nv, (d.kskEnd mode 8).setMisc 6)) s

/-! ### STATUS and bad frames -/

/-- KSK_STATUS (R630, R636): the status byte, repeated; the address is ignored. -/
def execKskStatus (mode : Bool) (cycles : Nat) (s : State) : Host.Outcome State Fault Refusal :=
  onDev (fun _ d =>
    if !d.kskUp then d
    else
      let (busy, d) := d.kskBusy
      let st := (d.kskStatus busy : Byte)
      let nb := kskBits cycles 0
      let d := d.emit (.kiosk (st :: List.replicate (nb / 8) st))
      if nb = 0 then d.kskDiscard mode 1 else d.kskEnd mode 0) s

/-- The commands of R630. -/
def kskCommands : List Nat := [0x03, 0x0B, 0x0C, 0x02, 0x5A, 0x05]

/-- KSK_BAD_FRAME (R633): a frame cut before its command byte is complete, or with a command that R630 does not list. Any other
frame is not this command's, and leaves the state. -/
def execKskBadFrame (mode : Bool) (cmd : Fin 256) (addr : BitVec 24) (cycles : Nat) (s : State) : Host.Outcome State Fault Refusal :=
  onDev (fun _ d =>
    if !d.kskUp || (decide (8 ≤ cycles) && kskCommands.contains cmd.val) then d
    else
      let cause := if kskBits cycles 0 = 0 then 1 else if addr.toNat % 4 ≠ 0 then 3 else 4
      let (busy, d) := d.kskBusy
      let d := d.emit (.kiosk ((d.kskStatus busy : Byte) :: List.replicate (kskBits cycles 0 / 8) 0))
      d.kskDiscard mode cause) s

end Sys2Proof.Machine
end

