-- ==== Sys2Proof/Machine/LedgerOps.lean ====
section
/-! DEFINITION. The ledger descriptors (R454 to R456, R465, R475, R476). -/

namespace Sys2Proof.Machine

/-- LEDGER_ATTACH (R454, R455): open lookups complete against the old window first. -/
def execLedgerAttach (s : State) : Host.Outcome State Fault Refusal :=
  onDev (fun nv d =>
    match d.running 0x3FF 0x30 with
    | none => d
    | some q =>
      let n := leAt q.d.param 0 4
      let k := byteAt q.d.param 4
      if d.ledger.change.any (·.same q) then d
      else if q.d.bufAddr % 4096 ≠ 0 ∨ ¬ entriesOk n ∨ q.d.bufLen ≠ 64 * n ∨ ¬ ledgerSlotOk k then d.done q .badDescriptor
      else if (nv.key (0x10 + k)).isNone then d.done q .notReady
      else if d.ledger.idle then d.ledgerChange q
      else d.modLed fun l => { l with change := some q }) s

/-- LEDGER_DETACH (R456). -/
def execLedgerDetach (s : State) : Host.Outcome State Fault Refusal :=
  onDev (fun _ d =>
    match d.running 0x3FF 0x31 with
    | none => d
    | some q =>
      if d.ledger.change.any (·.same q) then d
      else if !d.ledger.att then d.done q .notReady
      else if d.ledger.idle then d.ledgerChange q
      else d.modLed fun l => { l with change := some q }) s

/-- A lookup that is open has read an index of a range (R465). -/
def Ledger.hasRead (l : Ledger) (first count : Nat) (k : Lookup) : Bool :=
  (List.range k.span).any fun j =>
    decide (first ≤ (k.home + j) % l.entries) && decide ((k.home + j) % l.entries < first + count)

/-- LEDGER_INVALIDATE (R465). -/
def execLedgerInvalidate (s : State) : Host.Outcome State Fault Refusal :=
  onDev (fun _ d =>
    match d.running 0x3FF 0x32 with
    | none => d
    | some q =>
      let first := leAt q.d.param 0 4
      let count := leAt q.d.param 4 4
      if d.ledger.invals.any (fun (v : Inval) => v.desc.same q) then d
      else if !d.ledger.att then d.done q .notReady
      else if d.ledger.entries < first + count then d.done q .badDescriptor
      else
        let d := d.cacheDrop first count
        let seqs := (d.ledger.lookups.filter (d.ledger.hasRead first count)).map fun (k : Lookup) => k.seq
        if seqs.isEmpty then d.done q .ok
        else d.modLed fun l => { l with invals := l.invals ++ [{ desc := q, first := first, count := count, seqs := seqs }] }) s

/-- LEDGER_CONFIRM (R476). -/
def execLedgerConfirm (ch : Fin 192) (s : State) : Host.Outcome State Fault Refusal :=
  onDev (fun _ d =>
    let n : Nat := ch
    match d.running n 0x33 with
    | none => d
    | some q =>
      let ix := leAt q.d.param 4 4
      if !d.ledger.att then d.done q .notReady
      else
        match d.ledger.pend.find? (fun (x : PendDec) => x.ch == n && x.entry == ix) with
        | some x =>
          let d := d.modLed fun l => { l with pend := l.pend.erase x }
          let a := arbOf n
          ((if byteAt q.d.param 0 = 1 ∧ d.grantOk a then d.driveGrant a x.pulse else d)).done q .ok
        | none =>
          if d.ledger.expired.contains (n, ix) then d.done q .late else d.done q .badDescriptor) s

end Sys2Proof.Machine
end

