-- ==== Sys2Proof/Machine/Dispatch.lean ====
section
/-! DEFINITION. Which meaning each command has. -/

namespace Sys2Proof.Machine

/-- The effect of a command on everything but the queue. -/
def exec (i : Instr) (s : State) : Host.Outcome State Fault Refusal :=
  match i with
  | .powerOn => Sys2Proof.Machine.execPowerOn s
  | .resetAssert cause => Sys2Proof.Machine.execResetAssert cause s
  | .resetRelease cause slotA slotB => Sys2Proof.Machine.execResetRelease cause slotA slotB s
  | .configurationReady postFail => Sys2Proof.Machine.execConfigurationReady postFail s
  | .sectionsLoaded secs => Sys2Proof.Machine.execSectionsLoaded secs s
  | .brownout supply => Sys2Proof.Machine.execBrownout supply s
  | .perstNAssert => Sys2Proof.Machine.execPerstNAssert s
  | .hotReset linkDown => Sys2Proof.Machine.execHotReset linkDown s
  | .linkTraining speed width mps => Sys2Proof.Machine.execLinkTraining speed width mps s
  | .busMasterEnableChange en msixEn => Sys2Proof.Machine.execBusMasterEnableChange en msixEn s
  | .synColdStartDone aOk bOk => Sys2Proof.Machine.execSynColdStartDone aOk bOk s
  | .calReq => Sys2Proof.Machine.execCalReq s
  | .restartA => Sys2Proof.Machine.execRestartA s
  | .restartB => Sys2Proof.Machine.execRestartB s
  | .synCalComplete b => Sys2Proof.Machine.execSynCalComplete b s
  | .alignedSwap step cycles => Sys2Proof.Machine.execAlignedSwap step cycles s
  | .synCalTimeout b => Sys2Proof.Machine.execSynCalTimeout b s
  | .synLossOfLock b => Sys2Proof.Machine.execSynLossOfLock b s
  | .emergencyTakeover step cycles => Sys2Proof.Machine.execEmergencyTakeover step cycles s
  | .synTempCheck => Sys2Proof.Machine.execSynTempCheck s
  | .refclkLoss => Sys2Proof.Machine.execRefclkLoss s
  | .refclkReturn => Sys2Proof.Machine.execRefclkReturn s
  | .synTrimWrite v => Sys2Proof.Machine.execSynTrimWrite v s
  | .trimApply => Sys2Proof.Machine.execTrimApply s
  | .phaseOfsUserWrite ch v => Sys2Proof.Machine.execPhaseOfsUserWrite ch v s
  | .timeLoad => Sys2Proof.Machine.execTimeLoad s
  | .timeNowNsRead kiosk => Sys2Proof.Machine.execTimeNowNsRead kiosk s
  | .timeNextSlWrite v => Sys2Proof.Machine.execTimeNextSlWrite v s
  | .ppsEdge rising q => Sys2Proof.Machine.execPpsEdge rising q s
  | .ppsMissing => Sys2Proof.Machine.execPpsMissing s
  | .holdoverExpiry => Sys2Proof.Machine.execHoldoverExpiry s
  | .trellisMarginUpdate margin => Sys2Proof.Machine.execTrellisMarginUpdate margin s
  | .dieTempConversion a b => Sys2Proof.Machine.execDieTempConversion a b s
  | .calTempUpdate => Sys2Proof.Machine.execCalTempUpdate s
  | .dripStep ch => Sys2Proof.Machine.execDripStep ch s
  | .transactionAdmission ch => Sys2Proof.Machine.execTransactionAdmission ch s
  | .fieldStart ch => Sys2Proof.Machine.execFieldStart ch s
  | .deviceFrameStart ch => Sys2Proof.Machine.execDeviceFrameStart ch s
  | .deviceFrameEnd ch => Sys2Proof.Machine.execDeviceFrameEnd ch s
  | .sofDetected ch taps x => Sys2Proof.Machine.execSofDetected ch taps x s
  | .falseSof ch per => Sys2Proof.Machine.execFalseSof ch per s
  | .captureStep ch x => Sys2Proof.Machine.execCaptureStep ch x s
  | .captureWindowClose ch en => Sys2Proof.Machine.execCaptureWindowClose ch en s
  | .tagFrameReceived ch w => Sys2Proof.Machine.execTagFrameReceived ch w s
  | .responseWindowClose ch floor => Sys2Proof.Machine.execResponseWindowClose ch floor s
  | .fieldRampDownEnd ch => Sys2Proof.Machine.execFieldRampDownEnd ch s
  | .powerWindowEnd l vdrv => Sys2Proof.Machine.execPowerWindowEnd l vdrv s
  | .dutySliceEnd => Sys2Proof.Machine.execDutySliceEnd s
  | .chainFault ch => Sys2Proof.Machine.execChainFault ch s
  | .pwrLimWrite ch v => Sys2Proof.Machine.execPwrLimWrite ch v s
  | .tuneWrite ch v => Sys2Proof.Machine.execTuneWrite ch v s
  | .gateClosing arb fallback => Sys2Proof.Machine.execGateClosing arb fallback s
  | .gateEntryBoundary pav => Sys2Proof.Machine.execGateEntryBoundary pav s
  | .gateChange pav v => Sys2Proof.Machine.execGateChange pav v s
  | .gateCancel pav v => Sys2Proof.Machine.execGateCancel pav v s
  | .gateListSwitch pav => Sys2Proof.Machine.execGateListSwitch pav s
  | .gateEnable pav v => Sys2Proof.Machine.execGateEnable pav v s
  | .gateEnableEffect pav => Sys2Proof.Machine.execGateEnableEffect pav s
  | .fallbackPeriodStart pav => Sys2Proof.Machine.execFallbackPeriodStart pav s
  | .operListTakeover pav => Sys2Proof.Machine.execOperListTakeover pav s
  | .gateFbWrite pav which v => Sys2Proof.Machine.execGateFbWrite pav which v s
  | .bktWrite pav depth v => Sys2Proof.Machine.execBktWrite pav depth v s
  | .budgetWrite pav v => Sys2Proof.Machine.execBudgetWrite pav v s
  | .shpWrite ch which v => Sys2Proof.Machine.execShpWrite ch which v s
  | .coexGntFall pav => Sys2Proof.Machine.execCoexGntFall pav s
  | .coexGntRise pav => Sys2Proof.Machine.execCoexGntRise pav s
  | .coexEnWrite pav v => Sys2Proof.Machine.execCoexEnWrite pav v s
  | .vdrvDip pav meas => Sys2Proof.Machine.execVdrvDip pav meas s
  | .vdrvReturn pav meas => Sys2Proof.Machine.execVdrvReturn pav meas s
  | .vdrvNomWrite pav v => Sys2Proof.Machine.execVdrvNomWrite pav v s
  | .coreWarn mv => Sys2Proof.Machine.execCoreWarn mv s
  | .coreWarnRelease mv => Sys2Proof.Machine.execCoreWarnRelease mv s
  | .firSwitch ch => Sys2Proof.Machine.execFirSwitch ch s
  | .firFadeEnd ch => Sys2Proof.Machine.execFirFadeEnd ch s
  | .coefWrite ch bankB k v => Sys2Proof.Machine.execCoefWrite ch bankB k v s
  | .agcModeWrite ch v => Sys2Proof.Machine.execAgcModeWrite ch v s
  | .agcHoldRelease ch => Sys2Proof.Machine.execAgcHoldRelease ch s
  | .agcOverload ch => Sys2Proof.Machine.execAgcOverload ch s
  | .estFAmpRead ch kiosk => Sys2Proof.Machine.execEstFAmpRead ch kiosk s
  | .pilotBatch arb cols => Sys2Proof.Machine.execPilotBatch arb cols s
  | .priorityProbe arb col => Sys2Proof.Machine.execPriorityProbe arb col s
  | .pilotProbeEnd arb meas cup => Sys2Proof.Machine.execPilotProbeEnd arb meas cup s
  | .columnStale arb col => Sys2Proof.Machine.execColumnStale arb col s
  | .arbCmWrite arb which ix v => Sys2Proof.Machine.execArbCmWrite arb which ix v s
  | .fgWeightWrite arb g k v => Sys2Proof.Machine.execFgWeightWrite arb g k v s
  | .pollCycleDue pav slot => Sys2Proof.Machine.execPollCycleDue pav slot s
  | .staggerPhaseStart pav slot => Sys2Proof.Machine.execStaggerPhaseStart pav slot s
  | .hostWaitExpiry ch => Sys2Proof.Machine.execHostWaitExpiry ch s
  | .blvSweepStart pav => Sys2Proof.Machine.execBlvSweepStart pav s
  | .blvProbeStep pav meas => Sys2Proof.Machine.execBlvProbeStep pav meas s
  | .blvAdopt ch => Sys2Proof.Machine.execBlvAdopt ch s
  | .listenFieldPresent ch amps freq => Sys2Proof.Machine.execListenFieldPresent ch amps freq s
  | .listenFieldAbsent ch amps => Sys2Proof.Machine.execListenFieldAbsent ch amps s
  | .lsnFdWrite ch v => Sys2Proof.Machine.execLsnFdWrite ch v s
  | .readerFrameReceived ch x => Sys2Proof.Machine.execReaderFrameReceived ch x s
  | .listenAnswerSend ch => Sys2Proof.Machine.execListenAnswerSend ch s
  | .listenWtxTimer ch => Sys2Proof.Machine.execListenWtxTimer ch s
  | .listenHostCapExpiry ch => Sys2Proof.Machine.execListenHostCapExpiry ch s
  | .tagmemCommit image => Sys2Proof.Machine.execTagmemCommit image s
  | .ehWakeRise ticks => Sys2Proof.Machine.execEhWakeRise ticks s
  | .setRoleEffect ch => Sys2Proof.Machine.execSetRoleEffect ch s
  | .calBorrowStart target => Sys2Proof.Machine.execCalBorrowStart target s
  | .startupCalStart pav => Sys2Proof.Machine.execStartupCalStart pav s
  | .calProcedureEnd target f => Sys2Proof.Machine.execCalProcedureEnd target f s
  | .mirrorExport => Sys2Proof.Machine.execMirrorExport s
  | .mirrorImport => Sys2Proof.Machine.execMirrorImport s
  | .mirrorDone ok status image => Sys2Proof.Machine.execMirrorDone ok status image s
  | .commandDoorbell ring v => Sys2Proof.Machine.execCommandDoorbell ring v s
  | .eventDoorbell evq v => Sys2Proof.Machine.execEventDoorbell evq v s
  | .ringCfgWrite ring v => Sys2Proof.Machine.execRingCfgWrite ring v s
  | .descriptorTakeUp ring slot ext input nvmOk => Sys2Proof.Machine.execDescriptorTakeUp ring slot ext input nvmOk s
  | .descriptorFetchError ring => Sys2Proof.Machine.execDescriptorFetchError ring s
  | .descriptorStart target => Sys2Proof.Machine.execDescriptorStart target s
  | .deadlineExpiry target => Sys2Proof.Machine.execDeadlineExpiry target s
  | .eventPost source => Sys2Proof.Machine.execEventPost source s
  | .msixModTimer evq => Sys2Proof.Machine.execMsixModTimer evq s
  | .msixUnmask vec => Sys2Proof.Machine.execMsixUnmask vec s
  | .nop target => Sys2Proof.Machine.execNop target s
  | .exchange ch => Sys2Proof.Machine.execExchange ch s
  | .isodepExchange ch => Sys2Proof.Machine.execIsodepExchange ch s
  | .listenRespond ch => Sys2Proof.Machine.execListenRespond ch s
  | .tagOp ch => Sys2Proof.Machine.execTagOp ch s
  | .progLoad pav => Sys2Proof.Machine.execProgLoad pav s
  | .progStart pav => Sys2Proof.Machine.execProgStart pav s
  | .progStop pav => Sys2Proof.Machine.execProgStop pav s
  | .scriptLoad pav => Sys2Proof.Machine.execScriptLoad pav s
  | .runCycle ch => Sys2Proof.Machine.execRunCycle ch s
  | .setRole ch => Sys2Proof.Machine.execSetRole ch s
  | .sessionQuery => Sys2Proof.Machine.execSessionQuery s
  | .cancel target ringMask program => Sys2Proof.Machine.execCancel target ringMask program s
  | .captureStart ch => Sys2Proof.Machine.execCaptureStart ch s
  | .captureStop ch => Sys2Proof.Machine.execCaptureStop ch s
  | .captureStreamStart ch => Sys2Proof.Machine.execCaptureStreamStart ch s
  | .captureWrite ch x k => Sys2Proof.Machine.execCaptureWrite ch x k s
  | .captureGap ch => Sys2Proof.Machine.execCaptureGap ch s
  | .elasticBufferFull ch => Sys2Proof.Machine.execElasticBufferFull ch s
  | .elasticBufferResume ch => Sys2Proof.Machine.execElasticBufferResume ch s
  | .captureStreamEnd ch => Sys2Proof.Machine.execCaptureStreamEnd ch s
  | .tagmemAlloc => Sys2Proof.Machine.execTagmemAlloc s
  | .tagmemFree => Sys2Proof.Machine.execTagmemFree s
  | .tagmemWrite target => Sys2Proof.Machine.execTagmemWrite target s
  | .tagmemRead target => Sys2Proof.Machine.execTagmemRead target s
  | .tagmemSave => Sys2Proof.Machine.execTagmemSave s
  | .tagmemBind ch => Sys2Proof.Machine.execTagmemBind ch s
  | .listenArm ch => Sys2Proof.Machine.execListenArm ch s
  | .syncal => Sys2Proof.Machine.execSyncal s
  | .cal target => Sys2Proof.Machine.execCal target s
  | .ledgerAttach => Sys2Proof.Machine.execLedgerAttach s
  | .ledgerDetach => Sys2Proof.Machine.execLedgerDetach s
  | .ledgerInvalidate => Sys2Proof.Machine.execLedgerInvalidate s
  | .ledgerConfirm ch => Sys2Proof.Machine.execLedgerConfirm ch s
  | .attest => Sys2Proof.Machine.execAttest s
  | .keyManage => Sys2Proof.Machine.execKeyManage s
  | .lifecycle eraseOk => Sys2Proof.Machine.execLifecycle eraseOk s
  | .lifecycleReset => Sys2Proof.Machine.execLifecycleReset s
  | .regLock => Sys2Proof.Machine.execRegLock s
  | .sealedWrite => Sys2Proof.Machine.execSealedWrite s
  | .ledgerReadDone data => Sys2Proof.Machine.execLedgerReadDone data s
  | .ledgerReadTimeout => Sys2Proof.Machine.execLedgerReadTimeout s
  | .grantPulseEnd arb => Sys2Proof.Machine.execGrantPulseEnd arb s
  | .grantReadbackFault arb => Sys2Proof.Machine.execGrantReadbackFault arb s
  | .confirmExpiry => Sys2Proof.Machine.execConfirmExpiry s
  | .reboot => Sys2Proof.Machine.execReboot s
  | .debugTokenExpiry => Sys2Proof.Machine.execDebugTokenExpiry s
  | .debugHalt unit => Sys2Proof.Machine.execDebugHalt unit s
  | .faultDetection code kind ix item value => Sys2Proof.Machine.execFaultDetection code kind ix item value s
  | .scrubPass => Sys2Proof.Machine.execScrubPass s
  | .selfTest code kind ix pass => Sys2Proof.Machine.execSelfTest code kind ix pass s
  | .microcodeReloadDone pav ok => Sys2Proof.Machine.execMicrocodeReloadDone pav ok s
  | .faultInject v => Sys2Proof.Machine.execFaultInject v s
  | .isolationClear ofPav pav v => Sys2Proof.Machine.execIsolationClear ofPav pav v s
  | .pavStateRequest pav v => Sys2Proof.Machine.execPavStateRequest pav v s
  | .pavStateChangeDone pav => Sys2Proof.Machine.execPavStateChangeDone pav s
  | .pavWake pav => Sys2Proof.Machine.execPavWake pav s
  | .pavIdleExpiry pav => Sys2Proof.Machine.execPavIdleExpiry pav s
  | .sleepRequest => Sys2Proof.Machine.execSleepRequest s
  | .sleepEntry => Sys2Proof.Machine.execSleepEntry s
  | .wakeTimerExpiry => Sys2Proof.Machine.execWakeTimerExpiry s
  | .kskReadSlow mode addr cycles => Sys2Proof.Machine.execKskReadSlow mode addr cycles s
  | .kskRead mode addr cycles => Sys2Proof.Machine.execKskRead mode addr cycles s
  | .kskReadFast mode addr cycles => Sys2Proof.Machine.execKskReadFast mode addr cycles s
  | .kskWrite mode addr cycles data => Sys2Proof.Machine.execKskWrite mode addr cycles data s
  | .kskSealedWrite mode addr cycles data nvmOk => Sys2Proof.Machine.execKskSealedWrite mode addr cycles data nvmOk s
  | .kskStatus mode cycles => Sys2Proof.Machine.execKskStatus mode cycles s
  | .flsRead v => Sys2Proof.Machine.execFlsRead v s
  | .flsProgram v => Sys2Proof.Machine.execFlsProgram v s
  | .flsErase4k v => Sys2Proof.Machine.execFlsErase4k v s
  | .flsErase64k v => Sys2Proof.Machine.execFlsErase64k v s
  | .flsEraseChip v => Sys2Proof.Machine.execFlsEraseChip v s
  | .flsReadId v => Sys2Proof.Machine.execFlsReadId v s
  | .flashOpDone status data => Sys2Proof.Machine.execFlashOpDone status data s
  | .flashOpTimeout => Sys2Proof.Machine.execFlashOpTimeout s
  | .xipRead ofs len => Sys2Proof.Machine.execXipRead ofs len s
  | .xipWrite ofs data => Sys2Proof.Machine.execXipWrite ofs data s
  | .timerEnable t v => Sys2Proof.Machine.execTimerEnable t v s
  | .timerWrap t => Sys2Proof.Machine.execTimerWrap t s
  | .timerCompareMatch t => Sys2Proof.Machine.execTimerCompareMatch t s
  | .timerPeriodWrite t isCmp v => Sys2Proof.Machine.execTimerPeriodWrite t isCmp v s
  | .timerCapture t q => Sys2Proof.Machine.execTimerCapture t q s
  | .capSw t => Sys2Proof.Machine.execCapSw t s
  | .tmrCapRead t kiosk => Sys2Proof.Machine.execTmrCapRead t kiosk s
  | .scClear j => Sys2Proof.Machine.execScClear j s
  | .prmFrameSend up sub phase probe => Sys2Proof.Machine.execPrmFrameSend up sub phase probe s
  | .prmLaneUp up one two => Sys2Proof.Machine.execPrmLaneUp up one two s
  | .prmLaneDown up => Sys2Proof.Machine.execPrmLaneDown up s
  | .positionTimeout => Sys2Proof.Machine.execPositionTimeout s
  | .prmFault up w => Sys2Proof.Machine.execPrmFault up w s
  | .prmProbe up w => Sys2Proof.Machine.execPrmProbe up w s
  | .prmProbeAck up w => Sys2Proof.Machine.execPrmProbeAck up w s
  | .seamProbeSlot up coil meas => Sys2Proof.Machine.execSeamProbeSlot up coil meas s
  | .prmDelayReq w sub => Sys2Proof.Machine.execPrmDelayReq w sub s
  | .prmDelayResp w sub => Sys2Proof.Machine.execPrmDelayResp w sub s
  | .prmEpoch w => Sys2Proof.Machine.execPrmEpoch w s
  | .prmTime w sub => Sys2Proof.Machine.execPrmTime w sub s
  | .prmPhase w own coh swapped => Sys2Proof.Machine.execPrmPhase w own coh swapped s
  | .prmSeamA up w => Sys2Proof.Machine.execPrmSeamA up w s
  | .prmSeamB up w => Sys2Proof.Machine.execPrmSeamB up w s
  | .prmHello up w peer => Sys2Proof.Machine.execPrmHello up w peer s
  | .prmIdle up w => Sys2Proof.Machine.execPrmIdle up w s
  | .epochSend v => Sys2Proof.Machine.execEpochSend v s
  | .pairLowRead sp addr kiosk => Sys2Proof.Machine.execPairLowRead sp addr kiosk s
  | .registerWrite sp addr v => Sys2Proof.Machine.execRegisterWrite sp addr v s
  | .responseWindowOpen ch => Sys2Proof.Machine.execResponseWindowOpen ch s
  | .declaredLengthEnd ch => Sys2Proof.Machine.execDeclaredLengthEnd ch s
  | .kskBadFrame mode cmd addr cycles => Sys2Proof.Machine.execKskBadFrame mode cmd addr cycles s
  | .prmFrameCrcFail up w => Sys2Proof.Machine.execPrmFrameCrcFail up w s
  | .timerTick t => Sys2Proof.Machine.execTimerTick t s
  | .tmrInEdge pin rising q => Sys2Proof.Machine.execTmrInEdge pin rising q s
  | .debugHaltRelease unit => Sys2Proof.Machine.execDebugHaltRelease unit s
  | .extest on => Sys2Proof.Machine.execExtest on s

end Sys2Proof.Machine
end

