-- ==== Sys2Proof/Machine/Step.lean ====
section
/-! DEFINITION. One step: the front command of the queue, or a carrier cycle when none waits. -/

namespace Sys2Proof.Machine

/-- One carrier cycle with no command: the carrier count and network time advance (R28, R52; log entry 9). -/
def State.idle (s : State) : State := { s with dev := s.dev.tick }

/-- One step: the command at the front of the queue, with the queue's rest; on an empty queue, one carrier cycle. -/
def step (s : State) : Host.Outcome State Fault Refusal :=
  match s.pending with
  | [] => .next s.idle
  | c :: rest => exec c { s with pending := rest }

/-- The command that a word spells, put at the front of the queue; unchanged where it spells none. -/
def State.withFetchWord (s : State) (nbits w : Nat) : State :=
  match decodeTableWord nbits w with
  | some c => { s with pending := c :: s.pending }
  | none => s

end Sys2Proof.Machine
end

