-- ==== Sys2Proof/Safety.lean ====
section
/-! DEFINITION. What the manual promises of every run: what never turns back in the persistent memory, and the forms that the
tables of the state keep. Claims are stated in these terms. -/

namespace Sys2Proof.Safety

open Sys2Proof.Machine

/-- One edge of the life-cycle diagram (R505). -/
def lifeEdge (a b : Nat) : Bool := (transTokens a b).isSome

/-- The persistent memory is legal: the life-cycle state is one of the six of R505, and a transition that is recorded and not yet
completed is an edge of the diagram from the present state (R506). -/
def lifeLegal (nv : NonVol) : Bool := decide (nv.life ≤ 5) && nv.trans.all fun t => lifeEdge nv.life t

/-- What may become of the persistent memory in one step (R495, R504, R505, R512): the life-cycle state stays or follows one edge
of R505, the minimum version and the token counter never fall, and the regulatory lock, once set, stays set. -/
structure Onward (a b : NonVol) : Prop where
  life     : b.life = a.life ∨ lifeEdge a.life b.life = true
  minVer   : a.minVer ≤ b.minVer
  tokenCtr : a.tokenCtr ≤ b.tokenCtr
  regLock  : a.regLock = true → b.regLock = true

/-! ### What a command does, and what it leaves -/

/-- A command completes: it answers a next state, of which a property holds. -/
def Does (c : Instr) (s : State) (P : State → Prop) : Prop := ∃ t, exec c s = .next t ∧ P t

/-- A command leaves the state as it is. -/
def Idle (c : Instr) (s : State) : Prop := exec c s = .next s

/-- Between two states only registers of a list, given by name, unit instance and inner index, have changed. -/
def OnlyRegs (L : List (RegName × Nat × Nat)) (s t : State) : Prop :=
  { t with dev := { t.dev with regs := s.dev.regs } } = s ∧
    ∀ r i j, (∀ x ∈ L, regKey x.1 x.2.1 x.2.2 ≠ regKey r i j) → t.dev.rd r i j = s.dev.rd r i j

/-- The registers that posting an event may change (R419, R421, R433). -/
def postRegs : List RegName := [.HIF_MISC_STAT, .HIF_UNSOL_DROP, .HIF_DEVQ]

/-- The registers that show an exchange's last frame (R175). -/
def frmRegs : List RegName := [.CH_FRM_LAST, .CH_FRM_COLL, .CH_FRM_ERR, .CH_FRM_TIME, .CH_FRM_QUAL]

/-- The registers that completing a descriptor may change: those of posting, and for an exchange that received no frame those of its
channel's last frame (R175, R404). -/
def doneRegs : List RegName := postRegs ++ frmRegs

/-- The registers that recording and reporting a fault may change (R571). -/
def faultRegs : List RegName := postRegs ++ [.FLT_LAST, .FLT_STAT, .FLT_FIRST_T_L, .FLT_FIRST_T_H, .FLT_CNT]

/-- Between two states of the device only queues, data that waits for the host and the turns of its arbiters, due Promenade messages,
the instants of the latest fault and of a pavilion's latest work, and the registers of a list have changed. -/
structure Told (L : List RegName) (d e : Dev) : Prop where
  time   : e.time = d.time
  syn    : e.syn = { d.syn with waiters := e.syn.waiters }
  pwr    : e.pwr = d.pwr
  sess   : e.sess = d.sess
  images : e.images = d.images
  ledger : e.ledger = d.ledger
  sec    : e.sec = d.sec
  cal    : e.cal = d.cal
  ksk    : e.ksk = d.ksk
  flash  : e.flash = d.flash
  timers : e.timers = d.timers
  prom   : e.prom = { d.prom with upP := { d.prom.upP with due := e.prom.upP.due }, dnP := { d.prom.dnP with due := e.prom.dnP.due } }
  host   : e.host = { d.host with devQ := e.host.devQ, dataWait := e.host.dataWait, tq := e.host.tq, inFlight := e.host.inFlight,
                                  msix := e.host.msix, arbs := e.host.arbs }
  flt    : e.flt = { d.flt with lastAt := e.flt.lastAt }
  ch     : ∀ n, e.ch n = { d.ch n with outq := (e.ch n).outq, dataWait := (e.ch n).dataWait, tq := (e.ch n).tq }
  pav    : ∀ p, e.pav p = { d.pav p with tq := (e.pav p).tq, stirAt := (e.pav p).stirAt }
  arb    : ∀ a, e.arb a = { d.arb a with tq := (e.arb a).tq }
  regs   : ∀ r i j, r ∉ L → e.rd r i j = d.rd r i j

/-- The registers that the end of a received frame may change (R112, R115, R117, R131). -/
def rxRegs : List RegName := [.CH_RX_FIR, .CH_RX_SHIFT, .CH_RX_CTL, .CH_RX_AGC]

/-- The registers that the end of a channel's work may change beside those of posting (R527). -/
def workRegs : List RegName := doneRegs ++ [.CAL_STAT] ++ rxRegs

/-- Between two states of the device the channels', pavilions' and arbours' records, the calibration engine's runs and what it has put
into force, the queues and the registers of a list may have changed; every other unit stands. -/
structure Kept (L : List RegName) (d e : Dev) : Prop where
  time   : e.time = d.time
  syn    : e.syn = { d.syn with waiters := e.syn.waiters }
  pwr    : e.pwr = d.pwr
  sess   : e.sess = d.sess
  images : e.images = d.images
  ledger : e.ledger = d.ledger
  sec    : e.sec = d.sec
  cal    : e.cal = { d.cal with runs := e.cal.runs, applied := e.cal.applied }
  ksk    : e.ksk = d.ksk
  flash  : e.flash = d.flash
  timers : e.timers = d.timers
  prom   : e.prom = { d.prom with upP := { d.prom.upP with due := e.prom.upP.due }, dnP := { d.prom.dnP with due := e.prom.dnP.due } }
  host   : e.host = { d.host with devQ := e.host.devQ, dataWait := e.host.dataWait, tq := e.host.tq, inFlight := e.host.inFlight,
                                  msix := e.host.msix, arbs := e.host.arbs }
  flt    : e.flt = { d.flt with lastAt := e.flt.lastAt }
  regs   : ∀ r i j, r ∉ L → e.rd r i j = d.rd r i j

/-- Told, of the whole state: the commands that wait and the persistent memory stand as well. -/
def Says (L : List RegName) (s t : State) : Prop := t.pending = s.pending ∧ t.nv = s.nv ∧ Told L s.dev t.dev

/-- The registers that an attempt at admission may change (R118, R198 to R203, R209, R344). -/
def admRegs : List RegName := workRegs ++ [.CH_ADM_STAT, .ARB_FG_W, .ARB_FG_STAT, .ARB_CT_W, .CH_RX_COEF_A, .CH_RX_COEF_B]

/-- The commands that wait and the persistent memory stand, and the device is kept but for channels, pavilions, arbours, the
engine's runs, the queues and the registers of a list. -/
def Works (L : List RegName) (s t : State) : Prop := t.pending = s.pending ∧ t.nv = s.nv ∧ Kept L s.dev t.dev

/-- What R372 asks of an admitted transaction until its field starts: its pavilion's VDRV set up, its channels neither isolated nor
withheld by chain B, the supply and a synthesiser up, its coils enabled, and its permissions holding (R63, R345 to R348). -/
def StillFit (d : Dev) (n : Nat) (x : Txn) : Prop :=
  d.fld F.PAV_VDRV_NOM (pavOf n) ≠ 0 ∧
  (∀ k ∈ d.useChans n x, d.isolated k = false ∧ d.enLock k = true ∧ d.on F.CH_LIM_STAT_TRIP k = false ∧
    d.on F.CH_FEN_STAT_CHAIN_FAULT k = false) ∧
  (d.pav (pavOf n)).dip = false ∧ d.synActive = true ∧
  (∀ k ∈ x.driven, d.on F.CH_TX_CTL_EN k.ch = true) ∧ d.permits n x = true

/-- Every channel's record but those of a list stands. -/
def ChansStand (l : List Nat) (s t : State) : Prop := ∀ k, k ∉ l → t.dev.ch k = s.dev.ch k

/-- A waiting transaction that lacks no permission: the sequencer asks for it, nothing refuses it, nothing holds it, and no older
one waits for the bucket alone (R344, R350). -/
def Admissible (d : Dev) (n : Nat) (x : Txn) : Prop :=
  (d.ch n).txn = some x ∧ x.phase = .waiting ∧ d.asks n x = true ∧ d.refusal n x = none ∧
  d.otherWait n x (d.planDriven n x) = false ∧ d.missing n (d.planLent n x) (d.declLen n x) = 0 ∧ d.olderWaits n x = false

/-- No transaction of a pavilion is admitted and not yet up. -/
def NoneAdmitted (p : Nat) (s : State) : Prop := ∀ n ∈ pavChans p, ∀ x, (s.dev.ch n).txn = some x → x.phase ≠ .admitted

/-- None of a transaction's coils has begun to fall, and it drives each of them once. -/
def CoilsUp (d : Dev) (x : Txn) : Prop := x.coils.Nodup ∧ ∀ k ∈ x.coils, (d.ch k).downAt = none

/-- A field falls, in a given class and for a given cause if there is one, with the coils of some channels cut hard; where none of its
coils fell before, it will have fallen when the longest ramp-down of them is over (R85, R88, R204). -/
def FallsFor (d : Dev) (k : RampKind) (st : Option Status) (hard : List Nat) (n : Nat) (x : Txn) (t : State) : Prop :=
  let y := x.falls k st hard
  ∃ e, (t.dev.ch n).txn = some { y with dueTc := e } ∧ (CoilsUp d x → e = d.tc + d.fallTc y)

/-- The same for a cause. -/
def Falls (d : Dev) (k : RampKind) (st : Status) (hard : List Nat) (n : Nat) (x : Txn) (t : State) : Prop :=
  FallsFor d k (some st) hard n x t

/-- An admin list passes the check of CHANGE (R362). -/
def listGood (l : List (Nat × Nat × Bool)) (cycle : Nat) : Bool :=
  decide (1 ≤ l.length) && decide (l.length ≤ 64) && l.all (fun (e : Nat × Nat × Bool) => decide (1000 ≤ e.1)) && decide (1000 ≤ cycle)

/-- What a write of a word to PAV_GATE_CTL does (R362, R363, R681, R720): CANCEL first, then CHANGE, then EN. -/
def GateCtl (p w : Nat) (s t : State) : Prop :=
  let g := (s.dev.pav p).gate
  let h := (t.dev.pav p).gate
  let left := if bitAt w 2 then none else g.pend
  let l := t.dev.adminList p
  let cycle := s.dev.rd .PAV_GATE_CYCLE p
  t.dev.on F.PAV_GATE_CTL_EN p = bitAt w 0 ∧
  t.dev.fld F.PAV_GATE_CTL_ADMIN_LEN p =
    (if g.pend.isNone ∧ 1 ≤ bits w 8 7 ∧ bits w 8 7 ≤ 64 then bits w 8 7 else s.dev.fld F.PAV_GATE_CTL_ADMIN_LEN p) ∧
  h.oper = g.oper ∧
  (bitAt w 1 = false ∨ left.isSome → h.pend = left) ∧
  (bitAt w 1 = true → left = none →
    (listGood l cycle = true → h.pend = some {
      base := changeTime s.dev.now (s.dev.pair .PAV_GATE_BASE_L .PAV_GATE_BASE_H p) cycle, cycle := cycle, entries := l,
      follow := bitAt (s.dev.fld F.PRM_EPOCH_CTL_FOLLOW) p }) ∧
    (listGood l cycle = false → h.pend = none ∧ t.dev.on F.PAV_GATE_STAT_ADMIN_ERR p = true)) ∧
  (s.dev.on F.PAV_GATE_CTL_EN p = false → bitAt w 0 = true → h.enAt = some (s.dev.tc + 1356) ∧ h.mode = g.mode) ∧
  (s.dev.on F.PAV_GATE_CTL_EN p = true → bitAt w 0 = false → h.enAt = none ∧ h.mode = .open_) ∧
  (s.dev.on F.PAV_GATE_CTL_EN p = bitAt w 0 → h.enAt = g.enAt ∧ h.mode = g.mode) ∧
  Works (admRegs ++ [.PAV_GATE_CTL, .PAV_GATE_STAT]) s t

/-- The device is held in reset by a cause (R494, R601, R603, R605): the cause is recorded, the registers of PD0 stand, ONCE_EN and
ONCE_SLOT stay across an internal reset only, and everything else volatile is as after reset. -/
def HeldBy (x : Nat) (s t : State) : Prop :=
  t.pending = s.pending ∧ t.nv = s.nv ∧ t.dev.pwr.boot = .held ∧ x ∈ t.dev.pwr.held ∧
  (∀ k ∈ s.dev.pwr.held, k ∈ t.dev.pwr.held) ∧
  (∀ b, b < 10 → bitAt (t.dev.rd .LDG_RST_CAUSE) b = (bitAt (s.dev.rd .LDG_RST_CAUSE) b || b == x)) ∧
  (∀ r ∈ ldgRegs, r ≠ .LDG_RST_CAUSE → ∀ i j, t.dev.rd r i j = s.dev.rd r i j) ∧
  (∀ r i j, r ∉ ldgRegs → r ≠ .SEC_BOOT_CTL → t.dev.rd r i j = State.reset.dev.rd r i j) ∧
  t.dev.fld F.SEC_BOOT_CTL_ONCE_EN = (if x = 7 ∨ x = 8 then s.dev.fld F.SEC_BOOT_CTL_ONCE_EN else 0) ∧
  t.dev.fld F.SEC_BOOT_CTL_ONCE_SLOT = (if x = 7 ∨ x = 8 then s.dev.fld F.SEC_BOOT_CTL_ONCE_SLOT else 0) ∧
  t.dev.chans = [] ∧ t.dev.sess = [] ∧ t.dev.images = [] ∧ t.dev.host = {} ∧ t.dev.ledger = {} ∧ t.dev.time = {}

/-- No field stands and no driver is enabled, every parking load lies on, and the GRANT, COEX_REQ and COEX_PRI pins are low (R602). -/
def PinsLow (t : State) : Prop :=
  (∀ n, t.dev.coilOn n = false ∧ t.dev.chainA n = false ∧ t.dev.parked n = true) ∧ (∀ a, t.dev.grantPins a = (false, false)) ∧
  (∀ p, t.dev.coexReqPin p = false) ∧ t.dev.coexPriPin = false

/-- The registers that a hot reset may change: the rings', the link's, and those that the work it ends leaves (R175, R385). -/
def hotRegs : List RegName :=
  rxRegs ++ [.HIF_RING_CFG, .HIF_LINK, .CAL_STAT, .CH_FRM_LAST, .CH_FRM_COLL, .CH_FRM_ERR, .CH_FRM_TIME, .CH_FRM_QUAL]

/-- What a hot reset or link-down leaves (R385). -/
def HotReset (down : Bool) (s t : State) : Prop :=
  t.pending = s.pending ∧ t.nv = s.nv ∧ t.dev.time = s.dev.time ∧ t.dev.pwr = s.dev.pwr ∧
  t.dev.ledger.cache = s.dev.ledger.cache ∧ t.dev.ledger.att = s.dev.ledger.att ∧
  (∀ r, r < 64 → t.dev.on F.HIF_RING_CFG_EN r = false) ∧ t.dev.host.msixEn = false ∧ t.dev.host.busMaster = false ∧
  t.dev.host.linkUp = (s.dev.host.linkUp && !down) ∧ t.dev.host.inFlight = [] ∧ t.dev.host.devQ = {} ∧ t.dev.host.tq = {} ∧
  (∀ n, (t.dev.ch n).prog = none ∧ (t.dev.ch n).tq = {} ∧ (t.dev.ch n).outq = {} ∧ (t.dev.ch n).cap = none) ∧
  (∀ n x, (s.dev.ch n).txn = some x → x.work ≠ .pilot → x.work ≠ .cal →
    (x.phase = .waiting ∨ x.phase = .admitted → (t.dev.ch n).txn = none) ∧
    (x.phase = .up → ∃ y, (t.dev.ch n).txn = some y ∧ y.phase = .rampDown ∧ y.ramp = x.ramp ∧ y.finished = true ∧ y.desc = none)) ∧
  ∀ r i j, r ∉ hotRegs → t.dev.rd r i j = s.dev.rd r i j

/-- A command on the wires of the flash port (R640): a command with an address sends it high byte first, in 3 bytes or 4 as the chip's
address mode says; the read opcodes have their dummy or mode cycles; and the quad opcodes their lanes. -/
def flashOut (d : Dev) (cs cmd addr : Nat) (data : List Byte) : Output :=
  .flash cs cmd
    (if cmd ∈ [0x0B, 0x6B, 0xEB, 0x02, 0x32, 0x20, 0xD8] then (toLe (if d.on F.FLS_CS_CFG_ADDR4 0 cs then 4 else 3) addr).reverse else [])
    (if cmd = 0x0B ∨ cmd = 0x6B then 8 else if cmd = 0xEB then 6 else 0)
    (if cmd = 0xEB then (4, 4) else if cmd = 0x6B ∨ cmd = 0x32 then (1, 4) else (1, 1)) data

/-- A read frame of some clock cycles and dummy bits has shifted out the status byte and the words from its address on, each read as a
Kiosk read, and ended without an error (R631, R636). -/
def ReadOut (mode : Bool) (addr : BitVec 24) (cycles dummy : Nat) (s t : State) : Prop :=
  t.dev.out = s.dev.out ++ [.kiosk (BitVec.ofNat 8 (s.dev.kskStatus false) ::
    (s.dev.kskReads s.nv addr.toNat (kskWords cycles dummy)).1.take ((cycles - 32 - dummy) / 8))] ∧
  t.dev.ksk.lastErr = 0 ∧ t.dev.on F.KSK_STAT_MODE = mode ∧ t.pending = s.pending ∧ t.nv = s.nv

/-- The answers of a command that is a read frame of some clock cycles and dummy bits (R614, R631, R633, R634, R636). -/
def ReadFrame (c : Instr) (mode : Bool) (addr : BitVec 24) (cycles dummy : Nat) (s : State) : Prop :=
  let nb := cycles - 32 - dummy
  (s.dev.kskUp = false → Idle c s) ∧
  (s.dev.kskUp = true → s.dev.ksk.busyTo ≤ s.dev.tc →
    (nb = 0 ∨ addr.toNat % 4 ≠ 0 → Does c s fun t =>
      t.dev.on F.KSK_STAT_FRAME_ERR = true ∧ t.dev.fld F.KSK_STAT_FRAME_CAUSE = (if nb = 0 then 1 else 3) ∧
      t.dev.ksk.lastErr = 2 ∧ t.dev.on F.KSK_STAT_MODE = mode ∧ t.pending = s.pending ∧ t.nv = s.nv) ∧
    (addr.toNat % 4 ≠ 0 → Does c s fun t =>
      t.dev.out = s.dev.out ++ [.kiosk (BitVec.ofNat 8 (s.dev.kskStatus false) :: List.replicate (nb / 8) 0)] ∧
      t.dev.fld F.KSK_STAT_DISCARDS = sat 65535 (s.dev.fld F.KSK_STAT_DISCARDS + 1) ∧
      Says [.KSK_STAT] { s with dev := { s.dev with ksk := t.dev.ksk } } t) ∧
    (addr.toNat % 4 = 0 → nb = 32 → addr.toNat < kskSpace → Does c s fun t =>
      t.dev.out = s.dev.out ++ [.kiosk (BitVec.ofNat 8 (s.dev.kskStatus false) :: toLe 4 (s.dev.readAddr s.nv true addr.toNat).1)] ∧
      t.dev.ksk.lastErr = 0 ∧ t.dev.on F.KSK_STAT_MODE = mode ∧ t.pending = s.pending ∧ t.nv = s.nv) ∧
    (addr.toNat % 4 = 0 → 0 < nb → 8 * (kskSpace - addr.toNat) < nb → Does c s fun t =>
      t.dev.on F.KSK_STAT_ADDR_END = true ∧ t.dev.ksk.lastErr = 4 ∧ t.pending = s.pending ∧ t.nv = s.nv)) ∧
  (s.dev.kskUp = true → addr.toNat % 4 = 0 → nb = 32 → addr.toNat < kskSpace → Does c s fun t =>
    (t.dev.ksk.lastErr = 0 ∨ t.dev.ksk.lastErr = 2 ∧ t.dev.fld F.KSK_STAT_FRAME_CAUSE = 5) ∧ t.pending = s.pending ∧ t.nv = s.nv)

/-- The cause that discards a write frame once an earlier frame's writes are applied, 0 for none (R633). -/
def writeCause (sealed : Bool) (addr : BitVec 24) (nb : Nat) (s : State) : Nat :=
  if nb = 0 then 1
  else if (sealed = true ∧ nb ≠ 288) ∨ (sealed = false ∧ nb % 32 ≠ 0) then 2
  else if addr.toNat % 4 ≠ 0 then 3
  else if sealed = false ∧ 8192 < nb then 6
  else if s.dev.on F.KSK_CTL_WRITE_EN = false then 7 else 0

/-- The answers of a command that is a write frame where the port is down or a cause discards it (R614, R632, R633). -/
def WriteFrame (c : Instr) (sealed : Bool) (addr : BitVec 24) (cycles : Nat) (s : State) : Prop :=
  let cause := writeCause sealed addr (cycles - 32) s
  s.dev.ksk.busyTo ≤ s.dev.tc → (s.dev.kskUp = false → Idle c s) ∧
    (s.dev.kskUp = true → cause ≠ 0 → Does c s fun t =>
      t.dev.on F.KSK_STAT_FRAME_ERR = true ∧ t.dev.fld F.KSK_STAT_FRAME_CAUSE = cause ∧ t.dev.ksk.lastErr = 2 ∧
      t.dev.fld F.KSK_STAT_DISCARDS = sat 65535 (s.dev.fld F.KSK_STAT_DISCARDS + 1) ∧
      t.dev.out = s.dev.out ++ [.kiosk [BitVec.ofNat 8 (s.dev.kskStatus false)]] ∧
      Says [.KSK_STAT] { s with dev := { s.dev with ksk := t.dev.ksk } } t)

/-- The operation of a write of FLS_CTL with an OP: CS takes what is in range, LEN is judged as written (R646, R648). -/
def flsOpOf (op : Nat) (v : Word) (s : State) : FlashOp :=
  let len := bits v.toNat 16 9
  { op := op, cs := if bits v.toNat 8 2 ≤ 2 then bits v.toNat 8 2 else s.dev.fld F.FLS_CTL_CS, addr := s.dev.rd .FLS_ADDR,
    len := len, data := if op = 2 then s.dev.flsBytes len else [] }

/-- An operation of FLS_CTL is neither refused nor held back (R645, R646). -/
def FlsOpen (f : FlashOp) (s : State) : Prop :=
  s.dev.on F.FLS_STAT_BUSY = false ∧ s.dev.flsRefused f = false ∧ s.dev.flsProtected f = false

/-- An operation of FLS_CTL has begun (R640, R644, R646): BUSY, and it has the port and has sent its commands, has suspended the
operation there, or waits behind it. -/
def FlsBegun (f : FlashOp) (s t : State) : Prop :=
  let pre := if s.dev.on F.FLS_CS_CFG_ADDR4 0 f.cs ∧ f.cs ∉ s.dev.flash.four then [flashOut s.dev f.cs 0xB7 0 []] else []
  t.dev.on F.FLS_STAT_BUSY = true ∧ t.dev.fld F.FLS_STAT_CAUSE = 0 ∧
  (s.dev.flash.run = none → t.dev.flash.run = some { f with at_ := s.dev.tc } ∧
    (f.op = 1 → t.dev.out = s.dev.out ++ pre ++ [flashOut s.dev f.cs (s.dev.flsReadOp f.cs) f.addr (List.replicate f.len 0)]) ∧
    (f.op = 6 → t.dev.out = s.dev.out ++ pre ++ [flashOut s.dev f.cs 0x9F 0 []]) ∧
    (∀ cmd, (f.op = 2 ∧ cmd = if s.dev.fld F.FLS_CS_CFG_READ 0 f.cs = 0 then 0x02 else 0x32) ∨ (f.op = 3 ∧ cmd = 0x20) ∨
      (f.op = 4 ∧ cmd = 0xD8) ∨ (f.op = 5 ∧ cmd = 0xC7) → t.dev.out = s.dev.out ++ pre ++
        [flashOut s.dev f.cs 0x05 0 [], flashOut s.dev f.cs 0x06 0 [], flashOut s.dev f.cs cmd (if f.op = 5 then 0 else f.addr) f.data])) ∧
  (∀ g, s.dev.flash.run = some g →
    (f.op = 1 ∧ g.op ∈ [2, 3, 4, 5, 7] ∧ s.dev.on F.FLS_CS_CFG_SUSPEND 0 g.cs = true →
      t.dev.flash.susp = some g ∧ t.dev.flash.run = some { f with at_ := s.dev.tc } ∧ t.dev.out = s.dev.out ++
        [flashOut s.dev g.cs 0x75 0 []] ++ pre ++
        [flashOut s.dev f.cs (s.dev.flsReadOp f.cs) f.addr (List.replicate f.len 0)]) ∧
    (f.op ≠ 1 ∨ g.op ∉ [2, 3, 4, 5, 7] ∨ s.dev.on F.FLS_CS_CFG_SUSPEND 0 g.cs = false →
      t.dev.flash = { s.dev.flash with wait := s.dev.flash.wait ++ [f] } ∧ t.dev.out = s.dev.out)) ∧
  Says [.FLS_CTL, .FLS_STAT] { s with dev := { s.dev with flash := t.dev.flash } } t

/-- The answers of a command that writes FLS_CTL with an OP where it is not taken (R645, R646). -/
def FlsTurned (c : Instr) (f : FlashOp) (s : State) : Prop :=
  (s.dev.on F.FLS_STAT_BUSY = true → Idle c s) ∧
  (s.dev.on F.FLS_STAT_BUSY = false →
    ∀ why, (s.dev.on F.FLS_CS_CFG_PRESENT 0 f.cs = false ∨ ¬ (1 ≤ f.len ∧ f.len ≤ 256) ∨
        (f.op = 2 ∧ f.addr / 256 ≠ (f.addr + f.len - 1) / 256) ∨ (f.op = 3 ∧ f.addr % 4096 ≠ 0) ∨
        (f.op = 4 ∧ f.addr % 65536 ≠ 0)) ∧ why = 2 ∨
        s.dev.flsRefused f = false ∧ s.dev.flsProtected f = true ∧ why = 1 → Does c s fun t =>
      t.dev.on F.FLS_STAT_BUSY = false ∧ t.dev.on F.FLS_STAT_DONE = true ∧ t.dev.on F.FLS_STAT_ERR = true ∧
      t.dev.fld F.FLS_STAT_CAUSE = why ∧ bitAt (t.dev.rd .HIF_MISC_STAT) 6 = true ∧
      (∀ k cmd a n l b, .flash k cmd a n l b ∈ t.dev.out → .flash k cmd a n l b ∈ s.dev.out) ∧
      Says (postRegs ++ [.FLS_CTL, .FLS_STAT]) s t) ∧
  (f.op = 5 → f.cs = 0 → s.dev.flsProtected f = true)

/-- The channels whose gain control moves with a channel's frames: its own, and the members that follow it (R131, R208). -/
def heardBy (d : Dev) (n : Nat) : List Nat := n :: d.followers n

/-- Where a channel's gain control was in a state and follows no leader's, it and the members that follow it have moved to another;
every other state stands (R131, R208). -/
def AgcMoved (n a b : Nat) (s t : State) : Prop :=
  ∀ k, k < 192 → t.dev.agc k =
    if k ∈ heardBy s.dev n ∧ s.dev.agc n = a ∧ s.dev.follows n = false then b else s.dev.agc k

/-- The writes that carry bytes to host memory, each of at most q bytes (R436). -/
def piecesOf (q a : Nat) (b : List Byte) : List Output :=
  (List.range ((b.length + q - 1) / q)).map fun i => .memWrite (a + q * i) ((b.drop (q * i)).take q)

/-- Where the device may write and no other source has anything to write, output data has gone to host memory at once (R384, R435,
R436). -/
def DataOut (a : Nat) (b : List Byte) (s t : State) : Prop :=
  s.dev.mayReq = true → s.dev.backlog = [] → t.dev.out = s.dev.out ++ piecesOf s.dev.maxWrite a b

/-- The registers that a reader's frame may change at its end edge (R112, R115, R117, R118, R131, R145). -/
def heardRegs : List RegName := rxRegs ++ [.CH_FRM_QUAL, .CH_RX_COEF_A, .CH_RX_COEF_B]

/-- Every listener but one channel's stands. -/
def LsnStand (n : Nat) (s t : State) : Prop := ∀ k, k ≠ n → (t.dev.ch k).lsn = (s.dev.ch k).lsn

/-- A descriptor has been answered with a status (R404): the device no longer holds it, and unless NO_EVENT suppresses an OK entry,
its completion with that status, its ring and its slot stands in its source's outbound queue or waits for room there. -/
def Answered (q : QDesc) (st : Status) (t : State) : Prop :=
  q ∉ t.dev.host.inFlight ∧
  ((q.d.noEvent = true ∧ st = .ok) ∨
    ∃ e ∈ (t.dev.outq q.d.source).held ++ (t.dev.outq q.d.source).waiting,
      e.kind = .completion ∧ e.status = st ∧ e.ring = some q.evq ∧ ∃ b : CBody, e.body = b.encode q.ring q.idx)

/-- An unsolicited event has been posted (R417, R419, R433): its source's outbound queue holds an entry of its kind and source, or
one waits there for room, or the map routes such entries to no ring. -/
def Posted (k : EvKind) (n : Nat) (t : State) : Prop :=
  (∃ e ∈ (t.dev.outq n).held ++ (t.dev.outq n).waiting, e.kind = k ∧ e.source = n) ∨ t.dev.route { kind := k, source := n } = none

/-- The state with another count of transactions that have begun to wait (R350), for frames of commands that begin one. -/
def withOrder (s : State) (k : Nat) : State := { s with dev := { s.dev with host := { s.dev.host with order := k } } }

/-- The state with the rings' records of another, for frames of commands that change one. -/
def withRings (s t : State) : State :=
  { s with dev := { s.dev with host := { s.dev.host with rings := t.dev.host.rings } } }

/-- A channel begins a cycle of the program of a slot: a transaction of that work waits for admission, with the program's first
step (R249). -/
def CycleWaits (n slot : Nat) (g : Prog) (t : State) : Prop :=
  ∃ y, (t.dev.ch n).txn = some y ∧ y.phase = .waiting ∧ y.work = .cycle slot false ∧ y.prog = g ∧ y.stepIx = 0

/-- The bits after the sync word of a frame that arrives at an enabled port whose lane is up carry a message of a type (R665 to R667,
R669). -/
def Carries (up : Bool) (s : State) (w : List Bool) (ty : Nat) (pay : List Byte) : Prop :=
  s.dev.prmEn up = true ∧ s.dev.laneUp up = true ∧ prmPayload (s.dev.prt up).seed w = some pay ∧ byteAt pay 0 = ty

end Sys2Proof.Safety
end

