-- ==== Sys2Proof/Certificates/Slice0/Obligations.lean ====
section
/-! DEFINITION. The statements: what the manual's rules say the commands and the machine do. -/

open Sys2Proof Sys2Proof.Machine Sys2Proof.Safety

/-! ### Carrier, synthesisers, network time (chapter 02) -/

/-- R31 to R34, R36: what starts a calibration, with its frame, and how calibrations end. -/
def Obligations.SynthesiserCalibrations : Prop :=
  (∀ (b : Bool) (s : State), s.dev.syn.unit b = .off →
    Does (if b then .restartB else .restartA) s fun t =>
      t.dev.syn.unit b = .calibrating ∧ t.dev.syn.unit (!b) = s.dev.syn.unit (!b) ∧ t.dev.syn.runs = s.dev.syn.runs ++ [(.restart, b)] ∧
      t.dev.syn.start b = s.dev.tc ∧
      t.dev.fld (if b then F.SYN_CAL_TEMP_B_TEMP else F.SYN_CAL_TEMP_A_TEMP) = s.dev.fld F.PWR_TEMP_DIE ∧
      Says [.SYN_CAL_TEMP] { s with dev := { s.dev with syn := t.dev.syn } } t) ∧
  (∀ (b : Bool) (s : State), s.dev.syn.unit b ≠ .off → Idle (if b then .restartB else .restartA) s) ∧
  (∀ (c : Instr) (b : Bool) (s : State), s.dev.syn.standby = some b → s.dev.syn.runs = [] → s.dev.syn.takeover = false →
    (c = .calReq ∨ (c = .synTempCheck ∧ s.dev.syn.checkAt + 10 * tcMs ≤ s.dev.tc ∧ s.dev.on F.SYN_CTL_TEMP_TRIG_EN = true ∧ s.dev.synActive = true ∧
      48 ≤ (s.dev.fldI F.PWR_TEMP_DIE -
        s.dev.fldI (if s.dev.syn.activeB then F.SYN_CAL_TEMP_B_TEMP else F.SYN_CAL_TEMP_A_TEMP)).natAbs)) →
    Does c s fun t =>
      t.dev.syn.unit b = .calibrating ∧ t.dev.syn.unit (!b) = s.dev.syn.unit (!b) ∧ t.dev.syn.runs = [(.standbyCal, b)] ∧
      t.dev.fld (if b then F.SYN_CAL_TEMP_B_TEMP else F.SYN_CAL_TEMP_A_TEMP) = s.dev.fld F.PWR_TEMP_DIE ∧
      Says [.SYN_CAL_TEMP] { s with dev := { s.dev with syn := t.dev.syn } } t) ∧
  (∀ s : State, s.dev.syn.refOk = false → s.dev.freeRun = false → Does .refclkReturn s fun t =>
    t.dev.syn.a = .calibrating ∧ t.dev.syn.b = .calibrating ∧ t.dev.syn.runs = [(.cold, false)] ∧ t.dev.syn.refOk = true ∧
    t.dev.fld F.TIME_STAT_CLOCK_SRC = 0 ∧ t.dev.fld F.SYN_CAL_TEMP_A_TEMP = s.dev.fld F.PWR_TEMP_DIE ∧
    t.dev.fld F.SYN_CAL_TEMP_B_TEMP = s.dev.fld F.PWR_TEMP_DIE ∧
    Says [.SYN_CAL_TEMP, .TIME_STAT] { s with dev := { s.dev with syn := t.dev.syn } } t) ∧
  (∀ (a b : Bool) (s : State), s.dev.syn.runs = [(.cold, false)] → s.dev.syn.a = .calibrating → s.dev.syn.b = .calibrating →
    s.dev.watching = false → Does (.synColdStartDone a b) s fun t =>
    t.dev.syn.a = (if a then .active else .off) ∧
    t.dev.syn.b = (if b then (if a then .standby else .active) else .off) ∧
    t.dev.syn.runs = [] ∧ t.dev.on F.SYN_STAT_SINGLE = !(a && b) ∧ t.pending = s.pending ∧ t.nv = s.nv) ∧
  (∀ (b : Bool) (s : State), s.dev.syn.runs = [(.restart, b)] → s.dev.syn.refOk = true → s.dev.syn.takeover = false →
    s.dev.watching = false → s.dev.syn.start b + synCalTc ≤ s.dev.tc → Does (.synCalComplete b) s fun t =>
    t.dev.syn.unit b = (if s.dev.synActive then .standby else .active) ∧ t.dev.syn.unit (!b) = s.dev.syn.unit (!b) ∧
    t.dev.syn.runs = [] ∧
    (s.dev.synActive = true → t.dev.on F.SYN_STAT_SINGLE = false ∧
      Says ([.SYN_STAT] ++ doneRegs) { s with dev := { s.dev with syn := t.dev.syn } } t) ∧
    (s.dev.synActive = false → t.dev.on F.SYN_STAT_SINGLE = s.dev.on F.SYN_STAT_SINGLE ∧
      Works admRegs { s with dev := { s.dev with syn := t.dev.syn } } t)) ∧
  (∀ (b : Bool) (s : State), s.dev.syn.runs = [(.standbyCal, b)] → s.dev.syn.refOk = true → s.dev.synActive = true →
    s.dev.syn.start b + synCalTc ≤ s.dev.tc → Does (.synCalComplete b) s fun t =>
    t = { s with dev := { s.dev with syn := { s.dev.syn with swapDue := true } } }) ∧
  (∀ (b : Bool) (step cycles : Nat) (s : State), s.dev.syn.runs = [(.standbyCal, b)] → s.dev.syn.swapDue = true →
    s.dev.watching = false → step ≤ 50 →
    Does (.alignedSwap step cycles) s fun t =>
    t.dev.syn.unit b = .active ∧ t.dev.syn.unit (!b) = .standby ∧ t.dev.syn.activeB = b ∧ t.dev.syn.runs = [] ∧
    t.dev.fld F.SYN_LAST_SWAP_PHASE_STEP = step ∧ t.dev.fld F.SYN_LAST_SWAP_CYCLES = cycles % 16 ∧
    t.dev.fld F.SYN_LAST_SWAP_EMERGENCY = 0 ∧ t.pending = s.pending ∧ t.nv = s.nv ∧ t.dev.time = s.dev.time) ∧
  (∀ (k : SynCal) (b : Bool) (s : State), s.dev.syn.runs = [(k, b)] → k ≠ .cold → s.dev.syn.start b + synLimitTc ≤ s.dev.tc → Does (.synCalTimeout b) s fun t =>
    t.dev.syn.unit b = .off ∧ t.dev.syn.unit (!b) = s.dev.syn.unit (!b) ∧ t.dev.syn.runs = [] ∧
    t.dev.fld F.SYN_STAT_CAL_FAIL = 1 ∧ t.pending = s.pending ∧ t.nv = s.nv) ∧
  (∀ (b : Bool) (s : State), (∀ r ∈ s.dev.syn.runs, r.1 = .cold ∨ r.2 ≠ b) →
    Idle (.synCalComplete b) s ∧ (s.dev.syn.unit b ≠ .calibrating → Idle (.synCalTimeout b) s))

/-- R31, R59, R567: the synthesisers' losses. -/
def Obligations.SynthesiserLoss : Prop :=
  (∀ (b : Bool) (s : State), s.dev.syn.unit b = .standby → Does (.synLossOfLock b) s fun t =>
    t.dev.syn.unit b = .off ∧ t.dev.syn.unit (!b) = s.dev.syn.unit (!b) ∧ t.dev.on F.SYN_STAT_SINGLE = true ∧
    t.pending = s.pending ∧ t.nv = s.nv) ∧
  (∀ (b : Bool) (s : State), s.dev.syn.unit b = .active → s.dev.syn.unit (!b) = .standby → Does (.synLossOfLock b) s fun t =>
    t.dev.syn.unit b = .off ∧ t.dev.syn.unit (!b) = .standby ∧ t.dev.syn.takeover = true ∧
    t.dev.on F.SYN_STAT_SINGLE = true ∧ t.dev.fld F.FLT_CNT_C0 = sat 255 (s.dev.fld F.FLT_CNT_C0 + 1) ∧
    Says ([.SYN_STAT] ++ faultRegs) { s with dev := { s.dev with syn := t.dev.syn } } t) ∧
  (∀ (b : Bool) (step cycles : Nat) (s : State), s.dev.syn.takeover = true → s.dev.syn.standby = some b → s.dev.watching = false → step ≤ 255 →
    Does (.emergencyTakeover step cycles) s fun t =>
    t.dev.syn.unit b = .active ∧ t.dev.syn.unit (!b) = s.dev.syn.unit (!b) ∧ t.dev.syn.takeover = false ∧
    t.dev.on F.SYN_STAT_SINGLE = s.dev.on F.SYN_STAT_SINGLE ∧ t.dev.fld F.SYN_LAST_SWAP_PHASE_STEP = step ∧
    t.dev.fld F.SYN_LAST_SWAP_EMERGENCY = 1 ∧ t.pending = s.pending ∧ t.nv = s.nv) ∧
  (∀ s : State, s.dev.syn.refOk = true → Does .refclkLoss s fun t =>
    t.dev.syn.a = .off ∧ t.dev.syn.b = .off ∧ t.dev.syn.runs = [] ∧ t.dev.syn.refOk = false ∧
    t.dev.fld F.TIME_STAT_CLOCK_SRC = 1 ∧ t.dev.locked = false ∧ t.pending = s.pending ∧ t.nv = s.nv)

/-- R41, R44, and R40 for the trim in force: each with its frame. -/
def Obligations.CarrierTrim : Prop :=
  (∀ (v : Word) (s : State),
    ¬ (s.dev.fldI F.SYN_TRIM_MIN_STEPS ≤ toInt 18 v.toNat ∧ toInt 18 v.toNat ≤ s.dev.fldI F.SYN_TRIM_MAX_STEPS) →
    Does (.synTrimWrite v) s fun t =>
      t.dev.fld F.SYN_TRIM_STEPS = s.dev.fld F.SYN_TRIM_STEPS ∧ t.dev.fld F.SYN_STAT_TRIM_REFUSED = 1 ∧
      t.dev.syn = s.dev.syn ∧ Says ([.SYN_STAT] ++ postRegs) s t) ∧
  (∀ (v : Word) (s : State),
    s.dev.fldI F.SYN_TRIM_MIN_STEPS ≤ toInt 18 v.toNat → toInt 18 v.toNat ≤ s.dev.fldI F.SYN_TRIM_MAX_STEPS →
    -35000 ≤ toInt 18 v.toNat → toInt 18 v.toNat ≤ 35000 →
    Does (.synTrimWrite v) s fun t =>
      t.dev.fld F.SYN_TRIM_STEPS = v.toNat % 2 ^ 18 ∧ t.dev.syn.trimPend = some (v.toNat % 2 ^ 18) ∧
      t.dev.syn.trim = s.dev.syn.trim ∧ Says [.SYN_TRIM] { s with dev := { s.dev with syn := t.dev.syn } } t) ∧
  (∀ (v : Nat) (s : State), s.dev.syn.trimPend = some v → Does .trimApply s fun t =>
    t = { s with dev := { s.dev with syn := { s.dev.syn with trim := v, trimPend := none } } }) ∧
  (∀ (ch : Fin 192) (v : Word) (s : State), Does (.phaseOfsUserWrite ch v) s fun t =>
    t.dev.fld F.CH_PHASE_OFS_USER ch = bits v.toNat 16 10 ∧
    t.dev.fld F.CH_PHASE_OFS_CAL ch = s.dev.fld F.CH_PHASE_OFS_CAL ch ∧
    OnlyRegs [(.CH_PHASE_OFS, ch, 0)] s t)

/-- R53, R54 and R691: network time as software sets and reads it. -/
def Obligations.NetworkTime : Prop :=
  (∀ s : State, Does .timeLoad s fun t =>
    t.dev.nowFull = s.dev.rd .TIME_SET_NS + (s.dev.rd .TIME_SET_SL + 2 ^ 32 * s.dev.fld F.TIME_SET_SH_SEC) * 10 ^ 9 ∧
    t.dev.locked = false ∧ t.dev.on F.TIME_CTL_HOST_LOCK = false ∧ t.dev.time.tc = s.dev.toTick.time.tc ∧
    t.dev.syn.a = s.dev.syn.a ∧ t.dev.syn.b = s.dev.syn.b ∧ t.pending = s.pending ∧ t.nv = s.nv) ∧
  (∀ (k : Bool) (s : State), Does (.timeNowNsRead k) s fun t =>
    t.dev.out = s.dev.out ++ [.readData k (s.dev.nowFull % 10 ^ 9)] ∧ t.dev.nowFull = s.dev.nowFull ∧
    (t.dev.readReg t.nv k .TIME_NOW_SL 0 0).1 = s.dev.nowFull / 10 ^ 9 % 2 ^ 32 ∧
    (t.dev.readReg t.nv k .TIME_NOW_SH 0 0).1 = s.dev.nowFull / 10 ^ 9 / 2 ^ 32 % 2 ^ 16 ∧
    (t.dev.readReg t.nv (!k) .TIME_NOW_SL 0 0).1 = (s.dev.readReg s.nv (!k) .TIME_NOW_SL 0 0).1 ∧
    t = { s with dev := { s.dev with time := t.dev.time, out := t.dev.out } }) ∧
  (∀ (v : Word) (s : State), Does (.timeNextSlWrite v) s fun t =>
    t.dev.rd .TIME_NEXT_SL = v.toNat ∧ t.dev.time = { s.dev.time with nextWritten := true } ∧
    Says [.TIME_NEXT_SL] { s with dev := { s.dev with time := t.dev.time } } t)

/-- R55 to R58: the PPS discipline. -/
def Obligations.PpsDiscipline : Prop :=
  (∀ (r : Bool) (q : Fin 4) (s : State), edgeIs (s.dev.fld F.TIME_CTL_PPS_EDGE) r = false → Idle (.ppsEdge r q) s) ∧
  (∀ (r : Bool) (q : Fin 4) (s : State) (ofs : Int), edgeIs (s.dev.fld F.TIME_CTL_PPS_EDGE) r = true →
    s.dev.fld F.TIME_CTL_SOURCE = 1 → ofs = (s.dev.timeFull (4 * s.dev.time.tc + q) : Int) - (s.dev.edgeSec * 10 ^ 9 : Nat) →
    Does (.ppsEdge r q) s fun t =>
    t.dev.rd .TIME_PPS_OFS = ofInt 32 (clampInt (-(2 ^ 31)) (2 ^ 31 - 1) ofs) ∧
    t.dev.on F.TIME_STAT_HOLDOVER = false ∧ t.dev.time.prevSec = s.dev.edgeSec ∧ t.dev.time.nextWritten = false ∧
    t.dev.fld F.TIME_STAT_GOOD_EDGES = (if ofs.natAbs ≤ 250 then
      sat 4 (s.dev.fld F.TIME_STAT_GOOD_EDGES + 1) else 0) ∧
    (10 ^ 6 < ofs.natAbs ∨ s.dev.time.firstEdge = true →
      t.dev.nowFull = ((s.dev.nowFull : Int) - ofs).toNat ∧ t.dev.locked = false) ∧
    t.pending = s.pending ∧ t.nv = s.nv) ∧
  (∀ s : State, s.dev.fld F.TIME_CTL_SOURCE = 1 → 339 * (s.dev.edgeSec * 10 ^ 9 + 100000) ≤ s.dev.netU → Does .ppsMissing s fun t =>
    t.dev.on F.TIME_STAT_HOLDOVER = true ∧ t.dev.on F.TIME_STAT_PPS_MISSING = true ∧
    (s.dev.fld F.TIME_CTL_HOLDOVER_MAX = 0 → t.dev.locked = false) ∧
    (s.dev.fld F.TIME_CTL_HOLDOVER_MAX ≠ 0 → s.dev.on F.TIME_STAT_CLOCK_SRC = false →
      t.dev.time = { s.dev.time with holdAt := if s.dev.on F.TIME_STAT_HOLDOVER then s.dev.time.holdAt else s.dev.nowFull } ∧
      OnlyRegs [(.TIME_STAT, 0, 0)] { s with dev := { s.dev with time := t.dev.time } } t)) ∧
  (∀ s : State, s.dev.on F.TIME_STAT_HOLDOVER = true → s.dev.freeRun = false →
    339 * (s.dev.time.holdAt + s.dev.fld F.TIME_CTL_HOLDOVER_MAX * 10 ^ 9) ≤ s.dev.netU → Does .holdoverExpiry s fun t =>
    t.dev.locked = false ∧ t.dev.time = s.dev.time ∧ t.pending = s.pending ∧ t.nv = s.nv)

/-! ### Transactions and their fields (chapters 03 and 10) -/

/-- R343, R344, R349, R356, R370: one attempt at admission on a channel that no calibration has borrowed, with its frame. -/
def Obligations.AdmissionGrants : Prop :=
  ∀ (ch : Fin 192) (s : State), s.dev.calOf ch = none →
    ((s.dev.ch ch).txn = none → Idle (.transactionAdmission ch) s) ∧
    (∀ x, (s.dev.ch ch).txn = some x → (x.phase ≠ .waiting ∨ s.dev.asks ch x = false) → Idle (.transactionAdmission ch) s) ∧
    (∀ x, (s.dev.ch ch).txn = some x → x.phase = .waiting → s.dev.asks ch x = true → s.dev.refusal ch x = none →
      (s.dev.otherWait ch x (s.dev.planDriven ch x) = false →
       s.dev.missing ch (s.dev.planLent ch x) (s.dev.declLen ch x) = 0 → s.dev.olderWaits ch x = false →
        Does (.transactionAdmission ch) s fun t =>
          (t.dev.ch ch).txn = some { x with
            phase := .admitted, driven := s.dev.planDriven ch x, declTc := s.dev.declLen ch x, tAdm := s.dev.tc,
            eRsv := s.dev.energy (s.dev.planDriven ch x) (s.dev.declLen ch x), mods := s.dev.modSet ch,
            closing := s.dev.closingOf (pavOf ch) (arbOf ch % 4) (25000 * s.dev.leadLeft (pavOf ch)) } ∧
          (t.dev.pav (pavOf ch)).rsv = (s.dev.pav (pavOf ch)).rsv + s.dev.energy (s.dev.planDriven ch x) (s.dev.declLen ch x) ∧
          (t.dev.pav (pavOf ch)).req = true ∧ t.dev.fld F.CH_ADM_STAT_CAUSE ch = 0 ∧ ChansStand [ch] s t ∧ Works admRegs s t) ∧
      (s.dev.otherWait ch x (s.dev.planDriven ch x) = true ∨ s.dev.olderWaits ch x = true ∨
       s.dev.missing ch (s.dev.planLent ch x) (s.dev.declLen ch x) ≠ 0 →
        Does (.transactionAdmission ch) s fun t =>
          (t.dev.ch ch).txn = some x ∧ t.dev.fld F.CH_ADM_STAT_CAUSE ch ≠ 0 ∧ OnlyRegs [(.CH_ADM_STAT, ch, 0)] s t)) ∧
    (∀ x st, (s.dev.ch ch).txn = some x → x.phase = .waiting → s.dev.asks ch x = true → s.dev.refusal ch x = some st →
      x.work ≠ .cal → x.work ≠ .pilot → Does (.transactionAdmission ch) s fun t =>
        (t.dev.ch ch).txn = none ∧ t.dev.fld F.CH_ADM_STAT_CAUSE ch = 0 ∧
        (∀ k, k ≠ ch → (t.dev.ch k).txn = (s.dev.ch k).txn) ∧ Works (workRegs ++ [.CH_ADM_STAT, .ARB_FG_STAT]) s t)

/-- R85, R89, R241, R343, R372: the start of a field, with its frame. -/
def Obligations.FieldStarts : Prop :=
  (∀ (ch : Fin 192) (s : State) (x : Txn), (s.dev.ch ch).txn = some x → x.phase = .admitted →
    (x.work = .exchange ∧ x.frame.isSome ∨ x.work = .cal) → StillFit s.dev ch x → s.dev.leadLeft (pavOf ch) = 0 →
    (∀ k ∈ x.coils, k < 192) → Does (.fieldStart ch) s fun t =>
      (∃ y, (t.dev.ch ch).txn = some y ∧ y.phase = .up ∧ y.tUp = s.dev.tc ∧ y.driven = x.driven ∧ y.eRsv = x.eRsv ∧
        y.notBefore = s.dev.tc + s.dev.fld F.CH_RAMP_UP ch + usTc (s.dev.fld F.PAV_SEQ_FIELD_GT_US (pavOf ch)) ∧
        (x.work = .exchange → y.air = .staged ∧ y.frame.map (·.data) = x.frame.map (·.data) ∧ y.notBefore ≤ y.dueTc)) ∧
      (∀ k ∈ x.coils, (t.dev.ch k).fieldOf = some ch.val ∧ (t.dev.ch k).parking = false ∧ (t.dev.ch k).onAt = some s.dev.tc ∧
        t.dev.fld F.CH_PWR_MEAS_PEAK k = 0) ∧
      ChansStand (ch :: x.coils) s t ∧ Works (admRegs ++ [.CH_PWR_MEAS]) s t) ∧
  (∀ (ch : Fin 192) (s : State) (x : Txn) (l : List Nat), (s.dev.ch ch).txn = some x → x.phase = .admitted → x.work = .pilot →
    (s.dev.arb (arbOf ch)).pilot = ch.val % 8 :: l → s.dev.arbProbes (arbOf ch) = true → (s.dev.ch ch).role.probes = true →
    s.dev.probeHolds ch x = true → s.dev.leadLeft (pavOf ch) = 0 → Does (.fieldStart ch) s fun t =>
      (t.dev.ch ch).txn = some { x with phase := .up, tUp := s.dev.tc } ∧ (t.dev.ch ch).fieldOf = some ch.val ∧
      (t.dev.ch ch).parking = false ∧ (t.dev.ch ch).onAt = some s.dev.tc ∧ t.dev.fld F.CH_PWR_MEAS_PEAK ch = 0 ∧
      (t.dev.arb (arbOf ch)).gains = s.dev.tapGains (arbOf ch) (ch.val % 8) ∧ .ramp ch true .normal true 16 ∈ t.dev.out ∧
      ChansStand [ch] s t ∧ Works [.CH_PWR_MEAS] s t) ∧
  (∀ (ch : Fin 192) (s : State), (∀ x, (s.dev.ch ch).txn = some x → x.phase ≠ .admitted ∨
    (x.work = .pilot ∧ (s.dev.arb (arbOf ch)).pilot.head? ≠ some (ch.val % 8))) → Idle (.fieldStart ch) s)

/-- R85, R88, R89, R331, R356, R408: the ends of a field. -/
def Obligations.FieldEnds : Prop :=
  (∀ (ch : Fin 192) (s : State) (x : Txn), (s.dev.ch ch).txn = some x → x.phase = .rampDown → x.work = .exchange →
    (s.dev.ch ch).prog = none → (s.dev.ch ch).borrowed = false → x.dueTc ≤ s.dev.tc → (∀ k ∈ x.coils, k < 192) →
    Does (.fieldRampDownEnd ch) s fun t =>
      (t.dev.ch ch).txn = none ∧
      (∀ k ∈ x.coils, (t.dev.ch k).fieldOf = none ∧ (t.dev.ch k).parking = true ∧ (t.dev.ch k).onAt = none) ∧
      t.dev.sess = (s.dev.freeAll ch).sess ∧
      (x.finished = false → t.dev.fld F.CH_FRM_LAST_STATUS ch = (x.endCause.getD .ok).ctorIdx) ∧
      t.pending = s.pending ∧ t.nv = s.nv ∧ t.dev.time = s.dev.time ∧ t.dev.syn.a = s.dev.syn.a ∧ t.dev.syn.b = s.dev.syn.b) ∧
  (∀ (ch : Fin 192) (s : State),
    (∀ x, (s.dev.ch ch).txn = some x → x.phase ≠ .rampDown ∧ ¬(x.work = .cal ∧ x.phase = .up)) → Idle (.fieldRampDownEnd ch) s) ∧
  (∀ (ch : Fin 192) (s : State) (x : Txn), (s.dev.ch ch).txn = some x →
    (x.phase = .up → x.work = .exchange → x.holdField = true → x.finished = true →
      x.tUp + x.declTc - s.dev.fallTc (x.falls .normal none []) ≤ s.dev.tc → Does (.declaredLengthEnd ch) s fun t =>
        FallsFor s.dev .normal none [] ch x t ∧
        (∀ k, k ≠ ch.val → (t.dev.ch k).txn = (s.dev.ch k).txn) ∧ Works rxRegs s t) ∧
    (x.phase ≠ .up ∨ x.work ≠ .exchange ∨ x.holdField = false ∨ x.finished = false → Idle (.declaredLengthEnd ch) s))

/-- R77, R91, R93, R94, R719: windows of the common grid, the limiter and the field-enable chains. -/
def Obligations.PowerWindows : Prop :=
  (∀ (w : WinFacts) (s : State), w.ch < 192 → s.dev.fieldIn w.ch = true → s.dev.gridEnd 64 s.dev.time.winAt ≤ s.dev.tc →
    Does (.powerWindowEnd [w] []) s fun t =>
    t.dev.fld F.CH_PWR_MEAS_MW w.ch = sat 4095 w.mw ∧
    t.dev.fld F.CH_PWR_MEAS_PEAK w.ch = max (s.dev.fld F.CH_PWR_MEAS_PEAK w.ch) (sat 4095 w.mw) ∧
    (∀ n, n < 192 → n ≠ w.ch → t.dev.fld F.CH_PWR_MEAS_MW n = 0) ∧
    (overHalfDb w.drive (s.dev.limNow w.ch) = false →
      t.dev.rd .CH_LIM_STAT w.ch = s.dev.rd .CH_LIM_STAT w.ch) ∧
    (∀ x, (s.dev.ch w.ch).fieldOf = some w.ch → overHalfDb w.drive (s.dev.limNow w.ch) = true →
      (s.dev.ch w.ch).txn = some x → x.phase = .up →
      t.dev.on F.CH_LIM_STAT_TRIP w.ch = true ∧
      t.dev.fld F.CH_LIM_STAT_TRIPS w.ch = sat 255 (s.dev.fld F.CH_LIM_STAT_TRIPS w.ch + 1) ∧
      ∃ y, (t.dev.ch w.ch).txn = some y ∧ y.phase = .rampDown ∧ y.endCause = joinCause x.endCause (some .faultAbort) ∧
        ∀ k ∈ y.driven, k.ch = w.ch → y.fallOf k = some .hard) ∧
    t.dev.time = { s.dev.time with winAt := s.dev.tc } ∧ Works (faultRegs ++ admRegs ++ [.CH_PWR_MEAS, .CH_FIELD_STAT, .CH_TUNE_STAT, .CH_LIM_STAT, .CH_RX_SAT, .CH_RX_EST_C,
      .CH_RX_EST_F_AMP, .CH_RX_EST_F_PH, .CH_RX_AGC, .ARB_SEP_STAT, .FLT_ISO_CH]) { s with dev := { s.dev with time := t.dev.time } } t) ∧
  (∀ (ch : Fin 192) (s : State) (x : Txn), (s.dev.ch ch).fieldOf = some ch.val → (s.dev.ch ch).txn = some x → x.phase = .up →
    Does (.chainFault ch) s fun t =>
      t.dev.on F.CH_FEN_STAT_CHAIN_FAULT ch = true ∧
      (∃ y, (t.dev.ch ch).txn = some y ∧ y.phase = .rampDown ∧ y.endCause = joinCause x.endCause (some .faultAbort) ∧
        ∀ k ∈ y.driven, k.ch = ch.val → y.fallOf k = some .hard) ∧
      (s.dev.flt.lastAt = none → t.dev.fld F.FLT_LAST_CODE = 0x0011) ∧ Works (faultRegs ++ workRegs ++ [.CH_FEN_STAT, .FLT_ISO_CH]) s t)

/-- R96, R97, R98, R104, R352, R376: limits, tuner and duty. -/
def Obligations.LimitAndTuner : Prop :=
  (∀ (ch : Fin 192) (v : Word) (s : State), Does (.tuneWrite ch v) s fun t =>
    t.dev.on F.CH_TUNE_CTL_AUTO ch = false ∧
    (s.dev.coilOn ch = false →
      t.dev.fld F.CH_TUNE_SER ch = bits v.toNat 0 7 ∧ t.dev.fld F.CH_TUNE_SHUNT ch = bits v.toNat 8 6 ∧
      t.dev.on F.CH_TUNE_PENDING ch = false ∧ (t.dev.ch ch).tunePend = none) ∧
    (s.dev.coilOn ch = true →
      t.dev.fld F.CH_TUNE_SER ch = s.dev.fld F.CH_TUNE_SER ch ∧ t.dev.fld F.CH_TUNE_SHUNT ch = s.dev.fld F.CH_TUNE_SHUNT ch ∧
      t.dev.on F.CH_TUNE_PENDING ch = true ∧ (t.dev.ch ch).tunePend = some (bits v.toNat 0 7, bits v.toNat 8 6)) ∧
    ChansStand [ch] s t ∧ Works [.CH_TUNE, .CH_TUNE_CTL] s t) ∧
  (∀ (ch : Fin 192) (v : Word) (s : State), Does (.pwrLimWrite ch v) s fun t =>
    t.dev.fld F.CH_PWR_LIM_MW ch = (if s.nv.life = 1 ∧ s.nv.regLock = false ∧ 1 ≤ bits v.toNat 0 10 ∧ bits v.toNat 0 10 ≤ 1000
      then bits v.toNat 0 10 else s.dev.fld F.CH_PWR_LIM_MW ch) ∧
    t.dev.limNow ch = s.dev.limNow ch ∧ Works (admRegs ++ [.CH_PWR_LIM, .CH_FIELD_STAT, .SEC_STAT]) s t) ∧
  (∀ s : State, s.dev.chanKeys.Nodup → s.dev.gridEnd tcMs s.dev.time.sliceAt ≤ s.dev.tc → Does .dutySliceEnd s fun t =>
    (∀ n, (s.dev.ch n).onAt.isSome → (t.dev.ch n).onAt = (s.dev.ch n).onAt ∧
      (t.dev.ch n).duty = ((s.dev.settleDuty n).ch n).duty ∧
      (t.dev.ch n).dutyAt = max (s.dev.ch n).dutyAt (min s.dev.tc ((s.dev.ch n).downAt.getD s.dev.tc))) ∧
    t.dev.time = { s.dev.time with sliceAt := s.dev.tc } ∧ Works admRegs { s with dev := { s.dev with time := t.dev.time } } t)

/-! ### Receive chain and frames (chapters 04 and 05) -/

/-- R116, R117, R128, R131, R132, R133, R693: settings of a receive chain, each with its frame. -/
def Obligations.ReceiveSettings : Prop :=
  (∀ (ch : Fin 192) (b : Bool) (k : Fin 32) (v : Word) (s : State), Does (.coefWrite ch b k v) s fun t =>
    (s.dev.on F.CH_RX_FIR_FADING ch = true ∨ s.dev.on F.CH_RX_FIR_ACTIVE ch = b →
      t.dev.on F.CH_RX_FIR_WR_REFUSED ch = true ∧ OnlyRegs [(.CH_RX_FIR, ch, 0)] s t) ∧
    (s.dev.on F.CH_RX_FIR_FADING ch = false → s.dev.on F.CH_RX_FIR_ACTIVE ch = !b →
      t.dev.rd (if b then .CH_RX_COEF_B else .CH_RX_COEF_A) ch k = bits v.toNat 0 18 ∧
      OnlyRegs [(if b then .CH_RX_COEF_B else .CH_RX_COEF_A, ch, k)] s t)) ∧
  (∀ (ch : Fin 192) (s : State), Does (.firSwitch ch) s fun t =>
    ChansStand [ch.val] s t ∧ Works [.CH_RX_FIR] s t ∧ t.dev.on F.CH_RX_FIR_ACTIVE ch = s.dev.on F.CH_RX_FIR_ACTIVE ch ∧
    (s.dev.on F.CH_RX_FIR_PENDING ch = false → s.dev.on F.CH_RX_FIR_FADING ch = false →
      t.dev.on F.CH_RX_FIR_PENDING ch = s.dev.inFrame ch ∧ t.dev.on F.CH_RX_FIR_FADING ch = !s.dev.inFrame ch) ∧
    (s.dev.on F.CH_RX_FIR_PENDING ch = true ∨ s.dev.on F.CH_RX_FIR_FADING ch = true → t = s)) ∧
  (∀ (ch : Fin 192) (s : State), s.dev.on F.CH_RX_FIR_FADING ch = true → (s.dev.ch ch).fadeAt + s.dev.fadeTc ch ≤ s.dev.tc →
    Does (.firFadeEnd ch) s fun t =>
    t.dev.on F.CH_RX_FIR_FADING ch = false ∧ t.dev.on F.CH_RX_FIR_ACTIVE ch = !s.dev.on F.CH_RX_FIR_ACTIVE ch ∧
    OnlyRegs [(.CH_RX_FIR, ch, 0)] s t) ∧
  (∀ (ch : Fin 192) (v : Word) (s : State), Does (.agcModeWrite ch v) s fun t =>
    t.dev.on F.CH_RX_AGC_MODE ch = bitAt v.toNat 0 ∧
    t.dev.fld F.CH_RX_AGC_GAIN_MAN ch = (if bits v.toNat 8 5 ≤ 24 then bits v.toNat 8 5 else s.dev.fld F.CH_RX_AGC_GAIN_MAN ch) ∧
    (bitAt v.toNat 0 = true → s.dev.follows ch = false → t.dev.agc ch = 3 ∧
      (s.dev.agc ch ≠ 3 → ∀ k ∈ heardBy s.dev ch, k < 192 → t.dev.agc k = 3) ∧
      t.dev.fld F.CH_RX_AGC_GAIN_NOW ch = t.dev.fld F.CH_RX_AGC_GAIN_MAN ch) ∧
    (s.dev.follows ch = true → (∀ k, k < 192 → t.dev.agc k = s.dev.agc k) ∧
      t.dev.fld F.CH_RX_AGC_GAIN_NOW ch = s.dev.fld F.CH_RX_AGC_GAIN_NOW ch) ∧
    (bitAt v.toNat 0 = false → AgcMoved ch 3 0 s t ∧
      t.dev.fld F.CH_RX_AGC_GAIN_NOW ch = s.dev.fld F.CH_RX_AGC_GAIN_NOW ch) ∧
    (∀ k, k < 192 → k ∉ heardBy s.dev ch → t.dev.rd .CH_RX_AGC k = s.dev.rd .CH_RX_AGC k) ∧
    ChansStand [ch.val] s t ∧ Works [.CH_RX_AGC] s t) ∧
  (∀ (ch : Fin 192) (s : State), Does (.agcOverload ch) s fun t =>
    t.dev.on F.CH_RX_SAT_ADC ch = true ∧
    t.dev.fld F.CH_RX_AGC_GAIN_NOW ch =
      (if s.dev.agc ch = 0 then s.dev.fld F.CH_RX_AGC_GAIN_NOW ch - 6 else s.dev.fld F.CH_RX_AGC_GAIN_NOW ch) ∧
    t.dev.agc ch = s.dev.agc ch ∧ (∀ k, k ≠ ch.val → t.dev.rd .CH_RX_AGC k = s.dev.rd .CH_RX_AGC k ∧
      t.dev.rd .CH_RX_SAT k = s.dev.rd .CH_RX_SAT k) ∧ ChansStand [ch.val] s t ∧ Works [.CH_RX_SAT, .CH_RX_AGC] s t) ∧
  (∀ (ch : Fin 192) (s : State), Does (.agcHoldRelease ch) s fun t =>
    AgcMoved ch 1 0 s t ∧ ChansStand [] s t ∧ Works [.CH_RX_AGC] s t) ∧
  (∀ (ch : Fin 192) (k : Bool) (s : State), tblFind (s.dev.shadows k) (regKey .CH_RX_EST_F_AMP ch 0) = none →
    Does (.estFAmpRead ch k) s fun t =>
      t.dev.out = s.dev.out ++ [.readData k (s.dev.rd .CH_RX_EST_F_AMP ch)] ∧
      bits (t.dev.readReg t.nv k .CH_RX_EST_F_PH ch 0).1 0 16 = s.dev.fld F.CH_RX_EST_F_PH_PHASE ch ∧
      t.dev.shadows (!k) = s.dev.shadows (!k) ∧
      t = { s with dev := { s.dev with ksk := t.dev.ksk, out := t.dev.out } })

/-- R131, R154 to R156, R167 to R169, R172, R238, R242: the phases of a frame exchange, with their frames. -/
def Obligations.FramePhases : Prop :=
  ∀ (ch : Fin 192) (s : State) (x : Txn) (f : AirFrame), (s.dev.ch ch).txn = some x → x.phase = .up → x.frame = some f →
    (x.air = .staged → x.dueTc ≤ s.dev.tc → Does (.deviceFrameStart ch) s fun t =>
      (t.dev.ch ch).txn = some { x with
        air := .sending, dueTc := s.dev.tc + x.mods.frameTc f.tech f.txRate f.data f.lastBits } ∧
      t.dev.out = s.dev.out ++ [.air ch f (x.mods.line f.tech f.txRate f.data f.lastBits)] ∧
      AgcMoved ch 0 1 s t ∧ ChansStand [ch.val] s t ∧ Works [.CH_RX_AGC] s t) ∧
    (x.air = .sending → x.dueTc ≤ s.dev.tc → Does (.deviceFrameEnd ch) s fun t =>
      (f.optEof = false → (t.dev.ch ch).txn = some { x with air := .winWait, endTc := s.dev.tc, reqTc := s.dev.tc } ∧
        Works [] { s with dev := { s.dev with sess := t.dev.sess } } t) ∧
      (f.optEof = true → (∃ y g, (t.dev.ch ch).txn = some y ∧ y.frame = some g ∧ y.air = .staged ∧ y.endTc = s.dev.tc ∧
          y.dueTc = max (s.dev.tc + s.dev.spacing ch f.tech f.rxRate (s.dev.combined (arbOf ch) x.fg)) x.notBefore ∧
          g.data = [] ∧ g.optEof = false ∧ g.tech = f.tech ∧ g.winOpen = f.winOpen ∧ g.winClose = f.winClose) ∧
        Works admRegs { s with dev := { s.dev with sess := t.dev.sess } } t) ∧
      (x.sess = none → t.dev.sess = s.dev.sess) ∧ ChansStand [ch.val] s t) ∧
    (x.air = .winWait → openTc x f ≤ s.dev.tc → Does (.responseWindowOpen ch) s fun t =>
      (t.dev.ch ch).txn = some { x with air := .winOpen } ∧ ChansStand [ch.val] s t ∧ Works [] s t) ∧
    (∀ floor, x.air = .receiving → x.reqTc + f.winClose ≤ s.dev.tc → Does (.responseWindowClose ch floor) s fun t =>
      (t.dev.ch ch).txn = some { x with winOver := true } ∧ ChansStand [ch.val] s t ∧ Works [] s t) ∧
    (∀ taps y, x.air = .winOpen ∨ x.air = .capturing ∧ 4 * s.dev.tc ≤ x.capEnd → y.first / 4 ≤ s.dev.tc →
      (s.dev.declares ch x f y = false → Idle (.sofDetected ch taps y) s) ∧
      (s.dev.declares ch x f y = true → Does (.sofDetected ch taps y) s fun t =>
        (∃ z, (t.dev.ch ch).txn = some z ∧ z = { x with
          air := if x.air = .winOpen then .receiving else .captured, sof := { y with floor := s.dev.floorNow ch x f y.floor },
          marks := [], sep := none, zeroed := z.zeroed }) ∧
        AgcMoved ch 0 2 s t ∧ (∀ k, k ≠ ch.val → (t.dev.ch k).txn = (s.dev.ch k).txn) ∧ Works [.CH_RX_AGC, .ARB_CT_W] s t)) ∧
    (∀ per : Nat, x.air = .receiving ∧ x.winOver = false ∨ x.air = .captured →
      (2 ≤ per → Idle (.falseSof ch per) s) ∧
      (per < 2 → Does (.falseSof ch per) s fun t =>
        (t.dev.ch ch).txn = some { x with air := if x.air = .receiving then .winOpen else .capturing, zeroed := [] } ∧
        t.dev.fld F.CH_FRM_QUAL_FALSE_SOF ch = sat 255 (s.dev.fld F.CH_FRM_QUAL_FALSE_SOF ch + 1) ∧
        AgcMoved ch 2 0 s t ∧ (∀ k, k ≠ ch.val → (t.dev.ch k).txn = (s.dev.ch k).txn) ∧
        Works (rxRegs ++ [.CH_FRM_QUAL, .ARB_CT_W]) s t)) ∧
    (∀ y, x.air = .receiving ∨ x.air = .captured → s.dev.isStep ch x y = false → Idle (.captureStep ch y) s) ∧
    (∀ y, x.air = .receiving → s.dev.isStep ch x y = true → s.dev.joint ch x.fg = false → x.sep = none →
        Does (.captureStep ch y) s fun t =>
      (s.dev.on F.CH_DEM_CTL_CAPTURE_EN ch = false →
        (t.dev.ch ch).txn = some { x with marks := x.marks ++ [y.bit] } ∧ AgcMoved ch 2 0 s t ∧
        ChansStand [ch.val] s t ∧ Works [.CH_RX_AGC] s t) ∧
      (s.dev.on F.CH_DEM_CTL_CAPTURE_EN ch = true →
        (t.dev.ch ch).txn = some { x with
          air := .capturing, capCount := 1, capFrom := y.first, capEnd := y.first + 4 * captureTc f.tech f.rxRate f.dual,
          zeroed := [] } ∧
        AgcMoved ch 2 0 s t ∧ (∀ k, k ≠ ch.val → (t.dev.ch k).txn = (s.dev.ch k).txn) ∧
        Works (rxRegs ++ [.ARB_CT_W]) s t)) ∧
    (∀ y z, x.air = .receiving → x.sep = some z → z.reason = 1 → Idle (.captureStep ch y) s) ∧
    (∀ y, x.air = .captured → s.dev.isStep ch x y = true → Does (.captureStep ch y) s fun t =>
      (t.dev.ch ch).txn = some { x with capCount := x.capCount + 1 } ∧ ChansStand [ch.val] s t ∧ Works [] s t)

/-- R154, R156, R170, R173 to R175, R408, R415: the ends of a frame exchange of an EXCHANGE, with their frame. -/
def Obligations.FrameEnds : Prop :=
  ∀ (ch : Fin 192) (s : State) (x : Txn) (f : AirFrame) (q : QDesc), (s.dev.ch ch).txn = some x → x.phase = .up →
    x.work = .exchange → x.frame = some f → x.desc = some q → x.finished = false → x.stopAsked = false → x.sess = none →
    x.id.phase.handles = false →
    (∀ c st ends, (∃ floor, c = .responseWindowClose ch floor ∧ (x.air = .winOpen ∨ x.air = .winWait) ∧
          x.reqTc + f.winClose ≤ s.dev.tc ∧ st = Status.noResponse ∧ ends = s.dev.tc) ∨
        (∃ per, c = .falseSof ch per ∧ per < 2 ∧ x.air = .receiving ∧ x.winOver = true ∧ st = Status.noResponse ∧
          ends = s.dev.tc) ∨
        (∃ en, c = .captureWindowClose ch en ∧ x.air = .capturing ∧ (x.capEnd + 3) / 4 ≤ s.dev.tc ∧ st = Status.collision ∧
          ends = (max (s.dev.captureQuiet ch x f en) x.capEnd - s.dev.rxLat ch + 3) / 4) →
      Does c s fun t =>
        t.dev.rd .CH_FRM_LAST ch = st.ctorIdx ∧ t.dev.rd .CH_FRM_COLL ch = 0xFFFF ∧ t.dev.rd .CH_FRM_ERR ch = 0xFFFF ∧
        t.dev.rd .CH_FRM_TIME ch = 0 ∧
        (∃ y, (t.dev.ch ch).txn = some y ∧ y.finished = true ∧ y.desc = none ∧ y.result = st ∧ y.endTc = ends ∧
          y.phase = if x.holdField then .up else .rampDown) ∧
        q ∉ t.dev.host.inFlight ∧ (∀ k, k ≠ ch.val → (t.dev.ch k).txn = (s.dev.ch k).txn) ∧
        Works (postRegs ++ rxRegs ++ [.CH_FRM_LAST, .CH_FRM_COLL, .CH_FRM_ERR, .CH_FRM_TIME, .CH_FRM_QUAL, .ARB_CT_W]) s t) ∧
    (∀ (w : RxWire) (m : RxFacts) (v : Verdict), x.air = .receiving → s.dev.joint ch x.fg = false → x.sep = none → x.marks = [] →
      (w.stop + 3) / 4 ≤ s.dev.tc →
      m = (s.dev.measure ch x f (demod (s.dev.rxSet ch x f) w.syms)).1 → m.frame.collCount = 0 →
      v = verdict f.tech f.rxCrc m.rateOk f.rxMax m.frame →
      Does (.tagFrameReceived ch w) s fun t =>
        t.dev.fld F.CH_FRM_LAST_STATUS ch = v.status.ctorIdx ∧ t.dev.fld F.CH_FRM_LAST_LAST_BITS ch = m.frame.lastBits % 8 ∧
        t.dev.fld F.CH_FRM_LAST_LEN ch = sat 8191 m.frame.data.length ∧ t.dev.fld F.CH_FRM_TIME_FDT ch = sat 0xFFFFFF m.fdt ∧
        t.dev.fld F.CH_FRM_ERR_KIND ch = v.kind ∧
        (∃ y, (t.dev.ch ch).txn = some y ∧ y.finished = true ∧ y.desc = none ∧ y.result = v.status ∧
          y.endTc = (s.dev.endEdge ch x f w - s.dev.rxLat ch + 3) / 4 ∧ y.phase = if x.holdField then .up else .rampDown) ∧
        q ∉ t.dev.host.inFlight ∧ (∀ k, k ≠ ch.val → (t.dev.ch k).txn = (s.dev.ch k).txn) ∧
        t.pending = s.pending ∧ t.nv = s.nv ∧ t.dev.time = s.dev.time ∧ t.dev.sess = s.dev.sess)

/-! ### The Arbour's matrices and Belvedere (chapter 06 and R279 to R286) -/

/-- R180 to R188, R343, R350: pilot probes, with their frames. -/
def Obligations.PilotProbes : Prop :=
  (∀ (arb : Fin 24) (col : Fin 8) (s : State) (n : Nat), n = 8 * arb.val + col.val → s.dev.arbProbes arb = true →
    (s.dev.arb arb).pilot = [] → s.dev.coilFree n = true → s.dev.batchMay arb [col.val] = true →
    (∀ c, (c = .pilotBatch arb (BitVec.ofNat 8 (2 ^ col.val)).toFin ∧ s.dev.fabricShort = false ∧ s.dev.batchWaits arb = false ∧
          (s.dev.ch n).txn = none ∧ s.dev.olderWaits (8 * arb) { order := s.dev.host.order } = false ∧
          s.dev.olderThan arb col (s.dev.fld F.ARB_PILOT_PERIOD arb - 1) = true) ∨
        (c = .priorityProbe arb col ∧ s.dev.olderThan arb col (2 * s.dev.fld F.ARB_PILOT_PERIOD arb) = true) →
      Does c s fun t =>
        (t.dev.arb arb).pilot = [col.val] ∧ (t.dev.ch n).aside = (s.dev.ch n).txn ∧
        (t.dev.pav (arb / 4)).rsv = (s.dev.pav (arb / 4)).rsv + s.dev.energy (s.dev.probeDriven n) 64 ∧
        (t.dev.pav (arb / 4)).req = true ∧
        (∃ y, (t.dev.ch n).txn = some y ∧ y.work = .pilot ∧ y.tAdm = s.dev.tc ∧ y.declTc = 64 ∧
          y.driven = [{ ch := n, lvl := s.dev.fld F.ARB_PILOT_LVL arb }] ∧
          (s.dev.leadLeft (arb / 4) = 0 → y.phase = .up ∧ y.tUp = s.dev.tc) ∧
          (s.dev.leadLeft (arb / 4) ≠ 0 → y.phase = .admitted)) ∧
        (s.dev.leadLeft (arb / 4) = 0 → (t.dev.ch n).fieldOf = some n ∧ (t.dev.ch n).parking = false) ∧
        (s.dev.leadLeft (arb / 4) ≠ 0 → (t.dev.ch n).fieldOf = none ∧ t.dev.out = s.dev.out) ∧ ChansStand [n] s t ∧
        Works [.CH_PWR_MEAS] (withOrder s (s.dev.host.order + 1)) t) ∧
    (s.dev.olderThan arb col (2 * s.dev.fld F.ARB_PILOT_PERIOD arb) = false → Idle (.priorityProbe arb col) s)) ∧
  (∀ (arb : Fin 24) (cols : Fin 256) (s : State),
    (s.dev.arb arb).pilot ≠ [] ∨ s.dev.fabricShort = true ∨ s.dev.arbProbes arb = false ∨ s.dev.batchWaits arb = true →
    Idle (.pilotBatch arb cols) s) ∧
  (∀ (arb : Fin 24) (col : Fin 8) (ch : Fin 192) (s : State) (x : Txn), ch.val = 8 * arb.val + col.val →
    (s.dev.ch ch).txn = some x → x.work = .pilot → x.phase = .admitted → (s.dev.arb arb).pilot = [col.val] →
    s.dev.leadLeft (arb / 4) = 0 → s.dev.arbProbes arb = true → (s.dev.ch ch).role.probes = true →
    s.dev.probeHolds ch x = true → Does (.fieldStart ch) s fun t =>
      (∃ y, (t.dev.ch ch).txn = some y ∧ y.phase = .up ∧ y.tUp = s.dev.tc ∧ y.driven = x.driven) ∧
      (t.dev.ch ch).fieldOf = some ch.val ∧ (t.dev.ch ch).parking = false ∧ ChansStand [ch.val] s t ∧ Works [.CH_PWR_MEAS] s t) ∧
  (∀ (arb : Fin 24) (col rx : Fin 8) (re im g : Int) (p q : Cx) (cup : Nat × Nat) (s : State) (x : Txn) (o : Cx), rx ≠ col →
    0 < q.norm → 8192 * (p.mul q.conj).re = re * (q.norm : Int) → 8192 * (p.mul q.conj).im = im * (q.norm : Int) →
    tblFind (s.dev.arb arb).gains col = some g → tblFind (s.dev.arb arb).gains rx = some g →
    (s.dev.arb arb).pilot = [col.val] → (s.dev.ch (8 * arb + col)).txn = some x → x.work = .pilot → x.phase = .up →
    x.finished = true → x.tUp + 64 ≤ s.dev.tc →
    s.dev.rxTakes (8 * arb + rx) = true → o = cxOf 16 (s.dev.rd .ARB_CM arb (8 * rx + col)) →
    Does (.pilotProbeEnd arb [(col.val, q.re, q.im), (rx.val, p.re, p.im)] cup) s fun t =>
      ((s.dev.fld F.ARB_PILOT_CFG_JUMP arb * 32) ^ 2 < ((⟨re, im⟩ : Cx).sub o).norm →
        cxOf 16 (t.dev.rd .ARB_CM arb (8 * rx + col)) = ⟨clampInt (-32768) 32767 re, clampInt (-32768) 32767 im⟩ ∧
        bitAt (t.dev.fld F.ARB_CM_STAT_CHANGED arb) col = true) ∧
      (((⟨re, im⟩ : Cx).sub o).norm ≤ (s.dev.fld F.ARB_PILOT_CFG_JUMP arb * 32) ^ 2 →
        t.dev.fld F.ARB_CM_STAT_CHANGED arb = s.dev.fld F.ARB_CM_STAT_CHANGED arb ∧
        ∀ a b, re - o.re = 2 ^ (s.dev.fld F.ARB_PILOT_CFG_AVG arb + 1) * a → im - o.im = 2 ^ (s.dev.fld F.ARB_PILOT_CFG_AVG arb + 1) * b →
          cxOf 16 (t.dev.rd .ARB_CM arb (8 * rx + col)) =
            ⟨clampInt (-32768) 32767 (o.re + a), clampInt (-32768) 32767 (o.im + b)⟩) ∧
      bitAt (t.dev.fld F.ARB_CM_STAT_VALID arb) col = true ∧ bitAt (t.dev.fld F.ARB_CM_STAT_STALE arb) col = false ∧
      (∀ i j, i < 24 → j < 64 → (i ≠ arb.val ∨ j ≠ 8 * rx.val + col.val) → t.dev.rd .ARB_CM i j = s.dev.rd .ARB_CM i j) ∧
      (t.dev.arb arb).pilot = [] ∧ (t.dev.ch (8 * arb + col)).fieldOf = none ∧ (t.dev.ch (8 * arb + col)).aside = none ∧
      t.pending = s.pending ∧ t.nv = s.nv ∧
      t.dev.time = s.dev.time ∧ t.dev.images = s.dev.images ∧ t.dev.timers = s.dev.timers) ∧
  (∀ (arb : Fin 24) (col : Fin 8) (meas : List (Nat × Int × Int)) (cup : Nat × Nat) (s : State) (x : Txn),
    (s.dev.arb arb).pilot = [col.val] → (s.dev.ch (8 * arb + col)).txn = some x → x.work = .pilot → x.phase = .rampDown →
    x.finished = true → x.dueTc ≤ s.dev.tc → Does (.pilotProbeEnd arb meas cup) s fun t =>
      (t.dev.arb arb).pilot = [] ∧ (∀ i j, t.dev.rd .ARB_CM i j = s.dev.rd .ARB_CM i j) ∧
      t.dev.rd .ARB_CM_STAT arb = s.dev.rd .ARB_CM_STAT arb ∧ t.pending = s.pending ∧ t.nv = s.nv ∧ t.dev.time = s.dev.time) ∧
  (∀ (arb : Fin 24) (meas : List (Nat × Int × Int)) (cup : Nat × Nat) (s : State), (s.dev.arb arb).pilot = [] →
    Idle (.pilotProbeEnd arb meas cup) s)

/-- R188, R190, R196, R200: writes of matrices and weights, with their frames. -/
def Obligations.MatricesAndWeights : Prop :=
  (∀ (arb : Fin 24) (which : Fin 3) (ix : Fin 64) (v : Word) (s : State),
    (s.dev.on F.ARB_CTL_PILOT_EN arb = true ∨ which ≠ 0 ∧ 8 ≤ ix.val → Idle (.arbCmWrite arb which ix v) s) ∧
    (s.dev.on F.ARB_CTL_PILOT_EN arb = false → which = 0 → Does (.arbCmWrite arb which ix v) s fun t =>
      t.dev.rd .ARB_CM arb ix = v.toNat ∧ bitAt (t.dev.fld F.ARB_CM_STAT_VALID arb) (ix % 8) = true ∧
      bitAt (t.dev.fld F.ARB_CM_STAT_STALE arb) (ix % 8) = false ∧ t.dev.chans = s.dev.chans ∧
      (∀ i j, i < 24 → j < 64 → (i ≠ arb.val ∨ j ≠ ix.val) → t.dev.rd .ARB_CM i j = s.dev.rd .ARB_CM i j) ∧
      Works [.ARB_CM, .ARB_CM_STAT] s t) ∧
    (s.dev.on F.ARB_CTL_PILOT_EN arb = false → which ≠ 0 → ix.val < 8 → Does (.arbCmWrite arb which ix v) s fun t =>
      t.dev.rd (cmReg which) arb ix = v.toNat ∧
      t.dev.on F.ARB_CM_STAT_SEAM_LO_VALID arb =
        (s.dev.on F.ARB_CM_STAT_SEAM_LO_VALID arb || (decide (which = 1) && s.dev.hasLo arb)) ∧
      t.dev.on F.ARB_CM_STAT_SEAM_HI_VALID arb =
        (s.dev.on F.ARB_CM_STAT_SEAM_HI_VALID arb || (decide (which = 2) && s.dev.hasHi arb)) ∧
      OnlyRegs [(cmReg which, arb, ix), (.ARB_CM_STAT, arb, 0)] s t)) ∧
  (∀ (arb : Fin 24) (g : Fin 4) (k : Fin 8) (v : Word) (s : State),
    (s.dev.fld F.ARB_FG_CTL_MODE arb g ≠ 0 → Idle (.fgWeightWrite arb g k v) s) ∧
    (s.dev.fld F.ARB_FG_CTL_MODE arb g = 0 → (cxOf 10 v.toNat).norm ≤ 511 * 511 → Does (.fgWeightWrite arb g k v) s fun t =>
      cxOf 10 (t.dev.rd .ARB_FG_W arb (8 * g + k)) = cxOf 10 v.toNat ∧ OnlyRegs [(.ARB_FG_W, arb, 8 * g + k)] s t) ∧
    (s.dev.fld F.ARB_FG_CTL_MODE arb g = 0 → 511 * 511 < (cxOf 10 v.toNat).norm → Does (.fgWeightWrite arb g k v) s fun t =>
      t.dev.on F.ARB_FG_STAT_REFUSED arb g = true ∧ OnlyRegs [(.ARB_FG_STAT, arb, g)] s t)) ∧
  (∀ (arb : Fin 24) (col : Fin 8) (s : State), Does (.columnStale arb col) s fun t =>
    (∀ k < 8, k ≠ col.val → bitAt (t.dev.fld F.ARB_CM_STAT_STALE arb) k = bitAt (s.dev.fld F.ARB_CM_STAT_STALE arb) k) ∧
    bitAt (t.dev.fld F.ARB_CM_STAT_STALE arb) col =
      ((tblFind (s.dev.arb arb).colAt col).isSome && s.dev.olderThan arb col (s.dev.fld F.ARB_PILOT_CFG_STALE arb)) ∧
    t.dev.fld F.ARB_CM_STAT_VALID arb = s.dev.fld F.ARB_CM_STAT_VALID arb ∧ OnlyRegs [(.ARB_CM_STAT, arb, 0)] s t)

/-- R279 to R285, R352: Belvedere, with its frames. The bucket has room for every probe of the step, so that the order within it is of no
account. -/
def Obligations.BelvedereSweeps : Prop :=
  (∀ (pav : Fin 6) (s : State),
    (s.dev.maySweep pav = true → (s.dev.pav pav).sweep = none →
      (∀ a, (s.dev.pav pav).sweptAt = some a → a + s.dev.fld F.PAV_BLV_CTL_PERIOD pav * tcMs ≤ s.dev.tc) → Does (.blvSweepStart pav) s fun t =>
      (t.dev.pav pav).sweep = some { step := 0, t0 := s.dev.tc } ∧ (t.dev.pav pav).sweptAt = some s.dev.tc ∧ (t.dev.pav pav).req = true ∧ t.dev.chans = s.dev.chans ∧ Works [] s t) ∧
    (s.dev.maySweep pav = false ∨ (s.dev.pav pav).sweep.isSome → Idle (.blvSweepStart pav) s)) ∧
  (∀ (pav : Fin 6) (meas : List (Nat × Nat)) (s : State),
    ((s.dev.pav pav).sweep = none → Idle (.blvProbeStep pav meas) s) ∧
    (∀ w, (s.dev.pav pav).sweep = some w → w.step < 8 →
      w.t0 + s.dev.leadTc pav + 96 * w.step ≤ s.dev.tc → Does (.blvProbeStep pav meas) s fun t =>
      (t.dev.pav pav).sweep = (if w.step = 7 then none else some { w with step := w.step + 1 }) ∧
      (∀ b n amp ph, b < 4 → n = 32 * pav.val + 8 * b + w.step → meas[b]? = some (amp, ph) → amp < 65536 → ph < 4096 →
        (s.dev.blvProbes n = false → t.dev.ch n = { s.dev.ch n with blvRun := 0 }) ∧
        (s.dev.blvProbes n = true → s.dev.blvMay n = false →
          bitAt (t.dev.fld F.PAV_BLV_SKIP_SKIP pav) (n % 32) = true ∧ t.dev.ch n = { s.dev.ch n with blvRun := 0 }) ∧
        (s.dev.blvProbes n = true → s.dev.blvMay n = true →
          (((s.dev.pav pav).rsv + ((List.range 4).map fun i => s.dev.blvEnergy (32 * pav + 8 * i + w.step)).sum : Nat) : Int) ≤
            s.dev.tokensNow pav →
          (∃ e, (t.dev.ch n).offAt = some e ∧ (t.dev.ch n).past.head? = some (s.dev.tc, e) ∧
            (s.dev.pwr.boot = .running → s.dev.carStep ≠ 0 → s.dev.tc + 81 ≤ e)) ∧
          (t.dev.ch n).fieldOf = none ∧ (t.dev.ch n).parking = true ∧
          t.dev.fld F.CH_BLV_MEAS_AMP n = amp ∧ t.dev.fld F.CH_BLV_MEAS_PH n = ph ∧
          ((s.dev.ch n).blvBase = false ∨ (s.dev.ch n).blvAdopt = true →
            (t.dev.ch n).blvBase = true ∧ (t.dev.ch n).blvAdopt = false ∧ (t.dev.ch n).blvAmp = amp * blvUnit ∧
            (t.dev.ch n).blvPh = ph * blvUnit ∧ bitAt (t.dev.fld F.PAV_BLV_STAT_DET pav) (n % 32) = false ∧
            t.dev.fld F.CH_BLV_BASE_AMP n = amp ∧ t.dev.fld F.CH_BLV_BASE_PH n = ph) ∧
          ((s.dev.ch n).blvBase = true → (s.dev.ch n).blvAdopt = false → bitAt (s.dev.fld F.PAV_BLV_STAT_DET pav) (n % 32) = false →
            1 ≤ s.dev.fld F.PAV_BLV_CTL_CONFIRM pav →
            (s.dev.blvExcursion n amp ph = true → s.dev.fld F.PAV_BLV_CTL_CONFIRM pav ≤ (s.dev.ch n).blvRun + 1 →
              bitAt (t.dev.fld F.PAV_BLV_STAT_DET pav) (n % 32) = true ∧ Posted .detect n t) ∧
            (s.dev.blvExcursion n amp ph = false →
              (t.dev.ch n).blvRun = 0 ∧ bitAt (t.dev.fld F.PAV_BLV_STAT_DET pav) (n % 32) = false ∧
              (((t.dev.ch n).blvAmp : Int) - (s.dev.ch n).blvAmp).natAbs * (10000 * 13560000) ≤
                (s.dev.ch n).blvAmp * s.dev.fld F.CH_BLV_THR_DRIFT n * ((t.dev.ch n).blvAt - (s.dev.ch n).blvAt))))) ∧
      ChansStand ((List.range 4).map fun b => 32 * pav.val + 8 * b + w.step) s t ∧
      Works (postRegs ++ [.CH_BLV_MEAS, .CH_BLV_BASE, .PAV_BLV_STAT, .PAV_BLV_SKIP, .CH_PWR_MEAS, .CH_TUNE])
        { s with dev := { s.dev with time := t.dev.time } } t)) ∧
  (∀ (ch : Fin 192) (s : State), Does (.blvAdopt ch) s fun t =>
    t.dev.ch ch = { s.dev.ch ch with blvAdopt := true } ∧ ChansStand [ch.val] s t ∧ Works [] s t)

/-! ### Programs, scripts and exchanges (chapter 07, and the descriptors of chapter 11) -/

/-- R246, R248, R271: loading programs and scripts, with their frame. -/
def Obligations.ProgramImages : Prop :=
  ∀ (pav : Fin 6) (s : State) (q : QDesc),
    (s.dev.running (0x200 + pav) 0x08 = some q →
      (progParse q.input = none → Does (.progLoad pav) s fun t => Answered q .badDescriptor t ∧ Says postRegs s t) ∧
      (∀ g, progParse q.input = some g → Does (.progLoad pav) s fun t =>
        Answered q .ok t ∧
        ((tblFind (s.dev.pav pav).runs q.slot).isNone → tblFind (t.dev.pav pav).progs q.slot = some g ∧
          Says postRegs { s with dev := s.dev.modPav pav fun x => { x with progs := tblPut x.progs q.slot g } } t) ∧
        ((tblFind (s.dev.pav pav).runs q.slot).isSome → tblFind (t.dev.pav pav).progsNew q.slot = some g ∧
          tblFind (t.dev.pav pav).progs q.slot = tblFind (s.dev.pav pav).progs q.slot ∧
          (∀ n ∈ s.dev.boundTo pav q.slot,
            (bitAt g.chMask (n % 32) = true → (t.dev.ch n).prog = some q.slot ∧ (t.dev.ch n).leaving = false) ∧
            (bitAt g.chMask (n % 32) = false → (s.dev.ch n).cycleOpen = true →
              (t.dev.ch n).prog = some q.slot ∧ (t.dev.ch n).leaving = true) ∧
            (bitAt g.chMask (n % 32) = false → (s.dev.ch n).cycleOpen = false → (t.dev.ch n).prog = none)) ∧
          (∀ n, n ∉ s.dev.boundTo pav q.slot → (t.dev.ch n).prog = (s.dev.ch n).prog) ∧
          (∀ n, (t.dev.ch n).txn = (s.dev.ch n).txn ∧ (t.dev.ch n).cycleOpen = (s.dev.ch n).cycleOpen) ∧ Works postRegs s t))) ∧
    (s.dev.running (0x200 + pav) 0x0B = some q →
      (scriptParse q.input = none → Does (.scriptLoad pav) s fun t => Answered q .badDescriptor t ∧ Says postRegs s t) ∧
      (∀ l, scriptParse q.input = some l → Does (.scriptLoad pav) s fun t =>
        Answered q .ok t ∧ tblFind (t.dev.pav pav).scripts q.slot = some l ∧
        Says postRegs { s with dev := s.dev.modPav pav fun x => { x with scripts := tblPut x.scripts q.slot l } } t))

/-- R247, R278: starting and stopping a program, with their frames. -/
def Obligations.ProgramsStartAndStop : Prop :=
  (∀ (pav : Fin 6) (s : State) (q : QDesc), s.dev.running (0x200 + pav) 0x09 = some q →
    (tblFind (s.dev.pav pav).progs q.slot = none → Does (.progStart pav) s fun t => Answered q .badDescriptor t ∧ Says postRegs s t) ∧
    (∀ g, tblFind (s.dev.pav pav).progs q.slot = some g →
      ((tblFind (s.dev.pav pav).runs q.slot).isSome → Does (.progStart pav) s fun t => Answered q .ok t ∧ Says postRegs s t) ∧
      ((tblFind (s.dev.pav pav).runs q.slot).isNone →
        ((∃ n ∈ pavChans pav, bitAt g.chMask (n % 32) = true ∧ (s.dev.ch n).prog.isSome) →
          Does (.progStart pav) s fun t => Answered q .badDescriptor t ∧ Says postRegs s t) ∧
        ((∀ n ∈ pavChans pav, bitAt g.chMask (n % 32) = true → (s.dev.ch n).prog = none) →
          Does (.progStart pav) s fun t => Answered q .ok t ∧
            (∀ n ∈ pavChans pav, (t.dev.ch n).prog = (if bitAt g.chMask (n % 32) then some q.slot else (s.dev.ch n).prog)) ∧
            tblFind (t.dev.pav pav).runs q.slot = some { start := q } ∧
            (∀ n, (t.dev.ch n).txn = (s.dev.ch n).txn) ∧ Works postRegs s t)))) ∧
  (∀ (pav : Fin 6) (s : State) (q : QDesc), s.dev.running (0x200 + pav) 0x0A = some q →
    (tblFind (s.dev.pav pav).runs q.slot = none → Does (.progStop pav) s fun t => Answered q .ok t ∧ Says postRegs s t) ∧
    (∀ r, tblFind (s.dev.pav pav).runs q.slot = some r → r.stop = none →
      (∀ n ∈ s.dev.boundTo pav q.slot, ∀ x, (s.dev.ch n).txn = some x → x.work = .cycle q.slot false ∧
        (x.phase = .waiting ∨ x.phase = .up ∧ x.id.phase ≠ .hostHold)) →
      Does (.progStop pav) s fun t =>
        (∀ n ∈ s.dev.boundTo pav q.slot, (∀ x, (s.dev.ch n).txn = some x → x.phase = .waiting) →
          (t.dev.ch n).prog = none ∧ (t.dev.ch n).txn = none) ∧
        (∀ n ∈ s.dev.boundTo pav q.slot, ∀ x, (s.dev.ch n).txn = some x → x.phase = .up →
          (t.dev.ch n).prog = some q.slot ∧ (t.dev.ch n).txn = some { x with stopAsked := true }) ∧
        ((∀ n ∈ s.dev.boundTo pav q.slot, ∀ x, (s.dev.ch n).txn = some x → x.phase = .waiting) →
          tblFind (t.dev.pav pav).runs q.slot = none ∧ Answered q .ok t) ∧ Works postRegs s t))

/-- R248 to R252, R407: poll cycles, with their frames. -/
def Obligations.PollCycles : Prop :=
  (∀ (pav : Fin 6) (slot : Fin 16) (s : State) (r : ProgRun) (g : Prog), tblFind (s.dev.pav pav).runs slot = some r → r.stop = none →
    tblFind (s.dev.pav pav).progs slot = some g → tblFind (s.dev.pav pav).progsNew slot = none →
    (∀ a, r.t0 = some a → a + usTc g.period ≤ s.dev.tc) → (s.dev.pav pav).state = .active → (s.dev.pav pav).dip = false → (s.dev.pav pav).first = [] →
    (∀ n ∈ s.dev.boundTo pav slot, (s.dev.ch n).leaving = false ∧ (s.dev.ch n).borrowed = false ∧ (s.dev.ch n).role = .poll) →
    Does (.pollCycleDue pav slot) s fun t =>
      ((∀ n ∈ s.dev.boundTo pav slot, (s.dev.ch n).cycleOpen = false ∧ (s.dev.ch n).txn = none) →
        (∃ u, tblFind (t.dev.pav pav).runs slot = some u ∧ u.t0 = some s.dev.tc ∧ u.phase = 0 ∧ u.late = false ∧ u.start = r.start) ∧
        (∀ n ∈ s.dev.boundTo pav slot, (t.dev.ch n).cycleOpen = true ∧
          (phaseOf g n = 0 → CycleWaits n slot g t) ∧ (phaseOf g n ≠ 0 → (t.dev.ch n).txn = none)) ∧
        t.dev.fld F.PAV_SEQ_SKIPS_COUNT pav = s.dev.fld F.PAV_SEQ_SKIPS_COUNT pav) ∧
      ((∃ n ∈ s.dev.boundTo pav slot, (s.dev.ch n).cycleOpen = true) →
        t.dev.fld F.PAV_SEQ_SKIPS_COUNT pav = sat (2 ^ F.PAV_SEQ_SKIPS_COUNT.w - 1) (s.dev.fld F.PAV_SEQ_SKIPS_COUNT pav +
          ((s.dev.boundTo pav slot).filter fun n => (s.dev.ch n).cycleOpen).length) ∧
        (g.stagger ≠ 0 → t.dev.chans = s.dev.chans ∧ ∃ u, tblFind (t.dev.pav pav).runs slot = some u ∧ u.late = true ∧
          u.skipped = (s.dev.boundTo pav slot).filter fun n => (s.dev.ch n).cycleOpen) ∧
        (g.stagger = 0 → ∀ n ∈ s.dev.boundTo pav slot, (s.dev.ch n).cycleOpen = false → (s.dev.ch n).txn = none →
          (t.dev.ch n).cycleOpen = true ∧ CycleWaits n slot g t)) ∧
      Works [.PAV_SEQ_SKIPS] (withOrder s t.dev.host.order) t) ∧
  (∀ (pav : Fin 6) (slot : Fin 16) (s : State) (r : ProgRun) (g : Prog), tblFind (s.dev.pav pav).runs slot = some r →
    tblFind (s.dev.pav pav).progs slot = some g →
    ((∃ n ∈ s.dev.boundTo pav slot, (s.dev.ch n).cycleOpen = true ∧ phaseOf g n = r.phase) → Idle (.staggerPhaseStart pav slot) s) ∧
    ((∀ n ∈ s.dev.boundTo pav slot, (s.dev.ch n).cycleOpen = true → phaseOf g n ≠ r.phase) → r.phase + 1 < 2 ^ g.stagger →
      Does (.staggerPhaseStart pav slot) s fun t =>
        tblFind (t.dev.pav pav).runs slot = some { r with phase := r.phase + 1 } ∧
        (∀ n ∈ s.dev.boundTo pav slot, (s.dev.ch n).cycleOpen = true → phaseOf g n = r.phase + 1 → (s.dev.ch n).txn = none →
          (s.dev.ch n).role = .poll → (s.dev.ch n).borrowed = false → CycleWaits n slot g t) ∧
        Works [] (withOrder s t.dev.host.order) t)) ∧
  (∀ (ch : Fin 192) (s : State) (q : QDesc), s.dev.running ch 0x0C = some q →
    (tblFind (s.dev.pav (pavOf ch)).progs q.slot = none → Does (.runCycle ch) s fun t => Answered q .badDescriptor t ∧ Says postRegs s t) ∧
    (∀ g, tblFind (s.dev.pav (pavOf ch)).progs q.slot = some g →
      ((s.dev.ch ch).txn.isSome → Idle (.runCycle ch) s) ∧
      ((s.dev.ch ch).txn = none → Does (.runCycle ch) s fun t =>
        (∃ y, (t.dev.ch ch).txn = some y ∧ y.phase = .waiting ∧ y.work = .cycle q.slot true ∧ y.desc = some q ∧ y.prog = g ∧
          y.level = g.level) ∧ ChansStand [ch.val] s t ∧ Works [] (withOrder s (s.dev.host.order + 1)) t)))

/-- R270, R274, R407 to R409: descriptors that the sequencer carries out on the air, with their frames. -/
def Obligations.Exchanges : Prop :=
  (∀ (ch : Fin 192) (s : State) (q : QDesc), s.dev.running ch 0x01 = some q →
    ((s.dev.ch ch).txn = none → Does (.exchange ch) s fun t =>
      (∃ y f, (t.dev.ch ch).txn = some y ∧ y.phase = .waiting ∧ y.work = .exchange ∧ y.desc = some q ∧ y.frame = some f ∧
        y.level = byteAt q.d.param 4 ∧ y.holdField = bitAt (byteAt q.d.param 2) 3 ∧
        f.data = (if bitAt (byteAt q.d.param 2) 0 then withCrc (techOf (byteAt q.d.param 0 % 4)) q.input else q.input) ∧
        f.rxMax = min q.d.bufLen 8192) ∧ ChansStand [ch.val] s t ∧ Works [] (withOrder s (s.dev.host.order + 1)) t) ∧
    (∀ x, (s.dev.ch ch).txn = some x →
      (x.work = .exchange → x.holdField = true → x.finished = true → x.phase = .up →
        s.dev.continues ch x (s.dev.exchangeFrame ch q) = true →
        (s.dev.fld F.CH_RX_CTL_FIR_SRC ch = 0 → s.dev.on F.CH_RX_CTL_STD ch = false →
          Does (.exchange ch) s fun t => Answered q .badDescriptor t ∧ Says doneRegs s t) ∧
        (s.dev.fld F.CH_RX_CTL_FIR_SRC ch ≠ 0 ∨ s.dev.on F.CH_RX_CTL_STD ch = true → Does (.exchange ch) s fun t =>
          (∃ y, (t.dev.ch ch).txn = some y ∧ y.phase = .up ∧ y.desc = some q ∧ y.finished = false ∧
            y.frame.map (·.data) = some (s.dev.exchangeFrame ch q).data ∧ y.air = .staged) ∧
          ChansStand [ch.val] s t ∧ Works admRegs s t)) ∧
      (x.work ≠ .exchange ∨ x.holdField = false ∨ x.finished = false ∨ x.phase ≠ .up ∨
        s.dev.continues ch x (s.dev.exchangeFrame ch q) = false → Idle (.exchange ch) s))) ∧
  (∀ (ch : Fin 192) (s : State) (q : QDesc), s.dev.running ch 0x04 = some q →
    ((s.dev.ch ch).txn.isSome → Idle (.tagOp ch) s) ∧
    ((s.dev.ch ch).txn = none → Does (.tagOp ch) s fun t =>
      (∃ y, (t.dev.ch ch).txn = some y ∧ y.phase = .waiting ∧ y.work = .tagOp ∧ y.desc = some q ∧
        y.tech = (if 3 ≤ byteAt q.d.param 0 then .nfcV else .nfcA) ∧ y.prog.maxTags = 1) ∧
      ChansStand [ch.val] s t ∧ Works [] (withOrder s (s.dev.host.order + 1)) t)) ∧
  (∀ (ch : Fin 192) (s : State) (q : QDesc), s.dev.running ch 0x02 = some q →
    ((s.dev.ch ch).txn = none → Does (.isodepExchange ch) s fun t => Answered q .badDescriptor t ∧ Says doneRegs s t) ∧
    (∀ x, (s.dev.ch ch).txn = some x →
      (x.sess ≠ some q.d.session ∨ x.phase ≠ .up ∨ x.id.phase ≠ .hostHold ∨ x.ending = true →
        x.hostDesc = none → Does (.isodepExchange ch) s fun t => Answered q .badDescriptor t ∧ Says doneRegs s t) ∧
      (x.sess = some q.d.session → x.phase = .up → x.id.phase = .hostHold → x.ending = false → 4 ≤ s.dev.outFree ch →
        (s.dev.ch ch).dataWait = [] →
        Does (.isodepExchange ch) s fun t =>
          (∃ y, (t.dev.ch ch).txn = some y ∧ y.hostDesc = some q ∧ y.held = none ∧ y.id.phase = .isoDep ∧ y.air = .staged ∧
            y.ending = bitAt (byteAt q.d.param 0) 0 ∧ y.phase = .up) ∧
          (t.dev.ses q.d.session).hold = false ∧ ChansStand [ch.val] s t ∧ (∀ k, k ≠ q.d.session → t.dev.ses k = s.dev.ses k) ∧
          Works admRegs { s with dev := { s.dev with sess := t.dev.sess } } t))) ∧
  (∀ (ch : Fin 192) (s : State) (x : Txn) (q : QDesc) (k : Nat), (s.dev.ch ch).txn = some x → x.phase = .up →
    x.id.phase = .hostHold → x.held = some q → x.sess = some k → x.dueTc ≤ s.dev.tc → Does (.hostWaitExpiry ch) s fun t =>
      (∃ y, (t.dev.ch ch).txn = some y ∧ y.ending = true ∧ y.finished = (x.held == x.startOf s.dev ch) ∧ y.held = none ∧ y.id.phase = .deselect ∧
        y.id.result = .hostTimeout ∧ y.air = .staged) ∧
      (∃ e ∈ (t.dev.ch ch).outq.held ++ (t.dev.ch ch).outq.waiting, e.kind = .completion ∧ e.status = .hostTimeout ∧
        e.source = ch.val ∧ e.session = k ∧ e.ring = some q.evq) ∧
      (t.dev.ses k).hold = false ∧ (∀ j, j ≠ k → t.dev.ses j = s.dev.ses j) ∧ ChansStand [ch.val] s t ∧
      Works (postRegs ++ admRegs) { s with dev := { s.dev with sess := t.dev.sess } } t)

/-! ### Listening, tag memory, roles and sessions (chapters 08 and 09) -/

/-- R288, R289, R294, R295, R301, R317: the outside field, with its frames. -/
def Obligations.ListenerField : Prop :=
  (∀ (ch : Fin 192) (amps : List Nat) (freq : Int) (s : State) (there : Bool),
    there = for32 amps (fun a => decide (10 * s.dev.fld F.CH_LSN_FD_ON ch ≤ a)) →
    (s.dev.listens ch = false ∨ (s.dev.ch ch).lsn.field = true ∨ there = false → Idle (.listenFieldPresent ch amps freq) s) ∧
    (s.dev.listens ch = true → (s.dev.ch ch).lsn.field = false → there = true → Does (.listenFieldPresent ch amps freq) s fun t =>
      ∃ u, (t.dev.ch ch).lsn = { armed := (s.dev.ch ch).lsn.armed, field := true, since := s.dev.tc, state := .idle, uid := u,
                                 freq := clampInt (-32768) 32767 freq } ∧
      (s.dev.fld F.CH_LSN_ID_UID_MODE ch = 0 → u = toLe 4 (s.dev.rd .CH_LSN_UID0 ch)) ∧
      (s.dev.fld F.CH_LSN_ID_UID_MODE ch = 1 → u = toLe 4 (s.dev.rd .CH_LSN_UID0 ch) ++ toLe 3 (s.dev.rd .CH_LSN_UID1 ch)) ∧
      (2 ≤ s.dev.fld F.CH_LSN_ID_UID_MODE ch → u.length = 4 ∧ u.head? = some 0x08) ∧ ChansStand [ch.val] s t ∧ Works admRegs s t)) ∧
  (∀ (ch : Fin 192) (amps : List Nat) (s : State) (gone : Bool),
    gone = for32 amps (fun a => decide (a < 10 * s.dev.fld F.CH_LSN_FD_OFF ch)) →
    ((s.dev.ch ch).lsn.field = false ∨ gone = false → Idle (.listenFieldAbsent ch amps) s) ∧
    ((s.dev.ch ch).lsn.field = true → gone = true → Does (.listenFieldAbsent ch amps) s fun t =>
      (t.dev.ch ch).lsn.armed = (s.dev.ch ch).lsn.armed ∧ (t.dev.ch ch).lsn.field = false ∧ (t.dev.ch ch).lsn.state = .off ∧
      (t.dev.ch ch).lsn.uid = [] ∧ (t.dev.ch ch).lsn.sess = none ∧ (t.dev.ch ch).lsn.staged = none ∧
      (t.dev.ch ch).lsn.waiting = false ∧
      (∀ k, (s.dev.ch ch).lsn.sess = some k → t.dev.ses k = { gen := ((s.dev.ses k).gen + 1) % 256 }) ∧
      (∀ k, (s.dev.ch ch).lsn.sess ≠ some k → t.dev.ses k = s.dev.ses k) ∧
      (∀ k, k ≠ ch.val → (t.dev.ch k).lsn = (s.dev.ch k).lsn) ∧
      (ch.val = 0 → t.dev.on F.LDG_EH_ACTIVE = false) ∧
      (ch.val ≠ 0 → t.dev.rd .LDG_EH = s.dev.rd .LDG_EH) ∧
      Works (admRegs ++ [.LDG_EH]) { s with dev := { s.dev with sess := t.dev.sess } } t)) ∧
  (∀ (ch : Fin 192) (v : Word) (s : State) (on off : Nat),
    on = (if 2 ≤ bits v.toNat 0 8 then bits v.toNat 0 8 else s.dev.fld F.CH_LSN_FD_ON ch) →
    off = (if 1 ≤ bits v.toNat 8 8 ∧ bits v.toNat 8 8 ≤ 254 then bits v.toNat 8 8 else s.dev.fld F.CH_LSN_FD_OFF ch) →
    (on ≤ off → Idle (.lsnFdWrite ch v) s) ∧
    (off < on → Does (.lsnFdWrite ch v) s fun t =>
      t.dev.fld F.CH_LSN_FD_ON ch = on ∧ t.dev.fld F.CH_LSN_FD_OFF ch = off ∧ OnlyRegs [(.CH_LSN_FD, ch, 0)] s t))

/-- R145, R294 to R296, R301: the states of the listener, with their frames. -/
def Obligations.ListenerStates : Prop :=
  ∀ (ch : Fin 192) (x : ReaderRaw) (s : State) (f : RxFrame) (l : Lsn) (inRate : Bool),
    f = demodReader (s.dev.lsnRate ch) x → inRate = rateOk 50 (4 * bitTc .nfcA (s.dev.lsnRate ch)) x.durBits x.dur →
    l = { (s.dev.ch ch).lsn with
      inFrame := false, endTc := (x.stop - s.dev.rxLat ch + 3) / 4, endOne := lastBitA f.data (f.lastBits % 8) } →
    (x.stop + 3) / 4 ≤ s.dev.tc →
    (s.dev.listens ch = false ∨ l.field = false ∨ inRate = false ∨ s.dev.tc < l.since + usTc 100 ∨
        rxBroken f (!rxNoCrc f) = true ∨ l.state = .off → Does (.readerFrameReceived ch x) s fun t =>
      (t.dev.ch ch).lsn = l ∧ LsnStand ch s t ∧ Works heardRegs s t) ∧
    (s.dev.listens ch = true → l.field = true → inRate = true → l.since + usTc 100 ≤ s.dev.tc → rxBroken f (!rxNoCrc f) = false →
      (l.state = .idle → rxShort f 0x26 = true ∨ rxShort f 0x52 = true → Does (.readerFrameReceived ch x) s fun t =>
        (t.dev.ch ch).lsn = { l with
          state := .ready, level := 1, staged := some { data := atqa l.uid, rate := s.dev.lsnTxRate ch, fixed := true } } ∧
        LsnStand ch s t ∧ Works heardRegs s t) ∧
      (l.state = .halt → rxShort f 0x52 = true → Does (.readerFrameReceived ch x) s fun t =>
        (t.dev.ch ch).lsn = { l with
          state := .readyS, level := 1, staged := some { data := atqa l.uid, rate := s.dev.lsnTxRate ch, fixed := true } } ∧
        LsnStand ch s t ∧ Works heardRegs s t) ∧
      (l.state = .halt → rxShort f 0x52 = false → Does (.readerFrameReceived ch x) s fun t =>
        (t.dev.ch ch).lsn = l ∧ LsnStand ch s t ∧ Works heardRegs s t) ∧
      (l.state = .ready → l.level = 1 → l.uid.length = 4 → f.data.length = 9 → byteAt f.data 0 = 0x93 → byteAt f.data 1 = 0x70 →
        slice f.data 2 5 = l.uid ++ [xorAll l.uid] → Does (.readerFrameReceived ch x) s fun t =>
          (t.dev.ch ch).lsn = { l with
            state := .active, staged := some { data := withCrc .nfcA [0x20], rate := s.dev.lsnTxRate ch, fixed := true } } ∧
          LsnStand ch s t ∧ Works heardRegs s t) ∧
      (l.state = .active → f.data.take 2 = [0x50, 0x00] → f.data.length = 4 → Does (.readerFrameReceived ch x) s fun t =>
        (t.dev.ch ch).lsn = { l with state := .halt, level := 1, staged := none } ∧ LsnStand ch s t ∧ Works heardRegs s t) ∧
      (l.state = .active → byteAt f.data 0 = 0xE0 → f.data.length = 4 →
        (s.dev.sessionsOf ch ≠ [] → Does (.readerFrameReceived ch x) s fun t =>
          (t.dev.ch ch).lsn = { l with state := .idle } ∧ LsnStand ch s t ∧ Works (heardRegs ++ [.SYS_SESS_FULL]) s t) ∧
        (s.dev.sessionsOf ch = [] → l.sess = none → ∀ k, k < 384 → (s.dev.ses k).kind = .free →
          (∀ j < k, (s.dev.ses j).kind ≠ .free) → Does (.readerFrameReceived ch x) s fun t =>
            (t.dev.ch ch).lsn = { l with
              state := .protocol, sess := some k, staged := some { data := withCrc .nfcA (s.dev.ats ch), ats := true } } ∧
            (t.dev.ses k).kind = .listenDep ∧ (t.dev.ses k).chan = ch.val ∧ (t.dev.ses k).gen = (s.dev.ses k).gen ∧
            (t.dev.ses k).ident = l.uid ∧ (∀ j, j ≠ k → t.dev.ses j = s.dev.ses j) ∧ LsnStand ch s t ∧
            Works (heardRegs ++ [.SYS_SESS_STAT]) { s with dev := { s.dev with sess := t.dev.sess } } t)) ∧
      (∀ k, l.state = .protocol → l.sess = some k → (s.dev.ses k).cidUsed = false ∨ (s.dev.ses k).cid = 0 →
        byteAt f.data 0 = 0xC2 → f.data.length = 3 → Does (.readerFrameReceived ch x) s fun t =>
          (t.dev.ch ch).lsn.state = .halt ∧ (t.dev.ch ch).lsn.sess = none ∧
          (t.dev.ch ch).lsn.staged = some { data := withCrc .nfcA [0xC2], rate := s.dev.lsnTxRate ch } ∧
          t.dev.ses k = { gen := ((s.dev.ses k).gen + 1) % 256 } ∧ (∀ j, j ≠ k → t.dev.ses j = s.dev.ses j) ∧ LsnStand ch s t ∧
          Works heardRegs { s with dev := { s.dev with sess := t.dev.sess } } t))

/-- R297, R306 to R309, R410: answers of the listener, with their frames. -/
def Obligations.ListenerAnswers : Prop :=
  (∀ (ch : Fin 192) (s : State),
    ((s.dev.ch ch).lsn.staged = none ∨ (s.dev.listens ch = false ∧ (s.dev.pav (pavOf ch)).dip = false) → Idle (.listenAnswerSend ch) s) ∧
    (∀ a, (s.dev.ch ch).lsn.staged = some a → (s.dev.pav (pavOf ch)).dip = true → Does (.listenAnswerSend ch) s fun t =>
      (t.dev.ch ch).lsn = { (s.dev.ch ch).lsn with staged := none } ∧ t.dev.out = s.dev.out ∧ ChansStand [ch.val] s t ∧ Works [] s t) ∧
    (∀ a u, (s.dev.ch ch).lsn.staged = some a → s.dev.listens ch = true → (s.dev.pav (pavOf ch)).dip = false →
      u = { s with dev := s.dev.runTo (s.dev.answerTc ch a) } → Does (.listenAnswerSend ch) s fun t =>
        (t.dev.ch ch).lsn = { (s.dev.ch ch).lsn with
          staged := none, notBefore := (t.dev.ch ch).lsn.notBefore
          sendTo := u.dev.tc + s.dev.outTc ch (tagFrameTc .nfcA a.rate a.data.length) } ∧
        (a.ats = false → (t.dev.ch ch).lsn.notBefore = (s.dev.ch ch).lsn.notBefore) ∧
        t.dev.out = s.dev.out ++ [.load ch a.rate a.data a.line] ∧
        (∀ k, k < 192 → t.dev.agc k = if k = ch.val ∧ s.dev.agc ch = 0 then 1 else s.dev.agc k) ∧
        (∀ k, (s.dev.ch ch).lsn.sess ≠ some k → t.dev.ses k = s.dev.ses k) ∧ ChansStand [ch.val] s t ∧
        Works [.CH_RX_AGC] { u with dev := { u.dev with sess := t.dev.sess } } t)) ∧
  (∀ (ch : Fin 192) (s : State) (l : Lsn), l = (s.dev.ch ch).lsn →
    (l.waiting = false ∨ l.wtxOut = true ∨ l.staged.isSome ∨ l.sess = none → Idle (.listenWtxTimer ch) s) ∧
    (∀ k m, l.sess = some k → l.waiting = true → l.wtxOut = false → l.staged = none → l.withCid = false →
      s.dev.wtxTc ch k ≤ s.dev.tc →
      m = min (s.dev.fld F.CH_LSN_WTX_WTXM ch) (2 ^ (14 - (s.dev.ses k).fwi)) → Does (.listenWtxTimer ch) s fun t =>
        (t.dev.ch ch).lsn = { l with wtxOut := true, ext := m, lastBlk := withCrc .nfcA (bytes [0xF2, m]),
                                     staged := some { data := withCrc .nfcA (bytes [0xF2, m]), rate := s.dev.lsnTxRate ch } } ∧
        t.dev.ses k = { s.dev.ses k with wtxm := m, state := 4 } ∧ (∀ j, j ≠ k → t.dev.ses j = s.dev.ses j) ∧
        ChansStand [ch.val] s t ∧ Works [] { s with dev := { s.dev with sess := t.dev.sess } } t)) ∧
  (∀ (ch : Fin 192) (s : State) (l : Lsn), l = (s.dev.ch ch).lsn →
    (l.waiting = false → Idle (.listenHostCapExpiry ch) s) ∧
    (∀ k, l.waiting = true → l.sess = some k →
      l.cmdAt + s.dev.outTc ch (s.dev.fld F.PAV_LISTEN_HOST_CAP_MS (pavOf ch) * tcMs) ≤ s.dev.tc →
      Does (.listenHostCapExpiry ch) s fun t =>
      (t.dev.ch ch).lsn.waiting = false ∧ (t.dev.ch ch).lsn.capped = true ∧ (t.dev.ch ch).lsn.sess = some k ∧
      (l.wtxOut = true → (t.dev.ch ch).lsn.queued = some (toBe 2 (s.dev.fld F.CH_LSN_ERR_SW ch))) ∧
      (l.wtxOut = false → (t.dev.ch ch).lsn.staged = some {
        data := lsnBlock l (s.dev.ses k) (2 + (s.dev.ses k).blockNum) (toBe 2 (s.dev.fld F.CH_LSN_ERR_SW ch)),
        rate := s.dev.lsnTxRate ch }) ∧
      (l.armed.isSome → ∃ e ∈ (t.dev.ch ch).outq.held ++ (t.dev.ch ch).outq.waiting, e.kind = .listenApdu ∧
        e.status = .hostTimeout ∧ e.source = ch.val ∧ e.session = k) ∧
      (t.dev.ses k).kind = (s.dev.ses k).kind ∧ (∀ j, j ≠ k → t.dev.ses j = s.dev.ses j) ∧ ChansStand [ch.val] s t ∧
      Works postRegs { s with dev := { s.dev with sess := t.dev.sess } } t)) ∧
  (∀ (ch : Fin 192) (s : State) (q : QDesc), s.dev.running ch 0x26 = some q →
    ((s.dev.ch ch).role ≠ .listen → Does (.listenArm ch) s fun t => Answered q .badDescriptor t ∧ Says postRegs s t) ∧
    ((s.dev.ch ch).role = .listen → Does (.listenArm ch) s fun t => Answered q .ok t ∧
      (t.dev.ch ch).lsn = { (s.dev.ch ch).lsn with armed := some (q.d.bufAddr, q.d.bufLen, q.evq) } ∧
      LsnStand ch s t ∧ Works postRegs s t)) ∧
  (∀ (ch : Fin 192) (s : State) (q : QDesc) (l : Lsn), l = (s.dev.ch ch).lsn → s.dev.running ch 0x03 = some q →
    (s.dev.genOk q.d = false → Does (.listenRespond ch) s fun t => Answered q .staleRole t ∧ Says postRegs s t) ∧
    (s.dev.genOk q.d = true → (s.dev.ch ch).role ≠ .listen ∨ l.sess ≠ some q.d.session → Does (.listenRespond ch) s fun t =>
      Answered q .badDescriptor t ∧ Says postRegs s t) ∧
    (s.dev.genOk q.d = true → (s.dev.ch ch).role = .listen → l.sess = some q.d.session →
      (l.waiting = true → Does (.listenRespond ch) s fun t => Answered q .ok t ∧
        (t.dev.ch ch).lsn.waiting = false ∧ (t.dev.ses q.d.session).hold = false ∧
        (l.wtxOut = true → (t.dev.ch ch).lsn.queued = some q.input ∧ (t.dev.ch ch).lsn.staged = l.staged) ∧
        (l.wtxOut = false → ∃ a, (t.dev.ch ch).lsn.staged = some a ∧ (t.dev.ch ch).lsn.lastBlk = a.data ∧
          (t.dev.ch ch).lsn.rest = q.input.drop (fscOf (s.dev.ses q.d.session).fsci - 3 - b2n l.withCid)) ∧
        (∀ j, j ≠ q.d.session → t.dev.ses j = s.dev.ses j) ∧
        Works postRegs { s with dev := { s.dev with sess := t.dev.sess } } t) ∧
      (l.waiting = false → l.capped = true → Does (.listenRespond ch) s fun t => Answered q .hostTimeout t ∧
        (t.dev.ch ch).lsn = { l with capped := false } ∧ LsnStand ch s t ∧ t.dev.sess = s.dev.sess ∧ Works postRegs s t) ∧
      (l.waiting = false → l.capped = false → Does (.listenRespond ch) s fun t =>
        Answered q .badDescriptor t ∧ Says postRegs s t)))

/-- R303, R310 to R316: tag memory, with its frames. -/
def Obligations.TagImages : Prop :=
  (∀ (s : State) (q : QDesc), s.dev.running 0x3FF 0x20 = some q →
    ((s.dev.img q.image).pages ≠ 0 → Does .tagmemAlloc s fun t => Answered q .badDescriptor t ∧ Says postRegs s t) ∧
    ((s.dev.img q.image).pages = 0 → s.dev.pagesFree < 2 * byteAt q.d.param 1 ∨
        (bitAt (byteAt q.d.param 2) 0 = true ∧ 4 < s.dev.pagesKept + byteAt q.d.param 1) → Does .tagmemAlloc s fun t =>
      Answered q .notReady t ∧ Says postRegs s t) ∧
    ((s.dev.img q.image).pages = 0 → 2 * byteAt q.d.param 1 ≤ s.dev.pagesFree →
        (bitAt (byteAt q.d.param 2) 0 = true → s.dev.pagesKept + byteAt q.d.param 1 ≤ 4) →
      Does .tagmemAlloc s fun t => Answered q .ok t ∧
        t.dev.img q.image = { pages := byteAt q.d.param 1, persist := bitAt (byteAt q.d.param 2) 0 } ∧
        (∀ i, i ≠ q.image → t.dev.img i = s.dev.img i) ∧ Says postRegs { s with dev := { s.dev with images := t.dev.images } } t)) ∧
  (∀ (target : Nat) (s : State) (q : QDesc), s.dev.running target 0x22 = some q →
    (s.dev.img q.image).staged.any (fun (w : Staged) => w.desc.same q) = false →
    (s.dev.imgReach q q.input.length = false → Does (.tagmemWrite target) s fun t => Answered q .badDescriptor t ∧ Says postRegs s t) ∧
    (s.dev.imgReach q q.input.length = true → 1 ≤ q.input.length → ∀ k,
      k = (leAt q.d.param 4 4 + q.input.length - 1) / 4096 - leAt q.d.param 4 4 / 4096 + 1 →
      (s.dev.pagesFree < k → Does (.tagmemWrite target) s fun t => Answered q .notReady t ∧ Says postRegs s t) ∧
      (k ≤ s.dev.pagesFree → Does (.tagmemWrite target) s fun t =>
        t.dev.img q.image = { s.dev.img q.image with staged := (s.dev.img q.image).staged ++
          [{ desc := q, ofs := leAt q.d.param 4 4, data := q.input, pages := k }] } ∧
        (∀ i, i ≠ q.image → t.dev.img i = s.dev.img i) ∧ t = { s with dev := { s.dev with images := t.dev.images } }))) ∧
  (∀ (image : Fin 64) (s : State),
    ((s.dev.img image).staged = [] → Idle (.tagmemCommit image) s) ∧
    (∀ w rest, (s.dev.img image).staged = w :: rest → Does (.tagmemCommit image) s fun t =>
      (t.dev.img image).staged = rest ∧ (t.dev.img image).pages = (s.dev.img image).pages ∧
      (∀ i, i ≠ image.val → t.dev.img i = s.dev.img i) ∧
      (w.desc.late s.dev.now = true → Answered w.desc .late t ∧ (t.dev.img image).mem = (s.dev.img image).mem) ∧
      (w.desc.late s.dev.now = false → s.dev.bound image ≠ [] → ((s.dev.img image).write w.ofs w.data).ccOk = false →
        Answered w.desc .badDescriptor t ∧ (t.dev.img image).mem = (s.dev.img image).mem) ∧
      (w.desc.late s.dev.now = false → s.dev.bound image = [] ∨ ((s.dev.img image).write w.ofs w.data).ccOk = true →
        Answered w.desc .ok t ∧ ∀ a, (t.dev.img image).byte a =
          if w.ofs ≤ a ∧ a < w.ofs + w.data.length then w.data.getD (a - w.ofs) 0 else (s.dev.img image).byte a) ∧
      Says postRegs { s with dev := { s.dev with images := t.dev.images } } t)) ∧
  (∀ (target : Nat) (s : State) (q : QDesc), s.dev.running target 0x23 = some q →
    (s.dev.imgReach q q.d.bufLen = false → Does (.tagmemRead target) s fun t => Answered q .badDescriptor t ∧ Says postRegs s t) ∧
    (s.dev.imgReach q q.d.bufLen = true → Does (.tagmemRead target) s fun t => Answered q .ok t ∧
      DataOut q.d.bufAddr ((s.dev.img q.image).read (leAt q.d.param 4 4) q.d.bufLen) s t ∧
      Says postRegs s t)) ∧
  (∀ (s : State) (q : QDesc), s.dev.running 0x3FF 0x24 = some q →
    ((s.dev.img q.image).pages = 0 ∨ (s.dev.img q.image).persist = false → Does .tagmemSave s fun t =>
      Answered q .badDescriptor t ∧ Says postRegs s t) ∧
    ((s.dev.img q.image).pages ≠ 0 → (s.dev.img q.image).persist = true → Does .tagmemSave s fun t => Answered q .ok t ∧
      tblFind t.nv.images q.image = some ((s.dev.img q.image).pages, (s.dev.img q.image).mem) ∧
      Says postRegs { s with nv := { s.nv with images := t.nv.images } } t)) ∧
  (∀ (s : State) (q : QDesc), s.dev.running 0x3FF 0x21 = some q →
    ((s.dev.img q.image).pages = 0 ∨ s.dev.servers q.image ≠ [] → Does .tagmemFree s fun t =>
      Answered q .badDescriptor t ∧ Says postRegs s t) ∧
    ((s.dev.img q.image).pages ≠ 0 → s.dev.servers q.image = [] →
      ((s.dev.img q.image).staged ≠ [] → Idle .tagmemFree s) ∧
      ((s.dev.img q.image).staged = [] → Does .tagmemFree s fun t => Answered q .ok t ∧ t.dev.img q.image = {} ∧
        tblFind t.nv.images q.image = none ∧ (∀ i, i ≠ q.image → t.dev.img i = s.dev.img i) ∧
        Says postRegs { s with nv := { s.nv with images := t.nv.images }, dev := { s.dev with images := t.dev.images } } t))) ∧
  (∀ (ch : Fin 192) (s : State) (q : QDesc), s.dev.running ch 0x25 = some q →
    (q.image = 0x7F ∨ (s.dev.img q.image).pages ≠ 0 ∧ (s.dev.img q.image).ccOk = true → q.image < 128 →
      Does (.tagmemBind ch) s fun t => Answered q .ok t ∧ t.dev.fld F.CH_LSN_CTL_IMAGE ch = q.image ∧
        Works (postRegs ++ [.CH_LSN_CTL]) s t) ∧
    (q.image ≠ 0x7F → (s.dev.img q.image).pages = 0 ∨ (s.dev.img q.image).ccOk = false → Does (.tagmemBind ch) s fun t =>
      Answered q .badDescriptor t ∧ Says postRegs s t))

/-- R325 to R327, R331, R332, R376: roles and sessions, with their frames. -/
def Obligations.RolesAndSessions : Prop :=
  (∀ (ch : Fin 192) (s : State) (q : QDesc) (r : Role), s.dev.running ch 0x10 = some q → r = roleOf (byteAt q.d.param 0 % 8) →
    (r ≠ .parked → s.dev.enLock ch = false →
        (s.dev.ch ch).roleQ = [] ∨ s.dev.engaged ch = true ∨ (s.dev.ch ch).borrowed = true → Does (.setRole ch) s fun t => Answered q .limitRefused t ∧ Says postRegs s t) ∧
    (r = .parked ∨ s.dev.enLock ch = true →
      (s.dev.engaged ch = true ∨ (s.dev.ch ch).borrowed = true → Does (.setRole ch) s fun t =>
        (t.dev.ch ch).roleQ = (s.dev.ch ch).roleQ ++ [(q, r)] ∧ (t.dev.ch ch).role = (s.dev.ch ch).role ∧
        (t.dev.ch ch).gen = (s.dev.ch ch).gen ∧ Works [] s t) ∧
      (s.dev.engaged ch = false → (s.dev.ch ch).borrowed = false → (s.dev.ch ch).roleQ = [] → Does (.setRole ch) s fun t =>
        Answered q .ok t ∧ (t.dev.ch ch).role = r ∧ (t.dev.ch ch).home = r ∧ (t.dev.ch ch).gen = ((s.dev.ch ch).gen + 1) % 256 ∧
        (t.dev.ch ch).roleQ = [] ∧ (∀ k ∈ s.dev.sessionsOf ch, (t.dev.ses k).kind = .free) ∧
        (∀ k, k ∉ s.dev.sessionsOf ch → t.dev.ses k = s.dev.ses k) ∧
        (∀ k, k ≠ ch.val → (s.dev.ch k).borrowed = false → (t.dev.ch k).role = (s.dev.ch k).role ∧ (t.dev.ch k).gen = (s.dev.ch k).gen) ∧
        Works admRegs { withOrder s t.dev.host.order with dev := { (withOrder s t.dev.host.order).dev with sess := t.dev.sess } } t))) ∧
  (∀ (ch : Fin 192) (s : State),
    ((s.dev.ch ch).roleQ = [] ∨ s.dev.engaged ch = true ∨ (s.dev.ch ch).borrowed = true → Idle (.setRoleEffect ch) s) ∧
    (∀ q r, (s.dev.ch ch).roleQ = [(q, r)] → s.dev.engaged ch = false → (s.dev.ch ch).borrowed = false →
      Does (.setRoleEffect ch) s fun t => Answered q .ok t ∧ (t.dev.ch ch).role = r ∧ (t.dev.ch ch).home = r ∧
        (t.dev.ch ch).gen = ((s.dev.ch ch).gen + 1) % 256 ∧ (t.dev.ch ch).roleQ = [] ∧
        (∀ k ∈ s.dev.sessionsOf ch, (t.dev.ses k).kind = .free) ∧
        (∀ k, k ∉ s.dev.sessionsOf ch → t.dev.ses k = s.dev.ses k) ∧
        (∀ k, k ≠ ch.val → (s.dev.ch k).borrowed = false → (t.dev.ch k).role = (s.dev.ch k).role ∧ (t.dev.ch k).gen = (s.dev.ch k).gen) ∧
        Works admRegs { withOrder s t.dev.host.order with dev := { (withOrder s t.dev.host.order).dev with sess := t.dev.sess } } t)) ∧
  (∀ (s : State) (q : QDesc), s.dev.running 0x3FF 0x11 = some q → Does .sessionQuery s fun t =>
    Answered q (if q.d.bufLen < 512 then .bufferShort else .ok) t ∧
    DataOut q.d.bufAddr ((s.dev.ses q.d.session).encode.take q.d.bufLen) s t ∧
    ((s.dev.ses q.d.session).encode.length = 512) ∧ Says postRegs s t)

/-! ### Gates, buckets, shapers, coexistence (chapter 10) -/

/-- R362, R363, R681, R720: the three commands that write PAV_GATE_CTL, with their frame. -/
def Obligations.GateControl : Prop :=
  ∀ (pav : Fin 6) (v : Word) (s : State),
    Does (.gateChange pav v) s (GateCtl pav (setBits v.toNat 1 1 1) s) ∧
    Does (.gateCancel pav v) s (GateCtl pav (setBits v.toNat 2 1 1) s) ∧
    Does (.gateEnable pav v) s (GateCtl pav v.toNat s)

/-- R364 to R369, R720, R721: the instants of a pavilion's timeline, with their frames. -/
def Obligations.GateInstants : Prop :=
  (∀ (pav : Fin 6) (s : State) (l : GList), (s.dev.pav pav).gate.pend = some l →
    (l.follow = true → Idle (.gateListSwitch pav) s) ∧
    (l.follow = false → 339 * l.base ≤ s.dev.netU → Does (.gateListSwitch pav) s fun t =>
      (t.dev.pav pav).gate.oper = some l ∧ (t.dev.pav pav).gate.pend = none ∧
      ((s.dev.pav pav).gate.mode ≠ .open_ ∧ s.dev.locked = true → (t.dev.pav pav).gate.mode = .oper ∧
        ∀ n x, n ∈ pavChans pav → (s.dev.ch n).txn = some x → x.phase = .up → x.work ≠ .cal →
          if bitAt (l.entryAt l.base).1 (arbOf n % 4) then ∃ c, (t.dev.ch n).txn = some { x with closing := c }
          else Falls s.dev .normal .gateCut [] n x t) ∧
      ((s.dev.pav pav).gate.mode = .open_ ∨ s.dev.locked = false → (t.dev.pav pav).gate.mode = (s.dev.pav pav).gate.mode) ∧
      Works (admRegs ++ [.PAV_GATE_CUTS]) s t)) ∧
  (∀ (pav : Fin 6) (s : State), (s.dev.pav pav).gate.pend = none → Idle (.gateListSwitch pav) s) ∧
  (∀ (pav : Fin 6) (s : State), (∃ e, (s.dev.pav pav).gate.enAt = some e ∧ e ≤ s.dev.tc) → Does (.gateEnableEffect pav) s fun t =>
    (t.dev.pav pav).gate.enAt = none ∧
    (if s.dev.locked = true ∧ (s.dev.pav pav).gate.oper.isSome then (t.dev.pav pav).gate.mode = .oper
     else (t.dev.pav pav).gate.mode = .fallback ∧ (t.dev.pav pav).gate.fbStart = s.dev.tc ∧
       (t.dev.pav pav).gate.fbOpen = s.dev.rd .PAV_GATE_FB_OPEN pav ∧
       (t.dev.pav pav).gate.fbPeriod = s.dev.rd .PAV_GATE_FB_PERIOD pav ∧
       (t.dev.pav pav).gate.fbMask = s.dev.fld F.PAV_GATE_FB_CFG_MASK pav) ∧
    Works (admRegs ++ [.PAV_GATE_CUTS]) s t) ∧
  (∀ (pav : Fin 6) (s : State), (s.dev.pav pav).gate.mode = .fallback → (s.dev.pav pav).gate.nextFb ≤ s.dev.tc →
    Does (.fallbackPeriodStart pav) s fun t =>
    (t.dev.pav pav).gate = { s.dev.loadFb pav s.dev.tc (s.dev.pav pav).gate with lostEnd := none } ∧ Works admRegs s t) ∧
  (∀ (pav : Fin 6) (s : State) (l : GList), (s.dev.pav pav).gate.mode = .fallback → s.dev.locked = true →
    (s.dev.pav pav).gate.oper = some l → l.toCycle s.dev.netU % (339 * l.cycle) = 0 →
    Does (.operListTakeover pav) s fun t =>
      (t.dev.pav pav).gate = { (s.dev.pav pav).gate with mode := .oper, lostEnd := none } ∧
      (∀ n x, (s.dev.ch n).txn = some x → x.phase = .up → x.work ≠ .cal → (t.dev.ch n).txn = some x) ∧ Works admRegs s t) ∧
  (∀ (pav : Fin 6) (which : Fin 3) (v : Word) (s : State), Does (.gateFbWrite pav which v) s fun t =>
    (which = 0 → t.dev.fld F.PAV_GATE_FB_OPEN_US pav =
      if 500 ≤ bits v.toNat 0 23 ∧ bits v.toNat 0 23 ≤ 4000000 then bits v.toNat 0 23 else s.dev.fld F.PAV_GATE_FB_OPEN_US pav) ∧
    (which = 1 → t.dev.fld F.PAV_GATE_FB_PERIOD_US pav =
      if 1000 ≤ bits v.toNat 0 23 ∧ bits v.toNat 0 23 ≤ 4000000 then bits v.toNat 0 23 else s.dev.fld F.PAV_GATE_FB_PERIOD_US pav) ∧
    (which = 2 → t.dev.fld F.PAV_GATE_FB_CFG_MASK pav = bits v.toNat 0 4 ∧ t.dev.on F.PAV_GATE_FB_CFG_PRI pav = bitAt v.toNat 4) ∧
    OnlyRegs [(fbReg which, pav, 0)] s t)

/-- R85, R86, R347, R349, R361, R371 to R375, R721: edges of gates and of the grant, with their frames. -/
def Obligations.GateEdgesAndGrants : Prop :=
  (∀ (arb : Fin 24) (fb : Bool) (s : State), (∀ n ∈ arbChans arb, s.dev.fallLeft n = none) → Idle (.gateClosing arb fb) s) ∧
  (∀ (arb : Fin 24) (fb : Bool) (s : State), (∃ n ∈ arbChans arb, s.dev.fallLeft n = some 0) → Does (.gateClosing arb fb) s fun t =>
    (∀ n x, n ∈ arbChans arb → (s.dev.ch n).txn = some x → (s.dev.fallLeft n).any (fun u => s.dev.atHand u (!fb)) = true →
      Falls s.dev .normal .gateCut [] n x t) ∧
    (∀ n, n ∉ arbChans arb ∨ (s.dev.fallLeft n).any (fun u => s.dev.atHand u (!fb)) = false →
      (t.dev.ch n).txn = (s.dev.ch n).txn) ∧
    t.dev.fld F.PAV_GATE_CUTS_COUNT (arb / 4) = sat 65535 (s.dev.fld F.PAV_GATE_CUTS_COUNT (arb / 4) +
      (((arbChans arb).filterMap fun n => match (s.dev.ch n).txn with
        | some x => if (s.dev.fallLeft n).any (fun u => s.dev.atHand u (!fb)) then some x.driven.length else none
        | none => none).foldl (· + ·) 0)) ∧
    Works (rxRegs ++ [.PAV_GATE_CUTS]) s t) ∧
  (∀ (pav : Fin 6) (s : State) (e : Dev), (e = match (s.dev.pav pav).gate.mode, (s.dev.pav pav).gate.oper with
      | .oper, some l => s.dev.runNet (339 * (s.dev.now + (l.entryAt s.dev.now).2))
      | _, _ => s.dev) → Does (.gateEntryBoundary pav) s fun t =>
    (∀ ch x, ch < 192 → s.dev.waitOrder pav = [ch] → NoneAdmitted pav s → Admissible e ch x →
      ∃ y, (t.dev.ch ch).txn = some y ∧ y.phase = .admitted ∧ y.desc = x.desc) ∧ Works admRegs { s with dev := e } t) ∧
  (∀ (pav : Fin 6) (s : State), Does (.coexGntRise pav) s fun t =>
    (t.dev.pav pav).gntPin = true ∧
    (∀ ch x, ch < 192 → s.dev.waitOrder pav = [ch] → NoneAdmitted pav s → Admissible (s.dev.modPav pav fun y => { y with gntPin := true }) ch x →
      ∃ y, (t.dev.ch ch).txn = some y ∧ y.phase = .admitted ∧ y.desc = x.desc) ∧ Works admRegs s t) ∧
  (∀ (pav : Fin 6) (s : State), Does (.coexGntFall pav) s fun t =>
    (t.dev.pav pav).gntPin = false ∧
    ((s.dev.pav pav).gntPin = true ∧ s.dev.on F.PAV_COEX_EN pav = true →
      (∀ n x, n ∈ pavChans pav → (s.dev.ch n).txn = some x →
        (x.phase = .up → Falls s.dev .fast .coexRevoked [] n x t) ∧
        (x.phase = .admitted ∨ x.phase = .waiting → x.fg = none → x.work ≠ .pilot → x.work ≠ .cal →
          s.dev.refusal n { x with phase := .waiting, eRsv := 0 } = none →
          ∃ y, (t.dev.ch n).txn = some y ∧ y = { x with phase := .waiting, eRsv := y.eRsv } ∧ (x.phase = .admitted → y.eRsv = 0))) ∧
      t.dev.fld F.PAV_COEX_STAT_REVOKES pav = sat (2 ^ F.PAV_COEX_STAT_REVOKES.w - 1) (s.dev.fld F.PAV_COEX_STAT_REVOKES pav +
        ((pavChans pav).map s.dev.fallable).sum)) ∧
    ((s.dev.pav pav).gntPin = false ∨ s.dev.on F.PAV_COEX_EN pav = false → t.dev.chans = s.dev.chans ∧ t.dev.regs = s.dev.regs) ∧
    (∀ n, n ∉ pavChans pav → (t.dev.ch n).txn = (s.dev.ch n).txn) ∧ Works (admRegs ++ [.PAV_COEX_STAT]) s t) ∧
  (∀ (pav : Fin 6) (v : Word) (s : State), Does (.coexEnWrite pav v) s fun t =>
    t.dev.on F.PAV_COEX_EN pav = bitAt v.toNat 0 ∧ (t.dev.pav pav).gntPin = (s.dev.pav pav).gntPin ∧
    (s.dev.on F.PAV_COEX_EN pav = false → bitAt v.toNat 0 = true → (s.dev.pav pav).gntPin = false →
      ∀ n x, n ∈ pavChans pav → (s.dev.ch n).txn = some x → x.phase = .up → Falls s.dev .fast .coexRevoked [] n x t) ∧
    Works (admRegs ++ [.PAV_COEX, .PAV_COEX_STAT]) s t)

/-- R354, R357, R358, R376: buckets and shapers, with their frames. -/
def Obligations.BucketsAndShapers : Prop :=
  (∀ (pav : Fin 6) (depth : Bool) (v : Word) (s : State),
    (bits v.toNat 0 14 ≤ (if depth then 8000 else 7999) ∧ (depth = true → 1 ≤ bits v.toNat 0 14)) →
    bits v.toNat 0 14 + s.dev.fld (if depth then F.PAV_BKT_RATE_RATE else F.PAV_BKT_DEPTH_DEPTH) pav ≤ s.dev.fld F.PAV_LOCK_BUDGET pav →
    Does (.bktWrite pav depth v) s fun t =>
      t.dev.fld (if depth then F.PAV_BKT_DEPTH_DEPTH else F.PAV_BKT_RATE_RATE) pav = bits v.toNat 0 14 ∧
      (t.dev.pav pav).tokens = clampInt (-(t.dev.depth pav : Nat)) (t.dev.depth pav) (s.dev.tokensNow pav) ∧
      ((∀ n ∈ pavChans pav, (s.dev.ch n).txn = none) → (t.dev.pav pav).rsv = (s.dev.pav pav).rsv) ∧
      Works (admRegs ++ [if depth then .PAV_BKT_DEPTH else .PAV_BKT_RATE]) s t) ∧
  (∀ (pav : Fin 6) (depth : Bool) (v : Word) (s : State),
    (bits v.toNat 0 14 ≤ (if depth then 8000 else 7999) ∧ (depth = true → 1 ≤ bits v.toNat 0 14)) →
    s.dev.fld F.PAV_LOCK_BUDGET pav < bits v.toNat 0 14 + s.dev.fld (if depth then F.PAV_BKT_RATE_RATE else F.PAV_BKT_DEPTH_DEPTH) pav →
    Does (.bktWrite pav depth v) s fun t =>
      t.dev.on F.PAV_BKT_STAT_REFUSED pav = true ∧ OnlyRegs [(.PAV_BKT_STAT, pav, 0)] s t) ∧
  (∀ (pav : Fin 6) (depth : Bool) (v : Word) (s : State),
    ¬ (bits v.toNat 0 14 ≤ (if depth then 8000 else 7999) ∧ (depth = true → 1 ≤ bits v.toNat 0 14)) →
    Does (.bktWrite pav depth v) s fun t =>
      t.dev.fld F.PAV_BKT_RATE_RATE pav = s.dev.fld F.PAV_BKT_RATE_RATE pav ∧
      t.dev.fld F.PAV_BKT_DEPTH_DEPTH pav = s.dev.fld F.PAV_BKT_DEPTH_DEPTH pav ∧ Works (admRegs ++ [.PAV_BKT_STAT]) s t) ∧
  (∀ (pav : Fin 6) (v : Word) (s : State), Does (.budgetWrite pav v) s fun t =>
    ∃ b, b = t.dev.fld F.PAV_LOCK_BUDGET pav ∧
    b = (if s.nv.life = 1 ∧ s.nv.regLock = false ∧ 1 ≤ bits v.toNat F.PAV_LOCK_BUDGET.lo F.PAV_LOCK_BUDGET.w ∧
        bits v.toNat F.PAV_LOCK_BUDGET.lo F.PAV_LOCK_BUDGET.w ≤ 8000
      then bits v.toNat F.PAV_LOCK_BUDGET.lo F.PAV_LOCK_BUDGET.w else s.dev.fld F.PAV_LOCK_BUDGET pav) ∧
    (s.dev.fld F.PAV_BKT_RATE_RATE pav + s.dev.fld F.PAV_BKT_DEPTH_DEPTH pav ≤ b →
      t.dev.fld F.PAV_BKT_RATE_RATE pav = s.dev.fld F.PAV_BKT_RATE_RATE pav ∧
      t.dev.fld F.PAV_BKT_DEPTH_DEPTH pav = s.dev.fld F.PAV_BKT_DEPTH_DEPTH pav) ∧
    (b < s.dev.fld F.PAV_BKT_RATE_RATE pav + s.dev.fld F.PAV_BKT_DEPTH_DEPTH pav →
      t.dev.fld F.PAV_BKT_DEPTH_DEPTH pav = max 1 (b - s.dev.fld F.PAV_BKT_RATE_RATE pav) ∧
      t.dev.fld F.PAV_BKT_RATE_RATE pav = min (s.dev.fld F.PAV_BKT_RATE_RATE pav) (b - 1)) ∧
    Works (admRegs ++ [.PAV_LOCK, .SEC_STAT, .PAV_BKT_RATE, .PAV_BKT_DEPTH]) s t) ∧
  (∀ (ch : Fin 192) (which : Fin 3) (v : Word) (s : State), Does (.shpWrite ch which v) s fun t =>
    t.dev.creditAtNow ch = s.dev.creditAtNow ch ∧
    (which = 0 → t.dev.on F.CH_SHP_CTL_EN ch = bitAt v.toNat 0 ∧ t.dev.fld F.CH_SHP_CTL_IDLE ch =
      if bits v.toNat 16 10 ≤ 1000 then bits v.toNat 16 10 else s.dev.fld F.CH_SHP_CTL_IDLE ch) ∧
    (which = 1 → t.dev.fld F.CH_SHP_HI_HI ch =
      if bits v.toNat 0 20 ≤ 1000000 then bits v.toNat 0 20 else s.dev.fld F.CH_SHP_HI_HI ch) ∧
    (which = 2 → t.dev.fld F.CH_SHP_LO_LO ch =
      if bits v.toNat 0 20 ≤ 1000000 then bits v.toNat 0 20 else s.dev.fld F.CH_SHP_LO_LO ch) ∧
    ChansStand [ch.val] s t ∧ Works [shpReg which] s t)

/-! ### Rings, descriptors, events and interrupts (chapter 11) -/

/-- R387, R388, R390, R393, R394, R397, R493: rings and doorbells, with their frames. -/
def Obligations.RingsAndDoorbells : Prop :=
  (∀ (ring : Fin 32) (v : Word) (s : State) (size head tail : Nat), size = s.dev.ringSize ring → head = s.dev.rd .HIF_RING_HEAD ring % size →
    tail = s.dev.rd .HIF_RING_TAIL ring % size →
    (v.toNat < size → (v.toNat + size - tail) % size + (tail + size - head) % size < size → Does (.commandDoorbell ring v) s fun t =>
      t.dev.rd .HIF_RING_TAIL ring = v.toNat ∧ OnlyRegs [(.HIF_RING_TAIL, ring, 0)] s t) ∧
    (size ≤ v.toNat ∨ size ≤ (v.toNat + size - tail) % size + (tail + size - head) % size → Does (.commandDoorbell ring v) s fun t =>
      t.dev.on F.HIF_RING_STAT_DB_ERR ring = true ∧ bitAt (t.dev.rd .HIF_MISC_STAT) 0 = true ∧
      Says [.HIF_RING_STAT, .HIF_MISC_STAT] s t)) ∧
  (∀ (evq : Fin 32) (v : Word) (s : State) (r size head tail : Nat), r = 32 + evq.val → size = s.dev.ringSize r →
    head = s.dev.rd .HIF_RING_HEAD r % size → tail = s.dev.rd .HIF_RING_TAIL r % size →
    (v.toNat < size → (v.toNat + size - tail) % size ≤ (head + size - tail) % size → Does (.eventDoorbell evq v) s fun t =>
      t.dev.rd .HIF_RING_TAIL r = v.toNat ∧ OnlyRegs [(.HIF_RING_TAIL, r, 0)] s t) ∧
    (size ≤ v.toNat ∨ (head + size - tail) % size < (v.toNat + size - tail) % size → Does (.eventDoorbell evq v) s fun t =>
      t.dev.on F.HIF_RING_STAT_DB_ERR r = true ∧ bitAt (t.dev.rd .HIF_MISC_STAT) 0 = true ∧
      Says [.HIF_RING_STAT, .HIF_MISC_STAT] s t)) ∧
  (∀ (ring : Fin 64) (v : Word) (s : State), Does (.ringCfgWrite ring v) s fun t =>
    t.dev.on F.HIF_RING_CFG_EN ring = (bitAt v.toNat 0 && s.dev.ringsOpen) ∧
    (s.dev.on F.HIF_RING_CFG_EN ring = false → bitAt v.toNat 0 = true → s.dev.ringsOpen = true →
      t.dev.rd .HIF_RING_HEAD ring = 0 ∧ t.dev.rd .HIF_RING_TAIL ring = 0 ∧ t.dev.on F.HIF_RING_STAT_PHASE ring = true ∧
      (t.dev.ring ring).stopped = false) ∧
    (s.dev.on F.HIF_RING_CFG_EN ring = false → t.dev.fld F.HIF_RING_CFG_EVQ ring = bits v.toNat 16 5 ∧
      (1 ≤ bits v.toNat 8 5 → bits v.toNat 8 5 ≤ 16 → t.dev.fld F.HIF_RING_CFG_LOG2_SIZE ring = bits v.toNat 8 5)) ∧
    (s.dev.on F.HIF_RING_CFG_EN ring = true → t.dev.fld F.HIF_RING_CFG_LOG2_SIZE ring = s.dev.fld F.HIF_RING_CFG_LOG2_SIZE ring ∧
      t.dev.fld F.HIF_RING_CFG_EVQ ring = s.dev.fld F.HIF_RING_CFG_EVQ ring) ∧
    (∀ k, k ≠ ring.val → t.dev.ring k = s.dev.ring k) ∧
    Says [.HIF_RING_CFG, .HIF_RING_HEAD, .HIF_RING_TAIL, .HIF_RING_STAT] (withRings s t) t) ∧
  (∀ (ring : Fin 32) (s : State),
    (s.dev.takesUp = true → s.dev.on F.HIF_RING_CFG_EN ring = true → (s.dev.ring ring).stopped = false →
      s.dev.rd .HIF_RING_HEAD ring ≠ s.dev.rd .HIF_RING_TAIL ring → Does (.descriptorFetchError ring) s fun t =>
      t.dev.on F.HIF_RING_STAT_FETCH_ERR ring = true ∧ t.dev.ring ring = { s.dev.ring ring with stopped := true } ∧
      bitAt (t.dev.rd .HIF_MISC_STAT) 0 = true ∧ (∀ k, k ≠ ring.val → t.dev.ring k = s.dev.ring k) ∧
      Says [.HIF_RING_STAT, .HIF_MISC_STAT] (withRings s t) t) ∧
    (s.dev.takesUp = false ∨ s.dev.on F.HIF_RING_CFG_EN ring = false ∨ (s.dev.ring ring).stopped = true ∨
      s.dev.rd .HIF_RING_HEAD ring = s.dev.rd .HIF_RING_TAIL ring → Idle (.descriptorFetchError ring) s))

/-- R384, R389, R398 to R402, R405, R432, R333: taking up a descriptor, with its frame. -/
def Obligations.DescriptorTakeUp : Prop :=
  ∀ (ring : Fin 32) (slot ext input : List Byte) (nvmOk : Bool) (s : State) (x : Desc) (q : QDesc) (head : Nat) (held : Bool),
    slot.length = 64 → x = Desc.parse slot → head = s.dev.rd .HIF_RING_HEAD ring →
    q = { d := x, ring := ring, idx := head, evq := s.dev.fld F.HIF_RING_CFG_EVQ ring, input := padTo x.txLen input } →
    held = (slotCrc slot && (x.fence && s.dev.host.inFlight.any (fun (y : QDesc) => y.ring == ring.val) || s.dev.gateBusy x)) →
    (s.dev.takesUp = false ∨ s.dev.on F.HIF_RING_CFG_EN ring = false ∨ (s.dev.ring ring).stopped = true ∨
      head = s.dev.rd .HIF_RING_TAIL ring ∨ s.dev.takeRoom x.target = false ∨ held = true ∨
        (s.dev.policed ring = false ∧ slotCrc slot = true ∧ x.auth = true ∧ (head + 1) % s.dev.ringSize ring = s.dev.rd .HIF_RING_TAIL ring) →
      Idle (.descriptorTakeUp ring slot ext input nvmOk) s) ∧
    (s.dev.takesUp = true → s.dev.on F.HIF_RING_CFG_EN ring = true → (s.dev.ring ring).stopped = false →
      head ≠ s.dev.rd .HIF_RING_TAIL ring → s.dev.takeRoom x.target = true → held = false →
      (s.dev.policed ring = true → Does (.descriptorTakeUp ring slot ext input nvmOk) s fun t =>
        t.dev.fld F.HIF_RING_DROPS_COUNT ring = sat 65535 (s.dev.fld F.HIF_RING_DROPS_COUNT ring + 1) ∧
        (∃ e ∈ t.dev.host.devQ.held ++ t.dev.host.devQ.waiting, e.kind = .completion ∧
          e.status = .droppedPoliced ∧ e.source = 0x3FF ∧ e.ring = some q.evq) ∧
        t.dev.rd .HIF_RING_HEAD ring = (head + 1) % s.dev.ringSize ring ∧
        Says (postRegs ++ [.HIF_RING_DROPS, .HIF_RING_HEAD]) s t) ∧
      (s.dev.policed ring = false → slotCrc slot = false → Does (.descriptorTakeUp ring slot ext input nvmOk) s fun t =>
        (∃ e ∈ t.dev.host.devQ.held ++ t.dev.host.devQ.waiting, e.kind = .completion ∧
          e.status = .badDescriptor ∧ e.source = 0x3FF ∧ e.ring = some q.evq) ∧
        t.dev.rd .HIF_RING_HEAD ring = (head + 1) % s.dev.ringSize ring ∧ Says (postRegs ++ [.HIF_RING_HEAD]) (withRings s t) t) ∧
      (s.dev.policed ring = false → slotCrc slot = true → x.auth = false → s.nv.needsAuth x.op = false →
        (∀ st, s.dev.checkStep q slot = some st → (targetClass x.target).isSome →
          Does (.descriptorTakeUp ring slot ext input nvmOk) s fun t => Answered q st t ∧
            t.dev.rd .HIF_RING_HEAD ring = (head + 1) % s.dev.ringSize ring ∧
            Says (postRegs ++ [.HIF_RING_HEAD]) (withRings s t) t) ∧
        (s.dev.checkStep q slot = none → x.op ≠ 0x12 →
          (s.dev.tqRoom x = false → Idle (.descriptorTakeUp ring slot ext input nvmOk) s) ∧
          (s.dev.tqRoom x = true → Does (.descriptorTakeUp ring slot ext input nvmOk) s fun t =>
            t.dev.tq x.target = { s.dev.tq x.target with q := (s.dev.tq x.target).q ++ [q] } ∧
            t.dev.host.inFlight = s.dev.host.inFlight ++ [q] ∧
            t.dev.rd .HIF_RING_HEAD ring = (head + 1) % s.dev.ringSize ring ∧
            Says [.HIF_RING_HEAD] (withRings s t) t)) ∧
        (s.dev.checkStep q slot = none → x.op = 0x12 → Does (.descriptorTakeUp ring slot ext input nvmOk) s fun t =>
          Answered q .ok t ∧ t.dev.rd .HIF_RING_HEAD ring = (head + 1) % s.dev.ringSize ring)))

/-- R193, R334, R401, R403, R404, R407, R411: descriptors at their target, with their frames. -/
def Obligations.DescriptorsLeaveQueues : Prop :=
  (∀ (target : Nat) (s : State) (q : QDesc) (rest : List QDesc), (targetClass target).isSome → (s.dev.tq target).q = q :: rest →
    (q.late s.dev.now = false ∨ (s.dev.tq target).run.isSome → s.dev.mayStart target q = false → Idle (.descriptorStart target) s) ∧
    ((s.dev.tq target).run = none → s.dev.mayStart target q = true →
      (s.dev.genOk q.d (if target < 192 then (s.dev.ch target).roleQ.length else 0) = true →
        (q.late s.dev.now = false → s.dev.lendsOnly target q = false → Does (.descriptorStart target) s fun t =>
          t.dev.tq target = { q := rest, run := some q } ∧ Says [] s t) ∧
        (q.late s.dev.now = false → s.dev.lendsOnly target q = true → Does (.descriptorStart target) s fun t =>
          t.dev.tq target = { q := rest, run := none } ∧ Answered q .badDescriptor t ∧ Says doneRegs s t) ∧
        (q.late s.dev.now = true → Does (.descriptorStart target) s fun t =>
          t.dev.tq target = { q := rest, run := none } ∧ Answered q .late t ∧ Says doneRegs s t)) ∧
      (s.dev.genOk q.d (if target < 192 then (s.dev.ch target).roleQ.length else 0) = false → Does (.descriptorStart target) s fun t =>
        t.dev.tq target = { q := rest, run := none } ∧ Answered q .staleRole t ∧ Says doneRegs s t)) ∧
    (∀ p, (s.dev.tq target).run = some p → s.dev.mayStart target q = true → q.late s.dev.now = false → target < 192 →
      s.dev.genOk q.d (s.dev.ch target).roleQ.length = true →
      (roleOf (byteAt q.d.param 0 % 8) = .parked ∨ s.dev.enLock target = true) → Does (.descriptorStart target) s fun t =>
        t.dev.tq target = { q := rest, run := some p } ∧
        (t.dev.ch target).roleQ = (s.dev.ch target).roleQ ++ [(q, roleOf (byteAt q.d.param 0 % 8))] ∧ Works [] s t) ∧
    (q.late s.dev.now = true → (s.dev.tq target).run = none → s.dev.mayStart target q = false → Does (.descriptorStart target) s fun t =>
      t.dev.tq target = { q := rest, run := none } ∧ Answered q .late t ∧ Says doneRegs s t) ∧
    (q.late s.dev.now = true → (s.dev.tq target).run = none → Does (.deadlineExpiry target) s fun t =>
      Answered q .late t ∧ (t.dev.tq target).q = rest ∧ Works workRegs s t)) ∧
  (∀ (ch : Fin 192) (s : State) (x : Txn) (q : QDesc), (s.dev.ch ch).txn = some x → x.phase = .waiting → x.desc = some q →
    x.work = .exchange ∨ x.work = .tagOp → q.late s.dev.now = true → Does (.deadlineExpiry ch) s fun t =>
      Answered q .late t ∧ (t.dev.ch ch).txn = none ∧ Works workRegs s t) ∧
  (∀ (target : Nat) (s : State), targetClass target = none → Idle (.deadlineExpiry target) s ∧ Idle (.descriptorStart target) s ∧
    ∀ m p, Idle (.cancel target m p) s) ∧
  (∀ (target : Nat) (s : State),
    (s.dev.running target 0x00 = none → Idle (.nop target) s) ∧
    (∀ q, s.dev.running target 0x00 = some q → Does (.nop target) s fun t => Answered q .ok t ∧ Says postRegs s t)) ∧
  (∀ (target : Nat) (mask : Word) (program : Bool) (s : State), (targetClass target).isSome → Does (.cancel target mask program) s fun t =>
    (t.dev.tq target).q = (s.dev.tq target).q.filter (fun (y : QDesc) => !inMask mask.toNat y.ring) ∧
    (∀ y ∈ (s.dev.tq target).q, inMask mask.toNat y.ring = true → Answered y .cancelled t) ∧
    (∀ x k, program = true → target < 192 → (s.dev.ch target).txn = some x → x.work = .cycle k false → x.phase = .waiting → x.desc = none →
      (t.dev.ch target).txn = none ∧ (t.dev.ch target).cycleOpen = false) ∧ Works workRegs s t)

/-- R384, R388 to R392, R422, R424, R427: events and interrupts, with their frames. -/
def Obligations.EventsAndInterrupts : Prop :=
  (∀ (source : Nat) (s : State) (e : Entry) (rest : List Entry) (r k : Nat), (s.dev.outq source).held = e :: rest → e.ring = some k →
    r = 32 + k % 32 → s.dev.dataAt (min source 192) = [] →
    (s.dev.on F.HIF_RING_CFG_EN r = true → s.dev.ringRoom r = false → Idle (.eventPost source) s) ∧
    ((s.dev.outq source).waiting = [] →
      (s.dev.on F.HIF_RING_CFG_EN r = false → Does (.eventPost source) s fun t =>
        (t.dev.outq source).held = rest ∧
        t.dev.fld F.HIF_RING_DROPS_COUNT r = sat 65535 (s.dev.fld F.HIF_RING_DROPS_COUNT r + 1) ∧ Says [.HIF_RING_DROPS] s t) ∧
      (s.dev.on F.HIF_RING_CFG_EN r = true → s.dev.ringRoom r = true → (∀ x ∈ s.dev.backlog, x.1 = min source 192) →
        s.dev.rd .HIF_RING_HEAD r < s.dev.ringSize r → Does (.eventPost source) s fun t =>
        (t.dev.outq source).held = rest ∧
        (∃ l, t.dev.out = s.dev.out ++ .memWrite (64 * (s.dev.pair .HIF_RING_BASE_L .HIF_RING_BASE_H r / 64) +
          32 * s.dev.rd .HIF_RING_HEAD r) (e.encode (s.dev.on F.HIF_RING_STAT_PHASE r)) :: l) ∧
        t.dev.rd .HIF_RING_HEAD r = (s.dev.rd .HIF_RING_HEAD r + 1) % s.dev.ringSize r ∧
        t.dev.on F.HIF_RING_STAT_PHASE r =
          (s.dev.on F.HIF_RING_STAT_PHASE r != (s.dev.rd .HIF_RING_HEAD r + 1 == s.dev.ringSize r)) ∧
        Says [.HIF_RING_HEAD, .HIF_RING_STAT] (withRings s t) t))) ∧
  (∀ (source : Nat) (s : State), (s.dev.outq source).held = [] → s.dev.dataAt (min source 192) = [] → Idle (.eventPost source) s) ∧
  (∀ (evq : Fin 32) (s : State) (r : Nat), r = 32 + evq.val →
    (s.dev.fld F.HIF_RING_MOD_TIME r = 0 ∨ (s.dev.ring r).unsig = 0 → Idle (.msixModTimer evq) s) ∧
    (s.dev.fld F.HIF_RING_MOD_TIME r ≠ 0 → (s.dev.ring r).unsig ≠ 0 →
      (s.dev.ring r).oldest + usTc (s.dev.fld F.HIF_RING_MOD_TIME r) ≤ s.dev.tc → Does (.msixModTimer evq) s fun t =>
      t.dev.ring r = { s.dev.ring r with unsig := 0, oldest := 0 } ∧ (∀ k, k ≠ r → t.dev.ring k = s.dev.ring k) ∧
      (s.dev.host.msixEn = true → (s.dev.msix r).mask = true → (t.dev.msix r).pend = true ∧ t.dev.out = s.dev.out) ∧
      (s.dev.host.msixEn = true → s.dev.mayReq = true → (s.dev.msix r).mask = false →
        t.dev.out = s.dev.out ++ [.msix r ((s.dev.msix r).addrLo + 2 ^ 32 * (s.dev.msix r).addrHi) (s.dev.msix r).data]) ∧
      Says [] (withRings s t) t)) ∧
  (∀ (vec : Fin 72) (s : State), Does (.msixUnmask vec) s fun t =>
    (t.dev.msix vec).mask = false ∧
    ((s.dev.msix vec).pend = false → (t.dev.msix vec).pend = false ∧ t.dev.out = s.dev.out) ∧
    ((s.dev.msix vec).pend = true → s.dev.host.msixEn = true → s.dev.mayReq = true → (t.dev.msix vec).pend = false ∧
      t.dev.out = s.dev.out ++ [.msix vec ((s.dev.msix vec).addrLo + 2 ^ 32 * (s.dev.msix vec).addrHi) (s.dev.msix vec).data]) ∧
    (∀ v, v ≠ vec.val → t.dev.msix v = s.dev.msix v) ∧ Says [] s t) ∧
  (∀ (en msixEn : Bool) (s : State), Does (.busMasterEnableChange en msixEn) s fun t =>
    t.dev.host.busMaster = en ∧ t.dev.host.msixEn = msixEn ∧
    (en = false → t = { s with dev := { s.dev with host := { s.dev.host with busMaster := false, msixEn := msixEn } } }) ∧
    (en = true → Works (admRegs ++ [.HIF_RING_HEAD, .HIF_RING_STAT]) { s with dev := { s.dev with
      ledger := t.dev.ledger, host := { s.dev.host with busMaster := true, msixEn := msixEn, rings := t.dev.host.rings } } } t) ∧
    (∀ (l a : Nat) (b : List Byte), en = true → s.dev.host.pcie.power = 0 → l ≤ 192 → (∀ n, (s.dev.ch n).txn = none) → s.dev.dataAt l = [(a, b)] → b ≠ [] →
      b.length ≤ s.dev.maxWrite →
      (∀ x ∈ ({ s.dev with host := { s.dev.host with busMaster := true, msixEn := msixEn } } : Dev).backlog, x.1 = l) →
      t.dev.dataAt l = [] ∧ .memWrite a b ∈ t.dev.out))

/-! ### Capture (chapter 12) -/

/-- R439 to R449: capture streams and link training, with their frames. -/
def Obligations.CaptureAndLink : Prop :=
  (∀ (ch : Fin 192) (s : State) (q : QDesc) (point : Nat), s.dev.running ch 0x18 = some q → point = byteAt q.d.param 0 % 4 →
    (point = 2 → 6780000 * 2 ^ 24 < s.dev.pointRate ch 2 → Does (.captureStart ch) s fun t => Answered q .badDescriptor t ∧ Says postRegs s t) ∧
    (point ≠ 2 ∨ s.dev.pointRate ch 2 ≤ 6780000 * 2 ^ 24 →
      ((s.dev.ch ch).cap.isSome ∨ s.dev.capFits ch point = false ∨ (s.dev.pav (pavOf ch)).state ≠ .active ∨
          (s.dev.pav (pavOf ch)).change.isSome ∨ s.dev.synActive = false →
        Idle (.captureStart ch) s) ∧
      ((s.dev.ch ch).cap = none → s.dev.capFits ch point = true → (s.dev.pav (pavOf ch)).state = .active →
        (s.dev.pav (pavOf ch)).change = none → s.dev.synActive = true → Does (.captureStart ch) s fun t =>
          (t.dev.ch ch).cap = some { desc := q, point := point, samples := leAt q.d.param 8 8, start := leAt q.d.param 16 8,
                                     susBor := (s.dev.ch ch).borrowed } ∧
          (∀ k, k ≠ ch.val → (t.dev.ch k).cap = (s.dev.ch k).cap) ∧ Works [] s t))) ∧
  (∀ (ch : Fin 192) (s : State) (c : Cap), (s.dev.ch ch).cap = some c →
    (c.running = true ∨ c.ended = true → Idle (.captureStreamStart ch) s) ∧
    (c.running = false → c.ended = false → c.start ≤ s.dev.now → Does (.captureStreamStart ch) s fun t =>
      (∃ k, (t.dev.ch ch).cap = some k ∧ k.running = true ∧ k.desc = c.desc ∧ k.idx = c.idx ∧ k.buf = c.buf ∧ k.written = c.written) ∧
      t.dev.regs = s.dev.regs ∧ (∀ n, (t.dev.ch n).txn = (s.dev.ch n).txn) ∧ Works [] s t) ∧
    (∀ (x : List (Int × Int)) (k : Nat) (words : Bool → List Byte),
      words = (fun up => x.flatMap fun (p : Int × Int) => (s.dev.capWord ch up ⟨satTo 18 p.1, satTo 18 p.2⟩).1) →
      c.running = true → c.ended = false → c.gapFrom = none → c.samples = 0 → x ≠ [] → c.fill + 4 * x.length ≤ 16384 →
      (s.dev.capLast ch x.length + 3) / 4 ≤ s.dev.tc →
      (k = 0 → Does (.captureWrite ch x k) s fun t =>
        (∃ up, (t.dev.ch ch).cap = some { c with
          buf := c.buf ++ [(c.idx, words up)], idx := c.idx + x.length, at_ := c.at_ + x.length * s.dev.pointStep ch c.point
          tLast := s.dev.timeOf (s.dev.capLast ch x.length) }) ∧
        t.dev.out = s.dev.out ∧ ChansStand [ch.val] s t ∧ Works [.CH_RX_SAT] s t) ∧
      (c.buf = [] → x.length ≤ k → 4 * x.length ≤ s.dev.maxWrite → 4 * c.idx % c.desc.d.bufLen + 4 * x.length ≤ c.desc.d.bufLen →
        s.dev.mayReq = true → s.dev.dataAt ch = [] → s.dev.entryMay ch = false → (∀ y ∈ s.dev.backlog, y.1 = ch.val) →
        Does (.captureWrite ch x k) s fun t =>
          (t.dev.ch ch).cap = some { c with
            idx := c.idx + x.length, at_ := c.at_ + x.length * s.dev.pointStep ch c.point
            tLast := s.dev.timeOf (s.dev.capLast ch x.length), written := c.written + 4 * x.length } ∧
          (∃ up, t.dev.out = s.dev.out ++ [.memWrite (c.desc.d.bufAddr + 4 * c.idx % c.desc.d.bufLen) (words up)]) ∧
          ChansStand [ch.val] s t ∧ Works (.CH_RX_SAT :: postRegs) s t)) ∧
    (c.running = true → c.ended = false → 16384 ≤ c.fill → Does (.elasticBufferFull ch) s fun t =>
      (t.dev.ch ch).cap = some { c with susBuf := true, gapFrom := if c.gapFrom.isNone then some c.idx else c.gapFrom } ∧
      ChansStand [ch.val] s t ∧ Works [] s t) ∧
    (Does (.elasticBufferResume ch) s fun t =>
      (t.dev.ch ch).cap = some (if c.fill ≤ 8192 then { c with susBuf := false } else c) ∧ ChansStand [ch.val] s t ∧ Works [] s t) ∧
    (c.gapFrom = none ∨ c.held = true ∨ s.dev.gapMay ch = false → Idle (.captureGap ch) s) ∧
    (∀ g, c.gapFrom = some g → c.held = false → s.dev.gapMay ch = true → c.idx - g ≤ 0xFFFFFFFF →
      s.dev.dataAt ch = [] → (∀ y ∈ s.dev.backlog, y.1 = ch.val) → Does (.captureGap ch) s fun t =>
      (t.dev.ch ch).cap = some { c with gapFrom := none } ∧
      t.dev.fld F.CH_CAP_GAPS_COUNT ch = sat (2 ^ F.CH_CAP_GAPS_COUNT.w - 1) (s.dev.fld F.CH_CAP_GAPS_COUNT ch + 1) ∧
      ChansStand [ch.val] s t ∧
      Works (postRegs ++ [.CH_CAP_GAPS, .HIF_RING_HEAD, .HIF_RING_STAT, .HIF_RING_DROPS]) (withRings s t) t) ∧
    (c.ended = false ∨ c.buf ≠ [] → Idle (.captureStreamEnd ch) s) ∧
    (c.ended = true → c.buf = [] → c.gapFrom = none → Does (.captureStreamEnd ch) s fun t =>
      (t.dev.ch ch).cap = none ∧ Answered c.desc .ok t ∧ Works postRegs s t)) ∧
  (∀ (ch : Fin 192) (s : State) (q : QDesc), s.dev.running ch 0x19 = some q → Does (.captureStop ch) s fun t => Answered q .ok t ∧
    (∀ c, (s.dev.ch ch).cap = some c → (t.dev.ch ch).cap = some { c with ended := true }) ∧
    ((s.dev.ch ch).cap = none → (t.dev.ch ch).cap = none) ∧ Works postRegs s t) ∧
  (∀ (speed width mps : Nat) (s : State) (num den : Nat), 1 ≤ speed → speed ≤ 4 → width ∈ [1, 2, 4] → mps ∈ [128, 256, 512] →
    num = (if speed ≤ 2 then width * (25 * speed) * 8 * 100 else width * (80 * (speed - 2)) * 128 * 100) * 90 *
      (if 512 ≤ mps then 92 else if 256 ≤ mps then 88 else 80) →
    den = (if speed ≤ 2 then 10 else 130) * 10000 →
    Does (.linkTraining speed width mps) s fun t =>
      t.dev.host.linkUp = true ∧ t.dev.host.mps = mps ∧ t.dev.fld F.HIF_LINK_SPEED = speed ∧ t.dev.fld F.HIF_LINK_WIDTH = width ∧
      t.dev.fld F.HIF_CAP_BUDGET_MBPS * den < num + den ∧ num < t.dev.fld F.HIF_CAP_BUDGET_MBPS * den + den ∧
      (∀ n, (t.dev.ch n).txn = (s.dev.ch n).txn ∧ (t.dev.ch n).outq = (s.dev.ch n).outq) ∧
      Works [.HIF_LINK, .HIF_CAP_BUDGET]
        { s with dev := { s.dev with host := { s.dev.host with linkUp := true, mps := mps } } } t) ∧
  (∀ (speed width mps : Nat) (s : State), linkOk speed width mps = false → Idle (.linkTraining speed width mps) s)


/-! ### The ledger (chapter 13) -/

/-- R454 to R456, R465, R475, R476: ledger descriptors, with their frames. -/
def Obligations.LedgerDescriptors : Prop :=
  (∀ (s : State) (q : QDesc), s.dev.running 0x3FF 0x30 = some q → s.dev.ledger.change.any (·.same q) = false →
    (q.d.bufAddr % 4096 ≠ 0 ∨ entriesOk (leAt q.d.param 0 4) = false ∨ q.d.bufLen ≠ 64 * leAt q.d.param 0 4 ∨ 3 < byteAt q.d.param 4 →
      Does .ledgerAttach s fun t => Answered q .badDescriptor t ∧ Says postRegs s t) ∧
    (q.d.bufAddr % 4096 = 0 → entriesOk (leAt q.d.param 0 4) = true → q.d.bufLen = 64 * leAt q.d.param 0 4 → byteAt q.d.param 4 ≤ 3 →
      (s.nv.key (0x10 + byteAt q.d.param 4) = none → Does .ledgerAttach s fun t => Answered q .notReady t ∧ Says postRegs s t) ∧
      ((s.nv.key (0x10 + byteAt q.d.param 4)).isSome → s.dev.ledger.lookups = [] → s.dev.ledger.waiting = [] → Does .ledgerAttach s fun t => Answered q .ok t ∧
        t.dev.ledger = { s.dev.ledger with att := true, base := q.d.bufAddr, entries := leAt q.d.param 0 4, key := byteAt q.d.param 4,
                                           cache := [], pend := [], expired := [] } ∧
        Says postRegs { s with dev := { s.dev with ledger := t.dev.ledger } } t) ∧
      ((s.nv.key (0x10 + byteAt q.d.param 4)).isSome → s.dev.ledger.lookups ≠ [] ∨ s.dev.ledger.waiting ≠ [] → Does .ledgerAttach s fun t =>
        t = { s with dev := { s.dev with ledger := { s.dev.ledger with change := some q } } }))) ∧
  (∀ (s : State) (q : QDesc), s.dev.running 0x3FF 0x31 = some q → s.dev.ledger.change.any (·.same q) = false →
    (s.dev.ledger.att = false → Does .ledgerDetach s fun t => Answered q .notReady t ∧ Says postRegs s t) ∧
    (s.dev.ledger.att = true → s.dev.ledger.lookups = [] → s.dev.ledger.waiting = [] → Does .ledgerDetach s fun t => Answered q .ok t ∧
      t.dev.ledger = { s.dev.ledger with att := false, base := 0, entries := 0, key := 0, cache := [] } ∧
      Says postRegs { s with dev := { s.dev with ledger := t.dev.ledger } } t) ∧
    (s.dev.ledger.att = true → s.dev.ledger.lookups ≠ [] ∨ s.dev.ledger.waiting ≠ [] → Does .ledgerDetach s fun t =>
      t = { s with dev := { s.dev with ledger := { s.dev.ledger with change := some q } } })) ∧
  (∀ (s : State) (q : QDesc) (first count : Nat), s.dev.running 0x3FF 0x32 = some q → first = leAt q.d.param 0 4 →
    count = leAt q.d.param 4 4 → s.dev.ledger.invals.any (fun (v : Inval) => v.desc.same q) = false →
    (s.dev.ledger.att = false → Does .ledgerInvalidate s fun t => Answered q .notReady t ∧ Says postRegs s t) ∧
    (s.dev.ledger.att = true → s.dev.ledger.entries < first + count → Does .ledgerInvalidate s fun t =>
      Answered q .badDescriptor t ∧ Says postRegs s t) ∧
    (s.dev.ledger.att = true → first + count ≤ s.dev.ledger.entries → Does .ledgerInvalidate s fun t =>
      (∀ x, x ∈ t.dev.ledger.cache ↔ x ∈ s.dev.ledger.cache ∧ (x.1 < first ∨ first + count ≤ x.1)) ∧
      t.dev.ledger.pend = s.dev.ledger.pend ∧
      ((∀ k ∈ s.dev.ledger.lookups, s.dev.ledger.hasRead first count k = false) → Answered q .ok t) ∧
      ((∃ k ∈ s.dev.ledger.lookups, s.dev.ledger.hasRead first count k = true) → ∃ v ∈ t.dev.ledger.invals, v.desc = q ∧
        v.seqs = (s.dev.ledger.lookups.filter (s.dev.ledger.hasRead first count)).map (·.seq)) ∧
      Says postRegs { s with dev := { s.dev with ledger := t.dev.ledger } } t)) ∧
  (∀ (ch : Fin 192) (s : State) (q : QDesc) (ix : Nat), s.dev.running ch 0x33 = some q → ix = leAt q.d.param 4 4 →
    (s.dev.ledger.att = false → Does (.ledgerConfirm ch) s fun t => Answered q .notReady t ∧ Says postRegs s t) ∧
    (s.dev.ledger.att = true → (∀ x ∈ s.dev.ledger.pend, x.ch ≠ ch.val ∨ x.entry ≠ ix) → Does (.ledgerConfirm ch) s fun t =>
      Answered q (if (ch.val, ix) ∈ s.dev.ledger.expired then .late else .badDescriptor) t ∧ Says postRegs s t) ∧
    (∀ x rest, s.dev.ledger.att = true → s.dev.ledger.pend = x :: rest → x.ch = ch.val → x.entry = ix →
      Does (.ledgerConfirm ch) s fun t => Answered q .ok t ∧ t.dev.ledger = { s.dev.ledger with pend := rest } ∧
        (byteAt q.d.param 0 = 1 ∧ s.dev.grantOk (arbOf ch) = true → (t.dev.arb (arbOf ch)).grant = true ∧
          t.dev.fld F.ARB_GRANT_CNT_COUNT (arbOf ch) =
            sat (2 ^ F.ARB_GRANT_CNT_COUNT.w - 1) (s.dev.fld F.ARB_GRANT_CNT_COUNT (arbOf ch) + 1)) ∧
        (byteAt q.d.param 0 ≠ 1 ∨ s.dev.grantOk (arbOf ch) = false → (t.dev.arb (arbOf ch)).grant = (s.dev.arb (arbOf ch)).grant) ∧
        (∀ a, a ≠ arbOf ch → (t.dev.arb a).grant = (s.dev.arb a).grant) ∧
        Works (postRegs ++ [.ARB_GRANT_CNT]) { s with dev := { s.dev with ledger := t.dev.ledger } } t))

/-- R458, R459, R462, R464, R467, R469 to R475: decisions, with their frames. -/
def Obligations.LedgerDecisions : Prop :=
  (∀ (data : List Byte) (s : State), s.dev.ledger.lookups = [] → Idle (.ledgerReadDone data) s ∧ Idle .ledgerReadTimeout s) ∧
  (∀ (data : List Byte) (s : State) (k : Lookup) (rest : List Lookup) (a : Nat), s.dev.ledger.lookups = k :: rest →
    a = arbOf k.ch → k.mode = 1 → s.dev.ledger.invals = [] → s.dev.ledger.change = none → (∀ j ∈ rest, j.seq ≠ k.seq) →
    k.span ≠ 0 → a < 24 → s.dev.ledger.waiting = [] →
    (∀ ix e, ix = k.home % max 1 s.dev.ledger.entries → e = data.take 64 → e.length = 64 → entEmpty e = false →
      entMatch e k.cred k.kind = true →
      (entGood (s.nv.ledgerKey s.dev.ledger.key) ix e = true → entHome e = 0xFFF → bitAt (byteAt e 36) 1 = false →
        (∀ h ∈ s.dev.ledger.holdOff, h.1 ≠ a ∨ h.2.1 ≠ k.pairKey) → s.dev.decision (some e) a k.time = 0 → s.dev.grantOk a = true →
        Does (.ledgerReadDone data) s fun t =>
          (t.dev.arb a).grant = true ∧
          t.dev.fld F.ARB_GRANT_CNT_COUNT a = sat (2 ^ F.ARB_GRANT_CNT_COUNT.w - 1) (s.dev.fld F.ARB_GRANT_CNT_COUNT a + 1) ∧
          Posted .grant k.ch t ∧ t.dev.ledger.lookups = rest ∧ (ix, e) ∈ t.dev.ledger.cache ∧
          (∀ b, b ≠ a → t.dev.arb b = s.dev.arb b) ∧ (∀ n, (t.dev.ch n).txn = (s.dev.ch n).txn) ∧
          Works (postRegs ++ [.ARB_GRANT_CNT]) { s with dev := { s.dev with ledger := t.dev.ledger } } t) ∧
      (entGood (s.nv.ledgerKey s.dev.ledger.key) ix e = false → (∀ h ∈ s.dev.ledger.holdOff, h.1 ≠ a ∨ h.2.1 ≠ k.pairKey) →
        Does (.ledgerReadDone data) s fun t =>
          t.dev.fld F.SYS_LEDGER_ERR_SEAL_FAIL =
            sat (2 ^ F.SYS_LEDGER_ERR_SEAL_FAIL.w - 1) (s.dev.fld F.SYS_LEDGER_ERR_SEAL_FAIL + 1) ∧
          Posted .grant k.ch t ∧ t.dev.ledger.lookups = rest ∧ t.dev.arbs = s.dev.arbs ∧
          Says (postRegs ++ [.SYS_LEDGER_ERR]) { s with dev := { s.dev with ledger := t.dev.ledger } } t)) ∧
    (entEmpty (data.take 64) = true → (∀ h ∈ s.dev.ledger.holdOff, h.1 ≠ a ∨ h.2.1 ≠ k.pairKey) →
      Does (.ledgerReadDone data) s fun t => Posted .grant k.ch t ∧ t.dev.ledger.lookups = rest ∧ t.dev.arbs = s.dev.arbs ∧
        t.dev.ledger.cache = s.dev.ledger.cache ∧ Says postRegs { s with dev := { s.dev with ledger := t.dev.ledger } } t) ∧
    ((∀ h ∈ s.dev.ledger.holdOff, h.1 ≠ a ∨ h.2.1 ≠ k.pairKey) → Does .ledgerReadTimeout s fun t =>
      t.dev.fld F.SYS_LEDGER_ERR_READ_ERR = sat (2 ^ F.SYS_LEDGER_ERR_READ_ERR.w - 1) (s.dev.fld F.SYS_LEDGER_ERR_READ_ERR + 1) ∧
      Posted .grant k.ch t ∧ t.dev.ledger.lookups = rest ∧ t.dev.arbs = s.dev.arbs ∧
      Says (postRegs ++ [.SYS_LEDGER_ERR]) { s with dev := { s.dev with ledger := t.dev.ledger } } t) ∧
    ((∃ h ∈ s.dev.ledger.holdOff, h.1 = a ∧ h.2.1 = k.pairKey ∧
        k.time < h.2.2 + s.dev.fld F.SYS_LEDGER_CTL_HOLDOFF * 10 ^ 6) → entEmpty (data.take 64) = true →
      Does (.ledgerReadDone data) s fun t => t = { s with dev := { s.dev with ledger := { s.dev.ledger with lookups := rest } } })) ∧
  (∀ (arb : Fin 24) (s : State), ((s.dev.arb arb).grant = false → Idle (.grantPulseEnd arb) s) ∧
    ((s.dev.arb arb).grant = true → (s.dev.arb arb).grantEnd ≤ s.dev.tc → Does (.grantPulseEnd arb) s fun t =>
    t.dev.arb arb = { s.dev.arb arb with grant := false, grantEnd := 0 } ∧ (∀ b, b ≠ arb.val → t.dev.arb b = s.dev.arb b) ∧
    t.dev.chans = s.dev.chans ∧ Works [] s t)) ∧
  (∀ (s : State), (∀ o rest, s.dev.ledger.pend = o :: rest → o.due ≤ s.dev.tc → s.dev.ledger.expired.length < 64 → Does .confirmExpiry s fun t =>
      t = { s with dev := { s.dev with ledger := { s.dev.ledger with
        pend := rest, expired := s.dev.ledger.expired ++ [(o.ch, o.entry)] } } }) ∧
    (s.dev.ledger.pend = [] → Idle .confirmExpiry s)) ∧
  (∀ (arb : Fin 24) (s : State), Does (.grantReadbackFault arb) s fun t =>
    (t.dev.arb arb).grant = false ∧ t.dev.on F.ARB_GRANT_FAULT arb = true ∧ Posted .fault (0x100 + arb) t ∧
    bitAt (t.dev.rd .HIF_MISC_STAT) 1 = true ∧ (∀ b, b ≠ arb.val → t.dev.arb b = s.dev.arb b) ∧ t.dev.pwr = s.dev.pwr ∧
    Works (faultRegs ++ [.ARB_GRANT]) s t)

/-! ### Gatehouse (chapter 14) -/

/-- R486, R495, R500, R510 to R512: keys and seals, with their frames. -/
def Obligations.KeysAndSeals : Prop :=
  (∀ (s : State) (q : QDesc) (op slot : Nat), s.dev.running 0x3FF 0x39 = some q → op = byteAt q.d.param 0 → slot = byteAt q.d.param 1 →
    (keySlotOk op slot = false ∨ keyStateOk op s.nv.life = false → Does .keyManage s fun t => Answered q .badDescriptor t ∧ Says postRegs s t) ∧
    (keyStateOk op s.nv.life = true →
      (op = 0 → slot ≤ 7 → q.input.length = 32 → Does .keyManage s fun t => Answered q .ok t ∧
        tblFind t.nv.keys slot = some q.input ∧ (∀ k, k ≠ slot → tblFind t.nv.keys k = tblFind s.nv.keys k) ∧
        t.dev.markHw t.nv slot = s.dev.markHw s.nv slot ∧ tblGet t.nv.marks slot 0 = min (s.dev.markHw s.nv slot + 1024) (2 ^ 64 - 1) ∧
        (∀ k, k ≠ slot → tblGet t.nv.marks k 0 = tblGet s.nv.marks k 0) ∧
        t.nv = { s.nv with keys := t.nv.keys, marks := t.nv.marks } ∧
        Says postRegs { s with nv := t.nv, dev := { s.dev with sec := t.dev.sec } } t) ∧
      (op = 2 → keySlotOk 2 slot = true → Does .keyManage s fun t => Answered q .ok t ∧ tblFind t.nv.keys slot = none ∧
        (∀ k, k ≠ slot → tblFind t.nv.keys k = tblFind s.nv.keys k) ∧ t.nv = { s.nv with keys := t.nv.keys } ∧
        Says postRegs { s with nv := t.nv } t) ∧
      (op = 3 → slot = 0x20 ∨ slot = 0x21 → q.input.length = 32 → Does .keyManage s fun t =>
        ((tblFind s.nv.roots slot).isSome → Answered q .badDescriptor t ∧ t.nv = s.nv) ∧
        (tblFind s.nv.roots slot = none → Answered q .ok t ∧ tblFind t.nv.roots slot = some q.input ∧
          t.nv = { s.nv with roots := t.nv.roots }) ∧ Says postRegs { s with nv := t.nv } t) ∧
      (op = 5 → q.input.length = 4 → Does .keyManage s fun t =>
        (s.nv.minVer ≤ leNat q.input → leNat q.input ≤ s.dev.rd .SEC_BOOT_VER → Answered q .ok t ∧
          t.nv = { s.nv with minVer := leNat q.input }) ∧
        (leNat q.input < s.nv.minVer ∨ s.dev.rd .SEC_BOOT_VER < leNat q.input → Answered q .badDescriptor t ∧ t.nv = s.nv) ∧
        Says postRegs { s with nv := t.nv } t))) ∧
  (∀ (s : State) (q : QDesc), s.dev.running 0x3FF 0x3B = some q → Does .regLock s fun t =>
    (s.nv.life = 0 → Answered q .limitRefused t ∧ t.nv = s.nv) ∧
    (s.nv.life ≠ 0 → Answered q .ok t ∧ t.nv.regLock = true ∧
      t.nv = { s.nv with regLock := true, reg := if s.nv.regLock then s.nv.reg else some s.dev.regRecord }) ∧
    Says postRegs { s with nv := t.nv } t) ∧
  (∀ (s : State) (q : QDesc), s.dev.running 0x3FF 0x3C = some q → s.dev.pwr.boot ≠ .held →
    ((∀ r i j, regAt (leAt q.d.param 0 4) = some (r, i, j) → r ∉ sealedRegs) → Does .sealedWrite s fun t =>
      Answered q .badDescriptor t ∧ Says postRegs s t) ∧
    (∀ (ch : Fin 192) (v : Nat), regAt (leAt q.d.param 0 4) = some (.CH_PWR_LIM, ch.val, 0) → leAt q.d.param 8 4 = 0xFFFFFFFF →
      v = bits (leAt q.d.param 4 4) 0 10 → 1 ≤ v → v ≤ 1000 →
      ((s.nv.life = 1 ∨ s.nv.life = 2) ∧ s.nv.regLock = false → Does .sealedWrite s fun t =>
        Answered q .ok t ∧ t.dev.fld F.CH_PWR_LIM_MW ch = v ∧ Works (admRegs ++ [.CH_PWR_LIM, .CH_FIELD_STAT]) s t) ∧
      ((s.nv.life ≠ 1 ∧ s.nv.life ≠ 2 ∨ s.nv.regLock = true) → v ≠ s.dev.fld F.CH_PWR_LIM_MW ch → Does .sealedWrite s fun t =>
        Answered q .limitRefused t ∧ Says postRegs s t)))

/-- R502 to R506, R508, R513, R515: the life cycle and attestation, with their frames. -/
def Obligations.LifeCycleAndAttestation : Prop :=
  (∀ (eraseOk : Bool) (s : State) (q : QDesc), s.dev.running 0x3FF 0x3A = some q →
    (s.dev.sec.lcDue = true → Idle (.lifecycle eraseOk) s) ∧
    (s.dev.sec.lcDue = false →
      (q.input.length ≠ 3144 → q.input.length ≠ 6288 → Does (.lifecycle eraseOk) s fun t => Answered q .badDescriptor t ∧ Says postRegs s t) ∧
      (∀ x, q.input.length = 3144 → x = Token.parse q.input → x.kind ≠ 3 →
        (transTokens s.nv.life x.arg = none → Does (.lifecycle eraseOk) s fun t => Answered q .badDescriptor t ∧ Says postRegs s t) ∧
        (∀ c, transTokens s.nv.life x.arg = some [c] →
          (∀ st, s.nv.tokenCheck x [1] c = some st → Does (.lifecycle eraseOk) s fun t => Answered q st t ∧
            Says (postRegs ++ [.SEC_STAT]) s t) ∧
          (s.nv.tokenCheck x [1] c = none → s.nv.spendToken.transOk x.arg = true → Does (.lifecycle eraseOk) s fun t =>
            t.dev.sec = { s.dev.sec with lcDue := true, lcAt := s.dev.tc } ∧ t.dev.ledger.att = false ∧ t.dev.ledger.cache = [] ∧
            t.nv.tokenCtr = s.nv.tokenCtr + 1 ∧ t.nv.marks = s.nv.marks ∧ t.nv.serial = s.nv.serial ∧ t.nv.minVer = s.nv.minVer ∧
            t.nv.regLock = s.nv.regLock ∧ t.nv.roots = s.nv.roots ∧ t.nv.calRec = s.nv.calRec ∧
            (eraseOk = true → Answered q .ok t ∧ t.nv.life = x.arg ∧ t.nv.keys = [] ∧ t.nv.images = [] ∧ t.nv.trans = none) ∧
            (eraseOk = false → Answered q .faultAbort t ∧ t.nv = { s.nv with tokenCtr := s.nv.tokenCtr + 1, trans := some x.arg }) ∧
            (t.dev.on F.SEC_STAT_DEBUG_SEEN = true ↔ s.dev.on F.SEC_STAT_DEBUG_SEEN = true ∨
              (s.dev.debugLevel s.nv ≤ 1 ∧ 1 < t.dev.debugLevel t.nv)) ∧
            Says (postRegs ++ [.SEC_STAT]) { s with nv := t.nv, dev := { s.dev with sec := t.dev.sec, ledger := t.dev.ledger } } t))) ∧
      (∀ x, q.input.length = 3144 → x = Token.parse q.input → x.kind = 3 → debugSigners s.nv.life ≠ [] →
        s.nv.tokenCheck x [3] (debugSigners s.nv.life) = none → x.arg ≤ 3 → leAt x.payload 0 2 ≠ 0 →
        Does (.lifecycle eraseOk) s fun t => Answered q .ok t ∧ t.nv = { s.nv with tokenCtr := s.nv.tokenCtr + 1 } ∧
          t.dev.sec.token = some (x.arg, leAt x.payload 0 2) ∧ t.dev.debugLevel t.nv = max x.arg (stateLevel s.nv.life) ∧
          Says (postRegs ++ [.SEC_STAT]) { s with nv := t.nv, dev := { s.dev with sec := t.dev.sec } } t))) ∧
  (∀ (s : State), (s.dev.sec.lcDue = false → Idle .lifecycleReset s) ∧
    (s.dev.sec.lcDue = true → s.dev.sec.lcAt + tcMs ≤ s.dev.tc → Does .lifecycleReset s fun t => t.dev.pwr.boot = .held ∧ 8 ∈ t.dev.pwr.held ∧
      bitAt (t.dev.rd .LDG_RST_CAUSE) 8 = true ∧ t.dev.chans = [] ∧ t.nv = s.nv ∧ t.pending = s.pending)) ∧
  (∀ (s : State) (q : QDesc), s.dev.running 0x3FF 0x38 = some q → Does .attest s fun t =>
    (s.nv.life = 0 → Answered q .notReady t) ∧
    (s.nv.life ≠ 0 → q.d.bufLen < 4936 → Answered q .bufferShort t ∧ t.dev.out = s.dev.out) ∧
    (s.nv.life ≠ 0 → 4936 ≤ q.d.bufLen → Answered q .ok t ∧ (∃ r : List Byte, DataOut q.d.bufAddr r s t ∧ r.length = 4936 ∧
        r.take 7 = toLe 4 0x54415A41 ++ toLe 2 1 ++ toLe 1 s.nv.life)) ∧ Says postRegs s t)

/-- R515, R517, R518, R660: debug access, with its frames. -/
def Obligations.DebugAccess : Prop :=
  (∀ (s : State), (∀ l secs, s.dev.sec.token = some (l, secs) → s.dev.sec.tokenAt + secs * 1000 * tcMs ≤ s.dev.tc) →
    Does .debugTokenExpiry s fun t => t = { s with dev := { s.dev with sec := { s.dev.sec with token := none } } } ∧
    t.dev.debugLevel t.nv = stateLevel s.nv.life) ∧
  (∀ (unit : Fin 7) (s : State),
    (s.dev.debugLevel s.nv < 2 → Idle (.debugHalt unit) s) ∧
    (2 ≤ s.dev.debugLevel s.nv →
      (unit = 6 → Does (.debugHalt unit) s fun t => t = { s with dev := { s.dev with pwr := { s.dev.pwr with frozen := true } } }) ∧
      (unit ≠ 6 → Does (.debugHalt unit) s fun t =>
        t.dev.pav unit = { s.dev.pav unit with haltAsk := true } ∧ t.dev.halted unit = s.dev.pavIdle unit ∧
        (∀ p, p ≠ unit.val → t.dev.pav p = s.dev.pav p) ∧ t.dev.chans = s.dev.chans ∧ Works [] s t)) ∧
    (unit = 6 → Does (.debugHaltRelease unit) s fun t =>
      t = { s with dev := { s.dev with pwr := { s.dev.pwr with frozen := false } } }) ∧
    (unit ≠ 6 → Does (.debugHaltRelease unit) s fun t =>
      (t.dev.pav unit).haltAsk = false ∧ t.dev.halted unit = false ∧ Works admRegs s t)) ∧
  (∀ (s : State), (s.dev.debugLevel s.nv = 0 → Idle (.extest true) s) ∧
    (s.dev.debugLevel s.nv ≠ 0 → Does (.extest true) s fun t => t.dev.pwr.extest = true ∧
      (∀ n x, (s.dev.ch n).txn = some x → x.phase = .up →
        (∃ y, (t.dev.ch n).txn = some y ∧ y.phase = .rampDown) ∧
        ((∀ k ∈ x.driven, k.ch = n) → (∀ k, (s.dev.ch k).fieldOf = some n → k = n) → Falls s.dev .hard .faultAbort [] n x t)) ∧
      Works workRegs { s with dev := { s.dev with pwr := { s.dev.pwr with extest := true } } } t) ∧
    (Does (.extest false) s fun t => t.dev.pwr.extest = false ∧
      Works admRegs { s with dev := { s.dev with pwr := { s.dev.pwr with extest := false } } } t))

/-! ### Calibration (chapter 15) -/

/-- R523 to R525, R532, R336 to R338, R539, R722: requests and borrows, with their frames. -/
def Obligations.CalibrationRequests : Prop :=
  (∀ (target : Nat) (s : State) (q : QDesc) (kind : Nat), s.dev.running target 0x29 = some q → kind = byteAt q.d.param 0 →
    (s.dev.cal.runs.any (fun (r : CalRun) => r.desc.any q.same) = true → Idle (.cal target) s) ∧
    (s.dev.cal.runs.any (fun (r : CalRun) => r.desc.any q.same) = false →
      (3 ≤ kind ∨ 4 < byteAt q.d.param 2 % 8 ∨ ((kind = 0 ∨ kind = 2) ∧ 192 ≤ q.d.target) ∨
        (kind = 1 ∧ ¬ (0x100 ≤ q.d.target ∧ q.d.target < 0x118)) ∨
        (kind = 2 ∧ ¬ (-6000 ≤ toInt 32 (leAt q.d.param 4 4) ∧ toInt 32 (leAt q.d.param 4 4) ≤ 3000)) →
        Does (.cal target) s fun t => Answered q .badDescriptor t ∧ Says postRegs s t) ∧
      (byteAt q.d.param 2 % 8 ≤ 4 → q.d.target < 192 → kind = 0 ∨ (kind = 2 ∧ -6000 ≤ toInt 32 (leAt q.d.param 4 4) ∧
        toInt 32 (leAt q.d.param 4 4) ≤ 3000) →
        (s.dev.enLock q.d.target = false → Does (.cal target) s fun t => Answered q .limitRefused t ∧ Says postRegs s t) ∧
        (s.dev.enLock q.d.target = true → Does (.cal target) s fun t => t = { s with dev := { s.dev with cal := { s.dev.cal with
          runs := s.dev.cal.runs ++ [{ kind := 6 + kind, unit := q.d.target, chans := [q.d.target], desc := some q }] } } })) ∧
      (byteAt q.d.param 2 % 8 ≤ 4 → kind = 1 → ∀ a : Fin 24, q.d.target = 0x100 + a → Does (.cal target) s fun t =>
        t = { s with dev := { s.dev with cal := { s.dev.cal with
          runs := s.dev.cal.runs ++ [{ kind := 7, unit := a, chans := arbChans a, desc := some q }] } } }))) ∧
  (∀ (target : Nat) (s : State),
    (s.dev.calAt target = none → Idle (.calBorrowStart target) s) ∧
    ∀ r, s.dev.calAt target = some r →
      (r.started = true ∨ (∃ n ∈ r.chans, s.dev.mayBorrow n = false) ∨ (r.kind = 8 ∧ s.dev.on F.CAL_STAT_REF_BUSY = true) ∨
          ((r.kind = 0 ∨ r.kind = 7) ∧ s.dev.devFree = 0) → Idle (.calBorrowStart target) s) ∧
      (r.started = false → r.chans.Nodup → (∀ n ∈ r.chans, s.dev.mayBorrow n = true) →
        ¬ (r.kind = 8 ∧ s.dev.on F.CAL_STAT_REF_BUSY = true) → ¬ ((r.kind = 0 ∨ r.kind = 7) ∧ s.dev.devFree = 0) → Does (.calBorrowStart target) s fun t =>
        (∀ n ∈ r.chans, t.dev.ch n = { s.dev.ch n with
          borrowed := true, home := (s.dev.ch n).role, role := .cal, aside := (s.dev.ch n).txn, txn := none,
          cap := (s.dev.ch n).cap.map fun (k : Cap) => { k.gap with susBor := true } }) ∧
        { r with started := true, begun := s.dev.tc } ∈ t.dev.cal.runs ∧ (r.kind = 8 → t.dev.on F.CAL_STAT_REF_BUSY = true) ∧
        ChansStand r.chans s t ∧ Works [.CAL_STAT] s t)) ∧
  (∀ (pav : Fin 6) (s : State),
    (s.dev.on F.CAL_CTL_STARTUP_EN = false ∨ (s.dev.pav pav).state ≠ .active ∨ s.dev.pwr.boot ≠ .running ∨
      s.dev.synActive = false ∨ s.dev.fld F.PAV_VDRV_NOM pav = 0 ∨ bitAt (s.dev.fld F.CAL_STAT_STARTUP_DONE) pav = true ∨
      bitAt (s.dev.fld F.CAL_STAT_STARTUP_RUN) pav = true → Idle (.startupCalStart pav) s) ∧
    (s.dev.on F.CAL_CTL_STARTUP_EN = true → (s.dev.pav pav).state = .active → s.dev.pwr.boot = .running →
      s.dev.synActive = true → s.dev.fld F.PAV_VDRV_NOM pav ≠ 0 → bitAt (s.dev.fld F.CAL_STAT_STARTUP_DONE) pav = false →
      bitAt (s.dev.fld F.CAL_STAT_STARTUP_RUN) pav = false → Does (.startupCalStart pav) s fun t =>
        bitAt (t.dev.fld F.CAL_STAT_STARTUP_RUN) pav = true ∧
        (∃ r ∈ t.dev.cal.runs, r.kind = 0 ∧ r.unit = pav.val ∧ r.chans = (pavChans pav).filter s.dev.enLock ∧
          r.started = (r.chans.all s.dev.mayBorrow && s.dev.devFree != 0)) ∧
        (∀ n ∈ (pavChans pav).filter s.dev.enLock, ((pavChans pav).filter s.dev.enLock).all s.dev.mayBorrow = true → s.dev.devFree ≠ 0 →
          (t.dev.ch n).borrowed = true ∧ (t.dev.ch n).role = .cal ∧ (t.dev.ch n).home = (s.dev.ch n).role) ∧
        Works [.CAL_STAT] s t)) ∧
  (∀ (s : State) (q : QDesc), s.dev.running 0x3FF 0x28 = some q →
    (s.dev.syn.waiters.any q.same = true → Idle .syncal s) ∧
    (s.dev.syn.waiters.any q.same = false →
      (s.dev.syn.cal.isSome → Does .syncal s fun t =>
        t = { s with dev := { s.dev with syn := { s.dev.syn with waiters := s.dev.syn.waiters ++ [q] } } }) ∧
      (s.dev.syn.cal = none → s.dev.syn.takeover = false → ∀ b, s.dev.syn.standby = some b → Does .syncal s fun t =>
        t.dev.syn.unit b = .calibrating ∧ t.dev.syn.cal = some (.standbyCal, b) ∧ t.dev.syn.waiters = s.dev.syn.waiters ++ [q] ∧
        Says [.SYN_CAL_TEMP] { s with dev := { s.dev with syn := t.dev.syn } } t) ∧
      (s.dev.syn.cal = none → s.dev.syn.standby = none ∨ s.dev.syn.takeover = true → Does .syncal s fun t => Answered q .faultAbort t ∧ Says postRegs s t)))

/-- R526 to R529, R540 to R542, R551, R554, R558: ends of procedures, with what they leave. -/
def Obligations.CalibrationResults : Prop :=
  (∀ (target : Nat) (f : CalFacts) (s : State),
    (s.dev.calAt target = none → Idle (.calProcedureEnd target f) s) ∧
    ∀ r, s.dev.calAt target = some r →
      (r.started = false ∨ r.chans.any s.dev.inProgress = true ∨ (∃ n ∈ r.chans, s.dev.calRaised r n = false) → Idle (.calProcedureEnd target f) s) ∧
      (r.started = true → r.chans.any s.dev.inProgress = false → (∀ n ∈ r.chans, s.dev.calRaised r n = true) →
        (∀ (n : Fin 192) (x : ChCal) (q : QDesc) (ser : Int) (shunt : Nat), (ser, shunt) = s.dev.tunerPick n x.rls → r.kind = 6 → r.unit = n.val → r.chans = [n.val] → r.desc = some q →
          f.chans = [x] → x.ch = n.val → s.dev.enLock n = true → r.begun + usTc 2500 ≤ s.dev.tc → Does (.calProcedureEnd target f) s fun t =>
          t.dev.fld F.CH_TUNE_SER n = ofInt 7 ser ∧ t.dev.fld F.CH_TUNE_CAL_SER n = ofInt 7 ser ∧
          t.dev.fld F.CH_TUNE_SHUNT n = shunt ∧ t.dev.fld F.CH_TUNE_CAL_SHUNT n = shunt ∧
          t.dev.fld F.CH_MOD_SHAPE_PREEMP n = x.preemp % 8 ∧
          (∀ e, e = toInt 16 (ofInt 16 ((x.phase6 : Int) - (64 * s.dev.fld F.CH_PHASE_OFS_USER n : Nat))) →
            (65536 * t.dev.fldI F.CH_CUP_ERR_PHASE n - 3600 * e).natAbs < 65536) ∧
          (∀ e r k, e = (x.evm.map fun y => Cx.norm ⟨y.1.1 - y.2.1, y.1.2 - y.2.2⟩).sum → r = (x.evm.map fun y => Cx.norm ⟨y.2.1, y.2.2⟩).sum →
            0 < r → k ≤ 4095 → k ^ 2 * r = 10 ^ 6 * e → t.dev.fld F.CH_CUP_EYE_EVM n = k) ∧ t.dev.fld F.CH_CUP_EYE_EYE n = s.dev.fld F.CH_CUP_EYE_EYE n ∧
          t.dev.fld F.CH_CAL_LAST_PROC n = 6 ∧ t.dev.fld F.CH_CAL_LAST_TEMP n = s.dev.fld F.PWR_TEMP_DIE ∧
          (∀ num den, num = x.full * 81 * s.dev.fld F.PAV_VDRV_NOM (pavOf n) ^ 2 → den = 100 * s.dev.fld F.PAV_VDRV_MEAS (pavOf n) ^ 2 →
            0 < den → num ≤ 4095 * den → t.dev.fld F.CH_FIELD_MAX_PWR n * den < num + den ∧
              num < t.dev.fld F.CH_FIELD_MAX_PWR n * den + den) ∧
          (∀ k : Nat, k < 1024 →
            ((64 * s.dev.fld F.CH_PHASE_OFS_CAL n + 64 * s.dev.fld F.CH_PHASE_OFS_USER n : Nat) - (x.phase : Int)) % 65536 = 64 * k → t.dev.fld F.CH_PHASE_OFS_CAL n = k) ∧
          Answered q .ok t ∧ Posted .calDone n t ∧ r ∉ t.dev.cal.runs ∧
          (bitAt (byteAt q.d.param 1) 0 = false → t.nv = s.nv) ∧
          (bitAt (byteAt q.d.param 1) 0 = true →
            (t.dev.cupWithin n = false → t.nv = s.nv ∧ t.dev.on F.CAL_STAT_STORE_SKIPPED = true) ∧
            (t.dev.cupWithin n = true → ∀ ix, ix = byteAt q.d.param 2 % 8 → s.nv.nextGen (recKey 1 n ix) < 2 ^ 32 - 1 →
              t.nv = { s.nv with calRec := t.nv.calRec } ∧ (t.nv.record (recKey 1 n ix)).isSome ∧
              (∀ j l, j < 5 → j ≠ ix → s.nv.record (recKey 1 n j) = some l →
                (toInt 10 (leAt l 12 2) - s.dev.fldI F.PWR_TEMP_DIE).natAbs ≤ 12 → t.nv.record (recKey 1 n j) = none))) ∧
          t.pending = s.pending ∧ t.dev.time = s.dev.time) ∧
        (∀ q, r.kind = 8 → r.desc = some q → s.dev.calOf r.unit = some r → s.dev.refBad r.unit (toInt 32 (leAt q.d.param 4 4)) f.ref = true →
          r.begun + usTc 1500 ≤ s.dev.tc → Does (.calProcedureEnd target f) s fun t => Answered q .faultAbort t ∧ t.dev.on F.CAL_STAT_REF_BAD = true ∧
            Works admRegs (withOrder s t.dev.host.order) t))) ∧
  (∀ (n : Nat) (stated : Int) (f : RefCal) (d : Dev),
    d.refBad n stated f = true ↔ ∀ x, f.rel = some x → 3000 < (10 * d.adcFull n + x - stated).natAbs)

/-- R543 to R550, R555: upkeep of the calibration, with its frames. -/
def Obligations.CalibrationUpkeep : Prop :=
  (∀ s : State, Does .calTempUpdate s fun t =>
    t.dev.fld F.CAL_TEMP_DIE = s.dev.fld F.PWR_TEMP_DIE ∧
    (∀ n : Fin 192,
      (s.nv.sets n = [] → ∀ r ∈ [RegName.CH_FIELD_MAX, .CH_PHASE_OFS, .CH_MOD_SHAPE, .CH_TUNE, .CH_TUNE_CAL, .CH_CAL_DRIP],
        t.dev.rd r n = s.dev.rd r n) ∧
      (s.dev.coilOn n = true → ∀ r ∈ [RegName.CH_PHASE_OFS, .CH_MOD_SHAPE, .CH_TUNE, .CH_TUNE_CAL], t.dev.rd r n = s.dev.rd r n) ∧
      (∀ (i j : Nat) (a b T : Int) (u v : List Int), s.nv.sets n = [(i, a, u), (j, b, v)] → T = s.dev.fldI F.PWR_TEMP_DIE →
        a ≤ T → T < b → tblGet s.dev.cal.resid n [] = [] →
        2 * ((t.dev.fld F.CH_FIELD_MAX_PWR n : Int) * (b - a) - (u.getD 2 0 * (b - T) + v.getD 2 0 * (T - a))).natAbs ≤ (b - a).natAbs)) ∧
    Says [.CAL_TEMP, .CH_FIELD_MAX, .CH_PHASE_OFS, .CH_MOD_SHAPE, .CH_TUNE, .CH_TUNE_CAL, .CH_CAL_DRIP]
      { s with dev := { s.dev with cal := t.dev.cal } } t) ∧
  (∀ (ch : Fin 192) (s : State) (ph gn : Int), ph = s.dev.fldI F.CH_CAL_DRIP_PHASE_LEFT ch → gn = s.dev.fldI F.CH_CAL_DRIP_GAIN_LEFT ch →
    (s.dev.coilOn ch = false ∨ s.dev.dripHeld ch = true → Idle (.dripStep ch) s) ∧
    (s.dev.coilOn ch = true → s.dev.dripHeld ch = false → Does (.dripStep ch) s fun t =>
      (ph = 0 ∨ (∃ x, tblFind s.dev.cal.dripPh ch = some x ∧ s.dev.tc < x + 2387) →
        t.dev.rd .CH_PHASE_OFS ch = s.dev.rd .CH_PHASE_OFS ch ∧ t.dev.fldI F.CH_CAL_DRIP_PHASE_LEFT ch = ph) ∧
      (ph ≠ 0 → (∀ x, tblFind s.dev.cal.dripPh ch = some x → x + 2387 ≤ s.dev.tc) →
        (t.dev.fld F.CH_PHASE_OFS_CAL ch : Int) = ((s.dev.fld F.CH_PHASE_OFS_CAL ch : Int) + ph.sign) % 1024 ∧
        t.dev.fldI F.CH_CAL_DRIP_PHASE_LEFT ch = ph - ph.sign) ∧
      (gn = 0 ∨ (∃ x, tblFind s.dev.cal.dripGn ch = some x ∧ s.dev.tc < x + 1356) → t.dev.fldI F.CH_CAL_DRIP_GAIN_LEFT ch = gn) ∧
      (gn ≠ 0 → (∀ x, tblFind s.dev.cal.dripGn ch = some x → x + 1356 ≤ s.dev.tc) →
        t.dev.fldI F.CH_CAL_DRIP_GAIN_LEFT ch = gn - gn.sign * min (5 : Nat) gn.natAbs) ∧
      t.dev.fld F.CH_PHASE_OFS_USER ch = s.dev.fld F.CH_PHASE_OFS_USER ch ∧ t.dev.chans = s.dev.chans ∧
      Says [.CH_PHASE_OFS, .CH_CAL_DRIP] { s with dev := { s.dev with cal := t.dev.cal } } t)) ∧
  (∀ (imp : Bool) (s : State) (f : FlashOp), f = {
      op := if imp then 8 else 7, cs := s.dev.fld F.CAL_MIRROR_CTL_CS,
      addr := 4096 * s.dev.fld F.CAL_MIRROR_ADDR_ADDR, len := if imp then 0 else s.nv.mirrorBytes.length,
      data := if imp then [] else s.nv.mirrorBytes } →
    Does (if imp then .mirrorImport else .mirrorExport) s fun t =>
      (s.dev.on F.CAL_MIRROR_CTL_BUSY = true → t.dev.flash = s.dev.flash ∧ t.dev.out = s.dev.out) ∧
      (s.dev.on F.CAL_MIRROR_CTL_BUSY = false → s.dev.flsProtected f = true → t.dev.flash = s.dev.flash ∧ t.dev.out = s.dev.out ∧
        t.dev.on F.CAL_MIRROR_CTL_ERR = true ∧ t.dev.fld F.FLS_STAT_CAUSE = 1) ∧
      (s.dev.on F.CAL_MIRROR_CTL_BUSY = false → s.dev.flsProtected f = false → t.dev.on F.CAL_MIRROR_CTL_BUSY = true ∧
        (s.dev.flash.run = none → t.dev.flash.run = some { f with at_ := s.dev.tc } ∧ t.dev.flash.wait = s.dev.flash.wait) ∧
        (∀ g, s.dev.flash.run = some g → s.dev.flsSuspends g f = false →
          t.dev.flash = { s.dev.flash with wait := s.dev.flash.wait ++ [f] }) ∧
        (∀ g, s.dev.flash.run = some g → s.dev.flsSuspends g f = true → .flash g.cs 0x75 [] 0 (1, 1) [] ∈ t.dev.out ∧
          t.dev.flash.susp = some g ∧ t.dev.flash.run = some { f with at_ := s.dev.tc } ∧ t.dev.flash.wait = s.dev.flash.wait)) ∧
      t.dev.fld F.CAL_MIRROR_CTL_CS = s.dev.fld F.CAL_MIRROR_CTL_CS ∧
      Says [.CAL_MIRROR_CTL, .FLS_STAT] { s with dev := { s.dev with flash := t.dev.flash } } t) ∧
  (∀ (ok : Bool) (status : Fin 256) (image : List Byte) (s : State),
    (s.dev.flash.run = none → Idle (.mirrorDone ok status image) s) ∧
    ∀ f, s.dev.flash.run = some f → (f.op < 7 → Idle (.mirrorDone ok status image) s) ∧
      (7 ≤ f.op → Does (.mirrorDone ok status image) s fun t =>
        t.dev.on F.CAL_MIRROR_CTL_BUSY = false ∧
        (s.dev.flash.wait = [] → s.dev.flash.susp = none → t.dev.flash = { s.dev.flash with run := none }) ∧
        (s.dev.flash.wait = [] → ∀ g, s.dev.flash.susp = some g → t.dev.flash = { s.dev.flash with run := some g, susp := none } ∧
          .flash g.cs 0x7A [] 0 (1, 1) [] ∈ t.dev.out) ∧
        (ok = false ∨ (f.op = 8 ∧ s.nv.mirrorOk image = false) → t.dev.on F.CAL_MIRROR_CTL_ERR = true) ∧
        (f.op ≠ 8 ∨ ok = false ∨ s.nv.mirrorOk image = false → t.nv = s.nv) ∧ t.nv = { s.nv with calRec := t.nv.calRec } ∧
        Says [.CAL_MIRROR_CTL, .FLS_STAT] { s with nv := t.nv, dev := { s.dev with flash := t.dev.flash } } t))

/-! ### Faults (chapter 16) -/

/-- R565 to R571: detections, with their frames. -/
def Obligations.FaultDetections : Prop :=
  ∀ (code kind ix : Nat) (item : FaultItem) (value : Word) (s : State),
    ((monKinds code).contains kind = false ∨ kindCount kind ≤ ix ∨ code = 0x0040 ∨ code = 0x0041 ∨
        s.dev.detHolds code value.toNat = false →
      Idle (.faultDetection code kind ix item value) s) ∧
    ((monKinds code).contains kind = true → ix < kindCount kind → code ≠ 0x0021 → code ≠ 0x0040 → code ≠ 0x0041 →
      s.dev.detHolds code value.toNat = true → Does (.faultDetection code kind ix item value) s fun t =>
        t.pending = s.pending ∧ t.nv = s.nv ∧ t.dev.time = s.dev.time ∧
        (s.dev.lastStays { code := code, cls := s.dev.detClass code kind, kind := kind, ix := ix } = false →
          t.dev.fld F.FLT_LAST_CODE = code ∧ t.dev.fld F.FLT_LAST_CLASS = s.dev.detClass code kind ∧
          t.dev.fld F.FLT_LAST_SCOPE_KIND = kind ∧ t.dev.fld F.FLT_LAST_SCOPE = ix) ∧
        (s.dev.lastStays { code := code, cls := s.dev.detClass code kind, kind := kind, ix := ix } = true →
          t.dev.rd .FLT_LAST = s.dev.rd .FLT_LAST) ∧
        t.dev.fld F.FLT_STAT_FIRST_CODE =
          (if s.dev.fld F.FLT_STAT_FIRST_CODE = 0 then code else s.dev.fld F.FLT_STAT_FIRST_CODE) ∧
        bitAt (t.dev.rd .HIF_MISC_STAT) 1 = true ∧
        (s.dev.replaces code item = none → Posted .fault (scopeSource kind ix) t) ∧
        (∀ a k, s.dev.replaces code item = some (a, k) →
          (∃ e ∈ (t.dev.outq a).held, e.kind = .fault ∧ e.source = scopeSource kind ix) ∨
          t.dev.route { kind := .fault, source := scopeSource kind ix } = none) ∧
        (s.dev.detClass code kind = 0 → t.dev.fld F.FLT_CNT_C0 = sat 255 (s.dev.fld F.FLT_CNT_C0 + 1)) ∧
        (s.dev.detClass code kind = 1 → t.dev.fld F.FLT_CNT_C1 = sat 255 (s.dev.fld F.FLT_CNT_C1 + 1)) ∧
        (s.dev.detClass code kind ≤ 1 → item = .none → code ≠ 0x0006 → Says (faultRegs ++ [.FLT_ECC]) s t ∧
          (code = 0x0001 → t.dev.fld F.FLT_ECC_CORR = sat 65535 (s.dev.fld F.FLT_ECC_CORR + 1))) ∧
        (s.dev.detClass code kind = 2 → kind = 0 ∨ kind = 2 → code ≠ 0x0002 → code ≠ 0x0016 →
          (∀ n x, n ∈ scopeChans kind ix → (s.dev.ch n).txn = some x → x.phase = .up →
            (∃ y, (t.dev.ch n).txn = some y ∧ y.phase = .rampDown) ∧
            ((∀ k ∈ x.driven, k.ch = n) → Falls s.dev .hard .faultAbort [] n x t)) ∧
          (kind = 0 → bitAt (t.dev.rd .FLT_ISO_CH 0 (ix / 32)) (ix % 32) = true) ∧
          (kind = 2 → bitAt (t.dev.rd .FLT_ISO_PAV) ix = true)) ∧
        (s.dev.detClass code kind = 3 → t.dev.pwr.safe = true ∧
          (s.dev.pwr.safe = false → (∀ a, (t.dev.arb a).grant = false) ∧ t.dev.host.inFlight = [])))

/-- R566, R568, R573, R574, R578: upkeep of the monitors, with their frames. -/
def Obligations.FaultUpkeep : Prop :=
  (∀ (s : State), (s.dev.on F.FLT_SCRUB_EN = false → Idle .scrubPass s) ∧
    (s.dev.on F.FLT_SCRUB_EN = true → s.dev.flt.scrubAt + 100 * tcMs ≤ s.dev.tc → Does .scrubPass s fun t =>
      t.dev.fld F.FLT_SCRUB_PASSES = sat 65535 (s.dev.fld F.FLT_SCRUB_PASSES + 1) ∧
      OnlyRegs [(.FLT_SCRUB, 0, 0)] { s with dev := { s.dev with flt := { s.dev.flt with scrubAt := s.dev.tc } } } t)) ∧
  (∀ (code kind ix : Nat) (s : State),
    (s.dev.on F.FLT_STEST_EN = false ∨ monTested code = false ∨ (monKinds code).contains kind = false ∨ kindCount kind ≤ ix ∨
      (kind = 0 ∧ s.dev.coilOn ix = true) → ∀ pass, Idle (.selfTest code kind ix pass) s) ∧
    (s.dev.on F.FLT_STEST_EN = true → monTested code = true → (monKinds code).contains kind = true → ix < kindCount kind →
      (kind = 0 → s.dev.coilOn ix = false) →
      (∀ t, tblFind s.dev.flt.tests (testKey code kind ix) = some t → t + s.dev.testTc ≤ s.dev.tc) →
      (Does (.selfTest code kind ix true) s fun t => tblFind t.dev.flt.tests (testKey code kind ix) = some s.dev.tc ∧
        Works admRegs { s with dev := { s.dev with flt := t.dev.flt } } t) ∧
      (Does (.selfTest code kind ix false) s fun t =>
        t.dev.on F.FLT_STAT_STEST_FAIL = true ∧ tblFind t.dev.flt.tests (testKey code kind ix) = some s.dev.tc ∧
        (s.dev.lastStays { code := 0x0040, cls := if kind = 3 then 3 else 2 } = false →
          t.dev.fld F.FLT_LAST_CODE = 0x0040 ∧ t.dev.fld F.FLT_LAST_SCOPE = ix) ∧
        Posted .fault (scopeSource kind ix) t ∧ t.pending = s.pending ∧ t.nv = s.nv ∧ t.dev.time = s.dev.time ∧
        (kind = 3 → t.dev.pwr.safe = true) ∧ (kind = 1 → t.dev.on F.ARB_GRANT_FAULT ix = true) ∧
        (kind = 0 → bitAt (t.dev.rd .FLT_ISO_CH 0 (ix / 32)) (ix % 32) = true) ∧
        (kind = 2 → bitAt (t.dev.rd .FLT_ISO_PAV) ix = true)))) ∧
  (∀ (pav : Fin 6) (ok : Bool) (b : Option (List Byte)) (s : State), ok = s.dev.microcodeOk b →
    ((s.dev.pav pav).reload = none → Idle (.microcodeReloadDone pav b) s) ∧
    ((s.dev.pav pav).reload.isSome → Does (.microcodeReloadDone pav b) s fun t =>
      t.dev.pav pav = { s.dev.pav pav with reload := none, dead := !ok } ∧ (ok = false → Posted .fault (0x200 + pav) t) ∧
      t.dev.chans = s.dev.chans ∧ Works postRegs s t)) ∧
  (∀ (v : Word) (s : State),
    (s.nv.life ≠ 1 → s.nv.life ≠ 4 → Idle (.faultInject v) s) ∧
    (s.nv.life = 1 ∨ s.nv.life = 4 → (monKinds (bits v.toNat 0 16)).contains (bits v.toNat 20 2) = true →
      bits v.toNat 24 8 < kindCount (bits v.toNat 20 2) → s.dev.detClass (bits v.toNat 0 16) (bits v.toNat 20 2) ≤ 1 →
      Does (.faultInject v) s fun t => (s.dev.lastStays {
          code := bits v.toNat 0 16, cls := s.dev.detClass (bits v.toNat 0 16) (bits v.toNat 20 2) } = false → t.dev.fld F.FLT_LAST_CODE = bits v.toNat 0 16) ∧
        Posted .fault (scopeSource (bits v.toNat 20 2) (bits v.toNat 24 8)) t ∧ Says faultRegs s t)) ∧
  (∀ (pav : Fin 6) (v : Word) (s : State),
    (Does (.isolationClear false pav v) s fun t =>
      (∀ k < 32, bitAt (t.dev.rd .FLT_ISO_CH 0 pav) k = (bitAt (s.dev.rd .FLT_ISO_CH 0 pav) k && !bitAt v.toNat k)) ∧
      (∀ p : Fin 6, p ≠ pav → t.dev.rd .FLT_ISO_CH 0 p = s.dev.rd .FLT_ISO_CH 0 p) ∧ Works (admRegs ++ [.FLT_ISO_CH]) s t) ∧
    (Does (.isolationClear true pav v) s fun t =>
      (∀ p < 6, bitAt (t.dev.rd .FLT_ISO_PAV) p =
        (bitAt (s.dev.rd .FLT_ISO_PAV) p && (!bitAt v.toNat p || (s.dev.pav p).dead))) ∧ Works (admRegs ++ [.FLT_ISO_PAV]) s t))

/-! ### Supplies and die temperature (chapter 17) -/

/-- R595, R597: the supply of a pavilion's drivers, with its frame; the pavilions' programs may start cycles at the return. -/
def Obligations.SupplyDips : Prop :=
  (∀ (pav : Fin 6) (meas : Fin 256) (s : State), Does (.vdrvDip pav meas) s fun t =>
    t.dev.fld F.PAV_VDRV_MEAS pav = meas ∧ t.dev.fld F.PAV_VDRV_NOM pav = s.dev.fld F.PAV_VDRV_NOM pav ∧
    (meas.val * 10 < s.dev.fld F.PAV_VDRV_NOM pav * 9 → (s.dev.pav pav).dip = false →
      (t.dev.pav pav).dip = true ∧
      t.dev.fld F.PAV_VDRV_STAT_DIPS pav = sat 65535 (s.dev.fld F.PAV_VDRV_STAT_DIPS pav + 1) ∧
      (∀ n x, n ∈ pavChans pav → (s.dev.ch n).txn = some x →
        (x.phase = .up → Falls s.dev .fast .supplyDip [] n x t) ∧
        (x.phase = .admitted → x.work ≠ .pilot → (t.dev.ch n).txn = some { x with phase := .waiting, eRsv := 0 }) ∧
        (x.phase = .admitted → x.work = .pilot → (t.dev.ch n).txn = (s.dev.ch n).aside)) ∧
      (∀ n ∈ pavChans pav, (s.dev.ch n).role = .listen → (t.dev.ch n).lsn.staged = none)) ∧
    (s.dev.fld F.PAV_VDRV_NOM pav * 9 ≤ meas.val * 10 ∨ (s.dev.pav pav).dip = true →
      (t.dev.pav pav).dip = (s.dev.pav pav).dip ∧ t.dev.chans = s.dev.chans ∧ Works [.PAV_VDRV] s t) ∧
    (∀ p, p ≠ pav.val → (t.dev.pav p).dip = (s.dev.pav p).dip) ∧ Works (workRegs ++ [.PAV_VDRV, .PAV_VDRV_STAT]) s t) ∧
  (∀ (pav : Fin 6) (meas : Fin 256) (s : State),
    ((s.dev.pav pav).dip = true → s.dev.fld F.PAV_VDRV_NOM pav * 92 < meas.val * 100 →
      ∀ t0, (s.dev.pav pav).okAt = some t0 → t0 + usTc 200 ≤ s.dev.tc → Does (.vdrvReturn pav meas) s fun t =>
        t.dev.fld F.PAV_VDRV_MEAS pav = meas ∧ (t.dev.pav pav).dip = false ∧
        Works (admRegs ++ [.PAV_VDRV]) (withOrder s t.dev.host.order) t) ∧
    ((s.dev.pav pav).dip = false ∨ meas.val * 100 ≤ s.dev.fld F.PAV_VDRV_NOM pav * 92 →
      exec (.vdrvReturn pav meas) s = exec (.vdrvDip pav meas) s)) ∧
  (∀ (pav : Fin 6) (v : Word) (s : State), Does (.vdrvNomWrite pav v) s fun t =>
    ∃ nom, nom = t.dev.fld F.PAV_VDRV_NOM pav ∧
    nom = (if bits v.toNat 0 7 = 0 ∨ 50 ≤ bits v.toNat 0 7 ∧ bits v.toNat 0 7 ≤ 120 then bits v.toNat 0 7
      else s.dev.fld F.PAV_VDRV_NOM pav) ∧
    t.dev.fld F.PAV_VDRV_MEAS pav = s.dev.fld F.PAV_VDRV_MEAS pav ∧
    ((s.dev.pav pav).dip = true → (t.dev.pav pav).dip = (nom != 0)) ∧
    ((s.dev.pav pav).dip = false → (t.dev.pav pav).dip = decide (s.dev.fld F.PAV_VDRV_MEAS pav * 10 < nom * 9)) ∧
    Works (admRegs ++ [.PAV_VDRV, .PAV_VDRV_STAT]) s t)

/-- R50, R592, R598, R599, R605: warnings, with their frames. -/
def Obligations.CoreAndTemperature : Prop :=
  (∀ (mv : Fin 1024) (s : State), Does (.coreWarn mv) s fun t =>
    t.dev.fld F.PWR_CORE_MV = mv ∧ t.dev.fld F.PWR_CORE_MIN_MV = min mv.val (s.dev.fld F.PWR_CORE_MIN_MV) ∧
    (mv.val < 680 → t.dev.on F.PWR_STAT_CORE_WARN = true) ∧
    (680 ≤ mv.val → t.dev.on F.PWR_STAT_CORE_WARN = s.dev.on F.PWR_STAT_CORE_WARN) ∧
    t.dev.fld F.PWR_CORE_DIPS_COUNT = (if s.dev.on F.PWR_STAT_CORE_WARN = true ∨ 680 ≤ mv.val then s.dev.fld F.PWR_CORE_DIPS_COUNT
      else sat 65535 (s.dev.fld F.PWR_CORE_DIPS_COUNT + 1)) ∧
    Says (postRegs ++ [.PWR_CORE, .PWR_STAT, .PWR_CORE_DIPS]) s t) ∧
  (∀ (mv : Fin 1024) (s : State), Does (.coreWarnRelease mv) s fun t =>
    t.dev.fld F.PWR_CORE_MV = mv ∧ t.dev.on F.PWR_STAT_CORE_WARN = (s.dev.on F.PWR_STAT_CORE_WARN && decide (mv.val < 700)) ∧
    t.dev.fld F.PWR_CORE_MIN_MV = min mv.val (s.dev.fld F.PWR_CORE_MIN_MV) ∧ Says (postRegs ++ [.PWR_CORE, .PWR_STAT]) s t) ∧
  (∀ (a b : Int) (s : State), -512 ≤ a → a ≤ 511 → -512 ≤ b → b ≤ 511 → Does (.dieTempConversion a b) s fun t =>
    t.dev.fldI F.PWR_TSENS_A = a ∧ t.dev.fldI F.PWR_TSENS_B = b ∧ t.dev.fldI F.PWR_TEMP_DIE = max a b ∧
    (4 * (s.dev.fld F.PWR_TEMP_WARN : Int) ≤ max a b → t.dev.on F.PWR_STAT_TEMP_WARN = true) ∧
    (max a b ≤ 4 * (s.dev.fld F.PWR_TEMP_WARN : Int) - 12 → t.dev.on F.PWR_STAT_TEMP_WARN = false) ∧
    (max a b < 4 * (s.dev.fld F.PWR_TEMP_WARN : Int) → 4 * (s.dev.fld F.PWR_TEMP_WARN : Int) - 12 < max a b →
      t.dev.on F.PWR_STAT_TEMP_WARN = s.dev.on F.PWR_STAT_TEMP_WARN) ∧
    (4 * (s.dev.fld F.FLT_TEMP_CUT : Int) ≤ max a b → t.dev.pwr.safe = true ∧
      (s.dev.lastStays { code := 0x0024, cls := 3 } = false → t.dev.fld F.FLT_LAST_CODE = 0x0024)) ∧
    (max a b < 4 * (s.dev.fld F.FLT_TEMP_CUT : Int) →
      Works (faultRegs ++ [.PWR_TSENS, .PWR_TEMP, .PWR_STAT]) s t) ∧
    t.pending = s.pending ∧ t.nv = s.nv) ∧
  (∀ (m : Int) (s : State), -60 < m → Does (.trellisMarginUpdate m) s fun t =>
    t.dev.fldI F.SYS_TRELLIS_MARGIN_MARGIN = min m 127 ∧
    t.dev.fldI F.SYS_TRELLIS_MARGIN_MIN_SEEN = min (min m 127) (s.dev.fldI F.SYS_TRELLIS_MARGIN_MIN_SEEN) ∧
    (∀ n, (t.dev.ch n).txn = (s.dev.ch n).txn) ∧ Works [.SYS_TRELLIS_MARGIN] s t) ∧
  (∀ (m : Int) (s : State), m ≤ -60 → Does (.trellisMarginUpdate m) s fun t =>
    t.dev.pwr.safe = true ∧ (s.dev.lastStays { code := 0x0017, cls := 3 } = false → t.dev.fld F.FLT_LAST_CODE = 0x0017) ∧ t.pending = s.pending ∧ t.nv = s.nv)

/-! ### Reset, boot and power states (chapters 14 and 17) -/

/-- R385, R494, R594, R601, R602, R604, R605: the resets, with what they keep. -/
def Obligations.Resets : Prop :=
  (∀ s : State, Does .powerOn s fun t => t.pending = s.pending ∧ t.nv = s.nv ∧ t.dev.pwr = { held := [0] } ∧
    (∀ r i j, t.dev.rd r i j = State.reset.dev.rd r i j) ∧ t.dev.chans = [] ∧ t.dev.sess = [] ∧ t.dev.images = [] ∧
    t.dev.host = {} ∧ t.dev.ledger = {} ∧ t.dev.time = {} ∧ bitAt (t.dev.rd .LDG_RST_CAUSE) 0 = true ∧ PinsLow t) ∧
  (∀ s : State, Does (.resetAssert 0) s fun t => exec .powerOn s = .next t) ∧
  (∀ (x : Fin 10) (s : State), x ≠ 0 → Does (.resetAssert x) s fun t =>
    t.dev.pwr.boot = .held ∧ bitAt (t.dev.rd .LDG_RST_CAUSE) x = true ∧ HeldBy x s t ∧ PinsLow t) ∧
  (∀ (k : Fin 4) (s : State), Does (.brownout k) s fun t =>
    t.dev.pwr.boot = .held ∧ bitAt (t.dev.rd .LDG_RST_CAUSE) (3 + k) = true ∧ HeldBy (3 + k) s t ∧ PinsLow t) ∧
  (∀ s : State, Does .reboot s fun t =>
    t.dev.pwr.boot = .held ∧ bitAt (t.dev.rd .LDG_RST_CAUSE) 7 = true ∧ HeldBy 7 s t ∧ PinsLow t) ∧
  (∀ s : State, s.dev.on F.LDG_RST_CTL_PERST_SCOPE = false → Does .perstNAssert s fun t =>
    t.dev.pwr.boot = .held ∧ bitAt (t.dev.rd .LDG_RST_CAUSE) 2 = true ∧ HeldBy 2 s t ∧ PinsLow t) ∧
  (∀ s : State, s.dev.on F.LDG_RST_CTL_PERST_SCOPE = true → Does .perstNAssert s fun t =>
    t.dev.rd .LDG_RST_CAUSE = s.dev.rd .LDG_RST_CAUSE ∧ HotReset true s t) ∧
  (∀ (down : Bool) (s : State), Does (.hotReset down) s fun t =>
    (∀ r, r < 64 → t.dev.on F.HIF_RING_CFG_EN r = false) ∧ t.dev.host.msixEn = false ∧ t.dev.host.inFlight = [] ∧ HotReset down s t)

/-- R491 to R495, R507, R512, R575, R603: the boot. -/
def Obligations.Boot : Prop :=
  (∀ (cause : Fin 10) (a b : Option (List Byte)) (s : State) (held : List Nat), held = s.dev.pwr.held.filter (· != cause.val) →
    (held ≠ [] ∨ s.dev.pwr.boot ≠ .held → Does (.resetRelease cause a b) s fun t =>
      t = { s with dev := { s.dev with pwr := { s.dev.pwr with held := held } } }) ∧
    (held = [] → s.dev.pwr.boot = .held → Does (.resetRelease cause a b) s fun t =>
      t.dev.pwr.boot = .booting ∧ t.dev.pwr.held = [] ∧ t.pending = s.pending ∧
      t.nv = (match s.nv.trans with
        | some k => s.nv.transit k
        | none => s.nv) ∧
      (∀ k, s.nv.trans = some k → t.nv.life = k ∧ t.nv.trans = none ∧ t.nv.keys = [] ∧ t.nv.images = []) ∧
      t.dev.on F.SEC_BOOT_CTL_ONCE_EN = false ∧
      (t.nv.reg = none → t.nv.life ≠ 0 → (∀ p, p < 6 → t.dev.rd .SHP_CH_EN_LOCK 0 p = 0) ∧ t.dev.on F.SEC_STAT_REG_RECORD_BAD = true) ∧
      ∀ first c1 c2, first = (if s.dev.on F.SEC_BOOT_CTL_ONCE_EN then s.dev.fld F.SEC_BOOT_CTL_ONCE_SLOT else t.nv.prefer % 2) →
        c1 = t.nv.manifestCheck (if first = 0 then a else b) → c2 = t.nv.manifestCheck (if first = 0 then b else a) →
        (c1 = 0 → t.dev.fld F.SEC_BOOT_SLOT = first ∧
          t.dev.sec.manifest = padTo 3400 ((if first = 0 then a else b).getD [])) ∧
        (c1 ≠ 0 → t.dev.fld (if first = 0 then F.SEC_BOOT_FAIL_A else F.SEC_BOOT_FAIL_B) = c1 % 16 ∧
          (c2 = 0 → t.dev.fld F.SEC_BOOT_SLOT = 1 - first ∧
            t.dev.sec.manifest = padTo 3400 ((if first = 0 then b else a).getD [])) ∧
          (c2 ≠ 0 → t.dev.fld (if first = 0 then F.SEC_BOOT_FAIL_B else F.SEC_BOOT_FAIL_A) = c2 % 16 ∧
            t.dev.sec.manifest = s.dev.sec.manifest)))) ∧
  (∀ (l : List Nat) (s : State), (s.dev.pwr.boot ≠ .booting → Idle (.configurationReady l) s) ∧
    (s.dev.pwr.boot = .booting → Does (.configurationReady l) s fun t =>
      t.dev.pwr.boot = .loading ∧ t.dev.tc = 0 ∧ t.dev.on F.FLT_STAT_POST_PASS = l.isEmpty ∧
      t.dev.fld F.SEC_BOOT_STATE = (if s.dev.sec.manifest = [] then 4 else 1) ∧
      (s.dev.sec.manifest = [] → ∀ r, r < 64 → t.dev.on F.HIF_RING_CFG_EN r = false) ∧
      (l ≠ [] → t.dev.pwr.safe = true) ∧
      (l = [] → (∀ p, p < 6 → (t.dev.pav p).change = some { dest := .active, at_ := 0 }) ∧
        (s.dev.syn.refOk = true → t.dev.syn.a = .calibrating ∧ t.dev.syn.b = .calibrating ∧ t.dev.syn.cal = some (.cold, false))) ∧
      t.pending = s.pending ∧ t.nv = s.nv)) ∧
  (∀ (secs : List (Option (List Byte))) (s : State) (m : List Byte), m = s.dev.sec.manifest →
    (s.dev.pwr.boot ≠ .loading ∨ s.dev.fld F.SEC_BOOT_STATE ≠ 1 → Idle (.sectionsLoaded secs) s) ∧
    (s.dev.pwr.boot = .loading → s.dev.fld F.SEC_BOOT_STATE = 1 →
      (∀ i code, secFail m secs = some (i, code) → Does (.sectionsLoaded secs) s fun t =>
        t.dev.fld F.SEC_BOOT_STATE = 3 ∧
        t.dev.fld (if s.dev.fld F.SEC_BOOT_SLOT = 0 then F.SEC_BOOT_FAIL_A else F.SEC_BOOT_FAIL_B) = code % 16 ∧
        (code = 11 → t.dev.fld F.SEC_BOOT_SECTION = i % 4) ∧ (∀ r, r < 64 → t.dev.on F.HIF_RING_CFG_EN r = false) ∧
        bitAt (t.dev.rd .HIF_MISC_STAT) 5 = true ∧ Says (postRegs ++ [.SEC_BOOT, .HIF_RING_CFG]) s t) ∧
      (secFail m secs = none → (∀ i, i < 4 → byteAt (secEntry m i) 0 ≠ 2) → Does (.sectionsLoaded secs) s fun t =>
        t.dev.pwr = { s.dev.pwr with boot := .running } ∧ t.dev.fld F.SEC_BOOT_STATE = 2 ∧ t.dev.rd .SEC_BOOT_VER = leAt m 8 4 ∧
        t.dev.fld F.FLS_CS_CFG_READ = byteAt m 16 % 4 ∧ t.dev.fld F.FLS_CS_CFG_MHZ = byteAt m 17 % 128 ∧
        t.nv = (if bitAt (byteAt m 18) 0 then { s.nv with minVer := max s.nv.minVer (leAt m 8 4) } else s.nv) ∧
        Says [.SEC_BOOT, .SEC_BOOT_VER, .FLS_CS_CFG] { s with nv := t.nv, dev := { s.dev with pwr := t.dev.pwr } } t)))

/-- R582 to R589, R317, R320: power states. -/
def Obligations.PowerStates : Prop :=
  (∀ (pav : Fin 6) (v : Word) (s : State) (req : Nat) (x : Pav), x = s.dev.pav pav →
    req = (if bits v.toNat 0 2 ≤ 2 then bits v.toNat 0 2 else s.dev.fld F.PWR_PAV_REQ 0 pav) →
    Does (.pavStateRequest pav v) s fun t =>
      t.dev.fld F.PWR_PAV_REQ 0 pav = req ∧ t.dev.on F.PWR_PAV_AUTO 0 pav = bitAt v.toNat 8 ∧
      t.dev.fld F.PWR_PAV_IDLE 0 pav =
        (if 1 ≤ bits v.toNat 16 16 ∧ bits v.toNat 16 16 ≤ 60000 then bits v.toNat 16 16 else s.dev.fld F.PWR_PAV_IDLE 0 pav) ∧
      (t.dev.pav pav).state = x.state ∧
      (pavStateOf req = .active → x.state = .active → (t.dev.pav pav).change = none ∧ (t.dev.pav pav).temp = false) ∧
      (pavStateOf req = .active → x.state ≠ .active → (t.dev.pav pav).change = some (s.dev.changeTo pav .active false)) ∧
      (∀ k, x.change = some k → k.dest = .active → s.dev.changeTo pav .active false = { k with temp := false }) ∧
      ((∀ k, x.change = some k → k.dest ≠ .active) → s.dev.changeTo pav .active false = { dest := .active, at_ := s.dev.tc, cold := s.dev.coldLeave }) ∧
      (pavStateOf req ≠ .active →
        ((∃ k, x.change = some k ∧ k.dest = .active ∧ k.temp = true) ∨ (x.state = .active ∧ x.temp = true ∧ x.change = none) →
          (t.dev.pav pav).change = x.change) ∧
        (x.change = none → x.state = pavStateOf req → (t.dev.pav pav).change = none) ∧
        (x.temp = false → x.change = none → x.state ≠ pavStateOf req →
          (t.dev.pav pav).change = some { dest := pavStateOf req, at_ := s.dev.tc })) ∧
      Works (admRegs ++ [.PWR_PAV, .SYN_CAL_TEMP]) { s with dev := { s.dev with syn := t.dev.syn } } t) ∧
  (∀ (pav : Fin 6) (s : State), ((s.dev.pav pav).change = none → Idle (.pavStateChangeDone pav) s) ∧
    ∀ c, (s.dev.pav pav).change = some c →
      (c.dest = .active ∧ s.dev.synActive = false ∨ c.dest ≠ .active ∧ (s.dev.pav pav).state = .active ∧ s.dev.pavQuiet pav = false →
        Idle (.pavStateChangeDone pav) s) ∧
      (c.dest = .active → c.cold = true → s.dev.changeAt pav c = c.at_ + usTc ((if (s.dev.pav pav).state = .off then 400 else 180) + 3200)) ∧
      (c.dest = .active → s.dev.synActive = true → s.dev.changeAt pav c ≤ s.dev.tc → Does (.pavStateChangeDone pav) s fun t =>
        (t.dev.pav pav).state = .active ∧ (t.dev.pav pav).change = none ∧ (t.dev.pav pav).temp = c.temp ∧
        Works admRegs (withOrder s t.dev.host.order) t) ∧
      (c.dest ≠ .active → (s.dev.pav pav).state ≠ .active ∨ s.dev.pavQuiet pav = true → s.dev.changeAt pav c ≤ s.dev.tc → Does (.pavStateChangeDone pav) s fun t =>
        (t.dev.pav pav).state = c.dest ∧ (t.dev.pav pav).change = none ∧ (t.dev.pav pav).temp = false ∧
        (∀ n ∈ pavChans pav, (s.dev.ch n).role = .listen → (t.dev.ch n).lsn.state = .off ∧ (t.dev.ch n).lsn.field = false) ∧
        ((∀ p, p < 6 → p ≠ pav.val → (s.dev.pav p).state ≠ .active ∧ ∀ k, (s.dev.pav p).change = some k → k.dest ≠ .active) →
          s.dev.pwr.boot = .running → s.dev.syn.takeover = false →
          t.dev.syn.a = (if s.dev.on F.PWR_CTL_WATCH_SYN ∧ s.dev.syn.a ≠ .standby then s.dev.syn.a else .off) ∧
          t.dev.syn.b = (if s.dev.on F.PWR_CTL_WATCH_SYN ∧ s.dev.syn.b ≠ .standby then s.dev.syn.b else .off)) ∧
        Works postRegs { s with dev := { s.dev with syn := t.dev.syn } } t)) ∧
  (∀ (pav : Fin 6) (s : State) (x : Pav), x = s.dev.pav pav →
    (x.state = .active ∨ s.dev.pavReq pav = .active ∨ (∃ k, x.change = some k ∧ k.dest = .active) ∨
      (x.wakeDet = false ∧ (s.dev.on F.PWR_PAV_AUTO 0 pav = false ∨ s.dev.headNeedsAir pav = false)) → Idle (.pavWake pav) s) ∧
    (x.state ≠ .active → s.dev.pavReq pav ≠ .active → (∀ k, x.change = some k → k.dest ≠ .active) →
      x.wakeDet = true ∨ (s.dev.on F.PWR_PAV_AUTO 0 pav = true ∧ s.dev.headNeedsAir pav = true) → Does (.pavWake pav) s fun t =>
        t.dev.pav pav = { x with change := some { dest := .active, temp := true, at_ := s.dev.tc, cold := s.dev.coldLeave } } ∧
        Works [.SYN_CAL_TEMP] { s with dev := { s.dev with syn := t.dev.syn } } t) ∧
    (x.temp = false ∨ x.state ≠ .active ∨ x.change.isSome ∨ s.dev.pavQuiet pav = false ∨ s.dev.headNeedsAir pav = true →
      Idle (.pavIdleExpiry pav) s) ∧
    (x.temp = true → x.state = .active → x.change = none → s.dev.pavQuiet pav = true → s.dev.headNeedsAir pav = false →
      x.stirAt + s.dev.fld F.PWR_PAV_IDLE 0 pav * tcMs ≤ s.dev.tc → Does (.pavIdleExpiry pav) s fun t =>
        t.dev.pav pav = { x with change := some { dest := s.dev.pavReq pav, at_ := s.dev.tc } } ∧ t.dev.chans = s.dev.chans ∧ Works [] s t)) ∧
  (∀ s : State, Does .sleepRequest s fun t => t.dev.pwr = { s.dev.pwr with sleepAsk := true } ∧
    t.dev.on F.PWR_CTL_WATCH_SYN = s.dev.on F.PWR_CTL_WATCH_SYN ∧ (s.dev.watching = false → t.dev.syn = s.dev.syn) ∧
    Says (.PWR_CTL :: postRegs) { s with dev := { s.dev with pwr := t.dev.pwr, syn := t.dev.syn } } t) ∧
  (∀ s : State, (s.dev.maySleep = false → Idle .sleepEntry s) ∧
    (s.dev.maySleep = true → Does .sleepEntry s fun t => t.pending = s.pending ∧ t.nv = s.nv ∧ t.dev.pwr.boot = .sleeping ∧
      t.dev.timers = s.dev.timers ∧ t.dev.time.net = s.dev.time.net ∧ t.dev.chans = [] ∧ t.dev.host = {} ∧
      (∀ r ∈ ldgRegs ++ tmrRegs, ∀ i j, t.dev.rd r i j = s.dev.rd r i j) ∧
      (∀ r i j, r ∉ ldgRegs ++ tmrRegs → t.dev.rd r i j = State.reset.dev.rd r i j))) ∧
  (∀ (ticks : Nat) (s : State) (P : Bool → State → Prop),
    (P = fun (eh : Bool) (t : State) => t.dev.pwr = { held := [9] } ∧ bitAt (t.dev.rd .LDG_RST_CAUSE) 9 = true ∧
      t.dev.pair .LDG_SLEEP_TICKS_L .LDG_SLEEP_TICKS_H = ticks ∧ t.dev.on F.LDG_WAKE_BY_EH = eh ∧ t.dev.on F.LDG_WAKE_BY_TIMER = !eh ∧
      t.dev.time.net = s.dev.time.net + ticks * slowTick ∧ t.pending = s.pending ∧ t.nv = s.nv) → ticks < 2 ^ 64 →
    (s.dev.pwr.boot ≠ .sleeping ∨ s.dev.on F.LDG_WAKE_TIMER_EN = false ∨ s.dev.fld F.LDG_WAKE_TIMER_SEC = 0 →
      Idle .wakeTimerExpiry s) ∧
    (s.dev.pwr.boot = .sleeping → s.dev.on F.LDG_WAKE_TIMER_EN = true → s.dev.fld F.LDG_WAKE_TIMER_SEC ≠ 0 →
      ticks = 32768 * s.dev.fld F.LDG_WAKE_TIMER_SEC → Does .wakeTimerExpiry s (P false)) ∧
    (s.dev.harvestOpen = true → Idle (.ehWakeRise ticks) s) ∧
    (s.dev.harvestOpen = false → s.dev.on F.LDG_EH_WAKE_EN = true → s.dev.pwr.boot = .sleeping → Does (.ehWakeRise ticks) s (P true)) ∧
    (s.dev.harvestOpen = false → Does (.ehWakeRise ticks) s fun t => t.dev.on F.LDG_EH_ACTIVE = true ∧
      (s.dev.on F.LDG_EH_WAKE_EN = true → t.dev.on F.LDG_EH_WAKE_SEEN = true) ∧
      (s.dev.on F.LDG_EH_WAKE_EN = false → t.dev.on F.LDG_EH_WAKE_SEEN = s.dev.on F.LDG_EH_WAKE_SEEN) ∧
      (s.dev.on F.LDG_EH_WAKE_EN = false ∨ s.dev.pwr.boot ≠ .sleeping → OnlyRegs [(.LDG_EH, 0, 0)] s t)))

/-! ### The Kiosk port and the flash port (chapter 19) -/

/-- R629 to R631, R633, R634, R636: frames that read, with their frames. -/
def Obligations.KioskReads : Prop :=
  (∀ (mode : Bool) (addr : BitVec 24) (cycles : Nat) (s : State),
    ReadFrame (.kskReadSlow mode addr cycles) mode addr cycles 0 s ∧ ReadFrame (.kskRead mode addr cycles) mode addr cycles 8 s ∧
    ReadFrame (.kskReadFast mode addr cycles) mode addr cycles 16 s) ∧
  (∀ (mode : Bool) (addr : BitVec 24) (cycles : Nat) (s : State), s.dev.kskUp = true → s.dev.ksk.busyTo ≤ s.dev.tc →
    addr.toNat % 4 = 0 → addr.toNat < kskSpace →
    (32 < cycles → cycles - 32 ≤ 8 * (kskSpace - addr.toNat) →
      Does (.kskReadSlow mode addr cycles) s fun t => ReadOut mode addr cycles 0 s t) ∧
    (40 < cycles → cycles - 40 ≤ 8 * (kskSpace - addr.toNat) →
      Does (.kskRead mode addr cycles) s fun t => ReadOut mode addr cycles 8 s t) ∧
    (48 < cycles → cycles - 48 ≤ 8 * (kskSpace - addr.toNat) →
      Does (.kskReadFast mode addr cycles) s fun t => ReadOut mode addr cycles 16 s t)) ∧
  (∀ (mode : Bool) (cycles : Nat) (s : State), (s.dev.kskUp = false → Idle (.kskStatus mode cycles) s) ∧
    (s.dev.kskUp = true → s.dev.ksk.busyTo ≤ s.dev.tc → Does (.kskStatus mode cycles) s fun t =>
      t.dev.out = s.dev.out ++ [.kiosk (List.replicate (1 + (cycles - 32) / 8) (BitVec.ofNat 8 (s.dev.kskStatus false)))] ∧
      t.dev.ksk.lastErr = (if cycles ≤ 32 then 2 else 0) ∧
      (cycles ≤ 32 → t.dev.fld F.KSK_STAT_FRAME_CAUSE = 1) ∧
      Says [.KSK_STAT] { s with dev := { s.dev with ksk := t.dev.ksk } } t)) ∧
  (∀ (mode : Bool) (cmd : Fin 256) (addr : BitVec 24) (cycles : Nat) (s : State),
    (s.dev.kskUp = false ∨ (8 ≤ cycles ∧ cmd.val ∈ [0x03, 0x0B, 0x0C, 0x02, 0x5A, 0x05]) → Idle (.kskBadFrame mode cmd addr cycles) s) ∧
    (s.dev.kskUp = true → cycles < 8 ∨ cmd.val ∉ [0x03, 0x0B, 0x0C, 0x02, 0x5A, 0x05] →
      Does (.kskBadFrame mode cmd addr cycles) s fun t =>
        t.dev.fld F.KSK_STAT_FRAME_CAUSE = (if cycles ≤ 32 then 1 else if addr.toNat % 4 ≠ 0 then 3 else 4) ∧
        t.dev.on F.KSK_STAT_FRAME_ERR = true ∧ t.dev.ksk.lastErr = 2 ∧
        t.dev.fld F.KSK_STAT_DISCARDS = sat 65535 (s.dev.fld F.KSK_STAT_DISCARDS + 1) ∧
        Says [.KSK_STAT] { s with dev := { s.dev with ksk := t.dev.ksk } } t)) ∧
  (∀ (d : Dev) (busy : Bool), d.ksk.lastErr ∈ [0, 2, 4, 8] → d.kskStatus busy < 256 ∧ bitAt (d.kskStatus busy) 4 = busy ∧
    (bitAt (d.kskStatus busy) 7 = true ↔ d.fld F.SEC_BOOT_STATE = 2) ∧ bitAt (d.kskStatus busy) 6 = d.pwr.safe ∧
    (bitAt (d.kskStatus busy) 5 = true ↔ d.rd .HIF_MISC_STAT ≠ 0) ∧ (bitAt (d.kskStatus busy) 3 = true ↔ d.ksk.lastErr = 8) ∧
    (bitAt (d.kskStatus busy) 2 = true ↔ d.ksk.lastErr = 4) ∧ (bitAt (d.kskStatus busy) 1 = true ↔ d.ksk.lastErr = 2) ∧
    bitAt (d.kskStatus busy) 0 = !d.on F.KSK_CTL_WRITE_EN)

/-- R510, R511, R632 to R635, R637 to R639: frames that write, with their frames. -/
def Obligations.KioskWrites : Prop :=
  (∀ (mode : Bool) (addr : BitVec 24) (cycles : Nat) (data : List Byte) (ok : Bool) (s : State),
    WriteFrame (.kskWrite mode addr cycles data) false addr cycles s ∧
    WriteFrame (.kskSealedWrite mode addr cycles data ok) true addr cycles s) ∧
  (∀ (mode : Bool) (addr : BitVec 24) (cycles nb : Nat) (data : List Byte) (s : State), nb = cycles - 32 →
    s.dev.ksk.busyTo ≤ s.dev.tc → s.dev.kskUp = true → writeCause false addr nb s = 0 →
    (8 * (kskSpace - addr.toNat) < nb → Does (.kskWrite mode addr cycles data) s fun t =>
      t.dev.on F.KSK_STAT_ADDR_END = true ∧ t.dev.on F.KSK_STAT_FRAME_ERR = s.dev.on F.KSK_STAT_FRAME_ERR ∧
      t.dev.ksk.lastErr = 4 ∧ Says [.KSK_STAT] { s with dev := { s.dev with ksk := t.dev.ksk } } t) ∧
    (nb ≤ 8 * (kskSpace - addr.toNat) → Does (.kskWrite mode addr cycles data) s fun t => t.pending = s.pending ∧
      ∃ u : State, u.dev.ksk.lastErr = 0 ∧ u.dev.out = s.dev.out ++ [.kiosk [BitVec.ofNat 8 (s.dev.kskStatus false)]] ∧
        Says [.KSK_STAT] { s with dev := { s.dev with ksk := u.dev.ksk } } u ∧
        (t.nv, t.dev) = Dev.kskWrites u.nv u.dev addr.toNat data (nb / 32)) ∧
    (nb = 32 → addr.toNat = 0x5124 → (∀ k, k < 4 → byteAt data k ≠ 0) → Does (.kskWrite mode addr cycles data) s fun t =>
      t.dev.rd .FLS_TMO = leAt data 0 4 ∧ t.dev.ksk.lastErr = 0 ∧
      Says [.KSK_STAT, .FLS_TMO] { s with dev := { s.dev with ksk := t.dev.ksk } } t) ∧
    (nb = 32 → addr.toNat = 0x5000 → Does (.kskWrite mode addr cycles data) s fun t =>
      t.dev.ksk.lastErr = 0 ∧ Says [.KSK_STAT] { s with dev := { s.dev with ksk := t.dev.ksk } } t)) ∧
  (∀ (mode : Bool) (addr : BitVec 24) (cycles : Nat) (data : List Byte) (ok : Bool) (s : State),
    s.dev.ksk.busyTo ≤ s.dev.tc → s.dev.kskUp = true → writeCause true addr (cycles - 32) s = 0 →
    (∀ w, (s.dev.pwr.gateDown = true ∧ w = 5) ∨
      (s.dev.pwr.gateDown = false ∧ s.nv.needsAuth 0x3C = true ∧ (8 ≤ byteAt data 8 ∨ s.nv.key (byteAt data 8) = none) ∧ w = 1) ∨
      (s.dev.pwr.gateDown = false ∧ s.nv.needsAuth 0x3C = false ∧
        (∀ r i j, regAt addr.toNat = some (r, i, j) → r ∉ sealedRegs) ∧ w = 3) → Does (.kskSealedWrite mode addr cycles data ok) s fun t =>
      t.dev.on F.KSK_STAT_SEAL_ERR = true ∧ t.dev.fld F.KSK_STAT_SEAL_CAUSE = w ∧ t.dev.ksk.lastErr = 8 ∧
      bitAt (t.dev.rd .HIF_MISC_STAT) 6 = true ∧
      (∀ r ∈ sealedRegs, ∀ i j, t.dev.rd r i j = s.dev.rd r i j) ∧
      Says (postRegs ++ [.KSK_STAT, .SEC_STAT]) { s with dev := { s.dev with ksk := t.dev.ksk } } t) ∧
    (∀ (ch : Fin 192) (v : Nat), regAt addr.toNat = some (.CH_PWR_LIM, ch.val, 0) → s.dev.pwr.gateDown = false → s.nv.life = 1 →
      s.nv.regLock = false → leAt data 4 4 = 0xFFFFFFFF → v = bits (leAt data 0 4) 0 10 → 1 ≤ v → v ≤ 1000 →
      Does (.kskSealedWrite mode addr cycles data ok) s fun t =>
      t.dev.fld F.CH_PWR_LIM_MW ch = v ∧ t.dev.ksk.lastErr = 0 ∧
      Works (admRegs ++ [.CH_PWR_LIM, .CH_FIELD_STAT, .KSK_STAT]) { s with dev := { s.dev with ksk := t.dev.ksk } } t))

/-- R640, R643 to R646: operations of FLS_CTL, with their frames. -/
def Obligations.FlashOperations : Prop :=
  (∀ (v : Word) (s : State), FlsTurned (.flsRead v) (flsOpOf 1 v s) s ∧ FlsTurned (.flsProgram v) (flsOpOf 2 v s) s ∧
    FlsTurned (.flsErase4k v) (flsOpOf 3 v s) s ∧ FlsTurned (.flsErase64k v) (flsOpOf 4 v s) s ∧
    FlsTurned (.flsEraseChip v) (flsOpOf 5 v s) s ∧ FlsTurned (.flsReadId v) (flsOpOf 6 v s) s) ∧
  (∀ (v : Word) (s : State), FlsOpen (flsOpOf 1 v s) s → Does (.flsRead v) s fun t => FlsBegun (flsOpOf 1 v s) s t) ∧
  (∀ (v : Word) (s : State), FlsOpen (flsOpOf 2 v s) s → Does (.flsProgram v) s fun t => FlsBegun (flsOpOf 2 v s) s t) ∧
  (∀ (v : Word) (s : State), FlsOpen (flsOpOf 3 v s) s → Does (.flsErase4k v) s fun t => FlsBegun (flsOpOf 3 v s) s t) ∧
  (∀ (v : Word) (s : State), FlsOpen (flsOpOf 4 v s) s → Does (.flsErase64k v) s fun t => FlsBegun (flsOpOf 4 v s) s t) ∧
  (∀ (v : Word) (s : State), FlsOpen (flsOpOf 5 v s) s → Does (.flsEraseChip v) s fun t => FlsBegun (flsOpOf 5 v s) s t) ∧
  (∀ (v : Word) (s : State), FlsOpen (flsOpOf 6 v s) s → Does (.flsReadId v) s fun t => FlsBegun (flsOpOf 6 v s) s t) ∧
  (∀ (status : Fin 256) (data : List Byte) (s : State), (s.dev.flash.run = none → Idle (.flashOpDone status data) s) ∧
    ∀ f, s.dev.flash.run = some f → (7 ≤ f.op → Idle (.flashOpDone status data) s) ∧
    (f.op < 7 → f.xip = false → s.dev.flash.wait = [] → Does (.flashOpDone status data) s fun t =>
      t.dev.on F.FLS_STAT_BUSY = false ∧ t.dev.on F.FLS_STAT_DONE = true ∧ t.dev.fld F.FLS_STAT_CAUSE = 0 ∧
      t.dev.flash.run = s.dev.flash.susp ∧ t.dev.flash.susp = none ∧
      (∀ g, s.dev.flash.susp = some g → flashOut s.dev g.cs 0x7A 0 [] ∈ t.dev.out) ∧ bitAt (t.dev.rd .HIF_MISC_STAT) 6 = true ∧
      (f.op = 1 → f.len ≤ 256 → t.dev.flsBytes f.len = padTo f.len data) ∧ (f.op = 6 → t.dev.flsBytes 3 = padTo 3 data) ∧
      (2 ≤ f.op → f.op ≤ 5 → t.dev.fld F.FLS_STAT_STATUS_REG = status) ∧
      Says (postRegs ++ [.FLS_STAT, .FLS_BUF]) { s with dev := { s.dev with flash := t.dev.flash } } t)) ∧
  (∀ s : State, (s.dev.flash.run = none → Idle .flashOpTimeout s) ∧
    ∀ f, s.dev.flash.run = some f → (f.op < 2 ∨ 5 < f.op → Idle .flashOpTimeout s) ∧
      (2 ≤ f.op → f.op ≤ 5 → s.dev.flash.wait = [] → (∀ n, s.dev.flsLimit f.op = some n → f.at_ + n ≤ s.dev.tc) → Does .flashOpTimeout s fun t =>
        t.dev.on F.FLS_STAT_ERR = true ∧ t.dev.fld F.FLS_STAT_CAUSE = 3 ∧ t.dev.flash.run = s.dev.flash.susp ∧ t.dev.flash.susp = none ∧
        (f.xip = false → t.dev.on F.FLS_STAT_BUSY = false ∧ t.dev.on F.FLS_STAT_DONE = true) ∧
        Says (postRegs ++ [.FLS_STAT]) { s with dev := { s.dev with flash := t.dev.flash } } t)) ∧
  (∀ (ofs len cs : Nat) (s : State) (pre : List Output), cs = s.dev.fld F.FLS_XIP_CS →
    pre = (if s.dev.on F.FLS_CS_CFG_ADDR4 0 cs ∧ cs ∉ s.dev.flash.four then [flashOut s.dev cs 0xB7 0 []] else []) →
    Does (.xipRead ofs len) s fun t =>
      (s.dev.flash.run = none → t.dev.flash.run = none ∧ t.dev.out = s.dev.out ++ pre ++
        [flashOut s.dev cs (s.dev.flsReadOp cs) (ofs % 2 ^ 26) (List.replicate len 0)]) ∧
      (∀ g, s.dev.flash.run = some g → t.dev.flash.run = some g ∧
        (g.op ∈ [2, 3, 4, 5, 7] → s.dev.on F.FLS_CS_CFG_SUSPEND 0 g.cs = true → t.dev.flash.wait = s.dev.flash.wait ∧
          t.dev.out = s.dev.out ++ [flashOut s.dev g.cs 0x75 0 []] ++ pre ++
            [flashOut s.dev cs (s.dev.flsReadOp cs) (ofs % 2 ^ 26) (List.replicate len 0), flashOut s.dev g.cs 0x7A 0 []]) ∧
        (s.dev.on F.FLS_CS_CFG_SUSPEND 0 g.cs = false ∨ g.op ∉ [2, 3, 4, 5, 7] → t.dev.out = s.dev.out ∧ t.dev.flash.wait = s.dev.flash.wait ++
          [{ op := 0, cs := cs, addr := ofs % 2 ^ 26, len := len, xip := true }])) ∧
      t.dev.regs = s.dev.regs ∧ Says [] { s with dev := { s.dev with flash := t.dev.flash } } t) ∧
  (∀ (ofs : Nat) (data : List Byte) (s : State) (f : FlashOp),
    f = { op := 2, cs := s.dev.fld F.FLS_XIP_CS, addr := ofs % 2 ^ 26, len := (data.take (256 - ofs % 256)).length,
          data := data.take (256 - ofs % 256), xip := true } →
    (data = [] → Idle (.xipWrite ofs data) s) ∧
    (data ≠ [] → s.dev.flsProtected f = true → Does (.xipWrite ofs data) s fun t =>
      t.dev.on F.FLS_STAT_ERR = true ∧ t.dev.fld F.FLS_STAT_CAUSE = 1 ∧ t.dev.out = s.dev.out ∧ OnlyRegs [(.FLS_STAT, 0, 0)] s t) ∧
    (data ≠ [] → s.dev.flsProtected f = false → Does (.xipWrite ofs data) s fun t =>
      (s.dev.flash.run = none → t.dev.flash.run = some { f with at_ := s.dev.tc }) ∧
      (s.dev.flash.run.isSome → t.dev.flash.wait = s.dev.flash.wait ++ [f] ∧ t.dev.out = s.dev.out) ∧
      t.dev.regs = s.dev.regs ∧ Says [] { s with dev := { s.dev with flash := t.dev.flash } } t))

/-! ### Timers and counters (chapter 20) -/

/-- R649, R651 to R655, R660: counting, with its frame. -/
def Obligations.TimerCounts : Prop :=
  (∀ (t : Fin 16) (s : State) (x : Timer) (n a per cmp c new : Nat) (wrap : Prop) (P : State → Prop), x = s.dev.tmr t →
    n = s.dev.fld F.TMR_PRE_INT t * 65536 + s.dev.fld F.TMR_PRE_FRAC t → a = x.acc + 65536 →
    per = (if x.perHold then x.per else s.dev.rd .TMR_PERIOD t) → c = s.dev.rd .TMR_COUNT t → (wrap ↔ per ≤ c) →
    (wrap → new = 0) → (¬ wrap → new = c + 1) →
    (wrap → cmp = s.dev.rd .TMR_CMP t) → (¬ wrap → cmp = if x.cmpHold then x.cmp else s.dev.rd .TMR_CMP t) →
    (P = fun (u : State) => u.dev.rd .TMR_COUNT t = new % 2 ^ 32 ∧
      (wrap → u.dev.on F.TMR_STAT_PERIOD_EV t = true ∧
        u.dev.fld F.TMR_STAT_WRAPS t = sat 65535 (s.dev.fld F.TMR_STAT_WRAPS t + 1) ∧
        u.dev.on F.TMR_CTL_EN t = !s.dev.on F.TMR_CTL_ONE_SHOT t ∧
        (u.dev.tmr t).perHold = false ∧ (u.dev.tmr t).cmpHold = false) ∧
      (¬ wrap → u.dev.on F.TMR_STAT_PERIOD_EV t = s.dev.on F.TMR_STAT_PERIOD_EV t ∧
        u.dev.fld F.TMR_STAT_WRAPS t = s.dev.fld F.TMR_STAT_WRAPS t ∧ u.dev.on F.TMR_CTL_EN t = true ∧
        (u.dev.tmr t).perHold = x.perHold ∧ (u.dev.tmr t).cmpHold = x.cmpHold) ∧
      u.dev.on F.TMR_STAT_CMP_EV t = (s.dev.on F.TMR_STAT_CMP_EV t || new == cmp) ∧
      (∀ k : Fin 16, k ≠ t → u.dev.rd .TMR_COUNT k = s.dev.rd .TMR_COUNT k ∧ u.dev.tmr k = s.dev.tmr k) ∧
      Says (postRegs ++ [.TMR_COUNT, .TMR_STAT, .TMR_CTL, .TMR_GSTAT, .TMR_SC_L, .TMR_SC_H, .TMR_SC_OVF])
        { s with dev := { s.dev with timers := u.dev.timers } } u) →
    (s.dev.on F.TMR_CTL_EN t = false ∨ s.dev.tmrFrozen t = true →
      Idle (.timerTick t) s ∧ Idle (.timerWrap t) s ∧ Idle (.timerCompareMatch t) s) ∧
    (4 < s.dev.fld F.TMR_CTL_SRC t → Idle (.timerTick t) s) ∧
    (s.dev.on F.TMR_CTL_EN t = true → s.dev.tmrFrozen t = false →
      (s.dev.fld F.TMR_CTL_SRC t ≤ 4 → a < n → Does (.timerTick t) s fun u => (u.dev.tmr t) = { x with acc := a } ∧
        (∀ k : Fin 16, k ≠ t → u.dev.tmr k = s.dev.tmr k) ∧ u.dev.regs = s.dev.regs ∧
        Says [] { s with dev := { s.dev with timers := u.dev.timers } } u) ∧
      (s.dev.fld F.TMR_CTL_SRC t ≤ 4 → n ≤ a → Does (.timerTick t) s fun u => P u ∧ (u.dev.tmr t).acc = a - n) ∧
      (¬ wrap → Idle (.timerWrap t) s) ∧ (wrap → Does (.timerWrap t) s P) ∧
      (new ≠ cmp → Idle (.timerCompareMatch t) s) ∧ (new = cmp → Does (.timerCompareMatch t) s P))) ∧
  (∀ (t : Fin 16) (v : Word) (s : State), bitAt v.toNat 24 = false → Does (.timerEnable t v) s fun u =>
    u.dev.on F.TMR_CTL_EN t = bitAt v.toNat 0 ∧
    (s.dev.on F.TMR_CTL_EN t = true → u.dev.fld F.TMR_CTL_SRC t = s.dev.fld F.TMR_CTL_SRC t ∧
      u.dev.fld F.TMR_CTL_EDGE t = s.dev.fld F.TMR_CTL_EDGE t ∧ u.dev.timers = s.dev.timers) ∧
    (s.dev.on F.TMR_CTL_EN t = false →
      u.dev.fld F.TMR_CTL_SRC t = (if bits v.toNat 2 4 ≤ 9 then bits v.toNat 2 4 else s.dev.fld F.TMR_CTL_SRC t) ∧
      (bitAt v.toNat 0 = true → (u.dev.tmr t).acc = 0 ∧ u.dev.fld F.TMR_STAT_WRAPS t = 0)) ∧
    Says [.TMR_CTL, .TMR_STAT] { s with dev := { s.dev with timers := u.dev.timers } } u) ∧
  (∀ (t : Fin 16) (v : Word) (s : State), bitAt v.toNat 24 = true → Does (.timerEnable t v) s fun u =>
    u.dev.on F.TMR_CTL_EN t = bitAt v.toNat 0 ∧ u.dev.on F.TMR_STAT_CAP_NEW t = true ∧
    u.dev.rd .TMR_CAP t = s.dev.rd .TMR_COUNT t) ∧
  (∀ (t : Fin 16) (isCmp : Bool) (v : Word) (s : State) (per cmp : State → Nat),
    (per = fun (u : State) => if (u.dev.tmr t).perHold then (u.dev.tmr t).per else u.dev.rd .TMR_PERIOD t) →
    (cmp = fun (u : State) => if (u.dev.tmr t).cmpHold then (u.dev.tmr t).cmp else u.dev.rd .TMR_CMP t) →
    Does (.timerPeriodWrite t isCmp v) s fun u =>
      u.dev.rd (if isCmp then .TMR_CMP else .TMR_PERIOD) t = v.toNat ∧
      (isCmp = true → per u = per s ∧ cmp u = if s.dev.on F.TMR_CTL_PRELOAD t then cmp s else v.toNat) ∧
      (isCmp = false → cmp u = cmp s ∧ per u = if s.dev.on F.TMR_CTL_PRELOAD t then per s else v.toNat) ∧
      (u.dev.tmr t).acc = (s.dev.tmr t).acc ∧
      Says [if isCmp then .TMR_CMP else .TMR_PERIOD] { s with dev := { s.dev with timers := u.dev.timers } } u)

/-- R650, R656 to R658, R662, R663: captures and statistic counters, with their frames. -/
def Obligations.CapturesAndCounters : Prop :=
  (∀ (t : Fin 16) (q : Fin 4) (s : State), s.dev.fld F.TMR_CTL_CAP_SRC t = 0 → Idle (.timerCapture t q) s) ∧
  (∀ (t : Fin 16) (s : State) (P : Nat → State → Prop), (P = fun (ns : Nat) (u : State) => u.dev.rd .TMR_CAP t = s.dev.rd .TMR_COUNT t ∧
      u.dev.pair .TMR_CAP_TL .TMR_CAP_TH t = ns ∧ u.dev.on F.TMR_STAT_CAP_NEW t = true ∧
      u.dev.on F.TMR_STAT_CAP_OVR t = (s.dev.on F.TMR_STAT_CAP_OVR t || s.dev.on F.TMR_STAT_CAP_NEW t) ∧
      (s.dev.on F.TMR_STAT_CAP_NEW t = false → s.dev.on F.TMR_CTL_CAP_IE t = true →
        bitAt (u.dev.rd .TMR_GSTAT) t = true ∧ bitAt (u.dev.rd .HIF_MISC_STAT) 7 = true) ∧
      Says (postRegs ++ [.TMR_CAP, .TMR_CAP_TL, .TMR_CAP_TH, .TMR_STAT, .TMR_GSTAT]) s u) →
    (∀ q : Fin 4, s.dev.fld F.TMR_CTL_CAP_SRC t ≠ 0 → Does (.timerCapture t q) s (P (s.dev.timeOf (4 * s.dev.tc + q)))) ∧
    Does (.capSw t) s (P s.dev.now)) ∧
  (∀ (t : Fin 16) (k : Bool) (s : State), Does (.tmrCapRead t k) s fun u =>
    u.dev.out = s.dev.out ++ [.readData k (s.dev.rd .TMR_CAP t)] ∧ u.dev.on F.TMR_STAT_CAP_NEW t = false ∧
    u.dev.tmr t = (if k then { s.dev.tmr t with capKsk := s.dev.pair .TMR_CAP_TL .TMR_CAP_TH t }
      else { s.dev.tmr t with capPci := s.dev.pair .TMR_CAP_TL .TMR_CAP_TH t }) ∧
    u.dev.on F.TMR_STAT_CAP_OVR t = s.dev.on F.TMR_STAT_CAP_OVR t ∧
    Says [.TMR_STAT] { s with dev := { s.dev with timers := u.dev.timers } } u) ∧
  (∀ (pin : Fin 4) (rising : Bool) (q : Fin 4) (s : State), Does (.tmrInEdge pin rising q) s fun u =>
    (∀ t : Fin 16, s.dev.fld F.TMR_CTL_CAP_SRC t = pin + 1 → edgeIs (s.dev.fld F.TMR_CTL_CAP_EDGE t) rising = true →
      u.dev.rd .TMR_CAP t = s.dev.rd .TMR_COUNT t ∧ u.dev.on F.TMR_STAT_CAP_NEW t = true ∧
      u.dev.pair .TMR_CAP_TL .TMR_CAP_TH t = s.dev.timeOf (4 * s.dev.tc + q)) ∧
    (∀ t : Fin 16, s.dev.fld F.TMR_CTL_SRC t ≠ pin + 5 ∨ edgeIs (s.dev.fld F.TMR_CTL_EDGE t) rising = false ∨
      s.dev.on F.TMR_CTL_EN t = false → u.dev.rd .TMR_COUNT t = s.dev.rd .TMR_COUNT t ∧ u.dev.tmr t = s.dev.tmr t) ∧
    (∀ t : Fin 16, s.dev.fld F.TMR_CTL_SRC t = pin + 5 → edgeIs (s.dev.fld F.TMR_CTL_EDGE t) rising = true →
      s.dev.on F.TMR_CTL_EN t = true → s.dev.tmrFrozen t = false → s.dev.rd .TMR_PRE t = 65536 → (s.dev.tmr t).acc = 0 →
      (s.dev.tmr t).perHold = false → s.dev.rd .TMR_COUNT t < s.dev.rd .TMR_PERIOD t →
      u.dev.rd .TMR_COUNT t = s.dev.rd .TMR_COUNT t + 1) ∧
    (∀ j : Fin 8, s.dev.fld F.TMR_SC_SEL_SRC 0 j ≠ 6 → s.dev.fld F.TMR_SC_SEL_SRC 0 j ≠ 7 →
      u.dev.pair .TMR_SC_L .TMR_SC_H 0 j = (if rising ∧ s.dev.fld F.TMR_SC_SEL_SRC 0 j = pin + 1 then
        sat (2 ^ 64 - 1) (s.dev.pair .TMR_SC_L .TMR_SC_H 0 j + 1) else s.dev.pair .TMR_SC_L .TMR_SC_H 0 j)) ∧
    Says (postRegs ++ [.TMR_COUNT, .TMR_STAT, .TMR_CTL, .TMR_GSTAT, .TMR_SC_L, .TMR_SC_H, .TMR_SC_OVF, .TMR_CAP, .TMR_CAP_TL,
      .TMR_CAP_TH]) { s with dev := { s.dev with timers := u.dev.timers } } u) ∧
  (∀ (j : Fin 8) (s : State), Does (.scClear j) s fun u =>
    u.dev.pair .TMR_SC_L .TMR_SC_H 0 j = 0 ∧ bitAt (u.dev.rd .TMR_SC_OVF) j = false ∧
    (∀ k, k ≠ j.val → k < 32 → bitAt (u.dev.rd .TMR_SC_OVF) k = bitAt (s.dev.rd .TMR_SC_OVF) k) ∧
    OnlyRegs [(.TMR_SC_L, 0, j), (.TMR_SC_H, 0, j), (.TMR_SC_OVF, 0, 0)] s u)

/-! ### The Promenade (chapters 16 and 21) -/

/-- R665 to R674: frames, lanes, positions, hop delay and time. -/
def Obligations.PromenadeLanes : Prop :=
  (∀ (up : Bool) (sub : Nat) (phase : Fin 65536) (probe : Option (Nat × Nat)) (s : State) (p : PrmPort), p = s.dev.prt up →
    (s.dev.prmEn up = false → Idle (.prmFrameSend up sub phase probe) s) ∧
    (s.dev.prmEn up = true → Does (.prmFrameSend up sub phase probe) s fun t =>
      (t.dev.prt up).sent = (p.sent + 1) % 2 ^ 32 ∧ ∃ pay, .prom up pay (prmWire p.sent pay) ∈ t.dev.out) ∧
    (s.dev.prmEn up = true → (∀ k : Fin 16, s.dev.fld F.TMR_CTL_CAP_SRC k ≠ 6 ∧ s.dev.fld F.TMR_CTL_SRC k ≠ 9) →
      Does (.prmFrameSend up sub phase probe) s fun t => t.dev.prt (!up) = s.dev.prt (!up) ∧
      (∃ pay, t.dev.out = s.dev.out ++ [.prom up pay (prmWire p.sent pay)] ∧ pay.length = 32 ∧ (prmWire p.sent pay).length = 320 ∧
        byteAt pay 1 = s.dev.position % 16 + 128 * b2n s.dev.locked ∧
        ((∃ b, (8, b) ∈ p.due) → byteAt pay 0 = 8) ∧
        (p.due = [] → probe = none → up = false → p.sent % 1000 = 0 →
          byteAt pay 0 = 1 ∧ leAt pay 2 8 = (s.dev.now4 sub / 4) % 2 ^ 64) ∧
        (p.due = [] → probe = none → up = true → p.sent % 1000 = 500 →
          byteAt pay 0 = 2 ∧ leAt pay 2 8 = s.dev.now4 sub % 2 ^ 64 ∧ t.dev.prom.t1 = some (s.dev.now4 sub)) ∧
        (p.due = [] → probe = none → s.dev.seamOn up = false → p.sent % 250 ≠ 0 → byteAt pay 0 = 0 ∧ (t.dev.prt up).due = [])) ∧
      Says [] { s with dev := { s.dev with prom := t.dev.prom } } t)) ∧
  (∀ (up : Bool) (one two : List Bool) (s : State),
    (s.dev.prmEn up = false ∨ s.dev.laneUp up = true ∨ prmAcquire one two = none → Idle (.prmLaneUp up one two) s) ∧
    (∀ seed, s.dev.prmEn up = true → s.dev.laneUp up = false → prmAcquire one two = some seed → Does (.prmLaneUp up one two) s fun t =>
      t.dev.laneUp up = true ∧ t.dev.on F.PRM_STAT_LINK_CHG = true ∧ bitAt (t.dev.rd .HIF_MISC_STAT) 2 = true ∧
      (t.dev.prt up).seed = seed ∧ (t.dev.prt up).crcRun = 0 ∧ (t.dev.prt up).rxAt = s.dev.tc ∧
      (up = true → t.dev.on F.PRM_HOP_VALID = false ∧ t.dev.prom.hops = []) ∧
      Says (postRegs ++ [.PRM_STAT, .PRM_HOP]) { s with dev := { s.dev with prom := t.dev.prom } } t)) ∧
  (∀ (c : Instr) (up : Bool) (w : List Bool) (s : State),
    ((c = .prmLaneDown up ∧ (s.dev.prt up).rxAt + 112 ≤ s.dev.tc) ∨
      (c = .prmFrameCrcFail up w ∧ s.dev.prmEn up = true ∧ prmPayload (s.dev.prt up).seed w = none ∧ (s.dev.prt up).crcRun = 3)) →
    (s.dev.laneUp up = false → Idle c s) ∧
    (s.dev.laneUp up = true → Does c s fun t =>
      t.dev.laneUp up = false ∧ t.dev.on F.PRM_STAT_LINK_CHG = true ∧ bitAt (t.dev.rd .HIF_MISC_STAT) 2 = true ∧
      t.dev.fld (if up then F.PRM_LINK_UP_LOSSES else F.PRM_LINK_DN_LOSSES) =
        sat 65535 (s.dev.fld (if up then F.PRM_LINK_UP_LOSSES else F.PRM_LINK_DN_LOSSES) + 1) ∧
      t.dev.on F.ARB_CM_STAT_SEAM_REMOTE (seamArb up) = false ∧ (∀ x ∈ t.dev.prom.slots, x.up ≠ up) ∧
      (s.dev.on F.ARB_CM_STAT_SEAM_REMOTE (seamArb up) = true →
        t.dev.on (if up then F.ARB_CM_STAT_SEAM_LO_VALID else F.ARB_CM_STAT_SEAM_HI_VALID) (seamArb up) = false) ∧
      (up = true → t.dev.on F.PRM_STAT_COHERENT = false ∧
        (s.dev.fld F.TIME_CTL_SOURCE = 2 → t.dev.on F.TIME_STAT_HOLDOVER = true)) ∧
      t.pending = s.pending ∧ t.nv = s.nv ∧ t.dev.time = { s.dev.time with holdAt := t.dev.time.holdAt })) ∧
  (∀ (up : Bool) (w : List Bool) (s : State), (prmPayload (s.dev.prt up).seed w).isSome → Idle (.prmFrameCrcFail up w) s) ∧
  (∀ (up : Bool) (w : List Bool) (s : State), s.dev.prmEn up = true → s.dev.laneUp up = true → prmPayload (s.dev.prt up).seed w = none →
    (s.dev.prt up).crcRun ≠ 3 → Does (.prmFrameCrcFail up w) s fun t =>
    t.dev.laneUp up = true ∧ (t.dev.prt up).crcRun = (s.dev.prt up).crcRun + 1 ∧
    (t.dev.prt up).seed = ((s.dev.prt up).seed + 1) % 511 ∧ (t.dev.prt up).rxAt = s.dev.tc ∧
    t.dev.fld (if up then F.PRM_LINK_UP_CRC_ERR else F.PRM_LINK_DN_CRC_ERR) =
      sat 65535 (s.dev.fld (if up then F.PRM_LINK_UP_CRC_ERR else F.PRM_LINK_DN_CRC_ERR) + 1) ∧
    (∀ j : Fin 8, s.dev.fld F.TMR_SC_SEL_SRC 0 j = (if up then 8 else 9) →
      t.dev.pair .TMR_SC_L .TMR_SC_H 0 j = sat (2 ^ 64 - 1) (s.dev.pair .TMR_SC_L .TMR_SC_H 0 j + 1)) ∧
    Says (postRegs ++ [.PRM_LINK_UP, .PRM_LINK_DN, .TMR_SC_L, .TMR_SC_H, .TMR_SC_OVF])
      { s with dev := { s.dev with prom := t.dev.prom } } t) ∧
  (∀ (up : Bool) (w : List Bool) (s : State), (s.dev.prmEn up = false ∨ s.dev.laneUp up = false → Idle (.prmIdle up w) s) ∧
    (∀ pay ty, Carries up s w ty pay → Does (.prmIdle up w) s fun t =>
      t.dev.prt up = { s.dev.prt up with
        crcRun := 0, seed := ((s.dev.prt up).seed + 1) % 511, lock := bitAt (byteAt pay 1) 7, rxAt := s.dev.tc } ∧
      t.dev.prt (!up) = s.dev.prt (!up) ∧
      (up = false ∨ (s.dev.prt up).lock = false ∨ bitAt (byteAt pay 1) 7 = true → t.dev.regs = s.dev.regs))) ∧
  (∀ s : State, (s.dev.prom.posSet = true ∨ s.dev.laneUp true = true → Idle .positionTimeout s) ∧
    (s.dev.prom.posSet = false → s.dev.laneUp true = false → 5 * tcMs ≤ s.dev.tc → Does .positionTimeout s fun t =>
      t.dev.position = 0 ∧ t.dev.on F.PRM_STAT_POS_VALID = true ∧ t.dev.prom.posSet = true ∧
      Says [.PRM_STAT] { s with dev := { s.dev with prom := t.dev.prom } } t)) ∧
  (∀ (up peer : Bool) (w : List Bool) (pay : List Byte) (s : State) (named : Nat), Carries up s w 11 pay →
    named = byteAt pay 1 % 16 + 1 → Does (.prmHello up w peer) s fun t =>
      (up = true → s.dev.prom.posSet = false → named ≤ 15 → t.dev.position = named ∧ t.dev.on F.PRM_STAT_POS_VALID = true) ∧
      (up = true → s.dev.prom.posSet = false → named = 16 → t.dev.on F.PRM_STAT_CHAIN_LONG = true) ∧
      (up = false ∨ s.dev.prom.posSet = true → t.dev.position = s.dev.position ∧
        t.dev.on F.PRM_STAT_POS_CONFLICT = (s.dev.on F.PRM_STAT_POS_CONFLICT ||
          (up && named != (if s.dev.on F.PRM_STAT_CHAIN_LONG then 16 else s.dev.position)))) ∧
      (t.dev.prt up).wish = (bitAt (byteAt pay 2) 0 && peer) ∧ t.pending = s.pending ∧ t.nv = s.nv ∧
      t.dev.time = { s.dev.time with holdAt := t.dev.time.holdAt }) ∧
  (∀ (w : List Bool) (pay : List Byte) (sub : Nat) (s : State), Carries false s w 2 pay →
    Does (.prmDelayReq w sub) s fun t => t.dev.prom.dnP.due = s.dev.prom.dnP.due ++ [(3, toLe 8 (s.dev.now4 sub))] ∧
      Says [] { s with dev := { s.dev with prom := t.dev.prom } } t) ∧
  (∀ (w : List Bool) (pay : List Byte) (sub t1 : Nat) (s : State) (twice : Int), Carries true s w 3 pay →
    s.dev.prom.t1 = some t1 → twice = toInt 66 (((s.dev.now4 sub : Int) - t1) % 2 ^ 66).toNat - toInt 64 (leAt pay 10 8 + 2 ^ 64 - leAt pay 2 8) →
    Does (.prmDelayResp w sub) s fun t => t.dev.prom.t1 = none ∧ t.dev.prom.hops = (twice :: s.dev.prom.hops).take 64 ∧
      t.dev.on F.PRM_HOP_VALID = decide (64 ≤ s.dev.prom.hopCount + 1) ∧
      (∀ k : Nat, s.dev.prom.hops = [] → twice = 2 * (k : Int) → k ≤ 65535 → t.dev.fld F.PRM_HOP_DELAY = k)) ∧
  (∀ (w : List Bool) (pay : List Byte) (sub : Nat) (s : State) (num : Int), Carries true s w 1 pay →
    num = toInt 66 (((s.dev.now4 sub : Int) - 4 * leAt pay 2 8 - s.dev.fld F.PRM_HOP_DELAY) % 2 ^ 66).toNat →
    (s.dev.fld F.TIME_CTL_SOURCE ≠ 2 ∨ s.dev.on F.PRM_STAT_CHAIN_LONG = true → Does (.prmTime w sub) s fun t =>
      t.dev.regs = s.dev.regs ∧ t.dev.time = s.dev.time) ∧
    (s.dev.fld F.TIME_CTL_SOURCE = 2 → s.dev.on F.PRM_STAT_CHAIN_LONG = false → Does (.prmTime w sub) s fun t =>
      (num.natAbs ≤ 2 ^ 32 → (4 * toInt 32 (t.dev.rd .PRM_TIME_OFS) - num).natAbs < 4) ∧
      (bitAt (byteAt pay 1) 7 = true → t.dev.on F.TIME_STAT_HOLDOVER = false) ∧
      (s.dev.on F.PRM_HOP_VALID = false → s.dev.locked = false → t.dev.locked = false) ∧ t.pending = s.pending ∧ t.nv = s.nv))

/-- R577, R675 to R682: the services of the chain. -/
def Obligations.PromenadeServices : Prop :=
  (∀ (up : Bool) (w : List Bool) (pay : List Byte) (s : State) (ty : Nat), Carries up s w ty pay →
    up = false ∨ (s.dev.prt up).lock = false ∨ bitAt (byteAt pay 1) 7 = true →
    (s.dev.seamOn up = true →
      (ty = 9 → Does (.prmSeamA up w) s fun t =>
        (∀ j, j < 4 → t.dev.rd (seamReg up) (seamArb up) (j + 4) =
            (if s.dev.magSeam up then magOnly (leAt pay (2 + 4 * j) 4) else leAt pay (2 + 4 * j) 4) ∧
          t.dev.rd (seamReg up) (seamArb up) j = s.dev.rd (seamReg up) (seamArb up) j) ∧
        t.dev.on F.ARB_CM_STAT_SEAM_REMOTE (seamArb up) = true ∧
        t.dev.on (if up then F.ARB_CM_STAT_SEAM_LO_VALID else F.ARB_CM_STAT_SEAM_HI_VALID) (seamArb up) = true ∧
        Says [seamReg up, .ARB_CM_STAT] { s with dev := { s.dev with prom := t.dev.prom } } t) ∧
      (ty = 10 → Does (.prmSeamB up w) s fun t =>
        (if up then t.dev.prom.edgeUp else t.dev.prom.edgeDn) = BitVec.ofNat 32 (
          if t.dev.on F.ARB_CM_STAT_SEAM_MAG_ONLY (seamArb up) then magOnly (leAt pay 6 4) else leAt pay 6 4) ∧
        t.dev.on F.ARB_CM_STAT_SEAM_MAG_ONLY (seamArb up) =
          (bitAt (byteAt pay 10) 0 || (up && !s.dev.on F.PRM_STAT_COHERENT)) ∧
        Says [.ARB_CM_STAT] { s with dev := { s.dev with prom := t.dev.prom } } t)) ∧
    (s.dev.seamOn up = false → ∀ c, c = .prmSeamA up w ∨ c = .prmSeamB up w → Does c s fun t => t.dev.regs = s.dev.regs) ∧
    (ty = 6 → Does (.prmProbe up w) s fun t =>
      (t.dev.prt up).due = (s.dev.prt up).due ++ [(7, (pay.drop 2).take 10 ++ toLe 1 (b2n (s.dev.seamOn up)))] ∧
      (s.dev.seamOn up = true →
        ({ up := up, mine := false, coil := byteAt pay 10, time := leAt pay 2 8 } : SeamSlot) ∈ t.dev.prom.slots) ∧
      t.dev.regs = s.dev.regs) ∧
    (∀ x : SeamSlot, x = { up := up, mine := true, coil := byteAt pay 10, time := leAt pay 2 8 } → ty = 7 → Does (.prmProbeAck up w) s fun t =>
      (x ∉ s.dev.prom.asked → t.dev.prom.slots = s.dev.prom.slots) ∧
      (x ∈ s.dev.prom.asked → t.dev.prom.slots = if bitAt (byteAt pay 12) 0 then s.dev.prom.slots ++ [x] else s.dev.prom.slots) ∧
      t.dev.regs = s.dev.regs)) ∧
  (∀ (up : Bool) (coil : Fin 192) (meas : List (Nat × Int × Int)) (s : State),
    ((∀ x ∈ s.dev.prom.slots, x.up = up → x.coil ≠ coil.val) → Idle (.seamProbeSlot up coil meas) s) ∧
    (∀ x, s.dev.prom.slots = [x] → x.up = up → x.coil = coil.val → x.mine = false → meas = [] → 339 * x.time ≤ s.dev.netU →
      Does (.seamProbeSlot up coil meas) s fun t =>
        t = { s with dev := { s.dev with prom := { s.dev.prom with slots := [] } } }) ∧
    (∀ x, s.dev.prom.slots = [x] → x.up = up → x.coil = coil.val → x.mine = true → 339 * x.time ≤ s.dev.netU →
      s.dev.coilFree coil = false ∨ s.dev.batchMay (arbOf coil) [coil.val % 8] = false ∨ s.dev.arbProbes (arbOf coil) = false ∨
        (s.dev.arb (arbOf coil)).pilot ≠ [] → Does (.seamProbeSlot up coil meas) s fun t =>
        t = { s with dev := { s.dev with prom := { s.dev.prom with slots := [] } } })) ∧
  (∀ (w : List Bool) (pay : List Byte) (own : Fin 65536) (coh sw : Bool) (s : State) (e : Int), Carries true s w 5 pay →
    s.dev.prom.upP.lock = false → s.dev.on F.PRM_STAT_CHAIN_LONG = false → e = s.dev.phaseErr (leAt pay 2 2) own →
    (s.dev.on F.PRM_CTL_PHASE_EN = false ∨ s.dev.position = 0 → Does (.prmPhase w own coh sw) s fun t => t.dev.regs = s.dev.regs) ∧
    (s.dev.on F.PRM_CTL_PHASE_EN = true → 1 ≤ s.dev.position → Does (.prmPhase w own coh sw) s fun t =>
      (e = 0 ∨ (∃ x, s.dev.prom.movedAt = some x ∧ s.dev.tc < x + 2387) → t.dev.fld F.PRM_PHASE_CORR = s.dev.fld F.PRM_PHASE_CORR) ∧
      (e ≠ 0 → (∀ x, s.dev.prom.movedAt = some x → x + 2387 ≤ s.dev.tc) →
        (t.dev.fld F.PRM_PHASE_CORR : Int) = (s.dev.fld F.PRM_PHASE_CORR + e.sign) % 1024 ∧ t.dev.prom.movedAt = some s.dev.tc) ∧
      (1310720000000000 * 5 < e.natAbs * 360 ∨ toInt 32 (leAt pay 4 4) ≠ s.dev.fldI F.SYN_TRIM_STEPS ∨ sw = true →
        t.dev.on F.PRM_STAT_COHERENT = false ∧ t.dev.prom.cohRun = 0) ∧
      (e.natAbs * 360 ≤ 1310720000000000 * 2 → toInt 32 (leAt pay 4 4) = s.dev.fldI F.SYN_TRIM_STEPS → sw = false →
        coh = true ∨ byteAt pay 1 % 16 = 0 →
        t.dev.on F.PRM_STAT_COHERENT = (s.dev.on F.PRM_STAT_COHERENT || decide (15 ≤ s.dev.prom.cohRun)) ∧
        t.dev.prom.cohRun = sat 16 (s.dev.prom.cohRun + 1)) ∧
      Says [.PRM_PHASE, .PRM_STAT, .ARB_CM_STAT] { s with dev := { s.dev with prom := t.dev.prom } } t)) ∧
  (∀ (v : Word) (s : State) (T num : Nat), T = s.dev.pair .PRM_EPOCH_T_L .PRM_EPOCH_T_H →
    num = (s.dev.fld F.PRM_EPOCH_CTL_NUM + 1) % 65536 → Does (.epochSend v) s fun t =>
      t.dev.fld F.PRM_EPOCH_CTL_FOLLOW = bits v.toNat 0 6 ∧
      (T < s.dev.now + 1000000 → t.dev.on F.PRM_EPOCH_CTL_LATE = true ∧ t.dev.prom = s.dev.prom ∧ t.dev.pavs = s.dev.pavs) ∧
      (s.dev.now + 1000000 ≤ T → t.dev.fld F.PRM_EPOCH_CTL_NUM = num ∧
        t.dev.prom.dnP.due = s.dev.prom.dnP.due ++ [(4, toLe 8 T ++ toLe 2 num)] ∧
        (∀ p l, p < 6 → (s.dev.pav p).gate.pend = some l → (t.dev.pav p).gate.pend =
          some (if l.follow ∧ bitAt v.toNat p then { l with base := T, follow := false } else l))) ∧
      Works [.PRM_EPOCH_CTL, .PRM_EPOCH_T_L, .PRM_EPOCH_T_H] s t) ∧
  (∀ (w : List Bool) (pay : List Byte) (s : State) (T num : Nat), Carries true s w 4 pay → s.dev.prom.upP.lock = false →
    s.dev.on F.PRM_STAT_CHAIN_LONG = false → T = leAt pay 2 8 → num = leAt pay 10 2 → Does (.prmEpoch w) s fun t =>
      t.dev.pair .PRM_EPOCH_T_L .PRM_EPOCH_T_H = T ∧ t.dev.fld F.PRM_EPOCH_CTL_NUM = num ∧
      t.dev.prom.dnP.due = s.dev.prom.dnP.due ++ [(4, toLe 8 T ++ toLe 2 num)] ∧
      (∀ p l, p < 6 → (s.dev.pav p).gate.pend = some l → (t.dev.pav p).gate.pend =
        some (if s.dev.now + 100000 ≤ T ∧ l.follow ∧ bitAt (s.dev.fld F.PRM_EPOCH_CTL_FOLLOW) p then
          { l with base := T, follow := false } else l)) ∧
      t.pending = s.pending ∧ t.nv = s.nv ∧ t.dev.time = s.dev.time) ∧
  (∀ (up : Bool) (w : List Bool) (pay : List Byte) (s : State) (m : List Byte), Carries up s w 8 pay →
    (s.dev.prt up).lock = false → m = toLe 2 (leAt pay 2 2) ++ toLe 1 (byteAt pay 4) ++ toLe 1 (byteAt pay 5) ++ toLe 1 (byteAt pay 6 + 1) →
    Does (.prmFault up w) s fun t => t.dev.fld F.FLT_LAST_CODE = 0x0041 ∧ Posted .fault 0x3FF t ∧
      bitAt (t.dev.rd .HIF_MISC_STAT) 1 = true ∧
      (t.dev.prt (!up)).due = (if byteAt pay 5 = s.dev.position ∨ 15 ≤ byteAt pay 6 then (s.dev.prt (!up)).due
        else (s.dev.prt (!up)).due ++ [(8, m)]) ∧ (t.dev.prt up).due = (s.dev.prt up).due ∧
      (byteAt pay 4 = 3 → s.dev.on F.FLT_CTL_REMOTE_SAFE = true → t.dev.pwr.safe = true) ∧
      (byteAt pay 4 ≠ 3 ∨ s.dev.on F.FLT_CTL_REMOTE_SAFE = false → t.dev.pwr = s.dev.pwr ∧ t.dev.chans = s.dev.chans) ∧
      t.pending = s.pending ∧ t.nv = s.nv ∧ t.dev.time = s.dev.time)

/-! ### The register map (chapter 22) -/

/-- R685, R687, R692 to R695: the register map's reads and writes, with their frames. -/
def Obligations.RegisterAccess : Prop :=
  (∀ (sp : Space) (addr : BitVec 20) (ksk : Bool) (s : State), sp = .bar0 ∨ ksk = true → regAt (addr.toNat / 4 * 4) = none →
    Does (.pairLowRead sp addr ksk) s fun t => t = { s with dev := s.dev.emit (.readData ksk 0) }) ∧
  (∀ (addr : BitVec 20) (s : State) (a : Nat), a = addr.toNat / 4 * 4 →
    (∀ r : Fin 64, a = 4096 * r → Does (.pairLowRead .bar2 addr false) s fun t =>
      t = { s with dev := s.dev.emit (.readData false (s.dev.rd .HIF_RING_TAIL r)) }) ∧
    ((∀ r : Fin 64, a ≠ 4096 * r) → Does (.pairLowRead .bar2 addr false) s fun t =>
      t = { s with dev := s.dev.emit (.readData false 0) }) ∧
    (Does (.pairLowRead .bar4 addr false) s fun t => ∃ v, t = { s with dev := s.dev.emit (.readData false v) } ∧
      (∀ (k : Fin 72) (part : Fin 4), a = 16 * k + 4 * part → v = match part.val with
        | 0 => (s.dev.msix k).addrLo
        | 1 => (s.dev.msix k).addrHi
        | 2 => (s.dev.msix k).data
        | _ => b2n (s.dev.msix k).mask) ∧
      (∀ x k, x < 4 → k < 32 → a = 0x1000 + 4 * x → bitAt v k = (s.dev.msix (32 * x + k)).pend)) ∧
    (Does (.pairLowRead .config addr false) s fun t => ∃ v, t = { s with dev := s.dev.emit (.readData false v) } ∧
      (a = 0 → v = 0x01921F3D) ∧ (a = 8 → v = 0x118000B0))) ∧
  (∀ (sp : Space) (addr : BitVec 20) (ksk : Bool) (s : State) (l h : RegName) (i j : Nat), sp = .bar0 ∨ ksk = true →
    (l, h) ∈ [(RegName.SYS_LEDGER_HITS_L, RegName.SYS_LEDGER_HITS_H), (.SYS_LEDGER_MISS_L, .SYS_LEDGER_MISS_H), (.TMR_SC_L, .TMR_SC_H),
      (.PRM_EPOCH_T_L, .PRM_EPOCH_T_H), (.FLT_FIRST_T_L, .FLT_FIRST_T_H), (.HIF_RING_BASE_L, .HIF_RING_BASE_H),
      (.PAV_GATE_BASE_L, .PAV_GATE_BASE_H)] →
    (regAt (addr.toNat / 4 * 4) = some (l, i, j) → tblFind (s.dev.shadows ksk) (regKey l i j) = none →
      Does (.pairLowRead sp addr ksk) s fun t =>
        t.dev.out = s.dev.out ++ [.readData ksk (s.dev.rd l i j)] ∧
        tblFind (t.dev.shadows ksk) (regKey h i j) = some (s.dev.rd h i j) ∧
        t.dev.shadows (!ksk) = s.dev.shadows (!ksk) ∧ t.dev.regs = s.dev.regs ∧
        Says [] { s with dev := { s.dev with ksk := t.dev.ksk } } t) ∧
    (regAt (addr.toNat / 4 * 4) = some (h, i, j) → Does (.pairLowRead sp addr ksk) s fun t =>
      t.dev.out = s.dev.out ++ [.readData ksk ((tblFind (s.dev.shadows ksk) (regKey h i j)).getD (s.dev.rd h i j))] ∧
      tblFind (t.dev.shadows ksk) (regKey h i j) = none ∧
      t.dev.shadows (!ksk) = s.dev.shadows (!ksk) ∧ t.dev.regs = s.dev.regs ∧
      Says [] { s with dev := { s.dev with ksk := t.dev.ksk } } t)) ∧
  (∀ (addr : BitVec 20) (v : Word) (s : State), (∀ sp, addr.toNat % 4 ≠ 0 → Idle (.registerWrite sp addr v) s) ∧
    (regAt addr.toNat = none → Idle (.registerWrite .bar0 addr v) s)) ∧
  (∀ (addr : BitVec 20) (v : Word) (s : State),
    (∀ r : Fin 32, addr.toNat = 4096 * r → exec (.registerWrite .bar2 addr v) s = exec (.commandDoorbell r v) s) ∧
    (∀ r : Fin 32, addr.toNat = 4096 * (32 + r) → exec (.registerWrite .bar2 addr v) s = exec (.eventDoorbell r v) s) ∧
    ((∀ r : Fin 64, addr.toNat ≠ 4096 * r) → Idle (.registerWrite .bar2 addr v) s) ∧
    (addr.toNat = 0 → Idle (.registerWrite .config addr v) s)) ∧
  (∀ (addr : BitVec 20) (v : Word) (s : State) (r : RegName) (i j : Nat), addr.toNat % 4 = 0 → regAt addr.toNat = some (r, i, j) →
    s.dev.writeDevice s.nv false r i j v.toNat = none → s.dev.writeUnit s.nv r i j v.toNat = none →
    (∀ f ∈ fieldRows r, f.isSealed = false) → Does (.registerWrite .bar0 addr v) s fun t =>
      OnlyRegs [(r, i, j)] s t ∧
      ∀ f ∈ fieldRows r, ∀ x, x = bits v.toNat f.fld.lo f.fld.w → t.dev.fld f.fld i j = match f.acc with
        | .rw => if inRange f.rng x then x else s.dev.fld f.fld i j
        | .w1c => s.dev.fld f.fld i j &&& (2 ^ f.fld.w - 1 - x)
        | _ => s.dev.fld f.fld i j) ∧
  (∀ (addr : BitVec 20) (v : Word) (s : State), 0x480 ≤ addr.toNat → Idle (.registerWrite .bar4 addr v) s) ∧
  (∀ (k : Fin 72) (part : Fin 4) (addr : BitVec 20) (v : Word) (s : State) (row : MsixRow), addr.toNat = 16 * k + 4 * part →
    row = s.dev.msix k → Does (.registerWrite .bar4 addr v) s fun t =>
      (part = 0 → t.dev.msix k = { row with addrLo := v.toNat / 4 * 4 }) ∧
      (part = 1 → t.dev.msix k = { row with addrHi := v.toNat }) ∧
      (part = 2 → t.dev.msix k = { row with data := v.toNat }) ∧
      (part = 3 → t.dev.msix k = { row with
        mask := bitAt v.toNat 0, pend := row.pend && (bitAt v.toNat 0 || !s.dev.host.msixEn || !s.dev.mayReq) }) ∧
      t.dev.out = s.dev.out ++ (if part = 3 ∧ bitAt v.toNat 0 = false ∧ row.pend = true ∧ s.dev.host.msixEn = true ∧
        s.dev.mayReq = true then [.msix k (row.addrLo + 2 ^ 32 * row.addrHi) row.data] else []) ∧
      (∀ m, m ≠ k.val → t.dev.msix m = s.dev.msix m) ∧ t.dev.regs = s.dev.regs ∧ Says [] s t)

/-! ### The machine -/

/-- The block's step, in place of fetching and decoding. -/
def Obligations.StepRunsFrontCommand : Prop :=
  (∀ (c : Instr) (rest : List Instr) (s : State), s.pending = c :: rest → step s = exec c { s with pending := rest }) ∧
  (∀ (c : Instr) (s : State), Does c s fun t => t.pending = s.pending) ∧
  (∀ s : State, s.pending = [] → ∃ t, step s = .next t ∧ t = { s with dev := { s.dev with time := t.dev.time } } ∧
    (s.dev.pwr.boot = .loading ∨ s.dev.pwr.boot = .running → t.dev.time.tc * 67800000 + t.dev.time.carFrac =
      s.dev.time.tc * 67800000 + s.dev.time.carFrac + s.dev.carStep) ∧
    (s.dev.pwr.boot ≠ .loading → s.dev.pwr.boot ≠ .running → t = s)) ∧
  (∀ (c : Instr) (due : Nat) (s : State),
    (c = .positionTimeout ∧ due = 5 * tcMs ∧ s.dev.prom.posSet = false ∧ s.dev.laneUp true = false) ∨
      (∃ up, c = .prmLaneDown up ∧ due = (s.dev.prt up).rxAt + 112 ∧ s.dev.laneUp up = true) →
    exec c s = exec c { s with dev := s.dev.runTo due }) ∧
  (∀ (d : Dev) (due : Nat), d.pwr.boot = .running → d.carStep ≠ 0 → due ≤ (d.runTo due).tc ∧ (due ≤ d.tc → d.runTo due = d) ∧
    d.runTo due = { d with time := (d.runTo due).time }) ∧
  (∀ (nbits w : Nat) (s : State), decodeTableWord nbits w = none ∧ s.withFetchWord nbits w = s)

/-- R601, R686: the state after reset. -/
def Obligations.ResetState : Prop :=
  State.reset.pending = [] ∧ State.reset.dev.pwr.held = [0] ∧ State.reset.dev.pwr.boot = .held ∧
  State.reset.dev.rd .PWR_CTL = 0x00000001 ∧ State.reset.dev.rd .SYN_CTL = 0x00000100 ∧ State.reset.dev.rd .SYN_TRIM = 0 ∧
  State.reset.dev.rd .TIME_CTL = 0x003C0000 ∧ State.reset.dev.rd .TIME_STAT = 0 ∧ State.reset.dev.rd .SYS_LEDGER_CTL = 0x00800BB8 ∧
  (∀ t : Fin 16, State.reset.dev.rd .TMR_PRE t = 0x00010000 ∧ State.reset.dev.rd .TMR_PERIOD t = 0xFFFFFFFF) ∧
  State.reset.dev.rd .KSK_CTL = 0x00000001 ∧ State.reset.dev.rd .FLS_CTL = 0x01000000 ∧
  State.reset.dev.rd .FLS_CS_CFG 0 0 = 0x00011903 ∧ State.reset.dev.rd .FLS_CS_CFG 0 1 = 0x00011900 ∧
  State.reset.dev.rd .PRM_CTL = 0x00000023 ∧ State.reset.dev.rd .PRM_STAT = 0 ∧ State.reset.dev.rd .SEC_STAT = 0 ∧
  State.reset.dev.rd .FLT_CTL = 0x00000001 ∧ State.reset.dev.rd .CAL_LIMIT = 0x783C0F32 ∧
  State.reset.dev.rd .LDG_RST_CAUSE = 0x00000001 ∧ State.reset.dev.rd .LDG_EH = 0x00000003 ∧
  (∀ r : Fin 64, State.reset.dev.rd .HIF_RING_CFG r = 0x00000100 ∧ State.reset.dev.rd .HIF_RING_STAT r = 0x00000001) ∧
  (∀ n, State.reset.dev.ch n = {}) ∧ State.reset.dev.sess = [] ∧ State.reset.dev.host.inFlight = [] ∧ State.reset.dev.out = [] ∧
  lifeLegal State.reset.nv = true

/-- R495, R504 to R507, R512, of every command and the idle cycle. -/
def Obligations.LifeCycleNeverTurnsBack : Prop :=
  ∀ s t : State, lifeLegal s.nv = true → step s = .next t → lifeLegal t.nv = true ∧ Onward s.nv t.nv
end

