-- ==== Sys2Proof/Laws/Bits.lean ====
section
/-! SUPPORT. The laws of bit fields: a field reads what was put there, and disjoint fields stand. -/

namespace Sys2Proof.Machine

theorem bits_eq (v lo w : Nat) : bits v lo w = v / 2 ^ lo % 2 ^ w := by rw [bits, Nat.shiftRight_eq_div_pow]

theorem bits_lt (v lo w : Nat) : bits v lo w < 2 ^ w := Nat.mod_lt _ (Nat.two_pow_pos w)

/-- A number cut at a field: what lies below it, the field, and what lies above. -/
theorem bits_split (v lo w : Nat) : v = v % 2 ^ lo + 2 ^ lo * (bits v lo w + 2 ^ w * (v / 2 ^ (lo + w))) := by
  rw [bits_eq, Nat.pow_add, ← Nat.div_div_eq_div_mul, Nat.mod_add_div, Nat.mod_add_div]

theorem setBits_eq (v lo w x : Nat) : setBits v lo w x = v % 2 ^ lo + 2 ^ lo * (x % 2 ^ w + 2 ^ w * (v / 2 ^ (lo + w))) := by
  have h := bits_split v lo w
  generalize v / 2 ^ (lo + w) = a at *
  generalize v % 2 ^ lo = b at *
  unfold setBits
  generalize bits v lo w = c at *
  rw [h, Nat.mul_add, Nat.mul_add, Nat.mul_comm c, Nat.mul_comm (x % 2 ^ w)]
  omega

/-- A field reads what was put into it. -/
@[simp] theorem bits_setBits_same (v lo w x : Nat) : bits (setBits v lo w x) lo w = x % 2 ^ w := by
  rw [setBits_eq, bits_eq, Nat.add_mul_div_left _ _ (Nat.two_pow_pos lo), Nat.div_eq_of_lt (Nat.mod_lt _ (Nat.two_pow_pos lo)),
    Nat.zero_add, Nat.add_mul_mod_self_left, Nat.mod_mod]

/-- A field that lies below another is not touched. -/
theorem bits_setBits_below {v lo w x l k : Nat} (h : l + k ≤ lo) : bits (setBits v lo w x) l k = bits v l k := by
  have e : ∀ y : Nat, y / 2 ^ l % 2 ^ k = y % 2 ^ lo / 2 ^ l % 2 ^ k := by
    intro y
    obtain ⟨r, rfl⟩ : ∃ r, lo = l + (k + r) := ⟨lo - l - k, by omega⟩
    rw [Nat.pow_add 2 l, Nat.mod_mul_right_div_self, Nat.pow_add 2 k, Nat.mod_mul_right_mod]
  rw [bits_eq, bits_eq, e, e v, setBits_eq, Nat.add_mul_mod_self_left, Nat.mod_mod]

/-- A field that lies above another is not touched. -/
theorem bits_setBits_above {v lo w x l k : Nat} (h : lo + w ≤ l) : bits (setBits v lo w x) l k = bits v l k := by
  have e : setBits v lo w x / 2 ^ (lo + w) = v / 2 ^ (lo + w) := by
    rw [setBits_eq, Nat.pow_add, ← Nat.div_div_eq_div_mul, Nat.add_mul_div_left _ _ (Nat.two_pow_pos lo),
      Nat.div_eq_of_lt (Nat.mod_lt _ (Nat.two_pow_pos lo)), Nat.zero_add, Nat.add_mul_div_left _ _ (Nat.two_pow_pos w),
      Nat.div_eq_of_lt (Nat.mod_lt _ (Nat.two_pow_pos w)), Nat.zero_add]
  obtain ⟨r, rfl⟩ : ∃ r, l = (lo + w) + r := ⟨l - (lo + w), by omega⟩
  rw [bits_eq, bits_eq, Nat.pow_add 2 (lo + w) r, ← Nat.div_div_eq_div_mul, ← Nat.div_div_eq_div_mul, e]

/-- Disjoint fields stand. -/
theorem bits_setBits_other {v lo w x l k : Nat} (h : l + k ≤ lo ∨ lo + w ≤ l) : bits (setBits v lo w x) l k = bits v l k :=
  h.elim bits_setBits_below bits_setBits_above

/-- A register keeps its 32 bits when a field within them is put. -/
theorem setBits_lt {v lo w x n : Nat} (hv : v < 2 ^ n) (h : lo + w ≤ n) : setBits v lo w x < 2 ^ n := by
  obtain ⟨r, rfl⟩ : ∃ r, n = (lo + w) + r := ⟨n - (lo + w), by omega⟩
  have h1 : v / 2 ^ (lo + w) < 2 ^ r := by
    apply Nat.div_lt_of_lt_mul; rwa [← Nat.pow_add]
  have h2 := Nat.mod_lt x (Nat.two_pow_pos w)
  have h3 := Nat.mod_lt v (Nat.two_pow_pos lo)
  rw [setBits_eq, Nat.pow_add 2 (lo + w) r, Nat.pow_add 2 lo w, Nat.mul_assoc, ← Nat.pow_add 2 lo w]
  have h4 : x % 2 ^ w + 2 ^ w * (v / 2 ^ (lo + w)) + 1 ≤ 2 ^ w * 2 ^ r := by
    calc x % 2 ^ w + 2 ^ w * (v / 2 ^ (lo + w)) + 1 ≤ 2 ^ w + 2 ^ w * (v / 2 ^ (lo + w)) := by omega
      _ = 2 ^ w * (v / 2 ^ (lo + w) + 1) := by ring
      _ ≤ 2 ^ w * 2 ^ r := Nat.mul_le_mul_left _ h1
  calc _ < 2 ^ lo + 2 ^ lo * (x % 2 ^ w + 2 ^ w * (v / 2 ^ (lo + w))) := by omega
    _ = 2 ^ lo * (x % 2 ^ w + 2 ^ w * (v / 2 ^ (lo + w)) + 1) := by ring
    _ ≤ _ := Nat.mul_le_mul_left _ h4

end Sys2Proof.Machine
end

