-- ==== Sys2Proof/Laws/State.lean ====
section
/-! SUPPORT. What each update of the state leaves alone and what it writes, one lemma per field per update, so that no later proof
unfolds a record update. -/

namespace Sys2Proof.Machine

variable (d : Dev)

/-! ### wr -/

@[simp] theorem Dev.wr_time (r : RegName) (i j v : Nat) : (d.wr r i j v).time = d.time := rfl
@[simp] theorem Dev.wr_syn (r : RegName) (i j v : Nat) : (d.wr r i j v).syn = d.syn := rfl
@[simp] theorem Dev.wr_host (r : RegName) (i j v : Nat) : (d.wr r i j v).host = d.host := rfl
@[simp] theorem Dev.wr_pwr (r : RegName) (i j v : Nat) : (d.wr r i j v).pwr = d.pwr := rfl
@[simp] theorem Dev.wr_chans (r : RegName) (i j v : Nat) : (d.wr r i j v).chans = d.chans := rfl
@[simp] theorem Dev.wr_pavs (r : RegName) (i j v : Nat) : (d.wr r i j v).pavs = d.pavs := rfl
@[simp] theorem Dev.wr_arbs (r : RegName) (i j v : Nat) : (d.wr r i j v).arbs = d.arbs := rfl
@[simp] theorem Dev.wr_sess (r : RegName) (i j v : Nat) : (d.wr r i j v).sess = d.sess := rfl
@[simp] theorem Dev.wr_images (r : RegName) (i j v : Nat) : (d.wr r i j v).images = d.images := rfl
@[simp] theorem Dev.wr_ledger (r : RegName) (i j v : Nat) : (d.wr r i j v).ledger = d.ledger := rfl
@[simp] theorem Dev.wr_sec (r : RegName) (i j v : Nat) : (d.wr r i j v).sec = d.sec := rfl
@[simp] theorem Dev.wr_flt (r : RegName) (i j v : Nat) : (d.wr r i j v).flt = d.flt := rfl
@[simp] theorem Dev.wr_cal (r : RegName) (i j v : Nat) : (d.wr r i j v).cal = d.cal := rfl
@[simp] theorem Dev.wr_ksk (r : RegName) (i j v : Nat) : (d.wr r i j v).ksk = d.ksk := rfl
@[simp] theorem Dev.wr_flash (r : RegName) (i j v : Nat) : (d.wr r i j v).flash = d.flash := rfl
@[simp] theorem Dev.wr_timers (r : RegName) (i j v : Nat) : (d.wr r i j v).timers = d.timers := rfl
@[simp] theorem Dev.wr_prom (r : RegName) (i j v : Nat) : (d.wr r i j v).prom = d.prom := rfl
@[simp] theorem Dev.wr_out (r : RegName) (i j v : Nat) : (d.wr r i j v).out = d.out := rfl
@[simp] theorem Dev.wr_freeCtr (r : RegName) (i j v : Nat) : (d.wr r i j v).freeCtr = d.freeCtr := rfl

/-! ### setFld -/

@[simp] theorem Dev.setFld_time (f : Fld) (i j v : Nat) : (d.setFld f i j v).time = d.time := rfl
@[simp] theorem Dev.setFld_syn (f : Fld) (i j v : Nat) : (d.setFld f i j v).syn = d.syn := rfl
@[simp] theorem Dev.setFld_host (f : Fld) (i j v : Nat) : (d.setFld f i j v).host = d.host := rfl
@[simp] theorem Dev.setFld_pwr (f : Fld) (i j v : Nat) : (d.setFld f i j v).pwr = d.pwr := rfl
@[simp] theorem Dev.setFld_chans (f : Fld) (i j v : Nat) : (d.setFld f i j v).chans = d.chans := rfl
@[simp] theorem Dev.setFld_pavs (f : Fld) (i j v : Nat) : (d.setFld f i j v).pavs = d.pavs := rfl
@[simp] theorem Dev.setFld_arbs (f : Fld) (i j v : Nat) : (d.setFld f i j v).arbs = d.arbs := rfl
@[simp] theorem Dev.setFld_sess (f : Fld) (i j v : Nat) : (d.setFld f i j v).sess = d.sess := rfl
@[simp] theorem Dev.setFld_images (f : Fld) (i j v : Nat) : (d.setFld f i j v).images = d.images := rfl
@[simp] theorem Dev.setFld_ledger (f : Fld) (i j v : Nat) : (d.setFld f i j v).ledger = d.ledger := rfl
@[simp] theorem Dev.setFld_sec (f : Fld) (i j v : Nat) : (d.setFld f i j v).sec = d.sec := rfl
@[simp] theorem Dev.setFld_flt (f : Fld) (i j v : Nat) : (d.setFld f i j v).flt = d.flt := rfl
@[simp] theorem Dev.setFld_cal (f : Fld) (i j v : Nat) : (d.setFld f i j v).cal = d.cal := rfl
@[simp] theorem Dev.setFld_ksk (f : Fld) (i j v : Nat) : (d.setFld f i j v).ksk = d.ksk := rfl
@[simp] theorem Dev.setFld_flash (f : Fld) (i j v : Nat) : (d.setFld f i j v).flash = d.flash := rfl
@[simp] theorem Dev.setFld_timers (f : Fld) (i j v : Nat) : (d.setFld f i j v).timers = d.timers := rfl
@[simp] theorem Dev.setFld_prom (f : Fld) (i j v : Nat) : (d.setFld f i j v).prom = d.prom := rfl
@[simp] theorem Dev.setFld_out (f : Fld) (i j v : Nat) : (d.setFld f i j v).out = d.out := rfl
@[simp] theorem Dev.setFld_freeCtr (f : Fld) (i j v : Nat) : (d.setFld f i j v).freeCtr = d.freeCtr := rfl

/-! ### setOn -/

@[simp] theorem Dev.setOn_time (f : Fld) (i j : Nat) (b : Bool) : (d.setOn f i j b).time = d.time := rfl
@[simp] theorem Dev.setOn_syn (f : Fld) (i j : Nat) (b : Bool) : (d.setOn f i j b).syn = d.syn := rfl
@[simp] theorem Dev.setOn_host (f : Fld) (i j : Nat) (b : Bool) : (d.setOn f i j b).host = d.host := rfl
@[simp] theorem Dev.setOn_pwr (f : Fld) (i j : Nat) (b : Bool) : (d.setOn f i j b).pwr = d.pwr := rfl
@[simp] theorem Dev.setOn_chans (f : Fld) (i j : Nat) (b : Bool) : (d.setOn f i j b).chans = d.chans := rfl
@[simp] theorem Dev.setOn_pavs (f : Fld) (i j : Nat) (b : Bool) : (d.setOn f i j b).pavs = d.pavs := rfl
@[simp] theorem Dev.setOn_arbs (f : Fld) (i j : Nat) (b : Bool) : (d.setOn f i j b).arbs = d.arbs := rfl
@[simp] theorem Dev.setOn_sess (f : Fld) (i j : Nat) (b : Bool) : (d.setOn f i j b).sess = d.sess := rfl
@[simp] theorem Dev.setOn_images (f : Fld) (i j : Nat) (b : Bool) : (d.setOn f i j b).images = d.images := rfl
@[simp] theorem Dev.setOn_ledger (f : Fld) (i j : Nat) (b : Bool) : (d.setOn f i j b).ledger = d.ledger := rfl
@[simp] theorem Dev.setOn_sec (f : Fld) (i j : Nat) (b : Bool) : (d.setOn f i j b).sec = d.sec := rfl
@[simp] theorem Dev.setOn_flt (f : Fld) (i j : Nat) (b : Bool) : (d.setOn f i j b).flt = d.flt := rfl
@[simp] theorem Dev.setOn_cal (f : Fld) (i j : Nat) (b : Bool) : (d.setOn f i j b).cal = d.cal := rfl
@[simp] theorem Dev.setOn_ksk (f : Fld) (i j : Nat) (b : Bool) : (d.setOn f i j b).ksk = d.ksk := rfl
@[simp] theorem Dev.setOn_flash (f : Fld) (i j : Nat) (b : Bool) : (d.setOn f i j b).flash = d.flash := rfl
@[simp] theorem Dev.setOn_timers (f : Fld) (i j : Nat) (b : Bool) : (d.setOn f i j b).timers = d.timers := rfl
@[simp] theorem Dev.setOn_prom (f : Fld) (i j : Nat) (b : Bool) : (d.setOn f i j b).prom = d.prom := rfl
@[simp] theorem Dev.setOn_out (f : Fld) (i j : Nat) (b : Bool) : (d.setOn f i j b).out = d.out := rfl
@[simp] theorem Dev.setOn_freeCtr (f : Fld) (i j : Nat) (b : Bool) : (d.setOn f i j b).freeCtr = d.freeCtr := rfl

/-! ### addFld -/

@[simp] theorem Dev.addFld_time (f : Fld) (i j n : Nat) : (d.addFld f i j n).time = d.time := rfl
@[simp] theorem Dev.addFld_syn (f : Fld) (i j n : Nat) : (d.addFld f i j n).syn = d.syn := rfl
@[simp] theorem Dev.addFld_host (f : Fld) (i j n : Nat) : (d.addFld f i j n).host = d.host := rfl
@[simp] theorem Dev.addFld_pwr (f : Fld) (i j n : Nat) : (d.addFld f i j n).pwr = d.pwr := rfl
@[simp] theorem Dev.addFld_chans (f : Fld) (i j n : Nat) : (d.addFld f i j n).chans = d.chans := rfl
@[simp] theorem Dev.addFld_pavs (f : Fld) (i j n : Nat) : (d.addFld f i j n).pavs = d.pavs := rfl
@[simp] theorem Dev.addFld_arbs (f : Fld) (i j n : Nat) : (d.addFld f i j n).arbs = d.arbs := rfl
@[simp] theorem Dev.addFld_sess (f : Fld) (i j n : Nat) : (d.addFld f i j n).sess = d.sess := rfl
@[simp] theorem Dev.addFld_images (f : Fld) (i j n : Nat) : (d.addFld f i j n).images = d.images := rfl
@[simp] theorem Dev.addFld_ledger (f : Fld) (i j n : Nat) : (d.addFld f i j n).ledger = d.ledger := rfl
@[simp] theorem Dev.addFld_sec (f : Fld) (i j n : Nat) : (d.addFld f i j n).sec = d.sec := rfl
@[simp] theorem Dev.addFld_flt (f : Fld) (i j n : Nat) : (d.addFld f i j n).flt = d.flt := rfl
@[simp] theorem Dev.addFld_cal (f : Fld) (i j n : Nat) : (d.addFld f i j n).cal = d.cal := rfl
@[simp] theorem Dev.addFld_ksk (f : Fld) (i j n : Nat) : (d.addFld f i j n).ksk = d.ksk := rfl
@[simp] theorem Dev.addFld_flash (f : Fld) (i j n : Nat) : (d.addFld f i j n).flash = d.flash := rfl
@[simp] theorem Dev.addFld_timers (f : Fld) (i j n : Nat) : (d.addFld f i j n).timers = d.timers := rfl
@[simp] theorem Dev.addFld_prom (f : Fld) (i j n : Nat) : (d.addFld f i j n).prom = d.prom := rfl
@[simp] theorem Dev.addFld_out (f : Fld) (i j n : Nat) : (d.addFld f i j n).out = d.out := rfl
@[simp] theorem Dev.addFld_freeCtr (f : Fld) (i j n : Nat) : (d.addFld f i j n).freeCtr = d.freeCtr := rfl

/-! ### addPair -/

@[simp] theorem Dev.addPair_time (l h : RegName) (i j n : Nat) : (d.addPair l h i j n).time = d.time := rfl
@[simp] theorem Dev.addPair_syn (l h : RegName) (i j n : Nat) : (d.addPair l h i j n).syn = d.syn := rfl
@[simp] theorem Dev.addPair_host (l h : RegName) (i j n : Nat) : (d.addPair l h i j n).host = d.host := rfl
@[simp] theorem Dev.addPair_pwr (l h : RegName) (i j n : Nat) : (d.addPair l h i j n).pwr = d.pwr := rfl
@[simp] theorem Dev.addPair_chans (l h : RegName) (i j n : Nat) : (d.addPair l h i j n).chans = d.chans := rfl
@[simp] theorem Dev.addPair_pavs (l h : RegName) (i j n : Nat) : (d.addPair l h i j n).pavs = d.pavs := rfl
@[simp] theorem Dev.addPair_arbs (l h : RegName) (i j n : Nat) : (d.addPair l h i j n).arbs = d.arbs := rfl
@[simp] theorem Dev.addPair_sess (l h : RegName) (i j n : Nat) : (d.addPair l h i j n).sess = d.sess := rfl
@[simp] theorem Dev.addPair_images (l h : RegName) (i j n : Nat) : (d.addPair l h i j n).images = d.images := rfl
@[simp] theorem Dev.addPair_ledger (l h : RegName) (i j n : Nat) : (d.addPair l h i j n).ledger = d.ledger := rfl
@[simp] theorem Dev.addPair_sec (l h : RegName) (i j n : Nat) : (d.addPair l h i j n).sec = d.sec := rfl
@[simp] theorem Dev.addPair_flt (l h : RegName) (i j n : Nat) : (d.addPair l h i j n).flt = d.flt := rfl
@[simp] theorem Dev.addPair_cal (l h : RegName) (i j n : Nat) : (d.addPair l h i j n).cal = d.cal := rfl
@[simp] theorem Dev.addPair_ksk (l h : RegName) (i j n : Nat) : (d.addPair l h i j n).ksk = d.ksk := rfl
@[simp] theorem Dev.addPair_flash (l h : RegName) (i j n : Nat) : (d.addPair l h i j n).flash = d.flash := rfl
@[simp] theorem Dev.addPair_timers (l h : RegName) (i j n : Nat) : (d.addPair l h i j n).timers = d.timers := rfl
@[simp] theorem Dev.addPair_prom (l h : RegName) (i j n : Nat) : (d.addPair l h i j n).prom = d.prom := rfl
@[simp] theorem Dev.addPair_out (l h : RegName) (i j n : Nat) : (d.addPair l h i j n).out = d.out := rfl
@[simp] theorem Dev.addPair_freeCtr (l h : RegName) (i j n : Nat) : (d.addPair l h i j n).freeCtr = d.freeCtr := rfl

/-! ### setPair -/

@[simp] theorem Dev.setPair_time (l h : RegName) (i j v : Nat) : (d.setPair l h i j v).time = d.time := rfl
@[simp] theorem Dev.setPair_syn (l h : RegName) (i j v : Nat) : (d.setPair l h i j v).syn = d.syn := rfl
@[simp] theorem Dev.setPair_host (l h : RegName) (i j v : Nat) : (d.setPair l h i j v).host = d.host := rfl
@[simp] theorem Dev.setPair_pwr (l h : RegName) (i j v : Nat) : (d.setPair l h i j v).pwr = d.pwr := rfl
@[simp] theorem Dev.setPair_chans (l h : RegName) (i j v : Nat) : (d.setPair l h i j v).chans = d.chans := rfl
@[simp] theorem Dev.setPair_pavs (l h : RegName) (i j v : Nat) : (d.setPair l h i j v).pavs = d.pavs := rfl
@[simp] theorem Dev.setPair_arbs (l h : RegName) (i j v : Nat) : (d.setPair l h i j v).arbs = d.arbs := rfl
@[simp] theorem Dev.setPair_sess (l h : RegName) (i j v : Nat) : (d.setPair l h i j v).sess = d.sess := rfl
@[simp] theorem Dev.setPair_images (l h : RegName) (i j v : Nat) : (d.setPair l h i j v).images = d.images := rfl
@[simp] theorem Dev.setPair_ledger (l h : RegName) (i j v : Nat) : (d.setPair l h i j v).ledger = d.ledger := rfl
@[simp] theorem Dev.setPair_sec (l h : RegName) (i j v : Nat) : (d.setPair l h i j v).sec = d.sec := rfl
@[simp] theorem Dev.setPair_flt (l h : RegName) (i j v : Nat) : (d.setPair l h i j v).flt = d.flt := rfl
@[simp] theorem Dev.setPair_cal (l h : RegName) (i j v : Nat) : (d.setPair l h i j v).cal = d.cal := rfl
@[simp] theorem Dev.setPair_ksk (l h : RegName) (i j v : Nat) : (d.setPair l h i j v).ksk = d.ksk := rfl
@[simp] theorem Dev.setPair_flash (l h : RegName) (i j v : Nat) : (d.setPair l h i j v).flash = d.flash := rfl
@[simp] theorem Dev.setPair_timers (l h : RegName) (i j v : Nat) : (d.setPair l h i j v).timers = d.timers := rfl
@[simp] theorem Dev.setPair_prom (l h : RegName) (i j v : Nat) : (d.setPair l h i j v).prom = d.prom := rfl
@[simp] theorem Dev.setPair_out (l h : RegName) (i j v : Nat) : (d.setPair l h i j v).out = d.out := rfl
@[simp] theorem Dev.setPair_freeCtr (l h : RegName) (i j v : Nat) : (d.setPair l h i j v).freeCtr = d.freeCtr := rfl

/-! ### modCh -/

@[simp] theorem Dev.modCh_regs (n : Nat) (f : Ch → Ch) : (d.modCh n f).regs = d.regs := rfl
@[simp] theorem Dev.modCh_time (n : Nat) (f : Ch → Ch) : (d.modCh n f).time = d.time := rfl
@[simp] theorem Dev.modCh_syn (n : Nat) (f : Ch → Ch) : (d.modCh n f).syn = d.syn := rfl
@[simp] theorem Dev.modCh_host (n : Nat) (f : Ch → Ch) : (d.modCh n f).host = d.host := rfl
@[simp] theorem Dev.modCh_pwr (n : Nat) (f : Ch → Ch) : (d.modCh n f).pwr = d.pwr := rfl
@[simp] theorem Dev.modCh_pavs (n : Nat) (f : Ch → Ch) : (d.modCh n f).pavs = d.pavs := rfl
@[simp] theorem Dev.modCh_arbs (n : Nat) (f : Ch → Ch) : (d.modCh n f).arbs = d.arbs := rfl
@[simp] theorem Dev.modCh_sess (n : Nat) (f : Ch → Ch) : (d.modCh n f).sess = d.sess := rfl
@[simp] theorem Dev.modCh_images (n : Nat) (f : Ch → Ch) : (d.modCh n f).images = d.images := rfl
@[simp] theorem Dev.modCh_ledger (n : Nat) (f : Ch → Ch) : (d.modCh n f).ledger = d.ledger := rfl
@[simp] theorem Dev.modCh_sec (n : Nat) (f : Ch → Ch) : (d.modCh n f).sec = d.sec := rfl
@[simp] theorem Dev.modCh_flt (n : Nat) (f : Ch → Ch) : (d.modCh n f).flt = d.flt := rfl
@[simp] theorem Dev.modCh_cal (n : Nat) (f : Ch → Ch) : (d.modCh n f).cal = d.cal := rfl
@[simp] theorem Dev.modCh_ksk (n : Nat) (f : Ch → Ch) : (d.modCh n f).ksk = d.ksk := rfl
@[simp] theorem Dev.modCh_flash (n : Nat) (f : Ch → Ch) : (d.modCh n f).flash = d.flash := rfl
@[simp] theorem Dev.modCh_timers (n : Nat) (f : Ch → Ch) : (d.modCh n f).timers = d.timers := rfl
@[simp] theorem Dev.modCh_prom (n : Nat) (f : Ch → Ch) : (d.modCh n f).prom = d.prom := rfl
@[simp] theorem Dev.modCh_out (n : Nat) (f : Ch → Ch) : (d.modCh n f).out = d.out := rfl
@[simp] theorem Dev.modCh_freeCtr (n : Nat) (f : Ch → Ch) : (d.modCh n f).freeCtr = d.freeCtr := rfl

/-! ### modPav -/

@[simp] theorem Dev.modPav_regs (p : Nat) (f : Pav → Pav) : (d.modPav p f).regs = d.regs := rfl
@[simp] theorem Dev.modPav_time (p : Nat) (f : Pav → Pav) : (d.modPav p f).time = d.time := rfl
@[simp] theorem Dev.modPav_syn (p : Nat) (f : Pav → Pav) : (d.modPav p f).syn = d.syn := rfl
@[simp] theorem Dev.modPav_host (p : Nat) (f : Pav → Pav) : (d.modPav p f).host = d.host := rfl
@[simp] theorem Dev.modPav_pwr (p : Nat) (f : Pav → Pav) : (d.modPav p f).pwr = d.pwr := rfl
@[simp] theorem Dev.modPav_chans (p : Nat) (f : Pav → Pav) : (d.modPav p f).chans = d.chans := rfl
@[simp] theorem Dev.modPav_arbs (p : Nat) (f : Pav → Pav) : (d.modPav p f).arbs = d.arbs := rfl
@[simp] theorem Dev.modPav_sess (p : Nat) (f : Pav → Pav) : (d.modPav p f).sess = d.sess := rfl
@[simp] theorem Dev.modPav_images (p : Nat) (f : Pav → Pav) : (d.modPav p f).images = d.images := rfl
@[simp] theorem Dev.modPav_ledger (p : Nat) (f : Pav → Pav) : (d.modPav p f).ledger = d.ledger := rfl
@[simp] theorem Dev.modPav_sec (p : Nat) (f : Pav → Pav) : (d.modPav p f).sec = d.sec := rfl
@[simp] theorem Dev.modPav_flt (p : Nat) (f : Pav → Pav) : (d.modPav p f).flt = d.flt := rfl
@[simp] theorem Dev.modPav_cal (p : Nat) (f : Pav → Pav) : (d.modPav p f).cal = d.cal := rfl
@[simp] theorem Dev.modPav_ksk (p : Nat) (f : Pav → Pav) : (d.modPav p f).ksk = d.ksk := rfl
@[simp] theorem Dev.modPav_flash (p : Nat) (f : Pav → Pav) : (d.modPav p f).flash = d.flash := rfl
@[simp] theorem Dev.modPav_timers (p : Nat) (f : Pav → Pav) : (d.modPav p f).timers = d.timers := rfl
@[simp] theorem Dev.modPav_prom (p : Nat) (f : Pav → Pav) : (d.modPav p f).prom = d.prom := rfl
@[simp] theorem Dev.modPav_out (p : Nat) (f : Pav → Pav) : (d.modPav p f).out = d.out := rfl
@[simp] theorem Dev.modPav_freeCtr (p : Nat) (f : Pav → Pav) : (d.modPav p f).freeCtr = d.freeCtr := rfl

/-! ### modArb -/

@[simp] theorem Dev.modArb_regs (a : Nat) (f : Arb → Arb) : (d.modArb a f).regs = d.regs := rfl
@[simp] theorem Dev.modArb_time (a : Nat) (f : Arb → Arb) : (d.modArb a f).time = d.time := rfl
@[simp] theorem Dev.modArb_syn (a : Nat) (f : Arb → Arb) : (d.modArb a f).syn = d.syn := rfl
@[simp] theorem Dev.modArb_host (a : Nat) (f : Arb → Arb) : (d.modArb a f).host = d.host := rfl
@[simp] theorem Dev.modArb_pwr (a : Nat) (f : Arb → Arb) : (d.modArb a f).pwr = d.pwr := rfl
@[simp] theorem Dev.modArb_chans (a : Nat) (f : Arb → Arb) : (d.modArb a f).chans = d.chans := rfl
@[simp] theorem Dev.modArb_pavs (a : Nat) (f : Arb → Arb) : (d.modArb a f).pavs = d.pavs := rfl
@[simp] theorem Dev.modArb_sess (a : Nat) (f : Arb → Arb) : (d.modArb a f).sess = d.sess := rfl
@[simp] theorem Dev.modArb_images (a : Nat) (f : Arb → Arb) : (d.modArb a f).images = d.images := rfl
@[simp] theorem Dev.modArb_ledger (a : Nat) (f : Arb → Arb) : (d.modArb a f).ledger = d.ledger := rfl
@[simp] theorem Dev.modArb_sec (a : Nat) (f : Arb → Arb) : (d.modArb a f).sec = d.sec := rfl
@[simp] theorem Dev.modArb_flt (a : Nat) (f : Arb → Arb) : (d.modArb a f).flt = d.flt := rfl
@[simp] theorem Dev.modArb_cal (a : Nat) (f : Arb → Arb) : (d.modArb a f).cal = d.cal := rfl
@[simp] theorem Dev.modArb_ksk (a : Nat) (f : Arb → Arb) : (d.modArb a f).ksk = d.ksk := rfl
@[simp] theorem Dev.modArb_flash (a : Nat) (f : Arb → Arb) : (d.modArb a f).flash = d.flash := rfl
@[simp] theorem Dev.modArb_timers (a : Nat) (f : Arb → Arb) : (d.modArb a f).timers = d.timers := rfl
@[simp] theorem Dev.modArb_prom (a : Nat) (f : Arb → Arb) : (d.modArb a f).prom = d.prom := rfl
@[simp] theorem Dev.modArb_out (a : Nat) (f : Arb → Arb) : (d.modArb a f).out = d.out := rfl
@[simp] theorem Dev.modArb_freeCtr (a : Nat) (f : Arb → Arb) : (d.modArb a f).freeCtr = d.freeCtr := rfl

/-! ### modSes -/

@[simp] theorem Dev.modSes_regs (n : Nat) (f : Sess → Sess) : (d.modSes n f).regs = d.regs := rfl
@[simp] theorem Dev.modSes_time (n : Nat) (f : Sess → Sess) : (d.modSes n f).time = d.time := rfl
@[simp] theorem Dev.modSes_syn (n : Nat) (f : Sess → Sess) : (d.modSes n f).syn = d.syn := rfl
@[simp] theorem Dev.modSes_host (n : Nat) (f : Sess → Sess) : (d.modSes n f).host = d.host := rfl
@[simp] theorem Dev.modSes_pwr (n : Nat) (f : Sess → Sess) : (d.modSes n f).pwr = d.pwr := rfl
@[simp] theorem Dev.modSes_chans (n : Nat) (f : Sess → Sess) : (d.modSes n f).chans = d.chans := rfl
@[simp] theorem Dev.modSes_pavs (n : Nat) (f : Sess → Sess) : (d.modSes n f).pavs = d.pavs := rfl
@[simp] theorem Dev.modSes_arbs (n : Nat) (f : Sess → Sess) : (d.modSes n f).arbs = d.arbs := rfl
@[simp] theorem Dev.modSes_images (n : Nat) (f : Sess → Sess) : (d.modSes n f).images = d.images := rfl
@[simp] theorem Dev.modSes_ledger (n : Nat) (f : Sess → Sess) : (d.modSes n f).ledger = d.ledger := rfl
@[simp] theorem Dev.modSes_sec (n : Nat) (f : Sess → Sess) : (d.modSes n f).sec = d.sec := rfl
@[simp] theorem Dev.modSes_flt (n : Nat) (f : Sess → Sess) : (d.modSes n f).flt = d.flt := rfl
@[simp] theorem Dev.modSes_cal (n : Nat) (f : Sess → Sess) : (d.modSes n f).cal = d.cal := rfl
@[simp] theorem Dev.modSes_ksk (n : Nat) (f : Sess → Sess) : (d.modSes n f).ksk = d.ksk := rfl
@[simp] theorem Dev.modSes_flash (n : Nat) (f : Sess → Sess) : (d.modSes n f).flash = d.flash := rfl
@[simp] theorem Dev.modSes_timers (n : Nat) (f : Sess → Sess) : (d.modSes n f).timers = d.timers := rfl
@[simp] theorem Dev.modSes_prom (n : Nat) (f : Sess → Sess) : (d.modSes n f).prom = d.prom := rfl
@[simp] theorem Dev.modSes_out (n : Nat) (f : Sess → Sess) : (d.modSes n f).out = d.out := rfl
@[simp] theorem Dev.modSes_freeCtr (n : Nat) (f : Sess → Sess) : (d.modSes n f).freeCtr = d.freeCtr := rfl

/-! ### modImg -/

@[simp] theorem Dev.modImg_regs (n : Nat) (f : Image → Image) : (d.modImg n f).regs = d.regs := rfl
@[simp] theorem Dev.modImg_time (n : Nat) (f : Image → Image) : (d.modImg n f).time = d.time := rfl
@[simp] theorem Dev.modImg_syn (n : Nat) (f : Image → Image) : (d.modImg n f).syn = d.syn := rfl
@[simp] theorem Dev.modImg_host (n : Nat) (f : Image → Image) : (d.modImg n f).host = d.host := rfl
@[simp] theorem Dev.modImg_pwr (n : Nat) (f : Image → Image) : (d.modImg n f).pwr = d.pwr := rfl
@[simp] theorem Dev.modImg_chans (n : Nat) (f : Image → Image) : (d.modImg n f).chans = d.chans := rfl
@[simp] theorem Dev.modImg_pavs (n : Nat) (f : Image → Image) : (d.modImg n f).pavs = d.pavs := rfl
@[simp] theorem Dev.modImg_arbs (n : Nat) (f : Image → Image) : (d.modImg n f).arbs = d.arbs := rfl
@[simp] theorem Dev.modImg_sess (n : Nat) (f : Image → Image) : (d.modImg n f).sess = d.sess := rfl
@[simp] theorem Dev.modImg_ledger (n : Nat) (f : Image → Image) : (d.modImg n f).ledger = d.ledger := rfl
@[simp] theorem Dev.modImg_sec (n : Nat) (f : Image → Image) : (d.modImg n f).sec = d.sec := rfl
@[simp] theorem Dev.modImg_flt (n : Nat) (f : Image → Image) : (d.modImg n f).flt = d.flt := rfl
@[simp] theorem Dev.modImg_cal (n : Nat) (f : Image → Image) : (d.modImg n f).cal = d.cal := rfl
@[simp] theorem Dev.modImg_ksk (n : Nat) (f : Image → Image) : (d.modImg n f).ksk = d.ksk := rfl
@[simp] theorem Dev.modImg_flash (n : Nat) (f : Image → Image) : (d.modImg n f).flash = d.flash := rfl
@[simp] theorem Dev.modImg_timers (n : Nat) (f : Image → Image) : (d.modImg n f).timers = d.timers := rfl
@[simp] theorem Dev.modImg_prom (n : Nat) (f : Image → Image) : (d.modImg n f).prom = d.prom := rfl
@[simp] theorem Dev.modImg_out (n : Nat) (f : Image → Image) : (d.modImg n f).out = d.out := rfl
@[simp] theorem Dev.modImg_freeCtr (n : Nat) (f : Image → Image) : (d.modImg n f).freeCtr = d.freeCtr := rfl

/-! ### modTmr -/

@[simp] theorem Dev.modTmr_regs (t : Nat) (f : Timer → Timer) : (d.modTmr t f).regs = d.regs := rfl
@[simp] theorem Dev.modTmr_time (t : Nat) (f : Timer → Timer) : (d.modTmr t f).time = d.time := rfl
@[simp] theorem Dev.modTmr_syn (t : Nat) (f : Timer → Timer) : (d.modTmr t f).syn = d.syn := rfl
@[simp] theorem Dev.modTmr_host (t : Nat) (f : Timer → Timer) : (d.modTmr t f).host = d.host := rfl
@[simp] theorem Dev.modTmr_pwr (t : Nat) (f : Timer → Timer) : (d.modTmr t f).pwr = d.pwr := rfl
@[simp] theorem Dev.modTmr_chans (t : Nat) (f : Timer → Timer) : (d.modTmr t f).chans = d.chans := rfl
@[simp] theorem Dev.modTmr_pavs (t : Nat) (f : Timer → Timer) : (d.modTmr t f).pavs = d.pavs := rfl
@[simp] theorem Dev.modTmr_arbs (t : Nat) (f : Timer → Timer) : (d.modTmr t f).arbs = d.arbs := rfl
@[simp] theorem Dev.modTmr_sess (t : Nat) (f : Timer → Timer) : (d.modTmr t f).sess = d.sess := rfl
@[simp] theorem Dev.modTmr_images (t : Nat) (f : Timer → Timer) : (d.modTmr t f).images = d.images := rfl
@[simp] theorem Dev.modTmr_ledger (t : Nat) (f : Timer → Timer) : (d.modTmr t f).ledger = d.ledger := rfl
@[simp] theorem Dev.modTmr_sec (t : Nat) (f : Timer → Timer) : (d.modTmr t f).sec = d.sec := rfl
@[simp] theorem Dev.modTmr_flt (t : Nat) (f : Timer → Timer) : (d.modTmr t f).flt = d.flt := rfl
@[simp] theorem Dev.modTmr_cal (t : Nat) (f : Timer → Timer) : (d.modTmr t f).cal = d.cal := rfl
@[simp] theorem Dev.modTmr_ksk (t : Nat) (f : Timer → Timer) : (d.modTmr t f).ksk = d.ksk := rfl
@[simp] theorem Dev.modTmr_flash (t : Nat) (f : Timer → Timer) : (d.modTmr t f).flash = d.flash := rfl
@[simp] theorem Dev.modTmr_prom (t : Nat) (f : Timer → Timer) : (d.modTmr t f).prom = d.prom := rfl
@[simp] theorem Dev.modTmr_out (t : Nat) (f : Timer → Timer) : (d.modTmr t f).out = d.out := rfl
@[simp] theorem Dev.modTmr_freeCtr (t : Nat) (f : Timer → Timer) : (d.modTmr t f).freeCtr = d.freeCtr := rfl

/-! ### modRing -/

@[simp] theorem Dev.modRing_regs (r : Nat) (f : Ring → Ring) : (d.modRing r f).regs = d.regs := rfl
@[simp] theorem Dev.modRing_time (r : Nat) (f : Ring → Ring) : (d.modRing r f).time = d.time := rfl
@[simp] theorem Dev.modRing_syn (r : Nat) (f : Ring → Ring) : (d.modRing r f).syn = d.syn := rfl
@[simp] theorem Dev.modRing_pwr (r : Nat) (f : Ring → Ring) : (d.modRing r f).pwr = d.pwr := rfl
@[simp] theorem Dev.modRing_chans (r : Nat) (f : Ring → Ring) : (d.modRing r f).chans = d.chans := rfl
@[simp] theorem Dev.modRing_pavs (r : Nat) (f : Ring → Ring) : (d.modRing r f).pavs = d.pavs := rfl
@[simp] theorem Dev.modRing_arbs (r : Nat) (f : Ring → Ring) : (d.modRing r f).arbs = d.arbs := rfl
@[simp] theorem Dev.modRing_sess (r : Nat) (f : Ring → Ring) : (d.modRing r f).sess = d.sess := rfl
@[simp] theorem Dev.modRing_images (r : Nat) (f : Ring → Ring) : (d.modRing r f).images = d.images := rfl
@[simp] theorem Dev.modRing_ledger (r : Nat) (f : Ring → Ring) : (d.modRing r f).ledger = d.ledger := rfl
@[simp] theorem Dev.modRing_sec (r : Nat) (f : Ring → Ring) : (d.modRing r f).sec = d.sec := rfl
@[simp] theorem Dev.modRing_flt (r : Nat) (f : Ring → Ring) : (d.modRing r f).flt = d.flt := rfl
@[simp] theorem Dev.modRing_cal (r : Nat) (f : Ring → Ring) : (d.modRing r f).cal = d.cal := rfl
@[simp] theorem Dev.modRing_ksk (r : Nat) (f : Ring → Ring) : (d.modRing r f).ksk = d.ksk := rfl
@[simp] theorem Dev.modRing_flash (r : Nat) (f : Ring → Ring) : (d.modRing r f).flash = d.flash := rfl
@[simp] theorem Dev.modRing_timers (r : Nat) (f : Ring → Ring) : (d.modRing r f).timers = d.timers := rfl
@[simp] theorem Dev.modRing_prom (r : Nat) (f : Ring → Ring) : (d.modRing r f).prom = d.prom := rfl
@[simp] theorem Dev.modRing_out (r : Nat) (f : Ring → Ring) : (d.modRing r f).out = d.out := rfl
@[simp] theorem Dev.modRing_freeCtr (r : Nat) (f : Ring → Ring) : (d.modRing r f).freeCtr = d.freeCtr := rfl

/-! ### emit -/

@[simp] theorem Dev.emit_regs (o : Output) : (d.emit o).regs = d.regs := rfl
@[simp] theorem Dev.emit_time (o : Output) : (d.emit o).time = d.time := rfl
@[simp] theorem Dev.emit_syn (o : Output) : (d.emit o).syn = d.syn := rfl
@[simp] theorem Dev.emit_host (o : Output) : (d.emit o).host = d.host := rfl
@[simp] theorem Dev.emit_pwr (o : Output) : (d.emit o).pwr = d.pwr := rfl
@[simp] theorem Dev.emit_chans (o : Output) : (d.emit o).chans = d.chans := rfl
@[simp] theorem Dev.emit_pavs (o : Output) : (d.emit o).pavs = d.pavs := rfl
@[simp] theorem Dev.emit_arbs (o : Output) : (d.emit o).arbs = d.arbs := rfl
@[simp] theorem Dev.emit_sess (o : Output) : (d.emit o).sess = d.sess := rfl
@[simp] theorem Dev.emit_images (o : Output) : (d.emit o).images = d.images := rfl
@[simp] theorem Dev.emit_ledger (o : Output) : (d.emit o).ledger = d.ledger := rfl
@[simp] theorem Dev.emit_sec (o : Output) : (d.emit o).sec = d.sec := rfl
@[simp] theorem Dev.emit_flt (o : Output) : (d.emit o).flt = d.flt := rfl
@[simp] theorem Dev.emit_cal (o : Output) : (d.emit o).cal = d.cal := rfl
@[simp] theorem Dev.emit_ksk (o : Output) : (d.emit o).ksk = d.ksk := rfl
@[simp] theorem Dev.emit_flash (o : Output) : (d.emit o).flash = d.flash := rfl
@[simp] theorem Dev.emit_timers (o : Output) : (d.emit o).timers = d.timers := rfl
@[simp] theorem Dev.emit_prom (o : Output) : (d.emit o).prom = d.prom := rfl
@[simp] theorem Dev.emit_freeCtr (o : Output) : (d.emit o).freeCtr = d.freeCtr := rfl

@[simp] theorem Dev.free_regs : d.free.2.regs = d.regs := rfl
@[simp] theorem Dev.free_time : d.free.2.time = d.time := rfl
@[simp] theorem Dev.free_syn : d.free.2.syn = d.syn := rfl
@[simp] theorem Dev.free_host : d.free.2.host = d.host := rfl
@[simp] theorem Dev.free_pwr : d.free.2.pwr = d.pwr := rfl
@[simp] theorem Dev.free_chans : d.free.2.chans = d.chans := rfl
@[simp] theorem Dev.free_pavs : d.free.2.pavs = d.pavs := rfl
@[simp] theorem Dev.free_arbs : d.free.2.arbs = d.arbs := rfl
@[simp] theorem Dev.free_sess : d.free.2.sess = d.sess := rfl
@[simp] theorem Dev.free_images : d.free.2.images = d.images := rfl
@[simp] theorem Dev.free_ledger : d.free.2.ledger = d.ledger := rfl
@[simp] theorem Dev.free_sec : d.free.2.sec = d.sec := rfl
@[simp] theorem Dev.free_flt : d.free.2.flt = d.flt := rfl
@[simp] theorem Dev.free_cal : d.free.2.cal = d.cal := rfl
@[simp] theorem Dev.free_ksk : d.free.2.ksk = d.ksk := rfl
@[simp] theorem Dev.free_flash : d.free.2.flash = d.flash := rfl
@[simp] theorem Dev.free_timers : d.free.2.timers = d.timers := rfl
@[simp] theorem Dev.free_prom : d.free.2.prom = d.prom := rfl
@[simp] theorem Dev.free_out : d.free.2.out = d.out := rfl
@[simp] theorem Dev.free_freeCtr : d.free.2.freeCtr = d.freeCtr + 1 := rfl
@[simp] theorem Dev.free_val : d.free.1 = Config.freeNat d.freeCtr := rfl
@[simp] theorem Dev.emit_out (o : Output) : (d.emit o).out = d.out ++ [o] := rfl

/-! ### What a record reads after its own and after other updates -/

@[simp] theorem Dev.wr_ch (r : RegName) (i j v : Nat) (k : Nat) : (d.wr r i j v).ch k = d.ch k := rfl
@[simp] theorem Dev.wr_pav (r : RegName) (i j v : Nat) (k : Nat) : (d.wr r i j v).pav k = d.pav k := rfl
@[simp] theorem Dev.wr_arb (r : RegName) (i j v : Nat) (k : Nat) : (d.wr r i j v).arb k = d.arb k := rfl
@[simp] theorem Dev.wr_ses (r : RegName) (i j v : Nat) (k : Nat) : (d.wr r i j v).ses k = d.ses k := rfl
@[simp] theorem Dev.wr_img (r : RegName) (i j v : Nat) (k : Nat) : (d.wr r i j v).img k = d.img k := rfl
@[simp] theorem Dev.wr_tmr (r : RegName) (i j v : Nat) (k : Nat) : (d.wr r i j v).tmr k = d.tmr k := rfl
@[simp] theorem Dev.wr_ring (r : RegName) (i j v : Nat) (k : Nat) : (d.wr r i j v).ring k = d.ring k := rfl
@[simp] theorem Dev.setFld_ch (f : Fld) (i j v : Nat) (k : Nat) : (d.setFld f i j v).ch k = d.ch k := rfl
@[simp] theorem Dev.setFld_pav (f : Fld) (i j v : Nat) (k : Nat) : (d.setFld f i j v).pav k = d.pav k := rfl
@[simp] theorem Dev.setFld_arb (f : Fld) (i j v : Nat) (k : Nat) : (d.setFld f i j v).arb k = d.arb k := rfl
@[simp] theorem Dev.setFld_ses (f : Fld) (i j v : Nat) (k : Nat) : (d.setFld f i j v).ses k = d.ses k := rfl
@[simp] theorem Dev.setFld_img (f : Fld) (i j v : Nat) (k : Nat) : (d.setFld f i j v).img k = d.img k := rfl
@[simp] theorem Dev.setFld_tmr (f : Fld) (i j v : Nat) (k : Nat) : (d.setFld f i j v).tmr k = d.tmr k := rfl
@[simp] theorem Dev.setFld_ring (f : Fld) (i j v : Nat) (k : Nat) : (d.setFld f i j v).ring k = d.ring k := rfl
@[simp] theorem Dev.setOn_ch (f : Fld) (i j : Nat) (b : Bool) (k : Nat) : (d.setOn f i j b).ch k = d.ch k := rfl
@[simp] theorem Dev.setOn_pav (f : Fld) (i j : Nat) (b : Bool) (k : Nat) : (d.setOn f i j b).pav k = d.pav k := rfl
@[simp] theorem Dev.setOn_arb (f : Fld) (i j : Nat) (b : Bool) (k : Nat) : (d.setOn f i j b).arb k = d.arb k := rfl
@[simp] theorem Dev.setOn_ses (f : Fld) (i j : Nat) (b : Bool) (k : Nat) : (d.setOn f i j b).ses k = d.ses k := rfl
@[simp] theorem Dev.setOn_img (f : Fld) (i j : Nat) (b : Bool) (k : Nat) : (d.setOn f i j b).img k = d.img k := rfl
@[simp] theorem Dev.setOn_tmr (f : Fld) (i j : Nat) (b : Bool) (k : Nat) : (d.setOn f i j b).tmr k = d.tmr k := rfl
@[simp] theorem Dev.setOn_ring (f : Fld) (i j : Nat) (b : Bool) (k : Nat) : (d.setOn f i j b).ring k = d.ring k := rfl
@[simp] theorem Dev.addFld_ch (f : Fld) (i j n : Nat) (k : Nat) : (d.addFld f i j n).ch k = d.ch k := rfl
@[simp] theorem Dev.addFld_pav (f : Fld) (i j n : Nat) (k : Nat) : (d.addFld f i j n).pav k = d.pav k := rfl
@[simp] theorem Dev.addFld_arb (f : Fld) (i j n : Nat) (k : Nat) : (d.addFld f i j n).arb k = d.arb k := rfl
@[simp] theorem Dev.addFld_ses (f : Fld) (i j n : Nat) (k : Nat) : (d.addFld f i j n).ses k = d.ses k := rfl
@[simp] theorem Dev.addFld_img (f : Fld) (i j n : Nat) (k : Nat) : (d.addFld f i j n).img k = d.img k := rfl
@[simp] theorem Dev.addFld_tmr (f : Fld) (i j n : Nat) (k : Nat) : (d.addFld f i j n).tmr k = d.tmr k := rfl
@[simp] theorem Dev.addFld_ring (f : Fld) (i j n : Nat) (k : Nat) : (d.addFld f i j n).ring k = d.ring k := rfl
@[simp] theorem Dev.addPair_ch (l h : RegName) (i j n : Nat) (k : Nat) : (d.addPair l h i j n).ch k = d.ch k := rfl
@[simp] theorem Dev.addPair_pav (l h : RegName) (i j n : Nat) (k : Nat) : (d.addPair l h i j n).pav k = d.pav k := rfl
@[simp] theorem Dev.addPair_arb (l h : RegName) (i j n : Nat) (k : Nat) : (d.addPair l h i j n).arb k = d.arb k := rfl
@[simp] theorem Dev.addPair_ses (l h : RegName) (i j n : Nat) (k : Nat) : (d.addPair l h i j n).ses k = d.ses k := rfl
@[simp] theorem Dev.addPair_img (l h : RegName) (i j n : Nat) (k : Nat) : (d.addPair l h i j n).img k = d.img k := rfl
@[simp] theorem Dev.addPair_tmr (l h : RegName) (i j n : Nat) (k : Nat) : (d.addPair l h i j n).tmr k = d.tmr k := rfl
@[simp] theorem Dev.addPair_ring (l h : RegName) (i j n : Nat) (k : Nat) : (d.addPair l h i j n).ring k = d.ring k := rfl
@[simp] theorem Dev.setPair_ch (l h : RegName) (i j v : Nat) (k : Nat) : (d.setPair l h i j v).ch k = d.ch k := rfl
@[simp] theorem Dev.setPair_pav (l h : RegName) (i j v : Nat) (k : Nat) : (d.setPair l h i j v).pav k = d.pav k := rfl
@[simp] theorem Dev.setPair_arb (l h : RegName) (i j v : Nat) (k : Nat) : (d.setPair l h i j v).arb k = d.arb k := rfl
@[simp] theorem Dev.setPair_ses (l h : RegName) (i j v : Nat) (k : Nat) : (d.setPair l h i j v).ses k = d.ses k := rfl
@[simp] theorem Dev.setPair_img (l h : RegName) (i j v : Nat) (k : Nat) : (d.setPair l h i j v).img k = d.img k := rfl
@[simp] theorem Dev.setPair_tmr (l h : RegName) (i j v : Nat) (k : Nat) : (d.setPair l h i j v).tmr k = d.tmr k := rfl
@[simp] theorem Dev.setPair_ring (l h : RegName) (i j v : Nat) (k : Nat) : (d.setPair l h i j v).ring k = d.ring k := rfl
@[simp] theorem Dev.modCh_pav (n : Nat) (f : Ch → Ch) (k : Nat) : (d.modCh n f).pav k = d.pav k := rfl
@[simp] theorem Dev.modCh_arb (n : Nat) (f : Ch → Ch) (k : Nat) : (d.modCh n f).arb k = d.arb k := rfl
@[simp] theorem Dev.modCh_ses (n : Nat) (f : Ch → Ch) (k : Nat) : (d.modCh n f).ses k = d.ses k := rfl
@[simp] theorem Dev.modCh_img (n : Nat) (f : Ch → Ch) (k : Nat) : (d.modCh n f).img k = d.img k := rfl
@[simp] theorem Dev.modCh_tmr (n : Nat) (f : Ch → Ch) (k : Nat) : (d.modCh n f).tmr k = d.tmr k := rfl
@[simp] theorem Dev.modCh_ring (n : Nat) (f : Ch → Ch) (k : Nat) : (d.modCh n f).ring k = d.ring k := rfl
@[simp] theorem Dev.modCh_rd (n : Nat) (f : Ch → Ch) (x : RegName) (k l : Nat) : (d.modCh n f).rd x k l = d.rd x k l := rfl
@[simp] theorem Dev.modCh_fld (n : Nat) (f : Ch → Ch) (x : Fld) (k l : Nat) : (d.modCh n f).fld x k l = d.fld x k l := rfl
@[simp] theorem Dev.modCh_on (n : Nat) (f : Ch → Ch) (x : Fld) (k l : Nat) : (d.modCh n f).on x k l = d.on x k l := rfl
@[simp] theorem Dev.modPav_ch (p : Nat) (f : Pav → Pav) (k : Nat) : (d.modPav p f).ch k = d.ch k := rfl
@[simp] theorem Dev.modPav_arb (p : Nat) (f : Pav → Pav) (k : Nat) : (d.modPav p f).arb k = d.arb k := rfl
@[simp] theorem Dev.modPav_ses (p : Nat) (f : Pav → Pav) (k : Nat) : (d.modPav p f).ses k = d.ses k := rfl
@[simp] theorem Dev.modPav_img (p : Nat) (f : Pav → Pav) (k : Nat) : (d.modPav p f).img k = d.img k := rfl
@[simp] theorem Dev.modPav_tmr (p : Nat) (f : Pav → Pav) (k : Nat) : (d.modPav p f).tmr k = d.tmr k := rfl
@[simp] theorem Dev.modPav_ring (p : Nat) (f : Pav → Pav) (k : Nat) : (d.modPav p f).ring k = d.ring k := rfl
@[simp] theorem Dev.modPav_rd (p : Nat) (f : Pav → Pav) (x : RegName) (k l : Nat) : (d.modPav p f).rd x k l = d.rd x k l := rfl
@[simp] theorem Dev.modPav_fld (p : Nat) (f : Pav → Pav) (x : Fld) (k l : Nat) : (d.modPav p f).fld x k l = d.fld x k l := rfl
@[simp] theorem Dev.modPav_on (p : Nat) (f : Pav → Pav) (x : Fld) (k l : Nat) : (d.modPav p f).on x k l = d.on x k l := rfl
@[simp] theorem Dev.modArb_ch (a : Nat) (f : Arb → Arb) (k : Nat) : (d.modArb a f).ch k = d.ch k := rfl
@[simp] theorem Dev.modArb_pav (a : Nat) (f : Arb → Arb) (k : Nat) : (d.modArb a f).pav k = d.pav k := rfl
@[simp] theorem Dev.modArb_ses (a : Nat) (f : Arb → Arb) (k : Nat) : (d.modArb a f).ses k = d.ses k := rfl
@[simp] theorem Dev.modArb_img (a : Nat) (f : Arb → Arb) (k : Nat) : (d.modArb a f).img k = d.img k := rfl
@[simp] theorem Dev.modArb_tmr (a : Nat) (f : Arb → Arb) (k : Nat) : (d.modArb a f).tmr k = d.tmr k := rfl
@[simp] theorem Dev.modArb_ring (a : Nat) (f : Arb → Arb) (k : Nat) : (d.modArb a f).ring k = d.ring k := rfl
@[simp] theorem Dev.modArb_rd (a : Nat) (f : Arb → Arb) (x : RegName) (k l : Nat) : (d.modArb a f).rd x k l = d.rd x k l := rfl
@[simp] theorem Dev.modArb_fld (a : Nat) (f : Arb → Arb) (x : Fld) (k l : Nat) : (d.modArb a f).fld x k l = d.fld x k l := rfl
@[simp] theorem Dev.modArb_on (a : Nat) (f : Arb → Arb) (x : Fld) (k l : Nat) : (d.modArb a f).on x k l = d.on x k l := rfl
@[simp] theorem Dev.modSes_ch (n : Nat) (f : Sess → Sess) (k : Nat) : (d.modSes n f).ch k = d.ch k := rfl
@[simp] theorem Dev.modSes_pav (n : Nat) (f : Sess → Sess) (k : Nat) : (d.modSes n f).pav k = d.pav k := rfl
@[simp] theorem Dev.modSes_arb (n : Nat) (f : Sess → Sess) (k : Nat) : (d.modSes n f).arb k = d.arb k := rfl
@[simp] theorem Dev.modSes_img (n : Nat) (f : Sess → Sess) (k : Nat) : (d.modSes n f).img k = d.img k := rfl
@[simp] theorem Dev.modSes_tmr (n : Nat) (f : Sess → Sess) (k : Nat) : (d.modSes n f).tmr k = d.tmr k := rfl
@[simp] theorem Dev.modSes_ring (n : Nat) (f : Sess → Sess) (k : Nat) : (d.modSes n f).ring k = d.ring k := rfl
@[simp] theorem Dev.modSes_rd (n : Nat) (f : Sess → Sess) (x : RegName) (k l : Nat) : (d.modSes n f).rd x k l = d.rd x k l := rfl
@[simp] theorem Dev.modSes_fld (n : Nat) (f : Sess → Sess) (x : Fld) (k l : Nat) : (d.modSes n f).fld x k l = d.fld x k l := rfl
@[simp] theorem Dev.modSes_on (n : Nat) (f : Sess → Sess) (x : Fld) (k l : Nat) : (d.modSes n f).on x k l = d.on x k l := rfl
@[simp] theorem Dev.modImg_ch (n : Nat) (f : Image → Image) (k : Nat) : (d.modImg n f).ch k = d.ch k := rfl
@[simp] theorem Dev.modImg_pav (n : Nat) (f : Image → Image) (k : Nat) : (d.modImg n f).pav k = d.pav k := rfl
@[simp] theorem Dev.modImg_arb (n : Nat) (f : Image → Image) (k : Nat) : (d.modImg n f).arb k = d.arb k := rfl
@[simp] theorem Dev.modImg_ses (n : Nat) (f : Image → Image) (k : Nat) : (d.modImg n f).ses k = d.ses k := rfl
@[simp] theorem Dev.modImg_tmr (n : Nat) (f : Image → Image) (k : Nat) : (d.modImg n f).tmr k = d.tmr k := rfl
@[simp] theorem Dev.modImg_ring (n : Nat) (f : Image → Image) (k : Nat) : (d.modImg n f).ring k = d.ring k := rfl
@[simp] theorem Dev.modImg_rd (n : Nat) (f : Image → Image) (x : RegName) (k l : Nat) : (d.modImg n f).rd x k l = d.rd x k l := rfl
@[simp] theorem Dev.modImg_fld (n : Nat) (f : Image → Image) (x : Fld) (k l : Nat) : (d.modImg n f).fld x k l = d.fld x k l := rfl
@[simp] theorem Dev.modImg_on (n : Nat) (f : Image → Image) (x : Fld) (k l : Nat) : (d.modImg n f).on x k l = d.on x k l := rfl
@[simp] theorem Dev.modTmr_ch (t : Nat) (f : Timer → Timer) (k : Nat) : (d.modTmr t f).ch k = d.ch k := rfl
@[simp] theorem Dev.modTmr_pav (t : Nat) (f : Timer → Timer) (k : Nat) : (d.modTmr t f).pav k = d.pav k := rfl
@[simp] theorem Dev.modTmr_arb (t : Nat) (f : Timer → Timer) (k : Nat) : (d.modTmr t f).arb k = d.arb k := rfl
@[simp] theorem Dev.modTmr_ses (t : Nat) (f : Timer → Timer) (k : Nat) : (d.modTmr t f).ses k = d.ses k := rfl
@[simp] theorem Dev.modTmr_img (t : Nat) (f : Timer → Timer) (k : Nat) : (d.modTmr t f).img k = d.img k := rfl
@[simp] theorem Dev.modTmr_ring (t : Nat) (f : Timer → Timer) (k : Nat) : (d.modTmr t f).ring k = d.ring k := rfl
@[simp] theorem Dev.modTmr_rd (t : Nat) (f : Timer → Timer) (x : RegName) (k l : Nat) : (d.modTmr t f).rd x k l = d.rd x k l := rfl
@[simp] theorem Dev.modTmr_fld (t : Nat) (f : Timer → Timer) (x : Fld) (k l : Nat) : (d.modTmr t f).fld x k l = d.fld x k l := rfl
@[simp] theorem Dev.modTmr_on (t : Nat) (f : Timer → Timer) (x : Fld) (k l : Nat) : (d.modTmr t f).on x k l = d.on x k l := rfl
@[simp] theorem Dev.modRing_ch (r : Nat) (f : Ring → Ring) (k : Nat) : (d.modRing r f).ch k = d.ch k := rfl
@[simp] theorem Dev.modRing_pav (r : Nat) (f : Ring → Ring) (k : Nat) : (d.modRing r f).pav k = d.pav k := rfl
@[simp] theorem Dev.modRing_arb (r : Nat) (f : Ring → Ring) (k : Nat) : (d.modRing r f).arb k = d.arb k := rfl
@[simp] theorem Dev.modRing_ses (r : Nat) (f : Ring → Ring) (k : Nat) : (d.modRing r f).ses k = d.ses k := rfl
@[simp] theorem Dev.modRing_img (r : Nat) (f : Ring → Ring) (k : Nat) : (d.modRing r f).img k = d.img k := rfl
@[simp] theorem Dev.modRing_tmr (r : Nat) (f : Ring → Ring) (k : Nat) : (d.modRing r f).tmr k = d.tmr k := rfl
@[simp] theorem Dev.modRing_rd (r : Nat) (f : Ring → Ring) (x : RegName) (k l : Nat) : (d.modRing r f).rd x k l = d.rd x k l := rfl
@[simp] theorem Dev.modRing_fld (r : Nat) (f : Ring → Ring) (x : Fld) (k l : Nat) : (d.modRing r f).fld x k l = d.fld x k l := rfl
@[simp] theorem Dev.modRing_on (r : Nat) (f : Ring → Ring) (x : Fld) (k l : Nat) : (d.modRing r f).on x k l = d.on x k l := rfl
@[simp] theorem Dev.emit_ch (o : Output) (k : Nat) : (d.emit o).ch k = d.ch k := rfl
@[simp] theorem Dev.emit_pav (o : Output) (k : Nat) : (d.emit o).pav k = d.pav k := rfl
@[simp] theorem Dev.emit_arb (o : Output) (k : Nat) : (d.emit o).arb k = d.arb k := rfl
@[simp] theorem Dev.emit_ses (o : Output) (k : Nat) : (d.emit o).ses k = d.ses k := rfl
@[simp] theorem Dev.emit_img (o : Output) (k : Nat) : (d.emit o).img k = d.img k := rfl
@[simp] theorem Dev.emit_tmr (o : Output) (k : Nat) : (d.emit o).tmr k = d.tmr k := rfl
@[simp] theorem Dev.emit_ring (o : Output) (k : Nat) : (d.emit o).ring k = d.ring k := rfl
@[simp] theorem Dev.emit_rd (o : Output) (x : RegName) (k l : Nat) : (d.emit o).rd x k l = d.rd x k l := rfl
@[simp] theorem Dev.emit_fld (o : Output) (x : Fld) (k l : Nat) : (d.emit o).fld x k l = d.fld x k l := rfl
@[simp] theorem Dev.emit_on (o : Output) (x : Fld) (k l : Nat) : (d.emit o).on x k l = d.on x k l := rfl

/-! ### Lifts -/

theorem onDev_next (f : NonVol → Dev → Dev) (s : State) : onDev f s = .next { s with dev := f s.nv s.dev } := rfl

theorem onBoth_next (f : NonVol → Dev → NonVol × Dev) (s : State) :
    onBoth f s = .next { s with nv := (f s.nv s.dev).1, dev := (f s.nv s.dev).2 } := rfl

/-- What a lift over the volatile state answers: the queue and the persistent memory stand. -/
theorem onDev_frame {f : NonVol → Dev → Dev} {s t : State} (h : onDev f s = .next t) :
    t.pending = s.pending ∧ t.nv = s.nv ∧ t.dev = f s.nv s.dev := by
  cases h; exact ⟨rfl, rfl, rfl⟩

end Sys2Proof.Machine
end

