-- ==== Sys2Proof/Laws/Tbl.lean ====
section
/-! SUPPORT. The laws of the sparse tables: a read after a write, other keys, and the canonical form. -/

namespace Sys2Proof.Machine

variable {α : Type}

@[simp] theorem tblGet_nil (k : Nat) (d : α) : tblGet ([] : Tbl α) k d = d := rfl

theorem tblGet_put_same (m : Tbl α) (k : Nat) (v d : α) : tblGet (tblPut m k v) k d = v := by
  induction m with
  | nil => simp [tblPut, tblGet]
  | cons e t ih =>
    obtain ⟨k', v'⟩ := e
    unfold tblPut
    split
    · simp [tblGet]
    · split
      · simp [tblGet]
      · rename_i h; simp [tblGet, h, ih]

theorem tblGet_put_other (m : Tbl α) {k j : Nat} (v d : α) (h : k ≠ j) : tblGet (tblPut m k v) j d = tblGet m j d := by
  induction m with
  | nil => simp [tblPut, tblGet, h]
  | cons e t ih =>
    obtain ⟨k', v'⟩ := e
    unfold tblPut
    split
    · simp [tblGet, h]
    · split
      · rename_i hk; subst hk; simp [tblGet, h]
      · simp [tblGet, ih]

theorem tblGet_del_same (m : Tbl α) (k : Nat) (d : α) : tblGet (tblDel m k) k d = d := by
  induction m with
  | nil => rfl
  | cons e t ih =>
    obtain ⟨k', v'⟩ := e
    unfold tblDel
    split
    · exact ih
    · rename_i h; simp [tblGet, h, ih]

theorem tblGet_del_other (m : Tbl α) {k j : Nat} (d : α) (h : k ≠ j) : tblGet (tblDel m k) j d = tblGet m j d := by
  induction m with
  | nil => rfl
  | cons e t ih =>
    obtain ⟨k', v'⟩ := e
    unfold tblDel
    split
    · rename_i hk; subst hk; simp [tblGet, h, ih]
    · simp [tblGet, ih]

variable [DecidableEq α]

/-- A read gives what was last written there. -/
@[simp] theorem tblGet_set_same (m : Tbl α) (k : Nat) (v d : α) : tblGet (tblSet m k v d) k d = v := by
  unfold tblSet; split
  · rename_i h; rw [tblGet_del_same, h]
  · rw [tblGet_put_same]

/-- A write leaves every other key alone. -/
theorem tblGet_set_other (m : Tbl α) {k j : Nat} (v d e : α) (h : k ≠ j) : tblGet (tblSet m k v d) j e = tblGet m j e := by
  unfold tblSet; split
  · rw [tblGet_del_other _ _ h]
  · rw [tblGet_put_other _ _ _ h]

/-! ### The canonical form -/

theorem tblRising_mono {m : Tbl α} {lo hi : Nat} (h : lo ≤ hi) (r : tblRising hi m = true) : tblRising lo m = true := by
  cases m with
  | nil => rfl
  | cons e t => obtain ⟨k, v⟩ := e; simp only [tblRising, Bool.and_eq_true, decide_eq_true_eq] at r ⊢; exact ⟨by omega, r.2⟩

theorem tblRising_put {m : Tbl α} {lo k : Nat} (v : α) (h : lo ≤ k) (r : tblRising lo m = true) :
    tblRising lo (tblPut m k v) = true := by
  induction m generalizing lo with
  | nil => simp [tblPut, tblRising, h]
  | cons e t ih =>
    obtain ⟨k', v'⟩ := e
    simp only [tblRising, Bool.and_eq_true, decide_eq_true_eq] at r
    unfold tblPut
    split
    · rename_i hk; simp only [tblRising, Bool.and_eq_true, decide_eq_true_eq]; exact ⟨h, by omega, r.2⟩
    · split
      · rename_i hk; subst hk; simp only [tblRising, Bool.and_eq_true, decide_eq_true_eq]; exact r
      · simp only [tblRising, Bool.and_eq_true, decide_eq_true_eq]; exact ⟨r.1, ih (by omega) r.2⟩

theorem tblRising_del {m : Tbl α} {lo : Nat} (k : Nat) (r : tblRising lo m = true) : tblRising lo (tblDel m k) = true := by
  induction m generalizing lo with
  | nil => rfl
  | cons e t ih =>
    obtain ⟨k', v'⟩ := e
    simp only [tblRising, Bool.and_eq_true, decide_eq_true_eq] at r
    unfold tblDel
    split
    · exact tblRising_mono (by omega) (ih r.2)
    · simp only [tblRising, Bool.and_eq_true, decide_eq_true_eq]; exact ⟨r.1, ih r.2⟩

theorem tblPut_mem {m : Tbl α} {k : Nat} {v : α} {e : Nat × α} (h : e ∈ tblPut m k v) : e = (k, v) ∨ e ∈ m := by
  induction m with
  | nil => simpa [tblPut] using h
  | cons x t ih =>
    obtain ⟨k', v'⟩ := x
    unfold tblPut at h
    split at h
    · simpa using h
    · split at h
      · simp only [List.mem_cons] at h ⊢
        rcases h with h | h
        · exact .inl h
        · exact .inr (.inr h)
      · simp only [List.mem_cons] at h ⊢
        rcases h with h | h
        · exact .inr (.inl h)
        · rcases ih h with h | h
          · exact .inl h
          · exact .inr (.inr h)

theorem tblDel_mem {m : Tbl α} {k : Nat} {e : Nat × α} (h : e ∈ tblDel m k) : e ∈ m := by
  induction m with
  | nil => exact h
  | cons x t ih =>
    obtain ⟨k', v'⟩ := x
    unfold tblDel at h
    split at h
    · exact List.mem_cons_of_mem _ (ih h)
    · simp only [List.mem_cons] at h ⊢
      rcases h with h | h
      · exact .inl h
      · exact .inr (ih h)

/-- Every write keeps the canonical form. -/
theorem tblWf_set {d : Nat → α} {m : Tbl α} (k : Nat) (v : α) (h : tblWf d m = true) : tblWf d (tblSet m k v (d k)) = true := by
  simp only [tblWf, Bool.and_eq_true, List.all_eq_true, decide_eq_true_eq] at h ⊢
  unfold tblSet
  split
  · exact ⟨tblRising_del k h.1, fun e he => h.2 e (tblDel_mem he)⟩
  · rename_i hv
    refine ⟨tblRising_put v (Nat.zero_le k) h.1, fun e he => ?_⟩
    rcases tblPut_mem he with rfl | he
    · exact hv
    · exact h.2 e he

end Sys2Proof.Machine
end

