-- ==== Sys2Proof/Laws/Regs.lean ====
section
/-! SUPPORT. The laws of the register file: a register reads what was put there, every other register stands, and the file keeps
its canonical form. -/

namespace Sys2Proof.Machine

/-- Registers of different names lie at different places of the file. -/
theorem regKey_ne_name {r x : RegName} (h : r ≠ x) (i j k l : Nat) : regKey r i j ≠ regKey x k l := by
  intro e
  apply h
  have hi := Nat.mod_lt i (show 0 < 256 by omega)
  have hk := Nat.mod_lt k (show 0 < 256 by omega)
  have hj := Nat.mod_lt j (show 0 < 64 by omega)
  have hl := Nat.mod_lt l (show 0 < 64 by omega)
  unfold regKey at e
  have : r.ctorIdx = x.ctorIdx := by omega
  rw [← RegName.ofNat_ctorIdx r, this, RegName.ofNat_ctorIdx]

/-- Instances of one register lie at different places of the file. -/
theorem regKey_ne_inst (r : RegName) {i k : Nat} (j l : Nat) (hi : i < 256) (hk : k < 256) (h : i ≠ k) :
    regKey r i j ≠ regKey r k l := by
  have hj := Nat.mod_lt j (show 0 < 64 by omega)
  have hl := Nat.mod_lt l (show 0 < 64 by omega)
  unfold regKey; rw [Nat.mod_eq_of_lt hi, Nat.mod_eq_of_lt hk]; omega

/-- Inner indices of one register lie at different places of the file. -/
theorem regKey_ne_inner (r : RegName) (i k : Nat) {j l : Nat} (hj : j < 64) (hl : l < 64) (h : j ≠ l) :
    regKey r i j ≠ regKey r k l := by
  unfold regKey; rw [Nat.mod_eq_of_lt hj, Nat.mod_eq_of_lt hl]; omega

variable (d : Dev)

theorem Dev.rd_lt (r : RegName) (i j : Nat) : d.rd r i j < 2 ^ 32 := BitVec.isLt _

/-- A register reads what was put into it. -/
@[simp] theorem Dev.rd_wr_same (r : RegName) (i j v : Nat) : (d.wr r i j v).rd r i j = v % 2 ^ 32 := by
  simp [Dev.rd, Dev.wr]

/-- Every register at another place stands. -/
theorem Dev.rd_wr_other {r x : RegName} {i j k l : Nat} (v : Nat) (h : regKey r i j ≠ regKey x k l) :
    (d.wr r i j v).rd x k l = d.rd x k l := by
  simp only [Dev.rd, Dev.wr]; rw [tblGet_set_other _ _ _ _ h]

/-- Every register of another name stands. -/
theorem Dev.rd_wr_name {r x : RegName} (i j k l v : Nat) (h : r ≠ x) : (d.wr r i j v).rd x k l = d.rd x k l :=
  d.rd_wr_other v (regKey_ne_name h i j k l)

/-- A field reads what was put into it. -/
theorem Dev.fld_setFld_same (f : Fld) (i j v : Nat) (h : f.lo + f.w ≤ 32) : (d.setFld f i j v).fld f i j = v % 2 ^ f.w := by
  simp only [Dev.fld, Dev.setFld, Dev.rd_wr_same]
  rw [Nat.mod_eq_of_lt (setBits_lt (d.rd_lt _ _ _) h), bits_setBits_same]

/-- A disjoint field of the same register stands. -/
theorem Dev.fld_setFld_disjoint (f g : Fld) (i j v : Nat) (hr : f.reg = g.reg) (h : f.lo + f.w ≤ 32)
    (hd : g.lo + g.w ≤ f.lo ∨ f.lo + f.w ≤ g.lo) : (d.setFld f i j v).fld g i j = d.fld g i j := by
  simp only [Dev.fld, Dev.setFld, ← hr, Dev.rd_wr_same]
  rw [Nat.mod_eq_of_lt (setBits_lt (d.rd_lt _ _ _) h), bits_setBits_other hd]

/-- A field of a register of another name stands. -/
theorem Dev.fld_setFld_name (f g : Fld) (i j k l v : Nat) (hr : f.reg ≠ g.reg) : (d.setFld f i j v).fld g k l = d.fld g k l := by
  simp only [Dev.fld, Dev.setFld]; rw [d.rd_wr_name _ _ _ _ _ hr]

/-- A register of another name stands. -/
theorem Dev.rd_setFld_name (f : Fld) (x : RegName) (i j k l v : Nat) (hr : f.reg ≠ x) : (d.setFld f i j v).rd x k l = d.rd x k l :=
  d.rd_wr_name _ _ _ _ _ hr

/-- A one-bit field reads the Bool put into it. -/
theorem Dev.on_setOn_same (f : Fld) (i j : Nat) (b : Bool) (h : f.lo + f.w ≤ 32) (hw : f.w = 1) : (d.setOn f i j b).on f i j = b := by
  simp only [Dev.on, Dev.setOn]; rw [d.fld_setFld_same f i j _ h, hw]; cases b <;> rfl

/-! ### Channels, pavilions, arbours -/

@[simp] theorem Dev.ch_modCh_same (n : Nat) (f : Ch → Ch) : (d.modCh n f).ch n = f (d.ch n) := by simp [Dev.ch, Dev.modCh]
theorem Dev.ch_modCh_other {n k : Nat} (f : Ch → Ch) (h : n ≠ k) : (d.modCh n f).ch k = d.ch k := by
  simp only [Dev.ch, Dev.modCh]; rw [tblGet_set_other _ _ _ _ h]
@[simp] theorem Dev.pav_modPav_same (n : Nat) (f : Pav → Pav) : (d.modPav n f).pav n = f (d.pav n) := by simp [Dev.pav, Dev.modPav]
theorem Dev.pav_modPav_other {n k : Nat} (f : Pav → Pav) (h : n ≠ k) : (d.modPav n f).pav k = d.pav k := by
  simp only [Dev.pav, Dev.modPav]; rw [tblGet_set_other _ _ _ _ h]
@[simp] theorem Dev.arb_modArb_same (n : Nat) (f : Arb → Arb) : (d.modArb n f).arb n = f (d.arb n) := by simp [Dev.arb, Dev.modArb]
theorem Dev.arb_modArb_other {n k : Nat} (f : Arb → Arb) (h : n ≠ k) : (d.modArb n f).arb k = d.arb k := by
  simp only [Dev.arb, Dev.modArb]; rw [tblGet_set_other _ _ _ _ h]
@[simp] theorem Dev.tmr_modTmr_same (n : Nat) (f : Timer → Timer) : (d.modTmr n f).tmr n = f (d.tmr n) := by simp [Dev.tmr, Dev.modTmr]
theorem Dev.tmr_modTmr_other {n k : Nat} (f : Timer → Timer) (h : n ≠ k) : (d.modTmr n f).tmr k = d.tmr k := by
  simp only [Dev.tmr, Dev.modTmr]; rw [tblGet_set_other _ _ _ _ h]
@[simp] theorem Dev.ses_modSes_same (n : Nat) (f : Sess → Sess) : (d.modSes n f).ses n = f (d.ses n) := by simp [Dev.ses, Dev.modSes]
theorem Dev.ses_modSes_other {n k : Nat} (f : Sess → Sess) (h : n ≠ k) : (d.modSes n f).ses k = d.ses k := by
  simp only [Dev.ses, Dev.modSes]; rw [tblGet_set_other _ _ _ _ h]
@[simp] theorem Dev.img_modImg_same (n : Nat) (f : Image → Image) : (d.modImg n f).img n = f (d.img n) := by simp [Dev.img, Dev.modImg]
theorem Dev.img_modImg_other {n k : Nat} (f : Image → Image) (h : n ≠ k) : (d.modImg n f).img k = d.img k := by
  simp only [Dev.img, Dev.modImg]; rw [tblGet_set_other _ _ _ _ h]
@[simp] theorem Dev.ring_modRing_same (n : Nat) (f : Ring → Ring) : (d.modRing n f).ring n = f (d.ring n) := by simp [Dev.ring, Dev.modRing]
theorem Dev.ring_modRing_other {n k : Nat} (f : Ring → Ring) (h : n ≠ k) : (d.modRing n f).ring k = d.ring k := by
  simp only [Dev.ring, Dev.modRing]; rw [tblGet_set_other _ _ _ _ h]

end Sys2Proof.Machine
end

