-- ==== Sys2Proof/Laws/Told.lean ====
section
/-! SUPPORT. What posting, completing and reporting can do, said once: outbound and target queues, host data that waits, the
Promenade's due messages, and a list of registers may change; everything else stands. -/

namespace Sys2Proof.Safety

open Sys2Proof.Machine

namespace Told

variable {L M : List RegName} {d e f : Dev}

theorem refl (L : List RegName) (d : Dev) : Told L d d :=
  ⟨rfl, rfl, rfl, rfl, rfl, rfl, rfl, rfl, rfl, rfl, rfl, rfl, rfl, rfl, fun _ => rfl, fun _ => rfl, fun _ => rfl, fun _ _ _ _ => rfl⟩

theorem trans (a : Told L d e) (b : Told L e f) : Told L d f where
  time := b.time.trans a.time
  syn := by rw [b.syn, a.syn]
  pwr := b.pwr.trans a.pwr
  sess := b.sess.trans a.sess
  images := b.images.trans a.images
  ledger := b.ledger.trans a.ledger
  sec := b.sec.trans a.sec
  cal := b.cal.trans a.cal
  ksk := b.ksk.trans a.ksk
  flash := b.flash.trans a.flash
  timers := b.timers.trans a.timers
  prom := by rw [b.prom, a.prom]
  host := by rw [b.host, a.host]
  flt := by rw [b.flt, a.flt]
  ch n := by rw [b.ch n, a.ch n]
  pav p := by rw [b.pav p, a.pav p]
  arb x := by rw [b.arb x, a.arb x]
  regs r i j h := (b.regs r i j h).trans (a.regs r i j h)

theorem mono (h : ∀ r, r ∈ L → r ∈ M) (a : Told L d e) : Told M d e :=
  { a with regs := fun r i j n => a.regs r i j fun m => n (h r m) }

/-- A field of a register outside the list stands. -/
theorem fld (a : Told L d e) (x : Fld) (i j : Nat) (h : x.reg ∉ L) : e.fld x i j = d.fld x i j := by
  simp only [Dev.fld, a.regs _ _ _ h]

theorem on (a : Told L d e) (x : Fld) (i j : Nat) (h : x.reg ∉ L) : e.on x i j = d.on x i j := by
  simp only [Dev.on, a.fld x i j h]

/-- A change of one register of the list. -/
theorem wr (L : List RegName) (d : Dev) (r : RegName) (i j v : Nat) (h : r ∈ L) : Told L d (d.wr r i j v) :=
  { refl L d with regs := fun _ k l n => d.rd_wr_name i j k l v (fun e => n (e ▸ h)) }

theorem cond (b : Bool) {g : Dev → Dev} (h : Told L d (g d)) : Told L d (d.cond b g) := by
  unfold Dev.cond; split
  · exact h
  · exact refl L d

theorem each {α : Type} (l : List α) {g : Dev → α → Dev} (h : ∀ d x, Told L d (g d x)) : Told L d (d.each l g) := by
  unfold Dev.each
  induction l generalizing d with
  | nil => exact refl L d
  | cons x t ih => exact (h d x).trans ih

end Told

end Sys2Proof.Safety

namespace Sys2Proof.Machine

open Sys2Proof.Safety

variable (d : Dev)

theorem told_emit (L : List RegName) (o : Output) : Told L d (d.emit o) := { Told.refl L d with }

theorem told_modMsix (L : List RegName) (v : Nat) (f : MsixRow → MsixRow) : Told L d (d.modMsix v f) := { Told.refl L d with host := rfl }

theorem told_fireVec (L : List RegName) (v : Nat) : Told L d (d.fireVec v) := by
  unfold Dev.fireVec; split
  · dsimp only; split
    · exact told_modMsix d L v _
    · exact told_emit d L _
  · exact Told.refl L d

theorem told_setMisc (b : Nat) : Told postRegs d (d.setMisc b) := by
  unfold Dev.setMisc; split
  · exact Told.refl _ d
  · dsimp only
    split
    · exact (Told.wr _ d _ 0 0 _ (by decide)).trans (told_fireVec _ _ _)
    · exact Told.wr _ d _ 0 0 _ (by decide)

/-- A change of a channel that leaves all but its queues. -/
theorem told_modCh (L : List RegName) (n : Nat) (f : Ch → Ch)
    (h : ∀ c, f c = { c with outq := (f c).outq, dataWait := (f c).dataWait, tq := (f c).tq }) : Told L d (d.modCh n f) :=
  { Told.refl L d with
    ch := fun k => by
      by_cases e : n = k
      · subst e; rw [Dev.ch_modCh_same]; exact h _
      · rw [Dev.ch_modCh_other _ _ e] }

theorem told_modOutq (L : List RegName) (s : Nat) (f : OutQ → OutQ) : Told L d (d.modOutq s f) := by
  unfold Dev.modOutq; split
  · exact told_modCh d L s _ fun _ => rfl
  · exact { Told.refl L d with host := rfl }

theorem told_addFld (L : List RegName) (f : Fld) (i j n : Nat) (h : f.reg ∈ L) : Told L d (d.addFld f i j n) :=
  Told.wr L d _ _ _ _ h

theorem told_setFld (L : List RegName) (f : Fld) (i j n : Nat) (h : f.reg ∈ L) : Told L d (d.setFld f i j n) :=
  Told.wr L d _ _ _ _ h

theorem told_setOn (L : List RegName) (f : Fld) (i j : Nat) (b : Bool) (h : f.reg ∈ L) : Told L d (d.setOn f i j b) :=
  Told.wr L d _ _ _ _ h

theorem told_enter (e : Entry) : Told postRegs d (d.enter e) := by
  unfold Dev.enter; split
  · exact told_addFld d _ _ _ _ _ (by decide)
  · exact told_modOutq d _ _ _

/-- Posting an entry changes queues and the counters of posting only (R417, R433, R717). -/
theorem told_post (e : Entry) : Told postRegs d (d.post e) := by
  unfold Dev.post; extract_lets x q
  split
  · exact (told_modOutq d postRegs _ _).trans (told_addFld _ postRegs _ _ _ _ (by decide))
  · split
    · exact told_enter d _
    · exact told_modOutq d _ _ _

theorem told_event (k : EvKind) (s : Nat) (b : List Byte) (st : Status) (ses : Nat) : Told postRegs d (d.event k s b st ses) :=
  told_post d _

theorem told_promote (s : Nat) (l : List Entry) : Told postRegs d (Dev.promote d s l) := by
  induction l generalizing d with
  | nil => exact Told.refl _ d
  | cons e t ih =>
    unfold Dev.promote; split
    · exact (told_enter d e).trans (ih _)
    · exact (told_modOutq d _ _ _).trans (ih _)

theorem told_refill (s : Nat) : Told postRegs d (d.refill s) := (told_modOutq d _ _ _).trans (told_promote _ _ _)

theorem told_release (L : List RegName) (q : QDesc) : Told L d (d.release q) := { Told.refl L d with host := rfl }

theorem told_completeE (q : QDesc) (e : Entry) : Told postRegs d (d.completeE q e) := by
  unfold Dev.completeE; dsimp only; split
  · exact told_release d _ q
  · exact (told_release d _ q).trans (told_post _ _)

theorem told_noFrameRegs (n : Nat) (st : Status) : Told frmRegs d (d.noFrameRegs n st) :=
  (Told.wr frmRegs d .CH_FRM_LAST _ _ _ (by decide)).trans ((Told.wr frmRegs _ .CH_FRM_COLL _ _ _ (by decide)).trans
    ((Told.wr frmRegs _ .CH_FRM_ERR _ _ _ (by decide)).trans ((Told.wr frmRegs _ .CH_FRM_TIME _ _ _ (by decide)).trans
      ((told_setFld _ frmRegs F.CH_FRM_QUAL_RATE_ERR _ _ _ (by decide)).trans
        (told_setFld _ frmRegs F.CH_FRM_QUAL_SNR _ _ _ (by decide))))))

/-- Completing a descriptor changes queues, the counters of posting, and for an exchange the registers of its last frame (R175). -/
theorem told_complete (q : QDesc) (st : Status) (b : CBody) : Told doneRegs d (d.complete q st b) :=
  ((told_completeE d q _).mono (by decide)).trans (Told.cond _ ((told_noFrameRegs _ _ _).mono (by decide)))

/-- Of a descriptor that is no exchange of a channel, it changes queues and the counters of posting only. -/
theorem told_complete_other (q : QDesc) (st : Status) (b : CBody) (h : exchOps.contains q.d.op = false) :
    Told postRegs d (d.complete q st b) := by
  unfold Dev.complete; rw [h, Bool.and_false]; exact told_completeE d q _

theorem told_modData (L : List RegName) (l : Nat) (f : List (Nat × List Byte) → List (Nat × List Byte)) : Told L d (d.modData l f) := by
  unfold Dev.modData; split
  · exact told_modCh d L l _ fun _ => rfl
  · exact { Told.refl L d with host := rfl }

theorem told_dataPiece (L : List RegName) (l : Nat) : Told L d (d.dataPiece l) := by
  unfold Dev.dataPiece; split
  · exact Told.refl L d
  · exact (told_emit d L _).trans (told_modData _ L _ _)

theorem told_arbs (L : List RegName) (x : Tbl Drr) : Told L d { d with host := { d.host with arbs := x } } :=
  { Told.refl L d with host := rfl }

theorem told_dropDeficits (L : List RegName) : Told L d d.dropDeficits := by
  unfold Dev.dropDeficits; exact told_arbs d L _

/-- A turn of the arbiters changes their deficits alone (R436). -/
theorem told_grant (L : List RegName) {x : Nat} {e : Dev} (h : d.grant = some (x, e)) : Told L d e := by
  unfold Dev.grant at h
  obtain ⟨p, -, h⟩ := Option.map_eq_some_iff.1 h
  cases h; exact { Told.refl L d with host := rfl }

theorem told_sendData (L : List RegName) (f l : Nat) : Told L d (Dev.sendData f l d) := by
  induction f generalizing d with
  | zero => exact Told.refl L d
  | succ f ih =>
    unfold Dev.sendData; split
    · exact Told.refl L d
    · split
      · exact Told.refl L d
      · split
        · exact (told_grant d L (by assumption)).trans ((told_dataPiece _ L _).trans ((told_dropDeficits _ L).trans (ih _)))
        · exact Told.refl L d

/-- Output data waits, or goes where the turn is its leaf's (R435). -/
theorem told_output (L : List RegName) (s a : Nat) (l : List Byte) : Told L d (d.output s a l) := by
  unfold Dev.output; split
  · exact Told.refl L d
  · exact (told_modData d L _ _).trans (told_sendData _ L _ _)

theorem told_completeOut (q : QDesc) (l : List Byte) (b : CBody) : Told doneRegs d (d.completeOut q l b) :=
  (told_output d _ _ _ _).trans (told_complete _ _ _ _)

theorem told_modTq (L : List RegName) (t : Nat) (f : TQ → TQ) : Told L d (d.modTq t f) := by
  unfold Dev.modTq; split
  · exact told_modCh d L t _ fun _ => rfl
  · split
    · exact { Told.refl L d with
        arb := fun k => by
          by_cases e : t - 0x100 = k
          · subst e; rw [Dev.arb_modArb_same]
          · rw [Dev.arb_modArb_other _ _ e] }
    · split
      · exact { Told.refl L d with
          pav := fun k => by
            by_cases e : t - 0x200 = k
            · subst e; rw [Dev.pav_modPav_same]
            · rw [Dev.pav_modPav_other _ _ e] }
      · exact { Told.refl L d with host := rfl }

theorem told_stir (L : List RegName) (p : Nat) : Told L d (d.stir p) :=
  { Told.refl L d with
    pav := fun k => by
      by_cases e : p = k
      · subst e; unfold Dev.stir; rw [Dev.pav_modPav_same]
      · unfold Dev.stir; rw [Dev.pav_modPav_other _ _ e] }

theorem told_airGone (L : List RegName) (q : QDesc) : Told L d (d.airGone q) := Told.cond _ (told_stir d L _)

theorem told_endRun (L : List RegName) (q : QDesc) : Told L d (d.endRun q) := (told_modTq d L _ _).trans (told_airGone _ L _)

/-- Completing a started descriptor changes what completing one does (R404). -/
theorem told_done (q : QDesc) (st : Status) (b : CBody) : Told doneRegs d (d.done q st b) :=
  (told_complete d q st b).trans (told_endRun _ _ _)

theorem told_doneOut (q : QDesc) (l : List Byte) : Told doneRegs d (d.doneOut q l) :=
  (told_completeOut d q l _).trans (told_endRun _ _ _)

theorem told_broadcast (L : List RegName) (c k p h : Nat) (u n : Bool) : Told L d (d.broadcast c k p h u n) :=
  { Told.refl L d with prom := by unfold Dev.broadcast PrmPort.addDue; cases u <;> cases n <;> rfl }

/-- Recording a fault changes the FLT registers, the messages due to other devices and HIF_MISC_STAT only (R571, R576). -/
theorem told_record (x : Detect) : Told faultRegs d (d.record x) := by
  have up : ∀ {a b : Dev}, Told postRegs a b → Told faultRegs a b := fun h => h.mono (by decide)
  unfold Dev.record
  extract_lets last e0 f0 d1 d2 d3 d4
  have h1 : Told faultRegs d d1 := by
    simp only [d1]; split
    · exact Told.refl _ d
    · exact { Told.wr faultRegs d .FLT_LAST 0 0 last (by decide) with flt := rfl }
  have h2 : Told faultRegs d1 d2 := Told.cond _ ((told_setFld _ _ F.FLT_STAT_FIRST_CODE _ _ _ (by decide)).trans
    ((Told.wr _ _ .FLT_FIRST_T_L _ _ _ (by decide)).trans (Told.wr _ _ .FLT_FIRST_T_H _ _ _ (by decide))))
  have h3 : Told faultRegs d2 d3 := by
    simp only [d3]
    split
    · exact told_addFld _ _ F.FLT_CNT_C0 _ _ _ (by decide)
    · exact told_addFld _ _ F.FLT_CNT_C1 _ _ _ (by decide)
    · exact told_addFld _ _ F.FLT_CNT_C2 _ _ _ (by decide)
    · exact told_addFld _ _ F.FLT_CNT_C3 _ _ _ (by decide)
  exact h1.trans (h2.trans (h3.trans ((up (told_setMisc d3 1)).trans (Told.cond _ (told_broadcast d4 _ _ _ _ _ _ _)))))

/-- Recording and reporting a fault changes the FLT registers, queues and the counters of posting only (R571, R576). -/
theorem told_report (x : Detect) : Told faultRegs d (d.report x) :=
  (told_record d x).trans ((told_event _ _ _ _ _ _).mono (by decide))

/-- A detection of class 0 or 1 only records and reports (R565). -/
theorem told_fault (x : Detect) (h : x.cls ≤ 1) : Told faultRegs d (d.fault x) := by
  have e : d.react x = d := by
    unfold Dev.react
    rcases x with ⟨c, k, _, _, _, _, _, _⟩
    dsimp only at h ⊢
    interval_cases k <;> rfl
  unfold Dev.fault; rw [e]; exact told_report d x

end Sys2Proof.Machine
end

