-- ==== Sys2Proof/Laws/Kept.lean ====
section
/-! SUPPORT. What the end of a channel's work can do, said once: refusing, cutting, expiring, and a change of TIME_LOCK leave every
unit but the channels, pavilions, arbours, the calibration engine and the queues. -/

namespace Sys2Proof.Safety

open Sys2Proof.Machine

theorem Told.kept {L : List RegName} {d e : Dev} (h : Told L d e) : Kept L d e :=
  ⟨h.time, h.syn, h.pwr, h.sess, h.images, h.ledger, h.sec, by rw [h.cal], h.ksk, h.flash, h.timers, h.prom, h.host, h.flt, h.regs⟩

namespace Kept

variable {L M : List RegName} {d e f : Dev}

theorem refl (L : List RegName) (d : Dev) : Kept L d d := (Told.refl L d).kept

theorem trans (a : Kept L d e) (b : Kept L e f) : Kept L d f where
  time := b.time.trans a.time
  syn := by rw [b.syn, a.syn]
  pwr := b.pwr.trans a.pwr
  sess := b.sess.trans a.sess
  images := b.images.trans a.images
  ledger := b.ledger.trans a.ledger
  sec := b.sec.trans a.sec
  cal := by rw [b.cal, a.cal]
  ksk := b.ksk.trans a.ksk
  flash := b.flash.trans a.flash
  timers := b.timers.trans a.timers
  prom := by rw [b.prom, a.prom]
  host := by rw [b.host, a.host]
  flt := by rw [b.flt, a.flt]
  regs r i j h := (b.regs r i j h).trans (a.regs r i j h)

theorem mono (h : ∀ r, r ∈ L → r ∈ M) (a : Kept L d e) : Kept M d e :=
  { a with regs := fun r i j n => a.regs r i j fun m => n (h r m) }

theorem fld (a : Kept L d e) (x : Fld) (i j : Nat) (h : x.reg ∉ L) : e.fld x i j = d.fld x i j := by
  simp only [Dev.fld, a.regs _ _ _ h]

theorem on (a : Kept L d e) (x : Fld) (i j : Nat) (h : x.reg ∉ L) : e.on x i j = d.on x i j := by
  simp only [Dev.on, a.fld x i j h]

theorem cond (b : Bool) {g : Dev → Dev} (h : Kept L d (g d)) : Kept L d (d.cond b g) := by
  unfold Dev.cond; split
  · exact h
  · exact refl L d

theorem each {α : Type} (l : List α) {g : Dev → α → Dev} (h : ∀ d x, Kept L d (g d x)) : Kept L d (d.each l g) := by
  unfold Dev.each
  induction l generalizing d with
  | nil => exact refl L d
  | cons x t ih => exact (h d x).trans ih

theorem foldl {α : Type} (l : List α) {g : Dev → α → Dev} (h : ∀ d x, Kept L d (g d x)) : Kept L d (l.foldl g d) := each l h

/-- What a field that falls may change, an end of work may. -/
theorem ofRx (h : Kept rxRegs d e) : Kept workRegs d e := h.mono (by decide)

theorem now (a : Kept L d e) : e.now = d.now := by simp only [Dev.now, Dev.nowFull, a.time]

end Kept

end Sys2Proof.Safety

namespace Sys2Proof.Machine

open Sys2Proof.Safety

variable (L : List RegName) (d : Dev)

theorem kept_modCh (n : Nat) (f : Ch → Ch) : Kept L d (d.modCh n f) := { Kept.refl L d with }
theorem kept_modPav (n : Nat) (f : Pav → Pav) : Kept L d (d.modPav n f) := { Kept.refl L d with }
theorem kept_modArb (n : Nat) (f : Arb → Arb) : Kept L d (d.modArb n f) := { Kept.refl L d with }
theorem kept_modTxn (n : Nat) (f : Txn → Txn) : Kept L d (d.modTxn n f) := kept_modCh L d n _
theorem kept_unreserve (n e : Nat) : Kept L d (d.unreserve n e) := kept_modPav L d _ _
theorem kept_syncReq (p : Nat) : Kept L d (d.syncReq p) := by unfold Dev.syncReq; exact kept_modPav L d _ _
theorem kept_stir (p : Nat) : Kept L d (d.stir p) := kept_modPav L d _ _
theorem kept_txnsMoved (p : Nat) : Kept L d (d.txnsMoved p) := (kept_stir L d _).trans (kept_syncReq L _ _)
theorem kept_emit (o : Output) : Kept L d (d.emit o) := (told_emit d L o).kept
theorem kept_wr (r : RegName) (i j v : Nat) (h : r ∈ L) : Kept L d (d.wr r i j v) := (Told.wr L d r i j v h).kept
theorem kept_setFld (f : Fld) (i j v : Nat) (h : f.reg ∈ L) : Kept L d (d.setFld f i j v) := (Told.wr L d _ i j _ h).kept
theorem kept_setOn (f : Fld) (i j : Nat) (b : Bool) (h : f.reg ∈ L) : Kept L d (d.setOn f i j b) := (Told.wr L d _ i j _ h).kept

/-! ### The end of a received frame (R112, R115, R117, R131, R547) -/

theorem kept_agcGo (n : Nat) (l : List Nat) (a : Nat) : Kept rxRegs d (d.agcGo n l a) := by
  unfold Dev.agcGo; split
  · exact kept_setFld _ d F.CH_RX_AGC_STATE _ _ _ (by decide)
  · exact Kept.refl _ d

theorem kept_agcMove (n : Nat) (l : List Nat) (a : Nat) : Kept rxRegs d (d.agcMove n l a) := by
  unfold Dev.agcMove; split
  · exact Kept.each _ fun d _ => kept_setFld _ d F.CH_RX_AGC_STATE _ _ _ (by decide)
  · exact Kept.refl _ d

theorem kept_rxEnd (n : Nat) : Kept L d (d.rxEnd n) := Kept.each _ fun d _ => kept_modCh L d _ _

theorem kept_sepLeave (n : Nat) : Kept L d (d.sepLeave n) := by
  unfold Dev.sepLeave; split
  · exact kept_modArb L d _ _
  · exact Kept.refl L d

theorem kept_modCap (n : Nat) (f : Cap → Cap) : Kept L d (d.modCap n f) := kept_modCh L d n _

theorem kept_shedUntil (ok : Dev → Bool) (f : Cap → Cap) (l : List Nat) : Kept L d (d.shedUntil ok f l) := by
  induction l generalizing d with
  | nil => exact Kept.refl L d
  | cons n t ih =>
    unfold Dev.shedUntil; split
    · exact Kept.refl L d
    · exact (kept_modCap L d _ _).trans (ih _)

theorem kept_resumeFit (k : Nat) (l : List Nat) : Kept L d (d.resumeFit k l) := by
  induction l generalizing d with
  | nil => exact Kept.refl L d
  | cons n t ih =>
    unfold Dev.resumeFit; extract_lets r
    refine Kept.trans ?_ (ih _)
    split
    · exact kept_modCap L d _ _
    · exact Kept.refl L d

/-- Holding the streams to fabric and link changes channels' records alone (R449 to R451). -/
theorem kept_recap : Kept L d d.recap := by
  unfold Dev.recap
  exact (kept_shedUntil L d _ _ _).trans ((kept_shedUntil L _ _ _ _).trans (kept_resumeFit L _ _ _))

theorem kept_putApplied (n q : Nat) (v : Int) : Kept L d (d.putApplied n q v) := { Kept.refl L d with cal := rfl }

theorem kept_rxSettle (n : Nat) : Kept L d (d.rxSettle n) := by
  unfold Dev.rxSettle; split
  · exact Kept.each _ fun _ _ => kept_putApplied L _ _ _ _
  · exact Kept.refl L d

theorem kept_setSrc (n v : Nat) (h : .CH_RX_CTL ∈ L) : Kept L d (d.setSrc n v) := by
  unfold Dev.setSrc; split
  · exact Kept.refl L d
  · exact (kept_setFld L d F.CH_RX_CTL_FIR_SRC _ _ _ h).trans (kept_modCh L _ _ _)

theorem kept_fadeStart (n : Nat) (h : .CH_RX_FIR ∈ L) : Kept L d (d.fadeStart n) :=
  (kept_setOn L d F.CH_RX_FIR_FADING _ _ _ h).trans (kept_modCh L _ _ _)

/-- What the chain held back while a frame was received changes the receive registers, channels and corrections in force alone. -/
theorem kept_chainFree (n : Nat) : Kept rxRegs d (d.chainFree n) := by
  unfold Dev.chainFree
  extract_lets d0 d1 d2
  have h1 : Kept rxRegs d d1 := by
    refine ((kept_rxEnd rxRegs d n).trans ?_).trans (kept_rxSettle _ _ n)
    split
    · exact (kept_setOn _ d0 F.CH_RX_FIR_PENDING _ _ _ (by decide)).trans (kept_fadeStart _ _ _ (by decide))
    · exact Kept.refl _ d0
  have h2 : Kept rxRegs d1 d2 := by
    simp only [d2]; split
    · exact (kept_wr _ d1 .CH_RX_SHIFT _ _ _ (by decide)).trans (kept_modCh _ _ _ _)
    · exact Kept.refl _ d1
  refine (h1.trans h2).trans ?_
  split
  · exact (kept_setSrc _ d2 _ _ (by decide)).trans ((kept_modCh _ _ _ _).trans (kept_recap _ _))
  · exact Kept.refl _ d2

theorem kept_frameEnded (n : Nat) : Kept rxRegs d (d.frameEnded n) := (kept_chainFree d n).trans (kept_agcGo _ _ _ _)

/-! ### Fields that fall (R85, R88, R204) -/

/-- A field that falls leaves every unit but the channels, arbours, receive registers and corrections in force. -/
theorem kept_coilFall (n : Nat) (k : RampKind) : Kept L d (d.coilFall n k) := (kept_modCh L d _ _).trans (kept_emit L _ _)

theorem kept_fall (n : Nat) (k : RampKind) (c : Option Status) (l : List Nat) : Kept rxRegs d (d.fall n k c l) := by
  unfold Dev.fall; split
  · exact Kept.refl _ d
  · split
    · extract_lets u d1 d2 d3 due
      have h : Kept rxRegs d d1 := Kept.cond _ ((kept_agcMove d n _ _).trans ((kept_sepLeave _ _ n).trans (kept_frameEnded _ n)))
      have h3 : Kept rxRegs d2 d3 := Kept.each _ fun d x => by
        split
        · split
          · exact Kept.refl _ d
          · exact kept_coilFall _ d _ _
        · exact Kept.refl _ d
      exact ((h.trans (kept_modTxn _ d1 n _)).trans h3).trans (kept_modTxn _ d3 n _)
    · exact Kept.refl _ d

theorem kept_rampDown (n : Nat) (k : RampKind) (c : Option Status) : Kept rxRegs d (d.rampDown n k c) := kept_fall d n k c []

theorem kept_fallFor (m n : Nat) (k : RampKind) (c : Status) : Kept rxRegs d (d.fallFor m n k c) := by
  unfold Dev.fallFor; extract_lets alone; split
  · exact kept_fall d _ _ _ _
  · exact kept_rampDown d _ _ _

theorem kept_cutCoil (n : Nat) (k : RampKind) (c : Status) : Kept rxRegs d (d.cutCoil n k c) := by
  unfold Dev.cutCoil; split
  · exact kept_fallFor d _ _ _ _
  · exact Kept.refl _ d

theorem told_cycleReport (n : Nat) (t : Txn) (st : Status) (q : QDesc) (pf : Bool) :
    Told postRegs d (d.cycleReport n t st q pf) := by
  unfold Dev.cycleReport; extract_lets room st'
  split
  · exact (told_output d _ _ _ _).trans (told_post _ _)
  · exact Told.refl _ d

theorem told_hostDone (t : Txn) (st : Status) (b : CBody) : Told postRegs d (d.hostDone t st b) := by
  unfold Dev.hostDone; split
  · dsimp only
    exact (told_completeE d _ _).trans (told_endRun _ _ _)
  · exact Told.refl _ d

theorem kept_completeWork (n : Nat) (t : Txn) (st : Status) (b : CBody) : Kept postRegs d (d.completeWork n t st b) := by
  unfold Dev.completeWork; dsimp only
  refine Kept.trans (Told.kept ((told_hostDone d t st b).trans ?_)) (kept_modTxn _ _ _ _)
  split
  · split
    · exact told_cycleReport _ n t st _ _
    · exact Told.refl _ _
  · split
    · exact ((told_output _ _ _ _ _).trans (told_completeE _ _ _)).trans (told_endRun _ _ _)
    · exact Told.refl _ _
  · split
    · exact (told_completeE _ _ _).trans (told_endRun _ _ _)
    · exact Told.refl _ _

theorem kept_endBorrow (l : List Nat) : Kept L d (d.endBorrow l) :=
  Kept.each l fun _ _ => Kept.cond _ (kept_modCh L _ _ _)

theorem kept_dropCal (n : Nat) : Kept rxRegs d (d.dropCal n) := by
  unfold Dev.dropCal; split
  · split
    · exact Kept.refl _ d
    · split
      · exact ((kept_unreserve _ d _ _).trans (kept_modCh _ _ _ _)).trans (kept_txnsMoved _ _ _)
      · exact kept_rampDown d _ _ _
  · exact Kept.refl _ d

theorem kept_calLeave (r : CalRun) : Kept workRegs d (d.calLeave r) := by
  unfold Dev.calLeave
  extract_lets c d1 d2 d3
  have h1 : Kept workRegs d d1 := { Kept.refl workRegs d with cal := rfl }
  have h2 : Kept workRegs d1 d2 := (Kept.each _ fun _ _ => (kept_dropCal _ _).ofRx).trans (kept_endBorrow _ _ _)
  have h3 : Kept workRegs d2 d3 := Kept.cond _ (kept_setOn _ _ F.CAL_STAT_REF_BUSY _ _ _ (by decide))
  exact h1.trans (h2.trans (h3.trans (Kept.cond _ ((kept_setFld _ _ F.CAL_STAT_STARTUP_RUN _ _ _ (by decide)).trans
    (kept_setFld _ _ F.CAL_STAT_STARTUP_DONE _ _ _ (by decide))))))

theorem kept_work {d e : Dev} (h : Told doneRegs d e) : Kept workRegs d e := h.kept.mono (by decide)

theorem kept_calAbort (n : Nat) (st : Status) : Kept workRegs d (d.calAbort n st) := by
  unfold Dev.calAbort; split
  · exact Kept.refl _ d
  · extract_lets d1
    split
    · exact (kept_calLeave d _).trans (kept_work (told_done _ _ _ _))
    · exact (kept_calLeave d _).trans (kept_work ((told_event _ _ _ _ _ _).mono (by decide)))

theorem kept_dropProbe (n : Nat) : Kept L d (d.dropProbe n) := by
  unfold Dev.dropProbe; split
  · exact ((kept_unreserve L d _ _).trans (kept_modArb L _ _ _)).trans ((kept_modCh L _ _ _).trans (kept_txnsMoved L _ _))
  · exact Kept.refl L d

/-- Refusing a transaction leaves every unit but the channels, pavilions, calibrations and queues (R92, R344, R372). -/
theorem kept_refuse (n : Nat) (st : Status) : Kept workRegs d (d.refuse n st) := by
  unfold Dev.refuse; split
  · split
    · exact (kept_dropCal d n).ofRx.trans (kept_calAbort _ n st)
    · split
      · exact kept_dropProbe _ d n
      · extract_lets d1 d2
        have h : Kept workRegs d d2 := ((kept_unreserve workRegs d _ _).trans ((kept_completeWork _ _ _ _ _).mono (by decide))).trans
          (Kept.cond _ (kept_work ((told_noFrameRegs _ _ _).mono (by decide))))
        exact (h.trans (kept_modCh _ _ _ _)).trans (kept_txnsMoved _ _ _)
  · exact Kept.refl _ d

theorem kept_strike (n : Nat) (k : RampKind) (st : Status) : Kept workRegs d (d.strike n k st) := by
  unfold Dev.strike; split
  · split
    · exact kept_refuse d n st
    · exact Kept.refl _ d
    · exact (kept_fallFor d _ _ _ _).ofRx
  · exact Kept.refl _ d

theorem kept_cutChans (l : List Nat) : Kept workRegs d (d.cutChans l) :=
  Kept.each l fun _ _ => (kept_cutCoil _ _ _ _).ofRx.trans (kept_strike _ _ _ _)

/-! ### Deadlines -/

theorem kept_expireTxn (n : Nat) : Kept workRegs d (d.expireTxn n) := by
  unfold Dev.expireTxn; split
  · exact Kept.refl _ d
  · split
    · exact Kept.refl _ d
    · split
      · exact kept_refuse d n _
      · exact Kept.refl _ d

theorem kept_expireHead (t : Nat) : Kept workRegs d (d.expireHead t) := by
  unfold Dev.expireHead; split
  · split
    · exact kept_work ((told_modTq d _ _ _).trans ((told_complete _ _ _ _).trans (told_airGone _ _ _)))
    · exact Kept.refl _ d
  · exact Kept.refl _ d

theorem kept_asideGone (n : Nat) (st : Status) : Kept workRegs d (d.asideGone n st) := by
  unfold Dev.asideGone; split
  · exact Kept.refl _ d
  · rename_i t _
    refine Kept.trans (kept_modCh _ d n fun c => { c with aside := none, cycleOpen := c.cycleOpen && !t.isCycle }) ?_
    extract_lets d1
    split
    · split
      · exact kept_work ((told_cycleReport _ _ _ _ _ _).mono (by decide))
      · exact Kept.refl _ _
    · split
      · exact kept_work (told_done _ _ _ _)
      · exact Kept.refl _ _

theorem kept_expireAside (n : Nat) : Kept workRegs d (d.expireAside n) := Kept.cond _ (kept_asideGone d n _)

theorem kept_calGiveUp (q : QDesc) (st : Status) : Kept workRegs d (d.calGiveUp q st) := by
  unfold Dev.calGiveUp
  have h : Kept workRegs d { d with cal := { d.cal with runs := d.cal.runs.filter fun (r : CalRun) => !r.desc.any q.same } } :=
    { Kept.refl workRegs d with cal := rfl }
  exact h.trans (kept_work (told_done _ _ _ _))

theorem kept_expireCal (t : Nat) : Kept workRegs d (d.expireCal t) := by
  unfold Dev.expireCal; split
  · split
    · exact kept_calGiveUp d _ _
    · exact Kept.refl _ d
  · exact Kept.refl _ d

theorem kept_expire (t : Nat) : Kept workRegs d (d.expire t) := by
  unfold Dev.expire
  refine Kept.trans ?_ (kept_expireHead _ _)
  refine Kept.trans ?_ (kept_expireCal _ _)
  split
  · exact (kept_expireTxn d t).trans (kept_expireAside _ t)
  · exact Kept.refl _ d

/-- A judgement of every head descriptor leaves every unit but channels, pavilions, calibrations and queues (R403). -/
theorem kept_expireAll : Kept workRegs d d.expireAll := Kept.each _ fun _ _ => kept_expire _ _

end Sys2Proof.Machine

/-! ### Instants that the device times (log entry 42) -/

namespace Sys2Proof.Machine

/-- An instant that has passed lets no time pass. -/
theorem Dev.runTo_past (d : Dev) (t : Nat) (h : t ≤ d.tc) : d.runTo t = d := by unfold Dev.runTo; rw [if_pos (Or.inl h)]

theorem Dev.runNet_past (d : Dev) (u : Nat) (h : u * 10 ^ 12 ≤ d.netMod) : d.runNet u = d := by
  unfold Dev.runNet Dev.runGap; rw [if_pos (Nat.sub_eq_zero_of_le h)]

/-- Time that passes changes the clock alone. -/
theorem Dev.ticks_only (d : Dev) (m : Nat) : ∃ t, d.ticks m = { d with time := t } := by
  unfold Dev.ticks; split
  · exact ⟨d.time, rfl⟩
  · exact ⟨_, rfl⟩

theorem Dev.runTo_only (d : Dev) (t : Nat) : ∃ x, d.runTo t = { d with time := x } := by
  unfold Dev.runTo; split
  · exact ⟨d.time, rfl⟩
  · exact d.ticks_only _

end Sys2Proof.Machine
end

