-- ==== Sys2Proof/Laws/Admit.lean ====
section
/-! SUPPORT. What an attempt at admission can do, said once. -/

namespace Sys2Proof.Machine

open Sys2Proof.Safety

variable (L : List RegName) (d : Dev)

theorem kept_free (L : List RegName) (d : Dev) : Kept L d d.free.2 := { Kept.refl L d with }

theorem kept_backToWait (n : Nat) : Kept L d (d.backToWait n) := by
  unfold Dev.backToWait; split
  · split
    · exact kept_dropProbe L d n
    split
    · exact (kept_unreserve L d _ _).trans ((kept_modTxn L _ _ _).trans (kept_txnsMoved L _ _))
    · exact Kept.refl L d
  · exact Kept.refl L d

theorem kept_loadBank (n : Nat) (b : Bool) (c : List Int) (ha : .CH_RX_COEF_A ∈ L) (hb : .CH_RX_COEF_B ∈ L) :
    Kept L d (d.loadBank n b c) :=
  Kept.each _ fun d x => kept_wr L d _ _ _ _ (by cases b <;> assumption)

theorem kept_applyStd (n src f : Nat) (dc : Bool) : Kept admRegs d (d.applyStd n src f dc) := by
  unfold Dev.applyStd; split
  · extract_lets b d1 d2 d3
    have h1 : Kept admRegs d d1 := (kept_setSrc admRegs d _ _ (by decide)).trans
      (kept_setOn admRegs _ F.CH_RX_CTL_DC_SUB _ _ _ (by decide))
    have h2 : Kept admRegs d1 d2 := (kept_setOn admRegs _ F.CH_RX_FIR_FADING _ _ _ (by decide)).trans
      (kept_setOn admRegs _ F.CH_RX_FIR_PENDING _ _ _ (by decide))
    have h3 : Kept admRegs d2 d3 := (kept_wr admRegs _ .CH_RX_SHIFT _ _ _ (by decide)).trans (kept_modCh admRegs _ _ _)
    exact h1.trans (h2.trans (h3.trans ((kept_loadBank admRegs _ _ _ _ (by decide) (by decide)).trans
      (kept_setOn admRegs _ F.CH_RX_FIR_ACTIVE _ _ _ (by decide)))))
  · exact Kept.refl _ d

theorem kept_applyRate (n : Nat) (t : Tech) (r : Nat) : Kept admRegs d (d.applyRate n t r) := kept_applyStd d _ _ _ _

theorem kept_groupLoad (a g : Nat) : Kept admRegs d (d.groupLoad a g) := by
  unfold Dev.groupLoad
  extract_lets w depth stale mode d1 d2 d3
  have h1 : Kept admRegs d d1 := by
    simp only [d1]; split
    · exact Kept.refl _ d
    · exact Kept.each _ fun d x => kept_wr admRegs d _ _ _ _ (by decide)
  have h2 : Kept admRegs d d3 := h1.trans ((kept_setFld admRegs _ F.ARB_FG_STAT_NULL_DEPTH _ _ _ (by decide)).trans
    (Kept.cond _ (kept_setOn admRegs _ F.ARB_FG_STAT_STALE_USED _ _ _ (by decide))))
  split
  · exact h2
  · exact h2.trans (Kept.each _ fun d x => kept_wr admRegs d _ _ _ _ (by decide))

theorem kept_grantAdmission (n : Nat) (k : List Driven) (l : Nat) : Kept L d (d.grantAdmission n k l) := by
  unfold Dev.grantAdmission
  exact (kept_modTxn L d _ _).trans ((kept_modPav L _ _ _).trans (kept_txnsMoved L _ _))

theorem kept_admitNow (n : Nat) (t : Txn) : Kept admRegs d (d.admitNow n t) := by
  unfold Dev.admitNow
  extract_lets dr len d1 d2 d3
  have h1 : Kept admRegs d d1 := by
    simp only [d1]; split
    · exact kept_groupLoad d _ _
    · exact Kept.refl _ d
  have h2 : Kept admRegs d1 d2 := by
    simp only [d2]; split
    · exact Kept.refl _ _
    · exact kept_applyRate _ _ _ _
  exact h1.trans (h2.trans (((kept_modTxn admRegs _ _ _).trans (kept_setFld admRegs _ F.CH_ADM_STAT_CAUSE _ _ _ (by decide))).trans
    (kept_grantAdmission admRegs _ _ _ _)))

theorem kept_markRefused (n : Nat) (t : Txn) (st : Status) : Kept admRegs d (d.markRefused n t st) := by
  unfold Dev.markRefused; split
  · exact Kept.cond _ (kept_setOn admRegs d F.ARB_FG_STAT_REFUSED _ _ _ (by decide))
  · exact Kept.refl _ d

/-- An attempt at admission (R344). -/
theorem kept_tryAdmit (n : Nat) : Kept admRegs d (d.tryAdmit n) := by
  unfold Dev.tryAdmit; split
  · exact Kept.refl _ d
  · split
    · exact Kept.refl _ d
    · split
      · exact Kept.refl _ d
      · split
        · exact (kept_markRefused d _ _ _).trans ((kept_setFld admRegs _ F.CH_ADM_STAT_CAUSE _ _ _ (by decide)).trans
            ((kept_refuse _ _ _).mono (by decide)))
        · extract_lets dr len other m m1
          split
          · exact kept_admitNow d n _
          · exact kept_setFld admRegs d F.CH_ADM_STAT_CAUSE _ _ _ (by decide)

/-- An admitted transaction judged again (R372). -/
theorem kept_recheck (n : Nat) : Kept workRegs d (d.recheck n) := by
  unfold Dev.recheck; split
  · exact Kept.refl _ d
  · split
    · exact Kept.refl _ d
    split
    · split
      · exact Kept.refl _ d
      · exact kept_dropProbe _ d n
    · extract_lets uses
      split
      · exact kept_refuse d _ _
      · split
        · exact kept_refuse d _ _
        · split
          · exact kept_refuse d _ _
          · split
            · exact kept_refuse d _ _
            · split
              · exact kept_backToWait _ d _
              · exact Kept.refl _ d

theorem kept_retry (p : Nat) : Kept admRegs d (d.retry p) :=
  (Kept.each _ fun d n => (kept_recheck d n).mono (by decide)).trans (Kept.each _ fun d n => kept_tryAdmit d n)
theorem kept_retryAll : Kept admRegs d d.retryAll := Kept.foldl _ fun d p => kept_retry d p

/-! ### TIME_LOCK -/

theorem kept_gateUnlock (p : Nat) : Kept L d (d.gateUnlock p) := by
  unfold Dev.gateUnlock; extract_lets g
  split
  · dsimp only
    exact (kept_modPav L d _ _).trans (Kept.each _ fun _ _ => kept_modTxn L _ _ _)
  · exact Kept.refl L d

/-- The registers that a change of TIME_LOCK may change: it tries and judges transactions again. -/
def lockRegs : List RegName := [.TIME_STAT] ++ admRegs

/-- A change of TIME_LOCK: the bit, its event, the gates, and the transactions tried under the new timeline. -/
theorem kept_setLock (b : Bool) : Kept lockRegs d (d.setLock b) := by
  unfold Dev.setLock; split
  · exact Kept.refl _ d
  · extract_lets d1 d2
    have h : Kept lockRegs d d2 :=
      (kept_setOn _ d F.TIME_STAT_LOCK 0 0 b (by decide)).trans ((told_event _ _ _ _ _ _).kept.mono (by decide))
    refine Kept.trans ?_ ((kept_retryAll _).mono (by decide))
    split
    · exact h
    · exact h.trans (Kept.foldl _ fun _ _ => kept_gateUnlock _ _ _)

/-- After it, TIME_LOCK is what was asked for. -/
@[simp] theorem locked_setLock (b : Bool) : (d.setLock b).locked = b := by
  unfold Dev.setLock; split
  · assumption
  · extract_lets d1 d2
    have h : d2.locked = b := by
      simp only [Dev.locked, d2, (told_event d1 _ _ _ _ _).on F.TIME_STAT_LOCK 0 0 (by decide)]
      exact Dev.on_setOn_same _ _ _ _ _ (by decide) rfl
    simp only [Dev.locked] at h ⊢
    rw [(kept_retryAll _).on _ _ _ (by decide)]
    split
    · exact h
    · have k : Kept [] d2 ((List.range 6).foldl Dev.gateUnlock d2) := Kept.foldl _ fun _ _ => kept_gateUnlock _ _ _
      rw [k.on _ _ _ (by decide), h]

end Sys2Proof.Machine
end

