-- ==== Sys2Proof/Laws/PerInstr.lean ====
section
/-! SUPPORT. Family Shape: the command table gives no row any bits, so no word spells a command. -/

namespace Sys2Proof.Laws.Shape

/-- No word of the table spells the command. -/
def Statement (i : Instr) : Prop := ∀ n w : Nat, decodeTableWord n w ≠ some i

theorem powerOn : Statement .powerOn := fun _ _ h => nomatch h
theorem resetAssert : ∀ x0, Statement (.resetAssert x0) := by intros; exact fun _ _ h => nomatch h
theorem resetRelease : ∀ x0 x1 x2, Statement (.resetRelease x0 x1 x2) := by intros; exact fun _ _ h => nomatch h
theorem configurationReady : ∀ x0, Statement (.configurationReady x0) := by intros; exact fun _ _ h => nomatch h
theorem sectionsLoaded : ∀ x0, Statement (.sectionsLoaded x0) := by intros; exact fun _ _ h => nomatch h
theorem brownout : ∀ x0, Statement (.brownout x0) := by intros; exact fun _ _ h => nomatch h
theorem perstNAssert : Statement .perstNAssert := fun _ _ h => nomatch h
theorem hotReset : ∀ x0, Statement (.hotReset x0) := by intros; exact fun _ _ h => nomatch h
theorem linkTraining : ∀ x0 x1 x2, Statement (.linkTraining x0 x1 x2) := by intros; exact fun _ _ h => nomatch h
theorem busMasterEnableChange : ∀ x0 x1, Statement (.busMasterEnableChange x0 x1) := by intros; exact fun _ _ h => nomatch h
theorem synColdStartDone : ∀ x0 x1, Statement (.synColdStartDone x0 x1) := by intros; exact fun _ _ h => nomatch h
theorem calReq : Statement .calReq := fun _ _ h => nomatch h
theorem restartA : Statement .restartA := fun _ _ h => nomatch h
theorem restartB : Statement .restartB := fun _ _ h => nomatch h
theorem synCalComplete : ∀ x0, Statement (.synCalComplete x0) := by intros; exact fun _ _ h => nomatch h
theorem alignedSwap : ∀ x0 x1, Statement (.alignedSwap x0 x1) := by intros; exact fun _ _ h => nomatch h
theorem synCalTimeout : ∀ x0, Statement (.synCalTimeout x0) := by intros; exact fun _ _ h => nomatch h
theorem synLossOfLock : ∀ x0, Statement (.synLossOfLock x0) := by intros; exact fun _ _ h => nomatch h
theorem emergencyTakeover : ∀ x0 x1, Statement (.emergencyTakeover x0 x1) := by intros; exact fun _ _ h => nomatch h
theorem synTempCheck : Statement .synTempCheck := fun _ _ h => nomatch h
theorem refclkLoss : Statement .refclkLoss := fun _ _ h => nomatch h
theorem refclkReturn : Statement .refclkReturn := fun _ _ h => nomatch h
theorem synTrimWrite : ∀ x0, Statement (.synTrimWrite x0) := by intros; exact fun _ _ h => nomatch h
theorem trimApply : Statement .trimApply := fun _ _ h => nomatch h
theorem phaseOfsUserWrite : ∀ x0 x1, Statement (.phaseOfsUserWrite x0 x1) := by intros; exact fun _ _ h => nomatch h
theorem timeLoad : Statement .timeLoad := fun _ _ h => nomatch h
theorem timeNowNsRead : ∀ x0, Statement (.timeNowNsRead x0) := by intros; exact fun _ _ h => nomatch h
theorem timeNextSlWrite : ∀ x0, Statement (.timeNextSlWrite x0) := by intros; exact fun _ _ h => nomatch h
theorem ppsEdge : ∀ x0 x1, Statement (.ppsEdge x0 x1) := by intros; exact fun _ _ h => nomatch h
theorem ppsMissing : Statement .ppsMissing := fun _ _ h => nomatch h
theorem holdoverExpiry : Statement .holdoverExpiry := fun _ _ h => nomatch h
theorem trellisMarginUpdate : ∀ x0, Statement (.trellisMarginUpdate x0) := by intros; exact fun _ _ h => nomatch h
theorem dieTempConversion : ∀ x0 x1, Statement (.dieTempConversion x0 x1) := by intros; exact fun _ _ h => nomatch h
theorem calTempUpdate : Statement .calTempUpdate := fun _ _ h => nomatch h
theorem dripStep : ∀ x0, Statement (.dripStep x0) := by intros; exact fun _ _ h => nomatch h
theorem transactionAdmission : ∀ x0, Statement (.transactionAdmission x0) := by intros; exact fun _ _ h => nomatch h
theorem fieldStart : ∀ x0, Statement (.fieldStart x0) := by intros; exact fun _ _ h => nomatch h
theorem deviceFrameStart : ∀ x0, Statement (.deviceFrameStart x0) := by intros; exact fun _ _ h => nomatch h
theorem deviceFrameEnd : ∀ x0, Statement (.deviceFrameEnd x0) := by intros; exact fun _ _ h => nomatch h
theorem sofDetected : ∀ x0 x1 x2, Statement (.sofDetected x0 x1 x2) := by intros; exact fun _ _ h => nomatch h
theorem falseSof : ∀ x0 x1, Statement (.falseSof x0 x1) := by intros; exact fun _ _ h => nomatch h
theorem captureStep : ∀ x0 x1, Statement (.captureStep x0 x1) := by intros; exact fun _ _ h => nomatch h
theorem captureWindowClose : ∀ x0 x1, Statement (.captureWindowClose x0 x1) := by intros; exact fun _ _ h => nomatch h
theorem tagFrameReceived : ∀ x0 x1, Statement (.tagFrameReceived x0 x1) := by intros; exact fun _ _ h => nomatch h
theorem responseWindowClose : ∀ x0 x1, Statement (.responseWindowClose x0 x1) := by intros; exact fun _ _ h => nomatch h
theorem fieldRampDownEnd : ∀ x0, Statement (.fieldRampDownEnd x0) := by intros; exact fun _ _ h => nomatch h
theorem powerWindowEnd : ∀ x0 x1, Statement (.powerWindowEnd x0 x1) := by intros; exact fun _ _ h => nomatch h
theorem dutySliceEnd : Statement .dutySliceEnd := fun _ _ h => nomatch h
theorem chainFault : ∀ x0, Statement (.chainFault x0) := by intros; exact fun _ _ h => nomatch h
theorem pwrLimWrite : ∀ x0 x1, Statement (.pwrLimWrite x0 x1) := by intros; exact fun _ _ h => nomatch h
theorem tuneWrite : ∀ x0 x1, Statement (.tuneWrite x0 x1) := by intros; exact fun _ _ h => nomatch h
theorem gateClosing : ∀ x0 x1, Statement (.gateClosing x0 x1) := by intros; exact fun _ _ h => nomatch h
theorem gateEntryBoundary : ∀ x0, Statement (.gateEntryBoundary x0) := by intros; exact fun _ _ h => nomatch h
theorem gateChange : ∀ x0 x1, Statement (.gateChange x0 x1) := by intros; exact fun _ _ h => nomatch h
theorem gateCancel : ∀ x0 x1, Statement (.gateCancel x0 x1) := by intros; exact fun _ _ h => nomatch h
theorem gateListSwitch : ∀ x0, Statement (.gateListSwitch x0) := by intros; exact fun _ _ h => nomatch h
theorem gateEnable : ∀ x0 x1, Statement (.gateEnable x0 x1) := by intros; exact fun _ _ h => nomatch h
theorem gateEnableEffect : ∀ x0, Statement (.gateEnableEffect x0) := by intros; exact fun _ _ h => nomatch h
theorem fallbackPeriodStart : ∀ x0, Statement (.fallbackPeriodStart x0) := by intros; exact fun _ _ h => nomatch h
theorem operListTakeover : ∀ x0, Statement (.operListTakeover x0) := by intros; exact fun _ _ h => nomatch h
theorem gateFbWrite : ∀ x0 x1 x2, Statement (.gateFbWrite x0 x1 x2) := by intros; exact fun _ _ h => nomatch h
theorem bktWrite : ∀ x0 x1 x2, Statement (.bktWrite x0 x1 x2) := by intros; exact fun _ _ h => nomatch h
theorem budgetWrite : ∀ x0 x1, Statement (.budgetWrite x0 x1) := by intros; exact fun _ _ h => nomatch h
theorem shpWrite : ∀ x0 x1 x2, Statement (.shpWrite x0 x1 x2) := by intros; exact fun _ _ h => nomatch h
theorem coexGntFall : ∀ x0, Statement (.coexGntFall x0) := by intros; exact fun _ _ h => nomatch h
theorem coexGntRise : ∀ x0, Statement (.coexGntRise x0) := by intros; exact fun _ _ h => nomatch h
theorem coexEnWrite : ∀ x0 x1, Statement (.coexEnWrite x0 x1) := by intros; exact fun _ _ h => nomatch h
theorem vdrvDip : ∀ x0 x1, Statement (.vdrvDip x0 x1) := by intros; exact fun _ _ h => nomatch h
theorem vdrvReturn : ∀ x0 x1, Statement (.vdrvReturn x0 x1) := by intros; exact fun _ _ h => nomatch h
theorem vdrvNomWrite : ∀ x0 x1, Statement (.vdrvNomWrite x0 x1) := by intros; exact fun _ _ h => nomatch h
theorem coreWarn : ∀ x0, Statement (.coreWarn x0) := by intros; exact fun _ _ h => nomatch h
theorem coreWarnRelease : ∀ x0, Statement (.coreWarnRelease x0) := by intros; exact fun _ _ h => nomatch h
theorem firSwitch : ∀ x0, Statement (.firSwitch x0) := by intros; exact fun _ _ h => nomatch h
theorem firFadeEnd : ∀ x0, Statement (.firFadeEnd x0) := by intros; exact fun _ _ h => nomatch h
theorem coefWrite : ∀ x0 x1 x2 x3, Statement (.coefWrite x0 x1 x2 x3) := by intros; exact fun _ _ h => nomatch h
theorem agcModeWrite : ∀ x0 x1, Statement (.agcModeWrite x0 x1) := by intros; exact fun _ _ h => nomatch h
theorem agcHoldRelease : ∀ x0, Statement (.agcHoldRelease x0) := by intros; exact fun _ _ h => nomatch h
theorem agcOverload : ∀ x0, Statement (.agcOverload x0) := by intros; exact fun _ _ h => nomatch h
theorem estFAmpRead : ∀ x0 x1, Statement (.estFAmpRead x0 x1) := by intros; exact fun _ _ h => nomatch h
theorem pilotBatch : ∀ x0 x1, Statement (.pilotBatch x0 x1) := by intros; exact fun _ _ h => nomatch h
theorem priorityProbe : ∀ x0 x1, Statement (.priorityProbe x0 x1) := by intros; exact fun _ _ h => nomatch h
theorem pilotProbeEnd : ∀ x0 x1 x2, Statement (.pilotProbeEnd x0 x1 x2) := by intros; exact fun _ _ h => nomatch h
theorem columnStale : ∀ x0 x1, Statement (.columnStale x0 x1) := by intros; exact fun _ _ h => nomatch h
theorem arbCmWrite : ∀ x0 x1 x2 x3, Statement (.arbCmWrite x0 x1 x2 x3) := by intros; exact fun _ _ h => nomatch h
theorem fgWeightWrite : ∀ x0 x1 x2 x3, Statement (.fgWeightWrite x0 x1 x2 x3) := by intros; exact fun _ _ h => nomatch h
theorem pollCycleDue : ∀ x0 x1, Statement (.pollCycleDue x0 x1) := by intros; exact fun _ _ h => nomatch h
theorem staggerPhaseStart : ∀ x0 x1, Statement (.staggerPhaseStart x0 x1) := by intros; exact fun _ _ h => nomatch h
theorem hostWaitExpiry : ∀ x0, Statement (.hostWaitExpiry x0) := by intros; exact fun _ _ h => nomatch h
theorem blvSweepStart : ∀ x0, Statement (.blvSweepStart x0) := by intros; exact fun _ _ h => nomatch h
theorem blvProbeStep : ∀ x0 x1, Statement (.blvProbeStep x0 x1) := by intros; exact fun _ _ h => nomatch h
theorem blvAdopt : ∀ x0, Statement (.blvAdopt x0) := by intros; exact fun _ _ h => nomatch h
theorem listenFieldPresent : ∀ x0 x1 x2, Statement (.listenFieldPresent x0 x1 x2) := by intros; exact fun _ _ h => nomatch h
theorem listenFieldAbsent : ∀ x0 x1, Statement (.listenFieldAbsent x0 x1) := by intros; exact fun _ _ h => nomatch h
theorem lsnFdWrite : ∀ x0 x1, Statement (.lsnFdWrite x0 x1) := by intros; exact fun _ _ h => nomatch h
theorem readerFrameReceived : ∀ x0 x1, Statement (.readerFrameReceived x0 x1) := by intros; exact fun _ _ h => nomatch h
theorem listenAnswerSend : ∀ x0, Statement (.listenAnswerSend x0) := by intros; exact fun _ _ h => nomatch h
theorem listenWtxTimer : ∀ x0, Statement (.listenWtxTimer x0) := by intros; exact fun _ _ h => nomatch h
theorem listenHostCapExpiry : ∀ x0, Statement (.listenHostCapExpiry x0) := by intros; exact fun _ _ h => nomatch h
theorem tagmemCommit : ∀ x0, Statement (.tagmemCommit x0) := by intros; exact fun _ _ h => nomatch h
theorem ehWakeRise : ∀ x0, Statement (.ehWakeRise x0) := by intros; exact fun _ _ h => nomatch h
theorem setRoleEffect : ∀ x0, Statement (.setRoleEffect x0) := by intros; exact fun _ _ h => nomatch h
theorem calBorrowStart : ∀ x0, Statement (.calBorrowStart x0) := by intros; exact fun _ _ h => nomatch h
theorem startupCalStart : ∀ x0, Statement (.startupCalStart x0) := by intros; exact fun _ _ h => nomatch h
theorem calProcedureEnd : ∀ x0 x1, Statement (.calProcedureEnd x0 x1) := by intros; exact fun _ _ h => nomatch h
theorem mirrorExport : Statement .mirrorExport := fun _ _ h => nomatch h
theorem mirrorImport : Statement .mirrorImport := fun _ _ h => nomatch h
theorem mirrorDone : ∀ x0 x1 x2, Statement (.mirrorDone x0 x1 x2) := by intros; exact fun _ _ h => nomatch h
theorem commandDoorbell : ∀ x0 x1, Statement (.commandDoorbell x0 x1) := by intros; exact fun _ _ h => nomatch h
theorem eventDoorbell : ∀ x0 x1, Statement (.eventDoorbell x0 x1) := by intros; exact fun _ _ h => nomatch h
theorem ringCfgWrite : ∀ x0 x1, Statement (.ringCfgWrite x0 x1) := by intros; exact fun _ _ h => nomatch h
theorem descriptorTakeUp : ∀ x0 x1 x2 x3 x4, Statement (.descriptorTakeUp x0 x1 x2 x3 x4) := by intros; exact fun _ _ h => nomatch h
theorem descriptorFetchError : ∀ x0, Statement (.descriptorFetchError x0) := by intros; exact fun _ _ h => nomatch h
theorem descriptorStart : ∀ x0, Statement (.descriptorStart x0) := by intros; exact fun _ _ h => nomatch h
theorem deadlineExpiry : ∀ x0, Statement (.deadlineExpiry x0) := by intros; exact fun _ _ h => nomatch h
theorem eventPost : ∀ x0, Statement (.eventPost x0) := by intros; exact fun _ _ h => nomatch h
theorem msixModTimer : ∀ x0, Statement (.msixModTimer x0) := by intros; exact fun _ _ h => nomatch h
theorem msixUnmask : ∀ x0, Statement (.msixUnmask x0) := by intros; exact fun _ _ h => nomatch h
theorem nop : ∀ x0, Statement (.nop x0) := by intros; exact fun _ _ h => nomatch h
theorem exchange : ∀ x0, Statement (.exchange x0) := by intros; exact fun _ _ h => nomatch h
theorem isodepExchange : ∀ x0, Statement (.isodepExchange x0) := by intros; exact fun _ _ h => nomatch h
theorem listenRespond : ∀ x0, Statement (.listenRespond x0) := by intros; exact fun _ _ h => nomatch h
theorem tagOp : ∀ x0, Statement (.tagOp x0) := by intros; exact fun _ _ h => nomatch h
theorem progLoad : ∀ x0, Statement (.progLoad x0) := by intros; exact fun _ _ h => nomatch h
theorem progStart : ∀ x0, Statement (.progStart x0) := by intros; exact fun _ _ h => nomatch h
theorem progStop : ∀ x0, Statement (.progStop x0) := by intros; exact fun _ _ h => nomatch h
theorem scriptLoad : ∀ x0, Statement (.scriptLoad x0) := by intros; exact fun _ _ h => nomatch h
theorem runCycle : ∀ x0, Statement (.runCycle x0) := by intros; exact fun _ _ h => nomatch h
theorem setRole : ∀ x0, Statement (.setRole x0) := by intros; exact fun _ _ h => nomatch h
theorem sessionQuery : Statement .sessionQuery := fun _ _ h => nomatch h
theorem cancel : ∀ x0 x1 x2, Statement (.cancel x0 x1 x2) := by intros; exact fun _ _ h => nomatch h
theorem captureStart : ∀ x0, Statement (.captureStart x0) := by intros; exact fun _ _ h => nomatch h
theorem captureStop : ∀ x0, Statement (.captureStop x0) := by intros; exact fun _ _ h => nomatch h
theorem captureStreamStart : ∀ x0, Statement (.captureStreamStart x0) := by intros; exact fun _ _ h => nomatch h
theorem captureWrite : ∀ x0 x1 x2, Statement (.captureWrite x0 x1 x2) := by intros; exact fun _ _ h => nomatch h
theorem captureGap : ∀ x0, Statement (.captureGap x0) := by intros; exact fun _ _ h => nomatch h
theorem elasticBufferFull : ∀ x0, Statement (.elasticBufferFull x0) := by intros; exact fun _ _ h => nomatch h
theorem elasticBufferResume : ∀ x0, Statement (.elasticBufferResume x0) := by intros; exact fun _ _ h => nomatch h
theorem captureStreamEnd : ∀ x0, Statement (.captureStreamEnd x0) := by intros; exact fun _ _ h => nomatch h
theorem tagmemAlloc : Statement .tagmemAlloc := fun _ _ h => nomatch h
theorem tagmemFree : Statement .tagmemFree := fun _ _ h => nomatch h
theorem tagmemWrite : ∀ x0, Statement (.tagmemWrite x0) := by intros; exact fun _ _ h => nomatch h
theorem tagmemRead : ∀ x0, Statement (.tagmemRead x0) := by intros; exact fun _ _ h => nomatch h
theorem tagmemSave : Statement .tagmemSave := fun _ _ h => nomatch h
theorem tagmemBind : ∀ x0, Statement (.tagmemBind x0) := by intros; exact fun _ _ h => nomatch h
theorem listenArm : ∀ x0, Statement (.listenArm x0) := by intros; exact fun _ _ h => nomatch h
theorem syncal : Statement .syncal := fun _ _ h => nomatch h
theorem cal : ∀ x0, Statement (.cal x0) := by intros; exact fun _ _ h => nomatch h
theorem ledgerAttach : Statement .ledgerAttach := fun _ _ h => nomatch h
theorem ledgerDetach : Statement .ledgerDetach := fun _ _ h => nomatch h
theorem ledgerInvalidate : Statement .ledgerInvalidate := fun _ _ h => nomatch h
theorem ledgerConfirm : ∀ x0, Statement (.ledgerConfirm x0) := by intros; exact fun _ _ h => nomatch h
theorem attest : Statement .attest := fun _ _ h => nomatch h
theorem keyManage : Statement .keyManage := fun _ _ h => nomatch h
theorem lifecycle : ∀ x0, Statement (.lifecycle x0) := by intros; exact fun _ _ h => nomatch h
theorem lifecycleReset : Statement .lifecycleReset := fun _ _ h => nomatch h
theorem regLock : Statement .regLock := fun _ _ h => nomatch h
theorem sealedWrite : Statement .sealedWrite := fun _ _ h => nomatch h
theorem ledgerReadDone : ∀ x0, Statement (.ledgerReadDone x0) := by intros; exact fun _ _ h => nomatch h
theorem ledgerReadTimeout : Statement .ledgerReadTimeout := fun _ _ h => nomatch h
theorem grantPulseEnd : ∀ x0, Statement (.grantPulseEnd x0) := by intros; exact fun _ _ h => nomatch h
theorem grantReadbackFault : ∀ x0, Statement (.grantReadbackFault x0) := by intros; exact fun _ _ h => nomatch h
theorem confirmExpiry : Statement .confirmExpiry := fun _ _ h => nomatch h
theorem reboot : Statement .reboot := fun _ _ h => nomatch h
theorem debugTokenExpiry : Statement .debugTokenExpiry := fun _ _ h => nomatch h
theorem debugHalt : ∀ x0, Statement (.debugHalt x0) := by intros; exact fun _ _ h => nomatch h
theorem faultDetection : ∀ x0 x1 x2 x3 x4, Statement (.faultDetection x0 x1 x2 x3 x4) := by intros; exact fun _ _ h => nomatch h
theorem scrubPass : Statement .scrubPass := fun _ _ h => nomatch h
theorem selfTest : ∀ x0 x1 x2 x3, Statement (.selfTest x0 x1 x2 x3) := by intros; exact fun _ _ h => nomatch h
theorem microcodeReloadDone : ∀ x0 x1, Statement (.microcodeReloadDone x0 x1) := by intros; exact fun _ _ h => nomatch h
theorem faultInject : ∀ x0, Statement (.faultInject x0) := by intros; exact fun _ _ h => nomatch h
theorem isolationClear : ∀ x0 x1 x2, Statement (.isolationClear x0 x1 x2) := by intros; exact fun _ _ h => nomatch h
theorem pavStateRequest : ∀ x0 x1, Statement (.pavStateRequest x0 x1) := by intros; exact fun _ _ h => nomatch h
theorem pavStateChangeDone : ∀ x0, Statement (.pavStateChangeDone x0) := by intros; exact fun _ _ h => nomatch h
theorem pavWake : ∀ x0, Statement (.pavWake x0) := by intros; exact fun _ _ h => nomatch h
theorem pavIdleExpiry : ∀ x0, Statement (.pavIdleExpiry x0) := by intros; exact fun _ _ h => nomatch h
theorem sleepRequest : Statement .sleepRequest := fun _ _ h => nomatch h
theorem sleepEntry : Statement .sleepEntry := fun _ _ h => nomatch h
theorem wakeTimerExpiry : Statement .wakeTimerExpiry := fun _ _ h => nomatch h
theorem kskReadSlow : ∀ x0 x1 x2, Statement (.kskReadSlow x0 x1 x2) := by intros; exact fun _ _ h => nomatch h
theorem kskRead : ∀ x0 x1 x2, Statement (.kskRead x0 x1 x2) := by intros; exact fun _ _ h => nomatch h
theorem kskReadFast : ∀ x0 x1 x2, Statement (.kskReadFast x0 x1 x2) := by intros; exact fun _ _ h => nomatch h
theorem kskWrite : ∀ x0 x1 x2 x3, Statement (.kskWrite x0 x1 x2 x3) := by intros; exact fun _ _ h => nomatch h
theorem kskSealedWrite : ∀ x0 x1 x2 x3 x4, Statement (.kskSealedWrite x0 x1 x2 x3 x4) := by intros; exact fun _ _ h => nomatch h
theorem kskStatus : ∀ x0 x1, Statement (.kskStatus x0 x1) := by intros; exact fun _ _ h => nomatch h
theorem flsRead : ∀ x0, Statement (.flsRead x0) := by intros; exact fun _ _ h => nomatch h
theorem flsProgram : ∀ x0, Statement (.flsProgram x0) := by intros; exact fun _ _ h => nomatch h
theorem flsErase4k : ∀ x0, Statement (.flsErase4k x0) := by intros; exact fun _ _ h => nomatch h
theorem flsErase64k : ∀ x0, Statement (.flsErase64k x0) := by intros; exact fun _ _ h => nomatch h
theorem flsEraseChip : ∀ x0, Statement (.flsEraseChip x0) := by intros; exact fun _ _ h => nomatch h
theorem flsReadId : ∀ x0, Statement (.flsReadId x0) := by intros; exact fun _ _ h => nomatch h
theorem flashOpDone : ∀ x0 x1, Statement (.flashOpDone x0 x1) := by intros; exact fun _ _ h => nomatch h
theorem flashOpTimeout : Statement .flashOpTimeout := fun _ _ h => nomatch h
theorem xipRead : ∀ x0 x1, Statement (.xipRead x0 x1) := by intros; exact fun _ _ h => nomatch h
theorem xipWrite : ∀ x0 x1, Statement (.xipWrite x0 x1) := by intros; exact fun _ _ h => nomatch h
theorem timerEnable : ∀ x0 x1, Statement (.timerEnable x0 x1) := by intros; exact fun _ _ h => nomatch h
theorem timerWrap : ∀ x0, Statement (.timerWrap x0) := by intros; exact fun _ _ h => nomatch h
theorem timerCompareMatch : ∀ x0, Statement (.timerCompareMatch x0) := by intros; exact fun _ _ h => nomatch h
theorem timerPeriodWrite : ∀ x0 x1 x2, Statement (.timerPeriodWrite x0 x1 x2) := by intros; exact fun _ _ h => nomatch h
theorem timerCapture : ∀ x0 x1, Statement (.timerCapture x0 x1) := by intros; exact fun _ _ h => nomatch h
theorem capSw : ∀ x0, Statement (.capSw x0) := by intros; exact fun _ _ h => nomatch h
theorem tmrCapRead : ∀ x0 x1, Statement (.tmrCapRead x0 x1) := by intros; exact fun _ _ h => nomatch h
theorem scClear : ∀ x0, Statement (.scClear x0) := by intros; exact fun _ _ h => nomatch h
theorem prmFrameSend : ∀ x0 x1 x2 x3, Statement (.prmFrameSend x0 x1 x2 x3) := by intros; exact fun _ _ h => nomatch h
theorem prmLaneUp : ∀ x0 x1 x2, Statement (.prmLaneUp x0 x1 x2) := by intros; exact fun _ _ h => nomatch h
theorem prmLaneDown : ∀ x0, Statement (.prmLaneDown x0) := by intros; exact fun _ _ h => nomatch h
theorem positionTimeout : Statement .positionTimeout := fun _ _ h => nomatch h
theorem prmFault : ∀ x0 x1, Statement (.prmFault x0 x1) := by intros; exact fun _ _ h => nomatch h
theorem prmProbe : ∀ x0 x1, Statement (.prmProbe x0 x1) := by intros; exact fun _ _ h => nomatch h
theorem prmProbeAck : ∀ x0 x1, Statement (.prmProbeAck x0 x1) := by intros; exact fun _ _ h => nomatch h
theorem seamProbeSlot : ∀ x0 x1 x2, Statement (.seamProbeSlot x0 x1 x2) := by intros; exact fun _ _ h => nomatch h
theorem prmDelayReq : ∀ x0 x1, Statement (.prmDelayReq x0 x1) := by intros; exact fun _ _ h => nomatch h
theorem prmDelayResp : ∀ x0 x1, Statement (.prmDelayResp x0 x1) := by intros; exact fun _ _ h => nomatch h
theorem prmEpoch : ∀ x0, Statement (.prmEpoch x0) := by intros; exact fun _ _ h => nomatch h
theorem prmTime : ∀ x0 x1, Statement (.prmTime x0 x1) := by intros; exact fun _ _ h => nomatch h
theorem prmPhase : ∀ x0 x1 x2 x3, Statement (.prmPhase x0 x1 x2 x3) := by intros; exact fun _ _ h => nomatch h
theorem prmSeamA : ∀ x0 x1, Statement (.prmSeamA x0 x1) := by intros; exact fun _ _ h => nomatch h
theorem prmSeamB : ∀ x0 x1, Statement (.prmSeamB x0 x1) := by intros; exact fun _ _ h => nomatch h
theorem prmHello : ∀ x0 x1 x2, Statement (.prmHello x0 x1 x2) := by intros; exact fun _ _ h => nomatch h
theorem prmIdle : ∀ x0 x1, Statement (.prmIdle x0 x1) := by intros; exact fun _ _ h => nomatch h
theorem epochSend : ∀ x0, Statement (.epochSend x0) := by intros; exact fun _ _ h => nomatch h
theorem pairLowRead : ∀ x0 x1 x2, Statement (.pairLowRead x0 x1 x2) := by intros; exact fun _ _ h => nomatch h
theorem registerWrite : ∀ x0 x1 x2, Statement (.registerWrite x0 x1 x2) := by intros; exact fun _ _ h => nomatch h
theorem responseWindowOpen : ∀ x0, Statement (.responseWindowOpen x0) := by intros; exact fun _ _ h => nomatch h
theorem declaredLengthEnd : ∀ x0, Statement (.declaredLengthEnd x0) := by intros; exact fun _ _ h => nomatch h
theorem kskBadFrame : ∀ x0 x1 x2 x3, Statement (.kskBadFrame x0 x1 x2 x3) := by intros; exact fun _ _ h => nomatch h
theorem prmFrameCrcFail : ∀ x0 x1, Statement (.prmFrameCrcFail x0 x1) := by intros; exact fun _ _ h => nomatch h
theorem timerTick : ∀ x0, Statement (.timerTick x0) := by intros; exact fun _ _ h => nomatch h
theorem tmrInEdge : ∀ x0 x1 x2, Statement (.tmrInEdge x0 x1 x2) := by intros; exact fun _ _ h => nomatch h
theorem debugHaltRelease : ∀ x0, Statement (.debugHaltRelease x0) := by intros; exact fun _ _ h => nomatch h
theorem extest : ∀ x0, Statement (.extest x0) := by intros; exact fun _ _ h => nomatch h

end Sys2Proof.Laws.Shape
end

