-- ==== Sys2Proof/Machine/Dsp.lean ====
section
/-! DEFINITION. What the sample path computes on one sample: converter, mixer, half-band stages, channel filter, cross-fade,
estimates, resampler and capture word (R43, R106 to R113, R117, R122 to R125, R129, R134, R135, R138). Only a window's HB1 and HB2 samples
and a stream's samples reach the model as operands: the meanings that take them are in Receive.lean, Combiner.lean and Capture.lean (log
entry 57). -/

namespace Sys2Proof.Machine

/-! ### Carrier, converter and mixer -/

/-- The carrier phase of a channel at an accumulator value, in 1/1024 turn, with the phase of its weight on top (R43, R197). -/
def Dev.carrierPhase (d : Dev) (n acc : Nat) : Nat :=
  (acc / 2 ^ 22 + d.fld F.CH_PHASE_OFS_CAL n + d.fld F.CH_PHASE_OFS_USER n + ((d.drivenNow n).map (·.ph)).getD 0) % 1024

/-- The accumulator value that sample n is taken at (R107). -/
def sampleAcc (n : Nat) : Nat := n * 0x40000000 % 2 ^ 32

/-- Full scale is 2.0 V peak at a PGA gain of 0 dB and falls by the gain, 2 dB a step: an input of `uv` microvolts reaches `m` steps of
8,192 at a gain (R106). -/
def adcReach (g uv m : Nat) : Bool := decide ((m * 2000000) ^ 10 ≤ (uv * 8192) ^ 10 * 10 ^ g)

/-- The code of an input in microvolts at a PGA gain in 2 dB steps (R106): the magnitude in whole steps, the next one up with `up`
where it lies between two, saturated to 14 bits. -/
def adcCode (up : Bool) (g : Nat) (uv : Int) : Int :=
  let m := [8192, 4096, 2048, 1024, 512, 256, 128, 64, 32, 16, 8, 4, 2, 1].foldl (fun a k =>
    if adcReach g uv.natAbs (a + k) then a + k else a) 0
  let m : Nat := if up && decide ((m * 2000000) ^ 10 < (uv.natAbs * 8192) ^ 10 * 10 ^ g) then m + 1 else m
  satTo 14 (if uv < 0 then -(m : Int) else m)

/-- The converter input in force (R108): the receive tap in every exchange, whatever SRC holds; SRC outside one; in the CAL role what
the procedure's step takes, where R528, R535 and R538 name it: the internal short before the first field of a channel procedure and the
receive tap in its step 5; the receive tap in a coupling measurement; CALREF, then the drive tap, then with the coupon the receive tap in a
reference calibration. Elsewhere it is open. -/
def Dev.srcNow (d : Dev) (n : Nat) : Option Nat :=
  match d.calOf n with
  | some r =>
    let k := (tblGet r.fields n (0, 0)).1
    if r.kind = 7 then some 0
    else if r.kind = 8 then some (if k = 0 then 2 else if k ≤ 3 then 1 else 0)
    else if k = 0 then some 3 else if k = 21 then some 0 else none
  | none =>
    if (d.ch n).cap.any (·.running) && !d.inProgress n && !d.coilOn n && !(d.ch n).lsn.field then some (d.fld F.CH_RX_CTL_SRC n)
    else some 0

/-- The code reaches full scale (R106, R132). -/
def adcFull (code : Int) : Bool := code == -8192 || code == 8191

/-- The fs/4 mixer (R109); `corner` is the 14-bit part for −1 times −8,192, which the manual does not state (log entry 57). -/
def mixer (corner : Int) (n : Nat) (x : Int) : Cx :=
  let m := if x = -8192 then corner else -x
  match n % 4 with
  | 0 => ⟨0, x⟩
  | 1 => ⟨x, 0⟩
  | 2 => ⟨0, m⟩
  | _ => ⟨m, 0⟩

/-! ### Half-band stages and filter -/

/-- The output of a stage for the exact filter sum of that stage (R111). -/
def Dev.hbOut (d : Dev) (n k : Nat) (up : Bool) (x : Cx) : Cx × Bool := shiftSatC up 18 (d.hbShift n k) x

/-- A constant phasor through stage k: gain of exactly 2, then the shift (R110, R111). -/
def Dev.hbDc (d : Dev) (n : Nat) (up : Bool) (x : Cx) (k : Nat) : Cx := (d.hbOut n k up (Cx.scale 2 x)).1

/-- Tap k of a filter bank (R113). -/
def Dev.tap (d : Dev) (n : Nat) (bankB : Bool) (k : Nat) : Int :=
  toInt 18 (d.rd (if bankB then .CH_RX_COEF_B else .CH_RX_COEF_A) n (if k < 32 then k else 63 - k))

/-- One output of a filter bank from its 64 latest inputs, the newest first (R113). -/
def Dev.firOut (d : Dev) (n : Nat) (bankB up : Bool) (x : List Cx) : Cx × Bool :=
  shiftSatC up 18 17 (((List.range 64).map fun k => Cx.scale (d.tap n bankB k) (x.getD k {})).foldl Cx.add {})

/-- The gain of a bank at zero frequency, in units of 2^-17 (R113). -/
def Dev.firGain (d : Dev) (n : Nat) (bankB : Bool) : Int := 2 * ((List.range 32).map (d.tap n bankB)).foldl (· + ·) 0

/-- Output sample i of a fade of N samples, times N (R117). -/
def fadeOut (old new : Cx) (i n : Nat) : Cx := (Cx.scale n old).add (Cx.scale i (new.sub old))

/-- The carried index that a frame edge has on the air, a sample being a quarter of Tc (R107, R122). -/
def Dev.edgeIndex (d : Dev) (n carried : Nat) : Nat := carried - d.rxLat n

/-- The input of HB3, and with FIR_SRC = 2 of the filter: the combiner's stream while combined reception is in use, else the channel's
own HB2 (R123). -/
def Dev.hb2In (d : Dev) (n : Nat) (own comb : Cx) : Cx := if d.combNow n then comb else own

/-- The filter's input from the stage outputs HB1 to HB5 (R114, R123). -/
def Dev.firIn (d : Dev) (n : Nat) (hb : Nat → Cx) (comb : Cx) : Cx :=
  if d.fld F.CH_RX_CTL_FIR_SRC n = 2 then d.hb2In n (hb 2) comb else hb (d.fld F.CH_RX_CTL_FIR_SRC n)

/-! ### Estimates -/

/-- The filter's input with carrier removal (R129); while the leader receives the combined stream its own subtraction is suppressed
(R205). -/
def Dev.dcSub (d : Dev) (n : Nat) (up : Bool) (x : Cx) : Rat × Rat :=
  let e := if d.on F.CH_RX_CTL_DC_SUB n && !d.combNow n then d.estAt n (d.fld F.CH_RX_CTL_FIR_SRC n) up else (0, 0)
  (x.re - e.1, x.im - e.2)

/-! ### Resampler and capture word -/

/-- The position of output j, in the same units (R134). -/
def rsPos (p0 m j : Nat) : Nat := p0 + j * rsStep m

/-- The phase of the prototype that a position selects (R135). -/
def rsPhase (p : Nat) : Nat := p % 2 ^ 24 / 2 ^ 17

/-- What the manual states of the prototype: 8 weights at each of 128 phases, in units of 2^-g, whose sum is 1 (R135). -/
def rsProto (g : Nat) (proto : Nat → List Int) : Bool :=
  (List.range 128).all fun k => (proto k).length == 8 && (proto k).foldl (· + ·) 0 == 2 ^ g

/-- One output, from the 8 input samples around the position and the prototype's weights at its phase (R135); the manual does not give
the weights, so they are an argument. -/
def rsOut (up : Bool) (g : Nat) (proto : Nat → List Int) (p : Nat) (x : List Cx) : Cx × Bool :=
  shiftSatC up 18 g ((List.zipWith Cx.scale (proto (rsPhase p)) (x.take 8)).foldl Cx.add {})

/-- The delay of an output in units of 2^-24 input sample: 3.5 samples and the fractional position (R135). -/
def rsDelay (p : Nat) : Nat := 7 * 2 ^ 23 + p % 2 ^ 24

end Sys2Proof.Machine
end

