-- ==== Sys2Proof/WellFormed.lean ====
section
/-! DEFINITION. Well-formed commands: the operands that a type cannot bound lie within what the manual lets arrive. The meanings
are total and do not rest on it. -/

namespace Sys2Proof

/-- Symbol vectors have twelve elements (R211). -/
def RxWire.ok (w : RxWire) : Bool := w.vecs.all fun v => v.length == 12

/-- What the sensors gave names a channel. -/
def WinFacts.ok (w : WinFacts) : Bool := decide (w.ch < 192)

/-- A procedure's findings name channels and arbours of the device, and give the 15 fields of step 2. -/
def CalFacts.ok (f : CalFacts) : Bool :=
  (f.chans.all fun c => decide (c.ch < 192) && c.rls.length == 15) && f.arbs.all fun a => decide (a.arb < 24)

/-- A target of a descriptor: channels to 0x0BF, sources to 0x3FF (R405). -/
def targetOk (t : Nat) : Bool := decide (t < 0x400)

/-- Well-formed operands. -/
def Instr.wf (i : Instr) : Bool :=
  match i with
  | .powerOn => true
  | .resetAssert _ => true
  | .resetRelease _ slotA slotB => (slotA.all fun b => b.length == 3400) && (slotB.all fun b => b.length == 3400)
  | .configurationReady _ => true
  | .sectionsLoaded secs => secs.length == 4
  | .brownout _ => true
  | .perstNAssert => true
  | .hotReset _ => true
  | .linkTraining speed width mps => decide (1 ≤ speed) && decide (speed ≤ 4) && [1, 2, 4].contains width && [128, 256, 512].contains mps
  | .busMasterEnableChange _ _ => true
  | .synColdStartDone _ _ => true
  | .calReq => true
  | .restartA => true
  | .restartB => true
  | .synCalComplete _ => true
  | .alignedSwap step cycles => decide (step ≤ 50) && decide (cycles < 2 ^ 16)
  | .synCalTimeout _ => true
  | .synLossOfLock _ => true
  | .emergencyTakeover step cycles => decide (step ≤ 18000) && decide (cycles < 2 ^ 16)
  | .synTempCheck => true
  | .refclkLoss => true
  | .refclkReturn => true
  | .synTrimWrite _ => true
  | .trimApply => true
  | .phaseOfsUserWrite _ _ => true
  | .timeLoad => true
  | .timeNowNsRead _ => true
  | .timeNextSlWrite _ => true
  | .ppsEdge _ _ => true
  | .ppsMissing => true
  | .holdoverExpiry => true
  | .trellisMarginUpdate margin => decide (-128 ≤ margin) && decide (margin ≤ 127)
  | .dieTempConversion a b => decide (-512 ≤ a) && decide (a < 512) && decide (-512 ≤ b) && decide (b < 512)
  | .calTempUpdate => true
  | .dripStep _ => true
  | .transactionAdmission _ => true
  | .fieldStart _ => true
  | .deviceFrameStart _ => true
  | .deviceFrameEnd _ => true
  | .sofDetected _ taps _ => taps.all fun t => decide (t.tap < 8) && decide (0 < t.noise)
  | .falseSof _ _ => true
  | .captureStep _ x => x.wire.ok
  | .captureWindowClose _ _ => true
  | .tagFrameReceived _ w => w.ok
  | .responseWindowClose _ _ => true
  | .fieldRampDownEnd _ => true
  | .powerWindowEnd l _ => l.all WinFacts.ok
  | .dutySliceEnd => true
  | .chainFault _ => true
  | .pwrLimWrite _ _ => true
  | .tuneWrite _ _ => true
  | .gateClosing _ _ => true
  | .gateEntryBoundary _ => true
  | .gateChange _ _ => true
  | .gateCancel _ _ => true
  | .gateListSwitch _ => true
  | .gateEnable _ _ => true
  | .gateEnableEffect _ => true
  | .fallbackPeriodStart _ => true
  | .operListTakeover _ => true
  | .gateFbWrite _ _ _ => true
  | .bktWrite _ _ _ => true
  | .budgetWrite _ _ => true
  | .shpWrite _ _ _ => true
  | .coexGntFall _ => true
  | .coexGntRise _ => true
  | .coexEnWrite _ _ => true
  | .vdrvDip _ _ => true
  | .vdrvReturn _ _ => true
  | .vdrvNomWrite _ _ => true
  | .coreWarn _ => true
  | .coreWarnRelease _ => true
  | .firSwitch _ => true
  | .firFadeEnd _ => true
  | .coefWrite _ _ _ _ => true
  | .agcModeWrite _ _ => true
  | .agcHoldRelease _ => true
  | .agcOverload _ => true
  | .estFAmpRead _ _ => true
  | .pilotBatch _ _ => true
  | .priorityProbe _ _ => true
  | .pilotProbeEnd _ meas _ => meas.all fun m => decide (m.1 < 12)
  | .columnStale _ _ => true
  | .arbCmWrite _ _ _ _ => true
  | .fgWeightWrite _ _ _ _ => true
  | .pollCycleDue _ _ => true
  | .staggerPhaseStart _ _ => true
  | .hostWaitExpiry _ => true
  | .blvSweepStart _ => true
  | .blvProbeStep _ meas => meas.length == 4 && meas.all fun m => decide (m.1 < 2 ^ 16) && decide (m.2 < 4096)
  | .blvAdopt _ => true
  | .listenFieldPresent _ _ _ => true
  | .listenFieldAbsent _ _ => true
  | .lsnFdWrite _ _ => true
  | .readerFrameReceived _ _ => true
  | .listenAnswerSend _ => true
  | .listenWtxTimer _ => true
  | .listenHostCapExpiry _ => true
  | .tagmemCommit _ => true
  | .ehWakeRise _ => true
  | .setRoleEffect _ => true
  | .calBorrowStart target => targetOk target
  | .startupCalStart _ => true
  | .calProcedureEnd target f => targetOk target && f.ok
  | .mirrorExport => true
  | .mirrorImport => true
  | .mirrorDone _ _ _ => true
  | .commandDoorbell _ _ => true
  | .eventDoorbell _ _ => true
  | .ringCfgWrite _ _ => true
  | .descriptorTakeUp _ slot ext _ _ => slot.length == 64 && (ext.isEmpty || ext.length == 32)
  | .descriptorFetchError _ => true
  | .descriptorStart target => targetOk target
  | .deadlineExpiry target => targetOk target
  | .eventPost source => targetOk source
  | .msixModTimer _ => true
  | .msixUnmask _ => true
  | .nop target => targetOk target
  | .exchange _ => true
  | .isodepExchange _ => true
  | .listenRespond _ => true
  | .tagOp _ => true
  | .progLoad _ => true
  | .progStart _ => true
  | .progStop _ => true
  | .scriptLoad _ => true
  | .runCycle _ => true
  | .setRole _ => true
  | .sessionQuery => true
  | .cancel target _ _ => targetOk target
  | .captureStart _ => true
  | .captureStop _ => true
  | .captureStreamStart _ => true
  | .captureWrite _ _ _ => true
  | .captureGap _ => true
  | .elasticBufferFull _ => true
  | .elasticBufferResume _ => true
  | .captureStreamEnd _ => true
  | .tagmemAlloc => true
  | .tagmemFree => true
  | .tagmemWrite target => targetOk target
  | .tagmemRead target => targetOk target
  | .tagmemSave => true
  | .tagmemBind _ => true
  | .listenArm _ => true
  | .syncal => true
  | .cal target => targetOk target
  | .ledgerAttach => true
  | .ledgerDetach => true
  | .ledgerInvalidate => true
  | .ledgerConfirm _ => true
  | .attest => true
  | .keyManage => true
  | .lifecycle _ => true
  | .lifecycleReset => true
  | .regLock => true
  | .sealedWrite => true
  | .ledgerReadDone data => data.length % 32 == 0
  | .ledgerReadTimeout => true
  | .grantPulseEnd _ => true
  | .grantReadbackFault _ => true
  | .confirmExpiry => true
  | .reboot => true
  | .debugTokenExpiry => true
  | .debugHalt _ => true
  | .faultDetection code kind _ _ _ => decide (code < 2 ^ 16) && decide (kind < 8)
  | .scrubPass => true
  | .selfTest code kind _ _ => decide (code < 2 ^ 16) && decide (kind < 8)
  | .microcodeReloadDone _ _ => true
  | .faultInject _ => true
  | .isolationClear _ _ _ => true
  | .pavStateRequest _ _ => true
  | .pavStateChangeDone _ => true
  | .pavWake _ => true
  | .pavIdleExpiry _ => true
  | .sleepRequest => true
  | .sleepEntry => true
  | .wakeTimerExpiry => true
  | .kskReadSlow _ _ cycles => decide (8 ≤ cycles)
  | .kskRead _ _ cycles => decide (8 ≤ cycles)
  | .kskReadFast _ _ cycles => decide (8 ≤ cycles)
  | .kskWrite _ _ cycles data => data.length == (cycles - 32) / 8
  | .kskSealedWrite _ _ cycles data _ => data.length == (cycles - 32) / 8
  | .kskStatus _ cycles => decide (8 ≤ cycles)
  | .flsRead _ => true
  | .flsProgram _ => true
  | .flsErase4k _ => true
  | .flsErase64k _ => true
  | .flsEraseChip _ => true
  | .flsReadId _ => true
  | .flashOpDone _ data => decide (data.length ≤ 256)
  | .flashOpTimeout => true
  | .xipRead ofs len => decide (ofs + len ≤ 2 ^ 26)
  | .xipWrite ofs data => decide (1 ≤ data.length) && decide (ofs % 256 + data.length ≤ 256) && decide (ofs < 2 ^ 26)
  | .timerEnable _ _ => true
  | .timerWrap _ => true
  | .timerCompareMatch _ => true
  | .timerPeriodWrite _ _ _ => true
  | .timerCapture _ _ => true
  | .capSw _ => true
  | .tmrCapRead _ _ => true
  | .scClear _ => true
  | .prmFrameSend _ _ _ probe => probe.all fun x => decide (x.1 < 192)
  | .prmLaneUp _ one two => one.length == 288 && two.length == 288
  | .prmLaneDown _ => true
  | .positionTimeout => true
  | .prmFault _ w => w.length == 288
  | .prmProbe _ w => w.length == 288
  | .prmProbeAck _ w => w.length == 288
  | .seamProbeSlot _ _ meas => meas.all fun m => decide (m.1 < 12)
  | .prmDelayReq w _ => w.length == 288
  | .prmDelayResp w _ => w.length == 288
  | .prmEpoch w => w.length == 288
  | .prmTime w _ => w.length == 288
  | .prmPhase w _ _ _ => w.length == 288
  | .prmSeamA _ w => w.length == 288
  | .prmSeamB _ w => w.length == 288
  | .prmHello _ w _ => w.length == 288
  | .prmIdle _ w => w.length == 288
  | .epochSend _ => true
  | .pairLowRead _ _ _ => true
  | .registerWrite _ _ _ => true
  | .responseWindowOpen _ => true
  | .declaredLengthEnd _ => true
  | .kskBadFrame _ cmd _ cycles => decide (cycles < 8) || !([0x03, 0x0B, 0x0C, 0x02, 0x5A, 0x05].contains cmd.val)
  | .prmFrameCrcFail _ w => w.length == 288
  | .timerTick _ => true
  | .tmrInEdge _ _ _ => true
  | .debugHaltRelease _ => true
  | .extest _ => true

end Sys2Proof
end

