-- ==== Sys2Proof/Tests/Slice0.lean ====
section
/-! SUPPORT. The model's own tests: ill-formed commands that the check refuses, and a witness for every statement's hypotheses. -/

namespace Sys2Proof.Tests

set_option Elab.async false

open Sys2Proof.Machine Sys2Proof.Safety

/-- A running device after reset, with a change. -/
def st (f : Dev → Dev) : State := { dev := f { pwr := { boot := .running } } }

/-- A state meets a condition. -/
def chk (s : State) (p : State → Bool) : Bool := p s

/-- Put a number into a field. -/
def put (f : Fld) (v : Nat) (d : Dev) : Dev := d.setFld f 0 0 v

/-! ### Carrier, synthesisers, network time -/

/-- A synthesiser pair on PPS time, 50,000 carrier cycles after configuration-ready, with a pavilion ACTIVE. -/
def syn (y : Syn) : State :=
  st fun d => put F.TIME_CTL_SOURCE 1 ({ d with syn := y, time := { tc := 50000 } }.modPav 5 fun p => { p with state := .active })

/-- A synthesiser pair that calibrates. -/
def cals (k : SynCal) (b : Bool) (y : Syn) : State := syn { y with runs := [(k, b)] }

theorem witness_SynthesiserCalibrations :
    chk (syn { a := .off }) (fun s => s.dev.syn.unit false = .off) ∧
    chk (syn { b := .standby }) (fun s => s.dev.syn.unit true ≠ .off) ∧
    chk (syn { a := .active, b := .standby }) (fun s => s.dev.syn.standby = some true ∧ s.dev.syn.runs = [] ∧
      s.dev.syn.takeover = false) ∧
    chk (st fun d => put F.PWR_TEMP_DIE 48 { d with syn := { a := .active, b := .standby }, time := { tc := 135600 } }) (fun s =>
      s.dev.syn.standby = some true ∧ s.dev.syn.runs = [] ∧ s.dev.syn.takeover = false ∧
      s.dev.syn.checkAt + 10 * tcMs ≤ s.dev.tc ∧ s.dev.on F.SYN_CTL_TEMP_TRIG_EN = true ∧ s.dev.synActive = true ∧
      48 ≤ (s.dev.fldI F.PWR_TEMP_DIE - s.dev.fldI F.SYN_CAL_TEMP_A_TEMP).natAbs) ∧
    chk (syn { refOk := false }) (fun s => s.dev.syn.refOk = false ∧ s.dev.freeRun = false) ∧
    chk (cals .cold false { a := .calibrating, b := .calibrating }) (fun s => s.dev.syn.runs = [(.cold, false)] ∧
      s.dev.syn.a = .calibrating ∧ s.dev.syn.b = .calibrating ∧ s.dev.watching = false) ∧
    chk (cals .restart true { a := .active, b := .calibrating }) (fun s => s.dev.syn.runs = [(.restart, true)] ∧
      s.dev.syn.refOk = true ∧ s.dev.syn.takeover = false ∧ s.dev.watching = false ∧ SynCal.restart ≠ .cold ∧
      s.dev.syn.start true + synCalTc ≤ s.dev.tc ∧ s.dev.syn.start true + synLimitTc ≤ s.dev.tc) ∧
    chk (cals .standbyCal true { a := .active, b := .calibrating }) (fun s => s.dev.syn.runs = [(.standbyCal, true)] ∧
      s.dev.syn.refOk = true ∧ s.dev.synActive = true ∧ s.dev.syn.start true + synCalTc ≤ s.dev.tc) ∧
    chk (cals .standbyCal true { a := .active, b := .calibrating, swapDue := true }) (fun s =>
      s.dev.syn.runs = [(.standbyCal, true)] ∧ s.dev.syn.swapDue = true ∧ s.dev.watching = false ∧ 50 ≤ 50) := by decide

theorem witness_SynthesiserLoss :
    chk (syn { a := .active, b := .standby }) (fun s => s.dev.syn.unit true = .standby ∧ s.dev.syn.unit false = .active ∧
      s.dev.syn.unit (!false) = .standby ∧ s.dev.syn.refOk = true) ∧
    chk (syn { b := .standby, takeover := true }) (fun s => s.dev.syn.takeover = true ∧ s.dev.syn.standby = some true ∧
      s.dev.watching = false ∧ 255 ≤ 255) := by
  decide

/-- Locked trim limits, and a trim that waits. -/
def trims : State := st fun d =>
  put F.SYN_TRIM_MAX_STEPS 35000 (put F.SYN_TRIM_MIN_STEPS (2 ^ 18 - 35000) { d with syn := { trimPend := some 5 } })

theorem witness_CarrierTrim :
    chk trims (fun s =>
      ¬ (s.dev.fldI F.SYN_TRIM_MIN_STEPS ≤ toInt 18 35001 ∧ toInt 18 35001 ≤ s.dev.fldI F.SYN_TRIM_MAX_STEPS) ∧
      s.dev.fldI F.SYN_TRIM_MIN_STEPS ≤ toInt 18 35000 ∧ toInt 18 35000 ≤ s.dev.fldI F.SYN_TRIM_MAX_STEPS ∧
      -35000 ≤ toInt 18 35000 ∧ toInt 18 35000 ≤ 35000 ∧ s.dev.syn.trimPend = some 5) := by decide

/-- PPS time, `ns` after reset. -/
def pps (ns : Nat) : State := st fun d => put F.TIME_CTL_SOURCE 1 (put F.TIME_STAT_HOLDOVER 1 (d.setTime ns))

theorem witness_PpsDiscipline :
    edgeIs 0 true = true ∧ edgeIs 0 false = false ∧
    chk (pps 1001000001) (fun s => edgeIs (s.dev.fld F.TIME_CTL_PPS_EDGE) true = true ∧ s.dev.fld F.TIME_CTL_SOURCE = 1 ∧
      10 ^ 6 < ((s.dev.timeFull (4 * s.dev.time.tc + 3) : Int) - (s.dev.edgeSec * 10 ^ 9 : Nat)).natAbs ∧
      339 * (s.dev.edgeSec * 10 ^ 9 + 100000) ≤ s.dev.netU ∧
      s.dev.fld F.TIME_CTL_HOLDOVER_MAX ≠ 0 ∧ s.dev.on F.TIME_STAT_CLOCK_SRC = false) ∧
    chk (pps 60000000000) (fun s => s.dev.on F.TIME_STAT_HOLDOVER = true ∧ s.dev.freeRun = false ∧
      339 * (s.dev.time.holdAt + s.dev.fld F.TIME_CTL_HOLDOVER_MAX * 10 ^ 9) ≤ s.dev.netU) ∧
    chk (st fun d => put F.TIME_CTL_SOURCE 1 (put F.TIME_CTL_HOLDOVER_MAX 0 (d.setTime 1000100000))) (fun s =>
      s.dev.fld F.TIME_CTL_SOURCE = 1 ∧ s.dev.fld F.TIME_CTL_HOLDOVER_MAX = 0 ∧
      339 * (s.dev.edgeSec * 10 ^ 9 + 100000) ≤ s.dev.netU) := by decide

/-! ### Transactions, fields and power -/

/-- A one-frame exchange. -/
def exch : Txn := { frame := some { data := [0x26], winOpen := 100, winClose := 1000, rxMax := 2 }, level := 0 }

/-- A device that can run transactions on pavilion 0, with channel 0 in POLL and a change of its record. -/
def able (c : Ch → Ch) (f : Dev → Dev := id) : State :=
  st fun d => f ((((put F.PAV_VDRV_NOM 5000 { d with syn := { a := .active } }).modPav 0 fun p =>
    { p with state := .active, gntPin := true }).modCh 0 fun x => c { x with role := .poll }))

/-- So many carrier cycles after configuration-ready. -/
def late (n : Nat) (d : Dev) : Dev := { d with time := { tc := n } }

/-- The same with a transaction on channel 0. -/
def withTxn (x : Txn) (f : Dev → Dev := id) : State := able (fun c => { c with txn := some x }) f

theorem witness_AdmissionGrants :
    chk (withTxn exch) (fun s => s.dev.calOf 0 = none ∧ (s.dev.ch 1).txn = none ∧ (s.dev.ch 0).txn = some exch ∧
      exch.phase = .waiting ∧ s.dev.asks 0 exch = true ∧ s.dev.refusal 0 exch = none ∧
      s.dev.otherWait 0 exch (s.dev.planLent 0 exch) = false ∧
      s.dev.missing 0 (s.dev.planLent 0 exch) (s.dev.declLen 0 exch) = 0 ∧ s.dev.olderWaits 0 exch = false) ∧
    chk (withTxn { exch with phase := .up }) (fun s => s.dev.calOf 0 = none ∧ (s.dev.ch 0).txn = some { exch with phase := .up }) ∧
    chk (withTxn exch fun d => d.modPav 0 fun p => { p with state := .off }) (fun s => s.dev.asks 0 exch = false) ∧
    chk (withTxn exch fun d => (put F.PAV_COEX_EN 1 d).modPav 0 fun p => { p with gntPin := false }) (fun s => s.dev.calOf 0 = none ∧
      s.dev.asks 0 exch = true ∧ s.dev.refusal 0 exch = none ∧
      s.dev.missing 0 (s.dev.planLent 0 exch) (s.dev.declLen 0 exch) = 16) ∧
    chk (withTxn exch (put F.PAV_VDRV_NOM 0)) (fun s => s.dev.calOf 0 = none ∧ s.dev.asks 0 exch = true ∧
      s.dev.refusal 0 exch = some .notReady ∧ exch.work ≠ .cal) := by decide +kernel

/-- An admitted exchange that drives its own coil. -/
def admitted : Txn := { exch with phase := .admitted, driven := [{ ch := 0, lvl := 0 }], declTc := 72740 }

/-- Its coexistence request has stood for its lead time. -/
def asked : State := withTxn admitted fun d => late 1000 (d.modPav 0 fun p => { p with req := true })

theorem witness_FieldStarts :
    chk asked (fun s => (s.dev.ch 0).txn = some admitted ∧ admitted.phase = .admitted ∧ admitted.work = .exchange ∧
      admitted.frame.isSome ∧ s.dev.leadLeft 0 = 0 ∧ (∀ k ∈ admitted.coils, k < 192) ∧ (s.dev.ch 1).txn = none) ∧
    StillFit asked.dev 0 admitted := by
  refine ⟨by decide +kernel, ?_⟩
  unfold StillFit
  decide +kernel

/-- An exchange that holds its field for the next. -/
def holding : Txn := { admitted with phase := .up, holdField := true, finished := true }

theorem witness_FieldEnds :
    chk (withTxn { admitted with phase := .rampDown }) (fun s => (s.dev.ch 0).txn = some { admitted with phase := .rampDown } ∧
      (s.dev.ch 0).prog = none ∧ (s.dev.ch 0).borrowed = false ∧ (∀ k ∈ admitted.coils, k < 192) ∧ (s.dev.ch 1).txn = none ∧
      admitted.dueTc ≤ s.dev.tc ∧ admitted.work = .exchange ∧ admitted.finished = false) ∧
    chk (withTxn holding (late 72740)) (fun s => (s.dev.ch 0).txn = some holding ∧ holding.phase = .up ∧ holding.work = .exchange ∧
      holding.holdField = true ∧ holding.finished = true ∧ admitted.phase ≠ .up ∧
      holding.tUp + holding.declTc - s.dev.fallTc (holding.falls .normal none []) ≤ s.dev.tc) := by decide +kernel

/-- A field that is up on channel 0. -/
def upField (f : Dev → Dev := id) : State :=
  able (fun c => { c with txn := some { admitted with phase := .up }, fieldOf := some 0, onAt := some 0, parking := false }) f

theorem witness_PowerWindows :
    chk (upField (late 64)) (fun s => (s.dev.ch 0).fieldOf = some 0 ∧ (s.dev.ch 0).txn = some { admitted with phase := .up } ∧
      s.dev.fieldIn 0 = true ∧ s.dev.gridEnd 64 s.dev.time.winAt ≤ s.dev.tc ∧
      overHalfDb 4095 (s.dev.limNow 0) = true ∧ overHalfDb 1 (s.dev.limNow 0) = false ∧ s.dev.flt.lastAt = none) := by decide +kernel

theorem witness_LimitAndTuner :
    chk (upField (late 13560)) (fun s => (s.dev.ch 0).fieldOf.isSome ∧ (s.dev.ch 1).fieldOf = none ∧ s.dev.chanKeys.Nodup ∧
      s.dev.gridEnd tcMs s.dev.time.sliceAt ≤ s.dev.tc ∧ (s.dev.ch 0).onAt = some 0) := by decide +kernel


/-! ### Receive chain, frames, matrices, Belvedere -/

/-- An exchange of channel 0 whose field is up, at a phase of its frame. -/
def upAt (a : AirPhase) : Txn := { admitted with phase := .up, air := a }

/-- The channel with it, 2,000 carrier cycles after configuration-ready. -/
def airAt (a : AirPhase) (f : Dev → Dev := id) : State := withTxn (upAt a) fun d => f (late 2000 d)

/-- A start of frame well above the floor. -/
def sof : SofFacts := { corr := 10000, floor := 1, first := 6000 }

theorem witness_ReceiveSettings :
    chk (st id) (fun s => s.dev.on F.CH_RX_FIR_FADING 0 = false ∧ s.dev.on F.CH_RX_FIR_ACTIVE 0 = false ∧
      s.dev.on F.CH_RX_FIR_PENDING 0 = false ∧ tblFind (s.dev.shadows true) (regKey .CH_RX_EST_F_AMP 0 0) = none) ∧
    chk (st fun d => d.setOn F.CH_RX_FIR_ACTIVE 0 0 true) (fun s => s.dev.on F.CH_RX_FIR_ACTIVE 0 = true ∧
      s.dev.on F.CH_RX_FIR_FADING 0 = false) ∧
    chk (st fun d => late 100 (d.setOn F.CH_RX_FIR_FADING 0 0 true)) (fun s => s.dev.on F.CH_RX_FIR_FADING 0 = true ∧
      (s.dev.ch 0).fadeAt + s.dev.fadeTc 0 ≤ s.dev.tc) ∧
    chk (st fun d => d.setOn F.CH_RX_FIR_PENDING 0 0 true) (fun s => s.dev.on F.CH_RX_FIR_PENDING 0 = true) := by decide +kernel

theorem witness_FramePhases :
    [AirPhase.staged, .sending, .winWait, .winOpen, .capturing, .receiving, .captured].all (fun a =>
      chk (airAt a) fun s => (s.dev.ch 0).txn = some (upAt a) ∧ (upAt a).dueTc ≤ s.dev.tc ∧
        s.dev.joint 0 (upAt a).fg = false ∧ (upAt a).sep = none ∧ (upAt a).winOver = false ∧ (upAt a).sess = none ∧
        ((upAt a).frame.any fun f => openTc (upAt a) f ≤ s.dev.tc ∧ (upAt a).endTc + f.winClose ≤ s.dev.tc ∧
          s.dev.declares 0 (upAt a) f sof = true ∧ s.dev.declares 0 (upAt a) f {} = false) ∧ sof.first / 4 ≤ s.dev.tc ∧
        s.dev.isStep 0 (upAt a) { e1 := 1, e2 := 1 } = true ∧ s.dev.isStep 0 (upAt a) {} = false ∧
        s.dev.on F.CH_DEM_CTL_CAPTURE_EN 0 = true) ∧
    chk (withTxn { upAt .capturing with capEnd := 8000 } (late 2000)) (fun s => 4 * s.dev.tc ≤ 8000) ∧
    chk (airAt .receiving fun d => d.setOn F.CH_DEM_CTL_CAPTURE_EN 0 0 false) (fun s => (s.dev.ch 0).txn = some (upAt .receiving) ∧
      s.dev.isStep 0 (upAt .receiving) { e1 := 1, e2 := 1 } = true ∧ s.dev.on F.CH_DEM_CTL_CAPTURE_EN 0 = false) := by
  decide +kernel

/-- An EXCHANGE whose frame is at a phase. -/
def exchAt (a : AirPhase) : Txn := { upAt a with desc := some { d := { op := 0x01 }, ring := 3 } }

theorem witness_FrameEnds :
    [AirPhase.winOpen, .winWait, .capturing, .receiving].all (fun a =>
      chk (withTxn (exchAt a) (late 2000)) fun s => (s.dev.ch 0).txn = some (exchAt a) ∧ (exchAt a).phase = .up ∧
        (exchAt a).work = .exchange ∧ (exchAt a).desc.isSome ∧ (exchAt a).finished = false ∧ (exchAt a).stopAsked = false ∧
        (exchAt a).sess = none ∧ (exchAt a).sep = none ∧ (exchAt a).marks = [] ∧ s.dev.joint 0 (exchAt a).fg = false ∧
        ((exchAt a).frame.any fun f => (exchAt a).endTc + f.winClose ≤ s.dev.tc ∧
          (s.dev.measure 0 (exchAt a) f (demod (s.dev.rxSet 0 (exchAt a) f) [])).1.frame.collCount = 0) ∧
        ((exchAt a).capEnd + 3) / 4 ≤ s.dev.tc) ∧
    chk (withTxn { exchAt .receiving with winOver := true }) (fun s => (s.dev.ch 0).txn = some { exchAt .receiving with winOver := true }) := by
  decide +kernel

/-- Channel 0 may be probed. -/
def probing (f : Dev → Dev := id) : State := able id fun d => f (d.setOn F.ARB_CTL_PILOT_EN 0 0 true)

/-- A probe of column 0 with its field up. -/
def probeUp : Dev → Dev := fun d =>
  (((late 64 d).modArb 0 fun a => { a with pilot := [0], gains := [(0, 7), (1, 7)] }).modCh 0 fun c =>
    { c with txn := some { work := .pilot, phase := .up, driven := [{ ch := 0, lvl := 0 }] }, fieldOf := some 0 }).modCh 1
      fun c => { c with role := .poll }

theorem witness_PilotProbes :
    chk (probing) (fun s => s.dev.arbProbes 0 = true ∧ (s.dev.arb 0).pilot = [] ∧ s.dev.coilFree 0 = true ∧ s.dev.batchMay 0 [0] = true ∧
      s.dev.fabricShort = false ∧ s.dev.batchWaits 0 = false ∧ (s.dev.ch 0).txn = none ∧
      s.dev.olderThan 0 0 (s.dev.fld F.ARB_PILOT_PERIOD 0 - 1) = true ∧ s.dev.olderThan 0 0 (2 * s.dev.fld F.ARB_PILOT_PERIOD 0) = true) ∧
    chk (probing fun d => d.modCh 0 fun c => { c with txn := some exch }) (fun s => s.dev.arbProbes 0 = true ∧
      (s.dev.arb 0).pilot = [] ∧ s.dev.coilFree 0 = true ∧ s.dev.batchMay 0 [0] = true ∧ (s.dev.ch 0).txn.isSome ∧
      s.dev.batchWaits 0 = true) ∧
    chk (probing fun d => d.modArb 0 fun a => { a with colAt := [(0, 0)] }) (fun s =>
      s.dev.olderThan 0 0 (2 * s.dev.fld F.ARB_PILOT_PERIOD 0) = false) ∧
    chk (st fun d => d.setOn F.ARB_CTL_PILOT_EN 0 0 false) (fun s => s.dev.arbProbes 0 = false) ∧
    chk (probing probeUp) (fun s => (s.dev.arb 0).pilot = [0] ∧
      (s.dev.ch 0).txn.any (fun x => x.work == .pilot && x.phase == .up && x.tUp + x.declTc ≤ s.dev.tc) ∧ s.dev.rxTakes 1 = true ∧
      tblFind (s.dev.arb 0).gains 0 = some 7 ∧ tblFind (s.dev.arb 0).gains 1 = some 7 ∧
      8192 * ((⟨300, 0⟩ : Cx).mul (Cx.conj ⟨100, 0⟩)).re = 24576 * (((⟨100, 0⟩ : Cx)).norm : Int) ∧
      (s.dev.fld F.ARB_PILOT_CFG_JUMP 0 * 32) ^ 2 < ((⟨24576, 0⟩ : Cx).sub (cxOf 16 (s.dev.rd .ARB_CM 0 8))).norm ∧
      ((⟨0, 0⟩ : Cx).sub (cxOf 16 (s.dev.rd .ARB_CM 0 8))).norm ≤ (s.dev.fld F.ARB_PILOT_CFG_JUMP 0 * 32) ^ 2 ∧
      (0 : Int) - (cxOf 16 (s.dev.rd .ARB_CM 0 8)).re = 2 ^ (s.dev.fld F.ARB_PILOT_CFG_AVG 0 + 1) * 0) := by decide +kernel

theorem witness_MatricesAndWeights :
    chk (st id) (fun s => s.dev.on F.ARB_CTL_PILOT_EN 0 = true ∧ s.dev.fld F.ARB_FG_CTL_MODE 0 0 = 0 ∧
      (cxOf 10 511).norm ≤ 511 * 511 ∧ 511 * 511 < (cxOf 10 (511 + 2 ^ 16 * 511)).norm) ∧
    chk (st fun d => (d.setOn F.ARB_CTL_PILOT_EN 0 0 false).setFld F.ARB_FG_CTL_MODE 0 3 1) (fun s =>
      s.dev.on F.ARB_CTL_PILOT_EN 0 = false ∧ s.dev.fld F.ARB_FG_CTL_MODE 0 3 ≠ 0) := by decide +kernel

/-- A pavilion in WATCH that may sweep, with a change of channel 7 and of its registers. -/
def watching (c : Ch → Ch := id) (f : Dev → Dev := id) : State := st fun d =>
  f (((put F.PAV_VDRV_NOM 5000 { d with syn := { a := .active } }).modPav 0 fun p =>
    { p with state := .watch, gntPin := true }).modCh 7 c)

/-- A sweep at step 7. -/
def sweeping (c : Ch → Ch := id) (f : Dev → Dev := id) : State :=
  watching c fun d => f ((d.setOn F.PAV_BLV_CTL_EN 0 0 true).modPav 0 fun p => { p with sweep := some { step := 7 } })

theorem witness_BelvedereSweeps :
    chk (watching id fun d => d.setOn F.PAV_BLV_CTL_EN 0 0 true) (fun s => s.dev.maySweep 0 = true ∧ (s.dev.pav 0).sweep = none) ∧
    chk (st id) (fun s => s.dev.maySweep 0 = false) ∧
    chk (sweeping id (late 10000)) (fun s => (s.dev.pav 0).sweep = some { step := 7 } ∧ 0 + s.dev.leadTc 0 + 96 * 7 + 81 ≤ s.dev.tc ∧ s.dev.blvProbes 7 = true ∧ s.dev.blvMay 7 = true ∧
      (s.dev.ch 7).blvBase = false) ∧
    chk (sweeping id fun d => d.setOn F.CH_LIM_STAT_TRIP 7 0 true) (fun s => s.dev.blvProbes 7 = true ∧ s.dev.blvMay 7 = false) ∧
    chk (sweeping fun c => { c with blvBase := true, blvAmp := 1000 * blvUnit }) (fun s => s.dev.blvMay 7 = true ∧
      (s.dev.ch 7).blvBase = true ∧ (s.dev.ch 7).blvAdopt = false ∧ bitAt (s.dev.fld F.PAV_BLV_STAT_DET 0) 7 = false ∧
      1 ≤ s.dev.fld F.PAV_BLV_CTL_CONFIRM 0 ∧ s.dev.fld F.PAV_BLV_CTL_CONFIRM 0 ≤ (s.dev.ch 7).blvRun + 1 ∧
      s.dev.blvExcursion 7 2000 0 = true ∧ s.dev.blvExcursion 7 1000 0 = false) := by decide +kernel

/-! ### Chapter 05's example: two fobs, one anticollision frame -/

/-- A fob's answer on CL1: four identifier bytes and their check byte, each with its odd parity. -/
def fob (l : List Byte) : List Bool := l.flatMap fun b => byteBits b ++ [(byteBits b).countP id % 2 == 0]
/-- The bit periods of two answers together, the second at a share of the first's amplitude, in percent. -/
def fobs (b : Nat) : List Sym :=
  ((fob [0x04, 0x5A, 0x31, 0xC2, 0xAD]).zip (fob [0x04, 0x5A, 0x3B, 0x17, 0x72])).map fun x =>
    { a := ((100 * b2n x.1 + b * b2n x.2 : Nat), 0), b := ((100 * b2n (!x.1) + b * b2n (!x.2) : Nat), 0) }

/-- At 0.31 of the amplitude the frame collides at byte 2, bit 1, in 16 bits, and carries fob A; at 0.20 it is fob A's alone. -/
theorem test_two_fobs :
    demod {} (fobs 31) = { data := [0x04, 0x5A, 0x31, 0xC2, 0xAD], collCount := 16, collPos := some 17 } ∧
    demod {} (fobs 20) = { data := [0x04, 0x5A, 0x31, 0xC2, 0xAD] } := by decide +kernel

/-- The frame 0x93 0x20 takes 2,468 Tc, and an answer 1,172 Tc later has an FDT of 4,688. -/
theorem test_fdt_example :
    chk (st id) (fun s => (s.dev.modSet 0).frameTc .nfcA 0 [0x93, 0x20] 0 == 2468) = true ∧
    chk (st id) (fun s => (s.dev.measure 0 { endTc := 2468, reqTc := 2468, sof := { first := 4 * 3640 + s.dev.rxLat 0 } } {} {}).1.fdt == 4688) = true := by
  decide +kernel

/-! ### Programs, scripts, exchanges -/

/-- A descriptor. -/
def dsc (target op : Nat) (param : List Byte := []) (input : List Byte := []) : QDesc :=
  { d := { op := op, target := target, param := param }, ring := 3, idx := 5, input := input }

/-- The device with a descriptor started at its target. -/
def runs (q : QDesc) (f : Dev → Dev := id) : Dev → Dev :=
  fun d => f ((d.modTq q.d.target fun t => { t with run := some q }))

/-- A program image of one step, with its check word. -/
def progImage : List Byte :=
  let b : List Byte := [1, 1, 0, 1, 1, 0, 0, 0, 232, 3, 0, 0, 0, 255, 0, 1, 3, 0, 0, 0] ++ List.replicate 28 0
  b ++ toLe 4 (crc32c b)

/-- A script image of one HOST step, with its check word. -/
def scriptImage : List Byte :=
  let b : List Byte := [1, 1, 0, 0, 0, 0, 0, 0, 1, 0, 0, 0, 0, 0, 0, 0]
  b ++ toLe 4 (crc32c b)

theorem witness_ProgramImages :
    [0x08, 0x0B].all (fun op => chk (st (runs (dsc 0x205 op [2] progImage))) fun s =>
      s.dev.running (0x200 + 5) op = some (dsc 0x205 op [2] progImage) ∧ (tblFind (s.dev.pav 5).runs 2).isNone) ∧
    (progParse progImage).isSome ∧ progParse [] = none ∧ (scriptParse scriptImage).isSome ∧ scriptParse [] = none ∧
    chk (st (runs (dsc 0x205 0x08 [2] progImage) fun d => d.modPav 5 fun p => { p with runs := [(2, {})] })) (fun s =>
      (tblFind (s.dev.pav 5).runs 2).isSome) := by decide +kernel

/-- A program for channel 0 of pavilion 0 in slot 2, running when asked, with a transaction. -/
def prog2 (q : QDesc) (run : Bool) (c : Ch → Ch) : State :=
  able c (runs q fun d => d.modPav 0 fun p =>
    { p with progs := [(2, { steps := [{}], chMask := 1 })], runs := if run then [(2, {})] else [] })

/-- A cycle of slot 2. -/
def cyc (ph : TxnPhase) : Txn := { work := .cycle 2 false, phase := ph, prog := { steps := [{}], chMask := 1 } }

theorem witness_ProgramsStartAndStop :
    [false, true].all (fun run => chk (prog2 (dsc 0x200 0x09 [2]) run id) fun s =>
      s.dev.running 0x200 0x09 = some (dsc 0x200 0x09 [2]) ∧ (tblFind (s.dev.pav 0).progs 2).isSome ∧
        (tblFind (s.dev.pav 0).runs 2).isSome = run ∧
        ∀ n ∈ pavChans 0, bitAt 1 (n % 32) = true → (s.dev.ch n).prog = none) ∧
    chk (prog2 (dsc 0x200 0x09 [7]) false id) (fun s => s.dev.running 0x200 0x09 = some (dsc 0x200 0x09 [7]) ∧
      tblFind (s.dev.pav 0).progs 7 = none) ∧
    chk (prog2 (dsc 0x200 0x09 [2]) false fun c => { c with prog := some 1 }) (fun s =>
      ∃ n ∈ pavChans 0, bitAt 1 (n % 32) = true ∧ (s.dev.ch n).prog.isSome) ∧
    chk (prog2 (dsc 0x200 0x0A [2]) false id) (fun s => s.dev.running 0x200 0x0A = some (dsc 0x200 0x0A [2]) ∧
      tblFind (s.dev.pav 0).runs 2 = none) ∧
    [TxnPhase.waiting, .up].all (fun ph =>
      chk (prog2 (dsc 0x200 0x0A [2]) true fun c => { c with prog := some 2, txn := some (cyc ph) }) fun s =>
        s.dev.running 0x200 0x0A = some (dsc 0x200 0x0A [2]) ∧ (tblFind (s.dev.pav 0).runs 2).any (fun r => r.stop.isNone) ∧
        s.dev.boundTo 0 2 = [0] ∧ (s.dev.ch 0).txn = some (cyc ph) ∧ (cyc ph).id.phase ≠ .hostHold) := by decide +kernel

theorem witness_PollCycles :
    [false, true].all (fun opn => chk (prog2 (dsc 0 0x0C [2]) true fun c => { c with prog := some 2, cycleOpen := opn }) fun s =>
      tblFind (s.dev.pav 0).runs 2 = some {} ∧ (tblFind (s.dev.pav 0).progs 2).isSome ∧ tblFind (s.dev.pav 0).progsNew 2 = none ∧
      (s.dev.pav 0).state = .active ∧ (s.dev.pav 0).dip = false ∧ (s.dev.pav 0).first = [] ∧ s.dev.boundTo 0 2 = [0] ∧
      (s.dev.ch 0).leaving = false ∧ (s.dev.ch 0).borrowed = false ∧ (s.dev.ch 0).role = .poll ∧
      (s.dev.ch 0).cycleOpen = opn ∧ (s.dev.ch 0).txn = none ∧ phaseOf {} 0 = 0 ∧
      s.dev.running 0 0x0C = some (dsc 0 0x0C [2])) ∧
    chk (able (fun c => { c with prog := some 2, cycleOpen := true }) fun d => d.modPav 0 fun p =>
        { p with progs := [(2, { stagger := 1, chMask := 3 })], runs := [(2, {})] }) (fun s =>
      tblFind (s.dev.pav 0).runs 2 = some {} ∧ s.dev.boundTo 0 2 = [0] ∧ phaseOf { stagger := 1 } 0 = 0 ∧
      (s.dev.ch 0).cycleOpen = true) ∧
    chk ((able (fun c => { c with prog := none }) fun d => (d.modCh 1 fun c => { c with role := .poll, prog := some 2, cycleOpen := true }).modPav 0
        fun p => { p with progs := [(2, { stagger := 1, chMask := 3 })], runs := [(2, {})] })) (fun s =>
      s.dev.boundTo 0 2 = [1] ∧ phaseOf { stagger := 1 } 1 = 1 ∧ 0 + 1 < 2 ^ 1 ∧ (s.dev.ch 1).txn = none ∧ (s.dev.ch 1).role = .poll) ∧
    chk (prog2 (dsc 0 0x0C [7]) true id) (fun s => s.dev.running 0 0x0C = some (dsc 0 0x0C [7]) ∧ tblFind (s.dev.pav 0).progs 7 = none) ∧
    chk (prog2 (dsc 0 0x0C [2]) true fun c => { c with txn := some exch }) (fun s => (s.dev.ch 0).txn.isSome) := by decide +kernel

/-- A cycle that holds at a HOST step, with its session. -/
def hold0 : Txn :=
  { cyc .up with sess := some 7, id := { phase := .hostHold }, held := some (dsc 0 0x0C [2]), driven := [{ ch := 0, lvl := 0 }] }

theorem witness_Exchanges :
    [0x01, 0x04, 0x02].all (fun op => chk (able id (runs (dsc 0 op [0, 0, 0, 0, 255] [0x26]))) fun s =>
      (s.dev.running 0 op).isSome ∧ (s.dev.ch 0).txn = none) ∧
    chk (able (fun c => { c with txn := some { holding with declTc := 1000000 } }) (runs (dsc 0 0x01 [0, 0, 0, 0, 255] [0x26]))) (fun s =>
      (s.dev.running 0 0x01).any fun q => s.dev.continues 0 { holding with declTc := 1000000 } (s.dev.exchangeFrame 0 q)) ∧
    chk (withTxn exch (runs (dsc 0 0x04))) (fun s => (s.dev.running 0 0x04).isSome ∧ (s.dev.ch 0).txn = some exch ∧
      exch.holdField = false ∧ exch.sess ≠ some 0x1FF ∧ exch.hostDesc = none) ∧
    chk (withTxn hold0 (runs { (dsc 0 0x02) with d := { (dsc 0 0x02).d with session := 7 } })) (fun s =>
      (s.dev.running 0 0x02).any (fun q => q.d.session == 7) ∧ (s.dev.ch 0).txn = some hold0 ∧ hold0.sess = some 7 ∧
      hold0.phase = .up ∧ hold0.id.phase = .hostHold ∧ hold0.ending = false ∧ 4 ≤ s.dev.outFree 0 ∧ hold0.held.isSome) := by
  decide +kernel

/-! ### Listening, tag memory, roles and sessions -/

/-- Channel 0 listens, with a change of its listener. -/
def hears (l : Lsn) (f : Dev → Dev := id) : State := able (fun c => { c with lsn := l }) fun d => f (d.modCh 0 fun c => { c with role := .listen })

theorem witness_ListenerField :
    [0, 1, 2].all (fun m => chk (hears {} fun d => d.setFld F.CH_LSN_ID_UID_MODE 0 0 m) fun s => s.dev.listens 0 = true ∧
      (s.dev.ch 0).lsn.field = false ∧ s.dev.fld F.CH_LSN_ID_UID_MODE 0 = m) ∧
    chk (hears { field := true, state := .protocol, sess := some 3 }) (fun s => (s.dev.ch 0).lsn.field = true ∧
      (s.dev.ch 0).lsn.sess = some 3 ∧ s.dev.listens 1 = false) ∧
    chk (st id) (fun s => let on := s.dev.fld F.CH_LSN_FD_ON 0; s.dev.fld F.CH_LSN_FD_OFF 0 < on ∧ bits 0xFE02 0 8 ≤ bits 0xFE02 8 8) := by
  decide +kernel

/-- One sequence of modified Miller coding as an envelope: pauses of 32 Tc. -/
def seqEnv : Line → List (Nat × Nat)
  | .z => [(0, 128), (100, 384)]
  | .x => [(100, 256), (0, 128), (100, 128)]
  | _ => [(100, 512)]

/-- A reader's frame on the air at 106 kbit/s. -/
def reader (data : List Byte) (lastBits : Nat := 0) : ReaderRaw :=
  { held := 100, env := (Line.z :: millerLine false (airBitsA data lastBits ++ [false]) ++ [Line.y]).flatMap seqEnv, dur := 5120, durBits := 10,
    stop := 40000 }

/-- A frame of a reader, with its CRC. -/
def readerCrc (b : List Byte) : ReaderRaw := reader (withCrc .nfcA b)

/-- A frame decodes whole and without an error. -/
def decodes (x : ReaderRaw) (data : List Byte) (lastBits : Nat := 0) : Bool :=
  let f := demodReader 0 x
  decide (f = { data := data, lastBits := lastBits }) && !rxBroken f (!rxNoCrc f) && rateOk 50 (4 * bitTc .nfcA 0) x.durBits x.dur

/-- A listener whose field came up long ago. -/
def hearing (st : LsnState) (sess : Option Nat := none) (f : Dev → Dev := id) : State :=
  hears { field := true, state := st, level := 1, uid := [1, 2, 3, 4], sess := sess } fun d => f (late 20000 d)

theorem witness_ListenerStates :
    [LsnState.idle, .halt, .ready, .active].all (fun x => chk (hearing x) fun s => s.dev.listens 0 = true ∧ (s.dev.ch 0).lsn.field = true ∧
      (s.dev.ch 0).lsn.state = x ∧ (s.dev.ch 0).lsn.level = 1 ∧ (s.dev.ch 0).lsn.uid.length = 4 ∧ s.dev.lsnRate 0 = 0 ∧
      (s.dev.ch 0).lsn.since + usTc 100 ≤ s.dev.tc ∧ ((reader []).stop + 3) / 4 ≤ s.dev.tc ∧ (s.dev.ch 0).lsn.sess = none ∧
      s.dev.sessionsOf 0 = [] ∧ (s.dev.ses 0).kind = .free) ∧
    decodes (reader [0x26] 7) [0x26] 7 = true ∧ rxShort { data := [0x26], lastBits := 7 } 0x26 = true ∧
    decodes (reader [0x52] 7) [0x52] 7 = true ∧ rxShort { data := [0x52], lastBits := 7 } 0x52 = true ∧
    rxShort { data := [0x26], lastBits := 7 } 0x52 = false ∧
    decodes (readerCrc [0x50, 0]) (withCrc .nfcA [0x50, 0]) = true ∧ (withCrc .nfcA [0x50, 0]).length = 4 ∧
    decodes (readerCrc [0x93, 0x70, 1, 2, 3, 4, 4]) (withCrc .nfcA [0x93, 0x70, 1, 2, 3, 4, 4]) = true ∧
    slice (withCrc .nfcA [0x93, 0x70, 1, 2, 3, 4, 4]) 2 5 = ([1, 2, 3, 4] : List Byte) ++ [xorAll [1, 2, 3, 4]] ∧
    decodes (readerCrc [0xE0, 0x80]) (withCrc .nfcA [0xE0, 0x80]) = true ∧ decodes (readerCrc [0xC2]) (withCrc .nfcA [0xC2]) = true ∧
    (demodReader 0 {}).data = [] ∧ rxBroken (demodReader 0 {}) (!rxNoCrc (demodReader 0 {})) = true ∧
    chk (hearing .active none fun d => d.modSes 9 fun x => { x with kind := .listenDep, chan := 0 }) (fun s => s.dev.sessionsOf 0 ≠ []) ∧
    chk (hearing .protocol (some 3)) (fun s => s.dev.listens 0 = true ∧ (s.dev.ch 0).lsn.sess = some 3 ∧ s.dev.lsnRate 0 = 0 ∧
      (s.dev.ch 0).lsn.state = .protocol) := by decide +kernel

/-- A listener that waits for the host's response. -/
def awaits (w c : Bool) (f : Dev → Dev := id) : State :=
  hears { field := true, state := .protocol, sess := some 3, waiting := !c, wtxOut := w, capped := c, armed := some (0, 64, 2) } f

theorem witness_ListenerAnswers :
    chk (hears { field := true, staged := some { data := [1] } } (late 2000)) (fun s => (s.dev.ch 0).lsn.staged = some { data := [1] } ∧
      s.dev.listens 0 = true) ∧
    chk (awaits false false (late 20000000)) (fun s => s.dev.wtxTc 0 3 ≤ s.dev.tc ∧
      (s.dev.ch 0).lsn.cmdAt + s.dev.outTc 0 (s.dev.fld F.PAV_LISTEN_HOST_CAP_MS 0 * tcMs) ≤ s.dev.tc ∧ (s.dev.ch 0).lsn.sess = some 3 ∧ (s.dev.ch 0).lsn.waiting = true ∧ (s.dev.ch 0).lsn.wtxOut = false ∧
      (s.dev.ch 0).lsn.staged = none ∧ (s.dev.ch 0).lsn.withCid = false ∧ (s.dev.ch 0).lsn.armed.isSome) ∧
    chk (awaits true false) (fun s => (s.dev.ch 0).lsn.waiting = true ∧ (s.dev.ch 0).lsn.wtxOut = true ∧ (s.dev.ch 0).lsn.sess = some 3) ∧
    chk (st id) (fun s => (s.dev.ch 0).lsn.staged = none ∧ (s.dev.ch 0).lsn.waiting = false) ∧
    [0x26, 0x03].all (fun op => chk (awaits false true (runs { (dsc 0 op) with d := { (dsc 0 op).d with session := 3 } })) fun s =>
      (s.dev.running 0 op).any (fun q => some q.d.session == (s.dev.ch 0).lsn.sess) ∧ (s.dev.ch 0).role = .listen ∧
      (s.dev.ch 0).lsn.waiting = false ∧ (s.dev.ch 0).lsn.capped = true) ∧
    [false, true].all (fun w => chk (awaits w false (runs { (dsc 0 0x03) with d := { (dsc 0 0x03).d with session := 3 } })) fun s =>
      (s.dev.running 0 0x03).any (fun q => some q.d.session == (s.dev.ch 0).lsn.sess) ∧ (s.dev.ch 0).lsn.waiting = true) ∧
    [0x26, 0x03].all (fun op => chk (able id (runs (dsc 0 op))) fun s => (s.dev.running 0 op).isSome ∧ (s.dev.ch 0).role ≠ .listen) := by
  decide +kernel

/-- A device with an image of two pages in place 5. -/
def imgs (i : Image) (f : Dev → Dev := id) : State := st fun d => f (d.modImg 5 fun _ => i)

/-- A capability container that the listener serves needs its NDEF file within the image. -/
def ccBad : List Byte := List.replicate 11 0 ++ [0xFF, 0xFF]

theorem witness_TagImages :
    chk (st (runs (dsc 0x3FF 0x20 [5, 2, 1]))) (fun s => s.dev.running 0x3FF 0x20 = some (dsc 0x3FF 0x20 [5, 2, 1]) ∧ (s.dev.img 5).pages = 0 ∧
      2 * 2 ≤ s.dev.pagesFree ∧ s.dev.pagesKept + 2 ≤ 4) ∧
    chk (st id) (fun s => s.dev.pagesFree < 2 * 255 ∧ 4 < s.dev.pagesKept + 5) ∧
    chk (imgs { pages := 2 } (runs (dsc 0x3FF 0x22 [5, 0, 0, 0, 255, 15] [7, 8]))) (fun s =>
      s.dev.running 0x3FF 0x22 = some (dsc 0x3FF 0x22 [5, 0, 0, 0, 255, 15] [7, 8]) ∧
      s.dev.imgReach (dsc 0x3FF 0x22 [5, 0, 0, 0, 255, 15] [7, 8]) 2 = true ∧ (4095 + 2 - 1) / 4096 - 4095 / 4096 + 1 = 2 ∧ 2 ≤ s.dev.pagesFree ∧
      s.dev.imgReach (dsc 0x3FF 0x22 [5, 0, 0, 0, 255, 31] [7, 8]) 2 = false ∧ (s.dev.img 5).staged = []) ∧
    chk (st fun d => (List.range 32).foldl (fun d i => d.modImg i fun _ => { pages := 8 }) d) (fun s => s.dev.pagesFree < 1) ∧
    chk (imgs { pages := 2, staged := [{ desc := dsc 0x3FF 0x22, ofs := 11, data := ccBad.drop 11, pages := 1 }] }) (fun s =>
      (s.dev.img 5).staged ≠ [] ∧ (dsc 0x3FF 0x22).late s.dev.now = false ∧ s.dev.servers 5 = [] ∧
      ((s.dev.img 5).write 11 (ccBad.drop 11)).ccOk = false ∧ (s.dev.img 5).ccOk = true) ∧
    chk (imgs { pages := 2 } fun d => (d.modCh 0 fun c => { c with role := .listen }).setFld F.CH_LSN_CTL_IMAGE 0 0 5) (fun s =>
      s.dev.servers 5 ≠ []) ∧
    chk (imgs {} (fun d => d.setTime 1000)) (fun s => ({ dsc 0x3FF 0x22 with d := { deadline := 1 } } : QDesc).late s.dev.now = true) ∧
    chk (imgs { pages := 1, persist := true } fun d => { d with host := { d.host with busMaster := true } }) (fun s =>
      s.dev.imgReach (dsc 0x3FF 0x23 [5]) 16 = true ∧ s.dev.host.busMaster = true ∧ (s.dev.img 5).pages ≠ 0 ∧ (s.dev.img 5).persist = true) ∧
    [0x20, 0x21, 0x22, 0x23, 0x24].all (fun op => chk (st (runs (dsc 0x3FF op [5]))) fun s => (s.dev.running 0x3FF op).isSome ∧
      s.dev.imgReach (dsc 0x3FF op [5]) 1 = false) ∧
    [5, 0x7F].all (fun i => chk (imgs { pages := 1 } (runs (dsc 0 0x25 [i]))) fun s => (s.dev.running 0 0x25).isSome ∧
      (s.dev.img 5).ccOk = true ∧ (s.dev.img 6).pages = 0) := by decide +kernel

theorem witness_RolesAndSessions :
    chk (able id (runs (dsc 0 0x10 [1]))) (fun s => s.dev.running 0 0x10 = some (dsc 0 0x10 [1]) ∧ s.dev.enLock 0 = true ∧
      s.dev.engaged 0 = false ∧ (s.dev.ch 0).borrowed = false ∧ (s.dev.ch 0).roleQ = []) ∧
    chk (able id fun d => runs (dsc 0 0x10 [1]) id (d.wr .SHP_CH_EN_LOCK 0 0 0)) (fun s => (s.dev.running 0 0x10).isSome ∧ s.dev.enLock 0 = false ∧
      roleOf 1 ≠ .parked ∧ roleOf 0 = .parked) ∧
    chk (upField (runs (dsc 0 0x10 [0]))) (fun s => (s.dev.running 0 0x10).isSome ∧ s.dev.engaged 0 = true) ∧
    chk (able fun c => { c with roleQ := [(dsc 0 0x10 [2], .listen)] }) (fun s => (s.dev.ch 0).roleQ = [(dsc 0 0x10 [2], .listen)] ∧
      s.dev.engaged 0 = false ∧ (s.dev.ch 0).borrowed = false ∧ (s.dev.ch 1).roleQ = []) ∧
    chk (st (runs (dsc 0x3FF 0x11))) (fun s => (s.dev.running 0x3FF 0x11).isSome) := by decide +kernel

/-- Chapter 08's example: with FWI 8 the extension timer fires 838,861 Tc after the command. -/
theorem test_wtx_example : chk (st fun d => d.modSes 0 fun x => { x with fwi := 8 }) (fun s => s.dev.wtxTc 0 0 == 838861) = true := by
  decide +kernel

/-! ### Gates, buckets, shapers, coexistence -/

/-- A gate list that is open for half of its cycle. -/
def halfOpen : GList := { base := 0, cycle := 2000, entries := [(1000, 15, false), (1000, 0, false)] }

/-- A pavilion with a gate state and a transaction of channel 0. -/
def gated (g : Gate) (x : Option Txn := none) (f : Dev → Dev := id) : State :=
  able (fun c => { c with txn := x }) fun d => f (d.modPav 0 fun p => { p with gate := g })

theorem witness_GateInstants :
    [false, true].all (fun lk => chk (gated { mode := .fallback, pend := some halfOpen } (some { admitted with phase := .up })
        fun d => d.setOn F.TIME_STAT_LOCK 0 0 lk) fun s =>
      (s.dev.pav 0).gate.pend = some halfOpen ∧ halfOpen.follow = false ∧ (s.dev.pav 0).gate.mode ≠ .open_ ∧ s.dev.locked = lk ∧
      339 * halfOpen.base ≤ s.dev.netU ∧
      (s.dev.ch 0).txn = some { admitted with phase := .up } ∧ bitAt (halfOpen.entryAt halfOpen.base).1 0 = true ∧
      bitAt ((({ halfOpen with entries := [(2000, 0, false)] } : GList).entryAt 0).1) 0 = false) ∧
    chk (gated { pend := some { halfOpen with follow := true } }) (fun s =>
      (s.dev.pav 0).gate.pend = some { halfOpen with follow := true } ∧ (s.dev.pav 0).gate.mode = .open_ ∧ (s.dev.pav 1).gate.pend = none) ∧
    chk (gated { mode := .fallback, lostEnd := some 0 }) (fun s => (s.dev.pav 0).gate.mode = .fallback ∧ (s.dev.pav 0).gate.nextFb ≤ s.dev.tc) ∧
    chk (gated { enAt := some 0 }) (fun s => (s.dev.pav 0).gate.enAt = some 0 ∧ 0 ≤ s.dev.tc) ∧
    chk (gated { mode := .fallback, oper := some halfOpen } (some { admitted with phase := .up }) fun d => d.setOn F.TIME_STAT_LOCK 0 0 true)
      (fun s => (s.dev.pav 0).gate.mode = .fallback ∧ s.dev.locked = true ∧ (s.dev.pav 0).gate.oper = some halfOpen ∧
        halfOpen.toCycle s.dev.netU % (339 * halfOpen.cycle) = 0) := by decide +kernel

theorem witness_GateEdgesAndGrants :
    chk (withTxn { admitted with phase := .up, closing := .car 0 }) (fun s => 0 ∈ arbChans 0 ∧ s.dev.fallLeft 0 = some 0 ∧
      s.dev.fallLeft 1 = none ∧ (s.dev.ch 0).txn = some { admitted with phase := .up, closing := .car 0 }) ∧
    (chk (withTxn exch) (fun s => s.dev.waitOrder 0 = [0]) ∧ Admissible (withTxn exch).dev 0 exch) ∧
    (chk (withTxn exch fun d => (put F.PAV_COEX_EN 1 d).modPav 0 fun p => { p with gntPin := false }) (fun s => s.dev.waitOrder 0 = [0]) ∧
      Admissible ((withTxn exch fun d => (put F.PAV_COEX_EN 1 d).modPav 0 fun p => { p with gntPin := false }).dev.modPav 0 fun y =>
        { y with gntPin := true }) 0 exch) ∧
    [exch, admitted, { admitted with phase := .up }].all (fun x => chk (withTxn x (put F.PAV_COEX_EN 1)) fun s =>
      (s.dev.pav 0).gntPin = true ∧ s.dev.on F.PAV_COEX_EN 0 = true ∧ 0 ∈ pavChans 0 ∧ (s.dev.ch 0).txn = some x) ∧
    chk (withTxn { admitted with phase := .up } fun d => d.modPav 0 fun p => { p with gntPin := false }) (fun s =>
      s.dev.on F.PAV_COEX_EN 0 = false ∧ (s.dev.pav 0).gntPin = false) := by
  refine ⟨by decide +kernel, ⟨by decide +kernel, ?_⟩, ⟨by decide +kernel, ?_⟩, by decide +kernel, by decide +kernel⟩
  · unfold Admissible; decide +kernel
  · unfold Admissible; decide +kernel

theorem witness_BucketsAndShapers :
    chk (st id) (fun s => bits 7000 0 14 ≤ 7999 ∧ 7000 + s.dev.fld F.PAV_BKT_DEPTH_DEPTH 0 ≤ s.dev.fld F.PAV_LOCK_BUDGET 0 + 8000 ∧
      (∀ n ∈ pavChans 0, (s.dev.ch n).txn = none) ∧ ¬ bits 8001 0 14 ≤ 8000 ∧
      1 + s.dev.fld F.PAV_BKT_DEPTH_DEPTH 0 ≤ s.dev.fld F.PAV_LOCK_BUDGET 0) ∧
    chk (st fun d => d.setFld F.PAV_LOCK_BUDGET 0 0 100) (fun s =>
      s.dev.fld F.PAV_LOCK_BUDGET 0 < bits 8000 0 14 + s.dev.fld F.PAV_BKT_RATE_RATE 0 ∧ bits 8000 0 14 ≤ 8000 ∧ 1 ≤ bits 8000 0 14) := by
  decide +kernel

/-! ### Rings, descriptors, events, capture -/

/-- Command ring 0 of 16 entries and event ring 32, enabled, with a head and a tail of one of them. -/
def ringed (r head tail : Nat) (f : Dev → Dev := id) : State := st fun d =>
  let d := { d with host := { d.host with busMaster := true, msixEn := true } }
  let d := (d.wr .HIF_RING_CFG 0 0 0x401).wr .HIF_RING_CFG 32 0 0x401
  f ((d.wr .HIF_RING_HEAD r 0 head).wr .HIF_RING_TAIL r 0 tail)

theorem witness_RingsAndDoorbells :
    chk (ringed 0 15 15) (fun s => let size := s.dev.ringSize 0; size = 16 ∧ s.dev.rd .HIF_RING_HEAD 0 < size ∧ s.dev.rd .HIF_RING_TAIL 0 < size ∧
      0 < size ∧ (0 + size - 15) % size + (15 + size - 15) % size < size ∧ size ≤ 16) ∧
    chk (ringed 32 0 15) (fun s => let size := s.dev.ringSize 32; 0 < size ∧ (0 + size - 15) % size ≤ (0 + size - 15) % size ∧
      (0 + size - 15) % size < (1 + size - 15) % size) ∧
    chk (st id) (fun s => s.dev.on F.HIF_RING_CFG_EN 5 = false ∧ s.dev.ringsOpen = true ∧ 1 ≤ bits 0x401 8 5 ∧ bits 0x401 8 5 ≤ 16) := by
  decide +kernel

/-- A slot with its check word. -/
def slotOf (b : List Byte) : List Byte := padTo 60 b ++ toLe 4 (crc32c (padTo 60 b))
/-- A NOP for the device, with an opcode byte of choice. -/
def nopSlot (op : Byte) : List Byte := slotOf [op, 0, 0xFF, 3, 0, 0, 0xFF, 1]

theorem witness_DescriptorTakeUp :
    chk (ringed 0 0 1) (fun s => (nopSlot 0).length = 64 ∧ s.dev.takesUp = true ∧ s.dev.on F.HIF_RING_CFG_EN 0 = true ∧ (s.dev.ring 0).stopped = false ∧
      s.dev.rd .HIF_RING_HEAD 0 ≠ s.dev.rd .HIF_RING_TAIL 0 ∧ s.dev.takeRoom 0x3FF = true ∧ s.dev.policed 0 = false ∧
      slotCrc (nopSlot 0) = true ∧ slotCrc (List.replicate 64 1) = false ∧ (Desc.parse (nopSlot 0)).auth = false ∧
      s.nv.needsAuth 0 = false ∧ (Desc.parse (nopSlot 0)).fence = false ∧ (targetClass 0x3FF).isSome ∧
      s.dev.checkStep { d := Desc.parse (nopSlot 0) } (nopSlot 0) = none ∧ s.dev.tqRoom (Desc.parse (nopSlot 0)) = true ∧
      s.dev.checkStep { d := Desc.parse (nopSlot 0x7F) } (nopSlot 0x7F) = some .badDescriptor) ∧
    chk (ringed 0 0 1 fun d => (d.setFld F.HIF_RING_POL_RATE 0 0 1).modRing 0 fun r => { r with tok := 13559999 }) (fun s => s.dev.policed 0 = true) ∧
    chk (ringed 0 1 1) (fun s => s.dev.rd .HIF_RING_HEAD 0 = s.dev.rd .HIF_RING_TAIL 0) ∧
    chk (ringed 0 0 1 fun d => { d with host := { d.host with tq := { q := List.replicate 64 {} } } }) (fun s =>
      s.dev.tqRoom (Desc.parse (nopSlot 0)) = false ∧ s.dev.takeRoom 0x3FF = true) := by decide +kernel

/-- A queue of the device's target. -/
def queued (q : TQ) (f : Dev → Dev := id) : State := st fun d => f { d with host := { d.host with tq := q } }
/-- A descriptor that is late from 1 ns on. -/
def lateQ (target op : Nat) : QDesc := { dsc target op with d := { (dsc target op).d with deadline := 1 } }

theorem witness_DescriptorsLeaveQueues :
    chk (queued { q := [dsc 0x3FF 0] }) (fun s => (targetClass 0x3FF).isSome ∧ (s.dev.tq 0x3FF).q = [dsc 0x3FF 0] ∧
      (dsc 0x3FF 0).late s.dev.now = false ∧ s.dev.mayStart 0x3FF (dsc 0x3FF 0) = true ∧ s.dev.genOk (dsc 0x3FF 0).d 0 = true ∧
      targetClass 200 = none ∧ s.dev.running 0x3FF 0 = none ∧ inMask 8 (dsc 0x3FF 0).ring = true) ∧
    chk (queued { q := [dsc 0x3FF 0], run := some (dsc 0x3FF 1) }) (fun s => s.dev.mayStart 0x3FF (dsc 0x3FF 0) = false) ∧
    chk (st fun d => d.modCh 0 fun c => { c with tq := { q := [dsc 0 1] }, gen := 7 }) (fun s => (s.dev.tq 0).q = [dsc 0 1] ∧
      s.dev.mayStart 0 (dsc 0 1) = true ∧ s.dev.genOk (dsc 0 1).d (s.dev.ch 0).roleQ.length = false ∧ (dsc 0 1).late s.dev.now = false) ∧
    chk (queued { q := [lateQ 0x3FF 0] } fun d => d.setTime 1) (fun s => (lateQ 0x3FF 0).late s.dev.now = true ∧ (s.dev.tq 0x3FF).run = none) ∧
    chk (withTxn { exch with desc := some (lateQ 0 1) } fun d => d.setTime 1) (fun s =>
      (s.dev.ch 0).txn = some { exch with desc := some (lateQ 0 1) } ∧ (lateQ 0 1).late s.dev.now = true) ∧
    chk (queued { run := some (dsc 0x3FF 0) }) (fun s => s.dev.running 0x3FF 0 = some (dsc 0x3FF 0)) ∧
    chk (withTxn (cyc .waiting)) (fun s => (s.dev.ch 0).txn = some (cyc .waiting)) := by decide +kernel

/-- An entry at the head of the device queue, for event ring 0. -/
def entry0 : Entry := { kind := .synSwap, ring := some 0 }

theorem witness_EventsAndInterrupts :
    chk (ringed 32 15 3 fun d => { d with host := { d.host with devQ := { held := [entry0] } } }) (fun s =>
      (s.dev.outq 0x3FF).held = [entry0] ∧ s.dev.on F.HIF_RING_CFG_EN 32 = true ∧ s.dev.ringRoom 32 = true ∧ (s.dev.outq 0x3FF).waiting = [] ∧
      s.dev.dataAt (min 0x3FF 192) = [] ∧ s.dev.backlog.all (fun x => x.1 == 192) ∧ s.dev.rd .HIF_RING_HEAD 32 < s.dev.ringSize 32 ∧ (s.dev.outq 0).held = []) ∧
    chk (ringed 32 15 0) (fun s => s.dev.ringRoom 32 = false) ∧
    chk (st id) (fun s => s.dev.on F.HIF_RING_CFG_EN 32 = false ∧ (s.dev.ring 32).unsig = 0 ∧
      (s.dev.outq 0x3FF).held = [] ∧ s.dev.dataAt (min 0x3FF 192) = [] ∧ (s.dev.msix 32).pend = false) ∧
    [true, false].all (fun m => chk (ringed 32 1 0 fun d =>
        (((late 68 d).setFld F.HIF_RING_MOD_TIME 32 0 5).modRing 32 fun r => { r with unsig := 1 }).modMsix 32 fun r => { r with mask := m, pend := true }) fun s =>
      s.dev.fld F.HIF_RING_MOD_TIME 32 ≠ 0 ∧ (s.dev.ring 32).unsig ≠ 0 ∧ (s.dev.ring 32).oldest + usTc 5 ≤ s.dev.tc ∧
      s.dev.host.msixEn = true ∧ s.dev.host.busMaster = true ∧
      (s.dev.msix 32).mask = m ∧ (s.dev.msix 32).pend = true) := by decide +kernel

/-- A capture stream of channel 0. -/
def stream (c : Cap) (f : Dev → Dev := id) : State :=
  able (fun x => { x with cap := some c }) fun d => f { d with host := { d.host with busMaster := true } }
/-- Its descriptor. -/
def capD : QDesc := { d := { op := 0x18, bufLen := 65536 } }

theorem witness_CaptureAndLink :
    chk (able id (runs (dsc 0 0x18 [1]))) (fun s => s.dev.running 0 0x18 = some (dsc 0 0x18 [1]) ∧ (s.dev.ch 0).cap = none ∧
      (s.dev.pav 0).state = .active ∧ (s.dev.pav 0).change = none ∧ s.dev.synActive = true) ∧
    chk (able id fun d => runs (dsc 0 0x18 [2]) id ((d.wr .CH_RX_RS 0 0 0xFFFFFF).setFld F.CH_RX_CTL_FIR_SRC 0 0 2)) (fun s => 6780000 * 2 ^ 24 < s.dev.pointRate 0 2) ∧
    chk (able id (put F.HIF_CAP_BUDGET_MBPS 10000)) (fun s => s.dev.capFits 0 1 = true) ∧
    chk (stream { desc := capD, start := 5 }) (fun s => s.dev.now < 5) ∧
    chk (stream { desc := capD }) (fun s => (s.dev.ch 0).cap = some { desc := capD } ∧ (s.dev.ch 0).cap.all (fun c => c.start ≤ s.dev.now)) ∧
    chk (stream { desc := capD, running := true }) (fun s => (s.dev.ch 0).cap = some { desc := capD, running := true } ∧
      (s.dev.ch 0).cap.all (fun c => c.fill + 4 * 1 ≤ 16384 && c.gapFrom.isNone && c.samples == 0) ∧ 4 * 1 ≤ s.dev.maxWrite ∧
      4 * 0 % 65536 + 4 * 1 ≤ 65536 ∧ s.dev.host.busMaster = true ∧ s.dev.dataAt 0 = [] ∧ s.dev.entryMay 0 = false ∧ s.dev.backlog = []) ∧
    chk (stream { desc := capD, running := true, buf := [(0, List.replicate 16384 0)] }) (fun s =>
      (s.dev.ch 0).cap.all (fun c => decide (16384 ≤ c.fill)) = true) ∧
    chk (stream { desc := capD, running := true, idx := 0xFFFFFFFF, gapFrom := some 0 }) (fun s => s.dev.gapMay 0 = true ∧
      s.dev.dataAt 0 = [] ∧ s.dev.backlog.all (fun x => x.1 == 0)) ∧
    linkOk 3 4 256 = true ∧ linkOk 5 4 256 = false ∧ linkOk 4 8 128 = false ∧
    chk (stream { desc := capD, ended := true }) (fun s => (s.dev.ch 0).cap = some { desc := capD, ended := true }) ∧
    chk (stream { desc := capD } (runs (dsc 0 0x19))) (fun s => (s.dev.running 0 0x19).isSome ∧ (s.dev.ch 1).cap = none) := by decide +kernel

/-! ### The ledger -/

/-- A ledger of 1,024 entries, with a change; key slot 0 holds a key of zeros. -/
def ledg (f : Ledger → Ledger) (g : Dev → Dev := id) : State :=
  { st (fun d => g { d with ledger := f { att := true, entries := 1024 } }) with nv := { keys := [(0x10, List.replicate 32 0)] } }

/-- The parameters of an attach of 1,024 entries with key slot 0. -/
def attachQ : QDesc := { d := { op := 0x30, target := 0x3FF, bufLen := 65536, param := toLe 4 1024 } }
/-- The parameters of an invalidate of entries 1,000 to 1,023. -/
def invalQ (count : Nat) : QDesc := dsc 0x3FF 0x32 (toLe 4 1000 ++ toLe 4 count)
/-- A lookup of channel 0. -/
def lookup0 : Lookup := { cred := List.replicate 16 1, home := 1023 }

theorem witness_LedgerDescriptors :
    chk (ledg id (runs attachQ)) (fun s => s.dev.running 0x3FF 0x30 = some attachQ ∧ s.dev.ledger.change.any (·.same attachQ) = false ∧
      attachQ.d.bufAddr % 4096 = 0 ∧ entriesOk (leAt attachQ.d.param 0 4) = true ∧ attachQ.d.bufLen = 64 * leAt attachQ.d.param 0 4 ∧
      byteAt attachQ.d.param 4 ≤ 3 ∧ (s.nv.key (0x10 + byteAt attachQ.d.param 4)).isSome ∧ s.dev.ledger.lookups = []) ∧
    chk (st (runs attachQ)) (fun s => s.nv.key (0x10 + byteAt attachQ.d.param 4) = none) ∧
    chk (ledg (fun l => { l with lookups := [lookup0] }) (runs (dsc 0x3FF 0x30 [1]))) (fun s => s.dev.ledger.lookups ≠ [] ∧
      s.dev.running 0x3FF 0x30 = some (dsc 0x3FF 0x30 [1]) ∧ entriesOk (leAt (dsc 0x3FF 0x30 [1]).d.param 0 4) = false) ∧
    [true, false].all (fun a => chk (ledg (fun l => { l with att := a, lookups := if a then [lookup0] else [] }) (runs (dsc 0x3FF 0x31))) fun s =>
      s.dev.running 0x3FF 0x31 = some (dsc 0x3FF 0x31) ∧ s.dev.ledger.change = none ∧ s.dev.ledger.att = a ∧ s.dev.ledger.lookups.isEmpty = !a) ∧
    [24, 25].all (fun n => chk (ledg id (runs (invalQ n))) fun s => s.dev.running 0x3FF 0x32 = some (invalQ n) ∧ s.dev.ledger.invals = [] ∧
      s.dev.ledger.att = true ∧ (leAt (invalQ n).d.param 0 4 + leAt (invalQ n).d.param 4 4 ≤ s.dev.ledger.entries ↔ n = 24)) ∧
    chk (ledg (fun l => { l with pend := [{ ch := 191, entry := 7 }], expired := [(191, 8)] }) (runs (dsc 191 0x33 [1, 0, 0, 0, 7]))) (fun s =>
      s.dev.running 191 0x33 = some (dsc 191 0x33 [1, 0, 0, 0, 7]) ∧ s.dev.ledger.pend = [{ ch := 191, entry := 7 }] ∧
      leAt (dsc 191 0x33 [1, 0, 0, 0, 7]).d.param 4 4 = 7 ∧ (191, 8) ∈ s.dev.ledger.expired ∧ s.dev.grantOk (arbOf 191) = false) := by
  decide +kernel

/-- An entry of the credential of `lookup0` for every arbour and day, and its seal by the key of zeros. -/
def plain48 : List Byte := List.replicate 16 1 ++ List.replicate 8 0 ++ [255, 255, 255, 127, 0, 0, 0, 0, 255, 15] ++ List.replicate 14 0
/-- The sealed entry at index 1,023. -/
def sealed1023 : List Byte := plain48 ++ [168, 169, 127, 232, 126, 194, 20, 8, 124, 126, 159, 181, 64, 71, 92, 87]

/-- An entry whose window of the day starts past the last minute counts as failed. -/
theorem entGood_late (key : List Byte) (ix : Nat) (e : List Byte) (h : 1439 < entStart e) : entGood key ix e = false := by
  simp [entGood]; omega

theorem witness_LedgerDecisions :
    chk (ledg (fun l => { l with lookups := [lookup0] }) (put F.ARB_GRANT_EN 1)) (fun s =>
      s.dev.ledger.lookups = [lookup0] ∧ lookup0.mode = 1 ∧ lookup0.span ≠ 0 ∧ s.dev.ledger.invals = [] ∧ s.dev.ledger.change = none ∧ arbOf lookup0.ch < 24 ∧
      s.dev.fld F.SYS_LEDGER_CTL_PROBE_MAX ≠ 0 ∧ lookup0.home % max 1 s.dev.ledger.entries = 1023 ∧ sealed1023.length = 64 ∧
      entEmpty sealed1023 = false ∧ entMatch sealed1023 lookup0.cred lookup0.kind = true ∧
      entGood (s.nv.ledgerKey s.dev.ledger.key) 1023 sealed1023 = true ∧ 1439 < entStart (lookup0.cred ++ List.replicate 48 127) ∧
      entMatch (lookup0.cred ++ List.replicate 48 127) lookup0.cred lookup0.kind = true ∧
      entHome sealed1023 = 0xFFF ∧ bitAt (byteAt sealed1023 36) 1 = false ∧ s.dev.ledger.holdOff = [] ∧
      s.dev.decision (some sealed1023) (arbOf lookup0.ch) lookup0.time = 0 ∧ s.dev.grantOk (arbOf lookup0.ch) = true ∧
      entEmpty (([] : List Byte).take 64) = true) ∧
    chk (ledg (fun l => { l with lookups := [lookup0], holdOff := [(0, lookup0.pairKey, 0)] })) (fun s =>
      lookup0.time < 0 + s.dev.fld F.SYS_LEDGER_CTL_HOLDOFF * 10 ^ 6) ∧
    chk (ledg (fun l => { l with pend := [{}] })) (fun s => s.dev.ledger.pend = [{}] ∧ ({} : PendDec).due ≤ s.dev.tc ∧ s.dev.ledger.expired.length < 64 ∧
      s.dev.ledger.lookups = []) := by decide +kernel

/-! ### Gatehouse -/

/-- A device whose persistent memory has a change, with a descriptor running at the device. -/
def gate (n : NonVol → NonVol) (q : QDesc) (f : Dev → Dev := id) : State := { st (fun d => f (runs q id d)) with nv := n {} }
/-- A KEY_MANAGE of an operation and a slot, with its input. -/
def keyQ (op slot len : Nat) : QDesc := dsc 0x3FF 0x39 [op, slot] (List.replicate len 0)
/-- A SEALED_WRITE of an offset, with mask all ones. -/
def sealQ (ofs v : Nat) : QDesc := dsc 0x3FF 0x3C (toLe 4 ofs ++ toLe 4 v ++ toLe 4 0xFFFFFFFF)

theorem witness_KeysAndSeals :
    [(0, 7, 32), (2, 0, 0), (3, 0x20, 32), (5, 0, 4), (0, 8, 0)].all (fun (x : Nat × Nat × Nat) =>
      chk (gate (fun n => { n with life := if x.1 = 5 then 3 else 1 }) (keyQ x.1 x.2.1 x.2.2)) fun s => s.dev.running 0x3FF 0x39 = some (keyQ x.1 x.2.1 x.2.2) ∧
        byteAt (keyQ x.1 x.2.1 x.2.2).d.param 0 = x.1 ∧ byteAt (keyQ x.1 x.2.1 x.2.2).d.param 1 = x.2.1 ∧
        keyStateOk x.1 s.nv.life = true ∧ keySlotOk x.1 x.2.1 = (x.2.1 != 8) ∧ (keyQ x.1 x.2.1 x.2.2).input.length = x.2.2 ∧
        tblFind s.nv.roots 0x20 = none ∧ s.nv.minVer ≤ leNat (List.replicate 4 (0 : Byte)) ∧ leNat (List.replicate 4 (0 : Byte)) ≤ s.dev.rd .SEC_BOOT_VER) ∧
    chk (gate (fun n => { n with roots := [(0x20, [])], minVer := 1 }) (keyQ 3 0x20 32)) (fun s => (tblFind s.nv.roots 0x20).isSome ∧
      leNat (List.replicate 4 (0 : Byte)) < s.nv.minVer) ∧
    [0, 1].all (fun l => chk (gate (fun n => { n with life := l }) (dsc 0x3FF 0x3B)) fun s =>
      s.dev.running 0x3FF 0x3B = some (dsc 0x3FF 0x3B) ∧ s.nv.life = l) ∧
    chk (gate id (sealQ 0xFFFFFF 1)) (fun s => s.dev.running 0x3FF 0x3C = some (sealQ 0xFFFFFF 1) ∧ regAt (leAt (sealQ 0xFFFFFF 1).d.param 0 4) = none) ∧
    [true, false].all (fun l => chk (gate (fun n => { n with regLock := l }) (sealQ (0x40070 + 0x400 * 191) 2)) fun s =>
      s.dev.running 0x3FF 0x3C = some (sealQ (0x40070 + 0x400 * 191) 2) ∧
      regAt (leAt (sealQ (0x40070 + 0x400 * 191) 2).d.param 0 4) = some (.CH_PWR_LIM, 191, 0) ∧
      leAt (sealQ (0x40070 + 0x400 * 191) 2).d.param 8 4 = 0xFFFFFFFF ∧ bits (leAt (sealQ (0x40070 + 0x400 * 191) 2).d.param 4 4) 0 10 = 2 ∧
      s.nv.life = 1 ∧ s.nv.regLock = l ∧ 2 ≠ s.dev.fld F.CH_PWR_LIM_MW 191) := by decide +kernel

/-- A token of a kind, signed by an index of a class, with an argument and the low bytes of its payload, for a life-cycle state. -/
def tokenOf (kind signer arg life : Byte) (pay : List Byte) : List Byte :=
  padTo 3144 ([0x41, 0x5A, 0x54, 0x4B, kind, signer, 0, arg] ++ List.replicate 16 0 ++ [life] ++ List.replicate 7 0 ++ pay)
/-- The hash of an all-zero public key. -/
def zeroKey : List Byte := shake256 (List.replicate 1793 0)
/-- A device in a life-cycle state that holds that key as vendor and owner root, with a LIFECYCLE running. -/
def lifeOf (life : Nat) (tok : List Byte) (f : Dev → Dev := id) : State :=
  gate (fun n => { n with life := life, roots := [(0x20, zeroKey), (0x30, zeroKey)] }) (dsc 0x3FF 0x3A [] tok) f

theorem witness_LifeCycleAndAttestation :
    chk (lifeOf 2 (tokenOf 1 1 3 2 [])) (fun s => s.dev.running 0x3FF 0x3A = some (dsc 0x3FF 0x3A [] (tokenOf 1 1 3 2 [])) ∧
      s.dev.sec.lcDue = false ∧ (tokenOf 1 1 3 2 []).length = 3144 ∧ (Token.parse (tokenOf 1 1 3 2 [])).kind ≠ 3 ∧
      transTokens s.nv.life (Token.parse (tokenOf 1 1 3 2 [])).arg = some [[1]] ∧ transTokens s.nv.life 2 = none ∧
      s.nv.spendToken.transOk 3 = false ∧ s.nv.tokenCheck (Token.parse (tokenOf 1 0 3 2 [])) [1] [1] = some .authFail) ∧
    chk (lifeOf 2 (tokenOf 1 0 4 2 [])) (fun s => transTokens s.nv.life (Token.parse (tokenOf 1 0 4 2 [])).arg = some [[0]] ∧
      s.nv.spendToken.transOk (Token.parse (tokenOf 1 0 4 2 [])).arg = true) ∧
    chk (lifeOf 2 (tokenOf 3 1 3 2 [1])) (fun s => (Token.parse (tokenOf 3 1 3 2 [1])).kind = 3 ∧ debugSigners s.nv.life ≠ [] ∧
      (Token.parse (tokenOf 3 1 3 2 [1])).arg ≤ 3 ∧ leAt (Token.parse (tokenOf 3 1 3 2 [1])).payload 0 2 ≠ 0) ∧
    [true, false].all (fun b => chk (lifeOf 2 [] fun d => { d with sec := { d.sec with lcDue := b }, host := { d.host with busMaster := b } }) fun s =>
      s.dev.sec.lcDue = b ∧ s.dev.host.busMaster = b) ∧
    [0, 4935, 4936].all (fun l => chk (gate (fun n => { n with life := l }) { d := { op := 0x38, target := 0x3FF, bufLen := l } }) fun s =>
      s.dev.running 0x3FF 0x38 = some { d := { op := 0x38, target := 0x3FF, bufLen := l } } ∧ s.nv.life = l) := by decide +kernel

/-- A token passes where every check but the signature's does, and the signature holds. -/
theorem tokenCheck_passes (nv : NonVol) (t : Token) (kinds signers : List Nat)
    (h : (t.magic == 0x4B545A41 && t.clean && kinds.contains t.kind && t.serial == nv.serial && t.fromSt == nv.life &&
      signers.contains t.signer && nv.rootLive (rootCode t.signer t.keyIndex) && t.ctr == nv.tokenCtr) = true)
    (hk : shake256 t.pubkey = tblGet nv.roots (rootCode t.signer t.keyIndex) [])
    (hf : Config.falconVerify t.pubkey t.signedB t.sig = true) : nv.tokenCheck t kinds signers = none := by
  simp only [Bool.and_eq_true, beq_iff_eq] at h
  obtain ⟨⟨⟨⟨⟨⟨⟨h1, h2⟩, h3⟩, h4⟩, h5⟩, h6⟩, h7⟩, h9⟩ := h
  simp only [NonVol.tokenCheck, NonVol.signedBy, h1, h2, h3, h4, h5, h6, h7, hk, h9, hf, decide_true, Bool.and_self, not_true_eq_false,
    ne_eq, or_self, ite_false]

/-- A device of `lifeOf` knows the key of a token of `tokenOf`. -/
theorem lifeOf_key (life : Nat) (tok : List Byte) (x : Token) (hk : x.pubkey = List.replicate 1793 0)
    (hr : rootCode x.signer x.keyIndex = 0x20 ∨ rootCode x.signer x.keyIndex = 0x30) :
    shake256 x.pubkey = tblGet (lifeOf life tok).nv.roots (rootCode x.signer x.keyIndex) [] := by
  have hz : shake256 (List.replicate 1793 0) = zeroKey := by unfold zeroKey; exact Eq.refl _
  rw [hk, hz]
  show zeroKey = tblGet [(0x20, zeroKey), (0x30, zeroKey)] _ []
  generalize zeroKey = z
  rcases hr with h | h <;> rw [h] <;> simp [tblGet]

/-- Every check of a token but the signature passes on the devices of `lifeOf`, for a transition and for a debug token; the
verdict on the signature itself is a free value of Config. -/
theorem witness_LifeCycleAndAttestation_signed :
    (∀ x, x = Token.parse (tokenOf 1 0 4 2 []) → Config.falconVerify x.pubkey x.signedB x.sig = true →
      (lifeOf 2 (tokenOf 1 0 4 2 [])).nv.tokenCheck x [1] [0] = none) ∧
    (∀ x, x = Token.parse (tokenOf 3 1 3 2 [1]) → Config.falconVerify x.pubkey x.signedB x.sig = true →
      (lifeOf 2 (tokenOf 3 1 3 2 [1])).nv.tokenCheck x [3] (debugSigners 2) = none) := by
  constructor <;> intro x hx h <;>
    refine tokenCheck_passes _ x _ _ ?_ (lifeOf_key _ _ x ?_ ?_) h <;> subst hx <;> decide +kernel

theorem witness_DebugAccess :
    chk { st (fun d => d) with nv := { life := 4 } } (fun s => 2 ≤ s.dev.debugLevel s.nv ∧ s.dev.debugLevel s.nv ≠ 0) ∧
    chk { st (fun d => d) with nv := { life := 3 } } (fun s => s.dev.debugLevel s.nv < 2 ∧ s.dev.debugLevel s.nv = 0) ∧
    chk (upField) (fun s => (s.dev.ch 0).txn = some { admitted with phase := .up } ∧ admitted.work ≠ .cal) := by decide +kernel

/-! ### Calibration -/

/-- A CAL descriptor of a kind, an index and a stated level for a target, with STORE set by choice. -/
def calQ (target kind : Nat) (store : Byte := 0) : QDesc := dsc target 0x29 [BitVec.ofNat 8 kind, store]
/-- The procedure of a CAL descriptor. -/
def calRun (target kind unit : Nat) (started : Bool) (chans : List Nat := [unit]) (store : Byte := 0) : CalRun :=
  { kind := 6 + kind, unit := unit, chans := chans, desc := some (calQ target kind store), started := started,
    fields := if started then chans.map fun n => (n, (100, 0)) else [] }
/-- A running pavilion 0 with procedures, and a change. -/
def calib (l : List CalRun) (f : Dev → Dev := id) : State := able id fun d => f { d with cal := { d.cal with runs := l } }

theorem witness_CalibrationRequests :
    [(191, 0), (191, 2), (0x117, 1), (0x117, 0), (0, 1), (0, 3)].all (fun (x : Nat × Nat) =>
      chk (st (runs (calQ x.1 x.2))) fun s => s.dev.running x.1 0x29 = some (calQ x.1 x.2) ∧ s.dev.cal.runs = [] ∧
        byteAt (calQ x.1 x.2).d.param 0 = x.2 ∧ byteAt (calQ x.1 x.2).d.param 2 % 8 ≤ 4 ∧
        toInt 32 (leAt (calQ x.1 x.2).d.param 4 4) = 0 ∧ (x.1 < 192 → s.dev.enLock x.1 = true)) ∧
    chk (st fun d => runs (calQ 31 0) id (d.wr .SHP_CH_EN_LOCK 0 0 0x7FFFFFFF)) (fun s =>
      s.dev.running 31 0x29 = some (calQ 31 0) ∧ s.dev.enLock 31 = false) ∧
    chk (calib [calRun 0 0 0 false] (runs (calQ 0 0))) (fun s => s.dev.cal.runs.any (fun (r : CalRun) => r.desc.any (calQ 0 0).same) = true) ∧
    [true, false].all (fun b => chk (calib [calRun 0 2 0 false] (put F.CAL_STAT_REF_BUSY (if b then 1 else 0))) fun s =>
      s.dev.calAt 0 = some (calRun 0 2 0 false) ∧ s.dev.mayBorrow 0 = true ∧ s.dev.on F.CAL_STAT_REF_BUSY = b ∧ s.dev.mayBorrow 32 = false) ∧
    [true, false].all (fun b => chk (able id (put F.CAL_CTL_STARTUP_EN (if b then 1 else 0))) fun s => s.dev.on F.CAL_CTL_STARTUP_EN = b ∧
      (s.dev.pav 0).state = .active ∧ s.dev.pwr.boot = .running ∧ s.dev.synActive = true ∧ s.dev.fld F.PAV_VDRV_NOM 0 ≠ 0 ∧
      bitAt (s.dev.fld F.CAL_STAT_STARTUP_DONE) 0 = false ∧ bitAt (s.dev.fld F.CAL_STAT_STARTUP_RUN) 0 = false) ∧
    [{ a := .active }, { b := .standby }, { runs := [(.cold, false)] }].all (fun (y : Syn) =>
      chk (st fun d => runs (dsc 0x3FF 0x28) id { d with syn := y }) fun s => s.dev.running 0x3FF 0x28 = some (dsc 0x3FF 0x28) ∧
        s.dev.syn.waiters = [] ∧ (s.dev.syn.cal.isSome ∨ s.dev.syn.standby = some true ∨ s.dev.syn.standby = none)) := by decide +kernel

/-- A valid record of set 1 of channel 0, at 2.5 °C, of generation 1. -/
def set1 : List Byte := recBytes 1 1 0 1 10 0 (List.replicate 20 0)
/-- The results of channel 0. -/
def found : CalFacts := { chans := [{ full := 1000, power := 81000, rls := List.replicate 15 40, evm := [((103, 0), (100, 0))] }] }

theorem witness_CalibrationResults :
    chk (st id) (fun s => s.dev.calAt 0 = none) ∧
    chk (calib [calRun 0 0 0 false]) (fun s => s.dev.calAt 0 = some (calRun 0 0 0 false)) ∧
    [0, 1].all (fun st => chk { calib [calRun 0 0 0 true [0] st] (put F.PAV_VDRV_MEAS 136) with nv := { calRec := [(recKey 1 0 1, (set1, []))] } } fun s =>
      s.dev.calAt 0 = some (calRun 0 0 0 true [0] st) ∧ [0].any s.dev.inProgress = false ∧ s.dev.enLock 0 = true ∧
      s.dev.calRaised (calRun 0 0 0 true [0] st) 0 = true ∧ 30 ^ 2 * 100 ^ 2 = 10 ^ 6 * 3 ^ 2 ∧
      0 < 100 * s.dev.fld F.PAV_VDRV_MEAS (pavOf 0) ^ 2 ∧
      1000 * 81 * s.dev.fld F.PAV_VDRV_NOM (pavOf 0) ^ 2 ≤ 4095 * (100 * s.dev.fld F.PAV_VDRV_MEAS (pavOf 0) ^ 2) ∧
      s.nv.nextGen (recKey 1 0 0) < 2 ^ 32 - 1 ∧ s.nv.record (recKey 1 0 1) = some set1 ∧
      (toInt 10 (leAt set1 12 2) - s.dev.fldI F.PWR_TEMP_DIE).natAbs ≤ 12) ∧
    [100, 0].all (fun l => chk (calib [calRun 0 0 0 true [0] 1] fun d => put F.PAV_VDRV_MEAS (d.fld F.PAV_VDRV_NOM 0) (put F.CH_PWR_LIM_MW 130 (put F.CAL_LIMIT_EYE l d))) fun s =>
      (match exec (.calProcedureEnd 0 found) s with
        | .next t => t.dev.cupWithin 0 == (l == 0)
        | _ => false)) ∧
    chk (calib [calRun 0 2 0 true]) (fun s => s.dev.calAt 0 = some (calRun 0 2 0 true) ∧ s.dev.calOf 0 = some (calRun 0 2 0 true) ∧ s.dev.calRaised (calRun 0 2 0 true) 0 = true ∧
      s.dev.refBad 0 (toInt 32 (leAt (calQ 0 2).d.param 4 4)) {} = true) := by
  decide +kernel

theorem witness_CalibrationUpkeep :
    chk { st (put F.PWR_TEMP_DIE 10) with nv := { calRec := [(recKey 1 0 1, (set1, [])), (recKey 1 0 2, ([], recBytes 1 2 0 1 22 0 (List.replicate 20 1)))] } }
      (fun s => s.nv.sets 1 = [] ∧ s.nv.sets 0 = [(1, 10, setVals set1), (2, 22, setVals (recBytes 1 2 0 1 22 0 (List.replicate 20 1)))] ∧
        s.dev.fldI F.PWR_TEMP_DIE = 10 ∧ tblGet s.dev.cal.resid 0 [] = []) ∧
    chk (upField fun d => (put F.CH_CAL_DRIP_PHASE_LEFT 1 d).setFld F.CH_CAL_DRIP_GAIN_LEFT 0 0 255) (fun s => (s.dev.ch 0).fieldOf.isSome ∧
      s.dev.dripHeld 0 = false ∧ s.dev.fldI F.CH_CAL_DRIP_PHASE_LEFT 0 ≠ 0 ∧ s.dev.fldI F.CH_CAL_DRIP_GAIN_LEFT 0 ≠ 0 ∧
      tblFind s.dev.cal.dripPh 0 = none ∧ tblFind s.dev.cal.dripGn 0 = none) ∧
    [0, 1356, 2387].all (fun n => chk (upField fun d => (put F.CH_CAL_DRIP_PHASE_LEFT 1 d).setFld F.CH_CAL_DRIP_GAIN_LEFT 0 0 255 |> fun d =>
      { d with time := { d.time with tc := n }, cal := { d.cal with dripPh := [(0, 0)], dripGn := [(0, 0)] } }) fun s => s.dev.tc = n) ∧
    [({ op := 7 } : FlashOp), { op := 8 }].all (fun f => chk (st fun d => { d with flash := { run := some f } }) fun s =>
      s.dev.flash.run = some f ∧ 7 ≤ f.op ∧ s.dev.flash.wait = [] ∧ s.nv.mirrorOk [] = false ∧
      s.dev.on F.CAL_MIRROR_CTL_BUSY = false ∧ s.dev.flsProtected f = false) ∧
    chk (st (put F.CAL_MIRROR_CTL_BUSY 1)) (fun s => s.dev.on F.CAL_MIRROR_CTL_BUSY = true) := by decide +kernel


/-! ### Faults -/

theorem witness_FaultDetections :
    chk (upField) (fun s => (monKinds 0x0001).contains 3 = true ∧ s.dev.detClass 0x0001 3 ≤ 1 ∧ (monKinds 0xFFFF).contains 0 = false ∧
      (monKinds 0x0010).contains 3 = true ∧ s.dev.detClass 0x0010 3 = 3 ∧ (monKinds 0x0011).contains 0 = true ∧ s.dev.detClass 0x0011 0 = 2 ∧
      (monKinds 0x0002).contains 2 = true ∧ (monKinds 0x0007).contains 2 = true ∧ s.dev.detClass 0x0007 2 = 2 ∧ (monKinds 0x0031).contains 1 = true ∧
      0 < kindCount 0 ∧ (s.dev.ch 0).txn = some { admitted with phase := .up } ∧ 0 ∈ scopeChans 0 0 ∧ s.dev.pwr.safe = false ∧
      [0x0001, 0x0002, 0x0007, 0x0010, 0x0011].all (fun c => s.dev.detHolds c 0) = true ∧ s.dev.detHolds 0x0022 10 = false ∧
      s.dev.lastStays { code := 0x0001 } = false) ∧
    chk (st fun d => (put F.FLT_LAST_CLASS 3 { d with flt := { d.flt with lastAt := some 0 } })) (fun s =>
      s.dev.lastStays { code := 0x0001 } = true) := by
  decide +kernel

theorem witness_FaultUpkeep :
    [true, false].all (fun b => chk (st fun d => late (100 * tcMs) ((d.setOn F.FLT_SCRUB_EN 0 0 b).setOn F.FLT_STEST_EN 0 0 b)) fun s =>
      s.dev.flt.scrubAt + 100 * tcMs ≤ s.dev.tc ∧ tblFind s.dev.flt.tests (testKey 0x0003 0 191) = none ∧
      s.dev.on F.FLT_SCRUB_EN = b ∧ s.dev.on F.FLT_STEST_EN = b) ∧
    monTested 0x0003 = true ∧ (monKinds 0x0003).contains 0 = true ∧ 191 < kindCount 0 ∧
    chk (st fun d => d.modPav 5 fun p => { p with reload := some 0 }) (fun s => (s.dev.pav 5).reload.isSome ∧ (s.dev.pav 4).reload = none) ∧
    chk (st id) (fun s => s.nv.life = 1 ∧ (monKinds (bits 0x300001 0 16)).contains (bits 0x300001 20 2) = true ∧
      bits 0x300001 24 8 < kindCount (bits 0x300001 20 2) ∧ s.dev.detClass (bits 0x300001 0 16) (bits 0x300001 20 2) ≤ 1) ∧
    chk { st id with nv := { life := 2 } } (fun s => s.nv.life ≠ 1 ∧ s.nv.life ≠ 4) := by decide +kernel

/-! ### Supplies, resets, boot and power -/

theorem witness_SupplyDips :
    chk (upField) (fun s => 7 * 10 < s.dev.fld F.PAV_VDRV_NOM 0 * 9 ∧ s.dev.fld F.PAV_VDRV_NOM 0 * 9 ≤ 8 * 10 ∧ (s.dev.pav 0).dip = false ∧ 0 ∈ pavChans 0 ∧
      (s.dev.ch 0).txn = some { admitted with phase := .up }) ∧
    chk (withTxn admitted) (fun s => (s.dev.ch 0).txn = some admitted ∧ admitted.phase = .admitted) ∧
    chk (able id fun d => late (usTc 200) (d.modPav 0 fun p => { p with dip := true, okAt := some 0 })) (fun s => (s.dev.pav 0).dip = true ∧
      (s.dev.pav 0).okAt = some 0 ∧ 0 + usTc 200 ≤ s.dev.tc ∧
      s.dev.fld F.PAV_VDRV_NOM 0 * 92 < 255 * 100 ∧ 7 * 100 ≤ s.dev.fld F.PAV_VDRV_NOM 0 * 92) := by decide +kernel

theorem witness_CoreAndTemperature :
    chk (st id) (fun s => -512 ≤ (-512 : Int) ∧ 4 * (s.dev.fld F.PWR_TEMP_WARN : Int) ≤ max (-512) 511 ∧
      max (-512) 0 ≤ 4 * (s.dev.fld F.PWR_TEMP_WARN : Int) - 12 ∧ 4 * (s.dev.fld F.FLT_TEMP_CUT : Int) ≤ max 511 0 ∧
      max 0 0 < 4 * (s.dev.fld F.FLT_TEMP_CUT : Int) ∧ -60 < (-59 : Int) ∧ (-60 : Int) ≤ -60) := by decide +kernel

theorem witness_Resets :
    [true, false].all (fun b => chk (st fun d => d.setOn F.LDG_RST_CTL_PERST_SCOPE 0 0 b) fun s => s.dev.on F.LDG_RST_CTL_PERST_SCOPE = b) ∧
    chk (upField) (fun s => (s.dev.ch 0).txn = some { admitted with phase := .up } ∧ admitted.work ≠ .pilot ∧ admitted.work ≠ .cal) ∧
    chk (withTxn exch) (fun s => (s.dev.ch 0).txn = some exch ∧ exch.phase = .waiting) := by decide +kernel

/-- A device in reset by power-on, with a change of its persistent memory. -/
def off (n : NonVol → NonVol) : State := { State.reset with nv := n {} }
/-- A device that loads the sections of a manifest. -/
def loads (m : List Byte) : State :=
  { dev := put F.SEC_BOOT_STATE 1 { pwr := { boot := .loading }, sec := { manifest := m } } }
/-- A manifest of no section, and one of a code section at 0x1000, of one byte, with its digest. -/
def manif (e : List Byte) : List Byte := List.replicate 1864 0 ++ e ++ (List.replicate (256 - e.length) 0xFF) ++ List.replicate 1280 0
/-- The entry of a code section of one byte. -/
def codeEntry : List Byte := [0, 0, 0, 0, 0, 0x10, 0, 0, 1, 0, 0, 0, 0, 0, 0, 0] ++
  [184, 10, 226, 77, 158, 177, 83, 118, 159, 82, 85, 221, 9, 172, 55, 35, 73, 170, 37, 113, 174, 105, 84, 63, 166, 167, 168, 55, 83, 45, 6, 242] ++ List.replicate 16 0

theorem witness_Boot :
    chk (off id) (fun s => s.dev.pwr.held.filter (· != 0) = [] ∧ s.dev.pwr.held.filter (· != 1) ≠ [] ∧ s.dev.pwr.boot = .held ∧ s.nv.trans = none ∧
      s.nv.manifestCheck none = 10 ∧ s.nv.manifestCheck (some [1]) = 1) ∧
    chk (off fun n => { n with trans := some 4, reg := none }) (fun s => s.nv.trans = some 4 ∧ (s.nv.transit 4).reg = none) ∧
    [[], [0]].all (fun m => chk { dev := { pwr := { boot := .booting }, sec := { manifest := m } } } fun s =>
      s.dev.pwr.boot = .booting ∧ s.dev.syn.refOk = true ∧ (s.dev.sec.manifest = [] ↔ m = [])) ∧
    chk (loads (manif codeEntry)) (fun s => s.dev.pwr.boot = .loading ∧ s.dev.fld F.SEC_BOOT_STATE = 1 ∧
      secFail s.dev.sec.manifest [] = some (0, 10) ∧ secFail s.dev.sec.manifest [some [8]] = some (0, 11) ∧
      secFail s.dev.sec.manifest [some [7]] = none ∧ (List.range 4).all (fun i => byteAt (secEntry s.dev.sec.manifest i) 0 != 2)) := by decide +kernel

/-- A manifest that passes every check but its signature's: its root is a live vendor or owner root that the boot accepts. -/
theorem witness_Boot_signed :
    ∀ m, m = padTo 3400 ([0x41, 0x5A, 0x31, 0x4D, 1, 0, 1, 0, 1] ++ List.replicate 7 0 ++ [0, 10] ++ List.replicate 1846 0 ++ codeEntry ++
        List.replicate 192 0xFF) →
      chk (lifeOf 2 []) (fun s => leAt m 0 4 = 0x4D315A41 ∧ leAt m 4 2 = 1 ∧ (bootSigners s.nv.life).contains (byteAt m 6) ∧
        s.nv.rootLive (rootCode (byteAt m 6) (byteAt m 7)) ∧ s.nv.minVer ≤ leAt m 8 4) := by
  intro m h; subst h; decide +kernel

/-- Pavilion 0 with a change. -/
def pavil (p : Pav → Pav) (f : Dev → Dev := id) : State := st fun d => f (d.modPav 0 p)

/-- A sleeping device with a change. -/
def asleep (f : Dev → Dev) : State := { dev := f { pwr := { boot := .sleeping } } }

theorem witness_PowerStates :
    [0, 1, 2, 3].all (fun v => (List.range 4).contains (bits v 0 2)) ∧
    chk (pavil (fun p => { p with state := .active, temp := true }) (late (60001 * tcMs))) (fun s => (s.dev.pav 0).state = .active ∧ (s.dev.pav 0).temp = true ∧
      (s.dev.pav 0).stirAt + s.dev.fld F.PWR_PAV_IDLE 0 0 * tcMs ≤ s.dev.tc ∧
      (s.dev.pav 0).change = none ∧ s.dev.pavQuiet 0 = true ∧ s.dev.headNeedsAir 0 = false ∧
      [1, 2, 3, 4, 5].all (fun p => (s.dev.pav p).state != .active && (s.dev.pav p).change.isNone)) ∧
    [true, false].all (fun b => chk (pavil (fun p => { p with change := some { dest := .active } }) fun d =>
        late (10 * tcMs) { d with syn := { a := if b then .active else .off } }) fun s =>
      (s.dev.pav 0).change = some { dest := .active } ∧ s.dev.changeAt 0 { dest := .active } ≤ s.dev.tc ∧ s.dev.synActive = b) ∧
    chk (pavil (fun p => { p with change := some { dest := .watch }, state := .active }) (late (10 * tcMs))) (fun s =>
      s.dev.changeAt 0 { dest := .watch } ≤ s.dev.tc ∧ s.dev.pwr.boot = .running ∧ s.dev.syn.takeover = false ∧
      (s.dev.pav 0).change = some { dest := .watch } ∧ s.dev.pavQuiet 0 = true) ∧
    chk (pavil (fun p => { p with state := .watch, wakeDet := true }) fun d => d.setFld F.PWR_PAV_REQ 0 0 1) (fun s =>
      (s.dev.pav 0).state ≠ .active ∧ s.dev.pavReq 0 ≠ .active ∧ (s.dev.pav 0).change = none ∧ (s.dev.pav 0).wakeDet = true) ∧
    chk (st fun d => { d with pwr := { d.pwr with sleepAsk := true } }) (fun s => s.dev.maySleep = true) ∧ chk (st id) (fun s => s.dev.maySleep = false) ∧
    [true, false].all (fun b => chk (asleep fun d => ((d.setOn F.LDG_WAKE_TIMER_EN 0 0 b).setOn F.LDG_EH_WAKE_EN 0 0 b).setFld F.LDG_WAKE_TIMER_SEC 0 0 (b2n b))
      fun s => s.dev.pwr.boot = .sleeping ∧ s.dev.on F.LDG_WAKE_TIMER_EN = b ∧ s.dev.on F.LDG_EH_WAKE_EN = b ∧
        s.dev.fld F.LDG_WAKE_TIMER_SEC = b2n b) := by decide +kernel

/-! ### The Kiosk port and the flash port -/

theorem witness_KioskReads :
    chk (st id) (fun s => s.dev.kskUp = true ∧ s.dev.ksk.busyTo ≤ s.dev.tc ∧ 64 - 32 - 0 = 32 ∧ (0x0FFFFC#24).toNat % 4 = 0 ∧ (0x0FFFFC#24).toNat < kskSpace ∧
      8 * (kskSpace - (0x0FFFFC#24).toNat) = 32 ∧ 8 * (kskSpace - (0x100000#24).toNat) < 8 ∧ (0x000001#24).toNat % 4 ≠ 0 ∧
      ¬ (255 : Nat) ∈ [0x03, 0x0B, 0x0C, 0x02, 0x5A, 0x05] ∧ s.dev.ksk.lastErr ∈ [0, 2, 4, 8]) ∧
    chk State.reset (fun s => s.dev.kskUp = false) := by decide +kernel

theorem witness_KioskWrites :
    [true, false].all (fun b => chk (st fun d => d.setOn F.KSK_CTL_WRITE_EN 0 0 b) fun s => s.dev.kskUp = true ∧
      s.dev.on F.KSK_CTL_WRITE_EN = b ∧ s.dev.ksk.busyTo ≤ s.dev.tc) ∧
    chk (st id) (fun s => (0x5124#24).toNat = 0x5124 ∧ 64 - 32 = 32 ∧ 320 - 32 = 288 ∧ byteAt [1, 2, 3, 4] 0 ≠ 0 ∧ byteAt [1, 2, 3, 4] 3 ≠ 0 ∧
      8 * (kskSpace - 0x0FFFFC) < 64 ∧ s.dev.pwr.gateDown = false ∧ s.nv.needsAuth 0x3C = false ∧ regAt 0x5000 ≠ none ∧
      regAt (0x40070 + 0x400 * 191) = some (.CH_PWR_LIM, 191, 0) ∧ regAt (0x0FFFFC#24).toNat = none ∧ s.nv.life = 1 ∧ s.nv.regLock = false ∧
      leAt [3, 0, 0, 0, 255, 255, 255, 255] 4 4 = 0xFFFFFFFF ∧ bits (leAt [3, 0, 0, 0, 255, 255, 255, 255] 0 4) 0 10 = 3) ∧
    chk (st fun d => { d with pwr := { d.pwr with gateDown := true } }) (fun s => s.dev.pwr.gateDown = true) ∧
    chk { st id with nv := { life := 3 } } (fun s => s.nv.needsAuth 0x3C = true ∧ s.nv.key (byteAt ([] : List Byte) 8) = none) := by
  decide +kernel

/-- A write word of FLS_CTL for chip 0 and 256 bytes. -/
def flsV : Word := 0x01000000
/-- Operations on chip 0 and chip 1. -/
def flsOp (op addr : Nat) (cs : Nat := 0) : FlashOp := { op := op, cs := cs, addr := addr, len := 256 }
/-- A flash port that runs an operation. -/
def fls (f : Option FlashOp) (g : Dev → Dev := id) : State := st fun d => g { d with flash := { d.flash with run := f } }

theorem witness_FlashOperations :
    chk (fls none) (fun s => bits flsV.toNat 8 2 = 0 ∧ bits flsV.toNat 16 9 = 256 ∧ s.dev.on F.FLS_STAT_BUSY = false ∧
      s.dev.on F.FLS_CS_CFG_PRESENT 0 0 = true ∧ s.dev.on F.FLS_CS_CFG_PRESENT 0 1 = false ∧
      [(1, 0), (2, 0x100), (3, 0x1000), (4, 0x10000), (6, 0)].all (fun (x : Nat × Nat) =>
        s.dev.flsRefused (flsOp x.1 x.2) == false && s.dev.flsProtected (flsOp x.1 x.2) == false) = true ∧
      s.dev.flsRefused (flsOp 5 0) = false ∧ s.dev.flsProtected (flsOp 5 0) = true ∧ 0x101 / 256 ≠ (0x101 + 256 - 1) / 256) ∧
    chk (fls none (put F.FLS_STAT_BUSY 1)) (fun s => s.dev.on F.FLS_STAT_BUSY = true) ∧
    chk (fls none fun d => d.setOn F.FLS_CS_CFG_PRESENT 0 1 true) (fun s => s.dev.flsRefused (flsOp 5 0 1) = false ∧
      s.dev.flsProtected (flsOp 5 0 1) = false) ∧
    [true, false].all (fun b => chk (fls (some (flsOp 2 0)) fun d => d.setOn F.FLS_CS_CFG_SUSPEND 0 0 b) fun s =>
      s.dev.flash.run = some (flsOp 2 0) ∧ s.dev.flash.wait = [] ∧ s.dev.on F.FLS_CS_CFG_SUSPEND 0 0 = b) ∧
    chk (fls (some (flsOp 1 0))) (fun s => s.dev.flash.run = some (flsOp 1 0)) ∧
    chk (fls none fun d => { put F.SEC_BOOT_STATE 2 d with sec := { manifest := manif codeEntry } }) (fun s =>
      [0, 0x1000].any (fun a => s.dev.flsProtected { op := 2, cs := s.dev.fld F.FLS_XIP_CS, addr := a, len := 1, data := [5], xip := true }) = true ∧
      s.dev.flsProtected { op := 2, cs := s.dev.fld F.FLS_XIP_CS, addr := 0x3FFFFFF, len := 1, data := [5], xip := true } = false) := by
  decide +kernel

/-! ### Timers and counters -/

/-- Timer 15 enabled, with a count, a period, and a change. -/
def tmr (count per : Nat) (x : Timer → Timer) (f : Dev → Dev := id) : State := st fun d =>
  f ((((d.setOn F.TMR_CTL_EN 15 0 true).wr .TMR_COUNT 15 0 count).wr .TMR_PERIOD 15 0 per).modTmr 15 x)

theorem witness_TimerCounts :
    chk (st id) (fun s => s.dev.on F.TMR_CTL_EN 15 = false) ∧
    chk (tmr 5 5 id) (fun s => s.dev.on F.TMR_CTL_EN 15 = true ∧ s.dev.tmrFrozen 15 = false ∧ (s.dev.tmr 15).perHold = false ∧
      s.dev.fld F.TMR_CTL_SRC 15 ≤ 4 ∧ s.dev.rd .TMR_PERIOD 15 ≤ s.dev.rd .TMR_COUNT 15 ∧
      s.dev.fld F.TMR_PRE_INT 15 * 65536 + s.dev.fld F.TMR_PRE_FRAC 15 ≤ (s.dev.tmr 15).acc + 65536 ∧ s.dev.rd .TMR_CMP 15 ≠ 0) ∧
    chk (tmr 4 5 id fun d => d.wr .TMR_CMP 15 0 5) (fun s => ¬ s.dev.rd .TMR_PERIOD 15 ≤ s.dev.rd .TMR_COUNT 15 ∧
      s.dev.rd .TMR_COUNT 15 + 1 = s.dev.rd .TMR_CMP 15) ∧
    chk (tmr 4 5 id fun d => d.setFld F.TMR_PRE_INT 15 0 2) (fun s => (s.dev.tmr 15).acc + 65536 <
      s.dev.fld F.TMR_PRE_INT 15 * 65536 + s.dev.fld F.TMR_PRE_FRAC 15) ∧
    chk (tmr 4 5 id fun d => d.setFld F.TMR_CTL_SRC 15 0 9) (fun s => 4 < s.dev.fld F.TMR_CTL_SRC 15) ∧
    bitAt 0x01000000 24 = true ∧ bitAt 0xFEFFFFFF 24 = false ∧
    [true, false].all (fun b => chk (st fun d => d.setOn F.TMR_CTL_PRELOAD 15 0 b) fun s => s.dev.on F.TMR_CTL_PRELOAD 15 = b) := by decide +kernel

theorem witness_CapturesAndCounters :
    chk (st id) (fun s => s.dev.fld F.TMR_CTL_CAP_SRC 15 = 0 ∧ s.dev.on F.TMR_STAT_CAP_NEW 15 = false ∧ s.dev.fld F.TMR_SC_SEL_SRC 0 7 ≠ 6) ∧
    chk (st fun d => (d.setFld F.TMR_CTL_CAP_SRC 15 0 4).setOn F.TMR_CTL_CAP_IE 15 0 true) (fun s => s.dev.fld F.TMR_CTL_CAP_SRC 15 = 3 + 1 ∧
      s.dev.on F.TMR_CTL_CAP_IE 15 = true ∧
      [0, 1, 2].all (fun e => edgeIs e true || edgeIs e false) = true ∧ edgeIs (s.dev.fld F.TMR_CTL_CAP_EDGE 15) true = true) ∧
    chk (tmr 4 5 id fun d => d.setFld F.TMR_CTL_SRC 15 0 8) (fun s => s.dev.fld F.TMR_CTL_SRC 15 = 3 + 5 ∧
      edgeIs (s.dev.fld F.TMR_CTL_EDGE 15) true = true ∧ s.dev.on F.TMR_CTL_EN 15 = true ∧ s.dev.tmrFrozen 15 = false ∧
      s.dev.rd .TMR_PRE 15 = 65536 ∧ (s.dev.tmr 15).acc = 0 ∧ (s.dev.tmr 15).perHold = false ∧
      s.dev.rd .TMR_COUNT 15 < s.dev.rd .TMR_PERIOD 15) := by decide +kernel

/-! ### The Promenade -/

/-- Both ports enabled and up, with a change. -/
def prom (f : Dev → Dev := id) : State := st fun d =>
  f (put F.PRM_CTL_UP_EN 1 (put F.PRM_CTL_DN_EN 1 (put F.PRM_STAT_UP_LINK 1 (put F.PRM_STAT_DN_LINK 1 d))))

/-- The bits after the sync word of a frame sent under the counter `k`, with its type, its byte 1 and the bytes that follow. -/
def frameOf (k ty one : Nat) (rest : List Byte := []) : List Bool := (prmWire k (padTo 32 (bytes [ty, one] ++ rest))).drop 32

/-- The frame carries a message of the type to the port, and its payload meets a condition. -/
def brings (up : Bool) (s : State) (w : List Bool) (ty : Nat) (p : List Byte → Bool := fun _ => true) : Bool :=
  s.dev.prmEn up && s.dev.laneUp up && (prmPayload (s.dev.prt up).seed w).any fun pay => byteAt pay 0 == ty && p pay

/-- What a frame brings, it carries. -/
theorem brings_carries {up : Bool} {s : State} {w : List Bool} {ty : Nat} {p : List Byte → Bool} (h : brings up s w ty p = true) :
    ∃ pay, Carries up s w ty pay ∧ p pay = true := by
  simp only [brings, Bool.and_eq_true, Option.any_eq_true, beq_iff_eq] at h
  obtain ⟨⟨e, l⟩, pay, hp, ht, hq⟩ := h
  exact ⟨pay, ⟨e, l, hp, ht⟩, hq⟩

theorem witness_PromenadeLanes :
    chk (prom) (fun s => s.dev.prmEn true = true ∧ s.dev.prmEn false = true ∧ s.dev.laneUp true = true ∧ s.dev.laneUp false = true ∧
      (s.dev.prt true).due = [] ∧ (s.dev.prt false).sent % 1000 = 0 ∧ s.dev.seamOn true = false ∧ (s.dev.prt true).crcRun ≠ 3 ∧
      (s.dev.prt true).lock = false ∧ s.dev.prom.posSet = false ∧
      (List.finRange 16).all (fun k => s.dev.fld F.TMR_CTL_CAP_SRC k ≠ 6 ∧ s.dev.fld F.TMR_CTL_SRC k ≠ 9) = true) ∧
    chk (prom fun d => (late 112 d).modPrt true fun p => { p with sent := 500, crcRun := 3, due := [(8, [])] }) (fun s =>
      (s.dev.prt true).sent % 1000 = 500 ∧ (s.dev.prt true).sent % 250 = 0 ∧ (s.dev.prt true).crcRun = 3 ∧ (8, []) ∈ (s.dev.prt true).due ∧
      prmPayload (s.dev.prt true).seed [] = none ∧ (s.dev.prt true).rxAt + 112 ≤ s.dev.tc) ∧
    chk (prom fun d => d.modPrt true fun p => { p with sent := 501 }) (fun s => (s.dev.prt true).sent % 250 ≠ 0) ∧
    chk (st (put F.PRM_CTL_UP_EN 0)) (fun s => s.dev.prmEn true = false ∧ s.dev.laneUp true = false ∧ s.dev.prom.posSet = false) ∧
    chk (st (late (5 * tcMs))) (fun s => s.dev.prmEn true = true ∧ s.dev.laneUp true = false ∧ s.dev.prom.posSet = false ∧
      5 * tcMs ≤ s.dev.tc) ∧
    chk (prom fun d => (d.setOn F.ARB_CM_STAT_SEAM_REMOTE (seamArb true) 0 true).setFld F.TIME_CTL_SOURCE 0 0 2) (fun s =>
      s.dev.on F.ARB_CM_STAT_SEAM_REMOTE (seamArb true) = true ∧ s.dev.fld F.TIME_CTL_SOURCE = 2 ∧ s.dev.on F.PRM_STAT_CHAIN_LONG = false ∧
      s.dev.on F.PRM_HOP_VALID = false ∧ s.dev.locked = false) := by decide +kernel

theorem witness_PromenadeFrames :
    prmAcquire (frameOf 0 0 0) (frameOf 1 0 0) = some 2 ∧ prmAcquire [] [] = none ∧
    chk (prom) (fun s => brings true s (frameOf 0 0 0) 0 ∧ brings true s (frameOf 0 0 128) 0 (fun p => bitAt (byteAt p 1) 7) ∧
      brings true s (frameOf 0 11 14) 11 (fun p => byteAt p 1 % 16 + 1 == 15) ∧
      brings true s (frameOf 0 11 15) 11 (fun p => byteAt p 1 % 16 + 1 == 16) ∧ brings false s (frameOf 0 2 0) 2) ∧
    chk (prom fun d => { d with prom := { d.prom with t1 := some 0 } }) (fun s => s.dev.prom.t1 = some 0 ∧ s.dev.prom.hops = [] ∧
      brings true s (frameOf 0 3 0) 3 (fun p =>
        ((s.dev.now4 4 : Int) - (0 : Nat)) - toInt 64 (leAt p 10 8 + 2 ^ 64 - leAt p 2 8) == 2 * ((2 : Nat) : Int))) ∧
    [0, 2].all (fun k => chk (prom (put F.TIME_CTL_SOURCE k)) fun s => brings true s (frameOf 0 1 128) 1 fun p =>
      (toInt 66 (((s.dev.now4 3 : Int) - 4 * leAt p 2 8 - s.dev.fld F.PRM_HOP_DELAY) % 2 ^ 66).toNat).natAbs ≤ 2 ^ 32) = true := by
  decide +kernel

/-- Chapter 21's example of a hop: four times that give 62.50 ns, of an offset of 40.00 ns. -/
theorem test_hop_example :
    chk (prom fun d => { d with prom := { d.prom with t1 := some 2000000 } }) (fun s =>
      let s : State := { s with dev := s.dev.setTime 501149 }
      match exec (.prmDelayResp (frameOf 0 3 0 (toLe 8 2000090 ++ toLe 8 2004186)) 0) s with
      | .next t => t.dev.prom.hops == [500]
      | _ => false) = true := by decide +kernel

/-- A seam exchange that runs at both ports. -/
def seams (f : Dev → Dev := id) : State := prom fun d =>
  let d := (put F.PRM_CTL_SEAM_EN 1 d).modPrt true fun p => { p with wish := true }
  f (((d.modPrt false fun p => { p with wish := true }).setOn F.ARB_CTL_SEAM_LO_EN 0 0 true).setOn F.ARB_CTL_SEAM_HI_EN 23 0 true)

theorem witness_PromenadeServices :
    chk (seams) (fun s => s.dev.seamOn true = true ∧ s.dev.seamOn false = true ∧ s.dev.prom.upP.lock = false ∧ s.dev.prom.slots = [] ∧
      s.dev.prom.asked = [] ∧ [9, 10, 6, 7].all (fun ty => brings true s (frameOf 0 ty 0) ty && brings false s (frameOf 0 ty 0) ty) = true) ∧
    chk (seams fun d => { d with prom := { d.prom with asked := [{}] } }) (fun s => brings true s (frameOf 0 7 0) 7 fun p =>
      decide (({ up := true, mine := true, coil := byteAt p 10, time := leAt p 2 8 } : SeamSlot) ∈ s.dev.prom.asked)) ∧
    [true, false].all (fun b => chk (seams fun d => { d with prom := { d.prom with slots := [{ mine := b, coil := 191 }] } }) fun s =>
      s.dev.prom.slots = [{ mine := b, coil := 191 }] ∧ s.dev.batchMay 23 [7] = false ∧ 339 * 0 ≤ s.dev.netU) ∧
    chk (prom (put F.PRM_CTL_PHASE_EN 1)) (fun s => s.dev.on F.PRM_CTL_PHASE_EN = true ∧ s.dev.position = 0) ∧
    chk (prom fun d => put F.PRM_STAT_POS 15 (put F.PRM_CTL_PHASE_EN 1 d)) (fun s => s.dev.on F.PRM_CTL_PHASE_EN = true ∧ 1 ≤ s.dev.position ∧
      s.dev.on F.PRM_STAT_CHAIN_LONG = false ∧ s.dev.prom.movedAt = none ∧
      brings true s (frameOf 0 5 0) 5 (fun p => s.dev.phaseErr (leAt p 2 2) 0 == 0 && s.dev.phaseErr (leAt p 2 2) 1 != 0 &&
        decide (1310720000000 * 5 < (s.dev.phaseErr (leAt p 2 2) 32768).natAbs * 360) &&
        toInt 32 (leAt p 4 4) == s.dev.fldI F.SYN_TRIM_STEPS && byteAt p 1 % 16 == 0)) ∧
    chk (prom fun d => (d.setTime 5).modPav 0 fun p => { p with gate := { p.gate with pend := some { follow := true } } }) (fun s =>
      s.dev.pair .PRM_EPOCH_T_L .PRM_EPOCH_T_H < s.dev.now + 1000000 ∧ (s.dev.pav 0).gate.pend = some { follow := true } ∧
      brings true s (frameOf 0 4 0 (toLe 8 100005)) 4 (fun p => decide (s.dev.now + 100000 ≤ leAt p 2 8)) ∧
      brings true s (frameOf 0 4 0) 4 (fun p => decide (leAt p 2 8 < s.dev.now + 100000))) ∧
    chk (prom fun d => d.wr .PRM_EPOCH_T_L 0 0 1000000) (fun s => s.dev.now + 1000000 ≤ s.dev.pair .PRM_EPOCH_T_L .PRM_EPOCH_T_H) ∧
    chk (prom) (fun s => (s.dev.prt true).lock = false ∧
      brings true s (frameOf 0 8 0 (bytes [0, 0, 3, 1, 14])) 8 (fun p => byteAt p 4 == 3 && byteAt p 5 != s.dev.position && byteAt p 6 == 14)) := by
  decide +kernel

/-! ### Registers and the machine -/

/-- The byte offset of a register's first instance. -/
def ofs (r : RegName) : Nat := r.row.base

theorem witness_RegisterAccess :
    regAt ((0xFFFFF#20).toNat / 4 * 4) = none ∧ (0xFFFFF#20).toNat % 4 ≠ 0 ∧ (0x05124#20).toNat % 4 = 0 ∧ regAt (0x05124#20).toNat = some (.FLS_TMO, 0, 0) ∧
    ([(RegName.SYS_LEDGER_HITS_L, RegName.SYS_LEDGER_HITS_H), (.SYS_LEDGER_MISS_L, .SYS_LEDGER_MISS_H), (.TMR_SC_L, .TMR_SC_H),
      (.PRM_EPOCH_T_L, .PRM_EPOCH_T_H), (.FLT_FIRST_T_L, .FLT_FIRST_T_H), (.HIF_RING_BASE_L, .HIF_RING_BASE_H),
      (.PAV_GATE_BASE_L, .PAV_GATE_BASE_H)].all fun (x : RegName × RegName) =>
        regAt (ofs x.1) == some (x.1, 0, 0) && regAt (ofs x.2) == some (x.2, 0, 0)) = true ∧
    chk (st id) (fun s => tblFind (s.dev.shadows true) (regKey .TMR_SC_L 0 0) = none ∧
      regAt (ofs .FLS_TMO) = some (.FLS_TMO, 0, 0) ∧ s.dev.writeDevice s.nv false .FLS_TMO 0 0 7 = none ∧
      s.dev.writeUnit s.nv .FLS_TMO 0 0 7 = none ∧ (fieldRows .FLS_TMO).all (fun f => f.isSealed == false) = true) ∧
    0x480 ≤ (0x480#20).toNat ∧ (0x47C#20).toNat = 16 * 71 + 4 * 3 ∧
    chk (st fun d => { d with host := { d.host with msixEn := true, busMaster := true } } |>.modMsix 71 fun r => { r with pend := true }) (fun s =>
      (s.dev.msix 71).pend = true ∧ s.dev.host.msixEn = true ∧ s.dev.host.busMaster = true) := by decide +kernel

theorem witness_StepRunsFrontCommand :
    chk { st id with pending := [.powerOn, .syncal] } (fun s => s.pending = .powerOn :: [.syncal] ∧ s.dev.pwr.boot = .running ∧
      s.dev.carStep ≠ 0 ∧ s.dev.prom.posSet = false ∧ s.dev.laneUp true = false) ∧
    chk (prom) (fun s => s.dev.laneUp true = true ∧ s.dev.laneUp false = true) ∧
    chk State.reset (fun s => s.pending = [] ∧ s.dev.pwr.boot ≠ .loading ∧ s.dev.pwr.boot ≠ .running) := by decide +kernel

theorem witness_LifeCycleNeverTurnsBack :
    lifeLegal State.reset.nv = true ∧ (∃ t, step State.reset = .next t) ∧
    (∃ t, step { State.reset with pending := [.resetRelease 0 none none] } = .next t) :=
  ⟨by decide +kernel, ⟨_, rfl⟩, ⟨_, rfl⟩⟩

/-! ### The sample path (chapter 04's own figures) -/

theorem test_fine_alpha : fineAlpha 20 = 30931 ∧ fineAlpha 5000 = 124 := by decide

theorem test_mixer_constant :
    ((List.range 4).map fun n => mixer 0 n ([0, 4000, 0, -4000].getD n 0)).foldl Cx.add {} = ⟨8000, 0⟩ ∧
    ((List.range 4).map fun n => mixer 0 n ([4000, 0, -4000, 0].getD n 0)).foldl Cx.add {} = ⟨0, 8000⟩ := by decide +kernel

theorem test_word_sizes :
    chk (st id) (fun s =>
      [1, 2, 3, 4].foldl (s.dev.hbDc 117 true) ⟨4089, 0⟩ == ⟨16 * 4089, 0⟩ &&
      [2, 3, 4].foldl (s.dev.hbDc 117 true) ⟨4089, 0⟩ == ⟨32712, 0⟩ &&
      [2, 3, 4].foldl (s.dev.hbDc 117 true) ⟨8191, 0⟩ == ⟨65528, 0⟩ &&
      [2, 3, 4, 5].foldl (s.dev.hbDc 117 true) ⟨8191, 0⟩ == ⟨65528, 0⟩ &&
      s.dev.hbOut 117 1 true ⟨131072, -131072⟩ == (⟨131071, -131072⟩, true)) := by decide +kernel

theorem test_resampler_step : rsStep (2 ^ 24) = 2 ^ 24 ∧ rsStep (2 ^ 21) = 2 ^ 27 ∧ rsStep 9898063 = 28437380 ∧
    rsPhase (rsPos 0 (2 ^ 24) 5) = 0 := by decide +kernel

theorem test_capture_word :
    chk (st id) (fun s => s.dev.capWord 117 true ⟨-4, 32712⟩ == ([0xFF, 0xFF, 0xF2, 0x1F], false) &&
      s.dev.capWord 117 true ⟨131071, 0⟩ == ([0xFF, 0x7F, 0, 0], true)) := by decide +kernel

theorem test_round_ties : roundQ true 1 2 = 1 ∧ roundQ false 1 2 = 0 ∧ roundQ true (-1) 2 = 0 ∧ roundQ false (-1) 2 = -1 ∧
    roundQ true 3 4 = 1 ∧ roundQ false 3 4 = 1 ∧ roundQ true 1 4 = 0 ∧ roundQ false (-1) 4 = 0 := by decide

theorem test_carrier_phase :
    sampleAcc 5 = 0x40000000 ∧
    chk (st fun d => (d.setFld F.CH_PHASE_OFS_CAL 7 0 1000).setFld F.CH_PHASE_OFS_USER 7 0 30) (fun s =>
      s.dev.carrierPhase 7 (sampleAcc 1) == 262 && s.dev.edgeIndex 7 1000 == 375) := by decide +kernel

/-! ### Ill-formed commands, one for each check -/

theorem illformed_boot :
    (Instr.resetRelease 0 (some []) none).wf = false ∧ (Instr.resetRelease 0 none (some [0])).wf = false ∧
    (Instr.sectionsLoaded []).wf = false ∧ (Instr.linkTraining 5 4 128).wf = false ∧ (Instr.linkTraining 0 4 128).wf = false ∧
    (Instr.linkTraining 4 3 128).wf = false ∧ (Instr.linkTraining 4 4 100).wf = false ∧ (Instr.linkTraining 4 4 512).wf = true := by decide

theorem illformed_carrier :
    (Instr.alignedSwap 51 0).wf = false ∧ (Instr.alignedSwap 50 65536).wf = false ∧ (Instr.emergencyTakeover 18001 0).wf = false ∧
    (Instr.emergencyTakeover 0 65536).wf = false ∧ (Instr.trellisMarginUpdate 128).wf = false ∧ (Instr.trellisMarginUpdate (-129)).wf = false ∧
    (Instr.dieTempConversion 512 0).wf = false ∧ (Instr.dieTempConversion 0 (-513)).wf = false ∧
    (Instr.dieTempConversion (-512) 511).wf = true := by decide

theorem illformed_receive :
    (Instr.sofDetected 0 [{ tap := 8, noise := 1 }] {}).wf = false ∧ (Instr.sofDetected 0 [{ tap := 7, noise := 0 }] {}).wf = false ∧
    (Instr.sofDetected 0 [{ tap := 7, noise := 1 }] {}).wf = true ∧
    (Instr.tagFrameReceived 0 { vecs := [[]] }).wf = false ∧ (Instr.tagFrameReceived 0 { vecs := [List.replicate 12 (0, 0)] }).wf = true ∧
    (Instr.captureStep 0 { wire := { vecs := [[]] } }).wf = false ∧
    (Instr.powerWindowEnd [{ ch := 192 }] []).wf = false ∧ (Instr.pilotProbeEnd 0 [(12, 0, 0)] (0, 0)).wf = false ∧
    (Instr.blvProbeStep 0 []).wf = false ∧ (Instr.blvProbeStep 0 (List.replicate 4 (65536, 0))).wf = false ∧
    (Instr.blvProbeStep 0 (List.replicate 4 (0, 4096))).wf = false := by decide

theorem illformed_targets :
    [Instr.calBorrowStart 0x400, .calProcedureEnd 0x400 {}, .calProcedureEnd 0 { chans := [{ ch := 192 }] },
      .calProcedureEnd 0 { arbs := [{ arb := 24 }] }, .descriptorStart 0x400, .deadlineExpiry 0x400, .eventPost 0x400, .nop 0x400,
      .cancel 0x400 0 0, .tagmemWrite 0x400, .tagmemRead 0x400, .cal 0x400, .descriptorTakeUp 0 [] [] [] true,
      .descriptorTakeUp 0 (List.replicate 64 0) [0] [] true, .ledgerReadDone [0],
      .faultDetection 65536 0 0 .none 0, .faultDetection 0 8 0 .none 0, .selfTest 65536 0 0 true, .selfTest 0 8 0 true].all
        (fun i => !i.wf) = true ∧ (Instr.nop 0x3FF).wf = true := by decide

theorem illformed_ports :
    [Instr.kskReadSlow true 0 7, .kskRead true 0 7, .kskReadFast true 0 7, .kskWrite true 0 64 [], .kskSealedWrite true 0 320 [] true,
      .kskStatus true 7, .kskBadFrame true 0x03 0 8, .flashOpDone 0 (List.replicate 257 0), .xipRead (2 ^ 26) 1, .xipWrite 0 [],
      .xipWrite 255 [0, 0], .xipWrite (2 ^ 26) [0]].all (fun i => !i.wf) = true ∧ (Instr.kskBadFrame true 0x03 0 7).wf = true := by
  decide +kernel

theorem illformed_promenade :
    [Instr.prmFrameSend true 0 0 (some (192, 0)), .prmFault true [], .prmProbe true [], .prmProbeAck true [], .seamProbeSlot true 0 [(12, 0, 0)],
      .prmDelayReq [] 0, .prmDelayResp [] 0, .prmEpoch [], .prmTime [] 0, .prmPhase [] 0 true true, .prmSeamA true [], .prmSeamB true [],
      .prmHello true [] true, .prmIdle true []].all (fun i => !i.wf) = true ∧ (Instr.prmIdle true (List.replicate 288 false)).wf = true := by
  decide +kernel

/-! ### The manual's own examples -/

/-- The nine ASCII bytes of the check values. -/
def digits : List Byte := [0x31, 0x32, 0x33, 0x34, 0x35, 0x36, 0x37, 0x38, 0x39]

/-- Chapter 00 and R159: values over "123456789". -/
theorem test_check_values : crc32c digits = 0xE3069283 ∧ crcA digits = [0x05, 0xBF] ∧ crcB digits = [0x6E, 0x90] ∧
    crcF digits = [0x31, 0xC3] := by decide +kernel

/-- The example of chapter 13: the entry, judged on the time of steps 1 and 3. -/
def pillarEntry : List Byte :=
  List.replicate 16 1 ++ toLe 4 1893456037 ++ toLe 4 0 ++ [0x00, 0x0F, 0x00, 0x80 + 0x1F] ++ toLe 2 360 ++ toLe 2 1320 ++ toLe 2 0xFFF ++
    toLe 2 0x42 ++ List.replicate 28 0

theorem test_ledger_example :
    chk (st fun d => put F.TIME_STAT_LOCK 1 (put F.SYS_LEDGER_TZ_OFS_MIN 60 (put F.SYS_LEDGER_TZ_LEAP_S 37 d))) (fun s =>
      s.dev.decision (some pillarEntry) 9 (1893482137 * 10 ^ 9) = 0 ∧ s.dev.decision (some pillarEntry) 9 (1893536137 * 10 ^ 9) = 1 ∧
      s.dev.decision (some pillarEntry) 7 (1893482137 * 10 ^ 9) = 1 ∧ s.dev.decision none 9 0 = 2) := by decide +kernel

/-- The example of chapter 14: counters of CK2 after HW 1,023 and M 1,024, and after the reset of step 4. -/
theorem test_counter_example :
    (∃ nv d, ({} : Dev).acceptExt { marks := [(2, 1024)] } 2 1025 true true = (none, nv, d) ∧ tblGet nv.marks 2 0 = 2049 ∧ d.markHw nv 2 = 1025) ∧
    (∃ nv d, ({ sec := { hw := [(2, 1023)] } } : Dev).acceptExt { marks := [(2, 1024)] } 2 1024 true true = (none, nv, d) ∧
      tblGet nv.marks 2 0 = 2048 ∧ d.markHw nv 2 = 1024) ∧
    ((({} : Dev).acceptExt { marks := [(2, 2048)] } 2 1701 true true).1 = some .authReplay) :=
  ⟨⟨_, _, rfl, by decide, by decide⟩, ⟨_, _, rfl, by decide, by decide⟩, by decide +kernel⟩

/-- R374: the priority wire follows the request within a fallback period with PRI, unless MODE forces it. -/
theorem test_coex_pri :
    [(0, true), (1, false), (2, true)].all (fun (m : Nat × Bool) => chk (st fun d => put F.SHP_COEX_PRI_MODE m.1 (d.modPav 5 fun p =>
      { p with req := true, gate := { p.gate with mode := .fallback, fbPri := true } })) fun s => s.dev.coexPri == m.2) = true ∧
    chk (st fun d => d.modPav 5 fun p => { p with req := true, gate := { p.gate with mode := .fallback } }) (fun s => !s.dev.coexPri) = true := by
  decide +kernel

/-- A set of CH117 by index, temperature, P_MAX and phase. -/
def set117 (ix temp pmax phase : Nat) : List Byte :=
  recBytes 1 ix 117 1 temp 0 ([0, 0, 0, 0] ++ toLe 2 pmax ++ toLe 2 phase ++ List.replicate 12 0)
/-- CH117 with the two sets of chapter 15's example, at a die temperature, after the engine's update. -/
def after117 (temp : Nat) (p : State → Bool) : Bool :=
  match exec .calTempUpdate { st (put F.PWR_TEMP_DIE temp) with
    nv := { calRec := [(recKey 1 117 0, (set117 0 100 838 10777, [])), (recKey 1 117 1, (set117 1 240 801 11159, []))] } } with
  | .next t => p t
  | _ => false

/-- Chapter 15: P_MAX between the sets is 808.4 mW at 53.0 °C, and that of set 0 below it. -/
theorem test_interpolation_example :
    after117 212 (fun t => t.dev.fld F.CH_FIELD_MAX_PWR 117 == 808) = true ∧ after117 80 (fun t => t.dev.fld F.CH_FIELD_MAX_PWR 117 == 838) = true := by
  decide +kernel

/-- Chapter 18: the example of CH117, CH000's set, VDRV_P3's column, the ends of the grant rows, and the supplies' counts (R608). -/
theorem test_balls :
    portBall 117 .txP = (41, 44) ∧ rowName 41 = "BC" ∧ portBall 117 .tunp = (40, 47) ∧ rowName 40 = "BB" ∧ portBall 0 .txP = (1, 2) ∧
    portBall 0 .tunp = (2, 5) ∧ fenceCol 3 = 35 ∧ rowName (grantBall 0 false).1 = "W" ∧ rowName (grantBall 23 true).1 = "AK" ∧
    rowName (coexBall 0 true).1 = "AL" ∧ rowName (coexBall 5 true).1 = "AU" ∧
    [(Rail.core, 266), (.ana, 76), (.io, 38), (.pcie085, 19), (.pcie18, 9)].all (fun (x : Rail × Nat) =>
      ((List.range 19).map fun r => ((List.range 43).filter fun c => bandRail (17 + r) (5 + c) == x.1).length).sum == x.2) = true := by
  decide +kernel

/-- R614, R616, R617: the pins of a channel with a field up, of one without, and of all in reset. -/
theorem test_pins :
    chk upField (fun s => !s.dev.parked 0 && s.dev.parked 1 && (s.dev.tunerPins 0).isSome && (s.dev.tunerPins 1).isNone &&
      s.dev.harvestOpen) = true ∧
    chk State.reset (fun s => s.dev.parked 0 && !s.dev.grantWave 0 && !s.dev.coexPriPin && !s.dev.coexReqPin 0) = true := by decide +kernel

/-! ### Further witnesses: the other branches of the statements' hypotheses -/

/-- Channel 1 waits for the bucket alone, with an older transaction than channel 0's. -/
def older : State := withTxn { exch with order := 5 } fun d =>
  (d.modPav 0 fun p => { p with rsv := 10 ^ 18 }).modCh 1 fun c => { c with role := .poll, txn := some exch }

/-- A probe of channel 0 admitted at the head of its batch, with its coexistence request up for its lead time. -/
def probeAdm : Txn := { work := .pilot, phase := .admitted, declTc := 64, driven := [{ ch := 0, lvl := 96 }] }
def probeAsked (n : Nat) (l : List Nat) : State := probing fun d =>
  ((late n (d.modPav 0 fun p => { p with req := true })).modArb 0 fun a => { a with pilot := l }).modCh 0 fun c => { c with txn := some probeAdm }

theorem witness_FieldStarts_probe :
    chk older (fun s => s.dev.calOf 0 = none ∧ s.dev.asks 0 { exch with order := 5 } = true ∧
      s.dev.refusal 0 { exch with order := 5 } = none ∧ s.dev.olderWaits 0 { exch with order := 5 } = true) ∧
    chk (withTxn exch fun d => d.modPav 0 fun p => { p with dip := true }) (fun s => s.dev.otherWait 0 exch (s.dev.planDriven 0 exch) = true) ∧
    chk (probeAsked 100000 [0]) (fun s => (s.dev.ch 0).txn = some probeAdm ∧ (s.dev.arb 0).pilot = [0] ∧ s.dev.arbProbes 0 = true ∧
      (s.dev.ch 0).role.probes = true ∧ s.dev.probeHolds 0 probeAdm = true ∧ s.dev.leadLeft 0 = 0) ∧
    chk (probeAsked 100000 [1, 0]) (fun s => (s.dev.ch 0).txn = some probeAdm ∧ (s.dev.arb 0).pilot.head? ≠ some 0) := by
  decide +kernel

/-- A cut probe whose ramp-down is over. -/
def probeCut : State := probing fun d =>
  ((late 64 d).modArb 0 fun a => { a with pilot := [0] }).modCh 0 fun c =>
    { c with txn := some { work := .pilot, phase := .rampDown, finished := true, dueTc := 64 } }

theorem witness_PilotProbes_more :
    chk (probing) (fun s => s.dev.leadLeft 0 ≠ 0 ∧ s.dev.olderWaits 0 { order := s.dev.host.order } = false) ∧
    chk (probing fun d => late 100000 (d.modPav 0 fun p => { p with req := true })) (fun s => s.dev.leadLeft 0 = 0 ∧
      s.dev.arbProbes 0 = true ∧ s.dev.batchMay 0 [0] = true ∧ s.dev.coilFree 0 = true ∧ (s.dev.arb 0).pilot = []) ∧
    chk (probing fun d => (probeUp d).modCh 0 fun c => { c with txn := some { work := .pilot, phase := .up, finished := true } }) (fun s =>
      (s.dev.ch 0).txn.any (fun x => x.work == .pilot && x.phase == .up && x.finished && decide (x.tUp + 64 ≤ s.dev.tc)) = true) ∧
    chk probeCut (fun s => (s.dev.arb 0).pilot = [0] ∧ (s.dev.ch 0).txn.any (fun x =>
      x.work == .pilot && x.phase == .rampDown && x.finished && decide (x.dueTc ≤ s.dev.tc)) = true) := by decide +kernel

theorem witness_LimitAndTuner_more :
    chk upField (fun s => s.dev.coilOn 0 = true ∧ s.dev.coilOn 1 = false) ∧
    chk (sweeping id fun d => d.setOn F.CH_BLV_THR_EXCL 7 0 true) (fun s => s.dev.blvProbes 7 = false) ∧
    chk (sweeping id (late 10000)) (fun s => s.dev.blvProbes 7 = true ∧ s.dev.blvMay 7 = true ∧
      0 + s.dev.leadTc 0 + 96 * 7 ≤ s.dev.tc ∧
      (((s.dev.pav 0).rsv + ((List.range 4).map fun i => s.dev.blvEnergy (32 * 0 + 8 * i + 7)).sum : Nat) : Int) ≤ s.dev.tokensNow 0 ∧
      s.dev.pwr.boot = .running ∧ s.dev.carStep ≠ 0) := by decide +kernel

theorem witness_FramePhases_more :
    chk (withTxn { upAt .receiving with sep := some { reason := 1 } } (late 2000)) (fun s =>
      (s.dev.ch 0).txn = some { upAt .receiving with sep := some { reason := 1 } }) ∧
    chk (withTxn { upAt .sending with frame := some { optEof := true } } (late 2000)) (fun s =>
      (s.dev.ch 0).txn = some { upAt .sending with frame := some { optEof := true } }) ∧
    chk (airAt .winOpen fun d => d.setOn F.CH_RX_AGC_MODE 1 0 true) (fun s => s.dev.follows 1 = false ∧
      s.dev.agc 1 = s.dev.agc 0) ∧
    chk (withTxn { upAt .winOpen with fg := some 0 } fun d =>
      ((d.setFld F.ARB_FG_CTL_MEMBERS 0 0 3).setOn F.ARB_FG_CTL_COMB_EN 0 0 true).setFld F.CH_RX_CTL_FIR_SRC 0 0 2) (fun s => s.dev.follows 1 = true) := by decide +kernel

theorem witness_ProgramImages_more :
    [0, 1].all (fun m => [false, true].all fun o => chk (prog2 (dsc 0x200 0x08 [2] progImage) true fun c =>
        { c with prog := some 2, cycleOpen := o }) fun s => s.dev.boundTo 0 2 = [0] ∧ (s.dev.ch 0).cycleOpen = o ∧
      bitAt m (0 % 32) = (m == 1)) = true ∧
    chk (withTxn hold0 (runs { (dsc 0 0x02) with d := { (dsc 0 0x02).d with session := 7 } })) (fun s => (s.dev.ch 0).dataWait = []) ∧
    chk (prog2 (dsc 0 0x0C [2]) true fun c => { c with txn := some { hold0 with held := some (dsc 0 0x0C [2]) } }) (fun s =>
      hold0.startOf s.dev 0 ≠ hold0.held) ∧
    chk (able (fun c => { c with txn := some { hold0 with held := some (dsc 0x200 0x09 [2]) } }) fun d => d.modPav 0 fun p =>
        { p with runs := [(2, { start := dsc 0x200 0x09 [2] })] }) (fun s =>
      { hold0 with held := some (dsc 0x200 0x09 [2]) }.startOf s.dev 0 = some (dsc 0x200 0x09 [2]) ∧ hold0.dueTc ≤ s.dev.tc) := by
  decide +kernel

theorem witness_Listener_more :
    for32 (List.replicate 32 65535) (fun a => decide (10 * (st id).dev.fld F.CH_LSN_FD_ON 0 ≤ a)) = true ∧
    for32 (List.replicate 31 65535) (fun a => decide (10 * (st id).dev.fld F.CH_LSN_FD_ON 0 ≤ a)) = false ∧
    for32 (List.replicate 32 0) (fun a => decide (a < 10 * (st id).dev.fld F.CH_LSN_FD_OFF 0)) = true ∧
    chk (hears { field := true, staged := some { data := [1] } } fun d => d.modPav 0 fun p => { p with dip := true }) (fun s =>
      (s.dev.ch 0).lsn.staged = some { data := [1] } ∧ (s.dev.pav 0).dip = true) ∧
    chk (hears { field := true, staged := some { data := [1] } } fun d => d.modCh 0 fun c => { c with role := .poll }) (fun s =>
      s.dev.listens 0 = false ∧ (s.dev.pav 0).dip = false) ∧
    chk (hearing .protocol (some 3)) (fun s => (s.dev.ses 3).cidUsed = false ∧ (s.dev.ses 3).cid = 0) ∧
    chk (hears { field := true, state := .protocol, sess := some 3 } (fun d => runs { (dsc 0 0x03) with d := { (dsc 0 0x03).d with session := 3 } } id
        (d.modSes 3 fun x => { x with kind := .listenDep, chan := 0 }))) (fun s =>
      s.dev.genOk { (dsc 0 0x03).d with session := 3 } = true ∧ s.dev.genOk { (dsc 0 0x03).d with session := 3, gen := 1 } = false ∧
      (s.dev.ch 0).lsn.waiting = false ∧ (s.dev.ch 0).lsn.capped = false ∧ (s.dev.ch 0).role = .listen) := by decide +kernel

theorem witness_TagImages_more :
    chk (imgs { pages := 2, staged := [{ desc := dsc 0x3FF 0x22, ofs := 0, data := [1], pages := 1 }] }) (fun s =>
      s.dev.bound 5 = [] ∧ (s.dev.img 5).staged.any (fun (w : Staged) => w.desc.same { dsc 0x3FF 0x22 with ring := 4 }) = false) ∧
    chk (imgs { pages := 1 } fun d => (d.setFld F.CH_LSN_CTL_IMAGE 191 0 5)) (fun s => s.dev.bound 5 = [191] ∧ s.dev.servers 5 = []) ∧
    chk (able id fun d => (runs (dsc 0 0x10 [1]) id d).modCh 0 fun c => { c with borrowed := true, roleQ := [(dsc 0 0x10, .listen)] }) (fun s =>
      (s.dev.ch 0).borrowed = true ∧ s.dev.enLock 0 = true ∧ (s.dev.ch 0).roleQ ≠ []) := by decide +kernel

theorem witness_Gates_more :
    chk (withTxn { admitted with phase := .up, closing := .car 0 }) (fun s => (s.dev.fallLeft 0).any (fun u => s.dev.atHand u false) = true ∧
      (s.dev.fallLeft 1).any (fun u => s.dev.atHand u false) = false) ∧
    [exch, admitted].all (fun x => chk (withTxn x (put F.PAV_COEX_EN 1)) fun s => x.fg = none ∧ x.work = .exchange ∧
      s.dev.refusal 0 { x with phase := .waiting, eRsv := 0 } = none) ∧
    chk (withTxn { admitted with phase := .up } fun d => d.modPav 0 fun p => { p with gntPin := false }) (fun s =>
      s.dev.on F.PAV_COEX_EN 0 = false ∧ (s.dev.pav 0).gntPin = false ∧ bitAt 1 0 = true) ∧
    chk (withTxn exch) (fun s => ∀ n ∈ pavChans 0, ∀ x, (s.dev.ch n).txn = some x → x.phase = .waiting) := by
  refine ⟨by decide +kernel, by decide +kernel, by decide +kernel, ?_⟩
  unfold chk; decide +kernel

/-- Descriptors of channel 0 behind another that runs. -/
def behind (q p : QDesc) (f : Dev → Dev := id) : State :=
  able (fun c => { c with txn := some holding, tq := { q := [q], run := some p } }) f

theorem witness_Rings_more :
    chk (ringed 0 0 1) (fun s => s.dev.mayReq = true ∧ s.dev.host.pcie.power = 0 ∧ s.dev.backlog = []) ∧
    chk (ringed 0 0 1 fun d => { d with host := { d.host with pcie := { d.host.pcie with power := 3 } } }) (fun s => s.dev.mayReq = false ∧
      s.dev.host.busMaster = true) ∧
    chk (ringed 0 0 1) (fun s => s.dev.checkStep { d := Desc.parse (slotOf [0x12, 0, 0xFF, 3, 0, 0, 0xFF, 1]) }
        (slotOf [0x12, 0, 0xFF, 3, 0, 0, 0xFF, 1]) = none ∧ (Desc.parse (slotOf [0x12, 0, 0xFF, 3, 0, 0, 0xFF, 1])).op = 0x12) ∧
    chk (ringed 0 0 1) (fun s => (Desc.parse (slotOf [0, 2, 0xFF, 3, 0, 0, 0xFF, 1])).auth = true ∧
      (0 + 1) % s.dev.ringSize 0 = s.dev.rd .HIF_RING_TAIL 0) ∧
    chk (behind (dsc 0 0x10 [0]) (dsc 0 1)) (fun s => s.dev.mayStart 0 (dsc 0 0x10 [0]) = true ∧ (s.dev.tq 0).run = some (dsc 0 1) ∧
      (dsc 0 0x10 [0]).late s.dev.now = false ∧ s.dev.genOk (dsc 0 0x10 [0]).d (s.dev.ch 0).roleQ.length = true ∧
      roleOf (byteAt (dsc 0 0x10 [0]).d.param 0 % 8) = .parked) ∧
    chk (able (fun c => { c with tq := { q := [dsc 0 1] } }) fun d => d.modCh 0 fun c => { c with role := .follower }) (fun s =>
      s.dev.mayStart 0 (dsc 0 1) = true ∧ s.dev.lendsOnly 0 (dsc 0 1) = true ∧ (s.dev.tq 0).run = none) ∧
    chk (able (fun c => { c with tq := { q := [lateQ 0 1] } }) fun d => d.setTime 1) (fun s =>
      s.dev.mayStart 0 (lateQ 0 1) = true ∧ (lateQ 0 1).late s.dev.now = true ∧ s.dev.genOk (lateQ 0 1).d 0 = true) ∧
    chk (able (fun c => { c with borrowed := true, tq := { q := [lateQ 0 1] } }) fun d => d.setTime 1) (fun s =>
      s.dev.mayStart 0 (lateQ 0 1) = false ∧ (lateQ 0 1).late s.dev.now = true ∧ (s.dev.tq 0).run = none) := by decide +kernel

theorem witness_Capture_more :
    chk (stream { desc := capD, running := true } (late 100)) (fun s => (s.dev.capLast 0 1 + 3) / 4 ≤ s.dev.tc ∧ s.dev.mayReq = true) ∧
    [[], [lookup0]].all (fun w => chk (ledg fun l => { l with waiting := w }) fun s => s.dev.ledger.waiting = w ∧ s.dev.ledger.lookups = []) ∧
    [(0, false), (1023, true)].all (fun (x : Nat × Bool) => chk (ledg fun l => { l with lookups := [{ lookup0 with home := x.1, span := 1 }] })
      fun s => s.dev.ledger.lookups.any (s.dev.ledger.hasRead 1000 24) == x.2) := by decide +kernel

theorem witness_Calibration_more :
    chk (calib [{ calRun 0 0 0 true with begun := 0 }] (late (usTc 2500))) (fun s => s.dev.calAt 0 = some { calRun 0 0 0 true with begun := 0 } ∧
      0 + usTc 2500 ≤ s.dev.tc ∧ 0 + usTc 1500 ≤ s.dev.tc) ∧
    chk (calib [{ calRun 0 0 0 true with fields := [] }]) (fun s => s.dev.calRaised { calRun 0 0 0 true with fields := [] } 0 = false) ∧
    [true, false].all (fun b => chk (fls (some (flsOp 2 0)) fun d => d.setOn F.FLS_CS_CFG_SUSPEND 0 0 b) fun s =>
      s.dev.flash.run = some (flsOp 2 0) ∧ s.dev.flsSuspends (flsOp 2 0) { op := 8, addr := 0x3FF000 } = b) ∧
    chk (fls (some { op := 8 }) fun d => { d with flash := { d.flash with susp := some (flsOp 2 0) } }) (fun s => s.dev.flash.wait = [] ∧
      s.dev.flash.run = some { op := 8 } ∧ s.dev.flash.susp = some (flsOp 2 0)) ∧
    chk (upField) (fun s => s.dev.coilOn 0 = true ∧ s.dev.coilOn 1 = false) := by decide +kernel

theorem witness_Faults_more :
    chk (st fun d => { d with host := { d.host with devQ := { held := [entry0] } } }) (fun s =>
      s.dev.replaces 0x0005 .none = none ∧ s.dev.replaces 0x0005 (.event 0x3FF 0) = some (0x3FF, 0)) ∧
    chk (st fun d => { d with sec := { d.sec with token := some (2, 60), tokenAt := 0 } } |> late (60000 * tcMs)) (fun s =>
      s.dev.sec.token = some (2, 60) ∧ s.dev.sec.tokenAt + 60 * 1000 * tcMs ≤ s.dev.tc) ∧
    chk (probing fun d => d.modCh 0 fun c => { c with txn := some probeAdm, aside := some exch }) (fun s =>
      (s.dev.ch 0).txn = some probeAdm ∧ probeAdm.work = .pilot ∧ probeAdm.phase = .admitted ∧ (s.dev.ch 0).aside = some exch) ∧
    chk (asleep fun d => d.setOn F.LDG_EH_WAKE_EN 0 0 true) (fun s => s.dev.harvestOpen = false ∧ s.dev.pwr.boot = .sleeping) ∧
    chk (upField) (fun s => s.dev.harvestOpen = true) ∧ chk (st id) (fun s => s.dev.harvestOpen = false) := by decide +kernel

/-- A write word of FLS_CTL with its OP bits, for chip 1 and 256 bytes. -/
def flsW : Word := 0x01000100

theorem witness_Ports_more :
    chk (fls none fun d => (d.setOn F.FLS_CS_CFG_PRESENT 0 1 true)) (fun s => [1, 2, 3, 4, 5, 6].all (fun op =>
        (flsOpOf op flsW s).op == op && !s.dev.on F.FLS_STAT_BUSY && !s.dev.flsRefused (flsOpOf op flsW s) &&
          !s.dev.flsProtected (flsOpOf op flsW s)) = true) ∧
    chk (fls none) (fun s => (flsOpOf 5 flsV s).cs = 0 ∧ s.dev.flsProtected (flsOpOf 5 flsV s) = true ∧ s.dev.flsRefused (flsOpOf 5 flsV s) = false ∧
      (flsOpOf 1 flsW s).cs = 1 ∧ s.dev.on F.FLS_CS_CFG_PRESENT 0 1 = false) ∧
    chk (fls (some (flsOp 1 0)) fun d => { d with flash := { d.flash with susp := some (flsOp 3 0) } }) (fun s =>
      s.dev.flash.run = some (flsOp 1 0) ∧ s.dev.flash.susp = some (flsOp 3 0) ∧ s.dev.flash.wait = []) ∧
    chk (fls (some { flsOp 2 0 with at_ := 0 }) (late 13560000)) (fun s => s.dev.flash.wait = [] ∧
      (s.dev.flsLimit 2).all (fun n => decide (0 + n ≤ s.dev.tc)) = true) ∧
    chk (st fun d => d.setOn F.KSK_CTL_WRITE_EN 0 0 true) (fun s =>
      [(0, false, 1), (16, false, 2), (32, true, 2), (8224, false, 6)].all (fun (x : Nat × Bool × Nat) =>
        writeCause x.2.1 0x5124#24 x.1 s == x.2.2) = true ∧ writeCause false 0x5125#24 32 s = 3 ∧ writeCause false 0x5124#24 32 s = 0 ∧
      writeCause true 0x5124#24 288 s = 0 ∧ 32 < 64 ∧ 64 - 32 ≤ 8 * (kskSpace - (0x5124#24).toNat)) ∧
    chk (st fun d => d.setOn F.KSK_CTL_WRITE_EN 0 0 false) (fun s => writeCause false 0x5124#24 32 s = 7) := by decide +kernel

theorem witness_Promenade_more :
    [true, false].all (fun u => chk (seams) fun s => s.dev.magSeam u = u) = true ∧
    chk (seams fun d => put F.PRM_STAT_COHERENT 1 d) (fun s => s.dev.magSeam true = false) ∧
    chk (seams fun d => { d with prom := { d.prom with slots := [{ mine := true, coil := 191 }] } }) (fun s => s.dev.coilFree 191 = false ∨
      s.dev.batchMay 23 [7] = false ∨ s.dev.arbProbes 23 = false) ∧
    (0x3F000#20).toNat = 4096 * 63 ∧ (∀ r : Fin 64, (0x00004#20).toNat ≠ 4096 * r) ∧ (0x20000#20).toNat = 4096 * (32 + 0) ∧
    (0x00478#20).toNat / 4 * 4 = 16 * 71 + 4 * 2 ∧ (0x01008#20).toNat / 4 * 4 = 0x1000 + 4 * 2 := by decide +kernel

theorem witness_PowerStates_cold :
    chk (pavil (fun p => { p with state := .watch, change := some { dest := .active, cold := true } }) (late (10 * tcMs))) (fun s =>
      s.dev.changeAt 0 { dest := .active, cold := true } = usTc (180 + 3200) ∧
      (s.dev.pav 0).change = some { dest := .active, cold := true }) ∧
    chk (pavil (fun p => { p with state := .watch }) fun d => { d with syn := { a := .off, b := .off } }) (fun s =>
      s.dev.coldLeave = true ∧ (s.dev.pav 0).change = none ∧ (s.dev.pav 0).state ≠ .active) := by decide +kernel

theorem witness_FlashOperations_len :
    chk (fls none) (fun s => [1, 2, 3, 4, 5, 6].all (fun op => (flsOpOf op 0 s).len == 0 && s.dev.flsRefused (flsOpOf op 0 s)) = true ∧
      s.dev.on F.FLS_STAT_BUSY = false ∧ s.dev.on F.FLS_CS_CFG_PRESENT 0 0 = true) := by decide +kernel

end Sys2Proof.Tests
end

section
/-! PROOFS. Changes of single fields and their frames, and the carrier's trim. -/

namespace Sys2Proof.Machine

open Sys2Proof.Safety

variable (d : Dev)

/-- A trim outside the locked window (R41). -/
theorem Dev.writeTrim_outside (v : Nat)
    (h : ¬ (d.fldI F.SYN_TRIM_MIN_STEPS ≤ toInt 18 v ∧ toInt 18 v ≤ d.fldI F.SYN_TRIM_MAX_STEPS)) :
    d.writeTrim v = if d.on F.SYN_STAT_TRIM_REFUSED then d else (d.setOn F.SYN_STAT_TRIM_REFUSED 0 0 true).setMisc 4 := by
  simp only [Dev.writeTrim, if_neg h]

/-- A trim that is taken waits for its zero crossing, and STEPS shows it (R40). -/
theorem Dev.writeTrim_inside (v : Nat)
    (hw : d.fldI F.SYN_TRIM_MIN_STEPS ≤ toInt 18 v ∧ toInt 18 v ≤ d.fldI F.SYN_TRIM_MAX_STEPS)
    (hs : -35000 ≤ toInt 18 v ∧ toInt 18 v ≤ 35000) :
    d.writeTrim v = (d.modSyn fun y => { y with trimPend := some (v % 2 ^ 18) }).setFld F.SYN_TRIM_STEPS 0 0 v := by
  simp only [Dev.writeTrim, if_pos hw, if_pos hs]
  rfl

/-- What a refused trim changes. -/
theorem told_trimRefused : Told ([.SYN_STAT] ++ postRegs) d ((d.setOn F.SYN_STAT_TRIM_REFUSED 0 0 true).setMisc 4) :=
  (told_setOn d _ F.SYN_STAT_TRIM_REFUSED 0 0 true (by decide)).trans ((told_setMisc _ 4).mono (by decide))

/-- A one-bit field that is set reads 1. -/
theorem Dev.fld_eq_one_of_on {f : Fld} {i j : Nat} (hw : f.w = 1) (h : d.on f i j = true) : d.fld f i j = 1 := by
  have hlt : d.fld f i j < 2 ^ f.w := bits_lt _ _ _
  have hne : d.fld f i j ≠ 0 := by simpa [Dev.on] using h
  rw [hw] at hlt
  omega

/-- A field of a register of another name stands. -/
theorem Dev.fld_wr_name {r : RegName} {f : Fld} (i j k l v : Nat) (h : r ≠ f.reg) : (d.wr r i j v).fld f k l = d.fld f k l := by
  simp only [Dev.fld, d.rd_wr_name i j k l v h]

/-- A write of one field changes that register alone, at its place. -/
theorem onlyRegs_setFld (s : State) (f : Fld) (i j v : Nat) :
    OnlyRegs [(f.reg, i, j)] s { s with dev := s.dev.setFld f i j v } := by
  refine ⟨rfl, fun r k l h => ?_⟩
  exact s.dev.rd_wr_other _ (h (f.reg, i, j) (List.mem_singleton.2 rfl))

/-- Two changes of the same registers one after the other. -/
theorem onlyRegs_trans {L : List (RegName × Nat × Nat)} {s t u : State} (a : OnlyRegs L s t) (b : OnlyRegs L t u) : OnlyRegs L s u := by
  obtain ⟨hs, hrd⟩ := a
  obtain ⟨ht, hrd'⟩ := b
  refine ⟨?_, fun r i j h => (hrd' r i j h).trans (hrd r i j h)⟩
  exact (congrArg (fun x : State => { x with dev := { x.dev with regs := s.dev.regs } }) ht).trans hs

@[simp] theorem Dev.fireVec_syn (v : Nat) : (d.fireVec v).syn = d.syn := by
  unfold Dev.fireVec; split
  · dsimp only; split <;> rfl
  · rfl

@[simp] theorem Dev.setMisc_syn (b : Nat) : (d.setMisc b).syn = d.syn := by
  unfold Dev.setMisc; split
  · rfl
  · dsimp only; split
    · rw [Dev.fireVec_syn, Dev.wr_syn]
    · rfl

end Sys2Proof.Machine

namespace Sys2Proof.Proofs

open Sys2Proof.Machine Sys2Proof.Safety

theorem does_synTrimWrite_outside (v : Word) (s : State)
    (h : ¬ (s.dev.fldI F.SYN_TRIM_MIN_STEPS ≤ toInt 18 v.toNat ∧ toInt 18 v.toNat ≤ s.dev.fldI F.SYN_TRIM_MAX_STEPS)) :
    Does (.synTrimWrite v) s fun t =>
      t.dev.fld F.SYN_TRIM_STEPS = s.dev.fld F.SYN_TRIM_STEPS ∧ t.dev.fld F.SYN_STAT_TRIM_REFUSED = 1 ∧
      t.dev.syn = s.dev.syn ∧ Says ([.SYN_STAT] ++ postRegs) s t := by
  refine ⟨{ s with dev := s.dev.writeTrim v.toNat }, rfl, ?_⟩
  rw [s.dev.writeTrim_outside _ h]
  split
  · next hon =>
    exact ⟨rfl, s.dev.fld_eq_one_of_on rfl hon, rfl, rfl, rfl, Told.refl _ _⟩
  · have ht := told_trimRefused s.dev
    have hm := told_setMisc (s.dev.setOn F.SYN_STAT_TRIM_REFUSED 0 0 true) 4
    have hon : ((s.dev.setOn F.SYN_STAT_TRIM_REFUSED 0 0 true).setMisc 4).on F.SYN_STAT_TRIM_REFUSED = true := by
      rw [hm.on _ _ _ (by decide)]
      exact s.dev.on_setOn_same _ _ _ _ (by decide) rfl
    exact ⟨ht.fld _ _ _ (by decide), Dev.fld_eq_one_of_on _ rfl hon, Dev.setMisc_syn _ _, rfl, rfl, ht⟩

theorem does_synTrimWrite_inside (v : Word) (s : State)
    (hmin : s.dev.fldI F.SYN_TRIM_MIN_STEPS ≤ toInt 18 v.toNat) (hmax : toInt 18 v.toNat ≤ s.dev.fldI F.SYN_TRIM_MAX_STEPS)
    (hlo : -35000 ≤ toInt 18 v.toNat) (hhi : toInt 18 v.toNat ≤ 35000) :
    Does (.synTrimWrite v) s fun t =>
      t.dev.fld F.SYN_TRIM_STEPS = v.toNat % 2 ^ 18 ∧ t.dev.syn.trimPend = some (v.toNat % 2 ^ 18) ∧
      t.dev.syn.trim = s.dev.syn.trim ∧ Says [.SYN_TRIM] { s with dev := { s.dev with syn := t.dev.syn } } t := by
  refine ⟨{ s with dev := s.dev.writeTrim v.toNat }, rfl, ?_⟩
  rw [s.dev.writeTrim_inside _ ⟨hmin, hmax⟩ ⟨hlo, hhi⟩]
  exact ⟨Dev.fld_setFld_same _ _ _ _ _ (by decide), rfl, rfl, rfl, rfl, told_setFld _ _ _ _ _ _ (List.mem_singleton.2 rfl)⟩

theorem does_trimApply (v : Nat) (s : State) (h : s.dev.syn.trimPend = some v) :
    Does .trimApply s fun t => t = { s with dev := { s.dev with syn := { s.dev.syn with trim := v, trimPend := none } } } := by
  refine ⟨_, rfl, ?_⟩
  simp only [Dev.modSyn, h]

theorem does_phaseOfsUserWrite (ch : Fin 192) (v : Word) (s : State) :
    Does (.phaseOfsUserWrite ch v) s fun t =>
      t.dev.fld F.CH_PHASE_OFS_USER ch = bits v.toNat 16 10 ∧
      t.dev.fld F.CH_PHASE_OFS_CAL ch = s.dev.fld F.CH_PHASE_OFS_CAL ch ∧
      OnlyRegs [(.CH_PHASE_OFS, ch, 0)] s t := by
  refine ⟨_, rfl, ?_, ?_, onlyRegs_setFld s F.CH_PHASE_OFS_USER ch 0 _⟩
  · rw [s.dev.fld_setFld_same _ _ _ _ (by decide)]
    exact Nat.mod_eq_of_lt (bits_lt _ _ _)
  · exact s.dev.fld_setFld_disjoint _ _ _ _ _ rfl (by decide) (by decide)

/-- Settles O3: each write's effect is the taken or the refused branch of `Dev.writeTrim`, a field write, or the pair's own change. -/
theorem carrierTrim : Obligations.CarrierTrim :=
  ⟨does_synTrimWrite_outside, does_synTrimWrite_inside, does_trimApply, does_phaseOfsUserWrite⟩

end Sys2Proof.Proofs
end

section
/-! PROOFS. The clock that runs on to an instant, and the machine's step. -/

namespace Sys2Proof.Machine

variable (d : Dev)

/-- While the carrier counts, a number of periods adds the trimmed step of each to the part of a cycle, and the whole cycles in it to the
carrier count (R40, R719). -/
theorem Dev.ticks_carrier (m : Nat) (h : d.pwr.boot = .loading ∨ d.pwr.boot = .running) :
    (d.ticks m).time.tc = d.time.tc + (d.time.carFrac + m * d.carStep) / 67800000 ∧
    (d.ticks m).time.carFrac = (d.time.carFrac + m * d.carStep) % 67800000 := by
  have hb : ¬ (d.pwr.boot ≠ .loading ∧ d.pwr.boot ≠ .running) := by
    rintro ⟨hl, hr⟩; exact h.elim hl hr
  simp only [Dev.ticks, if_neg hb, and_self]

/-- Before configuration-ready and in SLEEP nothing counts (R719). -/
theorem Dev.ticks_of_stopped (m : Nat) (hl : d.pwr.boot ≠ .loading) (hr : d.pwr.boot ≠ .running) : d.ticks m = d := by
  rw [Dev.ticks, if_pos ⟨hl, hr⟩]

/-- Time that passes changes the record of time alone. -/
theorem Dev.ticks_eq (m : Nat) : d.ticks m = { d with time := (d.ticks m).time } := by
  obtain ⟨x, h⟩ := d.ticks_only m
  rw [h]

theorem Dev.runTo_eq (due : Nat) : d.runTo due = { d with time := (d.runTo due).time } := by
  obtain ⟨x, h⟩ := d.runTo_only due
  rw [h]

/-- While the carrier counts, the clock that runs on to an instant reaches it (log entry 42). -/
theorem Dev.le_runTo (due : Nat) (hb : d.pwr.boot = .loading ∨ d.pwr.boot = .running) (hc : d.carStep ≠ 0) :
    due ≤ (d.runTo due).tc := by
  by_cases hdue : due ≤ d.tc
  · rwa [d.runTo_past due hdue]
  · rw [Dev.runTo, if_neg (not_or.2 ⟨hdue, hc⟩)]
    have htc := (d.ticks_carrier (((due - d.tc) * 67800000 - d.time.carFrac + d.carStep - 1) / d.carStep) hb).1
    have hceil := le_smul_ceilDiv (Nat.pos_of_ne_zero hc) (b := (due - d.tc) * 67800000 - d.time.carFrac)
    rw [Nat.ceilDiv_eq_add_pred_div, smul_eq_mul, Nat.mul_comm d.carStep] at hceil
    unfold Dev.tc at *
    omega

/-- Running on to an instant a second time does nothing more. -/
theorem Dev.runTo_runTo (due : Nat) : (d.runTo due).runTo due = d.runTo due := by
  by_cases hc : d.carStep = 0
  · have h : d.runTo due = d := by rw [Dev.runTo, if_pos (.inr hc)]
    rw [h, h]
  · by_cases hb : d.pwr.boot = .loading ∨ d.pwr.boot = .running
    · exact Dev.runTo_past _ _ (d.le_runTo due hb hc)
    · have h : d.runTo due = d := by
        unfold Dev.runTo; split
        · rfl
        · exact d.ticks_of_stopped _ (fun e => hb (.inl e)) (fun e => hb (.inr e))
      rw [h, h]

@[simp] theorem Dev.runTo_prom (due : Nat) : (d.runTo due).prom = d.prom := by rw [d.runTo_eq]
@[simp] theorem Dev.runTo_prt (due : Nat) (up : Bool) : (d.runTo due).prt up = d.prt up := by rw [d.runTo_eq]; rfl
@[simp] theorem Dev.runTo_laneUp (due : Nat) (up : Bool) : (d.runTo due).laneUp up = d.laneUp up := by rw [d.runTo_eq]; rfl

end Sys2Proof.Machine

namespace Sys2Proof.Proofs

open Sys2Proof.Machine Sys2Proof.Safety

/-- Every command answers a next state, and the commands that wait stand: each meaning is a lift of a change of the volatile state or of
both states. -/
theorem does_pending (c : Instr) (s : State) : Does c s fun t => t.pending = s.pending := by
  cases c <;> exact ⟨_, rfl, rfl⟩

/-- A step with no command waiting (log entry 9). -/
theorem step_of_empty (s : State) (h : s.pending = []) : step s = .next s.idle := by
  unfold step; rw [h]

theorem step_idle (s : State) (h : s.pending = []) :
    ∃ t, step s = .next t ∧ t = { s with dev := { s.dev with time := t.dev.time } } ∧
      (s.dev.pwr.boot = .loading ∨ s.dev.pwr.boot = .running → t.dev.time.tc * 67800000 + t.dev.time.carFrac =
        s.dev.time.tc * 67800000 + s.dev.time.carFrac + s.dev.carStep) ∧
      (s.dev.pwr.boot ≠ .loading → s.dev.pwr.boot ≠ .running → t = s) := by
  refine ⟨_, step_of_empty s h, ?_, fun hb => ?_, fun hl hr => ?_⟩
  · exact congrArg (fun e => { s with dev := e }) (s.dev.ticks_eq 1)
  · obtain ⟨htc, hfrac⟩ := s.dev.ticks_carrier 1 hb
    rw [State.idle, Dev.tick, htc, hfrac]
    omega
  · rw [State.idle, Dev.tick, s.dev.ticks_of_stopped 1 hl hr]

theorem exec_positionTimeout_runTo (s : State) (hset : s.dev.prom.posSet = false) (hlane : s.dev.laneUp true = false) :
    exec .positionTimeout s = exec .positionTimeout { s with dev := s.dev.runTo (5 * tcMs) } := by
  change execPositionTimeout s = execPositionTimeout _
  simp [execPositionTimeout, onDev, hset, hlane, Dev.runTo_runTo]

theorem exec_prmLaneDown_runTo (up : Bool) (s : State) (hlane : s.dev.laneUp up = true) :
    exec (.prmLaneDown up) s = exec (.prmLaneDown up) { s with dev := s.dev.runTo ((s.dev.prt up).rxAt + 112) } := by
  change execPrmLaneDown up s = execPrmLaneDown up _
  simp [execPrmLaneDown, onDev, Dev.cond, hlane, Dev.runTo_runTo]

/-- Settles O58: a step is the front command's meaning by definition, every meaning is a lift that leaves the queue, and the clock's
laws give the idle period and the instants that the device times. -/
theorem stepRunsFrontCommand : Obligations.StepRunsFrontCommand := by
  refine ⟨fun c rest s h => ?_, does_pending, step_idle, ?_, fun d due hb hc => ?_, fun _ _ _ => ⟨rfl, rfl⟩⟩
  · unfold step; rw [h]
  · rintro c due s (⟨rfl, rfl, hset, hlane⟩ | ⟨up, rfl, rfl, hlane⟩)
    · exact exec_positionTimeout_runTo s hset hlane
    · exact exec_prmLaneDown_runTo up s hlane
  · exact ⟨d.le_runTo due (.inr hb) hc, d.runTo_past due, d.runTo_eq due⟩

end Sys2Proof.Proofs
end

section
/-! PROOFS. Network time: what a change of TIME_LOCK, a step and a correction leave of the clock and of TIME_STAT. -/

namespace Sys2Proof.Machine

open Sys2Proof.Safety

variable (d : Dev)

/-! ### TIME_LOCK and the fields beside it -/

theorem kept_gatesUnlock (L : List RegName) : Kept L d ((List.range 6).foldl Dev.gateUnlock d) :=
  Kept.foldl _ fun _ _ => kept_gateUnlock _ _ _

/-- A change of TIME_LOCK leaves every other field of TIME_STAT. -/
theorem Dev.fld_setLock_beside (b : Bool) {f : Fld} (hr : f.reg = .TIME_STAT) (hlo : 1 ≤ f.lo) :
    (d.setLock b).fld f = d.fld f := by
  unfold Dev.setLock; split
  · rfl
  · extract_lets d1 d2
    have hpost : f.reg ∉ postRegs := by rw [hr]; decide
    have hadm : f.reg ∉ admRegs := by rw [hr]; decide
    have h2 : d2.fld f = d.fld f := by
      rw [(told_event d1 _ _ _ _ _).fld f 0 0 hpost]
      exact d.fld_setFld_disjoint F.TIME_STAT_LOCK f 0 0 _ hr.symm (by decide) (.inr hlo)
    rw [(kept_retryAll _).fld f 0 0 hadm]
    split
    · exact h2
    · rw [(kept_gatesUnlock d2 []).fld f 0 0 List.not_mem_nil, h2]

theorem Dev.on_setLock_beside (b : Bool) {f : Fld} (hr : f.reg = .TIME_STAT) (hlo : 1 ≤ f.lo) :
    (d.setLock b).on f = d.on f := by
  rw [Dev.on, d.fld_setLock_beside b hr hlo, Dev.on]

@[simp] theorem Dev.setLock_time (b : Bool) : (d.setLock b).time = d.time := (kept_setLock d b).time

/-! ### A step of network time (R53, R56, R57) -/

@[simp] theorem Dev.setTime_fld (ns : Nat) (f : Fld) (i j : Nat) : (d.setTime ns).fld f i j = d.fld f i j := rfl
@[simp] theorem Dev.setTime_on (ns : Nat) (f : Fld) (i j : Nat) : (d.setTime ns).on f i j = d.on f i j := rfl
@[simp] theorem Dev.setTime_syn (ns : Nat) : (d.setTime ns).syn = d.syn := rfl
@[simp] theorem Dev.setTime_time (ns : Nat) : (d.setTime ns).time = { d.time with net := ns * nsUnit, slewPer := 0 } := rfl

theorem Dev.nowFull_setTime (ns : Nat) : (d.setTime ns).nowFull = ns :=
  Nat.mul_div_cancel ns (by decide)

theorem kept_syn_a {L : List RegName} {d e : Dev} (h : Kept L d e) : e.syn.a = d.syn.a := by rw [h.syn]
theorem kept_syn_b {L : List RegName} {d e : Dev} (h : Kept L d e) : e.syn.b = d.syn.b := by rw [h.syn]

/-- The same step of two devices of which one is kept. -/
theorem kept_setTime_congr {L : List RegName} {d e : Dev} (h : Kept L d e) (ns : Nat) : Kept L (d.setTime ns) (e.setTime ns) :=
  { h with time := by rw [Dev.setTime_time, Dev.setTime_time, h.time] }

/-- The gates leave the operational list before a step (R367). -/
def Dev.ungated : Dev := d.cond d.locked fun d => (List.range 6).foldl Dev.gateUnlock d

theorem kept_ungated (L : List RegName) : Kept L d d.ungated := Kept.cond _ (kept_gatesUnlock d L)

theorem Dev.stepTime_eq (ns : Nat) : d.stepTime ns = (((d.ungated.setTime ns).setLock false).expireAll).retryAll := rfl

/-- What a step tries and judges again after lock has cleared. -/
theorem kept_rejudged : Kept admRegs d d.expireAll.retryAll :=
  ((kept_expireAll d).mono (by decide)).trans (kept_retryAll _)

/-- A step changes the time, and beside it what a change of TIME_LOCK may. -/
theorem kept_stepTime (ns : Nat) : Kept lockRegs (d.setTime ns) (d.stepTime ns) := by
  rw [d.stepTime_eq]
  exact (kept_setTime_congr (kept_ungated d lockRegs) ns).trans ((kept_setLock _ false).trans ((kept_rejudged _).mono (by decide)))

theorem Dev.stepTime_time (ns : Nat) : (d.stepTime ns).time = { d.time with net := ns * nsUnit, slewPer := 0 } :=
  (kept_stepTime d ns).time

theorem Dev.nowFull_stepTime (ns : Nat) : (d.stepTime ns).nowFull = ns := by
  rw [Dev.nowFull, (kept_stepTime d ns).time]; exact d.nowFull_setTime ns

/-- A step clears TIME_LOCK (R57). -/
theorem Dev.locked_stepTime (ns : Nat) : (d.stepTime ns).locked = false := by
  rw [d.stepTime_eq, Dev.locked, (kept_rejudged _).on _ _ _ (by decide)]
  exact locked_setLock _ false

theorem Dev.fld_stepTime_beside (ns : Nat) {f : Fld} (hr : f.reg = .TIME_STAT) (hlo : 1 ≤ f.lo) :
    (d.stepTime ns).fld f = d.fld f := by
  rw [d.stepTime_eq, (kept_rejudged _).fld f 0 0 (by rw [hr]; decide), Dev.fld_setLock_beside _ _ hr hlo, Dev.setTime_fld,
    (kept_ungated d []).fld f 0 0 List.not_mem_nil]

/-! ### The clock that runs on in network time -/

theorem Dev.runGap_eq (g : Nat) : d.runGap g = { d with time := (d.runGap g).time } := by
  unfold Dev.runGap; split
  · rfl
  · exact d.ticks_eq _

theorem Dev.runGap_zero : d.runGap 0 = d := if_pos rfl

@[simp] theorem Dev.toTick_rd (r : RegName) (i j : Nat) : d.toTick.rd r i j = d.rd r i j := by
  rw [Dev.toTick, Dev.runGap_eq]; rfl
@[simp] theorem Dev.toTick_syn : d.toTick.syn = d.syn := by rw [Dev.toTick, Dev.runGap_eq]

/-- An instant of network time that has passed lets no time pass (log entry 42). -/
theorem Dev.runGap_past {ns : Nat} (h : 339 * ns ≤ d.netU) : d.runGap (ns * nsUnit - d.time.net) = d := by
  have hnet : ns * nsUnit ≤ d.time.net := by
    have hmod : d.netMod ≤ d.time.net := Nat.mod_le _ _
    unfold Dev.netU at h
    unfold nsUnit
    omega
  rw [Nat.sub_eq_zero_of_le hnet, d.runGap_zero]

end Sys2Proof.Machine

namespace Sys2Proof.Proofs

open Sys2Proof.Machine Sys2Proof.Safety

/-- TIME_SET in nanoseconds, as a load takes it (R53). -/
def timeSet (d : Dev) : Nat := d.rd .TIME_SET_NS + (d.rd .TIME_SET_SL + 2 ^ 32 * d.fld F.TIME_SET_SH_SEC) * 10 ^ 9

/-- A load is a step of network time to TIME_SET at the next 1 MHz tick, with HOST_LOCK cleared (R53). -/
theorem timeLoad_eq (d : Dev) : d.timeLoad = (d.toTick.setOn F.TIME_CTL_HOST_LOCK 0 0 false).stepTime (timeSet d) := by
  simp only [Dev.timeLoad, timeSet, Dev.fld, Dev.toTick_rd]

theorem does_timeLoad (s : State) : Does .timeLoad s fun t =>
    t.dev.nowFull = s.dev.rd .TIME_SET_NS + (s.dev.rd .TIME_SET_SL + 2 ^ 32 * s.dev.fld F.TIME_SET_SH_SEC) * 10 ^ 9 ∧
    t.dev.locked = false ∧ t.dev.on F.TIME_CTL_HOST_LOCK = false ∧ t.dev.time.tc = s.dev.toTick.time.tc ∧
    t.dev.syn.a = s.dev.syn.a ∧ t.dev.syn.b = s.dev.syn.b ∧ t.pending = s.pending ∧ t.nv = s.nv := by
  refine ⟨{ s with dev := s.dev.timeLoad }, rfl, ?_⟩
  dsimp only
  rw [timeLoad_eq]
  have hk := kept_stepTime (s.dev.toTick.setOn F.TIME_CTL_HOST_LOCK 0 0 false) (timeSet s.dev)
  refine ⟨by rw [Dev.nowFull_stepTime, timeSet], Dev.locked_stepTime _ _, ?_, ?_, ?_, ?_, rfl, rfl⟩
  · rw [hk.on _ _ _ (by decide), Dev.setTime_on, Dev.on_setOn_same _ _ _ _ _ (by decide) rfl]
  · rw [Dev.stepTime_time, Dev.setOn_time]
  · rw [kept_syn_a hk, Dev.setTime_syn, Dev.setOn_syn, Dev.toTick_syn]
  · rw [kept_syn_b hk, Dev.setTime_syn, Dev.setOn_syn, Dev.toTick_syn]

theorem does_timeNowNsRead (k : Bool) (s : State) : Does (.timeNowNsRead k) s fun t =>
    t.dev.out = s.dev.out ++ [.readData k (s.dev.nowFull % 10 ^ 9)] ∧ t.dev.nowFull = s.dev.nowFull ∧
    (t.dev.readReg t.nv k .TIME_NOW_SL 0 0).1 = s.dev.nowFull / 10 ^ 9 % 2 ^ 32 ∧
    (t.dev.readReg t.nv k .TIME_NOW_SH 0 0).1 = s.dev.nowFull / 10 ^ 9 / 2 ^ 32 % 2 ^ 16 ∧
    (t.dev.readReg t.nv (!k) .TIME_NOW_SL 0 0).1 = (s.dev.readReg s.nv (!k) .TIME_NOW_SL 0 0).1 ∧
    t = { s with dev := { s.dev with time := t.dev.time, out := t.dev.out } } := by
  cases k <;> exact ⟨_, rfl, rfl, rfl, rfl, rfl, rfl, rfl⟩

theorem does_timeNextSlWrite (v : Word) (s : State) : Does (.timeNextSlWrite v) s fun t =>
    t.dev.rd .TIME_NEXT_SL = v.toNat ∧ t.dev.time = { s.dev.time with nextWritten := true } ∧
    Says [.TIME_NEXT_SL] { s with dev := { s.dev with time := t.dev.time } } t := by
  refine ⟨{ s with dev := s.dev.writeNextSl v.toNat }, rfl, ?_, rfl, rfl, rfl, ?_⟩
  · exact (s.dev.rd_wr_same .TIME_NEXT_SL 0 0 v.toNat).trans (Nat.mod_eq_of_lt v.isLt)
  · exact Told.wr [.TIME_NEXT_SL] { s.dev with time := { s.dev.time with nextWritten := true } } .TIME_NEXT_SL 0 0 v.toNat (by decide)

/-- Settles O4: a load is a step of network time after the clock has run on to the tick, and the reads and the write change what they
name alone. -/
theorem networkTime : Obligations.NetworkTime := ⟨does_timeLoad, does_timeNowNsRead, does_timeNextSlWrite⟩

end Sys2Proof.Proofs
end

section
/-! PROOFS. The PPS discipline: what an edge's captures and counters leave, what recording an edge, judging lock and correcting time do,
and holdover. -/

namespace Sys2Proof.Machine

open Sys2Proof.Safety

variable (d : Dev)

/-! ### Captures and statistic counters (R656, R658, R662) -/

/-- The registers that a capture and the statistic counters may change. -/
def tickRegs : List RegName :=
  postRegs ++ ([.TMR_STAT, .TMR_GSTAT, .TMR_CAP, .TMR_CAP_TL, .TMR_CAP_TH, .TMR_SC_L, .TMR_SC_H, .TMR_SC_OVF] : List RegName)

theorem told_setMisc_tick (b : Nat) : Told tickRegs d (d.setMisc b) := (told_setMisc d b).mono (by decide)

theorem told_setPair {L : List RegName} {l h : RegName} (i j v : Nat) (hl : l ∈ L) (hh : h ∈ L) : Told L d (d.setPair l h i j v) :=
  (Told.wr L d l i j _ hl).trans (Told.wr L _ h i j _ hh)

theorem told_addPair {L : List RegName} {l h : RegName} (i j n : Nat) (hl : l ∈ L) (hh : h ∈ L) : Told L d (d.addPair l h i j n) :=
  (Told.wr L d l i j _ hl).trans (Told.wr L _ h i j _ hh)

theorem told_tmrFlag (t : Nat) {flag : Fld} (ie : Fld) (h : flag.reg ∈ tickRegs) : Told tickRegs d (d.tmrFlag t flag ie) := by
  unfold Dev.tmrFlag; split
  · exact Told.refl _ d
  · extract_lets d1
    have h1 : Told tickRegs d d1 := told_setOn d _ flag t 0 true h
    split
    · exact h1.trans ((Told.wr _ d1 .TMR_GSTAT 0 0 _ (by decide)).trans (told_setMisc_tick _ 7))
    · exact h1

theorem told_capture (t ns : Nat) : Told tickRegs d (d.capture t ns) := by
  unfold Dev.capture
  extract_lets d1 d2
  have h1 : Told tickRegs d d1 := by
    simp only [d1]; split
    · exact told_setOn d _ F.TMR_STAT_CAP_OVR t 0 true (by decide)
    · exact Told.refl _ d
  have h2 : Told tickRegs d1 d2 :=
    (Told.wr _ d1 .TMR_CAP t 0 _ (by decide)).trans (told_setPair _ t 0 ns (by decide) (by decide))
  exact h1.trans (h2.trans (told_tmrFlag d2 t _ (by decide)))

theorem told_scAdd (j n : Nat) : Told tickRegs d (d.scAdd j n) := by
  unfold Dev.scAdd; split
  · exact Told.refl _ d
  · unfold Dev.addStat
    extract_lets d1
    have h1 : Told tickRegs d d1 := told_addPair d 0 j n (by decide) (by decide)
    split
    · exact h1.trans ((Told.wr _ d1 .TMR_SC_OVF 0 0 _ (by decide)).trans (told_setMisc_tick _ 7))
    · exact h1

theorem told_happen (src t n : Nat) : Told tickRegs d (d.happen src t n) :=
  Told.each _ fun d j => by
    split
    · exact told_scAdd d j n
    · exact Told.refl _ d

/-- The timers that capture an edge of TIME_PPS do, and the counters count it (R656, R662). -/
def Dev.ppsCounted (q : Fin 4) : Dev :=
  (d.each (List.range 16) fun d t => if d.fld F.TMR_CTL_CAP_SRC t = 5 then d.capture t (d.edgeNs q) else d).happen 5 0 1

theorem told_ppsCounted (q : Fin 4) : Told tickRegs d (d.ppsCounted q) :=
  (Told.each _ fun d t => by
    split
    · exact told_capture d t _
    · exact Told.refl _ d).trans (told_happen _ 5 0 1)

/-! ### The edge's record (R55, R691) -/

theorem ofInt_lt (w : Nat) (x : Int) : ofInt w x < 2 ^ w := by
  have hpos : (0 : Int) < ((2 ^ w : Nat) : Int) := by exact_mod_cast Nat.two_pow_pos w
  have hlt := Int.emod_lt_of_pos x hpos
  unfold ofInt
  omega

/-- The offset of an edge of TIME_PPS at a sample of the present carrier cycle, in ns (R55). -/
def Dev.edgeOfs (q : Fin 4) : Int := (d.timeFull (4 * d.time.tc + q) : Int) - (d.edgeSec * 10 ^ 9 : Nat)

/-- The seconds of an edge stand in the record of time, and those of the coming edge are not written. -/
def Dev.markSec (sec : Nat) : Dev := { d with time := { d.time with nextWritten := false, prevSec := sec } }

@[simp] theorem Dev.markSec_rd (sec : Nat) (r : RegName) (i j : Nat) : (d.markSec sec).rd r i j = d.rd r i j := rfl
@[simp] theorem Dev.markSec_fld (sec : Nat) (f : Fld) (i j : Nat) : (d.markSec sec).fld f i j = d.fld f i j := rfl

/-- The device after an edge has been recorded: its offset, its seconds, and the end of holdover. -/
def Dev.ppsMarked (sec : Nat) (ofs : Int) : Dev :=
  ((d.wr .TIME_PPS_OFS 0 0 (ofInt 32 (clampInt (-(2 ^ 31)) (2 ^ 31 - 1) ofs))).markSec sec).setOn F.TIME_STAT_HOLDOVER 0 0 false

theorem Dev.ppsEdge_eq (q : Fin 4) (h : d.fld F.TIME_CTL_SOURCE = 1) :
    d.ppsEdge q = ((d.ppsMarked d.edgeSec (d.edgeOfs q)).judgeLock (d.edgeOfs q)
      (!(d.ppsMarked d.edgeSec (d.edgeOfs q)).stepDue (d.edgeOfs q))).correct (d.edgeOfs q) := by
  simp only [Dev.ppsEdge, if_pos h, Dev.ppsMarked, Dev.markSec, Dev.edgeOfs]

/-- A device that only told something counts the same offset. -/
theorem edgeSec_of_told {L : List RegName} {d e : Dev} (h : Told L d e) (hsl : .TIME_NEXT_SL ∉ L) (hsh : .TIME_NEXT_SH ∉ L) :
    e.edgeSec = d.edgeSec := by
  simp only [Dev.edgeSec, h.time, h.regs _ _ _ hsl, h.fld F.TIME_NEXT_SH_SEC 0 0 hsh]

theorem timeFull_of_told {L : List RegName} {d e : Dev} (h : Told L d e) (hrate : .TIME_RATE ∉ L) (q : Nat) :
    e.timeFull q = d.timeFull q := by
  have hstep : e.carStep = d.carStep := by rw [Dev.carStep, Dev.carStep, h.syn]
  have hper : e.ratePer = d.ratePer := by simp only [Dev.ratePer, h.regs _ _ _ hrate]
  rw [Dev.timeFull, Dev.timeFull, h.time, hstep, hper]

theorem edgeOfs_of_told {d e : Dev} (h : Told tickRegs d e) (q : Fin 4) : e.edgeOfs q = d.edgeOfs q := by
  rw [Dev.edgeOfs, Dev.edgeOfs, timeFull_of_told h (by decide), edgeSec_of_told h (by decide) (by decide), h.time]

theorem Dev.rd_ppsMarked (sec : Nat) (ofs : Int) :
    (d.ppsMarked sec ofs).rd .TIME_PPS_OFS = ofInt 32 (clampInt (-(2 ^ 31)) (2 ^ 31 - 1) ofs) := by
  rw [Dev.ppsMarked, Dev.setOn, Dev.rd_setFld_name _ _ _ _ _ _ _ _ (by decide), Dev.markSec_rd]
  exact (d.rd_wr_same _ _ _ _).trans (Nat.mod_eq_of_lt (ofInt_lt 32 _))

theorem Dev.ppsMarked_time (sec : Nat) (ofs : Int) :
    (d.ppsMarked sec ofs).time = { d.time with nextWritten := false, prevSec := sec } := rfl

theorem Dev.on_holdover_ppsMarked (sec : Nat) (ofs : Int) : (d.ppsMarked sec ofs).on F.TIME_STAT_HOLDOVER = false :=
  Dev.on_setOn_same _ _ _ _ _ (by decide) rfl

theorem Dev.fld_goodEdges_ppsMarked (sec : Nat) (ofs : Int) :
    (d.ppsMarked sec ofs).fld F.TIME_STAT_GOOD_EDGES = d.fld F.TIME_STAT_GOOD_EDGES := by
  rw [Dev.ppsMarked, Dev.setOn,
    Dev.fld_setFld_disjoint _ F.TIME_STAT_HOLDOVER F.TIME_STAT_GOOD_EDGES 0 0 _ rfl (by decide) (by decide), Dev.markSec_fld]
  exact d.fld_wr_name _ _ _ _ _ (by decide)

/-! ### The lock rule (R57) -/

/-- The count of good edges after an offset. -/
def Dev.goodAfter (ofs : Int) : Nat := if ofs.natAbs ≤ 250 then sat 4 (d.fld F.TIME_STAT_GOOD_EDGES + 1) else 0

theorem Dev.goodAfter_lt (ofs : Int) : d.goodAfter ofs < 2 ^ 3 := by
  unfold Dev.goodAfter sat; split <;> omega

/-- What the lock rule does: the count of good edges, and lock as it was, taken or cleared. -/
theorem Dev.judgeLock_cases (ofs : Int) (may : Bool) :
    d.judgeLock ofs may = d.setFld F.TIME_STAT_GOOD_EDGES 0 0 (d.goodAfter ofs) ∨
    ∃ b, d.judgeLock ofs may = (d.setFld F.TIME_STAT_GOOD_EDGES 0 0 (d.goodAfter ofs)).setLock b := by
  unfold Dev.judgeLock
  extract_lets good d1
  split
  · exact .inr ⟨false, rfl⟩
  · split
    · exact .inr ⟨true, rfl⟩
    · exact .inl rfl

theorem kept_judgeLock (ofs : Int) (may : Bool) : Kept lockRegs d (d.judgeLock ofs may) := by
  have h := kept_setFld lockRegs d F.TIME_STAT_GOOD_EDGES 0 0 (d.goodAfter ofs) (by decide)
  obtain e | ⟨b, e⟩ := d.judgeLock_cases ofs may <;> rw [e]
  · exact h
  · exact h.trans (kept_setLock _ b)

/-- Every field of TIME_STAT beside LOCK reads as it does after the count of good edges. -/
theorem Dev.fld_judgeLock (ofs : Int) (may : Bool) {f : Fld} (hr : f.reg = .TIME_STAT) (hlo : 1 ≤ f.lo) :
    (d.judgeLock ofs may).fld f = (d.setFld F.TIME_STAT_GOOD_EDGES 0 0 (d.goodAfter ofs)).fld f := by
  obtain e | ⟨b, e⟩ := d.judgeLock_cases ofs may <;> rw [e]
  exact Dev.fld_setLock_beside _ b hr hlo

theorem Dev.fld_goodEdges_judgeLock (ofs : Int) (may : Bool) :
    (d.judgeLock ofs may).fld F.TIME_STAT_GOOD_EDGES = d.goodAfter ofs := by
  rw [d.fld_judgeLock ofs may rfl (by decide), d.fld_setFld_same _ _ _ _ (by decide)]
  exact Nat.mod_eq_of_lt (d.goodAfter_lt ofs)

theorem Dev.on_holdover_judgeLock (ofs : Int) (may : Bool) :
    (d.judgeLock ofs may).on F.TIME_STAT_HOLDOVER = d.on F.TIME_STAT_HOLDOVER := by
  rw [Dev.on, d.fld_judgeLock ofs may rfl (by decide), 
    d.fld_setFld_disjoint F.TIME_STAT_GOOD_EDGES F.TIME_STAT_HOLDOVER 0 0 _ rfl (by decide) (by decide), Dev.on]

/-! ### The correction (R56) -/

/-- The device after the first edge has come. -/
def Dev.edgeCame : Dev := { d with time := { d.time with firstEdge := false } }

theorem Dev.correct_of_step {ofs : Int} (h : d.stepDue ofs = true) :
    d.correct ofs = d.edgeCame.stepTime ((d.nowFull : Int) - ofs).toNat := by
  simp only [Dev.correct, h, if_true]; rfl

theorem Dev.correct_of_slew {ofs : Int} (h : d.stepDue ofs = false) :
    ∃ r, d.correct ofs = (d.edgeCame.wr .TIME_RATE 0 0 r).slew ofs :=
  ⟨_, by simp only [Dev.correct, h]; rfl⟩

theorem Dev.rd_correct (ofs : Int) {r : RegName} (hrate : .TIME_RATE ≠ r) (hlock : r ∉ lockRegs) (i j : Nat) :
    (d.correct ofs).rd r i j = d.rd r i j := by
  cases h : d.stepDue ofs with
  | true => rw [d.correct_of_step h, (kept_stepTime _ _).regs r i j hlock]; rfl
  | false =>
    obtain ⟨v, e⟩ := d.correct_of_slew h
    rw [e]; exact d.edgeCame.rd_wr_name 0 0 i j v hrate

theorem Dev.fld_correct_beside (ofs : Int) {f : Fld} (hr : f.reg = .TIME_STAT) (hlo : 1 ≤ f.lo) :
    (d.correct ofs).fld f = d.fld f := by
  cases h : d.stepDue ofs with
  | true => rw [d.correct_of_step h, Dev.fld_stepTime_beside _ _ hr hlo]; rfl
  | false =>
    obtain ⟨v, e⟩ := d.correct_of_slew h
    rw [e]
    exact d.edgeCame.fld_wr_name 0 0 0 0 v (by rw [hr]; decide)

/-- A correction leaves the seconds of the edge and their mark. -/
theorem Dev.correct_seconds (ofs : Int) :
    (d.correct ofs).time.prevSec = d.time.prevSec ∧ (d.correct ofs).time.nextWritten = d.time.nextWritten := by
  cases h : d.stepDue ofs with
  | true => rw [d.correct_of_step h, Dev.stepTime_time]; exact ⟨rfl, rfl⟩
  | false =>
    obtain ⟨v, e⟩ := d.correct_of_slew h
    rw [e]; exact ⟨rfl, rfl⟩

theorem Dev.correct_step {ofs : Int} (h : d.stepDue ofs = true) :
    (d.correct ofs).nowFull = ((d.nowFull : Int) - ofs).toNat ∧ (d.correct ofs).locked = false := by
  rw [d.correct_of_step h]
  exact ⟨Dev.nowFull_stepTime _ _, Dev.locked_stepTime _ _⟩

/-! ### Holdover (R58) -/

/-- The instant that holdover is counted from: that of a holdover in progress, or the present one. -/
def Dev.holdFrom : Nat := if d.on F.TIME_STAT_HOLDOVER then d.time.holdAt else d.nowFull

/-- Holdover is counted from an instant of network time. -/
def Dev.holdSince (ns : Nat) : Dev := { d with time := { d.time with holdAt := ns } }

@[simp] theorem Dev.holdSince_fld (ns : Nat) (f : Fld) (i j : Nat) : (d.holdSince ns).fld f i j = d.fld f i j := rfl

theorem Dev.cond_holdSince : (d.cond (!d.on F.TIME_STAT_HOLDOVER) fun d => d.holdSince d.nowFull) = d.holdSince d.holdFrom := by
  unfold Dev.cond Dev.holdFrom
  cases d.on F.TIME_STAT_HOLDOVER <;> rfl

/-- The device that has entered holdover, before lock is judged. -/
def Dev.held : Dev := (d.holdSince d.holdFrom).setOn F.TIME_STAT_HOLDOVER 0 0 true

theorem Dev.fld_held_name {f : Fld} (h : .TIME_STAT ≠ f.reg) : d.held.fld f = d.fld f :=
  (d.holdSince d.holdFrom).fld_wr_name 0 0 0 0 _ h

/-- Entering holdover leaves the fields of TIME_STAT above HOLDOVER. -/
theorem Dev.on_held_above {f : Fld} (hr : f.reg = .TIME_STAT) (hlo : 2 ≤ f.lo) : d.held.on f = d.on f := by
  rw [Dev.on, Dev.held, Dev.setOn, Dev.fld_setFld_disjoint _ F.TIME_STAT_HOLDOVER f 0 0 _ hr.symm (by decide) (.inr hlo),
    Dev.holdSince_fld, Dev.on]

theorem Dev.on_holdover_held : d.held.on F.TIME_STAT_HOLDOVER = true := Dev.on_setOn_same _ _ _ _ _ (by decide) rfl

theorem Dev.enterHoldover_eq :
    d.enterHoldover = if d.held.fld F.TIME_CTL_HOLDOVER_MAX = 0 ∨ d.held.on F.TIME_STAT_CLOCK_SRC then d.held.setLock false
      else d.held := by
  unfold Dev.enterHoldover
  extract_lets d1 d2
  have h : d2 = d.held := congrArg (Dev.setOn · F.TIME_STAT_HOLDOVER 0 0 true) d.cond_holdSince
  rw [h]

theorem Dev.on_beside_enterHoldover {f : Fld} (hr : f.reg = .TIME_STAT) (hlo : 1 ≤ f.lo) :
    d.enterHoldover.on f = d.held.on f := by
  rw [d.enterHoldover_eq]; split
  · exact Dev.on_setLock_beside _ _ hr hlo
  · rfl

end Sys2Proof.Machine

namespace Sys2Proof.Proofs

open Sys2Proof.Machine Sys2Proof.Safety

theorem does_ppsEdge_other (r : Bool) (q : Fin 4) (s : State) (h : edgeIs (s.dev.fld F.TIME_CTL_PPS_EDGE) r = false) :
    Idle (.ppsEdge r q) s := by
  change execPpsEdge r q s = .next s
  simp only [execPpsEdge, onDev, h, Bool.false_eq_true, if_false]

theorem exec_ppsEdge_chosen (r : Bool) (q : Fin 4) (s : State) (h : edgeIs (s.dev.fld F.TIME_CTL_PPS_EDGE) r = true) :
    exec (.ppsEdge r q) s = .next { s with dev := (s.dev.ppsCounted q).ppsEdge q } := by
  change execPpsEdge r q s = _
  simp only [execPpsEdge, onDev, h, if_true, Dev.ppsCounted]

theorem does_ppsEdge_chosen (r : Bool) (q : Fin 4) (s : State) (ofs : Int) (h : edgeIs (s.dev.fld F.TIME_CTL_PPS_EDGE) r = true)
    (hsrc : s.dev.fld F.TIME_CTL_SOURCE = 1)
    (hofs : ofs = (s.dev.timeFull (4 * s.dev.time.tc + q) : Int) - (s.dev.edgeSec * 10 ^ 9 : Nat)) :
    Does (.ppsEdge r q) s fun t =>
      t.dev.rd .TIME_PPS_OFS = ofInt 32 (clampInt (-(2 ^ 31)) (2 ^ 31 - 1) ofs) ∧
      t.dev.on F.TIME_STAT_HOLDOVER = false ∧ t.dev.time.prevSec = s.dev.edgeSec ∧ t.dev.time.nextWritten = false ∧
      t.dev.fld F.TIME_STAT_GOOD_EDGES = (if ofs.natAbs ≤ 250 then sat 4 (s.dev.fld F.TIME_STAT_GOOD_EDGES + 1) else 0) ∧
      (10 ^ 6 < ofs.natAbs ∨ s.dev.time.firstEdge = true →
        t.dev.nowFull = ((s.dev.nowFull : Int) - ofs).toNat ∧ t.dev.locked = false) ∧
      t.pending = s.pending ∧ t.nv = s.nv := by
  refine ⟨_, exec_ppsEdge_chosen r q s h, ?_⟩
  have hc := told_ppsCounted s.dev q
  have ho : (s.dev.ppsCounted q).edgeOfs q = ofs := (edgeOfs_of_told hc q).trans hofs.symm
  have hsec := edgeSec_of_told hc (by decide) (by decide)
  have hgood := hc.fld F.TIME_STAT_GOOD_EDGES 0 0 (by decide)
  rw [Dev.ppsEdge_eq _ q ((hc.fld _ _ _ (by decide)).trans hsrc), ho, hsec]
  dsimp only
  generalize hm : (s.dev.ppsCounted q).ppsMarked s.dev.edgeSec ofs = m
  have hmt : m.time = { s.dev.time with nextWritten := false, prevSec := s.dev.edgeSec } := by
    rw [← hm, Dev.ppsMarked_time, hc.time]
  generalize hj : m.judgeLock ofs (!m.stepDue ofs) = j
  have hk : Kept lockRegs m j := hj ▸ kept_judgeLock m ofs _
  have hjt : j.time = m.time := hk.time
  obtain ⟨hprev, hnext⟩ := j.correct_seconds ofs
  refine ⟨?_, ?_, ?_, ?_, ?_, fun hstep => ?_, rfl, rfl⟩
  · rw [j.rd_correct ofs (by decide) (by decide), hk.regs _ _ _ (by decide), ← hm, Dev.rd_ppsMarked]
  · rw [Dev.on, j.fld_correct_beside ofs rfl (by decide), ← Dev.on, ← hj, Dev.on_holdover_judgeLock, ← hm, Dev.on_holdover_ppsMarked]
  · rw [hprev, hjt, hmt]
  · rw [hnext, hjt, hmt]
  · rw [j.fld_correct_beside ofs rfl (by decide), ← hj, Dev.fld_goodEdges_judgeLock, Dev.goodAfter, ← hm, Dev.fld_goodEdges_ppsMarked,
      hgood]
  · have hdue : j.stepDue ofs = true := by
      simp only [Dev.stepDue, hjt, hmt, Bool.or_eq_true, decide_eq_true_eq]
      exact hstep.symm
    have hnow : j.nowFull = s.dev.nowFull := by simp only [Dev.nowFull, hjt, hmt]
    rw [← hnow]
    exact j.correct_step hdue

/-- The device 100 µs after a second without its edge, before it enters holdover. -/
def edgeMissed (d : Dev) : Dev := d.setOn F.TIME_STAT_PPS_MISSING 0 0 true

theorem on_edgeMissed_below (d : Dev) {f : Fld} (hr : f.reg = .TIME_STAT) (hlo : f.lo + f.w ≤ 8) :
    (edgeMissed d).on f = d.on f := by
  rw [Dev.on, edgeMissed, Dev.setOn, Dev.fld_setFld_disjoint _ F.TIME_STAT_PPS_MISSING f 0 0 _ hr.symm (by decide) (.inl hlo), Dev.on]

/-- A missed edge and the holdover that it brings: the start of holdover, and two bits of TIME_STAT. -/
theorem edgeMissed_held (d : Dev) :
    (edgeMissed d).held = ((d.holdSince d.holdFrom).setOn F.TIME_STAT_PPS_MISSING 0 0 true).setOn F.TIME_STAT_HOLDOVER 0 0 true := by
  have hfrom : (edgeMissed d).holdFrom = d.holdFrom := by
    rw [Dev.holdFrom, on_edgeMissed_below d rfl (by decide)]; rfl
  rw [Dev.held, hfrom]; rfl

theorem exec_ppsMissing_due (s : State) (hsrc : s.dev.fld F.TIME_CTL_SOURCE = 1)
    (hdue : 339 * (s.dev.edgeSec * 10 ^ 9 + 100000) ≤ s.dev.netU) :
    exec .ppsMissing s = .next { s with dev := (edgeMissed s.dev).enterHoldover } := by
  change execPpsMissing s = _
  simp only [execPpsMissing, onDev, hsrc, if_true, s.dev.runGap_past hdue, edgeMissed]

theorem does_ppsMissing (s : State) (hsrc : s.dev.fld F.TIME_CTL_SOURCE = 1)
    (hdue : 339 * (s.dev.edgeSec * 10 ^ 9 + 100000) ≤ s.dev.netU) : Does .ppsMissing s fun t =>
    t.dev.on F.TIME_STAT_HOLDOVER = true ∧ t.dev.on F.TIME_STAT_PPS_MISSING = true ∧
    (s.dev.fld F.TIME_CTL_HOLDOVER_MAX = 0 → t.dev.locked = false) ∧
    (s.dev.fld F.TIME_CTL_HOLDOVER_MAX ≠ 0 → s.dev.on F.TIME_STAT_CLOCK_SRC = false →
      t.dev.time = { s.dev.time with holdAt := if s.dev.on F.TIME_STAT_HOLDOVER then s.dev.time.holdAt else s.dev.nowFull } ∧
      OnlyRegs [(.TIME_STAT, 0, 0)] { s with dev := { s.dev with time := t.dev.time } } t) := by
  refine ⟨_, exec_ppsMissing_due s hsrc hdue, ?_⟩
  dsimp only
  have hmax : (edgeMissed s.dev).held.fld F.TIME_CTL_HOLDOVER_MAX = s.dev.fld F.TIME_CTL_HOLDOVER_MAX :=
    ((edgeMissed s.dev).fld_held_name (by decide)).trans (s.dev.fld_wr_name 0 0 0 0 _ (by decide))
  have hclk : (edgeMissed s.dev).held.on F.TIME_STAT_CLOCK_SRC = s.dev.on F.TIME_STAT_CLOCK_SRC := by
    rw [Dev.on_held_above _ rfl (by decide)]
    exact on_edgeMissed_below s.dev rfl (by decide)
  refine ⟨?_, ?_, fun h0 => ?_, fun hne hsrc => ?_⟩
  · rw [Dev.on_beside_enterHoldover _ rfl (by decide), Dev.on_holdover_held]
  · rw [Dev.on_beside_enterHoldover _ rfl (by decide), Dev.on_held_above _ rfl (by decide)]
    exact Dev.on_setOn_same _ _ _ _ _ (by decide) rfl
  · rw [Dev.enterHoldover_eq, if_pos (.inl (hmax.trans h0))]
    exact locked_setLock _ false
  · have hstay : (edgeMissed s.dev).enterHoldover = (edgeMissed s.dev).held := by
      rw [Dev.enterHoldover_eq, if_neg (by rw [hmax, hclk, hsrc]; simpa using hne)]
    rw [hstay]
    rw [edgeMissed_held]
    exact ⟨rfl, onlyRegs_trans (onlyRegs_setFld { s with dev := s.dev.holdSince s.dev.holdFrom } F.TIME_STAT_PPS_MISSING 0 0 _)
      (onlyRegs_setFld _ F.TIME_STAT_HOLDOVER 0 0 _)⟩

theorem does_holdoverExpiry (s : State) (hon : s.dev.on F.TIME_STAT_HOLDOVER = true) (hfree : s.dev.freeRun = false)
    (hdue : 339 * (s.dev.time.holdAt + s.dev.fld F.TIME_CTL_HOLDOVER_MAX * 10 ^ 9) ≤ s.dev.netU) : Does .holdoverExpiry s fun t =>
    t.dev.locked = false ∧ t.dev.time = s.dev.time ∧ t.pending = s.pending ∧ t.nv = s.nv := by
  have hexec : exec .holdoverExpiry s = .next { s with dev := s.dev.setLock false } := by
    change execHoldoverExpiry s = _
    simp only [execHoldoverExpiry, onDev, hon, hfree, Bool.not_false, Bool.and_self, if_true, s.dev.runGap_past hdue]
  exact ⟨_, hexec, locked_setLock _ false, s.dev.setLock_time false, rfl, rfl⟩

/-- Settles O5: an edge is recorded, judged and corrected in turn, each with its own law, after captures and counters that touch the
timers' registers alone; a missing edge is `Dev.enterHoldover`, and the end of holdover a change of TIME_LOCK. -/
theorem ppsDiscipline : Obligations.PpsDiscipline :=
  ⟨does_ppsEdge_other, does_ppsEdge_chosen, does_ppsMissing, does_holdoverExpiry⟩

end Sys2Proof.Proofs
end

section
/-! PROOFS. A restart that the record shows for the ACTIVE unit: its completion leaves no unit ACTIVE, and the transactions are judged
again. -/

namespace Sys2Proof.Proofs

open Sys2Proof.Machine Sys2Proof.Safety

/-- The state that a command answers, if it answers one. -/
def answer (c : Instr) (s : State) : Option State :=
  match exec c s with
  | .next t => some t
  | _ => none

theorem answer_of_next {c : Instr} {s t : State} (h : exec c s = .next t) : answer c s = some t := by
  unfold answer; rw [h]

/-- An exchange on channel 0 at level 0 that is admitted and has no field yet. -/
def admittedTxn : Txn :=
  { phase := .admitted, level := 0, driven := [{ ch := 0, lvl := 0 }],
    frame := some { data := [0x26], winOpen := 100, winClose := 1000, rxMax := 2 } }

/-- SYN-A is the only ACTIVE unit and a restart of it stands in the record, 50,000 carrier cycles after configuration-ready; pavilion 0 is
ACTIVE, its VDRV is set up, and channel 0, in the role POLL, has an admitted transaction. -/
def restartOfActive : State :=
  { dev := ((({ pwr := { boot := .running }, time := { tc := 50000 },
                syn := { a := .active, runs := [(.restart, false)] } } : Dev).setFld F.PAV_VDRV_NOM 0 0 5000).modPav 0 fun p =>
      { p with state := .active, gntPin := true }).modCh 0 fun c => { c with role := .poll, txn := some admittedTxn } }

/-- The state meets the conditions of a restart's completion, and a unit is ACTIVE. -/
theorem restartOfActive_completes :
    restartOfActive.dev.syn.runs = [(.restart, false)] ∧ restartOfActive.dev.syn.refOk = true ∧
    restartOfActive.dev.syn.takeover = false ∧ restartOfActive.dev.watching = false ∧
    restartOfActive.dev.syn.start false + synCalTc ≤ restartOfActive.dev.tc ∧ restartOfActive.dev.synActive = true ∧
    (restartOfActive.dev.ch 0).txn = some admittedTxn := by decide +kernel

/-- Its completion takes the only ACTIVE unit to STANDBY, and the admitted transaction goes back to waiting (R372). -/
theorem restartOfActive_rechecks :
    (answer (.synCalComplete false) restartOfActive).map (fun t => (t.dev.ch 0).txn.map Txn.phase) = some (some .waiting) := by
  decide +kernel

/-- Refutes O1: its clause on a completed restart does not ask that the restarted unit is CALIBRATING. Where the record shows a restart of
the only ACTIVE unit, the unit ends STANDBY, no unit is ACTIVE any more, and `Dev.synMoved` judges every transaction again, so a channel's
transaction changes where the clause lets only queues, SYN_STAT and the registers of a completion change. -/
theorem not_synthesiserCalibrations : ¬ Obligations.SynthesiserCalibrations := by
  rintro ⟨-, -, -, -, -, restartEnds, -⟩
  obtain ⟨hruns, href, htake, hwatch, hdue, hact, htxn⟩ := restartOfActive_completes
  obtain ⟨t, ht, -, -, -, standsBy, -⟩ := restartEnds false restartOfActive hruns href htake hwatch hdue
  obtain ⟨-, -, -, told⟩ := standsBy hact
  have hkept : (t.dev.ch 0).txn = some admittedTxn := by rw [told.ch 0]; exact htxn
  have hmoved := restartOfActive_rechecks
  rw [answer_of_next ht] at hmoved
  simp [hkept, admittedTxn] at hmoved

end Sys2Proof.Proofs
end

section
/-! PROOFS. What a channel holds of its transaction and of its coil's field: what leaves all of it, what a falling field takes, and what
an attempt at admission and a second judgement leave of it. -/

namespace Sys2Proof.Machine

open Sys2Proof.Safety

/-- What a channel's record says of its coil's field, of the duty that it counts for, and of the limiter's older limit. -/
structure Account where
  fieldOf : Option Nat
  parking : Bool
  onAt    : Option Nat
  duty    : Tbl Nat
  dutyAt  : Nat
  limOld  : Option (Nat × Nat)

def Ch.account (c : Ch) : Account :=
  { fieldOf := c.fieldOf, parking := c.parking, onAt := c.onAt, duty := c.duty, dutyAt := c.dutyAt, limOld := c.limOld }

/-- The same with the channel's transaction. -/
structure Claim where
  account : Account
  txn     : Option Txn

def Ch.claim (c : Ch) : Claim := { account := c.account, txn := c.txn }

/-- The same with the end of the field's ramp-down and that of the field before it. -/
structure Stance where
  claim  : Claim
  downAt : Option Nat
  offAt  : Option Nat

def Ch.stance (c : Ch) : Stance := { claim := c.claim, downAt := c.downAt, offAt := c.offAt }

/-- Every channel shows the same of its record, and the record of the latest fault stands. -/
structure Shows {α : Type} (v : Ch → α) (d e : Dev) : Prop where
  ch  : ∀ n, v (e.ch n) = v (d.ch n)
  flt : e.flt = d.flt

namespace Shows

variable {α β : Type} {v : Ch → α} {d e f : Dev}

theorem refl (v : Ch → α) (d : Dev) : Shows v d d := ⟨fun _ => rfl, rfl⟩

theorem trans (a : Shows v d e) (b : Shows v e f) : Shows v d f :=
  ⟨fun n => (b.ch n).trans (a.ch n), b.flt.trans a.flt⟩

theorem ofChans (v : Ch → α) (hc : e.chans = d.chans) (hf : e.flt = d.flt) : Shows v d e :=
  ⟨fun n => by rw [Dev.ch, hc, Dev.ch], hf⟩

theorem cond (b : Bool) {g : Dev → Dev} (h : Shows v d (g d)) : Shows v d (d.cond b g) := by
  unfold Dev.cond; split
  · exact h
  · exact refl v d

theorem each {γ : Type} (l : List γ) {g : Dev → γ → Dev} (h : ∀ d x, Shows v d (g d x)) : Shows v d (d.each l g) := by
  unfold Dev.each
  induction l generalizing d with
  | nil => exact refl v d
  | cons x t ih => exact (h d x).trans ih

theorem modCh (d : Dev) (n : Nat) (f : Ch → Ch) (h : ∀ c, v (f c) = v c := by intro; rfl) : Shows v d (d.modCh n f) where
  ch k := by
    by_cases e : n = k
    · subst e; rw [Dev.ch_modCh_same, h]
    · rw [Dev.ch_modCh_other _ _ e]
  flt := rfl

/-- What a view shows, every coarser view shows. -/
theorem view (w : α → β) (h : Shows v d e) : Shows (fun c => w (v c)) d e := ⟨fun n => congrArg w (h.ch n), h.flt⟩

theorem account (h : Shows Ch.claim d e) (n : Nat) : (e.ch n).account = (d.ch n).account := congrArg Claim.account (h.ch n)
theorem txn (h : Shows Ch.claim d e) (n : Nat) : (e.ch n).txn = (d.ch n).txn := congrArg Claim.txn (h.ch n)
theorem claim (h : Shows Ch.stance d e) : Shows Ch.claim d e := h.view Stance.claim

end Shows

variable (d : Dev)

/-! ### What leaves all of it -/

theorem shows_setFld {α : Type} (v : Ch → α) (f : Fld) (i j x : Nat) : Shows v d (d.setFld f i j x) := .ofChans v rfl rfl
theorem shows_wr {α : Type} (v : Ch → α) (r : RegName) (i j x : Nat) : Shows v d (d.wr r i j x) := .ofChans v rfl rfl
theorem shows_emit {α : Type} (v : Ch → α) (o : Output) : Shows v d (d.emit o) := .ofChans v rfl rfl

theorem shows_unreserve {α : Type} (v : Ch → α) (n e : Nat) : Shows v d (d.unreserve n e) := .ofChans v rfl rfl
theorem shows_txnsMoved {α : Type} (v : Ch → α) (p : Nat) : Shows v d (d.txnsMoved p) := .ofChans v rfl rfl

theorem shows_pulse {α : Type} (v : Ch → α) (n : Nat) : Shows v d (d.pulse n) := by
  unfold Dev.pulse; split
  · split
    · split
      · exact shows_emit d v _
      · exact .refl v d
    · exact .refl v d
  · exact .refl v d

theorem shows_agcGo {α : Type} (v : Ch → α) (n : Nat) (l : List Nat) (a : Nat) : Shows v d (d.agcGo n l a) := by
  unfold Dev.agcGo; split
  · exact shows_setFld d v _ _ _ _
  · exact .refl v d

theorem shows_agcMove {α : Type} (v : Ch → α) (n : Nat) (l : List Nat) (a : Nat) : Shows v d (d.agcMove n l a) := by
  unfold Dev.agcMove; split
  · exact .each _ fun d _ => shows_setFld d v _ _ _ _
  · exact .refl v d

theorem shows_sepLeave {α : Type} (v : Ch → α) (n : Nat) : Shows v d (d.sepLeave n) := by
  unfold Dev.sepLeave; split
  · exact .ofChans v rfl rfl
  · exact .refl v d

theorem shows_rxEnd (n : Nat) : Shows Ch.stance d (d.rxEnd n) := .each _ fun d _ => .modCh d _ _

theorem shows_modCap (n : Nat) (f : Cap → Cap) : Shows Ch.stance d (d.modCap n f) := .modCh d n _

theorem shows_shedUntil (ok : Dev → Bool) (f : Cap → Cap) (l : List Nat) : Shows Ch.stance d (d.shedUntil ok f l) := by
  induction l generalizing d with
  | nil => exact .refl _ d
  | cons n t ih =>
    unfold Dev.shedUntil; split
    · exact .refl _ d
    · exact (shows_modCap d _ _).trans (ih _)

theorem shows_resumeFit (k : Nat) (l : List Nat) : Shows Ch.stance d (d.resumeFit k l) := by
  induction l generalizing d with
  | nil => exact .refl _ d
  | cons n t ih =>
    unfold Dev.resumeFit; extract_lets r
    refine Shows.trans ?_ (ih _)
    split
    · exact shows_modCap d _ _
    · exact .refl _ d

theorem shows_recap : Shows Ch.stance d d.recap := by
  unfold Dev.recap
  exact (shows_shedUntil d _ _ _).trans ((shows_shedUntil _ _ _ _).trans (shows_resumeFit _ _ _))

theorem shows_rxSettle {α : Type} (v : Ch → α) (n : Nat) : Shows v d (d.rxSettle n) := by
  unfold Dev.rxSettle; split
  · exact .each _ fun _ _ => .ofChans v rfl rfl
  · exact .refl v d

theorem shows_setSrc (n x : Nat) : Shows Ch.stance d (d.setSrc n x) := by
  unfold Dev.setSrc; split
  · exact .refl _ d
  · exact (shows_setFld d _ _ _ _ _).trans (.modCh _ _ _)

theorem shows_fadeStart (n : Nat) : Shows Ch.stance d (d.fadeStart n) :=
  (shows_setFld d _ F.CH_RX_FIR_FADING _ _ _).trans (.modCh _ _ _)

theorem shows_chainFree (n : Nat) : Shows Ch.stance d (d.chainFree n) := by
  unfold Dev.chainFree
  extract_lets d0 d1 d2
  have h1 : Shows Ch.stance d d1 := by
    refine ((shows_rxEnd d n).trans ?_).trans (shows_rxSettle _ _ n)
    split
    · exact (shows_setFld d0 _ F.CH_RX_FIR_PENDING _ _ _).trans (shows_fadeStart _ _)
    · exact .refl _ d0
  have h2 : Shows Ch.stance d1 d2 := by
    simp only [d2]; split
    · exact (shows_wr d1 _ _ _ _ _).trans (.modCh _ _ _)
    · exact .refl _ d1
  refine (h1.trans h2).trans ?_
  split
  · exact ((shows_setSrc d2 _ _).trans (.modCh _ _ _)).trans (shows_recap _)
  · exact .refl _ d2

theorem shows_frameEnded (n : Nat) : Shows Ch.stance d (d.frameEnded n) :=
  (shows_chainFree d n).trans (shows_agcGo _ _ _ _ _)

theorem shows_groupLoad {α : Type} (v : Ch → α) (a g : Nat) : Shows v d (d.groupLoad a g) := by
  unfold Dev.groupLoad
  extract_lets w depth stale mode d1 d2 d3
  have h1 : Shows v d d1 := by
    simp only [d1]; split
    · exact .refl v d
    · exact .each _ fun d _ => shows_wr d v _ _ _ _
  have h3 : Shows v d d3 := h1.trans ((shows_setFld d1 v _ _ _ _).trans (.cond _ (shows_setFld d2 v _ _ _ _)))
  split
  · exact h3
  · exact h3.trans (.each _ fun d _ => shows_wr d v _ _ _ _)

theorem shows_loadBank {α : Type} (v : Ch → α) (n : Nat) (b : Bool) (c : List Int) : Shows v d (d.loadBank n b c) :=
  .each _ fun d _ => shows_wr d v _ _ _ _

theorem shows_applyRate (n : Nat) (t : Tech) (r : Nat) : Shows Ch.stance d (d.applyRate n t r) := by
  unfold Dev.applyRate Dev.applyStd; split
  · extract_lets b d1 d2 d3
    have h1 : Shows Ch.stance d d1 := (shows_setSrc d _ _).trans (shows_setFld _ _ _ _ _ _)
    have h2 : Shows Ch.stance d1 d2 := (shows_setFld d1 _ _ _ _ _).trans (shows_setFld _ _ _ _ _ _)
    have h3 : Shows Ch.stance d2 d3 := (shows_wr d2 _ _ _ _ _).trans (.modCh _ _ _)
    exact h1.trans (h2.trans (h3.trans ((shows_loadBank _ _ _ _ _).trans (shows_setFld _ _ _ _ _ _))))
  · exact .refl _ d

/-! ### A field that falls (R85, R88, R204) -/

theorem shows_coilFall (n : Nat) (k : RampKind) : Shows Ch.claim d (d.coilFall n k) :=
  (Shows.modCh d n _).trans (shows_emit _ _ _)

theorem Dev.txn_modTxn (n : Nat) (f : Txn → Txn) : ((d.modTxn n f).ch n).txn = (d.ch n).txn.map f := by
  rw [Dev.modTxn, Dev.ch_modCh_same]

theorem Dev.ch_modTxn_other {n k : Nat} (f : Txn → Txn) (h : k ≠ n) : (d.modTxn n f).ch k = d.ch k :=
  d.ch_modCh_other _ (Ne.symm h)

theorem shows_modTxn (n : Nat) (f : Txn → Txn) : Shows Ch.account d (d.modTxn n f) := .modCh d n _

variable {d}

/-- A fall: the frame being received is left, the transaction falls, its coils' ramp-downs begin, and the transaction ends with the
longest of them. -/
theorem Dev.fall_eq {n : Nat} {t : Txn} (k : RampKind) (cause : Option Status) (hard : List Nat) (ht : (d.ch n).txn = some t)
    (hp : t.phase = .up ∨ t.phase = .rampDown) : ∃ e f due, d.fall n k cause hard = f.modTxn n (fun u => { u with dueTc := due }) ∧
      Shows Ch.stance d e ∧ Shows Ch.claim (e.modTxn n fun _ => t.falls k cause hard) f := by
  rw [Dev.fall]
  split
  · next h => rw [ht] at h; cases h
  next u h =>
  obtain rfl : t = u := Option.some.inj (ht.symm.trans h)
  rw [if_pos hp]
  extract_lets u e e' f due
  refine ⟨e, f, due, rfl, ?_, ?_⟩
  · exact .cond _ ((shows_agcMove d _ n _ _).trans ((shows_sepLeave _ _ n).trans (shows_frameEnded _ n)))
  · refine Shows.each _ fun d x => ?_
    split
    · split
      · exact .refl _ d
      · exact shows_coilFall d _ _
    · exact .refl _ d

/-- The transaction of a field that falls. -/
theorem Dev.txn_fall {n : Nat} {t : Txn} (k : RampKind) (cause : Option Status) (hard : List Nat) (ht : (d.ch n).txn = some t)
    (hp : t.phase = .up ∨ t.phase = .rampDown) :
    ∃ due, ((d.fall n k cause hard).ch n).txn = some { t.falls k cause hard with dueTc := due } := by
  obtain ⟨e, f, due, heq, he, hf⟩ := Dev.fall_eq k cause hard ht hp
  refine ⟨due, ?_⟩
  rw [heq, Dev.txn_modTxn, hf.txn, Dev.txn_modTxn, he.claim.txn, ht]; rfl

variable (d)

/-- A transaction whose field neither stands nor falls has none to end. -/
theorem Dev.fall_of_noField (n : Nat) (k : RampKind) (cause : Option Status) (hard : List Nat)
    (h : ∀ t, (d.ch n).txn = some t → ¬ (t.phase = .up ∨ t.phase = .rampDown)) : d.fall n k cause hard = d := by
  unfold Dev.fall
  split
  · rfl
  · next t ht => rw [if_neg (h t ht)]

theorem shows_fall (n : Nat) (k : RampKind) (cause : Option Status) (hard : List Nat) :
    Shows Ch.account d (d.fall n k cause hard) := by
  by_cases h : ∃ t, (d.ch n).txn = some t ∧ (t.phase = .up ∨ t.phase = .rampDown)
  · obtain ⟨t, ht, hp⟩ := h
    obtain ⟨e, f, due, heq, he, hf⟩ := Dev.fall_eq k cause hard ht hp
    rw [heq]
    exact (he.claim.view Claim.account).trans ((shows_modTxn e n _).trans ((hf.view Claim.account).trans (shows_modTxn f n _)))
  · rw [d.fall_of_noField n k cause hard fun t ht hp => h ⟨t, ht, hp⟩]
    exact .refl _ d

theorem Dev.txn_fall_other {n m : Nat} (k : RampKind) (cause : Option Status) (hard : List Nat) (hm : m ≠ n) :
    ((d.fall n k cause hard).ch m).txn = (d.ch m).txn := by
  by_cases h : ∃ t, (d.ch n).txn = some t ∧ (t.phase = .up ∨ t.phase = .rampDown)
  · obtain ⟨t, ht, hp⟩ := h
    obtain ⟨e, f, due, heq, he, hf⟩ := Dev.fall_eq k cause hard ht hp
    rw [heq, Dev.ch_modTxn_other _ _ hm, hf.txn, Dev.ch_modTxn_other _ _ hm, he.claim.txn]
  · rw [d.fall_of_noField n k cause hard fun t ht hp => h ⟨t, ht, hp⟩]

/-! ### What an attempt at admission leaves (R344, R372) -/

/-- A transaction that falls goes on falling: in its class, for its cause, with its coils. -/
def FallsOn (a b : Option Txn) : Prop :=
  ∀ y, a = some y → y.phase = .rampDown →
    ∃ z, b = some z ∧ z.phase = .rampDown ∧ z.endCause = y.endCause ∧ z.ramp = y.ramp ∧ z.driven = y.driven

theorem FallsOn.of_eq {a b : Option Txn} (h : b = a) : FallsOn a b := fun y hy hp => ⟨y, h.trans hy, hp, rfl, rfl, rfl⟩

theorem FallsOn.trans {a b c : Option Txn} (h : FallsOn a b) (k : FallsOn b c) : FallsOn a c := by
  intro y hy hp
  obtain ⟨z, hz, hzp, hze, hzr, hzd⟩ := h y hy hp
  obtain ⟨w, hw, hwp, hwe, hwr, hwd⟩ := k z hz hzp
  exact ⟨w, hw, hwp, hwe.trans hze, hwr.trans hzr, hwd.trans hzd⟩

/-- A transaction changed beside its fall. -/
theorem FallsOn.map {f : Txn → Txn} (a : Option Txn)
    (h : ∀ y, (f y).phase = y.phase ∧ (f y).endCause = y.endCause ∧ (f y).ramp = y.ramp ∧ (f y).driven = y.driven) :
    FallsOn a (a.map f) := by
  rintro y rfl hp
  obtain ⟨h1, h2, h3, h4⟩ := h y
  exact ⟨f y, rfl, h1.trans hp, h2, h3, h4⟩

theorem FallsOn.of_not {a b : Option Txn} (h : ∀ y, a = some y → y.phase ≠ .rampDown) : FallsOn a b :=
  fun y hy hp => absurd hp (h y hy)

/-- A field that has begun to fall goes on so where it is let fall by the normal ramp and for no cause. -/
theorem Txn.falls_normal (t : Txn) : (t.falls .normal none []).endCause = t.endCause ∧ (t.falls .normal none []).ramp = t.ramp ∧
    (t.falls .normal none []).driven = t.driven := by
  refine ⟨?_, ?_, ?_⟩
  · rw [Txn.falls]; cases t.endCause <;> rfl
  · rw [Txn.falls]; cases t.ramp <;> rfl
  · simp [Txn.falls]

/-- Every channel's account of its field stands, and every field that falls goes on falling, but for those of a list. -/
structure Spared (l : List Nat) (d e : Dev) : Prop where
  account : ∀ n, (e.ch n).account = (d.ch n).account
  falls   : ∀ n, n ∉ l → FallsOn (d.ch n).txn (e.ch n).txn

variable {d} {e f : Dev}

namespace Spared

variable {l : List Nat}

theorem refl (l : List Nat) (d : Dev) : Spared l d d := ⟨fun _ => rfl, fun _ _ => .of_eq rfl⟩

theorem trans (a : Spared l d e) (b : Spared l e f) : Spared l d f :=
  ⟨fun n => (b.account n).trans (a.account n), fun n h => (a.falls n h).trans (b.falls n h)⟩

theorem weaken (a : Spared [] d e) : Spared l d e := ⟨a.account, fun n _ => a.falls n List.not_mem_nil⟩

theorem cond (b : Bool) {g : Dev → Dev} (h : Spared l d (g d)) : Spared l d (d.cond b g) := by
  unfold Dev.cond; split
  · exact h
  · exact refl l d

theorem each {α : Type} (x : List α) {g : Dev → α → Dev} (h : ∀ d y, Spared l d (g d y)) : Spared l d (d.each x g) := by
  unfold Dev.each
  induction x generalizing d with
  | nil => exact refl l d
  | cons y t ih => exact (h d y).trans ih

theorem ofShows (l : List Nat) (h : Shows Ch.claim d e) : Spared l d e := ⟨h.account, fun n _ => .of_eq (h.txn n)⟩

theorem ofTold {L : List RegName} (l : List Nat) (h : Told L d e) : Spared l d e :=
  ⟨fun n => by rw [h.ch n]; rfl, fun n _ => .of_eq (by rw [h.ch n])⟩

theorem onAt (h : Spared l d e) (n : Nat) : (e.ch n).onAt = (d.ch n).onAt := congrArg Account.onAt (h.account n)
theorem duty (h : Spared l d e) (n : Nat) : (e.ch n).duty = (d.ch n).duty := congrArg Account.duty (h.account n)
theorem dutyAt (h : Spared l d e) (n : Nat) : (e.ch n).dutyAt = (d.ch n).dutyAt := congrArg Account.dutyAt (h.account n)
theorem limOld (h : Spared l d e) (n : Nat) : (e.ch n).limOld = (d.ch n).limOld := congrArg Account.limOld (h.account n)

/-- A change of a channel that leaves its account of the field, and its fall. -/
theorem modCh (d : Dev) (n : Nat) (g : Ch → Ch) (ha : ∀ c, (g c).account = c.account) (ht : ∀ c, FallsOn c.txn (g c).txn) :
    Spared l d (d.modCh n g) where
  account k := by
    by_cases h : n = k
    · subst h; rw [Dev.ch_modCh_same, ha]
    · rw [Dev.ch_modCh_other _ _ h]
  falls k _ := by
    by_cases h : n = k
    · subst h; rw [Dev.ch_modCh_same]; exact ht _
    · rw [Dev.ch_modCh_other _ _ h]; exact .of_eq rfl

/-- A change of the transaction of the channel that the list names. -/
theorem modChOf (d : Dev) (n : Nat) (g : Ch → Ch) (ha : ∀ c, (g c).account = c.account := by intro; rfl) : Spared [n] d (d.modCh n g) where
  account := (Shows.modCh (v := Ch.account) d n g ha).ch
  falls k hk := by rw [Dev.ch_modCh_other _ _ (Ne.symm (List.ne_of_not_mem_cons hk))]; exact .of_eq rfl

/-- A channel whose field did not fall loses none. -/
theorem ofIdle {n : Nat} (h : Spared [n] d e) (hn : ∀ y, (d.ch n).txn = some y → y.phase ≠ .rampDown) : Spared [] d e where
  account := h.account
  falls k _ := by
    by_cases hk : k = n
    · subst hk; exact .of_not hn
    · exact h.falls k (by simpa using hk)

end Spared

variable (d)

theorem spared_modTxn (l : List Nat) (n : Nat) (g : Txn → Txn)
    (h : ∀ y, (g y).phase = y.phase ∧ (g y).endCause = y.endCause ∧ (g y).ramp = y.ramp ∧ (g y).driven = y.driven) :
    Spared l d (d.modTxn n g) := .modCh d n _ (fun _ => rfl) fun c => .map c.txn h

theorem spared_modTxnOf (n : Nat) (g : Txn → Txn) : Spared [n] d (d.modTxn n g) := .modChOf d n _

theorem spared_rampDown_normal (n : Nat) : Spared [] d (d.rampDown n .normal none) where
  account := (shows_fall d n .normal none []).ch
  falls k _ := by
    by_cases hk : k = n
    · subst hk
      intro y hy hp
      obtain ⟨due, hz⟩ := Dev.txn_fall .normal none [] hy (.inr hp)
      obtain ⟨hcause, hramp, hdriven⟩ := y.falls_normal
      exact ⟨_, hz, rfl, hcause, hramp, hdriven⟩
    · exact .of_eq (d.txn_fall_other _ _ _ hk)

theorem phase_waiting_ne {y : Txn} (h : y.phase = .waiting) : y.phase ≠ .rampDown := by rw [h]; exact nofun
theorem phase_admitted_ne {y : Txn} (h : y.phase = .admitted) : y.phase ≠ .rampDown := by rw [h]; exact nofun

theorem spared_dropCal (n : Nat) : Spared [] d (d.dropCal n) := by
  unfold Dev.dropCal; split
  · next t ht =>
    split
    · exact .refl _ d
    · split
      · next hp =>
        have h : Spared [n] d (((d.unreserve n t.eRsv).modCh n fun c => { c with txn := none }).txnsMoved (pavOf n)) :=
          (Spared.ofShows _ (shows_unreserve d _ n t.eRsv)).trans ((Spared.modChOf _ n _).trans
            (.ofShows _ (shows_txnsMoved _ _ _)))
        refine h.ofIdle fun y hy => ?_
        obtain rfl : t = y := Option.some.inj (ht.symm.trans hy)
        exact hp.elim phase_waiting_ne phase_admitted_ne
      · exact spared_rampDown_normal d n
  · exact .refl _ d

theorem spared_endBorrow (l : List Nat) : Spared [] d (d.endBorrow l) :=
  .each l fun d n => .cond _ (.modCh d n _ (fun _ => rfl) fun c y hy hp => by
    refine ⟨y, ?_, hp, rfl, rfl, rfl⟩
    simp only [hy, Option.isSome_some, if_true])

theorem spared_calLeave (r : CalRun) : Spared [] d (d.calLeave r) := by
  unfold Dev.calLeave
  extract_lets c d1 d2 d3
  have h1 : Spared [] d d1 := .ofShows _ (.ofChans _ rfl rfl)
  have h2 : Spared [] d1 d2 := (Spared.each _ fun d n => spared_dropCal d n).trans (spared_endBorrow _ _)
  have h3 : Spared [] d2 d3 := .cond _ (.ofShows _ (shows_setFld d2 _ _ _ _ _))
  exact h1.trans (h2.trans (h3.trans (.cond _ (.ofShows _ ((shows_setFld d3 _ _ _ _ _).trans (shows_setFld _ _ _ _ _ _))))))

theorem spared_calAbort (n : Nat) (st : Status) : Spared [] d (d.calAbort n st) := by
  unfold Dev.calAbort; split
  · exact .refl _ d
  · extract_lets d1
    split
    · exact (spared_calLeave d _).trans (.ofTold _ (told_done _ _ _ _))
    · exact (spared_calLeave d _).trans (.ofTold _ (told_event _ _ _ _ _ _))

theorem spared_dropProbe (n : Nat) (hn : ∀ y, (d.ch n).txn = some y → y.phase ≠ .rampDown) : Spared [] d (d.dropProbe n) := by
  unfold Dev.dropProbe; split
  · refine Spared.ofIdle (n := n) ?_ hn
    extract_lets d1
    have h1 : Spared [n] d d1 := .ofShows _ (.ofChans _ rfl rfl)
    exact h1.trans
      ((Spared.modChOf d1 n _).trans (.ofShows _ (shows_txnsMoved _ _ _)))
  · exact .refl _ d

theorem spared_completeWork (n : Nat) (t : Txn) (st : Status) (b : CBody) : Spared [] d (d.completeWork n t st b) := by
  unfold Dev.completeWork; dsimp only
  refine Spared.trans (Spared.ofTold _ ((told_hostDone d t st b).trans ?_)) (spared_modTxn _ _ _ _ fun _ => ⟨rfl, rfl, rfl, rfl⟩)
  split
  · split
    · exact told_cycleReport _ n t st _ _
    · exact Told.refl _ _
  · split
    · exact ((told_output _ _ _ _ _).trans (told_completeE _ _ _)).trans (told_endRun _ _ _)
    · exact Told.refl _ _
  · split
    · exact (told_completeE _ _ _).trans (told_endRun _ _ _)
    · exact Told.refl _ _

theorem spared_refuse (n : Nat) (st : Status) (hn : ∀ y, (d.ch n).txn = some y → y.phase ≠ .rampDown) :
    Spared [] d (d.refuse n st) := by
  unfold Dev.refuse; split
  · next t _ =>
    split
    · exact (spared_dropCal d n).trans (spared_calAbort _ n st)
    · split
      · exact spared_dropProbe d n hn
      · refine Spared.ofIdle (n := n) ?_ hn
        extract_lets d1 d2
        have h1 : Spared [n] d d1 := (Spared.ofShows _ (shows_unreserve d _ n t.eRsv)).trans (spared_completeWork _ n t st _).weaken
        have h2 : Spared [n] d1 d2 := .cond _ (.ofTold _ (told_noFrameRegs _ _ _))
        exact (h1.trans h2).trans ((Spared.modChOf d2 n _).trans (.ofShows _ (shows_txnsMoved _ _ _)))
  · exact .refl _ d

theorem spared_backToWait (n : Nat) : Spared [] d (d.backToWait n) := by
  unfold Dev.backToWait; split
  · next t ht =>
    have hn (hp : t.phase = .admitted) : ∀ y, (d.ch n).txn = some y → y.phase ≠ .rampDown := by
      intro y hy
      obtain rfl : t = y := Option.some.inj (ht.symm.trans hy)
      exact phase_admitted_ne hp
    split
    · next h => exact spared_dropProbe d n (hn h.1)
    · split
      · next h =>
        refine Spared.ofIdle (n := n) ?_ (hn h)
        exact (Spared.ofShows _ (shows_unreserve d _ n t.eRsv)).trans
          ((spared_modTxnOf _ n _).trans (.ofShows _ (shows_txnsMoved _ _ _)))
      · exact .refl _ d
  · exact .refl _ d

theorem shows_markRefused (n : Nat) (t : Txn) (st : Status) : Shows Ch.claim d (d.markRefused n t st) := by
  unfold Dev.markRefused; split
  · exact .cond _ (shows_setFld d _ _ _ _ _)
  · exact .refl _ d

theorem spared_admitNow (n : Nat) (t : Txn) : Spared [n] d (d.admitNow n t) := by
  unfold Dev.admitNow
  extract_lets dr len d1 d2 d3
  have h1 : Shows Ch.claim d d1 := by
    simp only [d1]; split
    · exact shows_groupLoad d _ _ _
    · exact .refl _ d
  have h2 : Shows Ch.claim d1 d2 := by
    simp only [d2]; split
    · exact .refl _ d1
    · exact (shows_applyRate d1 _ _ _).claim
  have h3 : Spared [n] d2 d3 := (spared_modTxnOf d2 n _).trans (.ofShows _ (shows_setFld _ _ _ _ _ _))
  refine (Spared.ofShows _ (h1.trans h2)).trans (h3.trans ?_)
  exact (spared_modTxnOf d3 n _).trans (.ofShows _ (.ofChans _ rfl rfl))

/-- An attempt at admission (R344). -/
theorem spared_tryAdmit (n : Nat) : Spared [] d (d.tryAdmit n) := by
  unfold Dev.tryAdmit; split
  · exact .refl _ d
  · next t ht =>
    split
    · exact .refl _ d
    · next hw =>
      have hn : ∀ y, (d.ch n).txn = some y → y.phase ≠ .rampDown := by
        intro y hy
        obtain rfl : t = y := Option.some.inj (ht.symm.trans hy)
        exact phase_waiting_ne (not_not.1 hw)
      split
      · exact .refl _ d
      · split
        · next st _ =>
          have h : Shows Ch.claim d ((d.markRefused n t st).setFld F.CH_ADM_STAT_CAUSE n 0 0) :=
            (shows_markRefused d n t st).trans (shows_setFld _ _ _ _ _ _)
          exact (Spared.ofShows _ h).trans (spared_refuse _ n st fun y hy => hn y ((h.txn n).symm.trans hy))
        · extract_lets dr len other m m1
          split
          · exact (spared_admitNow d n t).ofIdle hn
          · exact .ofShows _ (shows_setFld d _ _ _ _ _)

/-- An admitted transaction judged again (R372). -/
theorem spared_recheck (n : Nat) : Spared [] d (d.recheck n) := by
  unfold Dev.recheck; split
  · exact .refl _ d
  · next t ht =>
    split
    · exact .refl _ d
    · next ha =>
      have hn : ∀ y, (d.ch n).txn = some y → y.phase ≠ .rampDown := by
        intro y hy
        obtain rfl : t = y := Option.some.inj (ht.symm.trans hy)
        exact phase_admitted_ne (not_not.1 ha)
      split
      · split
        · exact .refl _ d
        · exact spared_dropProbe d n hn
      · extract_lets uses
        split
        · exact spared_refuse d n _ hn
        · split
          · exact spared_refuse d n _ hn
          · split
            · exact spared_refuse d n _ hn
            · split
              · exact spared_refuse d n _ hn
              · split
                · exact spared_backToWait d n
                · exact .refl _ d

theorem spared_retry (p : Nat) : Spared [] d (d.retry p) :=
  (Spared.each _ fun d n => spared_recheck d n).trans (Spared.each _ fun d n => spared_tryAdmit d n)

/-- Judging every transaction again leaves every account of a field, and every field that falls (R349, R372). -/
theorem spared_retryAll : Spared [] d d.retryAll := Spared.each _ fun d p => spared_retry d p

end Sys2Proof.Machine
end

section
/-! PROOFS. The tuner, the limit and the duty account: what their writes and the end of a duty slice do. -/

namespace Sys2Proof.Machine

open Sys2Proof.Safety

variable (d : Dev)

/-! ### The tuner (R98, R104) -/

/-- A tuner value that waits is taken (R98). -/
theorem Dev.tuneNow_some {n a b : Nat} (h : (d.ch n).tunePend = some (a, b)) :
    d.tuneNow n = (((d.setFld F.CH_TUNE_SER n 0 a).setFld F.CH_TUNE_SHUNT n 0 b).setOn F.CH_TUNE_PENDING n 0 false).modCh n
      fun c => { c with tunePend := none } := by
  unfold Dev.tuneNow; rw [h]

@[simp] theorem Dev.setOn_coilOn (f : Fld) (i j : Nat) (b : Bool) (n : Nat) : (d.setOn f i j b).coilOn n = d.coilOn n := by
  rw [Dev.coilOn, Dev.coilOn, Dev.setOn, Dev.setFld_ch]; rfl

/-- A tuner value is held by the channel, and no step of the automatic tuner waits to be judged. -/
def Dev.holdTune (n v : Nat) : Dev :=
  d.modCh n fun c => { c with tunePend := some (bits v 0 7, bits v 8 6), retune := none }

theorem Dev.tuneWrite_up {n : Nat} (v : Nat) (h : d.coilOn n = true) : d.tuneWrite n v =
    ((d.setOn F.CH_TUNE_CTL_AUTO n 0 false).setOn F.CH_TUNE_PENDING n 0 true).holdTune n v := by
  simp only [Dev.tuneWrite, Dev.setOn_coilOn, h, if_true, Dev.holdTune]

theorem Dev.tuneWrite_off {n : Nat} (v : Nat) (h : d.coilOn n = false) : d.tuneWrite n v =
    ((d.setOn F.CH_TUNE_CTL_AUTO n 0 false).holdTune n v).tuneNow n := by
  simp only [Dev.tuneWrite, Dev.setOn_coilOn, h, Bool.false_eq_true, if_false, Dev.holdTune]

theorem Dev.tunePend_holdTune (n v : Nat) : ((d.holdTune n v).ch n).tunePend = some (bits v 0 7, bits v 8 6) := by
  rw [Dev.holdTune, Dev.ch_modCh_same]

@[simp] theorem Dev.holdTune_fld (n v : Nat) (f : Fld) (i j : Nat) : (d.holdTune n v).fld f i j = d.fld f i j := rfl
@[simp] theorem Dev.holdTune_on (n v : Nat) (f : Fld) (i j : Nat) : (d.holdTune n v).on f i j = d.on f i j := rfl

theorem Dev.ch_holdTune_other {n k : Nat} (v : Nat) (h : n ≠ k) : (d.holdTune n v).ch k = d.ch k := d.ch_modCh_other _ h

/-- The fields of a tuner register after a value was taken. -/
theorem Dev.fields_tuneNow {n a b : Nat} (h : (d.ch n).tunePend = some (a, b)) (ha : a < 2 ^ 7) (hb : b < 2 ^ 6) :
    (d.tuneNow n).fld F.CH_TUNE_SER n = a ∧ (d.tuneNow n).fld F.CH_TUNE_SHUNT n = b ∧
      (d.tuneNow n).on F.CH_TUNE_PENDING n = false := by
  rw [d.tuneNow_some h, Dev.modCh_fld, Dev.modCh_fld, Dev.modCh_on]
  refine ⟨?_, ?_, Dev.on_setOn_same _ _ _ _ _ (by decide) rfl⟩
  · rw [Dev.setOn, Dev.fld_setFld_disjoint _ F.CH_TUNE_PENDING F.CH_TUNE_SER n 0 _ rfl (by decide) (by decide),
      Dev.fld_setFld_disjoint _ F.CH_TUNE_SHUNT F.CH_TUNE_SER n 0 _ rfl (by decide) (by decide), Dev.fld_setFld_same _ _ _ _ _ (by decide)]
    exact Nat.mod_eq_of_lt ha
  · rw [Dev.setOn, Dev.fld_setFld_disjoint _ F.CH_TUNE_PENDING F.CH_TUNE_SHUNT n 0 _ rfl (by decide) (by decide),
      Dev.fld_setFld_same _ _ _ _ _ (by decide)]
    exact Nat.mod_eq_of_lt hb

theorem kept_tuneNow {L : List RegName} (n : Nat) (h : .CH_TUNE ∈ L) : Kept L d (d.tuneNow n) := by
  unfold Dev.tuneNow; split
  · exact (((kept_setFld L d F.CH_TUNE_SER n 0 _ h).trans (kept_setFld L _ F.CH_TUNE_SHUNT n 0 _ h)).trans
      (kept_setOn L _ F.CH_TUNE_PENDING n 0 _ h)).trans (kept_modCh L _ n _)
  · exact .refl L d

theorem kept_tuneWrite (n v : Nat) : Kept [.CH_TUNE, .CH_TUNE_CTL] d (d.tuneWrite n v) := by
  have hauto := kept_setOn [.CH_TUNE, .CH_TUNE_CTL] d F.CH_TUNE_CTL_AUTO n 0 false (by decide)
  cases hc : d.coilOn n with
  | true =>
    rw [d.tuneWrite_up v hc]
    exact (hauto.trans (kept_setOn _ _ F.CH_TUNE_PENDING n 0 true (by decide))).trans (kept_modCh _ _ n _)
  | false =>
    rw [d.tuneWrite_off v hc]
    exact (hauto.trans (kept_modCh _ _ n _)).trans (kept_tuneNow _ n (by decide))

theorem Dev.ch_tuneWrite_other {n k : Nat} (v : Nat) (h : n ≠ k) : (d.tuneWrite n v).ch k = d.ch k := by
  cases hc : d.coilOn n with
  | true =>
    rw [d.tuneWrite_up v hc, Dev.ch_holdTune_other _ _ h, Dev.setOn, Dev.setFld_ch, Dev.setOn, Dev.setFld_ch]
  | false =>
    rw [d.tuneWrite_off v hc, Dev.tuneNow_some _ (Dev.tunePend_holdTune _ n v), Dev.ch_modCh_other _ _ h, Dev.setOn, Dev.setFld_ch,
      Dev.setFld_ch, Dev.setFld_ch, Dev.ch_holdTune_other _ _ h, Dev.setOn, Dev.setFld_ch]

/-- A write of the tuner clears AUTO (R104). -/
theorem Dev.on_auto_tuneWrite (n v : Nat) : (d.tuneWrite n v).on F.CH_TUNE_CTL_AUTO n = false := by
  have hauto : (d.setOn F.CH_TUNE_CTL_AUTO n 0 false).on F.CH_TUNE_CTL_AUTO n = false := d.on_setOn_same _ _ _ _ (by decide) rfl
  cases hc : d.coilOn n with
  | true =>
    rw [d.tuneWrite_up v hc, Dev.holdTune_on, (kept_setOn [.CH_TUNE] _ F.CH_TUNE_PENDING n 0 true (by decide)).on _ _ _ (by decide), hauto]
  | false =>
    rw [d.tuneWrite_off v hc, (kept_tuneNow (L := [.CH_TUNE]) _ n (by decide)).on _ _ _ (by decide), Dev.holdTune_on, hauto]

/-! ### The limit (R96, R97, R376, R687) -/

/-- A plain write of a register whose refusal is shown elsewhere leaves in it what its fields take, one after the other (R8). -/
theorem Dev.rd_plainWrite (nv : NonVol) {r : RegName} (i j v : Nat) (h : r ≠ .SEC_STAT) :
    (d.plainWrite nv r i j v).rd r i j =
      (fieldRows r).foldl (fun (c : Nat) (f : FldRow) => f.put (nv.plainOpen f) c v) (d.rd r i j) % 2 ^ 32 := by
  unfold Dev.plainWrite
  extract_lets cur new d1
  have h1 : d1.rd r i j = cur := by
    simp only [d1]; split
    · exact d.rd_setFld_name _ _ _ _ _ _ _ (Ne.symm h)
    · rfl
  split
  · next he =>
    have hn : new % 2 ^ 32 = cur := by rw [he]; exact Nat.mod_eq_of_lt (d.rd_lt r i j)
    exact h1.trans hn.symm
  · exact d1.rd_wr_same _ _ _ _

theorem kept_plainWrite {L : List RegName} (nv : NonVol) (r : RegName) (i j v : Nat) (hr : r ∈ L) (hs : .SEC_STAT ∈ L) :
    Kept L d (d.plainWrite nv r i j v) := by
  unfold Dev.plainWrite
  extract_lets cur new d1
  have h1 : Kept L d d1 := by
    simp only [d1]; split
    · exact kept_setOn L d F.SEC_STAT_SEAL_REFUSED 0 0 _ hs
    · exact .refl L d
  split
  · exact h1
  · exact h1.trans (kept_wr L d1 r i j _ hr)

/-- A limit is taken from 1 to 1,000 mW while the regulatory fields are open (R376, R378). -/
theorem Dev.fld_pwrLim_plainWrite (nv : NonVol) (n v : Nat) :
    (d.plainWrite nv .CH_PWR_LIM n 0 v).fld F.CH_PWR_LIM_MW n =
      if nv.life = 1 ∧ nv.regLock = false ∧ 1 ≤ bits v 0 10 ∧ bits v 0 10 ≤ 1000 then bits v 0 10 else d.fld F.CH_PWR_LIM_MW n := by
  have hput : (fieldRows .CH_PWR_LIM).foldl (fun (c : Nat) (f : FldRow) => f.put (nv.plainOpen f) c v) (d.rd .CH_PWR_LIM n 0) =
      if nv.life = 1 ∧ nv.regLock = false ∧ 1 ≤ bits v 0 10 ∧ bits v 0 10 ≤ 1000
      then setBits (d.rd .CH_PWR_LIM n 0) 0 10 (bits v 0 10) else d.rd .CH_PWR_LIM n 0 := by
    simp only [fieldRows, List.foldl, FldRow.put, NonVol.plainOpen, inRange, F.CH_PWR_LIM_MW]
    by_cases hl : nv.life = 1 <;> by_cases hk : nv.regLock = false <;> simp [hl, hk]
  rw [Dev.fld]
  change bits ((d.plainWrite nv .CH_PWR_LIM n 0 v).rd .CH_PWR_LIM n 0) 0 10 = _
  rw [d.rd_plainWrite nv n 0 v (by decide), hput]
  split
  · rw [Nat.mod_eq_of_lt (setBits_lt (d.rd_lt _ _ _) (by decide)), bits_setBits_same]
    exact Nat.mod_eq_of_lt (bits_lt v 0 10)
  · rw [Nat.mod_eq_of_lt (d.rd_lt _ _ _)]; rfl

theorem kept_pulse (L : List RegName) (n : Nat) : Kept L d (d.pulse n) := by
  unfold Dev.pulse; split
  · split
    · split
      · exact kept_emit L d _
      · exact .refl L d
    · exact .refl L d
  · exact .refl L d

theorem kept_ceilTo {L : List RegName} (n lim mw : Nat) (h : .CH_FIELD_STAT ∈ L) : Kept L d (d.ceilTo n lim mw) :=
  ((kept_modCh L d n _).trans (kept_setOn L _ F.CH_FIELD_STAT_CEILING n 0 _ h)).trans (kept_pulse _ L n)

theorem shows_ceilTo (n lim mw : Nat) : Shows Ch.stance d (d.ceilTo n lim mw) :=
  ((Shows.modCh d n _).trans (shows_setFld _ _ F.CH_FIELD_STAT_CEILING n 0 _)).trans (shows_pulse _ _ n)

/-- What follows a change of the limit: the ceiling of a running field, and a second judgement of the pavilion's transactions. -/
theorem kept_limTail (n old : Nat) : Kept (.CH_FIELD_STAT :: admRegs) d (d.limTail n old) := by
  unfold Dev.limTail
  extract_lets d1 new mw
  exact (kept_modCh _ d n _).trans ((Kept.cond _ (kept_ceilTo d1 n new mw (by decide))).trans ((kept_retry _ _).mono (by decide)))

theorem spared_limTail (n old : Nat) :
    Spared [] (d.modCh n fun c => { c with limOld := some (old, d.nextWindow) }) (d.limTail n old) := by
  unfold Dev.limTail
  extract_lets d1 new mw
  exact (Spared.ofShows _ (Shows.cond _ (shows_ceilTo d1 n new mw).claim)).trans (spared_retry _ _)

theorem Dev.tc_le_nextWindow : d.tc ≤ d.nextWindow := by unfold Dev.nextWindow; omega

/-- The limiter keeps the older limit (R97). -/
theorem Dev.limNow_limTail (n old : Nat) : (d.limTail n old).limNow n = old := by
  have hold : ((d.limTail n old).ch n).limOld = some (old, d.nextWindow) := by
    rw [(spared_limTail d n old).limOld, Dev.ch_modCh_same]
  have htc : (d.limTail n old).tc = d.tc := congrArg TimeSt.tc (kept_limTail d n old).time
  simp only [Dev.limNow, hold, htc, if_pos d.tc_le_nextWindow]

theorem kept_limWrite (nv : NonVol) (n v : Nat) :
    Kept (admRegs ++ [.CH_PWR_LIM, .CH_FIELD_STAT, .SEC_STAT]) d (d.limWrite nv n v) := by
  rw [Dev.limWrite]
  exact (kept_plainWrite d nv .CH_PWR_LIM n 0 v (by decide) (by decide)).trans ((kept_limTail _ n _).mono (by decide))

/-! ### Duty (R352, R719) -/

/-- A channel's record with its duty accounted to a carrier cycle, or to the end of its ramp-down (R352). -/
def Ch.settled (c : Ch) (tc : Nat) : Ch :=
  { c with
    duty := (if c.onAt.isSome then addSpan c.duty c.dutyAt (min tc (c.downAt.getD tc)) tc else c.duty).filter
      fun x => decide (sliceFrom tc ≤ x.1)
    dutyAt := max c.dutyAt (min tc (c.downAt.getD tc)) }

theorem Dev.ch_settleDuty (n : Nat) : (d.settleDuty n).ch n = (d.ch n).settled d.tc := by
  rw [Dev.settleDuty, Dev.settleDutyTo, Dev.ch_modCh_same]; rfl

theorem Dev.ch_settleDuty_other {n k : Nat} (h : n ≠ k) : (d.settleDuty n).ch k = d.ch k := d.ch_modCh_other _ h

theorem Dev.ch_settleAll_other (l : List Nat) {k : Nat} (h : k ∉ l) : (d.each l fun d n => d.settleDuty n).ch k = d.ch k := by
  induction l generalizing d with
  | nil => rfl
  | cons n l ih =>
    obtain ⟨hn, hl⟩ := not_or.1 (mt List.mem_cons.2 h)
    exact (ih (d.settleDuty n) hl).trans (d.ch_settleDuty_other (Ne.symm hn))

/-- Where each channel's duty is accounted once, it is accounted as the channel's own is. -/
theorem Dev.ch_settleAll {l : List Nat} (hl : l.Nodup) {k : Nat} (h : k ∈ l) :
    (d.each l fun d n => d.settleDuty n).ch k = (d.ch k).settled d.tc := by
  induction l generalizing d with
  | nil => exact absurd h List.not_mem_nil
  | cons n l ih =>
    obtain ⟨hn, hnd⟩ := List.nodup_cons.1 hl
    rcases List.mem_cons.1 h with rfl | hk
    · exact ((d.settleDuty k).ch_settleAll_other l hn).trans (d.ch_settleDuty k)
    · have hne : n ≠ k := fun e => hn (e ▸ hk)
      exact (ih (d.settleDuty n) hnd hk).trans (congrArg (Ch.settled · d.tc) (d.ch_settleDuty_other hne))

theorem kept_settleAll (L : List RegName) (l : List Nat) : Kept L d (d.each l fun d n => d.settleDuty n) :=
  .each l fun d n => by unfold Dev.settleDuty Dev.settleDutyTo; exact kept_modCh L d n _

/-- A table holds the default for what it has no entry of. -/
theorem tblGet_of_not_mem {α : Type} {m : Tbl α} {k : Nat} (x : α) (h : k ∉ m.map (·.1)) : tblGet m k x = x := by
  induction m with
  | nil => rfl
  | cons e t ih =>
    obtain ⟨k', v⟩ := e
    obtain ⟨hk, ht⟩ := not_or.1 (mt List.mem_cons.2 h)
    simp only [tblGet, if_neg (Ne.symm hk), ih ht]

theorem Dev.mem_chanKeys_of_onAt {n : Nat} (h : (d.ch n).onAt.isSome) : n ∈ d.chanKeys := by
  by_contra hn
  rw [Dev.ch, tblGet_of_not_mem {} hn] at h
  exact absurd h (by decide)

/-- An interval of the grid whose end has come ends now (R719). -/
theorem Dev.gridEnd_of_due {len last : Nat} (hl : 0 < len) (h : d.gridEnd len last ≤ d.tc) : d.gridEnd len last = d.tc := by
  have hceil := le_smul_ceilDiv hl (b := d.tc)
  rw [Nat.ceilDiv_eq_add_pred_div, smul_eq_mul, Nat.mul_comm len] at hceil
  exact le_antisymm h (hceil.trans (le_max_left _ _))

/-- A slice of the grid has ended at the present cycle. -/
def Dev.sliceEnded : Dev := { d with time := { d.time with sliceAt := d.tc } }

end Sys2Proof.Machine

namespace Sys2Proof.Proofs

open Sys2Proof.Machine Sys2Proof.Safety

/-- A change of the volatile state that is kept leaves the queue and the persistent memory. -/
theorem works_of_kept {L : List RegName} (s : State) {e : Dev} (h : Kept L s.dev e) : Works L s { s with dev := e } := ⟨rfl, rfl, h⟩

theorem does_tuneWrite (ch : Fin 192) (v : Word) (s : State) : Does (.tuneWrite ch v) s fun t =>
    t.dev.on F.CH_TUNE_CTL_AUTO ch = false ∧
    (s.dev.coilOn ch = false →
      t.dev.fld F.CH_TUNE_SER ch = bits v.toNat 0 7 ∧ t.dev.fld F.CH_TUNE_SHUNT ch = bits v.toNat 8 6 ∧
      t.dev.on F.CH_TUNE_PENDING ch = false ∧ (t.dev.ch ch).tunePend = none) ∧
    (s.dev.coilOn ch = true →
      t.dev.fld F.CH_TUNE_SER ch = s.dev.fld F.CH_TUNE_SER ch ∧ t.dev.fld F.CH_TUNE_SHUNT ch = s.dev.fld F.CH_TUNE_SHUNT ch ∧
      t.dev.on F.CH_TUNE_PENDING ch = true ∧ (t.dev.ch ch).tunePend = some (bits v.toNat 0 7, bits v.toNat 8 6)) ∧
    ChansStand [ch] s t ∧ Works [.CH_TUNE, .CH_TUNE_CTL] s t := by
  refine ⟨{ s with dev := s.dev.tuneWrite ch v.toNat }, rfl, ?_⟩
  dsimp only
  generalize v.toNat = w
  refine ⟨s.dev.on_auto_tuneWrite ch w, fun hoff => ?_, fun hup => ?_, fun k hk => ?_, works_of_kept s (kept_tuneWrite s.dev ch w)⟩
  · rw [s.dev.tuneWrite_off w hoff]
    have hpend := (s.dev.setOn F.CH_TUNE_CTL_AUTO ch 0 false).tunePend_holdTune ch w
    obtain ⟨hser, hshunt, hpending⟩ := Dev.fields_tuneNow _ hpend (bits_lt w 0 7) (bits_lt w 8 6)
    refine ⟨hser, hshunt, hpending, ?_⟩
    rw [Dev.tuneNow_some _ hpend, Dev.ch_modCh_same]
  · rw [s.dev.tuneWrite_up w hup, Dev.holdTune_fld, Dev.holdTune_fld, Dev.holdTune_on]
    have hbeside (f : Fld) (hr : f.reg = .CH_TUNE) (hf : f.lo + f.w ≤ 16) :
        ((s.dev.setOn F.CH_TUNE_CTL_AUTO ch 0 false).setOn F.CH_TUNE_PENDING ch 0 true).fld f ch = s.dev.fld f ch := by
      rw [Dev.setOn, Dev.fld_setFld_disjoint _ F.CH_TUNE_PENDING f ch 0 _ hr.symm (by decide) (.inl hf)]
      exact s.dev.fld_setFld_name _ _ _ _ _ _ _ (by rw [hr]; decide)
    exact ⟨hbeside F.CH_TUNE_SER rfl (by decide), hbeside F.CH_TUNE_SHUNT rfl (by decide),
      Dev.on_setOn_same _ _ _ _ _ (by decide) rfl, Dev.tunePend_holdTune _ ch w⟩
  · exact s.dev.ch_tuneWrite_other w (Ne.symm (List.ne_of_not_mem_cons hk))

theorem does_pwrLimWrite (ch : Fin 192) (v : Word) (s : State) : Does (.pwrLimWrite ch v) s fun t =>
    t.dev.fld F.CH_PWR_LIM_MW ch = (if s.nv.life = 1 ∧ s.nv.regLock = false ∧ 1 ≤ bits v.toNat 0 10 ∧ bits v.toNat 0 10 ≤ 1000
      then bits v.toNat 0 10 else s.dev.fld F.CH_PWR_LIM_MW ch) ∧
    t.dev.limNow ch = s.dev.limNow ch ∧ Works (admRegs ++ [.CH_PWR_LIM, .CH_FIELD_STAT, .SEC_STAT]) s t := by
  refine ⟨{ s with dev := s.dev.limWrite s.nv ch v.toNat }, rfl, ?_⟩
  dsimp only
  refine ⟨?_, ?_, works_of_kept s (kept_limWrite _ _ _ _)⟩
  · rw [Dev.limWrite, (kept_limTail _ _ _).fld _ _ _ (by decide), Dev.fld_pwrLim_plainWrite]
  · rw [Dev.limWrite, Dev.limNow_limTail]

theorem exec_dutySliceEnd_due (s : State) (h : s.dev.gridEnd tcMs s.dev.time.sliceAt ≤ s.dev.tc) :
    exec .dutySliceEnd s =
      .next { s with dev := (s.dev.sliceEnded.each s.dev.chanKeys fun d n => d.settleDuty n).retryAll } := by
  change execDutySliceEnd s = _
  have he := s.dev.gridEnd_of_due (by decide) h
  simp only [execDutySliceEnd, onDev, he, s.dev.runTo_past _ (le_refl _)]
  rfl

theorem does_dutySliceEnd (s : State) (hkeys : s.dev.chanKeys.Nodup) (hdue : s.dev.gridEnd tcMs s.dev.time.sliceAt ≤ s.dev.tc) :
    Does .dutySliceEnd s fun t =>
    (∀ n, (s.dev.ch n).onAt.isSome → (t.dev.ch n).onAt = (s.dev.ch n).onAt ∧
      (t.dev.ch n).duty = ((s.dev.settleDuty n).ch n).duty ∧
      (t.dev.ch n).dutyAt = max (s.dev.ch n).dutyAt (min s.dev.tc ((s.dev.ch n).downAt.getD s.dev.tc))) ∧
    t.dev.time = { s.dev.time with sliceAt := s.dev.tc } ∧ Works admRegs { s with dev := { s.dev with time := t.dev.time } } t := by
  refine ⟨_, exec_dutySliceEnd_due s hdue, ?_⟩
  dsimp only
  have hkept := (kept_settleAll s.dev.sliceEnded admRegs s.dev.chanKeys).trans (kept_retryAll _)
  have htime := hkept.time
  refine ⟨fun n hn => ?_, htime, ?_⟩
  · have hacc := spared_retryAll (s.dev.sliceEnded.each s.dev.chanKeys fun d n => d.settleDuty n)
    rw [hacc.onAt, hacc.duty, hacc.dutyAt, s.dev.sliceEnded.ch_settleAll hkeys (s.dev.mem_chanKeys_of_onAt hn), s.dev.ch_settleDuty]
    exact ⟨rfl, rfl, rfl⟩
  · rw [htime]
    exact works_of_kept { s with dev := s.dev.sliceEnded } hkept

/-- Settles O10: a tuner value is held and taken at once where the field is off, a limit is one field's write with the older one held to the
window, and a slice accounts each channel once; judging transactions again leaves every account (`spared_retryAll`). -/
theorem limitAndTuner : Obligations.LimitAndTuner := ⟨does_tuneWrite, does_pwrLimWrite, does_dutySliceEnd⟩

end Sys2Proof.Proofs
end

section
/-! PROOFS. Field starts: what raising a coil, staging a first frame and starting a probe do. -/

namespace Sys2Proof.Machine

open Sys2Proof.Safety

variable (d : Dev)

/-! ### A coil rises (R85, R89) -/

/-- A channel's record with its coil's field up for a leader since a carrier cycle. -/
def Ch.raised (c : Ch) (leader tc : Nat) : Ch :=
  { c with fieldOf := some leader, parking := false, downAt := none, onAt := some tc, dutyAt := tc, offAt := none, drive := {} }

theorem Dev.ch_coilRise (leader n : Nat) (o : Output) : (d.coilRise leader n o).ch n = (d.ch n).raised leader d.tc := by
  rw [Dev.coilRise, Dev.emit_ch, Dev.setFld_ch, Dev.ch_modCh_same]; rfl

theorem Dev.ch_coilRise_other (leader : Nat) {n k : Nat} (o : Output) (h : n ≠ k) : (d.coilRise leader n o).ch k = d.ch k := by
  rw [Dev.coilRise, Dev.emit_ch, Dev.setFld_ch, Dev.ch_modCh_other _ _ h]

theorem kept_coilRise {L : List RegName} (leader n : Nat) (o : Output) (h : .CH_PWR_MEAS ∈ L) : Kept L d (d.coilRise leader n o) :=
  ((kept_modCh L d n _).trans (kept_setFld L _ F.CH_PWR_MEAS_PEAK n 0 0 h)).trans (kept_emit L _ o)

/-- A field of the same register elsewhere stands. -/
theorem Dev.fld_setFld_inst (f g : Fld) {i k : Nat} (j l v : Nat) (hr : f.reg = g.reg) (hi : i < 256) (hk : k < 256) (h : i ≠ k) :
    (d.setFld f i j v).fld g k l = d.fld g k l := by
  have hrd : (d.setFld f i j v).rd g.reg k l = d.rd g.reg k l := d.rd_wr_other _ (by rw [hr]; exact regKey_ne_inst _ j l hi hk h)
  rw [Dev.fld, hrd, Dev.fld]

theorem Dev.peak_coilRise (leader n : Nat) (o : Output) : (d.coilRise leader n o).fld F.CH_PWR_MEAS_PEAK n = 0 := by
  rw [Dev.coilRise, Dev.emit_fld, Dev.fld_setFld_same _ _ _ _ _ (by decide)]; rfl

theorem Dev.peak_coilRise_other (leader : Nat) {n k : Nat} (o : Output) (hn : n < 192) (hk : k < 192) (h : n ≠ k) :
    (d.coilRise leader n o).fld F.CH_PWR_MEAS_PEAK k = d.fld F.CH_PWR_MEAS_PEAK k := by
  rw [Dev.coilRise, Dev.emit_fld, Dev.fld_setFld_inst _ _ _ _ _ _ rfl (by omega) (by omega) h, Dev.modCh_fld]

/-- Setting a pulse width sends at most one thing, and changes nothing else. -/
theorem Dev.pulse_only (n : Nat) : ∃ l, d.pulse n = { d with out := d.out ++ l } := by
  have hnone : ∃ l, d = { d with out := d.out ++ l } := ⟨[], by rw [List.append_nil]⟩
  unfold Dev.pulse; split
  · split
    · split
      · exact ⟨_, rfl⟩
      · exact hnone
    · exact hnone
  · exact hnone

@[simp] theorem Dev.pulse_ch (n k : Nat) : (d.pulse n).ch k = d.ch k := by obtain ⟨l, h⟩ := d.pulse_only n; rw [h]; rfl
@[simp] theorem Dev.pulse_arb (n a : Nat) : (d.pulse n).arb a = d.arb a := by obtain ⟨l, h⟩ := d.pulse_only n; rw [h]; rfl
@[simp] theorem Dev.pulse_tc (n : Nat) : (d.pulse n).tc = d.tc := by obtain ⟨l, h⟩ := d.pulse_only n; rw [h]; rfl
@[simp] theorem Dev.pulse_fld (n : Nat) (f : Fld) (i j : Nat) : (d.pulse n).fld f i j = d.fld f i j := by
  obtain ⟨l, h⟩ := d.pulse_only n; rw [h]; rfl

theorem Dev.mem_out_pulse {o : Output} (n : Nat) (h : o ∈ d.out) : o ∈ (d.pulse n).out := by
  obtain ⟨l, hl⟩ := d.pulse_only n
  rw [hl]; exact List.mem_append_left l h

/-! ### The coils of a transaction rise -/

/-- Coils rise for a leader, each at the pulse width of its setpoint (R72, R85). -/
def Dev.raiseAll (leader : Nat) (l : List Nat) : Dev := d.each l fun d k => (d.coilUp leader k).pulse k

/-- One coil rises at its pulse width. -/
theorem Dev.ch_coilUp_pulse (leader n : Nat) : ((d.coilUp leader n).pulse n).ch n = (d.ch n).raised leader d.tc := by
  rw [Dev.pulse_ch, Dev.coilUp, Dev.ch_coilRise]

theorem Dev.ch_coilUp_pulse_other (leader : Nat) {n k : Nat} (h : n ≠ k) : ((d.coilUp leader n).pulse n).ch k = d.ch k := by
  rw [Dev.pulse_ch, Dev.coilUp, Dev.ch_coilRise_other _ _ _ h]

theorem Dev.tc_coilUp_pulse (leader n : Nat) : ((d.coilUp leader n).pulse n).tc = d.tc := Dev.pulse_tc _ n

theorem kept_raiseAll (leader : Nat) (l : List Nat) : Kept [.CH_PWR_MEAS] d (d.raiseAll leader l) :=
  .each l fun d k => (kept_coilRise d leader k _ (by decide)).trans (kept_pulse _ _ k)

theorem Dev.ch_raiseAll_other (leader : Nat) {l : List Nat} {k : Nat} (h : k ∉ l) : (d.raiseAll leader l).ch k = d.ch k := by
  induction l generalizing d with
  | nil => rfl
  | cons n l ih =>
    obtain ⟨hn, hl⟩ := not_or.1 (mt List.mem_cons.2 h)
    exact (ih _ hl).trans (d.ch_coilUp_pulse_other leader (Ne.symm hn))

theorem Dev.ch_raiseAll (leader : Nat) {l : List Nat} {k : Nat} (h : k ∈ l) :
    (d.raiseAll leader l).ch k = (d.ch k).raised leader d.tc := by
  induction l generalizing d with
  | nil => exact absurd h List.not_mem_nil
  | cons n l ih =>
    change (((d.coilUp leader n).pulse n).raiseAll leader l).ch k = _
    by_cases hl : k ∈ l
    · rw [ih _ hl, Dev.tc_coilUp_pulse]
      by_cases hn : n = k
      · subst hn; rw [Dev.ch_coilUp_pulse]; rfl
      · rw [Dev.ch_coilUp_pulse_other _ _ hn]
    · obtain rfl : k = n := (List.mem_cons.1 h).resolve_right hl
      rw [Dev.ch_raiseAll_other _ _ hl, Dev.ch_coilUp_pulse]

/-- A field's start clears the peak power of its coils (R77). -/
theorem Dev.peak_raiseAll (leader : Nat) {l : List Nat} (hl : ∀ n ∈ l, n < 192) {k : Nat} (hk : k < 192)
    (h : k ∈ l ∨ d.fld F.CH_PWR_MEAS_PEAK k = 0) : (d.raiseAll leader l).fld F.CH_PWR_MEAS_PEAK k = 0 := by
  induction l generalizing d with
  | nil => exact h.resolve_left List.not_mem_nil
  | cons n l ih =>
    refine ih ((d.coilUp leader n).pulse n) (fun m hm => hl m (List.mem_cons_of_mem _ hm)) ?_
    rw [Dev.pulse_fld, Dev.coilUp]
    by_cases hn : n = k
    · subst hn; exact .inr (d.peak_coilRise leader n _)
    · rw [d.peak_coilRise_other leader _ (hl n List.mem_cons_self) hk hn]
      exact h.imp_left fun hm => (List.mem_cons.1 hm).resolve_left (Ne.symm hn)

theorem kept_agcJoin {L : List RegName} (n : Nat) (h : .CH_RX_AGC ∈ L) : Kept L d (d.agcJoin n) :=
  .each _ fun d k => kept_setFld L d F.CH_RX_AGC_STATE k 0 _ h

@[simp] theorem Dev.agcJoin_ch (n k : Nat) : (d.agcJoin n).ch k = d.ch k :=
  (Shows.each _ fun d _ => shows_setFld d (fun c => c) _ _ _ _ : Shows (fun c => c) d (d.agcJoin n)).ch k

/-! ### The first frame (R118, R238, R241) -/

theorem Dev.ch_setSrc_other {n k : Nat} (x : Nat) (h : n ≠ k) : (d.setSrc n x).ch k = d.ch k := by
  unfold Dev.setSrc; split
  · rfl
  · rw [Dev.ch_modCh_other _ _ h, Dev.setFld_ch]

theorem Dev.ch_applyRate_other {n k : Nat} (t : Tech) (r : Nat) (h : n ≠ k) : (d.applyRate n t r).ch k = d.ch k := by
  unfold Dev.applyRate Dev.applyStd; split
  · extract_lets b d1 d2 d3
    have h3 : d3.ch k = d.ch k := by
      simp only [d3, d2, d1, Dev.setOn]
      rw [Dev.ch_modCh_other _ _ h, Dev.wr_ch, Dev.setFld_ch, Dev.setFld_ch, Dev.setFld_ch, d.ch_setSrc_other _ h]
    have h4 := (shows_loadBank d3 (fun c => c) n (!b) (firCoef (stdSetting t r).2)).ch k
    exact h4.trans h3
  · rfl

/-- The receive chain takes the setting of a frame's technology and rate, where they are not its transaction's. -/
def Dev.rated (n : Nat) (t : Txn) (f : AirFrame) : Dev :=
  if f.tech = t.tech ∧ f.rxRate = t.rxRate then d else d.applyRate n f.tech f.rxRate

theorem shows_rated (n : Nat) (t : Txn) (f : AirFrame) : Shows Ch.stance d (d.rated n t f) := by
  unfold Dev.rated; split
  · exact .refl _ d
  · exact shows_applyRate d n _ _

theorem kept_rated (n : Nat) (t : Txn) (f : AirFrame) : Kept admRegs d (d.rated n t f) := by
  unfold Dev.rated; split
  · exact .refl _ d
  · exact kept_applyRate d n _ _

theorem Dev.ch_rated_other {n k : Nat} (t : Txn) (f : AirFrame) (h : n ≠ k) : (d.rated n t f).ch k = d.ch k := by
  unfold Dev.rated; split
  · rfl
  · exact d.ch_applyRate_other _ _ h

/-- From a device to another only a channel's own transaction and receive chain have changed, and registers of a list: every account of
a field stands. -/
structure OwnWork (L : List RegName) (n : Nat) (d e : Dev) : Prop where
  account : ∀ k, (e.ch k).account = (d.ch k).account
  others  : ∀ k, n ≠ k → e.ch k = d.ch k
  kept    : Kept L d e

theorem OwnWork.trans {L : List RegName} {n : Nat} {d e f : Dev} (a : OwnWork L n d e) (b : OwnWork L n e f) : OwnWork L n d f :=
  ⟨fun k => (b.account k).trans (a.account k), fun k h => (b.others k h).trans (a.others k h), a.kept.trans b.kept⟩

theorem ownWork_modTxn (L : List RegName) (n : Nat) (g : Txn → Txn) : OwnWork L n d (d.modTxn n g) :=
  ⟨(shows_modTxn d n g).ch, fun _ h => d.ch_modTxn_other g (Ne.symm h), kept_modTxn L d n g⟩

theorem ownWork_rated (n : Nat) (t : Txn) (f : AirFrame) : OwnWork admRegs n d (d.rated n t f) :=
  ⟨(shows_rated d n t f).claim.account, fun _ h => d.ch_rated_other t f h, kept_rated d n t f⟩

/-- A transaction with a frame staged: the frame carries its bytes and starts no sooner than the sequencer lets it. -/
structure FrameWaits (t : Txn) (f : AirFrame) (y : Txn) : Prop where
  phase     : y.phase = t.phase
  tUp       : y.tUp = t.tUp
  driven    : y.driven = t.driven
  eRsv      : y.eRsv = t.eRsv
  notBefore : y.notBefore = t.notBefore
  air       : y.air = .staged
  data      : y.frame.map (·.data) = some f.data
  due       : y.notBefore ≤ y.dueTc

/-- Staging a frame sets the receive chain and changes its transaction. -/
theorem Dev.stage_eq {n : Nat} {t : Txn} (f : AirFrame) (ht : (d.ch n).txn = some t) :
    ∃ g : Txn → Txn, d.stage n f = (d.rated n t f).modTxn n g ∧ FrameWaits t f (g t) := by
  unfold Dev.stage
  rw [ht]
  exact ⟨_, rfl, rfl, rfl, rfl, rfl, rfl, rfl, rfl, le_max_right _ _⟩

theorem ownWork_stage {n : Nat} {t : Txn} (f : AirFrame) (ht : (d.ch n).txn = some t) : OwnWork admRegs n d (d.stage n f) := by
  obtain ⟨g, heq, -⟩ := d.stage_eq f ht
  rw [heq]
  exact (ownWork_rated d n t f).trans (ownWork_modTxn _ _ n g)

theorem Dev.txn_stage {n : Nat} {t : Txn} (f : AirFrame) (ht : (d.ch n).txn = some t) :
    ∃ y, ((d.stage n f).ch n).txn = some y ∧ FrameWaits t f y := by
  obtain ⟨g, heq, hg⟩ := d.stage_eq f ht
  refine ⟨g t, ?_, hg⟩
  rw [heq, Dev.txn_modTxn, (shows_rated d n t f).claim.txn, ht]; rfl

/-- The carrier cycle before which no frame of a field that starts now may start: that of the ramp's and the field guard's end (R241). -/
def Dev.guardEnd (n : Nat) : Nat := d.tc + d.fld F.CH_RAMP_UP n + usTc (d.fld F.PAV_SEQ_FIELD_GT_US (pavOf n))

/-- No frame of a channel's transaction starts before the field guard's end (R241). -/
def Dev.guarded (n : Nat) : Dev := d.modTxn n fun t => { t with notBefore := d.guardEnd n, endTc := 0 }

theorem Dev.txn_guarded {n : Nat} {t : Txn} (ht : (d.ch n).txn = some t) :
    ((d.guarded n).ch n).txn = some { t with notBefore := d.guardEnd n, endTc := 0 } := by
  rw [Dev.guarded, Dev.txn_modTxn, ht]; rfl

theorem Dev.firstFrame_cal {n : Nat} {t : Txn} (ht : (d.ch n).txn = some t) (hw : t.work = .cal) : d.firstFrame n = d.guarded n := by
  simp only [Dev.firstFrame, ht, hw]; rfl

theorem Dev.firstFrame_exchange {n : Nat} {t : Txn} {f : AirFrame} (ht : (d.ch n).txn = some t) (hw : t.work = .exchange)
    (hf : t.frame = some f) : d.firstFrame n = (d.guarded n).stage n f := by
  simp only [Dev.firstFrame, ht, hw, hf]; rfl

/-! ### The field of an admitted transaction starts (R343, R372) -/

/-- A transaction whose field is up from a carrier cycle. -/
def Txn.upAt (x : Txn) (tc : Nat) : Txn := { x with phase := .up, tUp := tc }

/-- The device with the field of a channel's transaction up and its gain control joined, before its first frame. -/
def Dev.fieldRaised (n : Nat) (l : List Nat) : Dev := ((d.modTxn n fun t => t.upAt d.tc).raiseAll n l).agcJoin n

/-- An admitted transaction whose conditions hold stands a second judgement (R372). -/
theorem Dev.recheck_of_stillFit {n : Nat} {x : Txn} (ht : (d.ch n).txn = some x) (hp : x.phase = .admitted) (hw : x.work ≠ .pilot)
    (hfit : StillFit d n x) : d.recheck n = d := by
  obtain ⟨hnom, huses, hdip, hsyn, hen, hperm⟩ := hfit
  have hiso : (d.useChans n x).any d.isolated = false := List.any_eq_false.2 fun k hk => by simp [(huses k hk).1]
  have hlock : (d.useChans n x).any (fun k => !d.enLock k) = false := List.any_eq_false.2 fun k hk => by simp [(huses k hk).2.1]
  have htrip : (d.useChans n x).any (fun k => d.on F.CH_LIM_STAT_TRIP k || d.on F.CH_FEN_STAT_CHAIN_FAULT k) = false :=
    List.any_eq_false.2 fun k hk => by simp [(huses k hk).2.2]
  have hctl : x.driven.any (fun k => !d.on F.CH_TX_CTL_EN k.ch) = false := List.any_eq_false.2 fun k hk => by simp [hen k hk]
  simp [Dev.recheck, ht, hp, hw, hnom, hiso, hlock, htrip, hdip, hsyn, hctl, hperm]

theorem Dev.fieldStart_eq {n : Nat} {x : Txn} (ht : (d.ch n).txn = some x) (hp : x.phase = .admitted) (hw : x.work ≠ .pilot)
    (hfit : StillFit d n x) (hlead : d.leadLeft (pavOf n) = 0) : d.fieldStart n = (d.fieldRaised n x.coils).firstFrame n := by
  have hnow : (d.runTo (d.tc + d.leadLeft (pavOf n))).recheck n = d := by
    rw [d.runTo_past _ (by omega), d.recheck_of_stillFit ht hp hw hfit]
  simp only [Dev.fieldStart, hnow, ht, if_pos hp]; rfl

section Raised

variable {d} {n : Nat} {l : List Nat}

theorem kept_fieldRaised : Kept (admRegs ++ [.CH_PWR_MEAS]) d (d.fieldRaised n l) :=
  ((kept_modTxn _ d n _).trans ((kept_raiseAll _ n l).mono (by decide))).trans (kept_agcJoin _ n (by decide))

theorem Dev.tc_fieldRaised : (d.fieldRaised n l).tc = d.tc := congrArg TimeSt.tc kept_fieldRaised.time

theorem Dev.guardEnd_fieldRaised : (d.fieldRaised n l).guardEnd n = d.guardEnd n := by
  rw [Dev.guardEnd, Dev.tc_fieldRaised, kept_fieldRaised.fld _ _ _ (by decide), kept_fieldRaised.fld _ _ _ (by decide), Dev.guardEnd]

theorem Dev.ch_fieldRaised {k : Nat} (h : k ∈ l) :
    ((d.fieldRaised n l).ch k).account = ((d.ch k).raised n d.tc).account := by
  have hmod := (shows_modTxn d n fun t => t.upAt d.tc).ch k
  rw [Dev.fieldRaised, Dev.agcJoin_ch, Dev.ch_raiseAll _ _ h]
  exact congrArg (fun a : Account => { a with fieldOf := some n, parking := false, onAt := some d.tc, dutyAt := d.tc }) hmod

theorem Dev.ch_fieldRaised_other {k : Nat} (hn : n ≠ k) (h : k ∉ l) : (d.fieldRaised n l).ch k = d.ch k := by
  rw [Dev.fieldRaised, Dev.agcJoin_ch, Dev.ch_raiseAll_other _ _ h, Dev.ch_modTxn_other _ _ (Ne.symm hn)]

theorem Dev.txn_fieldRaised {x : Txn} (ht : (d.ch n).txn = some x) : ((d.fieldRaised n l).ch n).txn = some (x.upAt d.tc) := by
  have hup : ((d.modTxn n fun t => t.upAt d.tc).ch n).txn = some (x.upAt d.tc) := by rw [Dev.txn_modTxn, ht]; rfl
  rw [Dev.fieldRaised, Dev.agcJoin_ch]
  by_cases h : n ∈ l
  · rw [Dev.ch_raiseAll _ _ h]; exact hup
  · rw [Dev.ch_raiseAll_other _ _ h]; exact hup

theorem Dev.peak_fieldRaised (hl : ∀ m ∈ l, m < 192) {k : Nat} (h : k ∈ l) : (d.fieldRaised n l).fld F.CH_PWR_MEAS_PEAK k = 0 := by
  rw [Dev.fieldRaised, (kept_agcJoin (L := [.CH_RX_AGC]) _ n (by decide)).fld _ _ _ (by decide)]
  exact Dev.peak_raiseAll _ n hl (hl k h) (.inl h)

end Raised

/-! ### A pilot probe starts (R180, R184) -/

/-- The first probe left of a batch starts where its conditions hold (R184, R372). -/
theorem Dev.nextProbe_up {a k : Nat} {l : List Nat} {x : Txn} (ht : (d.ch (8 * a + k)).txn = some x) (harb : d.arbProbes a = true)
    (hrole : (d.ch (8 * a + k)).role.probes = true) (hold : d.probeHolds (8 * a + k) x = true) :
    d.nextProbe a (k :: l) = d.probeUp (8 * a + k) := by
  simp only [Dev.nextProbe, ht, harb, hrole, hold, Bool.and_self, if_true]

/-- The device with the taps' gains of a probe held and its transaction up, before its coil rises. -/
def Dev.probeReady (n : Nat) : Dev :=
  (d.modArb (arbOf n) fun x => { x with gains := d.tapGains (arbOf n) (n % 8) }).modTxn n fun t => t.upAt d.tc

theorem Dev.probeUp_eq (n : Nat) : d.probeUp n = ((d.probeReady n).coilRise n n (.ramp n true .normal true 16)).pulse n := rfl

theorem kept_probeUp (n : Nat) : Kept [.CH_PWR_MEAS] d (d.probeUp n) := by
  rw [Dev.probeUp_eq]
  exact (((kept_modArb _ d _ _).trans (kept_modTxn _ _ n _)).trans (kept_coilRise _ n n _ (by decide))).trans (kept_pulse _ _ n)

theorem Dev.ch_probeUp (n : Nat) : (d.probeUp n).ch n = ((d.probeReady n).ch n).raised n d.tc := by
  rw [Dev.probeUp_eq, Dev.pulse_ch, Dev.ch_coilRise]; rfl

theorem Dev.ch_probeUp_other {n k : Nat} (h : n ≠ k) : (d.probeUp n).ch k = d.ch k := by
  rw [Dev.probeUp_eq, Dev.pulse_ch, Dev.ch_coilRise_other _ _ _ h, Dev.probeReady, Dev.ch_modTxn_other _ _ (Ne.symm h), Dev.modArb_ch]

theorem Dev.txn_probeReady (n : Nat) : ((d.probeReady n).ch n).txn = (d.ch n).txn.map fun t => t.upAt d.tc := by
  rw [Dev.probeReady, Dev.txn_modTxn, Dev.modArb_ch]

theorem Dev.peak_probeUp (n : Nat) : (d.probeUp n).fld F.CH_PWR_MEAS_PEAK n = 0 := by
  rw [Dev.probeUp_eq, Dev.pulse_fld, Dev.peak_coilRise]

theorem Dev.arb_probeUp (n : Nat) : ((d.probeUp n).arb (arbOf n)).gains = d.tapGains (arbOf n) (n % 8) := by
  rw [Dev.probeUp_eq, Dev.pulse_arb]
  change ((d.modArb (arbOf n) fun x => { x with gains := d.tapGains (arbOf n) (n % 8) }).arb (arbOf n)).gains = _
  rw [Dev.arb_modArb_same]

theorem Dev.ramp_probeUp (n : Nat) : .ramp n true .normal true 16 ∈ (d.probeUp n).out := by
  rw [Dev.probeUp_eq]
  exact Dev.mem_out_pulse _ n (List.mem_append_right _ (List.mem_singleton.2 rfl))

end Sys2Proof.Machine

namespace Sys2Proof.Proofs

open Sys2Proof.Machine Sys2Proof.Safety

theorem exec_fieldStart_admitted (ch : Fin 192) (s : State) (x : Txn) (ht : (s.dev.ch ch).txn = some x) (hp : x.phase = .admitted)
    (hw : x.work ≠ .pilot) : exec (.fieldStart ch) s = .next { s with dev := s.dev.fieldStart ch } := by
  change execFieldStart ch s = _
  simp only [execFieldStart, onDev, ht, hp, hw, ne_eq, not_true_eq_false, if_false]

theorem exec_fieldStart_probe (ch : Fin 192) (s : State) (x : Txn) (l : List Nat) (ht : (s.dev.ch ch).txn = some x)
    (hp : x.phase = .admitted) (hw : x.work = .pilot) (hbatch : (s.dev.arb (arbOf ch)).pilot = ch.val % 8 :: l) :
    exec (.fieldStart ch) s = .next { s with dev := s.dev.probeStart (arbOf ch) } := by
  change execFieldStart ch s = _
  simp only [execFieldStart, onDev, ht, hp, hw, hbatch, List.head?_cons, ne_eq, not_true_eq_false, if_false, if_true]

theorem idle_fieldStart (ch : Fin 192) (s : State) (h : ∀ x, (s.dev.ch ch).txn = some x → x.phase ≠ .admitted ∨
    (x.work = .pilot ∧ (s.dev.arb (arbOf ch)).pilot.head? ≠ some (ch.val % 8))) : Idle (.fieldStart ch) s := by
  change execFieldStart ch s = .next s
  rw [execFieldStart, onDev]
  dsimp only
  split
  · next x ht =>
    rcases h x ht with hp | ⟨hw, hhead⟩
    · rw [if_pos hp]
    · rw [if_pos hw, if_neg hhead, ite_self]
  · rfl

/-- What the field start of an admitted transaction that still fits leaves, before and after its first frame: its own work changes the rest. -/
theorem fieldStart_raised {d : Dev} {n : Nat} {l : List Nat} {e : Dev} (hown : OwnWork admRegs n (d.fieldRaised n l) e)
    (hl : ∀ k ∈ l, k < 192) :
    (∀ k ∈ l, (e.ch k).fieldOf = some n ∧ (e.ch k).parking = false ∧ (e.ch k).onAt = some d.tc ∧ e.fld F.CH_PWR_MEAS_PEAK k = 0) ∧
    (∀ k, k ∉ n :: l → e.ch k = d.ch k) ∧ Kept (admRegs ++ [.CH_PWR_MEAS]) d e := by
  refine ⟨fun k hk => ?_, fun k hk => ?_, kept_fieldRaised.trans (hown.kept.mono (by decide))⟩
  · have hacc := (hown.account k).trans (Dev.ch_fieldRaised hk)
    have hpeak := (hown.kept.fld F.CH_PWR_MEAS_PEAK k 0 (by decide)).trans (Dev.peak_fieldRaised hl hk)
    exact ⟨congrArg Account.fieldOf hacc, congrArg Account.parking hacc, congrArg Account.onAt hacc, hpeak⟩
  · obtain ⟨hn, hk⟩ := not_or.1 (mt List.mem_cons.2 hk)
    exact (hown.others k (Ne.symm hn)).trans (Dev.ch_fieldRaised_other (Ne.symm hn) hk)

/-- What the first frame of an exchange, or none for a calibration's field, leaves of a transaction whose field is up. -/
theorem firstFrame_own {d : Dev} {n : Nat} {t : Txn} (ht : (d.ch n).txn = some t)
    (hw : t.work = .exchange ∧ t.frame.isSome ∨ t.work = .cal) :
    OwnWork admRegs n d (d.firstFrame n) ∧ ∃ y, ((d.firstFrame n).ch n).txn = some y ∧ y.phase = t.phase ∧ y.tUp = t.tUp ∧
      y.driven = t.driven ∧ y.eRsv = t.eRsv ∧ y.notBefore = d.guardEnd n ∧
      (t.work = .exchange → y.air = .staged ∧ y.frame.map (·.data) = t.frame.map (·.data) ∧ y.notBefore ≤ y.dueTc) := by
  have hg := d.txn_guarded ht
  have hown : OwnWork admRegs n d (d.guarded n) := ownWork_modTxn d _ n _
  rcases hw with ⟨hw, hf⟩ | hw
  · obtain ⟨f, hf⟩ := Option.isSome_iff_exists.1 hf
    obtain ⟨y, hy, w⟩ := Dev.txn_stage _ f hg
    rw [d.firstFrame_exchange ht hw hf]
    refine ⟨hown.trans (ownWork_stage _ f hg), y, hy, w.phase, w.tUp, w.driven, w.eRsv, w.notBefore, fun _ => ⟨w.air, ?_, w.due⟩⟩
    rw [w.data, hf]; rfl
  · rw [d.firstFrame_cal ht hw]
    refine ⟨hown, _, hg, rfl, rfl, rfl, rfl, rfl, fun he => ?_⟩
    rw [hw] at he; cases he

theorem does_fieldStart (ch : Fin 192) (s : State) (x : Txn) (ht : (s.dev.ch ch).txn = some x) (hp : x.phase = .admitted)
    (hw : x.work = .exchange ∧ x.frame.isSome ∨ x.work = .cal) (hfit : StillFit s.dev ch x) (hlead : s.dev.leadLeft (pavOf ch) = 0)
    (hcoils : ∀ k ∈ x.coils, k < 192) : Does (.fieldStart ch) s fun t =>
      (∃ y, (t.dev.ch ch).txn = some y ∧ y.phase = .up ∧ y.tUp = s.dev.tc ∧ y.driven = x.driven ∧ y.eRsv = x.eRsv ∧
        y.notBefore = s.dev.tc + s.dev.fld F.CH_RAMP_UP ch + usTc (s.dev.fld F.PAV_SEQ_FIELD_GT_US (pavOf ch)) ∧
        (x.work = .exchange → y.air = .staged ∧ y.frame.map (·.data) = x.frame.map (·.data) ∧ y.notBefore ≤ y.dueTc)) ∧
      (∀ k ∈ x.coils, (t.dev.ch k).fieldOf = some ch.val ∧ (t.dev.ch k).parking = false ∧ (t.dev.ch k).onAt = some s.dev.tc ∧
        t.dev.fld F.CH_PWR_MEAS_PEAK k = 0) ∧
      ChansStand (ch :: x.coils) s t ∧ Works (admRegs ++ [.CH_PWR_MEAS]) s t := by
  have hpilot : x.work ≠ .pilot := by
    rintro h; rw [h] at hw; exact hw.elim (fun e => nomatch e.1) nofun
  refine ⟨_, exec_fieldStart_admitted ch s x ht hp hpilot, ?_⟩
  dsimp only
  rw [s.dev.fieldStart_eq ht hp hpilot hfit hlead]
  obtain ⟨hown, y, hy, hphase, htup, hdriven, hrsv, hnb, hair⟩ := firstFrame_own (Dev.txn_fieldRaised (l := x.coils) ht) hw
  obtain ⟨hraised, hothers, hkept⟩ := fieldStart_raised hown hcoils
  exact ⟨⟨y, hy, hphase, htup, hdriven, hrsv, hnb.trans Dev.guardEnd_fieldRaised, hair⟩, hraised, hothers, works_of_kept s hkept⟩

theorem does_fieldStart_probe (ch : Fin 192) (s : State) (x : Txn) (l : List Nat) (ht : (s.dev.ch ch).txn = some x)
    (hp : x.phase = .admitted) (hw : x.work = .pilot) (hbatch : (s.dev.arb (arbOf ch)).pilot = ch.val % 8 :: l)
    (harb : s.dev.arbProbes (arbOf ch) = true) (hrole : (s.dev.ch ch).role.probes = true) (hold : s.dev.probeHolds ch x = true)
    (hlead : s.dev.leadLeft (pavOf ch) = 0) : Does (.fieldStart ch) s fun t =>
      (t.dev.ch ch).txn = some { x with phase := .up, tUp := s.dev.tc } ∧ (t.dev.ch ch).fieldOf = some ch.val ∧
      (t.dev.ch ch).parking = false ∧ (t.dev.ch ch).onAt = some s.dev.tc ∧ t.dev.fld F.CH_PWR_MEAS_PEAK ch = 0 ∧
      (t.dev.arb (arbOf ch)).gains = s.dev.tapGains (arbOf ch) (ch.val % 8) ∧ .ramp ch true .normal true 16 ∈ t.dev.out ∧
      ChansStand [ch] s t ∧ Works [.CH_PWR_MEAS] s t := by
  refine ⟨_, exec_fieldStart_probe ch s x l ht hp hw hbatch, ?_⟩
  dsimp only
  have hn : 8 * arbOf ch + ch.val % 8 = ch := Nat.div_add_mod ch.val 8
  have hpav : arbOf ch.val / 4 = pavOf ch := Nat.div_div_eq_div_mul ch.val 8 4
  have hstart : s.dev.probeStart (arbOf ch) = s.dev.probeUp ch := by
    have hup := s.dev.nextProbe_up (a := arbOf ch) (k := ch.val % 8) (l := l) (x := x)
    rw [hn] at hup
    rw [Dev.probeStart, hpav, hlead, Nat.add_zero, s.dev.runTo_past _ (le_refl _), hbatch, hup ht harb hrole hold]
  rw [hstart]
  have hch := s.dev.ch_probeUp ch
  refine ⟨?_, ?_, ?_, ?_, ?_, s.dev.arb_probeUp ch, s.dev.ramp_probeUp ch, fun k hk => ?_, works_of_kept s (kept_probeUp _ _)⟩
  · rw [hch]
    exact (s.dev.txn_probeReady ch).trans (congrArg (Option.map _) ht)
  · rw [hch]; rfl
  · rw [hch]; rfl
  · rw [hch]; rfl
  · exact s.dev.peak_probeUp ch
  · exact s.dev.ch_probeUp_other (Ne.symm (List.ne_of_not_mem_cons hk))

/-- Settles O7: an admitted transaction that still fits stands its second judgement, so its coils rise and its first frame is staged; the
first probe of a batch rises alone, and any other start does nothing. -/
theorem fieldStarts : Obligations.FieldStarts := ⟨does_fieldStart, does_fieldStart_probe, idle_fieldStart⟩

end Sys2Proof.Proofs
end

section
/-! PROOFS. Windows of the common grid, the limiter and the field-enable chains: what a window's facts change, and how a fault of a channel
cuts its field. -/

namespace Sys2Proof.Machine

open Sys2Proof.Safety

variable (d : Dev)

/-! ### Changes that leave every channel's field (R719) -/

/-- Every channel's transaction and field stand, and the device is kept but for registers of a list. -/
structure Steady (L : List RegName) (d e : Dev) : Prop where
  shows : Shows Ch.stance d e
  kept  : Kept L d e

namespace Steady

variable {L M : List RegName} {d e f : Dev}

theorem refl (L : List RegName) (d : Dev) : Steady L d d := ⟨.refl _ d, .refl L d⟩

theorem trans (a : Steady L d e) (b : Steady L e f) : Steady L d f := ⟨a.shows.trans b.shows, a.kept.trans b.kept⟩

theorem mono (h : ∀ r, r ∈ L → r ∈ M) (a : Steady L d e) : Steady M d e := ⟨a.shows, a.kept.mono h⟩

theorem cond (b : Bool) {g : Dev → Dev} (h : Steady L d (g d)) : Steady L d (d.cond b g) := ⟨.cond b h.shows, .cond b h.kept⟩

theorem each {α : Type} (l : List α) {g : Dev → α → Dev} (h : ∀ d x, Steady L d (g d x)) : Steady L d (d.each l g) :=
  ⟨.each l fun d x => (h d x).shows, .each l fun d x => (h d x).kept⟩

theorem wr (d : Dev) (r : RegName) (i j x : Nat) (h : r ∈ L) : Steady L d (d.wr r i j x) := ⟨shows_wr d _ r i j x, kept_wr L d r i j x h⟩

theorem setFld (d : Dev) (x : Fld) (i j v : Nat) (h : x.reg ∈ L) : Steady L d (d.setFld x i j v) := wr d _ i j _ h

theorem setOn (d : Dev) (x : Fld) (i j : Nat) (b : Bool) (h : x.reg ∈ L) : Steady L d (d.setOn x i j b) := wr d _ i j _ h

theorem modCh (d : Dev) (n : Nat) (g : Ch → Ch) (h : ∀ c, (g c).stance = c.stance := by intro; rfl) : Steady L d (d.modCh n g) :=
  ⟨.modCh d n g h, kept_modCh L d n g⟩

theorem free (L : List RegName) (d : Dev) : Steady L d d.free.2 := ⟨.ofChans _ rfl rfl, kept_free L d⟩

theorem tc (h : Steady L d e) : e.tc = d.tc := congrArg TimeSt.tc h.kept.time

/-- Whether a field stood within the window (R719). -/
theorem fieldIn (h : Steady L d e) (n : Nat) : e.fieldIn n = d.fieldIn n := by
  have hof : (e.ch n).fieldOf = (d.ch n).fieldOf := congrArg Account.fieldOf (h.shows.claim.account n)
  have hdown : (e.ch n).downAt = (d.ch n).downAt := congrArg Stance.downAt (h.shows.ch n)
  have hoff : (e.ch n).offAt = (d.ch n).offAt := congrArg Stance.offAt (h.shows.ch n)
  simp only [Dev.fieldIn, Dev.coilOn, hof, hdown, hoff, h.tc]

/-- The limiter's limit for the window that ends now (R93, R97). -/
theorem limNow (h : Steady L d e) (hL : .CH_PWR_LIM ∉ L) (n : Nat) : e.limNow n = d.limNow n := by
  have hold : (e.ch n).limOld = (d.ch n).limOld := congrArg Account.limOld (h.shows.claim.account n)
  simp only [Dev.limNow, hold, h.tc, h.kept.fld F.CH_PWR_LIM_MW n 0 hL]

end Steady

theorem Dev.modOutq_flt (n : Nat) (g : OutQ → OutQ) : (d.modOutq n g).flt = d.flt := by
  unfold Dev.modOutq; split <;> rfl

theorem Dev.enter_flt (e : Entry) : (d.enter e).flt = d.flt := by
  unfold Dev.enter; split
  · rfl
  · exact d.modOutq_flt _ _

/-- Posting an event leaves the record of the latest fault. -/
theorem Dev.event_flt (k : EvKind) (n : Nat) (b : List Byte) (st : Status) (ses : Nat) : (d.event k n b st ses).flt = d.flt := by
  unfold Dev.event Dev.post; extract_lets
  split
  · rw [Dev.addFld_flt, Dev.modOutq_flt]
  · split
    · exact d.enter_flt _
    · exact d.modOutq_flt _ _

theorem steady_event {L : List RegName} (k : EvKind) (n : Nat) (b : List Byte) (st : Status) (ses : Nat) (h : ∀ r ∈ postRegs, r ∈ L) :
    Steady L d (d.event k n b st ses) where
  shows := ⟨fun m => by rw [(told_event d k n b st ses).ch m]; rfl, d.event_flt k n b st ses⟩
  kept := (told_event d k n b st ses).kept.mono h

/-! ### What a window measured (R73 to R77, R99, R124 to R132) -/

/-- The registers that a window's facts may change beside the measured power. -/
def windowRegs : List RegName :=
  postRegs ++ [.CH_FIELD_STAT, .CH_TUNE_STAT, .CH_RX_SAT, .CH_RX_EST_C, .CH_RX_EST_F_AMP, .CH_RX_EST_F_PH, .CH_RX_AGC]

theorem steady_pulse (L : List RegName) (n : Nat) : Steady L d (d.pulse n) := ⟨shows_pulse d _ n, kept_pulse d L n⟩

theorem steady_ceilTo (n lim mw : Nat) : Steady windowRegs d (d.ceilTo n lim mw) :=
  ⟨shows_ceilTo d n lim mw, kept_ceilTo d n lim mw (by decide)⟩

theorem steady_loopStep (w : WinFacts) : Steady windowRegs d (d.loopStep w) := by
  unfold Dev.loopStep
  extract_lets n lim runs d1
  have h1 : Steady windowRegs d d1 := .cond _ ((Steady.setFld d F.CH_FIELD_STAT_ERR n 0 _ (by decide)).trans
    (.cond _ (.setOn _ F.CH_FIELD_STAT_HEADROOM n 0 true (by decide))))
  refine h1.trans ?_
  split
  · exact steady_ceilTo d1 _ _ _
  · split
    · exact .refl _ d1
    · split
      · exact steady_ceilTo d1 _ _ _
      · exact (Steady.modCh d1 n _).trans (steady_pulse _ _ n)

theorem steady_judgeTune (n rl : Nat) : Steady windowRegs d (d.judgeTune n rl) := by
  unfold Dev.judgeTune; split
  · exact .refl _ d
  · split
    · exact (Steady.setOn d F.CH_TUNE_STAT_STUCK n 0 true (by decide)).trans (.modCh _ n _)
    · exact .refl _ d

theorem steady_returnLoss (n rl side : Nat) : Steady windowRegs d (d.returnLoss n rl side) := by
  unfold Dev.returnLoss
  extract_lets d1 thr low d2 d3
  have h1 : Steady windowRegs d d1 := (Steady.setFld d F.CH_TUNE_STAT_RL n 0 _ (by decide)).trans
    (.setFld _ F.CH_TUNE_STAT_SIDE n 0 _ (by decide))
  have h2 : Steady windowRegs d1 d2 := .setOn d1 F.CH_TUNE_STAT_LOW n 0 low (by decide)
  have h3 : Steady windowRegs d2 d3 := by
    simp only [d3]; split
    · exact (Steady.modCh d2 n _).trans (steady_event _ _ _ _ _ _ (by decide))
    · split
      · exact .modCh d2 n _
      · exact .refl _ d2
  exact (h1.trans (h2.trans h3)).trans (steady_judgeTune d3 n rl)

theorem steady_setGain (n g : Nat) : Steady windowRegs d (d.setGain n g) := by
  unfold Dev.setGain; extract_lets old; split
  · exact .refl _ d
  · exact (Steady.setFld d F.CH_RX_AGC_GAIN_NOW n 0 g (by decide)).trans (.modCh _ n _)

theorem steady_fineWindow (n : Nat) (l : List (Int × Int)) : Steady windowRegs d (d.fineWindow n l) := by
  unfold Dev.fineWindow
  extract_lets xs
  split
  · exact .refl _ d
  · exact (((Steady.free _ d).trans (.modCh _ n _)).trans (.free _ _)).trans
      ((Steady.setFld _ F.CH_RX_EST_F_AMP_AMP n 0 _ (by decide)).trans (.setFld _ F.CH_RX_EST_F_PH_PHASE n 0 _ (by decide)))

theorem steady_coarseWindow (n : Nat) (l : List (Int × Int)) : Steady windowRegs d (d.coarseWindow n l) := by
  unfold Dev.coarseWindow
  exact ((Steady.free _ d).trans (.free _ _)).trans
      ((Steady.setFld _ F.CH_RX_EST_C_AMP n 0 _ (by decide)).trans (.setFld _ F.CH_RX_EST_C_PHASE n 0 _ (by decide)))

theorem steady_takeEstimates (w : WinFacts) : Steady windowRegs d (d.takeEstimates w) := by
  unfold Dev.takeEstimates
  extract_lets n d1 d2
  have h1 : Steady windowRegs d d1 := .wr d .CH_RX_SAT n 0 _ (by decide)
  split
  · exact h1
  · have h2 : Steady windowRegs d1 d2 := (steady_fineWindow d1 n _).trans (steady_coarseWindow _ n _)
    split
    · exact (h1.trans h2).trans (steady_setGain d2 n _)
    · exact h1.trans h2

/-- A window's power is measured: credit, MW and PEAK (R77, R351). -/
def Dev.measured (w : WinFacts) : Dev :=
  let d := d.putCredit w.ch (d.creditWindow w.ch w.mw)
  (d.setFld F.CH_PWR_MEAS_MW w.ch 0 (sat 4095 w.mw)).setFld F.CH_PWR_MEAS_PEAK w.ch 0
    (max (d.fld F.CH_PWR_MEAS_PEAK w.ch) (sat 4095 w.mw))

theorem steady_measured (w : WinFacts) : Steady [.CH_PWR_MEAS] d (d.measured w) := by
  have hcredit : Steady [.CH_PWR_MEAS] d (d.putCredit w.ch (d.creditWindow w.ch w.mw)) := .modCh d w.ch _
  exact hcredit.trans ((Steady.setFld _ F.CH_PWR_MEAS_MW w.ch 0 _ (by decide)).trans
    (.setFld _ F.CH_PWR_MEAS_PEAK w.ch 0 _ (by decide)))

theorem sat_lt {cap n : Nat} (h : cap < 2 ^ 12) : sat cap n < 2 ^ 12 := lt_of_le_of_lt (min_le_left _ _) h

theorem Dev.mw_measured (w : WinFacts) : (d.measured w).fld F.CH_PWR_MEAS_MW w.ch = sat 4095 w.mw := by
  rw [Dev.measured, Dev.fld_setFld_disjoint _ F.CH_PWR_MEAS_PEAK F.CH_PWR_MEAS_MW w.ch 0 _ rfl (by decide) (by decide),
    Dev.fld_setFld_same _ _ _ _ _ (by decide)]
  exact Nat.mod_eq_of_lt (sat_lt (by decide))

theorem Dev.peak_measured (w : WinFacts) :
    (d.measured w).fld F.CH_PWR_MEAS_PEAK w.ch = max (d.fld F.CH_PWR_MEAS_PEAK w.ch) (sat 4095 w.mw) := by
  rw [Dev.measured, Dev.fld_setFld_same _ _ _ _ _ (by decide)]
  exact Nat.mod_eq_of_lt (max_lt (bits_lt _ 16 12) (sat_lt (by decide)))

theorem Dev.mw_measured_other (w : WinFacts) {n : Nat} (hw : w.ch < 192) (hn : n < 192) (h : w.ch ≠ n) :
    (d.measured w).fld F.CH_PWR_MEAS_MW n = d.fld F.CH_PWR_MEAS_MW n := by
  rw [Dev.measured, Dev.fld_setFld_inst _ F.CH_PWR_MEAS_PEAK F.CH_PWR_MEAS_MW _ _ _ rfl (by omega) (by omega) h,
    Dev.fld_setFld_inst _ F.CH_PWR_MEAS_MW F.CH_PWR_MEAS_MW _ _ _ rfl (by omega) (by omega) h]
  rfl

/-- What a window measured beside the power leaves the power alone. -/
theorem steady_window1 (w : WinFacts) : Steady windowRegs (d.measured w) (d.window1 w) := by
  unfold Dev.window1
  extract_lets n d1 d2 d3 d4
  have h3 : Steady windowRegs d2 d3 := steady_loopStep d2 w
  have h4 : Steady windowRegs d3 d4 := by
    simp only [d4]; split
    · split
      · exact steady_returnLoss d3 _ _ _
      · exact .refl _ d3
    · exact .refl _ d3
  exact h3.trans (h4.trans (steady_takeEstimates d4 w))

theorem steady_combWindow (l : List WinFacts) : Steady [.ARB_SEP_STAT] d (d.combWindow l) := by
  refine .each _ fun d n => ?_
  split
  · dsimp only
    split
    · exact (Steady.free _ d).trans (.setOn _ F.ARB_SEP_STAT_COMB_SAT _ 0 true (by decide))
    · exact .free _ d
  · exact .refl _ d

/-! ### A fault of class 2 at a channel (R85, R204, R565, R566) -/

theorem joinRamp_hard (k : RampKind) : joinRamp k .hard = .hard := by cases k <;> rfl

/-- A cause that has ended a field ends it no further. -/
theorem joinCause_join (a b : Option Status) : joinCause (joinCause a b) b = joinCause a b := by
  rcases a with _ | x <;> rcases b with _ | y
  · rfl
  · simp [joinCause]
  · rfl
  · by_cases h : y.causeRank < x.causeRank <;> simp [joinCause, h]

/-- A channel's field falls for a cause, and hard on its own coil. -/
def FallsHard (n : Nat) (cause : Option Status) (a : Option Txn) : Prop :=
  ∃ y, a = some y ∧ y.phase = .rampDown ∧ y.endCause = cause ∧ ∀ k ∈ y.driven, k.ch = n → y.fallOf k = some .hard

theorem FallsHard.on {n : Nat} {c : Option Status} {a b : Option Txn} (h : FallsHard n c a) (k : FallsOn a b) : FallsHard n c b := by
  obtain ⟨y, hy, hp, hc, hd⟩ := h
  obtain ⟨z, hz, hzp, hzc, hzr, hzd⟩ := k y hy hp
  refine ⟨z, hz, hzp, hzc.trans hc, fun x hx hn => ?_⟩
  have hfall := hd x (hzd ▸ hx) hn
  simpa only [Txn.fallOf, hp, hzp, hzr] using hfall

variable {d}

/-- A hard cut of a channel's field acts on its own coil; the others of its transaction fall fast (R85, R204). -/
theorem Dev.fallFor_own {n : Nat} {x : Txn} (st : Status) (ht : (d.ch n).txn = some x) (hp : x.phase = .up ∨ x.phase = .rampDown) :
    FallsHard n (joinCause x.endCause (some st)) (((d.fallFor n n .hard st).ch n).txn) := by
  have halone : d.fallFor n n .hard st = if (x.driven.all fun k => k.ch == n) = false then d.fall n .fast (some st) [n]
      else d.fall n .hard (some st) [] := by
    simp only [Dev.fallFor, ht, true_and, Bool.not_eq_true', Dev.rampDown]
  rw [halone]
  split
  · obtain ⟨due, hy⟩ := Dev.txn_fall .fast (some st) [n] ht hp
    refine ⟨_, hy, rfl, rfl, fun k hk hn => ?_⟩
    obtain ⟨z, -, rfl⟩ := List.mem_map.1 hk
    have hz : z.ch = n := hn
    simp [Txn.fallOf, Txn.falls, hz]
  · obtain ⟨due, hy⟩ := Dev.txn_fall .hard (some st) [] ht hp
    refine ⟨_, hy, rfl, rfl, fun k _ _ => ?_⟩
    simp [Txn.fallOf, Txn.falls, joinRamp_hard]

variable (d)

theorem Dev.fallFor_flt (m n : Nat) (k : RampKind) (st : Status) : (d.fallFor m n k st).flt = d.flt := by
  unfold Dev.fallFor; extract_lets alone; split
  · exact (shows_fall d _ _ _ _).flt
  · exact (shows_fall d _ _ _ _).flt

variable {d}

/-- The hard cut of a channel whose own field stands: its field is cut, and struck once more. -/
theorem Dev.cutChans_own {n : Nat} {x : Txn} (hf : (d.ch n).fieldOf = some n) (ht : (d.ch n).txn = some x) (hp : x.phase = .up) :
    d.cutChans [n] = (d.fallFor n n .hard .faultAbort).fallFor n n .hard .faultAbort := by
  obtain ⟨y, hy, hyp, -⟩ := Dev.fallFor_own .faultAbort ht (.inl hp)
  change (d.cutCoil n .hard .faultAbort).strike n .hard .faultAbort = _
  have hcut : d.cutCoil n .hard .faultAbort = d.fallFor n n .hard .faultAbort := by unfold Dev.cutCoil; rw [hf]
  rw [hcut, Dev.strike]
  simp only [hy, hyp]

theorem Dev.cutChans_fallsHard {n : Nat} {x : Txn} (hf : (d.ch n).fieldOf = some n) (ht : (d.ch n).txn = some x) (hp : x.phase = .up) :
    FallsHard n (joinCause x.endCause (some .faultAbort)) ((d.cutChans [n]).ch n).txn := by
  rw [Dev.cutChans_own hf ht hp]
  obtain ⟨y, hy, hyp, hyc, -⟩ := Dev.fallFor_own .faultAbort ht (.inl hp)
  have h := Dev.fallFor_own .faultAbort hy (.inr hyp)
  rwa [hyc, joinCause_join] at h

/-- A detection of class 2 at a channel, of a monitor. -/
def chanFault (code n : Nat) : Detect := { code := code, cls := 2, kind := 0, ix := n }

variable (d)

/-- It cuts the channel hard, isolates it, and is recorded and reported. -/
theorem Dev.faultFree_chan (code n : Nat) :
    ∃ v, d.faultFree (chanFault code n) = ((d.free.2.cutChans [n]).isolate 0 n).report { chanFault code n with value := v } := ⟨_, rfl⟩

/-- The registers that a fault of class 2 at a channel may change. -/
def chanFaultRegs : List RegName := faultRegs ++ workRegs ++ [.FLT_ISO_CH]

theorem kept_faultFree_chan (code n : Nat) : Kept chanFaultRegs d (d.faultFree (chanFault code n)) := by
  obtain ⟨v, h⟩ := d.faultFree_chan code n
  have hcut : Kept chanFaultRegs d (d.free.2.cutChans [n]) := (kept_free _ d).trans ((kept_cutChans _ [n]).mono (by decide))
  have hiso : Kept chanFaultRegs (d.free.2.cutChans [n]) ((d.free.2.cutChans [n]).isolate 0 n) :=
    kept_wr _ _ .FLT_ISO_CH 0 _ _ (by decide)
  rw [h]
  exact (hcut.trans hiso).trans ((told_report _ _).kept.mono (by decide))

theorem Dev.faultFree_chan_fallsHard (code : Nat) {n : Nat} {x : Txn} (hf : (d.ch n).fieldOf = some n) (ht : (d.ch n).txn = some x)
    (hp : x.phase = .up) : FallsHard n (joinCause x.endCause (some .faultAbort)) ((d.faultFree (chanFault code n)).ch n).txn := by
  obtain ⟨v, h⟩ := d.faultFree_chan code n
  have hcut : FallsHard n _ ((d.free.2.cutChans [n]).ch n).txn := Dev.cutChans_fallsHard (d := d.free.2) hf ht hp
  rw [h]
  exact hcut.on ((Spared.ofTold [] (told_report ((d.free.2.cutChans [n]).isolate 0 n) _)).falls n List.not_mem_nil)

/-! ### The record of a fault (R571, R572) -/

/-- The registers that recording a fault may change beside FLT_LAST. -/
def recordRegs : List RegName := postRegs ++ [.FLT_STAT, .FLT_FIRST_T_L, .FLT_FIRST_T_H, .FLT_CNT]

/-- FLT_LAST takes a detection that no report of the same microsecond outranks (R572). -/
theorem Dev.rd_last_record (x : Detect) (h : d.lastStays x = false) : (d.record x).rd .FLT_LAST =
    (x.code % 0x10000 + 0x10000 * (x.cls % 4) + 0x100000 * (x.kind % 4) + 0x1000000 * (x.ix % 256)) % 2 ^ 32 := by
  unfold Dev.record
  rw [h]
  extract_lets last d0 f0 d1 d2 d3 d4
  have h2 : Told recordRegs d1 d2 := .cond _ ((told_setFld _ _ F.FLT_STAT_FIRST_CODE _ _ _ (by decide)).trans
    (told_setPair _ 0 0 _ (by decide) (by decide)))
  have h3 : Told recordRegs d2 d3 := by
    simp only [d3]
    split
    · exact told_addFld _ _ F.FLT_CNT_C0 _ _ _ (by decide)
    · exact told_addFld _ _ F.FLT_CNT_C1 _ _ _ (by decide)
    · exact told_addFld _ _ F.FLT_CNT_C2 _ _ _ (by decide)
    · exact told_addFld _ _ F.FLT_CNT_C3 _ _ _ (by decide)
  have h4 : Told recordRegs d3 d4 := (told_setMisc d3 1).mono (by decide)
  rw [(h2.trans (h3.trans (h4.trans (.cond _ (told_broadcast d4 _ _ _ _ _ _ _))))).regs _ _ _ (by decide)]
  exact d.rd_wr_same .FLT_LAST 0 0 last

theorem Dev.lastCode_report (x : Detect) (h : d.flt.lastAt = none) : (d.report x).fld F.FLT_LAST_CODE = x.code % 0x10000 := by
  have hstays : d.lastStays x = false := by rw [Dev.lastStays, h]; rfl
  rw [Dev.report, (told_event _ _ _ _ _ _).fld _ _ _ (by decide), Dev.fld]
  change bits ((d.record x).rd .FLT_LAST) 0 16 = _
  rw [d.rd_last_record x hstays, bits_eq]
  omega

theorem Dev.lastCode_faultFree_chan (code : Nat) {n : Nat} {x : Txn} (hf : (d.ch n).fieldOf = some n) (ht : (d.ch n).txn = some x)
    (hp : x.phase = .up) (h : d.flt.lastAt = none) : (d.faultFree (chanFault code n)).fld F.FLT_LAST_CODE = code % 0x10000 := by
  obtain ⟨v, he⟩ := d.faultFree_chan code n
  rw [he]
  refine Dev.lastCode_report _ _ ?_
  change (d.free.2.cutChans [n]).flt.lastAt = none
  rw [Dev.cutChans_own (d := d.free.2) hf ht hp, Dev.fallFor_flt, Dev.fallFor_flt]
  exact h

/-! ### The limiter (R93 to R95) -/

/-- TRIP is set, and TRIPS counts. -/
def Dev.tripped (n : Nat) : Dev := (d.setOn F.CH_LIM_STAT_TRIP n 0 true).addFld F.CH_LIM_STAT_TRIPS n 0 1

theorem Dev.limiter_within (w : WinFacts) (h : overHalfDb w.drive (d.limNow w.ch) = false) : d.limiter w = d := by
  simp only [Dev.limiter, h, Bool.and_false, Bool.false_eq_true, if_false]

theorem Dev.limiter_over (w : WinFacts) (hin : d.fieldIn w.ch = true) (h : overHalfDb w.drive (d.limNow w.ch) = true) :
    d.limiter w = (d.tripped w.ch).faultFree (chanFault 0x0012 w.ch) := by
  simp only [Dev.limiter, h, hin, Bool.and_self, if_true]; rfl

theorem kept_tripped (n : Nat) : Kept [.CH_LIM_STAT] d (d.tripped n) :=
  (kept_setOn _ d F.CH_LIM_STAT_TRIP n 0 true (by decide)).trans (kept_setFld _ _ F.CH_LIM_STAT_TRIPS n 0 _ (by decide))

theorem Dev.on_trip_tripped (n : Nat) : (d.tripped n).on F.CH_LIM_STAT_TRIP n = true := by
  rw [Dev.tripped, Dev.addFld, Dev.on,
    Dev.fld_setFld_disjoint _ F.CH_LIM_STAT_TRIPS F.CH_LIM_STAT_TRIP n 0 _ rfl (by decide) (by decide)]
  exact d.on_setOn_same _ _ _ _ (by decide) rfl

theorem Dev.fld_trips_tripped (n : Nat) :
    (d.tripped n).fld F.CH_LIM_STAT_TRIPS n = sat 255 (d.fld F.CH_LIM_STAT_TRIPS n + 1) := by
  rw [Dev.tripped, Dev.addFld, Dev.fld_setFld_same _ _ _ _ _ (by decide), Dev.setOn,
    Dev.fld_setFld_disjoint _ F.CH_LIM_STAT_TRIP F.CH_LIM_STAT_TRIPS n 0 _ rfl (by decide) (by decide)]
  exact Nat.mod_eq_of_lt (lt_of_le_of_lt (min_le_left _ _) (by decide))

/-- The registers that the limiter may change. -/
def limiterRegs : List RegName := .CH_LIM_STAT :: chanFaultRegs

theorem kept_limiter (w : WinFacts) : Kept limiterRegs d (d.limiter w) := by
  unfold Dev.limiter; extract_lets n; split
  · exact ((kept_tripped d n).mono (by decide)).trans ((kept_faultFree_chan (d.tripped n) 0x0012 n).mono (by decide))
  · exact .refl _ d

/-! ### The end of a window (R719) -/

/-- A window of the grid has ended at a cycle. -/
def Dev.setWinAt (t : Nat) : Dev := { d with time := { d.time with winAt := t } }

/-- A window of the grid has ended at the present cycle. -/
def Dev.windowEnded : Dev := d.setWinAt d.tc

/-- The buckets after a window with the measured power of some channels (R355). -/
def Dev.bucketsDrawn (l : List WinFacts) : Dev :=
  d.each (List.range 6) fun d p => d.modPav p fun x => { x with
    tokens := d.tokenWindow p ((l.filter fun (w : WinFacts) => pavOf w.ch == p).foldl (fun a (w : WinFacts) => a + w.mw) 0), tokAt := d.tc }

/-- The channels that a window did not measure and whose power reads other than 0. -/
def Dev.unmeasured (l : List WinFacts) : List Nat :=
  allChans.filter fun n => !l.any (fun (w : WinFacts) => w.ch == n) && d.fld F.CH_PWR_MEAS_MW n != 0

/-- Some channels' measured power reads 0. -/
def Dev.powerCleared (l : List Nat) : Dev := d.each l fun d n => d.setFld F.CH_PWR_MEAS_MW n 0 0

theorem steady_bucketsDrawn (L : List RegName) (l : List WinFacts) : Steady L d (d.bucketsDrawn l) :=
  .each _ fun d p => ⟨.ofChans _ rfl rfl, kept_modPav L d p _⟩

theorem steady_powerCleared (l : List Nat) : Steady [.CH_PWR_MEAS] d (d.powerCleared l) :=
  .each l fun d n => .setFld d F.CH_PWR_MEAS_MW n 0 0 (by decide)

theorem Dev.mw_powerCleared {l : List Nat} (hl : ∀ n ∈ l, n < 192) {k : Nat} (hk : k < 192)
    (h : k ∈ l ∨ d.fld F.CH_PWR_MEAS_MW k = 0) : (d.powerCleared l).fld F.CH_PWR_MEAS_MW k = 0 := by
  induction l generalizing d with
  | nil => exact h.resolve_left List.not_mem_nil
  | cons n l ih =>
    refine ih (d.setFld F.CH_PWR_MEAS_MW n 0 0) (fun m hm => hl m (List.mem_cons_of_mem _ hm)) ?_
    by_cases hn : n = k
    · subst hn; exact .inr (d.fld_setFld_same _ _ _ _ (by decide))
    · rw [d.fld_setFld_inst F.CH_PWR_MEAS_MW F.CH_PWR_MEAS_MW 0 0 0 rfl (by have := hl n List.mem_cons_self; omega) (by omega) hn]
      exact h.imp_left fun hm => (List.mem_cons.1 hm).resolve_left (Ne.symm hn)

/-- A channel whose power is not cleared keeps its largest power. -/
theorem Dev.peak_powerCleared {l : List Nat} (hl : ∀ n ∈ l, n < 192) {k : Nat} (hk : k < 192) (h : k ∉ l) :
    (d.powerCleared l).fld F.CH_PWR_MEAS_PEAK k = d.fld F.CH_PWR_MEAS_PEAK k := by
  induction l generalizing d with
  | nil => rfl
  | cons n l ih =>
    obtain ⟨hn, hkl⟩ := not_or.1 (mt List.mem_cons.2 h)
    refine (ih (d.setFld F.CH_PWR_MEAS_MW n 0 0) (fun m hm => hl m (List.mem_cons_of_mem _ hm)) hkl).trans ?_
    exact d.fld_setFld_inst F.CH_PWR_MEAS_MW F.CH_PWR_MEAS_PEAK 0 0 0 rfl (by have := hl n List.mem_cons_self; omega) (by omega) (Ne.symm hn)

theorem Dev.lt_of_mem_unmeasured {l : List WinFacts} {n : Nat} (h : n ∈ d.unmeasured l) : n < 192 :=
  List.mem_range.1 (List.mem_filter.1 h).1

theorem Dev.mem_unmeasured (w : WinFacts) {n : Nat} :
    n ∈ d.unmeasured [w] ↔ n < 192 ∧ w.ch ≠ n ∧ d.fld F.CH_PWR_MEAS_MW n ≠ 0 := by
  simp [Dev.unmeasured, allChans]

/-- The device before the limiter judges a window of one channel: buckets drawn, the other channels' power cleared, and the facts of the
channel taken. -/
def Dev.windowTaken (w : WinFacts) : Dev :=
  (((d.windowEnded.bucketsDrawn [w]).powerCleared ((d.windowEnded.bucketsDrawn [w]).unmeasured [w])).window1 w).combWindow [w]

/-- The registers that a window's facts may change. -/
def takenRegs : List RegName := .CH_PWR_MEAS :: .ARB_SEP_STAT :: windowRegs

/-- The device before a window's facts are taken. -/
def Dev.windowOpened (w : WinFacts) : Dev :=
  (d.windowEnded.bucketsDrawn [w]).powerCleared ((d.windowEnded.bucketsDrawn [w]).unmeasured [w])

theorem steady_windowOpened (w : WinFacts) : Steady [.CH_PWR_MEAS] d.windowEnded (d.windowOpened w) :=
  (steady_bucketsDrawn _ _ _).trans (steady_powerCleared _ _)

/-- What follows the power of a window leaves it. -/
theorem steady_windowTaken_measured (w : WinFacts) :
    Steady (.ARB_SEP_STAT :: windowRegs) ((d.windowOpened w).measured w) (d.windowTaken w) :=
  ((steady_window1 _ w).mono (by decide)).trans ((steady_combWindow _ [w]).mono (by decide))

theorem steady_windowTaken (w : WinFacts) : Steady takenRegs d.windowEnded (d.windowTaken w) :=
  (((steady_windowOpened d w).mono (by decide)).trans ((steady_measured _ w).mono (by decide))).trans
    ((steady_windowTaken_measured d w).mono (by decide))

theorem Dev.mw_windowTaken (w : WinFacts) : (d.windowTaken w).fld F.CH_PWR_MEAS_MW w.ch = sat 4095 w.mw := by
  rw [(steady_windowTaken_measured d w).kept.fld _ _ _ (by decide), Dev.mw_measured]

theorem Dev.mw_windowTaken_other (w : WinFacts) {n : Nat} (hw : w.ch < 192) (hn : n < 192) (h : w.ch ≠ n) :
    (d.windowTaken w).fld F.CH_PWR_MEAS_MW n = 0 := by
  rw [(steady_windowTaken_measured d w).kept.fld _ _ _ (by decide), Dev.mw_measured_other _ w hw hn h, Dev.windowOpened]
  refine Dev.mw_powerCleared _ (fun m => Dev.lt_of_mem_unmeasured _) hn ?_
  by_cases h0 : (d.windowEnded.bucketsDrawn [w]).fld F.CH_PWR_MEAS_MW n = 0
  · exact .inr h0
  · exact .inl ((Dev.mem_unmeasured _ w).2 ⟨hn, h, h0⟩)

theorem Dev.peak_windowTaken (w : WinFacts) (hw : w.ch < 192) : (d.windowTaken w).fld F.CH_PWR_MEAS_PEAK w.ch =
    max (d.fld F.CH_PWR_MEAS_PEAK w.ch) (sat 4095 w.mw) := by
  have hself : w.ch ∉ (d.windowEnded.bucketsDrawn [w]).unmeasured [w] := fun hm => ((Dev.mem_unmeasured _ w).1 hm).2.1 rfl
  rw [(steady_windowTaken_measured d w).kept.fld _ _ _ (by decide), Dev.peak_measured, Dev.windowOpened,
    Dev.peak_powerCleared _ (fun m => Dev.lt_of_mem_unmeasured _) hw hself,
    (steady_bucketsDrawn d.windowEnded [] [w]).kept.fld _ _ _ List.not_mem_nil]
  rfl

/-- The limiter's verdict on a window after its facts are taken is that of the state before (R93). -/
theorem Dev.limNow_windowTaken (w : WinFacts) : (d.windowTaken w).limNow w.ch = d.limNow w.ch :=
  (steady_windowTaken d w).limNow (by decide) w.ch

theorem Dev.fieldIn_windowTaken (w : WinFacts) : (d.windowTaken w).fieldIn w.ch = d.fieldIn w.ch :=
  (steady_windowTaken d w).fieldIn w.ch

theorem kept_windowTaken (w : WinFacts) : Kept takenRegs d.windowEnded (d.windowTaken w) := (steady_windowTaken d w).kept

/-- The device after a window of one channel. -/
def Dev.windowDone (w : WinFacts) : Dev := ((d.windowTaken w).limiter w).retryAll

/-- The limiter and the second judgement of transactions leave the measured power. -/
theorem kept_windowDone_taken (w : WinFacts) : Kept (limiterRegs ++ admRegs) (d.windowTaken w) (d.windowDone w) :=
  ((kept_limiter _ w).mono (by decide)).trans ((kept_retryAll _).mono (by decide))

/-- A window's facts as taken: channels of the instrument, 0 power where the field was off throughout (R719). -/
def Dev.stood (l : List WinFacts) : List WinFacts :=
  (l.filter fun (w : WinFacts) => decide (w.ch < 192)).map fun (w : WinFacts) => if d.fieldIn w.ch then w else { w with mw := 0, drive := 0 }

/-- The device after a window of some channels, from its end on. -/
def Dev.windowsDone (l : List WinFacts) (vdrv : List (Fin 256)) : Dev :=
  let l := d.stood l
  let e := d.bucketsDrawn l
  (((((e.powerCleared (e.unmeasured l)).each l Dev.window1).combWindow l).each l Dev.limiter).each (vdrv.take 6).zipIdx
    fun d v => d.vdrvMeas v.2 v.1).retryAll

theorem Dev.fieldIn_windowEnded (n : Nat) : d.windowEnded.fieldIn n = d.fieldIn n := rfl

end Sys2Proof.Machine

namespace Sys2Proof.Proofs

open Sys2Proof.Machine Sys2Proof.Safety

theorem exec_powerWindowEnd (l : List WinFacts) (vdrv : List (Fin 256)) (s : State) : exec (.powerWindowEnd l vdrv) s = .next { s with dev :=
    (((s.dev.runTo (s.dev.gridEnd 64 s.dev.time.winAt)).setWinAt (s.dev.gridEnd 64 s.dev.time.winAt)).windowsDone l vdrv) } := rfl

theorem exec_powerWindowEnd_one (w : WinFacts) (s : State) (hw : w.ch < 192) (hin : s.dev.fieldIn w.ch = true)
    (hdue : s.dev.gridEnd 64 s.dev.time.winAt ≤ s.dev.tc) :
    exec (.powerWindowEnd [w] []) s = .next { s with dev := s.dev.windowDone w } := by
  have hstood : s.dev.windowEnded.stood [w] = [w] := by simp [Dev.stood, hw, s.dev.fieldIn_windowEnded, hin]
  rw [exec_powerWindowEnd, s.dev.gridEnd_of_due (by decide) hdue, s.dev.runTo_past _ (le_refl _)]
  rw [← Dev.windowEnded, Dev.windowsDone, hstood]
  rfl

theorem does_powerWindowEnd (w : WinFacts) (s : State) (hw : w.ch < 192) (hin : s.dev.fieldIn w.ch = true)
    (hdue : s.dev.gridEnd 64 s.dev.time.winAt ≤ s.dev.tc) : Does (.powerWindowEnd [w] []) s fun t =>
    t.dev.fld F.CH_PWR_MEAS_MW w.ch = sat 4095 w.mw ∧
    t.dev.fld F.CH_PWR_MEAS_PEAK w.ch = max (s.dev.fld F.CH_PWR_MEAS_PEAK w.ch) (sat 4095 w.mw) ∧
    (∀ n, n < 192 → n ≠ w.ch → t.dev.fld F.CH_PWR_MEAS_MW n = 0) ∧
    (overHalfDb w.drive (s.dev.limNow w.ch) = false →
      t.dev.rd .CH_LIM_STAT w.ch = s.dev.rd .CH_LIM_STAT w.ch) ∧
    (∀ x, (s.dev.ch w.ch).fieldOf = some w.ch → overHalfDb w.drive (s.dev.limNow w.ch) = true →
      (s.dev.ch w.ch).txn = some x → x.phase = .up →
      t.dev.on F.CH_LIM_STAT_TRIP w.ch = true ∧
      t.dev.fld F.CH_LIM_STAT_TRIPS w.ch = sat 255 (s.dev.fld F.CH_LIM_STAT_TRIPS w.ch + 1) ∧
      ∃ y, (t.dev.ch w.ch).txn = some y ∧ y.phase = .rampDown ∧ y.endCause = joinCause x.endCause (some .faultAbort) ∧
        ∀ k ∈ y.driven, k.ch = w.ch → y.fallOf k = some .hard) ∧
    t.dev.time = { s.dev.time with winAt := s.dev.tc } ∧ Works (faultRegs ++ admRegs ++
      [.CH_PWR_MEAS, .CH_FIELD_STAT, .CH_TUNE_STAT, .CH_LIM_STAT, .CH_RX_SAT, .CH_RX_EST_C, .CH_RX_EST_F_AMP,
        .CH_RX_EST_F_PH, .CH_RX_AGC, .ARB_SEP_STAT, .FLT_ISO_CH]) { s with dev := { s.dev with time := t.dev.time } } t := by
  refine ⟨_, exec_powerWindowEnd_one w s hw hin hdue, ?_⟩
  dsimp only
  have htaken := kept_windowTaken s.dev w
  have hdone := kept_windowDone_taken s.dev w
  have htime : (s.dev.windowDone w).time = s.dev.windowEnded.time := hdone.time.trans htaken.time
  refine ⟨?_, ?_, fun n hn hne => ?_, fun hwithin => ?_, fun x hf hover ht hp => ?_, htime, ?_⟩
  · rw [hdone.fld _ _ _ (by decide), Dev.mw_windowTaken]
  · rw [hdone.fld _ _ _ (by decide), Dev.peak_windowTaken _ w hw]
  · rw [hdone.fld _ _ _ (by decide), Dev.mw_windowTaken_other _ w hw hn (Ne.symm hne)]
  · rw [← s.dev.limNow_windowTaken] at hwithin
    rw [Dev.windowDone, Dev.limiter_within _ w hwithin, (kept_retryAll _).regs _ _ _ (by decide), htaken.regs _ _ _ (by decide)]
    rfl
  · rw [← s.dev.limNow_windowTaken] at hover
    rw [Dev.windowDone, Dev.limiter_over _ w (s.dev.fieldIn_windowTaken w ▸ hin) hover]
    have hshows := (steady_windowTaken s.dev w).shows.claim
    have hfault := kept_faultFree_chan ((s.dev.windowTaken w).tripped w.ch) 0x0012 w.ch
    have hretry := kept_retryAll (((s.dev.windowTaken w).tripped w.ch).faultFree (chanFault 0x0012 w.ch))
    refine ⟨?_, ?_, ?_⟩
    · rw [hretry.on _ _ _ (by decide), hfault.on _ _ _ (by decide), Dev.on_trip_tripped]
    · rw [hretry.fld _ _ _ (by decide), hfault.fld _ _ _ (by decide), Dev.fld_trips_tripped, htaken.fld _ _ _ (by decide)]
      rfl
    · have hcut := Dev.faultFree_chan_fallsHard ((s.dev.windowTaken w).tripped w.ch) 0x0012
        ((congrArg Account.fieldOf (hshows.account w.ch)).trans hf) ((hshows.txn w.ch).trans ht) hp
      exact hcut.on ((spared_retryAll _).falls w.ch List.not_mem_nil)
  · rw [htime]
    exact works_of_kept { s with dev := s.dev.windowEnded } ((htaken.mono (by decide)).trans (hdone.mono (by decide)))

theorem does_chainFault (ch : Fin 192) (s : State) (x : Txn) (hf : (s.dev.ch ch).fieldOf = some ch.val)
    (ht : (s.dev.ch ch).txn = some x) (hp : x.phase = .up) : Does (.chainFault ch) s fun t =>
      t.dev.on F.CH_FEN_STAT_CHAIN_FAULT ch = true ∧
      (∃ y, (t.dev.ch ch).txn = some y ∧ y.phase = .rampDown ∧ y.endCause = joinCause x.endCause (some .faultAbort) ∧
        ∀ k ∈ y.driven, k.ch = ch.val → y.fallOf k = some .hard) ∧
      (s.dev.flt.lastAt = none → t.dev.fld F.FLT_LAST_CODE = 0x0011) ∧ Works (faultRegs ++ workRegs ++ [.CH_FEN_STAT, .FLT_ISO_CH]) s t := by
  have hexec : exec (.chainFault ch) s = .next { s with dev :=
      (s.dev.setOn F.CH_FEN_STAT_CHAIN_FAULT ch 0 true).faultFree (chanFault 0x0011 ch) } := rfl
  refine ⟨_, hexec, ?_⟩
  dsimp only
  have hf' : ((s.dev.setOn F.CH_FEN_STAT_CHAIN_FAULT ch 0 true).ch ch).fieldOf = some ch.val := by rw [Dev.setOn_ch, hf]
  have ht' : ((s.dev.setOn F.CH_FEN_STAT_CHAIN_FAULT ch 0 true).ch ch).txn = some x := by rw [Dev.setOn_ch, ht]
  have hset := kept_setOn [.CH_FEN_STAT] s.dev F.CH_FEN_STAT_CHAIN_FAULT ch 0 true (by decide)
  have hfault := kept_faultFree_chan (s.dev.setOn F.CH_FEN_STAT_CHAIN_FAULT ch 0 true) 0x0011 ch
  refine ⟨?_, ?_, fun hlast => ?_, works_of_kept s ((hset.mono (by decide)).trans (hfault.mono (by decide)))⟩
  · rw [hfault.on _ _ _ (by decide), Dev.on_setOn_same _ _ _ _ _ (by decide) rfl]
  · exact Dev.faultFree_chan_fallsHard _ 0x0011 hf' ht' hp
  · exact Dev.lastCode_faultFree_chan _ 0x0011 hf' ht' hp ((congrArg Flt.lastAt (Dev.setOn_flt ..)).trans hlast)

/-- Settles O9: a window's facts change their own registers and leave every field (`steady_windowTaken`), so the limiter judges what stood
before; a fault of a channel cuts its field hard, and judging transactions again lets what falls fall. -/
theorem powerWindows : Obligations.PowerWindows := ⟨does_powerWindowEnd, does_chainFault⟩

end Sys2Proof.Proofs
end

section
/-! PROOFS. An overload of channel 0's converter: the register file takes a unit instance modulo 256, so a number beyond the channels can name
channel 0's register. -/

namespace Sys2Proof.Machine

/-- A register's place in the file takes the unit instance modulo 256. -/
theorem regKey_add_256 (r : RegName) (i j : Nat) : regKey r (i + 256) j = regKey r i j := by
  rw [regKey, regKey, Nat.add_mod_right]

theorem Dev.rd_add_256 (d : Dev) (r : RegName) (i j : Nat) : d.rd r (i + 256) j = d.rd r i j := by
  rw [Dev.rd, Dev.rd, regKey_add_256]

end Sys2Proof.Machine

namespace Sys2Proof.Proofs

open Sys2Proof.Machine Sys2Proof.Safety

/-- A running device with every register at its reset value, CH_RX_SAT among them. -/
def runningAtReset : State := { dev := { pwr := { boot := .running } } }

/-- An overload of channel 0 sets its CH_RX_SAT.ADC, which was 0 (R132). -/
theorem runningAtReset_overload :
    runningAtReset.dev.rd .CH_RX_SAT 0 = 0 ∧
    (answer (.agcOverload 0) runningAtReset).map (fun t => t.dev.rd .CH_RX_SAT 0) = some 1 := by decide +kernel

/-- Refutes O11: its clause on AGC_OVERLOAD lets CH_RX_SAT stand at every number other than the channel's, and bounds that number by no
count of channels. At 256 it names channel 0's own register (`Dev.rd_add_256`), which an overload of channel 0 sets (R132). -/
theorem not_receiveSettings : ¬ Obligations.ReceiveSettings := by
  rintro ⟨-, -, -, -, overload, -⟩
  obtain ⟨hclear, hset⟩ := runningAtReset_overload
  obtain ⟨t, ht, -, -, -, others, -⟩ := overload 0 runningAtReset
  obtain ⟨-, hstands⟩ := others (0 + 256) (by decide)
  have hkept : t.dev.rd .CH_RX_SAT 0 = 0 := by
    rw [Dev.rd_add_256, Dev.rd_add_256] at hstands
    exact hstands.trans hclear
  rw [answer_of_next ht] at hset
  simp [hkept] at hset

end Sys2Proof.Proofs
end

section
/-! PROOFS. A frame exchange's transaction: what changes it alone, what the end of a received frame leaves, and how the gain control moves
with it. -/

namespace Sys2Proof.Machine

open Sys2Proof.Safety

/-! ### Changes that leave every transaction and every descriptor held -/

/-- Every channel's transaction and field stand, the host's records stand, and the device is kept but for registers of a list. -/
structure Quiet (L : List RegName) (d e : Dev) : Prop where
  steady : Steady L d e
  host   : e.host = d.host

namespace Quiet

variable {L M : List RegName} {d e f : Dev}

theorem refl (L : List RegName) (d : Dev) : Quiet L d d := ⟨.refl L d, rfl⟩

theorem trans (a : Quiet L d e) (b : Quiet L e f) : Quiet L d f := ⟨a.steady.trans b.steady, b.host.trans a.host⟩

theorem mono (h : ∀ r, r ∈ L → r ∈ M) (a : Quiet L d e) : Quiet M d e := ⟨a.steady.mono h, a.host⟩

theorem kept (a : Quiet L d e) : Kept L d e := a.steady.kept

theorem txn (a : Quiet L d e) (n : Nat) : (e.ch n).txn = (d.ch n).txn := a.steady.shows.claim.txn n

theorem cond (b : Bool) {g : Dev → Dev} (h : Quiet L d (g d)) : Quiet L d (d.cond b g) := by
  unfold Dev.cond; split
  · exact h
  · exact refl L d

theorem each {α : Type} (l : List α) {g : Dev → α → Dev} (h : ∀ d x, Quiet L d (g d x)) : Quiet L d (d.each l g) := by
  unfold Dev.each
  induction l generalizing d with
  | nil => exact refl L d
  | cons x t ih => exact (h d x).trans ih

theorem wr (d : Dev) (r : RegName) (i j v : Nat) (h : r ∈ L) : Quiet L d (d.wr r i j v) := ⟨.wr d r i j v h, rfl⟩

theorem setFld (d : Dev) (x : Fld) (i j v : Nat) (h : x.reg ∈ L) : Quiet L d (d.setFld x i j v) := wr d _ i j _ h

theorem setOn (d : Dev) (x : Fld) (i j : Nat) (b : Bool) (h : x.reg ∈ L) : Quiet L d (d.setOn x i j b) := wr d _ i j _ h

theorem modCh (d : Dev) (n : Nat) (g : Ch → Ch) (h : ∀ c, (g c).stance = c.stance := by intro; rfl) : Quiet L d (d.modCh n g) :=
  ⟨.modCh d n g h, rfl⟩

theorem modArb (d : Dev) (a : Nat) (g : Arb → Arb) : Quiet L d (d.modArb a g) :=
  ⟨⟨.ofChans _ rfl rfl, kept_modArb L d a g⟩, rfl⟩

theorem emit (d : Dev) (o : Output) : Quiet L d (d.emit o) := ⟨⟨shows_emit d _ o, kept_emit L d o⟩, rfl⟩

end Quiet

variable (d : Dev)

/-! ### What the chain held back while a frame was received (R112, R115, R117, R131, R213, R547) -/

theorem quiet_shedUntil (L : List RegName) (ok : Dev → Bool) (f : Cap → Cap) (l : List Nat) : Quiet L d (d.shedUntil ok f l) := by
  induction l generalizing d with
  | nil => exact .refl L d
  | cons n t ih =>
    unfold Dev.shedUntil; split
    · exact .refl L d
    · exact (Quiet.modCh d n _).trans (ih _)

theorem quiet_resumeFit (L : List RegName) (k : Nat) (l : List Nat) : Quiet L d (d.resumeFit k l) := by
  induction l generalizing d with
  | nil => exact .refl L d
  | cons n t ih =>
    unfold Dev.resumeFit; extract_lets r
    refine Quiet.trans ?_ (ih _)
    split
    · exact .modCh d _ _
    · exact .refl L d

theorem quiet_recap (L : List RegName) : Quiet L d d.recap := by
  unfold Dev.recap
  exact (quiet_shedUntil d L _ _ _).trans ((quiet_shedUntil _ L _ _ _).trans (quiet_resumeFit _ L _ _))

theorem quiet_putApplied (L : List RegName) (n q : Nat) (v : Int) : Quiet L d (d.putApplied n q v) :=
  ⟨⟨.ofChans _ rfl rfl, kept_putApplied L d n q v⟩, rfl⟩

theorem quiet_rxSettle (L : List RegName) (n : Nat) : Quiet L d (d.rxSettle n) := by
  unfold Dev.rxSettle; split
  · exact .each _ fun d q => quiet_putApplied d L n q _
  · exact .refl L d

theorem quiet_setSrc {L : List RegName} (n v : Nat) (h : .CH_RX_CTL ∈ L) : Quiet L d (d.setSrc n v) := by
  unfold Dev.setSrc; split
  · exact .refl L d
  · exact (Quiet.setFld d F.CH_RX_CTL_FIR_SRC n 0 v h).trans (.modCh _ n _)

theorem quiet_fadeStart {L : List RegName} (n : Nat) (h : .CH_RX_FIR ∈ L) : Quiet L d (d.fadeStart n) :=
  (Quiet.setOn d F.CH_RX_FIR_FADING n 0 true h).trans (.modCh _ n _)

/-- The registers of what the receive chain holds back while a frame is received. -/
def heldRegs : List RegName := [.CH_RX_FIR, .CH_RX_SHIFT, .CH_RX_CTL]

/-- The release of what the chain held back leaves the gain control. -/
theorem quiet_chainFree (n : Nat) : Quiet heldRegs d (d.chainFree n) := by
  unfold Dev.chainFree
  extract_lets d0 d1 d2
  have h0 : Quiet heldRegs d d0 := .each _ fun d m => .modCh d m _
  have h1 : Quiet heldRegs d0 d1 := by
    refine Quiet.trans ?_ (quiet_rxSettle _ _ n)
    split
    · exact (Quiet.setOn d0 F.CH_RX_FIR_PENDING n 0 false (by decide)).trans (quiet_fadeStart _ n (by decide))
    · exact .refl _ d0
  have h2 : Quiet heldRegs d1 d2 := by
    simp only [d2]; split
    · exact (Quiet.wr d1 .CH_RX_SHIFT n 0 _ (by decide)).trans (.modCh _ n _)
    · exact .refl _ d1
  refine (h0.trans (h1.trans h2)).trans ?_
  split
  · exact ((quiet_setSrc d2 n _ (by decide)).trans (.modCh _ n _)).trans (quiet_recap _ _)
  · exact .refl _ d2

theorem quiet_agcGo (n : Nat) (l : List Nat) (a : Nat) : Quiet [.CH_RX_AGC] d (d.agcGo n l a) := by
  unfold Dev.agcGo; split
  · exact .setFld d F.CH_RX_AGC_STATE n 0 a (by decide)
  · exact .refl _ d

theorem quiet_agcMove (n : Nat) (l : List Nat) (a : Nat) : Quiet [.CH_RX_AGC] d (d.agcMove n l a) := by
  unfold Dev.agcMove; split
  · exact .each _ fun d k => .setFld d F.CH_RX_AGC_STATE k 0 a (by decide)
  · exact .refl _ d

@[simp] theorem Dev.agcMove_ch (n : Nat) (l : List Nat) (a k : Nat) : (d.agcMove n l a).ch k = d.ch k :=
  (shows_agcMove d (fun c => c) n l a).ch k

theorem quiet_sepLeave (L : List RegName) (n : Nat) : Quiet L d (d.sepLeave n) := by
  unfold Dev.sepLeave; split
  · exact .modArb d _ _
  · exact .refl L d

theorem quiet_frameEnded (n : Nat) : Quiet rxRegs d (d.frameEnded n) :=
  ((quiet_chainFree d n).mono (by decide)).trans ((quiet_agcGo _ n _ _).mono (by decide))

/-! ### A channel's own transaction moves -/

/-- From a device to another a channel's transaction has changed by a function, and registers of a list; every other transaction stands,
and no descriptor is newly held. -/
structure Moves (L : List RegName) (n : Nat) (g : Txn → Txn) (d e : Dev) : Prop where
  own    : (e.ch n).txn = (d.ch n).txn.map g
  others : ∀ k, k ≠ n → (e.ch k).txn = (d.ch k).txn
  kept   : Kept L d e
  held   : ∀ q, q ∈ e.host.inFlight → q ∈ d.host.inFlight

namespace Moves

variable {L M : List RegName} {n : Nat} {g h : Txn → Txn} {d e f : Dev}

theorem trans (a : Moves L n g d e) (b : Moves L n h e f) : Moves L n (fun t => h (g t)) d f where
  own := by rw [b.own, a.own, Option.map_map]; rfl
  others k hk := (b.others k hk).trans (a.others k hk)
  kept := a.kept.trans b.kept
  held q hq := a.held q (b.held q hq)

theorem mono (h : ∀ r, r ∈ L → r ∈ M) (a : Moves L n g d e) : Moves M n g d e := { a with kept := a.kept.mono h }

theorem ofQuiet (n : Nat) (a : Quiet L d e) : Moves L n (fun t => t) d e where
  own := by rw [a.txn, Option.map_id']
  others k _ := a.txn k
  kept := a.kept
  held q hq := by rwa [a.host] at hq

theorem andQuiet (a : Moves L n g d e) (b : Quiet L e f) : Moves L n g d f := a.trans (ofQuiet n b)

theorem afterQuiet (a : Quiet L d e) (b : Moves L n g e f) : Moves L n g d f := (ofQuiet n a).trans b

theorem modTxn (L : List RegName) (d : Dev) (n : Nat) (g : Txn → Txn) : Moves L n g d (d.modTxn n g) where
  own := d.txn_modTxn n g
  others _ hk := by rw [d.ch_modTxn_other g hk]
  kept := kept_modTxn L d n g
  held _ hq := hq

/-- The transaction that a change leaves. -/
theorem txn (a : Moves L n g d e) {t : Txn} (ht : (d.ch n).txn = some t) : (e.ch n).txn = some (g t) := by rw [a.own, ht]; rfl

end Moves

/-- Tap weights set to 0 for one frame have returned (R210). -/
theorem moves_tapsBack {n : Nat} {t : Txn} (ht : (d.ch n).txn = some t) :
    Moves [.ARB_CT_W] n (fun t => { t with zeroed := [] }) d (d.tapsBack n) := by
  unfold Dev.tapsBack; rw [ht]
  exact .afterQuiet (.each t.zeroed fun d w => .wr d .ARB_CT_W (arbOf n) w.1 w.2 (by decide)) (.modTxn _ _ n _)

/-- The framer has left a received frame (R210). -/
theorem moves_leaveFrame {n : Nat} {t : Txn} (ht : (d.ch n).txn = some t) :
    Moves (rxRegs ++ [.ARB_CT_W]) n (fun t => { t with zeroed := [] }) d (d.leaveFrame n) :=
  ((moves_tapsBack d ht).mono (by decide)).andQuiet (((quiet_sepLeave _ _ n).trans ((quiet_agcMove _ n _ _).mono (by decide))).trans
    ((quiet_chainFree _ n).mono (by decide)))

/-! ### The gain control of a channel and of those that follow it (R131, R208) -/

theorem Dev.lt_of_mem_followers {n k : Nat} (hn : n < 192) (h : k ∈ d.followers n) : k < 192 := by
  unfold Dev.followers at h
  split at h
  · split at h
    · obtain ⟨m, hm, rfl⟩ := List.mem_map.1 (List.mem_of_mem_filter h)
      have hm8 : m < 8 := List.mem_range.1 (List.mem_of_mem_filter hm)
      unfold arbOf; omega
    · exact absurd h List.not_mem_nil
  · exact absurd h List.not_mem_nil

theorem lt_of_mem_heardBy {n k : Nat} (hn : n < 192) (h : k ∈ heardBy d n) : k < 192 :=
  (List.mem_cons.1 h).elim (fun e => e ▸ hn) (d.lt_of_mem_followers hn)

/-- The gain controls of some channels take a state. -/
def Dev.agcAll (l : List Nat) (a : Nat) : Dev := d.each l fun d k => d.setFld F.CH_RX_AGC_STATE k 0 a

theorem Dev.agc_agcAll {l : List Nat} (hl : ∀ m ∈ l, m < 192) {k a : Nat} (hk : k < 192) (ha : a < 4) :
    (d.agcAll l a).agc k = if k ∈ l then a else d.agc k := by
  induction l generalizing d with
  | nil => rfl
  | cons m l ih =>
    refine (ih (d.setFld F.CH_RX_AGC_STATE m 0 a) fun i hi => hl i (List.mem_cons_of_mem _ hi)).trans ?_
    have hm : m < 192 := hl m List.mem_cons_self
    by_cases hkl : k ∈ l
    · rw [if_pos hkl, if_pos (List.mem_cons_of_mem _ hkl)]
    · rw [if_neg hkl]
      by_cases hkm : k = m
      · subst hkm
        rw [if_pos List.mem_cons_self, Dev.agc, d.fld_setFld_same _ _ _ _ (by decide)]
        exact Nat.mod_eq_of_lt ha
      · rw [if_neg (by simp [hkm, hkl]), Dev.agc,
          d.fld_setFld_inst F.CH_RX_AGC_STATE F.CH_RX_AGC_STATE 0 0 a rfl (by omega) (by omega) (Ne.symm hkm), Dev.agc]

/-- A move from one state moves the channel and those that follow it, where it was in that state and follows no other. -/
theorem Dev.agcMove_one (n a b : Nat) :
    d.agcMove n [a] b = if d.agc n = a ∧ d.follows n = false then d.agcAll (heardBy d n) b else d := by
  unfold Dev.agcMove
  by_cases ha : d.agc n = a <;> cases hf : d.follows n <;> simp [ha, Dev.agcAll, heardBy]

theorem Dev.agc_agcMove {n a b k : Nat} (hn : n < 192) (hb : b < 4) (hk : k < 192) : (d.agcMove n [a] b).agc k =
    if k ∈ heardBy d n ∧ d.agc n = a ∧ d.follows n = false then b else d.agc k := by
  rw [Dev.agcMove_one]
  by_cases h : d.agc n = a ∧ d.follows n = false
  · rw [if_pos h, d.agc_agcAll (fun m => lt_of_mem_heardBy d hn) hk hb]
    simp only [h, and_self, and_true]
  · rw [if_neg h, if_neg fun hc => h hc.2]

/-- What decides, of a transaction, whether members of its group follow its channel: that its field is up, and its group (R123, R208). -/
def Txn.lead (t : Txn) : Bool × Option Nat := (t.phase == .up, t.fg)

/-- Between two devices no channel's gain control, and nothing that says which channel follows which, has changed. -/
structure SameLead (d e : Dev) : Prop where
  lead  : ∀ n, (e.ch n).txn.map Txn.lead = (d.ch n).txn.map Txn.lead
  ctl   : ∀ i j, e.rd .CH_RX_CTL i j = d.rd .CH_RX_CTL i j
  group : ∀ i j, e.rd .ARB_FG_CTL i j = d.rd .ARB_FG_CTL i j
  agc   : ∀ i j, e.rd .CH_RX_AGC i j = d.rd .CH_RX_AGC i j

namespace SameLead

variable {d} {e : Dev}

theorem trans {f : Dev} (h : SameLead d e) (k : SameLead e f) : SameLead d f where
  lead n := (k.lead n).trans (h.lead n)
  ctl i j := (k.ctl i j).trans (h.ctl i j)
  group i j := (k.group i j).trans (h.group i j)
  agc i j := (k.agc i j).trans (h.agc i j)

theorem followers (h : SameLead d e) (n : Nat) : e.followers n = d.followers n := by
  have hlead := h.lead n
  have hsrc : e.fld F.CH_RX_CTL_FIR_SRC n = d.fld F.CH_RX_CTL_FIR_SRC n := congrArg (bits · _ _) (h.ctl n 0)
  have hmem (a g : Nat) : e.members a g = d.members a g := by simp only [Dev.members, Dev.fld, F.ARB_FG_CTL_MEMBERS, h.group]
  have hcomb (a : Nat) (g : Option Nat) : e.combined a g = d.combined a g := by
    simp only [Dev.combined, Dev.on, Dev.fld, F.ARB_FG_CTL_COMB_EN, h.group]
  unfold Dev.followers Dev.combNow
  rw [hsrc]
  cases hd : (d.ch n).txn with
  | none =>
    rw [hd] at hlead
    rw [Option.map_eq_none_iff.1 hlead]
    rfl
  | some t =>
    rw [hd] at hlead
    obtain ⟨u, hu, hut⟩ := Option.map_eq_some_iff.1 hlead
    obtain ⟨hphase, hfg⟩ := Prod.mk.inj hut
    simp only [hu, hphase, hfg, hmem, hcomb, Option.bind_some]

theorem follows (h : SameLead d e) (n : Nat) : e.follows n = d.follows n := by simp only [Dev.follows, h.followers]

theorem agcEq (h : SameLead d e) (n : Nat) : e.agc n = d.agc n := congrArg (bits · _ _) (h.agc n 0)

end SameLead

/-- A change of a channel's transaction that leaves its field's phase and its group. -/
theorem Moves.sameLead {L : List RegName} {n : Nat} {g : Txn → Txn} {e : Dev} (a : Moves L n g d e) (hg : ∀ t, (g t).lead = t.lead)
    (hctl : .CH_RX_CTL ∉ L) (hgroup : .ARB_FG_CTL ∉ L) (hagc : .CH_RX_AGC ∉ L) : SameLead d e where
  lead k := by
    by_cases hk : k = n
    · subst hk
      rw [a.own, Option.map_map]
      exact congrArg (fun f => (d.ch k).txn.map f) (funext hg)
    · rw [a.others k hk]
  ctl i j := a.kept.regs _ i j hctl
  group i j := a.kept.regs _ i j hgroup
  agc i j := a.kept.regs _ i j hagc

/-- A move of the gain control after and before changes that leave it. -/
theorem agcMoved_of {s t : State} {e : Dev} {n a b : Nat} (hn : n < 192) (hb : b < 4) (pre : SameLead s.dev e)
    (post : ∀ i j, t.dev.rd .CH_RX_AGC i j = (e.agcMove n [a] b).rd .CH_RX_AGC i j) : AgcMoved n a b s t := by
  intro k hk
  have hpost : t.dev.agc k = (e.agcMove n [a] b).agc k := congrArg (bits · _ _) (post k 0)
  rw [hpost, e.agc_agcMove hn hb hk, heardBy, pre.followers, pre.agcEq, pre.agcEq, pre.follows, heardBy]

/-- The framer leaves a received frame: the gain control leaves FROZEN (R131). -/
theorem agcMoved_leaveFrame {s t : State} {e : Dev} {n : Nat} {x : Txn} (hn : n < 192) (ht : (e.ch n).txn = some x) (pre : SameLead s.dev e)
    (post : ∀ i j, t.dev.rd .CH_RX_AGC i j = (e.leaveFrame n).rd .CH_RX_AGC i j) : AgcMoved n 2 0 s t := by
  have hback : SameLead e ((e.tapsBack n).sepLeave n) :=
    ((moves_tapsBack e ht).andQuiet (quiet_sepLeave _ _ n)).sameLead e (fun _ => rfl) (by decide) (by decide) (by decide)
  refine agcMoved_of hn (by decide) (pre.trans hback) fun i j => ?_
  rw [post, Dev.leaveFrame, (quiet_chainFree _ n).kept.regs _ i j (by decide)]

end Sys2Proof.Machine
end

section
/-! PROOFS. The phases of a frame exchange: a staged frame's start and end, its window, starts of frame, false ones, and capture steps. -/

namespace Sys2Proof.Machine

open Sys2Proof.Safety

variable (d : Dev)

@[simp] theorem Dev.agcMove_out (n : Nat) (l : List Nat) (a : Nat) : (d.agcMove n l a).out = d.out := by
  have hset (l : List Nat) (d : Dev) : (d.each l fun d k => d.setFld F.CH_RX_AGC_STATE k 0 a).out = d.out := by
    induction l generalizing d with
    | nil => rfl
    | cons k l ih => exact (ih (d.setFld F.CH_RX_AGC_STATE k 0 a)).trans (d.setFld_out _ _ _ _)
  unfold Dev.agcMove; split
  · exact hset _ d
  · rfl

theorem Dev.airOf_up {n : Nat} {t : Txn} (ht : (d.ch n).txn = some t) (hp : t.phase = .up) : d.airOf n = t.air := by
  simp only [Dev.airOf, ht, hp, if_true]

/-! ### A request with the option flag (R242; log entry 16) -/

/-- A frame that a staged one takes the place of: the new one's bytes and window, at the spacing of the old one's setting (R238). -/
theorem Dev.stage_after {n : Nat} {t : Txn} {g : AirFrame} (f : AirFrame) (ht : (d.ch n).txn = some t) (hg : t.frame = some g) :
    ∃ h : Txn → Txn, d.stage n f = (d.rated n t f).modTxn n h ∧ (h t).air = .staged ∧ (h t).endTc = t.endTc ∧
      (h t).dueTc = max (t.endTc + d.spacing n g.tech g.rxRate (d.combined (arbOf n) t.fg)) t.notBefore ∧
      ∃ w b, (h t).frame = some { f with wave := w, dual := b } := by
  unfold Dev.stage
  rw [ht]
  dsimp only
  rw [hg]
  exact ⟨_, rfl, rfl, rfl, rfl, _, _, rfl⟩

/-- Staging a frame changes its transaction alone. -/
theorem Dev.txn_stage_after {n : Nat} {t : Txn} {g : AirFrame} (f : AirFrame) (ht : (d.ch n).txn = some t) (hg : t.frame = some g) :
    ∃ y w b, ((d.stage n f).ch n).txn = some y ∧ y.frame = some { f with wave := w, dual := b } ∧ y.air = .staged ∧ y.endTc = t.endTc ∧
      y.dueTc = max (t.endTc + d.spacing n g.tech g.rxRate (d.combined (arbOf n) t.fg)) t.notBefore := by
  obtain ⟨h, heq, hair, hend, hdue, w, b, hframe⟩ := d.stage_after f ht hg
  refine ⟨h t, w, b, ?_, hframe, hair, hend, hdue⟩
  rw [heq, Dev.txn_modTxn, (shows_rated d n t f).claim.txn, ht]; rfl

/-- The device at a device frame's end: its session's last frame, and its window counting from now (R242, R330). -/
def Dev.frameSent (n : Nat) (x : Txn) : Dev :=
  let d := d.cond x.sess.isSome fun d => d.modSes (x.sess.getD 0) fun y => { y with tLast := d.now }
  d.modTxn n fun t => { t with air := .winWait, endTc := d.tc, reqTc := d.tc }

theorem Dev.frameSent_sess (n : Nat) {x : Txn} (h : x.sess = none) : (d.frameSent n x).sess = d.sess := by
  simp [Dev.frameSent, Dev.cond, h, Dev.modTxn]

/-- Beside the sessions it changes the channel's transaction alone. -/
theorem Dev.frameSent_eq (n : Nat) (x : Txn) : d.frameSent n x =
    ({ d with sess := (d.frameSent n x).sess } : Dev).modTxn n fun t => { t with air := .winWait, endTc := d.tc, reqTc := d.tc } := by
  unfold Dev.frameSent Dev.cond; split <;> rfl

/-! ### A start of frame (R131, R154, R155, R169, R209, R210, R212, R213) -/

/-- What a start of frame does to tap weights: those, and which of them return (R209, R210). -/
theorem moves_sofWeights (n : Nat) (taps : List TapFacts) :
    ∃ g : Txn → Txn, Moves [.ARB_CT_W] n g d (d.sofWeights n taps) ∧ ∀ t, g t = { t with zeroed := (g t).zeroed } := by
  have hstay : Moves [.ARB_CT_W] n (fun t => t) d d := .ofQuiet n (.refl _ d)
  unfold Dev.sofWeights
  split
  · split
    · extract_lets a mode taps' d1 weak d2
      split
      · exact ⟨_, hstay, fun _ => rfl⟩
      · have h1 : Quiet [.ARB_CT_W] d d1 := by
          simp only [d1]; split
          · exact .each _ fun d w => .wr d .ARB_CT_W a _ _ (by decide)
          · exact .refl _ d
        have h2 : Moves [.ARB_CT_W] n _ d1 d2 := .modTxn _ d1 n _
        exact ⟨_, (Moves.afterQuiet h1 h2).andQuiet (.each weak fun d k => .wr d .ARB_CT_W a k 0 (by decide)), fun _ => rfl⟩
    · exact ⟨_, hstay, fun _ => rfl⟩
  · exact ⟨_, hstay, fun _ => rfl⟩

theorem quiet_sepFollow (L : List RegName) (n : Nat) (fg : Option Nat) : Quiet L d (d.sepFollow n fg) := by
  unfold Dev.sepFollow; split
  · exact .modArb d _ _
  · exact .refl L d

theorem quiet_rxBegin (L : List RegName) (n since : Nat) (taps : List Nat) : Quiet L d (d.rxBegin n since taps) :=
  .each taps fun d m => .modCh d m _

/-- A transaction with a start of frame found. -/
def Txn.locked (t : Txn) (air : AirPhase) (sof : SofFacts) : Txn := { t with air := air, sof := sof, marks := [], sep := none }

/-- The device with a start of frame found, before the gain control freezes. -/
def Dev.sofFound (n : Nat) (air : AirPhase) (sof : SofFacts) : Dev :=
  (d.modTxn n fun t => t.locked air sof).modCh n fun c => { c with floor := sof.floor }

theorem moves_sofFound (L : List RegName) (n : Nat) (air : AirPhase) (sof : SofFacts) :
    Moves L n (fun t => t.locked air sof) d (d.sofFound n air sof) :=
  (Moves.modTxn L d n _).andQuiet (.modCh _ n _)

/-- What follows the freezing of the gain control leaves it. -/
theorem moves_lockTo (n : Nat) (t : Txn) (f : AirFrame) (air : AirPhase) (taps : List TapFacts) (x : SofFacts) :
    ∃ g : Txn → Txn, Moves [.ARB_CT_W] n g
        ((d.sofFound n air { x with floor := d.floorNow n t f x.floor }).agcMove n [0] 2) (d.lockTo n t f air taps x) ∧
      ∀ t, g t = { t with zeroed := (g t).zeroed } := by
  obtain ⟨g, hg, hz⟩ := moves_sofWeights ((d.sofFound n air { x with floor := d.floorNow n t f x.floor }).agcMove n [0] 2) n taps
  exact ⟨g, hg.andQuiet ((quiet_sepFollow _ _ n t.fg).trans (quiet_rxBegin _ _ n _ _)), hz⟩

/-! ### A false start of frame, and capture steps (R156, R167 to R172) -/

/-- FALSE_SOF counts one more (R175). -/
def Dev.falseCounted (n : Nat) : Dev := d.addFld F.CH_FRM_QUAL_FALSE_SOF n 0 1

theorem quiet_falseCounted (n : Nat) : Quiet [.CH_FRM_QUAL] d (d.falseCounted n) := .setFld d F.CH_FRM_QUAL_FALSE_SOF n 0 _ (by decide)

theorem Dev.fld_falseCounted (n : Nat) :
    (d.falseCounted n).fld F.CH_FRM_QUAL_FALSE_SOF n = sat 255 (d.fld F.CH_FRM_QUAL_FALSE_SOF n + 1) := by
  rw [Dev.falseCounted, Dev.addFld, Dev.fld_setFld_same _ _ _ _ _ (by decide)]
  exact Nat.mod_eq_of_lt (lt_of_le_of_lt (min_le_left _ _) (by decide))

/-- Outside joint mode the separator is not asked (R214). -/
theorem Dev.sepAsk_of_notJoint {n : Nat} {t : Txn} (f : AirFrame) (w : RxWire) (step : Bool) (h : d.joint n t.fg = false) :
    d.sepAsk n t f w step = d := by
  simp only [Dev.sepAsk, h, Bool.false_and, Bool.false_eq_true, if_false]

/-- It is asked once in a frame (R214). -/
theorem Dev.sepAsk_of_asked {n : Nat} {t : Txn} {z : SepDec} (f : AirFrame) (w : RxWire) (step : Bool) (h : t.sep = some z) :
    d.sepAsk n t f w step = d := by
  simp only [Dev.sepAsk, h, Option.isNone_some, Bool.and_false, Bool.false_eq_true, if_false]

end Sys2Proof.Machine

namespace Sys2Proof.Proofs

open Sys2Proof.Machine Sys2Proof.Safety

section Phases

variable {ch : Fin 192} {s : State} {x : Txn} {f : AirFrame}

/-- A change of a channel's transaction alone. -/
theorem chansStand_modTxn (s : State) (n : Nat) (g : Txn → Txn) : ChansStand [n] s { s with dev := s.dev.modTxn n g } :=
  fun _ hk => s.dev.ch_modTxn_other g (List.ne_of_not_mem_cons hk)

theorem txn_modTxn_of (g : Txn → Txn) {d : Dev} {n : Nat} (ht : (d.ch n).txn = some x) : ((d.modTxn n g).ch n).txn = some (g x) := by
  rw [Dev.txn_modTxn, ht]; rfl

/-! ### The device frame -/

/-- A transaction whose staged frame goes on the air. -/
def sends (d : Dev) (f : AirFrame) (t : Txn) : Txn :=
  { t with air := .sending, dueTc := d.tc + t.mods.frameTc f.tech f.txRate f.data f.lastBits }

theorem exec_deviceFrameStart (ht : (s.dev.ch ch).txn = some x) (hp : x.phase = .up) (hf : x.frame = some f) (ha : x.air = .staged)
    (hdue : x.dueTc ≤ s.dev.tc) : exec (.deviceFrameStart ch) s = .next { s with dev :=
      (((s.dev.modTxn ch (sends s.dev f)).agcMove ch [0] 1).emit (.air ch f (x.mods.line f.tech f.txRate f.data f.lastBits))) } := by
  change execDeviceFrameStart ch s = _
  simp only [execDeviceFrameStart, onDev, ht, hf, s.dev.airOf_up ht hp, ha, if_true, s.dev.runTo_past _ hdue]
  rfl

theorem does_deviceFrameStart (ht : (s.dev.ch ch).txn = some x) (hp : x.phase = .up) (hf : x.frame = some f) (ha : x.air = .staged)
    (hdue : x.dueTc ≤ s.dev.tc) : Does (.deviceFrameStart ch) s fun t =>
      (t.dev.ch ch).txn = some { x with
        air := .sending, dueTc := s.dev.tc + x.mods.frameTc f.tech f.txRate f.data f.lastBits } ∧
      t.dev.out = s.dev.out ++ [.air ch f (x.mods.line f.tech f.txRate f.data f.lastBits)] ∧
      AgcMoved ch 0 1 s t ∧ ChansStand [ch.val] s t ∧ Works [.CH_RX_AGC] s t := by
  refine ⟨_, exec_deviceFrameStart ht hp hf ha hdue, ?_⟩
  have hsends := Moves.modTxn [] s.dev ch (sends s.dev f)
  have hlead : SameLead s.dev (s.dev.modTxn ch (sends s.dev f)) := hsends.sameLead _ (fun _ => rfl) (by decide) (by decide) (by decide)
  refine ⟨?_, ?_, agcMoved_of ch.isLt (by decide) hlead fun _ _ => rfl, fun k hk => ?_, works_of_kept s ?_⟩
  · rw [Dev.emit_ch, Dev.agcMove_ch]; exact txn_modTxn_of _ ht
  · rw [Dev.emit, Dev.agcMove_out]; rfl
  · rw [Dev.emit_ch, Dev.agcMove_ch]; exact chansStand_modTxn s ch _ k hk
  · exact ((hsends.kept.mono (by decide)).trans (quiet_agcMove _ ch _ _).kept).trans (kept_emit _ _ _)

theorem exec_deviceFrameEnd (ht : (s.dev.ch ch).txn = some x) (hp : x.phase = .up) (hf : x.frame = some f) (ha : x.air = .sending)
    (hdue : x.dueTc ≤ s.dev.tc) : exec (.deviceFrameEnd ch) s = .next { s with dev :=
      ((s.dev.frameSent ch x).cond f.optEof fun d => d.stage ch { f with data := [], lastBits := 0, optEof := false }) } := by
  change execDeviceFrameEnd ch s = _
  simp only [execDeviceFrameEnd, onDev, ht, hf, s.dev.airOf_up ht hp, ha, if_true, s.dev.runTo_past _ hdue]
  rfl

/-- The state with another record of the sessions. -/
def withSess (s : State) (l : Tbl Sess) : State := { s with dev := { s.dev with sess := l } }

theorem does_deviceFrameEnd (ht : (s.dev.ch ch).txn = some x) (hp : x.phase = .up) (hf : x.frame = some f) (ha : x.air = .sending)
    (hdue : x.dueTc ≤ s.dev.tc) : Does (.deviceFrameEnd ch) s fun t =>
      (f.optEof = false → (t.dev.ch ch).txn = some { x with air := .winWait, endTc := s.dev.tc, reqTc := s.dev.tc } ∧
        Works [] { s with dev := { s.dev with sess := t.dev.sess } } t) ∧
      (f.optEof = true → (∃ y g, (t.dev.ch ch).txn = some y ∧ y.frame = some g ∧ y.air = .staged ∧ y.endTc = s.dev.tc ∧
          y.dueTc = max (s.dev.tc + s.dev.spacing ch f.tech f.rxRate (s.dev.combined (arbOf ch) x.fg)) x.notBefore ∧
          g.data = [] ∧ g.optEof = false ∧ g.tech = f.tech ∧ g.winOpen = f.winOpen ∧ g.winClose = f.winClose) ∧
        Works admRegs { s with dev := { s.dev with sess := t.dev.sess } } t) ∧
      (x.sess = none → t.dev.sess = s.dev.sess) ∧ ChansStand [ch.val] s t := by
  refine ⟨_, exec_deviceFrameEnd ht hp hf ha hdue, ?_⟩
  dsimp only
  have hsent := s.dev.frameSent_eq ch x
  have htxn : ((s.dev.frameSent ch x).ch ch).txn = some { x with air := .winWait, endTc := s.dev.tc, reqTc := s.dev.tc } := by
    rw [hsent]; exact txn_modTxn_of _ ht
  have hstand : ∀ k, k ∉ [ch.val] → (s.dev.frameSent ch x).ch k = s.dev.ch k := by
    rw [hsent]; exact chansStand_modTxn (withSess s _) ch _
  have hkept (L : List RegName) : Kept L { s.dev with sess := (s.dev.frameSent ch x).sess } (s.dev.frameSent ch x) := by
    conv => rhs; rw [hsent]
    exact kept_modTxn L _ ch _
  cases ho : f.optEof with
  | false =>
    refine ⟨fun _ => ⟨htxn, works_of_kept (withSess s _) (hkept [])⟩, nofun, s.dev.frameSent_sess ch, hstand⟩
  | true =>
    let g : AirFrame := { f with data := [], lastBits := 0, optEof := false }
    have hown := ownWork_stage (s.dev.frameSent ch x) g htxn
    obtain ⟨y, w, b, hy, hframe, hair, hend, hdue⟩ := (s.dev.frameSent ch x).txn_stage_after g htxn hf
    refine ⟨nofun, fun _ => ⟨⟨y, _, hy, hframe, hair, hend, ?_, rfl, rfl, rfl, rfl, rfl⟩, ?_⟩, fun hs => ?_, fun k hk => ?_⟩
    · rw [hdue, hsent]; rfl
    · have hk := (hkept admRegs).trans hown.kept
      rw [← hown.kept.sess] at hk
      exact works_of_kept (withSess s _) hk
    · exact hown.kept.sess.trans (s.dev.frameSent_sess ch hs)
    · exact (hown.others k (Ne.symm (List.ne_of_not_mem_cons hk))).trans (hstand k hk)

/-! ### The response window -/

theorem does_responseWindowOpen (ht : (s.dev.ch ch).txn = some x) (hp : x.phase = .up) (hf : x.frame = some f) (ha : x.air = .winWait)
    (hdue : openTc x f ≤ s.dev.tc) : Does (.responseWindowOpen ch) s fun t =>
      (t.dev.ch ch).txn = some { x with air := .winOpen } ∧ ChansStand [ch.val] s t ∧ Works [] s t := by
  have hexec : exec (.responseWindowOpen ch) s = .next { s with dev := s.dev.modTxn ch fun t => { t with air := .winOpen } } := by
    change execResponseWindowOpen ch s = _
    simp only [execResponseWindowOpen, onDev, ht, s.dev.airOf_up ht hp, ha, if_true, hf, Option.map_some, Option.getD_some,
      s.dev.runTo_past _ hdue]
  exact ⟨_, hexec, txn_modTxn_of _ ht, chansStand_modTxn s ch _, works_of_kept s (kept_modTxn _ _ ch _)⟩

theorem does_responseWindowClose_receiving (floor : Nat) (ht : (s.dev.ch ch).txn = some x) (hp : x.phase = .up) (hf : x.frame = some f)
    (ha : x.air = .receiving) (hdue : x.reqTc + f.winClose ≤ s.dev.tc) : Does (.responseWindowClose ch floor) s fun t =>
      (t.dev.ch ch).txn = some { x with winOver := true } ∧ ChansStand [ch.val] s t ∧ Works [] s t := by
  have hexec : exec (.responseWindowClose ch floor) s = .next { s with dev := s.dev.modTxn ch fun t => { t with winOver := true } } := by
    change execResponseWindowClose ch floor s = _
    simp [execResponseWindowClose, onDev, ht, s.dev.airOf_up ht hp, ha, hf, s.dev.runTo_past _ hdue, Dev.cond]
  exact ⟨_, hexec, txn_modTxn_of _ ht, chansStand_modTxn s ch _, works_of_kept s (kept_modTxn _ _ ch _)⟩

/-! ### Starts of frame -/

/-- Where the framer of a transaction goes at a start of frame. -/
def lockAir (x : Txn) : AirPhase := if x.air = .winOpen then .receiving else .captured

theorem exec_sofDetected (taps : List TapFacts) (y : SofFacts) (ht : (s.dev.ch ch).txn = some x) (hp : x.phase = .up)
    (hf : x.frame = some f) (ha : x.air = .winOpen ∨ x.air = .capturing ∧ 4 * s.dev.tc ≤ x.capEnd) (hdue : y.first / 4 ≤ s.dev.tc) :
    exec (.sofDetected ch taps y) s = .next { s with dev :=
      (if s.dev.declares ch x f y then s.dev.lockTo ch x f (lockAir x) taps y else s.dev) } := by
  change execSofDetected ch taps y s = _
  have hseek : (s.dev.cond (s.dev.searches ch) fun d => d.runTo (y.first / 4)) = s.dev := by
    unfold Dev.cond; dsimp only; rw [s.dev.runTo_past _ hdue, ite_self]
  have hair := s.dev.airOf_up ht hp
  rcases ha with ha | ⟨ha, hcap⟩
  · simp only [execSofDetected, onDev, hseek, ht, hair, ha, hf, lockAir, if_true]
  · simp [execSofDetected, onDev, hseek, ht, hair, ha, hf, lockAir, hcap]

theorem idle_sofDetected (taps : List TapFacts) (y : SofFacts) (ht : (s.dev.ch ch).txn = some x) (hp : x.phase = .up)
    (hf : x.frame = some f) (ha : x.air = .winOpen ∨ x.air = .capturing ∧ 4 * s.dev.tc ≤ x.capEnd) (hdue : y.first / 4 ≤ s.dev.tc)
    (hno : s.dev.declares ch x f y = false) : Idle (.sofDetected ch taps y) s := by
  rw [Idle, exec_sofDetected taps y ht hp hf ha hdue, hno]; rfl

theorem does_sofDetected (taps : List TapFacts) (y : SofFacts) (ht : (s.dev.ch ch).txn = some x) (hp : x.phase = .up)
    (hf : x.frame = some f) (ha : x.air = .winOpen ∨ x.air = .capturing ∧ 4 * s.dev.tc ≤ x.capEnd) (hdue : y.first / 4 ≤ s.dev.tc)
    (hyes : s.dev.declares ch x f y = true) : Does (.sofDetected ch taps y) s fun t =>
      (∃ z, (t.dev.ch ch).txn = some z ∧ z = { x with
        air := if x.air = .winOpen then .receiving else .captured, sof := { y with floor := s.dev.floorNow ch x f y.floor },
        marks := [], sep := none, zeroed := z.zeroed }) ∧
      AgcMoved ch 0 2 s t ∧ (∀ k, k ≠ ch.val → (t.dev.ch k).txn = (s.dev.ch k).txn) ∧ Works [.CH_RX_AGC, .ARB_CT_W] s t := by
  have hexec := exec_sofDetected taps y ht hp hf ha hdue
  rw [hyes, if_pos rfl] at hexec
  refine ⟨_, hexec, ?_⟩
  obtain ⟨g, hg, hz⟩ := moves_lockTo s.dev ch x f (lockAir x) taps y
  have hfound := moves_sofFound s.dev [] ch (lockAir x) { y with floor := s.dev.floorNow ch x f y.floor }
  have hall := ((hfound.mono (by decide)).andQuiet ((quiet_agcMove _ ch _ _).mono (by decide))).trans
    (hg.mono (M := [.CH_RX_AGC, .ARB_CT_W]) (by decide))
  refine ⟨⟨_, hall.txn ht, hz _⟩, ?_, hall.others, works_of_kept s hall.kept⟩
  exact agcMoved_of ch.isLt (by decide) (hfound.sameLead _ (fun _ => rfl) (by decide) (by decide) (by decide)) fun i j =>
    hg.kept.regs _ i j (by decide)

/-! ### False starts of frame -/

theorem idle_falseSof_late (per : Nat) (h : 2 ≤ per) : Idle (.falseSof ch per) s := by
  change execFalseSof ch per s = .next s
  simp only [execFalseSof, onDev, if_pos h]

/-- Where the framer of a transaction goes at a false start of frame. -/
def resumeAir (x : Txn) : AirPhase := if x.air = .receiving then .winOpen else .capturing

theorem exec_falseSof_resume {per : Nat} (ht : (s.dev.ch ch).txn = some x) (hp : x.phase = .up)
    (ha : x.air = .receiving ∧ x.winOver = false ∨ x.air = .captured) (hper : per < 2) :
    exec (.falseSof ch per) s = .next { s with dev :=
      (((s.dev.modTxn ch fun t => { t with air := resumeAir x }).falseCounted ch).leaveFrame ch) } := by
  change execFalseSof ch per s = _
  have hair := s.dev.airOf_up ht hp
  rcases ha with ⟨ha, hover⟩ | ha
  · simp [execFalseSof, onDev, ht, hair, ha, hover, resumeAir, Nat.not_le.2 hper, Dev.falseCounted]
  · simp [execFalseSof, onDev, ht, hair, ha, resumeAir, Nat.not_le.2 hper, Dev.falseCounted]

theorem does_falseSof_resume {per : Nat} (ht : (s.dev.ch ch).txn = some x) (hp : x.phase = .up)
    (ha : x.air = .receiving ∧ x.winOver = false ∨ x.air = .captured) (hper : per < 2) : Does (.falseSof ch per) s fun t =>
      (t.dev.ch ch).txn = some { x with air := if x.air = .receiving then .winOpen else .capturing, zeroed := [] } ∧
      t.dev.fld F.CH_FRM_QUAL_FALSE_SOF ch = sat 255 (s.dev.fld F.CH_FRM_QUAL_FALSE_SOF ch + 1) ∧
      AgcMoved ch 2 0 s t ∧ (∀ k, k ≠ ch.val → (t.dev.ch k).txn = (s.dev.ch k).txn) ∧
      Works (rxRegs ++ [.CH_FRM_QUAL, .ARB_CT_W]) s t := by
  refine ⟨_, exec_falseSof_resume ht hp ha hper, ?_⟩
  have hback := Moves.modTxn [] s.dev ch fun t => { t with air := resumeAir x }
  have hcount := (hback.mono (by decide)).andQuiet (quiet_falseCounted _ ch)
  have hleave := moves_leaveFrame _ (hcount.txn ht)
  have hall := (hcount.mono (by decide)).trans (hleave.mono (M := rxRegs ++ [.CH_FRM_QUAL, .ARB_CT_W]) (by decide))
  refine ⟨hall.txn ht, ?_, ?_, hall.others, works_of_kept s hall.kept⟩
  · exact (hleave.kept.fld _ _ _ (by decide)).trans (Dev.fld_falseCounted _ ch)
  · exact agcMoved_leaveFrame ch.isLt (hcount.txn ht) (hcount.sameLead _ (fun _ => rfl) (by decide) (by decide) (by decide))
      fun _ _ => rfl

/-! ### Capture steps -/

theorem idle_captureStep_none (y : StepFacts) (ht : (s.dev.ch ch).txn = some x) (hp : x.phase = .up) (hf : x.frame = some f)
    (ha : x.air = .receiving ∨ x.air = .captured) (hno : s.dev.isStep ch x y = false) : Idle (.captureStep ch y) s := by
  change execCaptureStep ch y s = .next s
  rcases ha with ha | ha <;> simp [execCaptureStep, onDev, ht, hf, s.dev.airOf_up ht hp, ha, hno]

theorem idle_captureStep_separated (y : StepFacts) {z : SepDec} (ht : (s.dev.ch ch).txn = some x) (hp : x.phase = .up)
    (hf : x.frame = some f) (ha : x.air = .receiving) (hsep : x.sep = some z) (hz : z.reason = 1) : Idle (.captureStep ch y) s := by
  change execCaptureStep ch y s = .next s
  obtain ⟨r, p, q⟩ := z
  obtain rfl : r = 1 := hz
  simp [execCaptureStep, onDev, ht, hf, s.dev.airOf_up ht hp, ha, hsep, s.dev.sepAsk_of_asked f y.wire true hsep]

theorem does_captureStep_captured (y : StepFacts) (ht : (s.dev.ch ch).txn = some x) (hp : x.phase = .up) (hf : x.frame = some f)
    (ha : x.air = .captured) (hstep : s.dev.isStep ch x y = true) : Does (.captureStep ch y) s fun t =>
      (t.dev.ch ch).txn = some { x with capCount := x.capCount + 1 } ∧ ChansStand [ch.val] s t ∧ Works [] s t := by
  have hexec : exec (.captureStep ch y) s =
      .next { s with dev := s.dev.modTxn ch fun t => { t with capCount := t.capCount + 1 } } := by
    change execCaptureStep ch y s = _
    simp only [execCaptureStep, onDev, ht, hf, s.dev.airOf_up ht hp, ha, hstep, if_true]
  exact ⟨_, hexec, txn_modTxn_of _ ht, chansStand_modTxn s ch _, works_of_kept s (kept_modTxn _ _ ch _)⟩

/-- A transaction whose frame is abandoned for a capture window (R168). -/
def capturing (f : AirFrame) (y : StepFacts) (t : Txn) : Txn :=
  { t with air := .capturing, capCount := 1, capFrom := y.first, capEnd := y.first + 4 * captureTc f.tech f.rxRate f.dual }

theorem exec_captureStep (y : StepFacts) (ht : (s.dev.ch ch).txn = some x) (hp : x.phase = .up) (hf : x.frame = some f)
    (ha : x.air = .receiving) (hstep : s.dev.isStep ch x y = true) (hjoint : s.dev.joint ch x.fg = false) (hsep : x.sep = none) :
    exec (.captureStep ch y) s = .next { s with dev :=
      (if s.dev.on F.CH_DEM_CTL_CAPTURE_EN ch then (s.dev.modTxn ch (capturing f y)).leaveFrame ch
      else (s.dev.modTxn ch fun t => { t with marks := t.marks ++ [y.bit] }).agcMove ch [2] 0) } := by
  change execCaptureStep ch y s = _
  simp only [execCaptureStep, onDev, ht, hf, s.dev.airOf_up ht hp, ha, hstep, Bool.not_true, Bool.false_eq_true, ↓reduceIte,
    s.dev.sepAsk_of_notJoint f y.wire true hjoint, Option.bind_some, hsep]
  cases s.dev.on F.CH_DEM_CTL_CAPTURE_EN ch <;> rfl

theorem does_captureStep (y : StepFacts) (ht : (s.dev.ch ch).txn = some x) (hp : x.phase = .up) (hf : x.frame = some f)
    (ha : x.air = .receiving) (hstep : s.dev.isStep ch x y = true) (hjoint : s.dev.joint ch x.fg = false) (hsep : x.sep = none) :
    Does (.captureStep ch y) s fun t =>
      (s.dev.on F.CH_DEM_CTL_CAPTURE_EN ch = false →
        (t.dev.ch ch).txn = some { x with marks := x.marks ++ [y.bit] } ∧ AgcMoved ch 2 0 s t ∧
        ChansStand [ch.val] s t ∧ Works [.CH_RX_AGC] s t) ∧
      (s.dev.on F.CH_DEM_CTL_CAPTURE_EN ch = true →
        (t.dev.ch ch).txn = some { x with
          air := .capturing, capCount := 1, capFrom := y.first, capEnd := y.first + 4 * captureTc f.tech f.rxRate f.dual,
          zeroed := [] } ∧
        AgcMoved ch 2 0 s t ∧ (∀ k, k ≠ ch.val → (t.dev.ch k).txn = (s.dev.ch k).txn) ∧
        Works (rxRegs ++ [.ARB_CT_W]) s t) := by
  refine ⟨_, exec_captureStep y ht hp hf ha hstep hjoint hsep, ?_⟩
  dsimp only
  cases hen : s.dev.on F.CH_DEM_CTL_CAPTURE_EN ch with
  | false =>
    rw [if_neg Bool.false_ne_true]
    have hmark := Moves.modTxn [] s.dev ch fun t => { t with marks := t.marks ++ [y.bit] }
    refine ⟨fun _ => ⟨?_, ?_, fun k hk => ?_, works_of_kept s ?_⟩, nofun⟩
    · rw [Dev.agcMove_ch]; exact hmark.txn ht
    · exact agcMoved_of ch.isLt (by decide) (hmark.sameLead _ (fun _ => rfl) (by decide) (by decide) (by decide)) fun _ _ => rfl
    · rw [Dev.agcMove_ch]; exact chansStand_modTxn s ch _ k hk
    · exact (hmark.kept.mono (by decide)).trans (quiet_agcMove _ ch _ _).kept
  | true =>
    rw [if_pos rfl]
    have hopen := Moves.modTxn [] s.dev ch (capturing f y)
    have hleave := moves_leaveFrame _ (hopen.txn ht)
    have hall := (hopen.mono (by decide)).trans hleave
    refine ⟨nofun, fun _ => ⟨hall.txn ht, ?_, hall.others, works_of_kept s hall.kept⟩⟩
    exact agcMoved_leaveFrame ch.isLt (hopen.txn ht) (hopen.sameLead _ (fun _ => rfl) (by decide) (by decide) (by decide))
      fun _ _ => rfl

end Phases

/-- Settles O12: each phase changes the channel's own transaction (`Moves`), and the gain control moves between changes that leave it and
what says who follows (`agcMoved_of`). -/
theorem framePhases : Obligations.FramePhases := by
  intro ch s x f ht hp hf
  exact ⟨does_deviceFrameStart ht hp hf, does_deviceFrameEnd ht hp hf, does_responseWindowOpen ht hp hf,
    fun floor => does_responseWindowClose_receiving floor ht hp hf,
    fun taps y ha hdue => ⟨idle_sofDetected taps y ht hp hf ha hdue, does_sofDetected taps y ht hp hf ha hdue⟩,
    fun per ha => ⟨idle_falseSof_late per, does_falseSof_resume ht hp ha⟩,
    fun y => idle_captureStep_none y ht hp hf, fun y => does_captureStep y ht hp hf,
    fun y z => idle_captureStep_separated y ht hp hf, fun y => does_captureStep_captured y ht hp hf⟩

end Sys2Proof.Proofs
end

section
/-! PROOFS. The ends of a frame exchange: what completes an EXCHANGE, what a window that closes and a received frame show of it, and its
field's fall. -/

namespace Sys2Proof.Machine

open Sys2Proof.Safety

variable (d : Dev)

/-! ### A field that falls holds no descriptor (R85, R88) -/

theorem Dev.each_host {α : Type} (l : List α) {g : Dev → α → Dev} (h : ∀ d x, (g d x).host = d.host) : (d.each l g).host = d.host := by
  unfold Dev.each
  induction l generalizing d with
  | nil => rfl
  | cons x t ih => exact (ih (g d x)).trans (h d x)

@[simp] theorem Dev.fall_host (n : Nat) (k : RampKind) (cause : Option Status) (hard : List Nat) : (d.fall n k cause hard).host = d.host := by
  unfold Dev.fall; split
  · rfl
  · split
    · extract_lets u d1 d2 d3 due
      have h1 : Quiet rxRegs d d1 := .cond _ (((quiet_agcMove d n _ _).mono (by decide)).trans ((quiet_sepLeave _ _ n).trans
        (quiet_frameEnded _ n)))
      have h3 : d3.host = d2.host := d2.each_host _ fun d x => by
        split
        · split
          · rfl
          · rfl
        · rfl
      exact h3.trans h1.host
    · rfl

/-- The whole field of a transaction starts to fall by the normal ramp and for no cause (R85, R237). -/
theorem moves_rampDown {n : Nat} {t : Txn} (ht : (d.ch n).txn = some t) (hp : t.phase = .up) :
    ∃ due, Moves rxRegs n (fun u => { u.falls .normal none [] with dueTc := due }) d (d.rampDown n .normal none) := by
  obtain ⟨due, hfall⟩ := Dev.txn_fall .normal none [] ht (.inl hp)
  exact ⟨due, by rw [ht]; exact hfall, fun k hk => d.txn_fall_other _ _ _ hk, kept_rampDown d n _ _,
    fun q hq => by rwa [Dev.rampDown, Dev.fall_host] at hq⟩

/-! ### A descriptor that is completed is no longer held (R402, R404) -/

theorem Dev.modOutq_inFlight (n : Nat) (g : OutQ → OutQ) : (d.modOutq n g).host.inFlight = d.host.inFlight := by
  unfold Dev.modOutq; split <;> rfl

theorem Dev.enter_inFlight (e : Entry) : (d.enter e).host.inFlight = d.host.inFlight := by
  unfold Dev.enter; split
  · rfl
  · exact d.modOutq_inFlight _ _

theorem Dev.post_inFlight (e : Entry) : (d.post e).host.inFlight = d.host.inFlight := by
  unfold Dev.post; extract_lets
  split
  · rw [Dev.addFld_host, Dev.modOutq_inFlight]
  · split
    · exact d.enter_inFlight _
    · exact d.modOutq_inFlight _ _

theorem Dev.modTq_inFlight (n : Nat) (g : TQ → TQ) : (d.modTq n g).host.inFlight = d.host.inFlight := by
  unfold Dev.modTq; split
  · rfl
  · split
    · rfl
    · split <;> rfl

theorem Dev.endRun_inFlight (q : QDesc) : (d.endRun q).host.inFlight = d.host.inFlight := by
  have h : ∀ e : Dev, (e.airGone q).host.inFlight = e.host.inFlight := fun e => by
    unfold Dev.airGone Dev.cond; split <;> rfl
  rw [Dev.endRun, h, Dev.modTq_inFlight]

theorem QDesc.same_self (q : QDesc) : q.same q = true := by simp [QDesc.same]

theorem Dev.not_mem_completed (q : QDesc) (e : Entry) : q ∉ ((d.completeE q e).endRun q).host.inFlight := by
  have hgone : q ∉ (d.release q).host.inFlight := fun h => by
    have hkeep := (List.mem_filter.1 h).2
    rw [q.same_self] at hkeep
    cases hkeep
  rw [Dev.endRun_inFlight, Dev.completeE]
  split
  · exact hgone
  · rwa [Dev.post_inFlight]

/-! ### An EXCHANGE ends (R173, R237, R408, R415) -/

/-- A transaction is an EXCHANGE with its field up, on a descriptor, in no session, that nothing has asked to stop. -/
structure Txn.Exchanging (t : Txn) (q : QDesc) : Prop where
  phase   : t.phase = .up
  work    : t.work = .exchange
  desc    : t.desc = some q
  stop    : t.stopAsked = false
  sess    : t.sess = none
  handles : t.id.phase.handles = false

/-- A channel's EXCHANGE has ended with a status and an end edge: its descriptor is no longer held, its field falls unless it is kept, every
other transaction stands, and the device is kept but for registers of a list. -/
structure Ended (L : List RegName) (n : Nat) (q : QDesc) (hold : Bool) (st : Status) (ends : Nat) (d e : Dev) : Prop where
  txn    : ∃ y, (e.ch n).txn = some y ∧ y.finished = true ∧ y.desc = none ∧ y.result = st ∧ y.endTc = ends ∧
    y.phase = if hold then .up else .rampDown
  gone   : q ∉ e.host.inFlight
  others : ∀ k, k ≠ n → (e.ch k).txn = (d.ch k).txn
  kept   : Kept L d e

namespace Ended

variable {L M : List RegName} {n : Nat} {q : QDesc} {hold : Bool} {st : Status} {ends : Nat} {d e f : Dev}

theorem mono (h : ∀ r, r ∈ L → r ∈ M) (a : Ended L n q hold st ends d e) : Ended M n q hold st ends d e := { a with kept := a.kept.mono h }

theorem andQuiet (a : Ended L n q hold st ends d e) (b : Quiet L e f) : Ended L n q hold st ends d f where
  txn := by rw [b.txn]; exact a.txn
  gone := by rw [b.host]; exact a.gone
  others k hk := (b.txn k).trans (a.others k hk)
  kept := a.kept.trans b.kept

theorem after {g : Txn → Txn} (a : Moves L n g d e) (b : Ended L n q hold st ends e f) : Ended L n q hold st ends d f where
  txn := b.txn
  gone := b.gone
  others k hk := (b.others k hk).trans (a.others k hk)
  kept := a.kept.trans b.kept

end Ended

/-- The device at the end edge of a frame: the time that events carry is that of the edge (R153). -/
def Dev.atEdge (q : Nat) : Dev := { d with time := { d.time with edge := some (d.timeOf q) } }

theorem Dev.atIndex_congr {i : Nat} {g h : Dev → Dev} (hgh : g (d.atEdge i) = h (d.atEdge i)) : d.atIndex i g = d.atIndex i h :=
  congrArg (fun e : Dev => { e with time := { e.time with edge := d.time.edge } }) hgh

theorem Ended.atIndex {L : List RegName} {n i : Nat} {q : QDesc} {hold : Bool} {st : Status} {ends : Nat} {d : Dev} {g : Dev → Dev}
    (a : Ended L n q hold st ends (d.atEdge i) (g (d.atEdge i))) : Ended L n q hold st ends d (d.atIndex i g) where
  txn := a.txn
  gone := a.gone
  others := a.others
  kept := { a.kept with
    time := by
      change { (g (d.atEdge i)).time with edge := d.time.edge } = d.time
      rw [a.kept.time]; rfl }

/-- A frame exchange's frame is over (R151, R210). -/
theorem moves_frameOver {n : Nat} {t : Txn} (ends : Nat) (ht : (d.ch n).txn = some t) :
    Moves (rxRegs ++ [.ARB_CT_W]) n (fun t => { t with zeroed := [], air := .idle, endTc := ends }) d (d.frameOver n ends) :=
  ((moves_leaveFrame d ht).trans (.modTxn _ _ n fun t => { t with air := .idle, endTc := ends })).andQuiet
    ((quiet_frameEnded _ n).mono (by decide))

/-- The device with an EXCHANGE's descriptor completed: by its status alone, or with a result's bytes (R415). -/
def Dev.reported (n : Nat) (q : QDesc) (r : RxOut) : Dev :=
  match r.results with
  | [] => (d.completeE q (q.entry d r.status { result := r.status })).endRun q
  | x :: _ =>
    let len := if r.status = .bufferShort then x.data.length else min q.d.bufLen x.data.length
    let body : CBody := x.mark { result := r.status, lastBits := x.lastBits, len := len }
    ((d.output n q.d.bufAddr (x.data.take q.d.bufLen)).completeE q (q.entry d r.status body)).endRun q

theorem told_reported (n : Nat) (q : QDesc) (r : RxOut) : Told postRegs d (d.reported n q r) := by
  unfold Dev.reported; split
  · exact (told_completeE d q _).trans (told_endRun _ _ q)
  · exact (told_output d _ _ _ _).trans ((told_completeE _ q _).trans (told_endRun _ _ q))

theorem Dev.not_mem_reported (n : Nat) (q : QDesc) (r : RxOut) : q ∉ (d.reported n q r).host.inFlight := by
  unfold Dev.reported; split <;> exact Dev.not_mem_completed _ q _

/-- The transaction of an EXCHANGE that has completed. -/
def Txn.completed (st : Status) (t : Txn) : Txn := { t with desc := none, finished := true, result := st }

/-- With no more than one result an EXCHANGE completes its descriptor, and its field falls unless it is held. -/
theorem Dev.onExchange_eq (n : Nat) {t : Txn} {q : QDesc} {r : RxOut} (hq : t.desc = some q) (hr : r.results.length ≤ 1) :
    d.onExchange n t r = if t.holdField then (d.reported n q r).modTxn n (Txn.completed r.status)
      else ((d.reported n q r).modTxn n (Txn.completed r.status)).rampDown n .normal none := by
  obtain ⟨st, results, pos, snr⟩ := r
  unfold Dev.onExchange
  rw [hq]
  match results, hr with
  | [], _ => rfl
  | [x], _ => rfl

theorem onExchange_ended {n : Nat} {t u : Txn} {q : QDesc} {r : RxOut} (hu : (d.ch n).txn = some u) (hp : u.phase = .up)
    (hq : t.desc = some q) (hr : r.results.length ≤ 1) :
    Ended (postRegs ++ rxRegs) n q t.holdField r.status u.endTc d (d.onExchange n t r) := by
  have htold := told_reported d n q r
  have htxn (k : Nat) : ((d.reported n q r).ch k).txn = (d.ch k).txn := by rw [htold.ch k]
  have hdone := Moves.modTxn [] (d.reported n q r) n (Txn.completed r.status)
  have hy := hdone.txn ((htxn n).trans hu)
  have hkept : Kept (postRegs ++ rxRegs) d ((d.reported n q r).modTxn n (Txn.completed r.status)) :=
    (htold.kept.mono (by decide)).trans (hdone.kept.mono (by decide))
  rw [d.onExchange_eq n hq hr]
  cases t.holdField with
  | true =>
    exact ⟨⟨_, hy, rfl, rfl, rfl, rfl, hp⟩, d.not_mem_reported n q r, fun k hk => (hdone.others k hk).trans (htxn k), hkept⟩
  | false =>
    obtain ⟨due, hfall⟩ := moves_rampDown _ hy hp
    exact ⟨⟨_, hfall.txn hy, rfl, rfl, rfl, rfl, rfl⟩, fun h => d.not_mem_reported n q r (hfall.held q h),
      fun k hk => (hfall.others k hk).trans ((hdone.others k hk).trans (htxn k)), hkept.trans (hfall.kept.mono (by decide))⟩

/-- The transaction takes the results of a frame, if it has any (R225). -/
def Dev.resultsTaken (n : Nat) (r : RxOut) : Dev :=
  d.cond (!r.results.isEmpty) fun d => d.modTxn n fun t => { t with results := r.results }

theorem Dev.onFrame_exchange {n : Nat} {t : Txn} {q : QDesc} (r : RxOut) (ht : (d.ch n).txn = some t) (hx : t.Exchanging q) :
    d.onFrame n r = (d.resultsTaken n r).onExchange n t r := by
  simp only [Dev.onFrame, ht, hx.sess, hx.handles, hx.work]
  rfl

/-- The end of its frame ends an EXCHANGE. -/
theorem frameDone_ended {n : Nat} {t : Txn} {q : QDesc} {r : RxOut} (ends : Nat) (ht : (d.ch n).txn = some t) (hx : t.Exchanging q)
    (hr : r.results.length ≤ 1) :
    Ended (postRegs ++ rxRegs ++ [.ARB_CT_W]) n q t.holdField r.status ends d (d.frameDone n ends r) := by
  have hover := moves_frameOver d ends ht
  have hover' := hover.txn ht
  have hx' : Txn.Exchanging { t with zeroed := [], air := .idle, endTc := ends } q := { hx with }
  have hdone : d.frameDone n ends r = (d.frameOver n ends).onFrame n r := by
    simp only [Dev.frameDone, hover', hx.stop, Bool.false_eq_true, false_and, if_false]
  rw [hdone, Dev.onFrame_exchange _ r hover' hx']
  have htaken : ∃ g : Txn → Txn, Moves [] n g (d.frameOver n ends) ((d.frameOver n ends).resultsTaken n r) ∧
      ∀ u, (g u).phase = u.phase ∧ (g u).endTc = u.endTc := by
    unfold Dev.resultsTaken Dev.cond; split
    · exact ⟨_, .modTxn [] _ n _, fun _ => ⟨rfl, rfl⟩⟩
    · exact ⟨_, .ofQuiet n (.refl _ _), fun _ => ⟨rfl, rfl⟩⟩
  obtain ⟨g, hg, hgt⟩ := htaken
  obtain ⟨hphase, hend⟩ := hgt { t with zeroed := [], air := .idle, endTc := ends }
  have hended := onExchange_ended _ (hg.txn hover') (hphase.trans hx.phase) (t := { t with zeroed := [], air := .idle, endTc := ends })
    hx.desc hr
  rw [hend] at hended
  exact .after (hover.mono (by decide)) (.after (hg.mono (by decide)) (hended.mono (by decide)))

/-! ### The registers of an exchange's last frame (R175) -/

/-- The registers show an exchange that ended with a status and received no frame. -/
def NoFrameShown (n : Nat) (st : Status) (d : Dev) : Prop :=
  d.rd .CH_FRM_LAST n = st.ctorIdx ∧ d.rd .CH_FRM_COLL n = 0xFFFF ∧ d.rd .CH_FRM_ERR n = 0xFFFF ∧ d.rd .CH_FRM_TIME n = 0

theorem Status.ctorIdx_lt (st : Status) : st.ctorIdx < 2 ^ 8 := by cases st <;> decide

theorem quiet_noFrameRegs (n : Nat) (st : Status) : Quiet frmRegs d (d.noFrameRegs n st) :=
  (Quiet.wr d .CH_FRM_LAST n 0 _ (by decide)).trans ((Quiet.wr _ .CH_FRM_COLL n 0 _ (by decide)).trans
    ((Quiet.wr _ .CH_FRM_ERR n 0 _ (by decide)).trans ((Quiet.wr _ .CH_FRM_TIME n 0 _ (by decide)).trans
      ((Quiet.setFld _ F.CH_FRM_QUAL_RATE_ERR n 0 0 (by decide)).trans (.setFld _ F.CH_FRM_QUAL_SNR n 0 0 (by decide))))))

theorem noFrameShown_noFrameRegs (n : Nat) (st : Status) : NoFrameShown n st (d.noFrameRegs n st) := by
  have hst : st.ctorIdx < 4294967296 := lt_trans st.ctorIdx_lt (by decide)
  unfold NoFrameShown Dev.noFrameRegs
  simp [Dev.rd_setFld_name, Dev.rd_wr_name, F.CH_FRM_QUAL_RATE_ERR, F.CH_FRM_QUAL_SNR, hst]

theorem NoFrameShown.of_kept {L : List RegName} {n : Nat} {st : Status} {d e : Dev} (h : NoFrameShown n st d) (k : Kept L d e)
    (hlast : .CH_FRM_LAST ∉ L) (hcoll : .CH_FRM_COLL ∉ L) (herr : .CH_FRM_ERR ∉ L) (htime : .CH_FRM_TIME ∉ L) : NoFrameShown n st e := by
  obtain ⟨h1, h2, h3, h4⟩ := h
  exact ⟨(k.regs _ n 0 hlast).trans h1, (k.regs _ n 0 hcoll).trans h2, (k.regs _ n 0 herr).trans h3, (k.regs _ n 0 htime).trans h4⟩

/-- The registers that an EXCHANGE's end without a frame may change. -/
def noFrameEndRegs : List RegName :=
  postRegs ++ rxRegs ++ [.CH_FRM_LAST, .CH_FRM_COLL, .CH_FRM_ERR, .CH_FRM_TIME, .CH_FRM_QUAL, .ARB_CT_W]

/-- An EXCHANGE ends without a frame (R154, R170, R175). -/
theorem noFrame_ended {n : Nat} {t : Txn} {q : QDesc} (ends : Nat) (st : Status) (ht : (d.ch n).txn = some t) (hx : t.Exchanging q) :
    NoFrameShown n st (d.noFrame n ends st) ∧ Ended noFrameEndRegs n q t.holdField st ends d (d.noFrame n ends st) := by
  have hregs := quiet_noFrameRegs d n st
  have hended := frameDone_ended (d.noFrameRegs n st) (r := { status := st }) ends ((hregs.txn n).trans ht) hx (Nat.zero_le 1)
  refine ⟨(noFrameShown_noFrameRegs d n st).of_kept hended.kept (by decide) (by decide) (by decide) (by decide), ?_⟩
  exact .after ((Moves.ofQuiet n hregs).mono (by decide)) (hended.mono (by decide))

end Sys2Proof.Machine
end

section
/-! PROOFS. What a received frame's end judges and shows of it, and the ends of an EXCHANGE (O13). -/

namespace Sys2Proof.Machine

open Sys2Proof.Safety

variable (d : Dev)

/-! ### The verdict on a frame (R173, R175) -/

theorem mem_insertErr {e x : Verdict} {l : List Verdict} : x ∈ insertErr e l ↔ x = e ∨ x ∈ l := by
  induction l with
  | nil => exact List.mem_cons
  | cons y t ih =>
    unfold insertErr; split
    · exact List.mem_cons
    · rw [List.mem_cons, ih, List.mem_cons]; exact or_left_comm

theorem mem_foldr_insertErr {x : Verdict} {l : List Verdict} : x ∈ l.foldr insertErr [] ↔ x ∈ l := by
  induction l with
  | nil => rfl
  | cons y t ih => rw [List.foldr_cons, mem_insertErr, ih, List.mem_cons]

/-- Every error of a list has a kind that CH_FRM_ERR.KIND can show. -/
def KindsFit (l : List Verdict) : Prop := ∀ e ∈ l, e.kind < 16

theorem KindsFit.append {l k : List Verdict} (h : KindsFit l) (h' : KindsFit k) : KindsFit (l ++ k) := List.forall_mem_append.2 ⟨h, h'⟩

theorem kindsFit_nil : KindsFit [] := List.forall_mem_nil _

theorem kindsFit_one {st : Status} {k p : Nat} (h : k < 16) : KindsFit [⟨st, k, p⟩] := List.forall_mem_singleton.2 h

theorem kindsFit_ite (p : Prop) [Decidable p] {l k : List Verdict} (h : KindsFit l) (h' : KindsFit k) :
    KindsFit (if p then l else k) := by split <;> assumption

theorem kindsFit_bitErrors (tech : Tech) (rxCrc : Bool) (f : RxFrame) : KindsFit (bitErrors tech rxCrc f) := by
  intro e he
  unfold bitErrors at he
  refine (?_ : KindsFit _) e (mem_foldr_insertErr.1 he)
  refine (((?egt : KindsFit _).append ?noParity).append ?parityErr).append ?coding
  case egt => split; exacts [kindsFit_one (by decide), kindsFit_nil]
  case noParity => split; exacts [kindsFit_ite _ (kindsFit_one (by decide)) kindsFit_nil, kindsFit_nil]
  case parityErr => split; exacts [kindsFit_ite _ (kindsFit_one (by decide)) kindsFit_nil, kindsFit_nil]
  case coding => split; exacts [kindsFit_one (by decide), kindsFit_nil]

theorem kindsFit_errorsOf (tech : Tech) (rxCrc inRate : Bool) (f : RxFrame) : KindsFit (errorsOf tech rxCrc inRate f) :=
  ((((kindsFit_ite _ kindsFit_nil (kindsFit_one (by decide))).append (kindsFit_bitErrors tech rxCrc f)).append
    (kindsFit_ite _ (kindsFit_one (by decide)) kindsFit_nil)).append (kindsFit_ite _ (kindsFit_one (by decide)) kindsFit_nil)).append
    (kindsFit_ite _ (kindsFit_one (by decide)) kindsFit_nil)

theorem verdict_kind_lt (tech : Tech) (rxCrc inRate : Bool) (rxMax : Nat) (f : RxFrame) :
    (verdict tech rxCrc inRate rxMax f).kind < 16 := by
  unfold verdict; extract_lets es st
  have hfit : KindsFit es := kindsFit_errorsOf tech rxCrc inRate f
  cases hes : es with
  | nil => exact Nat.zero_lt_succ 15
  | cons e l => exact hfit e (hes ▸ List.mem_cons_self)

/-! ### The registers of a received frame (R175) -/

/-- The registers show a received frame with its verdict. -/
def FrameShown (n : Nat) (m : RxFacts) (v : Verdict) (d : Dev) : Prop :=
  d.fld F.CH_FRM_LAST_STATUS n = v.status.ctorIdx ∧ d.fld F.CH_FRM_LAST_LAST_BITS n = m.frame.lastBits % 8 ∧
  d.fld F.CH_FRM_LAST_LEN n = sat 8191 m.frame.data.length ∧ d.fld F.CH_FRM_TIME_FDT n = sat 0xFFFFFF m.fdt ∧
  d.fld F.CH_FRM_ERR_KIND n = v.kind

theorem FrameShown.of_kept {L : List RegName} {n : Nat} {m : RxFacts} {v : Verdict} {d e : Dev} (h : FrameShown n m v d) (k : Kept L d e)
    (hlast : .CH_FRM_LAST ∉ L) (htime : .CH_FRM_TIME ∉ L) (herr : .CH_FRM_ERR ∉ L) : FrameShown n m v e := by
  obtain ⟨h1, h2, h3, h4, h5⟩ := h
  exact ⟨(k.fld _ n 0 hlast).trans h1, (k.fld _ n 0 hlast).trans h2, (k.fld _ n 0 hlast).trans h3, (k.fld _ n 0 htime).trans h4,
    (k.fld _ n 0 herr).trans h5⟩

theorem quiet_frameRegs (n : Nat) (st : Status) (m : RxFacts) (v : Verdict) (pos : Option Nat) (captured separated : Bool) :
    Quiet frmRegs d (d.frameRegs n st (some (m, v)) pos captured separated) :=
  (Quiet.wr d .CH_FRM_LAST n 0 _ (by decide)).trans ((Quiet.wr _ .CH_FRM_COLL n 0 _ (by decide)).trans
    ((Quiet.wr _ .CH_FRM_ERR n 0 _ (by decide)).trans ((Quiet.wr _ .CH_FRM_TIME n 0 _ (by decide)).trans
      ((Quiet.setFld _ F.CH_FRM_QUAL_RATE_ERR n 0 _ (by decide)).trans (.setFld _ F.CH_FRM_QUAL_SNR n 0 _ (by decide))))))

theorem Dev.rd_frameRegs (n : Nat) (st : Status) (m : RxFacts) (v : Verdict) (pos : Option Nat) (captured separated : Bool) :
    (d.frameRegs n st (some (m, v)) pos captured separated).rd .CH_FRM_LAST n =
      (st.ctorIdx + 256 * (m.frame.lastBits % 8) + 65536 * sat 8191 m.frame.data.length) % 2 ^ 32 ∧
    (d.frameRegs n st (some (m, v)) pos captured separated).rd .CH_FRM_ERR n = (sat 0xFFFF v.pos + 65536 * v.kind) % 2 ^ 32 ∧
    (d.frameRegs n st (some (m, v)) pos captured separated).rd .CH_FRM_TIME n = sat 0xFFFFFF m.fdt % 2 ^ 32 := by
  simp [Dev.frameRegs, Dev.rd_setFld_name, Dev.rd_wr_name, F.CH_FRM_QUAL_RATE_ERR, F.CH_FRM_QUAL_SNR]

theorem sat_le (cap n : Nat) : sat cap n ≤ cap := min_le_left cap n

theorem frameShown_frameRegs (n : Nat) (m : RxFacts) {v : Verdict} (pos : Option Nat) (captured separated : Bool) (hv : v.kind < 16) :
    FrameShown n m v (d.frameRegs n v.status (some (m, v)) pos captured separated) := by
  obtain ⟨hlast, herr, htime⟩ := d.rd_frameRegs n v.status m v pos captured separated
  have hst := v.status.ctorIdx_lt
  have hlen := sat_le 8191 m.frame.data.length
  have hfdt := sat_le 0xFFFFFF m.fdt
  have hpos := sat_le 0xFFFF v.pos
  simp only [FrameShown, Dev.fld, F.CH_FRM_LAST_STATUS, F.CH_FRM_LAST_LAST_BITS, F.CH_FRM_LAST_LEN, F.CH_FRM_TIME_FDT,
    F.CH_FRM_ERR_KIND, hlast, herr, htime, bits_eq]
  omega

/-! ### What a received frame is judged to be (R165 to R175) -/

theorem quiet_freeCtr (L : List RegName) (k : Nat) : Quiet L d { d with freeCtr := k } :=
  ⟨⟨.ofChans _ rfl rfl, { Kept.refl L d with }⟩, rfl⟩

theorem Dev.rateErr_free (e n dur : Nat) : ∃ k, (d.rateErr e n dur).2 = { d with freeCtr := k } := by
  unfold Dev.rateErr; split
  · exact ⟨_, rfl⟩
  · unfold Dev.quot; split <;> exact ⟨_, rfl⟩

/-- A measure takes free values, and changes nothing else (log entry 1). -/
theorem Dev.measure_free (n : Nat) (t : Txn) (f : AirFrame) (x : RxFrame) : ∃ k, (d.measure n t f x).2 = { d with freeCtr := k } := by
  obtain ⟨k, hk⟩ := d.rateErr_free (4 * bitTc f.tech f.rxRate f.dual) t.sof.durBits t.sof.dur
  exact ⟨k + 1, congrArg (fun d : Dev => { d with freeCtr := d.freeCtr + 1 }) hk⟩

theorem quiet_measure (L : List RegName) (n : Nat) (t : Txn) (f : AirFrame) (x : RxFrame) : Quiet L d (d.measure n t f x).2 := by
  obtain ⟨k, hk⟩ := d.measure_free n t f x
  rw [hk]; exact quiet_freeCtr d L k

theorem Dev.joint_measure (n m : Nat) (t : Txn) (f : AirFrame) (x : RxFrame) (fg : Option Nat) :
    (d.measure n t f x).2.joint m fg = d.joint m fg := by
  obtain ⟨k, hk⟩ := d.measure_free n t f x
  rw [hk]; rfl

theorem Dev.rateErr_atEdge (i e n dur : Nat) :
    (d.atEdge i).rateErr e n dur = ((d.rateErr e n dur).1, (d.rateErr e n dur).2.atEdge i) := by
  unfold Dev.rateErr; split
  · rfl
  · unfold Dev.quot; split <;> rfl

theorem Dev.rxLat_atEdge (i n : Nat) : (d.atEdge i).rxLat n = d.rxLat n := rfl

/-- A measure does not look at the end edge. -/
theorem Dev.measure_atEdge (i n : Nat) (t : Txn) (f : AirFrame) (x : RxFrame) :
    ((d.atEdge i).measure n t f x).1 = (d.measure n t f x).1 := by
  simp only [Dev.measure, Dev.rateErr_atEdge]
  rfl

/-- A frame without a collision, outside capture and joint mode, is judged by its checks alone (R165, R173). -/
theorem Dev.receive_plain {n : Nat} {t : Txn} {f : AirFrame} {w : RxWire} {m : RxFacts} {v : Verdict} (ht : (d.ch n).txn = some t)
    (ha : t.air = .receiving) (hj : d.joint n t.fg = false) (hsep : t.sep = none) (hmarks : t.marks = [])
    (hm : m = (d.measure n t f (demod (d.rxSet n t f) w.syms)).1) (hcoll : m.frame.collCount = 0)
    (hv : v = verdict f.tech f.rxCrc m.rateOk f.rxMax m.frame) :
    ∃ e r, d.receive n t f w = (r, e.frameRegs n v.status (some (m, v)) (collPos f.rxCrc m.frame) false false) ∧
      r.status = v.status ∧ r.results.length = 1 ∧ Quiet [.ARB_ATTR_LAST] d e := by
  have hquiet := quiet_measure d [.ARB_ATTR_LAST] n t f (demod (d.rxSet n t f) w.syms)
  have hjoint := (d.joint_measure n n t f (demod (d.rxSet n t f) w.syms) t.fg).trans hj
  unfold Dev.receive
  dsimp only
  rw [← hm, ← hv]
  generalize (d.measure n t f (demod (d.rxSet n t f) w.syms)).2 = e at hquiet hjoint
  have hnosep : (e.ch n).txn.bind (·.sep) = none := by rw [hquiet.txn, ht]; exact hsep
  rw [Dev.sepAsk_of_notJoint _ f w false hjoint, hnosep]
  simp only [ha, hmarks, hcoll]
  refine ⟨_, _, rfl, rfl, rfl, hquiet.trans ?_⟩
  split
  · exact .wr e .ARB_ATTR_LAST _ 0 _ (by decide)
  · exact .refl _ e

/-! ### Calibrated quantities that a frame's end lets take effect (R547) -/

/-- The registers of a channel's calibrated quantities. -/
def calRegs : List RegName := [.CH_FIELD_MAX, .CH_PHASE_OFS, .CH_MOD_SHAPE, .CH_TUNE_CAL, .CH_TUNE, .CH_CAL_DRIP]

theorem quiet_calPut (n q : Nat) (v : Int) : Quiet calRegs d (d.calPut n q v) := by
  unfold Dev.calPut; extract_lets old e
  refine (quiet_putApplied d _ n q v).trans ?_
  split
  · exact .setFld e F.CH_FIELD_MAX_PWR n 0 _ (by decide)
  · exact .setFld e F.CH_PHASE_OFS_CAL n 0 _ (by decide)
  · split
    · exact .refl _ e
    · exact .setFld e F.CH_MOD_SHAPE_PREEMP n 0 _ (by decide)
  · exact .refl _ e

theorem quiet_calTune (n : Nat) (ser shunt : Int) : Quiet calRegs d (d.calTune n ser shunt) := by
  unfold Dev.calTune; extract_lets moved e
  refine Quiet.trans (e := e)
    ((Quiet.setFld d F.CH_TUNE_CAL_SER n 0 _ (by decide)).trans (.setFld _ F.CH_TUNE_CAL_SHUNT n 0 _ (by decide))) ?_
  split
  · exact .refl _ e
  · exact (Quiet.setFld e F.CH_TUNE_SER n 0 _ (by decide)).trans (.setFld _ F.CH_TUNE_SHUNT n 0 _ (by decide))

theorem quiet_calSettle (n : Nat) : Quiet calRegs d (d.calSettle n) := by
  unfold Dev.calSettle; split
  · exact .refl _ d
  · extract_lets v d1 d2 d3 d4
    have h2 : Quiet calRegs d d2 := by
      refine (quiet_calPut d n 2 (v 2)).trans ?_
      simp only [d2]; split
      · exact .refl _ d1
      · exact .each _ fun d q => quiet_calPut d n q (v q)
    refine h2.trans ?_
    split
    · exact .setFld d2 F.CH_CAL_DRIP_PHASE_LEFT n 0 _ (by decide)
    · have h3 : Quiet calRegs d2 d3 := .each _ fun d q => quiet_calPut d n q (v q)
      have h4 : Quiet calRegs d3 d4 := (quiet_calPut d3 n 4 (v 4)).trans (quiet_calPut _ n 5 (v 5))
      exact h3.trans (h4.trans ((quiet_calTune d4 n _ _).trans (.wr _ .CH_CAL_DRIP n 0 0 (by decide))))

/-! ### A received frame ends an EXCHANGE (R153, R173, R175) -/

/-- The device at a received frame's end, from its end edge on. -/
def Dev.received (n : Nat) (t : Txn) (f : AirFrame) (w : RxWire) (ends : Nat) : Dev :=
  ((d.receive n t f w).2.frameDone n ends (d.receive n t f w).1).calSettle n

/-- The registers that a received frame that ends an EXCHANGE may change. -/
def frameEndRegs : List RegName := .ARB_ATTR_LAST :: .ARB_CT_W :: (frmRegs ++ postRegs ++ rxRegs ++ calRegs)

theorem received_ended {n : Nat} {t : Txn} {f : AirFrame} {w : RxWire} {m : RxFacts} {v : Verdict} {q : QDesc} (ends : Nat)
    (ht : (d.ch n).txn = some t) (hx : t.Exchanging q) (ha : t.air = .receiving) (hj : d.joint n t.fg = false) (hsep : t.sep = none)
    (hmarks : t.marks = []) (hm : m = (d.measure n t f (demod (d.rxSet n t f) w.syms)).1) (hcoll : m.frame.collCount = 0)
    (hv : v = verdict f.tech f.rxCrc m.rateOk f.rxMax m.frame) :
    FrameShown n m v (d.received n t f w ends) ∧ Ended frameEndRegs n q t.holdField v.status ends d (d.received n t f w ends) := by
  obtain ⟨e, r, hrec, hstatus, hlen, hquiet⟩ := d.receive_plain ht ha hj hsep hmarks hm hcoll hv
  have hregs := quiet_frameRegs e n v.status m v (collPos f.rxCrc m.frame) false false
  have hshown := frameShown_frameRegs e n m (v := v) (collPos f.rxCrc m.frame) false false (hv ▸ verdict_kind_lt _ _ _ _ _)
  have hended := frameDone_ended _ ends (((hregs.txn n).trans (hquiet.txn n)).trans ht) hx hlen.le
  rw [hstatus] at hended
  have hcal := quiet_calSettle ((e.frameRegs n v.status (some (m, v)) (collPos f.rxCrc m.frame) false false).frameDone n ends r) n
  unfold Dev.received
  rw [hrec]
  refine ⟨(hshown.of_kept hended.kept (by decide) (by decide) (by decide)).of_kept hcal.kept (by decide) (by decide) (by decide), ?_⟩
  have hall : Quiet frameEndRegs d _ := (hquiet.mono (by decide)).trans (hregs.mono (by decide))
  exact .after (.ofQuiet n hall) ((hended.mono (by decide)).andQuiet (hcal.mono (by decide)))

end Sys2Proof.Machine

namespace Sys2Proof.Proofs

open Sys2Proof.Machine Sys2Proof.Safety

section Ends

variable {ch : Fin 192} {s : State} {x : Txn} {f : AirFrame} {q : QDesc}

/-! ### An EXCHANGE that ends without a frame -/

/-- What an EXCHANGE's end without a frame leaves. -/
def EndsWithout (ch : Fin 192) (s : State) (q : QDesc) (hold : Bool) (st : Status) (ends : Nat) (t : State) : Prop :=
  t.dev.rd .CH_FRM_LAST ch = st.ctorIdx ∧ t.dev.rd .CH_FRM_COLL ch = 0xFFFF ∧ t.dev.rd .CH_FRM_ERR ch = 0xFFFF ∧
  t.dev.rd .CH_FRM_TIME ch = 0 ∧
  (∃ y, (t.dev.ch ch).txn = some y ∧ y.finished = true ∧ y.desc = none ∧ y.result = st ∧ y.endTc = ends ∧
    y.phase = if hold then .up else .rampDown) ∧
  q ∉ t.dev.host.inFlight ∧ (∀ k, k ≠ ch.val → (t.dev.ch k).txn = (s.dev.ch k).txn) ∧
  Works (postRegs ++ rxRegs ++ [.CH_FRM_LAST, .CH_FRM_COLL, .CH_FRM_ERR, .CH_FRM_TIME, .CH_FRM_QUAL, .ARB_CT_W]) s t

theorem endsWithout_of {hold : Bool} {st : Status} {ends : Nat} {e : Dev} (h : NoFrameShown ch st e)
    (he : Ended noFrameEndRegs ch q hold st ends s.dev e) : EndsWithout ch s q hold st ends { s with dev := e } := by
  obtain ⟨hlast, hcoll, herr, htime⟩ := h
  exact ⟨hlast, hcoll, herr, htime, he.txn, he.gone, he.others, works_of_kept s he.kept⟩

theorem does_responseWindowClose_noFrame (floor : Nat) (ht : (s.dev.ch ch).txn = some x) (hx : x.Exchanging q) (hf : x.frame = some f)
    (ha : x.air = .winOpen ∨ x.air = .winWait) (hdue : x.reqTc + f.winClose ≤ s.dev.tc) :
    Does (.responseWindowClose ch floor) s (EndsWithout ch s q x.holdField .noResponse s.dev.tc) := by
  have hair := s.dev.airOf_up ht hx.phase
  have hexec : exec (.responseWindowClose ch floor) s = .next { s with dev :=
      ((s.dev.modCh ch fun c => { c with floor := floor }).noFrame ch s.dev.tc .noResponse) } := by
    change execResponseWindowClose ch floor s = _
    rcases ha with ha | ha <;>
      simp [execResponseWindowClose, onDev, ht, hair, ha, hf, s.dev.runTo_past _ hdue, Dev.cond]
  have hfloor : Quiet noFrameEndRegs s.dev (s.dev.modCh ch fun c => { c with floor := floor }) := .modCh _ _ _
  obtain ⟨hshown, hended⟩ := noFrame_ended _ s.dev.tc .noResponse ((hfloor.txn ch).trans ht) hx
  exact ⟨_, hexec, endsWithout_of hshown (.after (.ofQuiet ch hfloor) hended)⟩

theorem does_falseSof_over {per : Nat} (ht : (s.dev.ch ch).txn = some x) (hx : x.Exchanging q) (hper : per < 2) (ha : x.air = .receiving)
    (hover : x.winOver = true) : Does (.falseSof ch per) s (EndsWithout ch s q x.holdField .noResponse s.dev.tc) := by
  have hleave := (moves_leaveFrame s.dev ht).mono (M := noFrameEndRegs) (by decide)
  have hcount := hleave.andQuiet ((quiet_falseCounted _ ch).mono (by decide))
  have hexec : exec (.falseSof ch per) s = .next { s with dev :=
      (((s.dev.leaveFrame ch).falseCounted ch).noFrame ch s.dev.tc .noResponse) } := by
    have htc : (s.dev.leaveFrame ch).tc = s.dev.tc := congrArg TimeSt.tc hleave.kept.time
    change execFalseSof ch per s = _
    simp [execFalseSof, onDev, ht, s.dev.airOf_up ht hx.phase, ha, hover, Nat.not_le.2 hper, Dev.falseCounted, ← htc]
  obtain ⟨hshown, hended⟩ := noFrame_ended _ s.dev.tc .noResponse (hcount.txn ht) { hx with }
  exact ⟨_, hexec, endsWithout_of hshown (.after hcount hended)⟩

theorem does_captureWindowClose (en : List Nat) (ht : (s.dev.ch ch).txn = some x) (hx : x.Exchanging q) (hf : x.frame = some f)
    (ha : x.air = .capturing) (hdue : (x.capEnd + 3) / 4 ≤ s.dev.tc) :
    Does (.captureWindowClose ch en) s (EndsWithout ch s q x.holdField .collision
      ((max (s.dev.captureQuiet ch x f en) x.capEnd - s.dev.rxLat ch + 3) / 4)) := by
  have hexec : exec (.captureWindowClose ch en) s = .next { s with dev :=
      (s.dev.atIndex (s.dev.captureQuiet ch x f en - s.dev.rxLat ch) fun d =>
        d.noFrame ch ((max (s.dev.captureQuiet ch x f en) x.capEnd - s.dev.rxLat ch + 3) / 4) .collision) } := by
    change execCaptureWindowClose ch en s = _
    simp only [execCaptureWindowClose, onDev, ht, s.dev.airOf_up ht hx.phase, ha, if_true, hf, s.dev.runTo_past _ hdue]
    refine congrArg (fun e : Dev => Host.Outcome.next { s with dev := e }) (s.dev.atIndex_congr ?_)
    rw [Dev.rxLat_atEdge]
  obtain ⟨hshown, hended⟩ := noFrame_ended (s.dev.atEdge (s.dev.captureQuiet ch x f en - s.dev.rxLat ch))
    ((max (s.dev.captureQuiet ch x f en) x.capEnd - s.dev.rxLat ch + 3) / 4) .collision ht hx
  exact ⟨_, hexec, endsWithout_of hshown hended.atIndex⟩

/-! ### An EXCHANGE that a frame ends -/

theorem does_tagFrameReceived {w : RxWire} {m : RxFacts} {v : Verdict} (ht : (s.dev.ch ch).txn = some x) (hx : x.Exchanging q)
    (hf : x.frame = some f) (ha : x.air = .receiving) (hj : s.dev.joint ch x.fg = false) (hsep : x.sep = none) (hmarks : x.marks = [])
    (hdue : (w.stop + 3) / 4 ≤ s.dev.tc) (hm : m = (s.dev.measure ch x f (demod (s.dev.rxSet ch x f) w.syms)).1)
    (hcoll : m.frame.collCount = 0) (hv : v = verdict f.tech f.rxCrc m.rateOk f.rxMax m.frame) :
    Does (.tagFrameReceived ch w) s fun t =>
      FrameShown ch m v t.dev ∧ t.pending = s.pending ∧ t.nv = s.nv ∧
      Ended frameEndRegs ch q x.holdField v.status ((s.dev.endEdge ch x f w - s.dev.rxLat ch + 3) / 4) s.dev t.dev := by
  have hexec : exec (.tagFrameReceived ch w) s = .next { s with dev :=
      (s.dev.atIndex (s.dev.endEdge ch x f w - s.dev.rxLat ch) fun d =>
        d.received ch x f w ((s.dev.endEdge ch x f w - s.dev.rxLat ch + 3) / 4)) } := by
    change execTagFrameReceived ch w s = _
    simp only [execTagFrameReceived, onDev, ht, s.dev.airOf_up ht hx.phase, ha, true_or, if_true, hf, s.dev.runTo_past _ hdue]
    rfl
  have hm' := hm.trans (s.dev.measure_atEdge (s.dev.endEdge ch x f w - s.dev.rxLat ch) ch x f _).symm
  obtain ⟨hshown, hended⟩ := received_ended (s.dev.atEdge (s.dev.endEdge ch x f w - s.dev.rxLat ch))
    ((s.dev.endEdge ch x f w - s.dev.rxLat ch + 3) / 4) ht hx ha hj hsep hmarks hm' hcoll hv
  exact ⟨_, hexec, hshown, rfl, rfl, hended.atIndex (g := fun d =>
    d.received ch x f w ((s.dev.endEdge ch x f w - s.dev.rxLat ch + 3) / 4))⟩

end Ends

/-- Settles O13: each end shows its frame or that there was none (`NoFrameShown`, `FrameShown`), and ends the EXCHANGE (`Ended`). -/
theorem frameEnds : Obligations.FrameEnds := by
  intro ch s x f q ht hp hwork hf hdesc _ hstop hsess hhandles
  have hx : x.Exchanging q := ⟨hp, hwork, hdesc, hstop, hsess, hhandles⟩
  refine ⟨?_, fun w m v ha hj hsep hmarks hdue hm hcoll hv => ?_⟩
  · rintro c st ends (⟨floor, rfl, ha, hdue, rfl, rfl⟩ | ⟨per, rfl, hper, ha, hover, rfl, rfl⟩ | ⟨en, rfl, ha, hdue, rfl, rfl⟩)
    · exact does_responseWindowClose_noFrame floor ht hx hf ha hdue
    · exact does_falseSof_over ht hx hper ha hover
    · exact does_captureWindowClose en ht hx hf ha hdue
  · obtain ⟨t, hexec, ⟨hst, hbits, hlen, hfdt, hkind⟩, hpend, hnv, hend⟩ :=
      does_tagFrameReceived ht hx hf ha hj hsep hmarks hdue hm hcoll hv
    exact ⟨t, hexec, hst, hbits, hlen, hfdt, hkind, hend.txn, hend.gone, hend.others, hpend, hnv, hend.kept.time, hend.kept.sess⟩

end Sys2Proof.Proofs
end

section
/-! PROOFS. The end of a probe whose transaction names no coil: the field that its channel holds has no coil to fall with. -/

namespace Sys2Proof.Proofs

open Sys2Proof.Machine Sys2Proof.Safety

/-- A pilot probe whose field is up, and that drives no coil. -/
def undrivenProbe : Txn := { work := .pilot, phase := .up, finished := true }

/-- A running device 64 carrier cycles after the field start of such a probe of arbour 0's column 0: channel 0 holds a field, and channel 1's
tap takes part at the gain of the probed coil's. Its residual errors go into no cupping report (R557). -/
def undrivenProbing : State :=
  { dev := (((({ pwr := { boot := .running }, time := { tc := 64 } } : Dev).setOn F.CAL_CTL_PILOT_CUP 0 0 false).modArb 0 fun a =>
      { a with pilot := [0], gains := [(0, 7), (1, 7)] }).modCh 0 fun c =>
      { c with txn := some undrivenProbe, fieldOf := some 0 }).modCh 1 fun c => { c with role := .poll } }

/-- The state meets the conditions of a probe's end: the batch, the gains, the transaction, its length, and a tap that takes part. -/
theorem undrivenProbing_ends :
    (undrivenProbing.dev.arb 0).pilot = [0] ∧ tblFind (undrivenProbing.dev.arb 0).gains 0 = some 7 ∧
    tblFind (undrivenProbing.dev.arb 0).gains 1 = some 7 ∧ (undrivenProbing.dev.ch 0).txn = some undrivenProbe ∧
    undrivenProbe.tUp + 64 ≤ undrivenProbing.dev.tc ∧ undrivenProbing.dev.rxTakes 1 = true := by decide +kernel

/-- The probe's end leaves channel 0's field (R180): `Dev.fieldEnded` ends those of the coils that the transaction drives. -/
theorem undrivenProbing_keepsField :
    (answer (.pilotProbeEnd 0 [(0, 1, 0), (1, 0, 0)] (0, 0)) undrivenProbing).map (fun t => (t.dev.ch 0).fieldOf) = some (some 0) := by
  decide +kernel

/-- Refutes O14: its clause on PILOT_PROBE_END does not ask which coils the probe's transaction drives. Where it drives none, the end of its
field ends no coil's, and the channel still holds a field where the clause says it holds none. -/
theorem not_pilotProbes : ¬ Obligations.PilotProbes := by
  rintro ⟨-, -, -, probeEnds, -⟩
  obtain ⟨hbatch, hgain, hgain', htxn, hdue, htakes⟩ := undrivenProbing_ends
  obtain ⟨t, ht, -, -, -, -, -, -, hfield, -⟩ := probeEnds 0 0 1 0 0 7 ⟨0, 0⟩ ⟨1, 0⟩ (0, 0) undrivenProbing undrivenProbe _
    (by decide) (by decide) rfl rfl hgain hgain' hbatch htxn rfl rfl rfl hdue htakes rfl
  have hnone : (t.dev.ch 0).fieldOf = none := hfield
  have hanswer : answer (.pilotProbeEnd 0 [(0, 1, 0), (1, 0, 0)] (0, 0)) undrivenProbing = some t := answer_of_next ht
  have hkept := undrivenProbing_keepsField
  rw [hanswer] at hkept
  simp [hnone] at hkept

end Sys2Proof.Proofs
end

section
/-! PROOFS. The coupling matrix, its seams and the transmit weights: what their writes put into the register file, and what they leave. -/

namespace Sys2Proof.Machine

open Sys2Proof.Safety

/-! ### Single bits of a number -/

theorem bitAt_eq_bits (v k : Nat) : bitAt v k = (bits v k 1 == 1) := rfl

/-- A bit reads the Bool put into it. -/
theorem bitAt_setBits_same (v k : Nat) (b : Bool) : bitAt (setBits v k 1 (b2n b)) k = b := by
  rw [bitAt_eq_bits, bits_setBits_same]
  cases b <;> rfl

/-- Every other bit stands. -/
theorem bitAt_setBits_other {v k l : Nat} (x : Nat) (h : l ≠ k) : bitAt (setBits v k 1 x) l = bitAt v l := by
  rw [bitAt_eq_bits, bits_setBits_other (by omega), ← bitAt_eq_bits]

/-- A register of two signed parts says what their bits say (R5, R6). -/
theorem cxOf_eq_bits (w v : Nat) : cxOf w v = ⟨toInt w (bits v 0 w), toInt w (bits v 16 w)⟩ := by
  simp only [cxOf, toInt, bits_eq, Nat.pow_zero, Nat.div_one, Nat.mod_mod]

variable (d : Dev)

/-- A field that takes what it held in some state, with one bit put into it, reads that. -/
theorem Dev.fld_setFld_bit (e : Dev) (f : Fld) (i j : Nat) {k : Nat} (x : Nat) (hf : f.lo + f.w ≤ 32) (hk : k < f.w) :
    (d.setFld f i j (setBits (e.fld f i j) k 1 x)).fld f i j = setBits (e.fld f i j) k 1 x := by
  have hlt : e.fld f i j < 2 ^ f.w := bits_lt _ _ _
  rw [d.fld_setFld_same f i j _ hf, Nat.mod_eq_of_lt (setBits_lt hlt hk)]

theorem Dev.on_setOn_disjoint (f g : Fld) (i j : Nat) (b : Bool) (hr : f.reg = g.reg) (h : f.lo + f.w ≤ 32)
    (hd : g.lo + g.w ≤ f.lo ∨ f.lo + f.w ≤ g.lo) : (d.setOn f i j b).on g i j = d.on g i j := by
  rw [Dev.on, Dev.setOn, d.fld_setFld_disjoint f g i j _ hr h hd, Dev.on]

theorem Dev.on_wr_name {r : RegName} {f : Fld} (i j k l v : Nat) (h : r ≠ f.reg) : (d.wr r i j v).on f k l = d.on f k l := by
  rw [Dev.on, d.fld_wr_name i j k l v h, Dev.on]

/-! ### Writes of single registers -/

/-- A write of one register changes it alone, at its place. -/
theorem onlyRegs_wr (s : State) (r : RegName) (i j v : Nat) : OnlyRegs [(r, i, j)] s { s with dev := s.dev.wr r i j v } :=
  ⟨rfl, fun _ _ _ h => s.dev.rd_wr_other _ (h (r, i, j) (List.mem_singleton.2 rfl))⟩

theorem onlyRegs_refl (L : List (RegName × Nat × Nat)) (s : State) : OnlyRegs L s s := ⟨rfl, fun _ _ _ _ => rfl⟩

theorem onlyRegs_mono {L M : List (RegName × Nat × Nat)} {s t : State} (h : ∀ x ∈ L, x ∈ M) (a : OnlyRegs L s t) : OnlyRegs M s t :=
  ⟨a.1, fun r i j n => a.2 r i j fun x hx => n x (h x hx)⟩

/-- A plain write of a register without a sealed field changes it alone (R7, R8, R510). -/
theorem onlyRegs_plainWrite (s : State) (nv : NonVol) {r : RegName} (i j v : Nat)
    (h : (fieldRows r).all fun f => !f.isSealed) : OnlyRegs [(r, i, j)] s { s with dev := s.dev.plainWrite nv r i j v } := by
  have hopen : (fieldRows r).any (fun f => f.refuses nv (s.dev.rd r i j) v) = false := by
    refine List.any_eq_false.2 fun f hf => ?_
    have hseal : f.isSealed = false := by simpa using List.all_eq_true.1 h f hf
    simp [FldRow.refuses, hseal]
  simp only [Dev.plainWrite, hopen, Bool.false_eq_true, if_false]
  split
  · exact onlyRegs_refl _ s
  · exact onlyRegs_wr s r i j _

/-- A plain write of a weight stores both of its parts (R196). -/
theorem Dev.weight_plainWrite (nv : NonVol) (i j v : Nat) :
    cxOf 10 ((d.plainWrite nv .ARB_FG_W i j v).rd .ARB_FG_W i j) = cxOf 10 v := by
  have hput : (d.plainWrite nv .ARB_FG_W i j v).rd .ARB_FG_W i j =
      setBits (setBits (d.rd .ARB_FG_W i j) 0 10 (bits v 0 10)) 16 10 (bits v 16 10) := by
    rw [d.rd_plainWrite nv i j v (by decide)]
    exact Nat.mod_eq_of_lt (setBits_lt (setBits_lt (d.rd_lt _ _ _) (by decide)) (by decide))
  rw [hput, cxOf_eq_bits, cxOf_eq_bits 10 v, bits_setBits_same, bits_setBits_below (by decide), bits_setBits_same,
    Nat.mod_eq_of_lt (bits_lt _ _ _), Nat.mod_eq_of_lt (bits_lt _ _ _)]

/-! ### Columns (R188) -/

/-- A column that is refreshed is valid and not stale (R188, R190). -/
theorem Dev.colFresh_marks {a k : Nat} (hk : k < 8) :
    bitAt ((d.colFresh a k).fld F.ARB_CM_STAT_VALID a) k = true ∧ bitAt ((d.colFresh a k).fld F.ARB_CM_STAT_STALE a) k = false := by
  unfold Dev.colFresh
  extract_lets e
  refine ⟨?_, ?_⟩
  · rw [Dev.fld_setFld_disjoint _ F.ARB_CM_STAT_STALE F.ARB_CM_STAT_VALID a 0 _ rfl (by decide) (by decide),
      Dev.fld_setFld_bit _ e F.ARB_CM_STAT_VALID a 0 _ (by decide) hk]
    exact bitAt_setBits_same _ k true
  · rw [Dev.fld_setFld_bit _ e F.ARB_CM_STAT_STALE a 0 _ (by decide) hk]
    exact bitAt_setBits_same _ k false

theorem kept_colFresh {L : List RegName} (a k : Nat) (h : .ARB_CM_STAT ∈ L) : Kept L d (d.colFresh a k) :=
  ((kept_modArb L d a _).trans (kept_setFld L _ F.ARB_CM_STAT_VALID a 0 _ h)).trans (kept_setFld L _ F.ARB_CM_STAT_STALE a 0 _ h)

/-- The mark of a column's age, its bit of STALE (R188). -/
theorem Dev.staleMark_marks {a k : Nat} (hk : k < 8) :
    bitAt ((d.staleMark a k).fld F.ARB_CM_STAT_STALE a) k =
      ((tblFind (d.arb a).colAt k).isSome && d.olderThan a k (d.fld F.ARB_PILOT_CFG_STALE a)) ∧
    ∀ l, l ≠ k → bitAt ((d.staleMark a k).fld F.ARB_CM_STAT_STALE a) l = bitAt (d.fld F.ARB_CM_STAT_STALE a) l := by
  unfold Dev.staleMark
  extract_lets b
  rw [Dev.fld_setFld_bit _ d F.ARB_CM_STAT_STALE a 0 _ (by decide) hk]
  exact ⟨bitAt_setBits_same _ k b, fun l hl => bitAt_setBits_other _ hl⟩

/-! ### Seams (R178, R179) -/

/-- The registers that say whether a seam with another device is exchanged. -/
def seamRegs : List RegName := [.PRM_STAT, .PRM_CTL, .ARB_CTL]

/-- Whether a seam with another device is exchanged stands under a write of any other register (R675). -/
theorem Dev.seamOn_wr {r : RegName} (up : Bool) (i j v : Nat) (h : r ∉ seamRegs) : (d.wr r i j v).seamOn up = d.seamOn up := by
  have hon (f : Fld) (k l : Nat) (hf : f.reg ∈ seamRegs) : (d.wr r i j v).on f k l = d.on f k l :=
    d.on_wr_name i j k l v fun e => h (e ▸ hf)
  simp (disch := decide) only [Dev.seamOn, Dev.laneUp, Dev.prt, Dev.wr_prom, hon]

/-- A seam is valid where it was, or where the arbour has it and an entry of it is stored (R179, R190). -/
theorem Dev.seamValid_marks (r : RegName) (a : Nat) :
    (d.seamValid r a).on F.ARB_CM_STAT_SEAM_LO_VALID a = (d.on F.ARB_CM_STAT_SEAM_LO_VALID a || (decide (r = .ARB_SEAM_LO) && d.hasLo a)) ∧
    (d.seamValid r a).on F.ARB_CM_STAT_SEAM_HI_VALID a = (d.on F.ARB_CM_STAT_SEAM_HI_VALID a || (decide (r = .ARB_SEAM_HI) && d.hasHi a)) := by
  by_cases hlo : r = .ARB_SEAM_LO
  · subst hlo
    cases hs : d.hasLo a
    · simp [Dev.seamValid, Dev.cond, hs]
    · simp [Dev.seamValid, Dev.cond, hs, d.on_setOn_same F.ARB_CM_STAT_SEAM_LO_VALID a 0 true (by decide) rfl,
        d.on_setOn_disjoint F.ARB_CM_STAT_SEAM_LO_VALID F.ARB_CM_STAT_SEAM_HI_VALID a 0 true rfl (by decide) (by decide)]
  by_cases hhi : r = .ARB_SEAM_HI
  · subst hhi
    cases hs : d.hasHi a
    · simp [Dev.seamValid, Dev.cond, hs]
    · simp [Dev.seamValid, Dev.cond, hs, d.on_setOn_same F.ARB_CM_STAT_SEAM_HI_VALID a 0 true (by decide) rfl,
        d.on_setOn_disjoint F.ARB_CM_STAT_SEAM_HI_VALID F.ARB_CM_STAT_SEAM_LO_VALID a 0 true rfl (by decide) (by decide)]
  · simp [Dev.seamValid, hlo, hhi]

theorem onlyRegs_seamValid (s : State) (r : RegName) (a : Nat) :
    OnlyRegs [(.ARB_CM_STAT, a, 0)] s { s with dev := s.dev.seamValid r a } := by
  have hcond (b : Bool) (f : Fld) (hf : f.reg = .ARB_CM_STAT) :
      OnlyRegs [(.ARB_CM_STAT, a, 0)] s { s with dev := s.dev.cond b fun d => d.setOn f a 0 true } := by
    cases b
    · exact onlyRegs_refl _ s
    · rw [← hf]; exact onlyRegs_setFld s f a 0 _
  unfold Dev.seamValid
  split
  · exact hcond _ _ rfl
  · exact hcond _ _ rfl
  · exact onlyRegs_refl _ s

/-! ### Entries (R190) -/

theorem Dev.cmWrite_refused (r : RegName) {a : Nat} (j v : Nat) (h : d.on F.ARB_CTL_PILOT_EN a = true) : d.cmWrite r a j v = d := by
  rw [Dev.cmWrite, if_pos h]

theorem Dev.cmWrite_matrix {a : Nat} (j v : Nat) (h : d.on F.ARB_CTL_PILOT_EN a = false) :
    d.cmWrite .ARB_CM a j v = (d.wr .ARB_CM a j v).colFresh a (j % 8) := by
  simp [Dev.cmWrite, h, Dev.seamValid]

theorem Dev.cmWrite_seam {r : RegName} {a : Nat} (j v : Nat) (h : d.on F.ARB_CTL_PILOT_EN a = false) (hr : r ≠ .ARB_CM) :
    d.cmWrite r a j v = (d.wr r a j v).seamValid r a := by
  simp [Dev.cmWrite, h, hr]

/-- Entries of the matrices at other arbours or indices lie elsewhere in the register file. -/
theorem regKey_cm_ne {a i j k : Nat} (ha : a < 24) (hi : i < 24) (hk : k < 64) (hj : j < 64) (h : i ≠ a ∨ j ≠ k) :
    regKey .ARB_CM a k ≠ regKey .ARB_CM i j := by
  by_cases e : a = i
  · subst e
    exact regKey_ne_inner _ _ _ hk hj (by omega)
  · exact regKey_ne_inst _ _ _ (by omega) (by omega) e

end Sys2Proof.Machine

namespace Sys2Proof.Proofs

open Sys2Proof.Machine Sys2Proof.Safety

theorem idle_arbCmWrite (arb : Fin 24) (which : Fin 3) (ix : Fin 64) (v : Word) (s : State)
    (h : s.dev.on F.ARB_CTL_PILOT_EN arb = true ∨ which ≠ 0 ∧ 8 ≤ ix.val) : Idle (.arbCmWrite arb which ix v) s := by
  change execArbCmWrite arb which ix v s = .next s
  simp only [execArbCmWrite, onDev]
  rcases h with hpilot | ⟨hwhich, hix⟩
  · rw [s.dev.cmWrite_refused _ _ _ hpilot, ite_self]
  · rw [if_neg]
    omega

theorem exec_arbCmWrite (arb : Fin 24) (which : Fin 3) (ix : Fin 64) (v : Word) (s : State) (h : which = 0 ∨ ix.val < 8) :
    exec (.arbCmWrite arb which ix v) s = .next { s with dev := s.dev.cmWrite (cmReg which) arb ix v.toNat } := by
  change execArbCmWrite arb which ix v s = _
  simp only [execArbCmWrite, onDev]
  rw [if_pos]
  omega

theorem does_arbCmWrite_matrix (arb : Fin 24) (ix : Fin 64) (v : Word) (s : State) (h : s.dev.on F.ARB_CTL_PILOT_EN arb = false) :
    Does (.arbCmWrite arb 0 ix v) s fun t =>
      t.dev.rd .ARB_CM arb ix = v.toNat ∧ bitAt (t.dev.fld F.ARB_CM_STAT_VALID arb) (ix % 8) = true ∧
      bitAt (t.dev.fld F.ARB_CM_STAT_STALE arb) (ix % 8) = false ∧ t.dev.chans = s.dev.chans ∧
      (∀ i j, i < 24 → j < 64 → (i ≠ arb.val ∨ j ≠ ix.val) → t.dev.rd .ARB_CM i j = s.dev.rd .ARB_CM i j) ∧
      Works [.ARB_CM, .ARB_CM_STAT] s t := by
  refine ⟨_, exec_arbCmWrite arb 0 ix v s (.inl rfl), ?_⟩
  change _ ∧ _
  rw [show cmReg ((0 : Fin 3) : Nat) = .ARB_CM from rfl, s.dev.cmWrite_matrix _ _ h]
  have hfresh := kept_colFresh (L := [.ARB_CM_STAT]) (s.dev.wr .ARB_CM arb ix v.toNat) arb (ix % 8) (List.mem_singleton.2 rfl)
  obtain ⟨hvalid, hstale⟩ := (s.dev.wr .ARB_CM arb ix v.toNat).colFresh_marks (a := arb) (Nat.mod_lt ix.val (by decide : 0 < 8))
  refine ⟨?_, hvalid, hstale, rfl, fun i j hi hj hne => ?_,
    works_of_kept s ((kept_wr _ _ _ _ _ _ (by decide)).trans (hfresh.mono (by decide)))⟩
  · rw [hfresh.regs _ _ _ (by decide), Dev.rd_wr_same, Nat.mod_eq_of_lt v.isLt]
  · rw [hfresh.regs _ _ _ (by decide), s.dev.rd_wr_other _ (regKey_cm_ne arb.isLt hi ix.isLt hj hne)]

/-- The seam registers that ARB_CM_WRITE names. -/
theorem cmReg_seam (which : Fin 3) (h : which ≠ 0) :
    cmReg which ≠ .ARB_CM ∧ cmReg which ≠ .ARB_CM_STAT ∧ cmReg which ∉ seamRegs ∧
    decide (cmReg which = .ARB_SEAM_LO) = decide (which = 1) ∧ decide (cmReg which = .ARB_SEAM_HI) = decide (which = 2) := by
  revert which; decide

theorem does_arbCmWrite_seam (arb : Fin 24) (which : Fin 3) (ix : Fin 64) (v : Word) (s : State)
    (h : s.dev.on F.ARB_CTL_PILOT_EN arb = false) (hwhich : which ≠ 0) (hix : ix.val < 8) :
    Does (.arbCmWrite arb which ix v) s fun t =>
      t.dev.rd (cmReg which) arb ix = v.toNat ∧
      t.dev.on F.ARB_CM_STAT_SEAM_LO_VALID arb =
        (s.dev.on F.ARB_CM_STAT_SEAM_LO_VALID arb || (decide (which = 1) && s.dev.hasLo arb)) ∧
      t.dev.on F.ARB_CM_STAT_SEAM_HI_VALID arb =
        (s.dev.on F.ARB_CM_STAT_SEAM_HI_VALID arb || (decide (which = 2) && s.dev.hasHi arb)) ∧
      OnlyRegs [(cmReg which, arb, ix), (.ARB_CM_STAT, arb, 0)] s t := by
  refine ⟨_, exec_arbCmWrite arb which ix v s (.inr hix), ?_⟩
  obtain ⟨hcm, hstat, hseam, hlo, hhi⟩ := cmReg_seam which hwhich
  generalize cmReg which = r at *
  rw [s.dev.cmWrite_seam _ _ h hcm]
  have hentry := onlyRegs_wr s r arb ix v.toNat
  have hmark := onlyRegs_seamValid { s with dev := s.dev.wr r arb ix v.toNat } r arb
  obtain ⟨hloValid, hhiValid⟩ := (s.dev.wr r arb ix v.toNat).seamValid_marks r arb
  refine ⟨?_, ?_, ?_, onlyRegs_trans (onlyRegs_mono (by simp) hentry) (onlyRegs_mono (by simp) hmark)⟩
  · have hrd := hmark.2 r arb ix fun x hx => by
      rw [List.mem_singleton.1 hx]; exact regKey_ne_name (Ne.symm hstat) _ _ _ _
    rw [hrd, Dev.rd_wr_same, Nat.mod_eq_of_lt v.isLt]
  · rw [hloValid, hlo, Dev.hasLo, s.dev.seamOn_wr _ _ _ _ hseam, s.dev.on_wr_name _ _ _ _ _ hstat, Dev.hasLo]
  · rw [hhiValid, hhi, Dev.hasHi, s.dev.seamOn_wr _ _ _ _ hseam, s.dev.on_wr_name _ _ _ _ _ hstat, Dev.hasHi]

theorem fgWeightWrite_cases (arb : Fin 24) (g : Fin 4) (k : Fin 8) (v : Word) (s : State) :
    (s.dev.fld F.ARB_FG_CTL_MODE arb g ≠ 0 → Idle (.fgWeightWrite arb g k v) s) ∧
    (s.dev.fld F.ARB_FG_CTL_MODE arb g = 0 → (cxOf 10 v.toNat).norm ≤ 511 * 511 → Does (.fgWeightWrite arb g k v) s fun t =>
      cxOf 10 (t.dev.rd .ARB_FG_W arb (8 * g + k)) = cxOf 10 v.toNat ∧ OnlyRegs [(.ARB_FG_W, arb, 8 * g + k)] s t) ∧
    (s.dev.fld F.ARB_FG_CTL_MODE arb g = 0 → 511 * 511 < (cxOf 10 v.toNat).norm → Does (.fgWeightWrite arb g k v) s fun t =>
      t.dev.on F.ARB_FG_STAT_REFUSED arb g = true ∧ OnlyRegs [(.ARB_FG_STAT, arb, g)] s t) := by
  have hexec : exec (.fgWeightWrite arb g k v) s = .next { s with dev := s.dev.weightWrite s.nv arb g k v.toNat } := rfl
  refine ⟨fun hmode => ?_, fun hmode hsmall => ⟨_, hexec, ?_⟩, fun hmode hgreat => ⟨_, hexec, ?_⟩⟩
  · rw [Idle, hexec, Dev.weightWrite, if_pos hmode]
  · rw [Dev.weightWrite, if_neg (not_not.2 hmode), if_neg (Nat.not_lt.2 hsmall)]
    exact ⟨s.dev.weight_plainWrite _ _ _ _, onlyRegs_plainWrite s _ _ _ _ (by decide)⟩
  · rw [Dev.weightWrite, if_neg (not_not.2 hmode), if_pos hgreat]
    exact ⟨s.dev.on_setOn_same _ _ _ _ (by decide) rfl, onlyRegs_setFld s F.ARB_FG_STAT_REFUSED arb g _⟩

theorem does_columnStale (arb : Fin 24) (col : Fin 8) (s : State) : Does (.columnStale arb col) s fun t =>
    (∀ k < 8, k ≠ col.val → bitAt (t.dev.fld F.ARB_CM_STAT_STALE arb) k = bitAt (s.dev.fld F.ARB_CM_STAT_STALE arb) k) ∧
    bitAt (t.dev.fld F.ARB_CM_STAT_STALE arb) col =
      ((tblFind (s.dev.arb arb).colAt col).isSome && s.dev.olderThan arb col (s.dev.fld F.ARB_PILOT_CFG_STALE arb)) ∧
    t.dev.fld F.ARB_CM_STAT_VALID arb = s.dev.fld F.ARB_CM_STAT_VALID arb ∧ OnlyRegs [(.ARB_CM_STAT, arb, 0)] s t := by
  obtain ⟨hmark, hothers⟩ := s.dev.staleMark_marks (a := arb) col.isLt
  exact ⟨{ s with dev := s.dev.staleMark arb col }, rfl, fun k _ hk => hothers k hk, hmark,
    s.dev.fld_setFld_disjoint F.ARB_CM_STAT_STALE F.ARB_CM_STAT_VALID arb 0 _ rfl (by decide) (by decide),
    onlyRegs_setFld s F.ARB_CM_STAT_STALE arb 0 _⟩

/-- Settles O15: a write of an entry is refused, or stores the entry and then refreshes its column or marks its seam; a weight is discarded,
stored or refused by `Dev.weightWrite`; and a column's mark is one bit of STALE. -/
theorem matricesAndWeights : Obligations.MatricesAndWeights := by
  refine ⟨fun arb which ix v s => ⟨idle_arbCmWrite arb which ix v s, fun h hwhich => ?_, does_arbCmWrite_seam arb which ix v s⟩,
    fgWeightWrite_cases, does_columnStale⟩
  subst hwhich
  exact does_arbCmWrite_matrix arb ix v s h

end Sys2Proof.Proofs
end

section
/-! PROOFS. A PROG_LOAD over a program whose stop waits: the end of the run completes the descriptor that the run holds for the stop, whatever
its opcode is. -/

namespace Sys2Proof.Proofs

open Sys2Proof.Machine Sys2Proof.Safety

/-- A program image of one step for channel 0, with its check word (R245). -/
def oneStepImage : List Byte :=
  let b : List Byte := [1, 1, 0, 1, 1, 0, 0, 0, 232, 3, 0, 0, 0, 255, 0, 1, 3, 0, 0, 0] ++ List.replicate 28 0
  b ++ toLe 4 (crc32c b)

/-- A PROG_LOAD of it into slot 2 of pavilion 0. -/
def loadSlot2 : QDesc := { d := { op := 0x08, target := 0x200, param := [2] }, input := oneStepImage }

/-- An EXCHANGE of channel 0, where a run holds a PROG_STOP. -/
def exchangeAsStop : QDesc := { d := { op := 0x01, target := 0 } }

/-- Pavilion 0 carries out the PROG_LOAD while slot 2 runs without a bound channel and holds the EXCHANGE for its stop; CH_FRM_TIME of
channel 0 holds 1. -/
def loadOverStopping : State :=
  { dev := (({} : Dev).wr .CH_FRM_TIME 0 0 1).modPav 0 fun p =>
      { p with tq := { run := some loadSlot2 }, runs := [(2, { stop := some exchangeAsStop })] } }

/-- The state meets the conditions of a load into a running slot. -/
theorem loadOverStopping_loads :
    loadOverStopping.dev.running (0x200 + (0 : Fin 6)) 0x08 = some loadSlot2 ∧ (progParse loadSlot2.input).isSome = true ∧
    (tblFind (loadOverStopping.dev.pav (0 : Fin 6)).runs loadSlot2.slot).isSome = true ∧
    loadOverStopping.dev.rd .CH_FRM_TIME 0 = 1 := by decide +kernel

/-- No channel stays bound, so the run ends and its EXCHANGE completes, as one that received no frame: CH_FRM_TIME reads 0 (R175). -/
theorem loadOverStopping_clears :
    (answer (.progLoad 0) loadOverStopping).map (fun t => t.dev.rd .CH_FRM_TIME 0) = some 0 := by decide +kernel

/-- Refutes O17: its clause on a load into a running slot does not ask which descriptor the run holds for its stop. Where that is an EXCHANGE
and no channel stays bound, `Dev.maskChange` ends the run and completes it, and the completion changes CH_FRM_TIME where the clause lets
only the registers of posting change. -/
theorem not_programImages : ¬ Obligations.ProgramImages := by
  intro holds
  obtain ⟨hrun, hparse, hruns, htime⟩ := loadOverStopping_loads
  obtain ⟨g, hg⟩ := Option.isSome_iff_exists.1 hparse
  obtain ⟨-, loads⟩ := (holds 0 loadOverStopping loadSlot2).1 hrun
  obtain ⟨t, ht, -, -, overRunning⟩ := loads g hg
  obtain ⟨-, -, -, -, -, -, -, kept⟩ := overRunning hruns
  have hstands : t.dev.rd .CH_FRM_TIME 0 = 1 := (kept.regs _ 0 0 (by decide)).trans htime
  have hclears := loadOverStopping_clears
  rw [answer_of_next ht] at hclears
  simp [hstands] at hclears

end Sys2Proof.Proofs
end

section
/-! PROOFS. Descriptors that are answered: where an entry that is posted stands afterwards, and what completing a started descriptor leaves. -/

namespace Sys2Proof.Machine

open Sys2Proof.Safety

variable {α : Type}

/-! ### Entries of a sparse table -/

@[simp] theorem tblFind_put_same (m : Tbl α) (k : Nat) (v : α) : tblFind (tblPut m k v) k = some v := by
  induction m with
  | nil => simp [tblPut, tblFind]
  | cons e t ih =>
    obtain ⟨k', v'⟩ := e
    unfold tblPut
    split
    · simp [tblFind]
    · split
      · simp [tblFind]
      · next h => simp [tblFind, h, ih]

@[simp] theorem tblFind_del_same (m : Tbl α) (k : Nat) : tblFind (tblDel m k) k = none := by
  induction m with
  | nil => rfl
  | cons e t ih =>
    obtain ⟨k', v'⟩ := e
    unfold tblDel
    split
    · exact ih
    · next h => simp [tblFind, h, ih]

theorem tblGet_of_find {m : Tbl α} {k : Nat} {v : α} (x : α) (h : tblFind m k = some v) : tblGet m k x = v := by
  induction m with
  | nil => cases h
  | cons e t ih =>
    obtain ⟨k', v'⟩ := e
    unfold tblFind at h
    unfold tblGet
    split
    · next hk => rw [if_pos hk] at h; exact Option.some.inj h
    · next hk => rw [if_neg hk] at h; exact ih h

variable (d : Dev)

/-! ### Outbound queues (R426) -/

theorem Dev.outq_modOutq_same (s : Nat) (f : OutQ → OutQ) : (d.modOutq s f).outq s = f (d.outq s) := by
  unfold Dev.modOutq Dev.outq
  split
  · rw [Dev.ch_modCh_same]
  · rfl

/-- A change of a channel that leaves its outbound queue leaves every source's. -/
theorem Dev.outq_modCh (s n : Nat) (f : Ch → Ch) (h : ∀ c, (f c).outq = c.outq := by intro; rfl) : (d.modCh n f).outq s = d.outq s := by
  unfold Dev.outq
  split
  · by_cases e : n = s
    · subst e; rw [Dev.ch_modCh_same, h]
    · rw [Dev.ch_modCh_other _ _ e]
  · rfl

theorem Dev.outq_modTq (s t : Nat) (f : TQ → TQ) : (d.modTq t f).outq s = d.outq s := by
  unfold Dev.modTq
  split
  · exact d.outq_modCh s t _
  · split
    · rfl
    · split <;> rfl

theorem Dev.outq_endRun (s : Nat) (q : QDesc) : (d.endRun q).outq s = d.outq s := by
  have hair : ∀ e : Dev, (e.airGone q).outq s = e.outq s := fun e => by
    unfold Dev.airGone Dev.cond; split <;> rfl
  rw [Dev.endRun, hair, Dev.outq_modTq]

/-- What an entry in a queue has of the one that was posted. -/
structure Entry.Is (x e : Entry) : Prop where
  kind   : x.kind = e.kind
  status : x.status = e.status
  source : x.source = e.source
  body   : x.body = e.body
  ring   : e.ring.isSome → x.ring = e.ring

/-- An outbound queue holds an entry, or it waits there for room. -/
def OutQ.Has (q : OutQ) (e : Entry) : Prop := ∃ x ∈ q.held ++ q.waiting, x.Is e

theorem Dev.has_enter {r : Nat} (e : Entry) (h : d.route e = some r) : ((d.enter e).outq e.source).Has e := by
  unfold Dev.enter; rw [h]
  dsimp only
  rw [Dev.outq_modOutq_same]
  refine ⟨{ e with ring := some r }, by simp, rfl, rfl, rfl, rfl, fun hr => ?_⟩
  obtain ⟨k, hk⟩ := Option.isSome_iff_exists.1 hr
  simp only [Dev.route, hk] at h
  rw [hk]; exact h.symm

/-- An entry that is no report of a state stands in its queue once it is posted, unless the map routes it nowhere (R417, R419, R717). -/
theorem Dev.has_post {r : Nat} (e : Entry) (hk : e.kind.reports = false) (h : d.route e = some r) :
    ((d.post e).outq e.source).Has e := by
  unfold Dev.post
  extract_lets x q
  rw [if_neg (by simp [x, hk])]
  split
  · obtain ⟨y, hy, his⟩ := d.has_enter x h
    exact ⟨y, hy, his.kind, his.status, his.source, his.body, his.ring⟩
  · rw [Dev.outq_modOutq_same]
    exact ⟨x, by simp, rfl, rfl, rfl, rfl, fun _ => rfl⟩

/-! ### A descriptor is answered (R404) -/

@[simp] theorem Dev.noFrameRegs_host (n : Nat) (st : Status) : (d.noFrameRegs n st).host = d.host := rfl

theorem Dev.outq_noFrameRegs (s n : Nat) (st : Status) : (d.noFrameRegs n st).outq s = d.outq s := rfl

/-- What a completion leaves of the queues and of the descriptors held: that of its entry, since the registers of the last frame are beside
them. -/
theorem Dev.complete_queues (q : QDesc) (st : Status) (b : CBody) :
    (d.complete q st b).host = (d.completeE q (q.entry d st b)).host ∧
    ∀ s, (d.complete q st b).outq s = (d.completeE q (q.entry d st b)).outq s := by
  unfold Dev.complete Dev.cond
  split
  · exact ⟨Dev.noFrameRegs_host _ _ _, fun s => Dev.outq_noFrameRegs _ s _ _⟩
  · exact ⟨rfl, fun _ => rfl⟩

theorem answered_done (s : State) (q : QDesc) (st : Status) (b : CBody) : Answered q st { s with dev := d.done q st b } := by
  obtain ⟨hhost, hq⟩ := d.complete_queues q st b
  refine ⟨?_, ?_⟩
  · have hgone := Dev.not_mem_completed d q (q.entry d st b)
    rw [Dev.endRun_inFlight] at hgone
    change q ∉ (d.done q st b).host.inFlight
    rwa [Dev.done, Dev.endRun_inFlight, hhost]
  · change _ ∨ ∃ e ∈ ((d.done q st b).outq q.d.source).held ++ ((d.done q st b).outq q.d.source).waiting, _
    rw [Dev.done, Dev.outq_endRun, hq]
    unfold Dev.completeE
    dsimp only
    split
    · next hsup =>
      rw [Bool.and_eq_true, beq_iff_eq] at hsup
      exact .inl hsup
    · obtain ⟨x, hx, his⟩ := (d.release q).has_post (r := q.evq) (q.entry d st b) rfl rfl
      exact .inr ⟨x, hx, his.kind, his.status, his.ring rfl, b, his.body⟩

/-- Completing a started descriptor that is no exchange of a channel changes queues and the counters of posting only. -/
theorem told_done_other (q : QDesc) (st : Status) (b : CBody) (h : exchOps.contains q.d.op = false) : Told postRegs d (d.done q st b) :=
  (told_complete_other d q st b h).trans (told_endRun _ _ _)

/-- The opcode of the descriptor that a target carries out. -/
theorem Dev.op_of_running {t op : Nat} {q : QDesc} (h : d.running t op = some q) : q.d.op = op := by
  unfold Dev.running at h
  split at h
  · split at h
    · next hop => cases h; exact hop
    · cases h
  · cases h

end Sys2Proof.Machine
end

section
/-! PROOFS. Poll cycles: how a channel's cycle begins, what a run of channels that ask leaves, and how a cycle falls due. -/

namespace Sys2Proof.Machine

open Sys2Proof.Safety

variable (d : Dev)

/-! ### Running programs -/

/-- A running program's record changes. -/
def Dev.modRun (p slot : Nat) (f : ProgRun → ProgRun) : Dev :=
  d.modPav p fun x => { x with runs := x.runs.map fun (e : Nat × ProgRun) => if e.1 = slot then (e.1, f e.2) else e }

theorem tblFind_mapRun (m : Tbl ProgRun) (slot : Nat) (f : ProgRun → ProgRun) :
    tblFind (m.map fun (e : Nat × ProgRun) => if e.1 = slot then (e.1, f e.2) else e) slot = (tblFind m slot).map f := by
  induction m with
  | nil => rfl
  | cons e t ih =>
    obtain ⟨k, r⟩ := e
    by_cases h : k = slot
    · simp [tblFind, h]
    · simp only [List.map_cons, tblFind, if_neg h, ih]

@[simp] theorem Dev.runs_modRun (p slot : Nat) (f : ProgRun → ProgRun) :
    tblFind ((d.modRun p slot f).pav p).runs slot = (tblFind (d.pav p).runs slot).map f := by
  rw [Dev.modRun, Dev.pav_modPav_same]; exact tblFind_mapRun _ _ _

@[simp] theorem Dev.progs_modRun (p slot : Nat) (f : ProgRun → ProgRun) : ((d.modRun p slot f).pav p).progs = (d.pav p).progs := by
  rw [Dev.modRun, Dev.pav_modPav_same]
@[simp] theorem Dev.progsNew_modRun (p slot : Nat) (f : ProgRun → ProgRun) :
    ((d.modRun p slot f).pav p).progsNew = (d.pav p).progsNew := by
  rw [Dev.modRun, Dev.pav_modPav_same]

theorem kept_modRun (L : List RegName) (p slot : Nat) (f : ProgRun → ProgRun) : Kept L d (d.modRun p slot f) := kept_modPav L d p _

theorem Dev.mem_boundTo {p slot n : Nat} (h : n ∈ d.boundTo p slot) : n ∈ pavChans p ∧ (d.ch n).prog = some slot := by
  obtain ⟨hn, hprog⟩ := List.mem_filter.1 h
  exact ⟨hn, by simpa using hprog⟩

theorem pavOf_of_mem {p n : Nat} (h : n ∈ pavChans p) : pavOf n = p := by
  obtain ⟨k, hk, rfl⟩ := List.mem_map.1 h
  have := List.mem_range.1 hk
  unfold pavOf; omega

/-! ### A transaction that begins to wait (R350) -/

/-- The device with another count of transactions that have begun to wait. -/
def Dev.withOrder (k : Nat) : Dev := { d with host := { d.host with order := k } }

theorem kept_withOrder {L : List RegName} {d e : Dev} (h : Kept L d e) (k : Nat) : Kept L (d.withOrder k) (e.withOrder k) :=
  ⟨h.time, h.syn, h.pwr, h.sess, h.images, h.ledger, h.sec, h.cal, h.ksk, h.flash, h.timers, h.prom,
    congrArg (fun x : HostIf => { x with order := k }) h.host, h.flt, h.regs⟩

/-- The device is kept, but for the count of transactions that have begun to wait. -/
def KeptOrder (L : List RegName) (d e : Dev) : Prop := Kept L (d.withOrder e.host.order) e

theorem KeptOrder.after {L : List RegName} {d e f : Dev} (a : Kept L d e) (b : KeptOrder L e f) : KeptOrder L d f :=
  (kept_withOrder a _).trans b

theorem Dev.ch_startWait (n : Nat) (t : Txn) :
    (d.startWait n t).ch n = { d.ch n with txn := some { t with phase := .waiting, order := d.host.order } } := by
  rw [Dev.startWait, Dev.ch_modCh_same]; rfl

theorem Dev.ch_startWait_other {n k : Nat} (t : Txn) (h : n ≠ k) : (d.startWait n t).ch k = d.ch k := by
  rw [Dev.startWait, Dev.ch_modCh_other _ _ h]; rfl

theorem keptOrder_startWait (L : List RegName) (n : Nat) (t : Txn) : KeptOrder L d (d.startWait n t) := by
  unfold KeptOrder Dev.startWait
  exact kept_modCh L (d.withOrder (d.host.order + 1)) n _

/-- A cycle begins as a transaction of its program, with the program's first step (R249). -/
theorem Dev.startCycle_eq (n slot : Nat) (g : Prog) (q : Option QDesc) : ∃ t, d.startCycle n slot g q = d.startWait n t ∧
    t.work = .cycle slot q.isSome ∧ t.desc = q ∧ t.prog = g ∧ t.stepIx = 0 ∧ (q.isSome → t.level = g.level) := by
  unfold Dev.startCycle
  cases q with
  | none => exact ⟨_, rfl, rfl, rfl, rfl, rfl, nofun⟩
  | some q => exact ⟨_, rfl, rfl, rfl, rfl, rfl, fun _ => rfl⟩

/-! ### Channels that ask for their cycle's turn (R250, R251, R480) -/

/-- Some channels have begun their cycle: each had no transaction, and nothing else has changed but the count of those that have begun to
wait. -/
structure Launched (d e : Dev) : Prop where
  ch    : ∀ n, e.ch n = { d.ch n with txn := (e.ch n).txn }
  stays : ∀ n x, (d.ch n).txn = some x → (e.ch n).txn = some x
  rest  : e = { d with chans := e.chans, host := { d.host with order := e.host.order } }

namespace Launched

variable {d} {e f : Dev}

theorem refl (d : Dev) : Launched d d := ⟨fun _ => rfl, fun _ _ h => h, rfl⟩

theorem trans (a : Launched d e) (b : Launched e f) : Launched d f where
  ch n := by rw [b.ch n, a.ch n]
  stays n x h := b.stays n x (a.stays n x h)
  rest := b.rest.trans
    (congrArg (fun x : Dev => { x with chans := f.chans, host := { x.host with order := f.host.order } }) a.rest)

theorem pav (a : Launched d e) (p : Nat) : e.pav p = d.pav p := by rw [a.rest]; rfl

theorem keptOrder (L : List RegName) (a : Launched d e) : KeptOrder L d e := by
  have h : Kept L (d.withOrder e.host.order) { d with chans := e.chans, host := { d.host with order := e.host.order } } := { Kept.refl L _ with }
  rwa [← a.rest] at h

theorem startWait (d : Dev) {n : Nat} (t : Txn) (h : (d.ch n).txn = none) : Launched d (d.startWait n t) where
  ch k := by
    by_cases e : n = k
    · subst e; rw [Dev.ch_startWait]
    · rw [Dev.ch_startWait_other _ _ e]
  stays k x hx := by
    by_cases e : n = k
    · subst e; rw [h] at hx; cases hx
    · rwa [Dev.ch_startWait_other _ _ e]
  rest := rfl

end Launched

/-- A channel bound to a running program, with the program and its run. -/
structure Bound (d : Dev) (n slot : Nat) (r : ProgRun) (g : Prog) : Prop where
  prog  : (d.ch n).prog = some slot
  run   : tblFind (d.pav (pavOf n)).runs slot = some r
  image : tblFind (d.pav (pavOf n)).progs slot = some g

/-- A channel's cycle of a running program may begin: it is open, its phase runs, and the channel is free for it (R234, R250). -/
structure MayLaunch (d : Dev) (n slot : Nat) (r : ProgRun) (g : Prog) : Prop extends Bound d n slot r g where
  cycleOpen : (d.ch n).cycleOpen = true
  txn       : (d.ch n).txn = none
  role      : (d.ch n).role = .poll
  borrowed  : (d.ch n).borrowed = false
  phase     : phaseOf g n = r.phase

section Asking

variable {d} {e : Dev} {n slot : Nat} {r : ProgRun} {g : Prog}

theorem Bound.launched (b : Bound d n slot r g) (a : Launched d e) : Bound e n slot r g where
  prog := by rw [a.ch n]; exact b.prog
  run := by rw [a.pav]; exact b.run
  image := by rw [a.pav]; exact b.image

theorem MayLaunch.launched (m : MayLaunch d n slot r g) (a : Launched d e) (h : e.ch n = d.ch n) : MayLaunch e n slot r g where
  toBound := m.toBound.launched a
  cycleOpen := by rw [h]; exact m.cycleOpen
  txn := by rw [h]; exact m.txn
  role := by rw [h]; exact m.role
  borrowed := by rw [h]; exact m.borrowed
  phase := m.phase

theorem MayLaunch.launch_eq (m : MayLaunch d n slot r g) : d.launch n = d.startCycle n slot g none := by
  simp [Dev.launch, m.prog, m.run, m.image, m.cycleOpen, m.txn, m.role, m.borrowed, m.phase]

/-- A channel's cycle does not begin while another phase runs (R251). -/
theorem Bound.launch_other_phase (b : Bound d n slot r g) (h : phaseOf g n ≠ r.phase) : d.launch n = d := by
  simp [Dev.launch, b.prog, b.run, b.image, h]

variable (d)

/-- A channel that asks begins its cycle, or nothing changes. -/
theorem Dev.launch_cases (n : Nat) : d.launch n = d ∨ (d.ch n).txn = none ∧ ∃ t, d.launch n = d.startWait n t := by
  unfold Dev.launch
  dsimp only
  split
  · split
    · split
      · next slot _ _ _ _ g _ _ h =>
        obtain ⟨t, ht, -⟩ := d.startCycle_eq n slot g none
        simp only [Bool.and_eq_true, Option.isNone_iff_eq_none] at h
        exact .inr ⟨h.1.1.1.2, t, ht⟩
      · exact .inl rfl
    · exact .inl rfl
  · exact .inl rfl

theorem launched_launch (n : Nat) : Launched d (d.launch n) := by
  rcases d.launch_cases n with h | ⟨hnone, t, h⟩
  · rw [h]; exact .refl d
  · rw [h]; exact .startWait d t hnone

theorem Dev.ch_launch_other {n k : Nat} (h : n ≠ k) : (d.launch n).ch k = d.ch k := by
  rcases d.launch_cases n with he | ⟨-, t, he⟩
  · rw [he]
  · rw [he, Dev.ch_startWait_other _ _ h]

theorem launched_each (l : List Nat) : Launched d (d.each l Dev.launch) := by
  unfold Dev.each
  induction l generalizing d with
  | nil => exact .refl d
  | cons m l ih => exact (launched_launch d m).trans (ih _)

variable {d}

theorem cycleWaits_startCycle (s : State) (n slot : Nat) (g : Prog) : CycleWaits n slot g { s with dev := d.startCycle n slot g none } := by
  obtain ⟨t, ht, hwork, -, hprog, hstep, -⟩ := d.startCycle_eq n slot g none
  dsimp only [CycleWaits]
  rw [ht, Dev.ch_startWait]
  exact ⟨_, rfl, rfl, hwork, hprog, hstep⟩

theorem cycleWaits_launched {s : State} {t : State} (w : CycleWaits n slot g s) (a : Launched s.dev t.dev) : CycleWaits n slot g t := by
  obtain ⟨y, hy, rest⟩ := w
  exact ⟨y, a.stays n y hy, rest⟩

/-- Of channels that ask, each that may begin its cycle does. -/
theorem MayLaunch.each (s : State) {l : List Nat} (h : n ∈ l) (m : MayLaunch d n slot r g) :
    CycleWaits n slot g { s with dev := d.each l Dev.launch } := by
  induction l generalizing d with
  | nil => exact absurd h List.not_mem_nil
  | cons k l ih =>
    by_cases hk : k = n
    · subst hk
      have hwaits : CycleWaits k slot g { s with dev := d.launch k } := by
        rw [m.launch_eq]; exact cycleWaits_startCycle s k slot g
      exact cycleWaits_launched hwaits (launched_each _ l)
    · exact ih ((List.mem_cons.1 h).resolve_left (Ne.symm hk)) (m.launched (launched_launch d k) (d.ch_launch_other hk))

/-- Of channels that ask, one whose phase does not run is left. -/
theorem Bound.each_other_phase (l : List Nat) (b : Bound d n slot r g) (h : phaseOf g n ≠ r.phase) :
    (d.each l Dev.launch).ch n = d.ch n := by
  induction l generalizing d with
  | nil => rfl
  | cons k l ih =>
    have hk : (d.launch k).ch n = d.ch n := by
      by_cases e : k = n
      · subst e; rw [b.launch_other_phase h]
      · exact d.ch_launch_other e
    exact (ih (b.launched (launched_launch d k))).trans hk

end Asking

theorem Dev.mem_askOrder {p n : Nat} {l : List Nat} (h : n ∈ l) : n ∈ d.askOrder p l := by
  unfold Dev.askOrder
  split
  · dsimp only
    by_cases hr : n ∈ (d.pav p).order.filter fun n => l.contains n && decide ((d.ch n).sinceId < d.fld F.PAV_ADAPT_ORDER_WINDOW p)
    · exact List.mem_append_left _ hr
    · exact List.mem_append_right _ (List.mem_filter.2 ⟨h, by rwa [Bool.not_eq_true', ← Bool.not_eq_true, List.contains_iff_mem]⟩)
  · exact h

/-! ### A cycle opens (R248, R250, R251) -/

/-- The cycles of some channels are open. -/
def Dev.opened (l : List Nat) : Dev := d.each l fun d n => d.modCh n fun c => { c with cycleOpen := true }

theorem Dev.ch_opened_other {l : List Nat} {n : Nat} (h : n ∉ l) : (d.opened l).ch n = d.ch n := by
  induction l generalizing d with
  | nil => rfl
  | cons m l ih =>
    obtain ⟨hm, hl⟩ := not_or.1 (mt List.mem_cons.2 h)
    exact (ih _ hl).trans (d.ch_modCh_other _ (Ne.symm hm))

theorem Dev.ch_opened {l : List Nat} {n : Nat} (h : n ∈ l) : (d.opened l).ch n = { d.ch n with cycleOpen := true } := by
  induction l generalizing d with
  | nil => exact absurd h List.not_mem_nil
  | cons m l ih =>
    change ((d.modCh m fun c => { c with cycleOpen := true }).opened l).ch n = _
    by_cases hl : n ∈ l
    · rw [ih _ hl]
      by_cases hm : m = n
      · subst hm; rw [Dev.ch_modCh_same]
      · rw [d.ch_modCh_other _ hm]
    · obtain rfl : n = m := (List.mem_cons.1 h).resolve_right hl
      rw [Dev.ch_opened_other _ hl, Dev.ch_modCh_same]

theorem Dev.opened_pavs (l : List Nat) : (d.opened l).pavs = d.pavs := by
  unfold Dev.opened Dev.each
  induction l generalizing d with
  | nil => rfl
  | cons m l ih => exact ih (d.modCh m fun c => { c with cycleOpen := true })

theorem Dev.opened_pav (l : List Nat) (p : Nat) : (d.opened l).pav p = d.pav p := by rw [Dev.pav, d.opened_pavs, Dev.pav]

theorem kept_opened (L : List RegName) (l : List Nat) : Kept L d (d.opened l) := .each l fun d n => kept_modCh L d n _

/-- A run whose cycle starts at phase 0. -/
def ProgRun.restart (r : ProgRun) (tc : Nat) : ProgRun := { r with t0 := some tc, phase := 0, late := false, skipped := [] }

/-- The channels of a running program that are free for a cycle. -/
def Dev.freeFor (p slot : Nat) (r : ProgRun) : List Nat :=
  (d.boundTo p slot).filter fun n => !(d.ch n).cycleOpen && !(d.ch n).borrowed && (d.ch n).role == .poll && !r.skipped.contains n

/-- The device with a cycle open on the channels that are free for it, before they ask. -/
def Dev.cycleBegun (p slot : Nat) (r : ProgRun) : Dev := (d.modRun p slot (ProgRun.restart · d.tc)).opened (d.freeFor p slot r)

theorem Dev.openCycle_eq {p slot : Nat} {r : ProgRun} (hrun : tblFind (d.pav p).runs slot = some r)
    (hnew : tblFind (d.pav p).progsNew slot = none) :
    d.openCycle p slot = (d.cycleBegun p slot r).each ((d.cycleBegun p slot r).askOrder p (d.freeFor p slot r)) Dev.launch := by
  have htake : d.takeNewProg p slot = d := by unfold Dev.takeNewProg; rw [hnew]
  unfold Dev.openCycle
  dsimp only
  rw [htake, hrun]
  rfl

section Begun

variable {d} {p n slot : Nat} {r : ProgRun} {g : Prog}

theorem Dev.ch_cycleBegun (h : n ∈ d.freeFor p slot r) : (d.cycleBegun p slot r).ch n = { d.ch n with cycleOpen := true } := Dev.ch_opened _ h

theorem Dev.run_cycleBegun (h : tblFind (d.pav p).runs slot = some r) :
    tblFind ((d.cycleBegun p slot r).pav p).runs slot = some (r.restart d.tc) := by
  rw [Dev.cycleBegun, Dev.opened_pav, Dev.runs_modRun, h]; rfl

theorem bound_cycleBegun (hn : n ∈ d.boundTo p slot) (hf : n ∈ d.freeFor p slot r) (hrun : tblFind (d.pav p).runs slot = some r)
    (himage : tblFind (d.pav p).progs slot = some g) : Bound (d.cycleBegun p slot r) n slot (r.restart d.tc) g := by
  obtain ⟨hmem, hprog⟩ := d.mem_boundTo hn
  have hp := pavOf_of_mem hmem
  refine ⟨?_, ?_, ?_⟩
  · rw [Dev.ch_cycleBegun hf]; exact hprog
  · rw [hp]; exact Dev.run_cycleBegun hrun
  · rw [hp, Dev.cycleBegun, Dev.opened_pav, Dev.progs_modRun]; exact himage

/-- A free channel of phase 0 may begin its cycle. -/
theorem mayLaunch_cycleBegun (hf : n ∈ d.freeFor p slot r) (hrun : tblFind (d.pav p).runs slot = some r)
    (himage : tblFind (d.pav p).progs slot = some g) (htxn : (d.ch n).txn = none) (hphase : phaseOf g n = 0) :
    MayLaunch (d.cycleBegun p slot r) n slot (r.restart d.tc) g := by
  obtain ⟨hn, hfree⟩ := List.mem_filter.1 hf
  simp only [Bool.and_eq_true, Bool.not_eq_true', beq_iff_eq] at hfree
  obtain ⟨⟨⟨-, hborrowed⟩, hrole⟩, -⟩ := hfree
  have hch := Dev.ch_cycleBegun hf
  refine ⟨bound_cycleBegun hn hf hrun himage, ?_, ?_, ?_, ?_, hphase⟩
  · rw [hch]
  · rw [hch]; exact htxn
  · rw [hch]; exact hrole
  · rw [hch]; exact hborrowed

end Begun

/-- What opening a cycle leaves: the run restarts, the free channels' cycles are open, and those of phase 0 wait for admission. -/
theorem openCycle_opens (s : State) {p slot : Nat} {r : ProgRun} {g : Prog} (hrun : tblFind (d.pav p).runs slot = some r)
    (himage : tblFind (d.pav p).progs slot = some g) (hnew : tblFind (d.pav p).progsNew slot = none) :
    tblFind ((d.openCycle p slot).pav p).runs slot = some (r.restart d.tc) ∧
    (∀ n ∈ d.freeFor p slot r, ((d.openCycle p slot).ch n).cycleOpen = true ∧
      ((d.ch n).txn = none → (phaseOf g n = 0 → CycleWaits n slot g { s with dev := d.openCycle p slot }) ∧
        (phaseOf g n ≠ 0 → ((d.openCycle p slot).ch n).txn = none))) ∧
    KeptOrder [] d (d.openCycle p slot) := by
  rw [d.openCycle_eq hrun hnew]
  have hasked := launched_each (d.cycleBegun p slot r) ((d.cycleBegun p slot r).askOrder p (d.freeFor p slot r))
  refine ⟨?_, fun n hn => ⟨?_, fun htxn => ⟨fun hphase => ?_, fun hphase => ?_⟩⟩, ?_⟩
  · rw [hasked.pav]; exact Dev.run_cycleBegun hrun
  · rw [hasked.ch n, Dev.ch_cycleBegun hn]
  · exact (mayLaunch_cycleBegun hn hrun himage htxn hphase).each s (Dev.mem_askOrder _ hn)
  · have hb := bound_cycleBegun (List.mem_of_mem_filter hn) hn hrun himage
    rw [hb.each_other_phase _ hphase, Dev.ch_cycleBegun hn]; exact htxn
  · exact .after ((kept_modRun d [] p slot _).trans (kept_opened _ [] _)) (hasked.keptOrder [])

end Sys2Proof.Machine
end

section
/-! PROOFS. Poll cycles that fall due, stagger phases, and cycles of a descriptor (O19). -/

namespace Sys2Proof.Machine

open Sys2Proof.Safety

variable (d : Dev)

/-- A counter field that is added to reads the sum, up to its largest value. -/
theorem Dev.fld_addFld_same (f : Fld) (i j n : Nat) (h : f.lo + f.w ≤ 32) :
    (d.addFld f i j n).fld f i j = sat (2 ^ f.w - 1) (d.fld f i j + n) := by
  have hpos : 0 < 2 ^ f.w := Nat.two_pow_pos _
  have hle : sat (2 ^ f.w - 1) (d.fld f i j + n) ≤ 2 ^ f.w - 1 := sat_le _ _
  rw [Dev.addFld, d.fld_setFld_same f i j _ h, Nat.mod_eq_of_lt (by omega)]

theorem Dev.sat_fld (f : Fld) (i j : Nat) : sat (2 ^ f.w - 1) (d.fld f i j) = d.fld f i j := by
  have hlt : d.fld f i j < 2 ^ f.w := bits_lt _ _ _
  exact min_eq_right (by omega)

theorem KeptOrder.ofKept {L : List RegName} {d e : Dev} (h : Kept L d e) : KeptOrder L d e := by
  have ho : e.host.order = d.host.order := by rw [h.host]
  rw [KeptOrder, ho]; exact h

theorem KeptOrder.mono {L M : List RegName} {d e : Dev} (h : ∀ r, r ∈ L → r ∈ M) (a : KeptOrder L d e) : KeptOrder M d e :=
  Kept.mono h a

theorem KeptOrder.fld {L : List RegName} {d e : Dev} (a : KeptOrder L d e) (x : Fld) (i j : Nat) (h : x.reg ∉ L) :
    e.fld x i j = d.fld x i j := Kept.fld a x i j h

/-! ### A cycle falls due (R248, R251, R252) -/

/-- The bound channels of a running program whose cycle is open. -/
def Dev.openOn (p slot : Nat) : List Nat := (d.boundTo p slot).filter fun n => (d.ch n).cycleOpen

/-- The device once a cycle has fallen due: the channels whose cycle is open are counted, and its run is late for the others. -/
def Dev.cycleDue (p slot : Nat) : Dev :=
  (d.addFld F.PAV_SEQ_SKIPS_COUNT p 0 (d.openOn p slot).length).modRun p slot fun u => { u with late := true, skipped := d.openOn p slot }

/-- It opens at once where no cycle is open, or without stagger. -/
def Dev.pollDue (p slot : Nat) (g : Prog) : Dev :=
  if (d.openOn p slot).isEmpty || g.stagger == 0 then (d.cycleDue p slot).openCycle p slot else d.cycleDue p slot

section Due

variable {d} {p n slot : Nat} {r : ProgRun} {g : Prog}

theorem Dev.mem_openOn : n ∈ d.openOn p slot ↔ n ∈ d.boundTo p slot ∧ (d.ch n).cycleOpen = true := List.mem_filter

theorem Dev.openOn_eq_nil (h : ∀ n ∈ d.boundTo p slot, (d.ch n).cycleOpen = false) : d.openOn p slot = [] :=
  List.filter_eq_nil_iff.2 fun n hn => by simp [h n hn]

theorem Dev.run_cycleDue (hrun : tblFind (d.pav p).runs slot = some r) :
    tblFind ((d.cycleDue p slot).pav p).runs slot = some { r with late := true, skipped := d.openOn p slot } := by
  rw [Dev.cycleDue, Dev.runs_modRun, Dev.addFld_pav, hrun]; rfl

theorem kept_cycleDue : Kept [.PAV_SEQ_SKIPS] d (d.cycleDue p slot) :=
  (kept_setFld _ d F.PAV_SEQ_SKIPS_COUNT p 0 _ (by decide)).trans (kept_modRun _ _ p slot _)

theorem Dev.skips_cycleDue : (d.cycleDue p slot).fld F.PAV_SEQ_SKIPS_COUNT p =
    sat (2 ^ F.PAV_SEQ_SKIPS_COUNT.w - 1) (d.fld F.PAV_SEQ_SKIPS_COUNT p + (d.openOn p slot).length) :=
  d.fld_addFld_same F.PAV_SEQ_SKIPS_COUNT p 0 _ (by decide)

/-- A bound channel whose cycle is not open is free for the one that has fallen due. -/
theorem Dev.mem_freeFor_cycleDue (hn : n ∈ d.boundTo p slot) (hopen : (d.ch n).cycleOpen = false) (hborrowed : (d.ch n).borrowed = false)
    (hrole : (d.ch n).role = .poll) :
    n ∈ (d.cycleDue p slot).freeFor p slot { r with late := true, skipped := d.openOn p slot } := by
  have hskip : n ∉ d.openOn p slot := fun h => by rw [(Dev.mem_openOn.1 h).2] at hopen; cases hopen
  refine List.mem_filter.2 ⟨hn, ?_⟩
  change (!(d.ch n).cycleOpen && !(d.ch n).borrowed && (d.ch n).role == .poll && !(d.openOn p slot).contains n) = true
  simp [hopen, hborrowed, hrole, hskip]

/-- What the cycle that has fallen due leaves where it opens: the run restarts now, each free channel's cycle is open, and those of phase 0
wait for admission. -/
theorem openCycle_due (s : State) (hrun : tblFind (d.pav p).runs slot = some r) (himage : tblFind (d.pav p).progs slot = some g)
    (hnew : tblFind (d.pav p).progsNew slot = none) :
    tblFind (((d.cycleDue p slot).openCycle p slot).pav p).runs slot = some (r.restart d.tc) ∧
    (∀ n ∈ d.boundTo p slot, (d.ch n).cycleOpen = false → (d.ch n).borrowed = false → (d.ch n).role = .poll →
      (((d.cycleDue p slot).openCycle p slot).ch n).cycleOpen = true ∧
      ((d.ch n).txn = none → (phaseOf g n = 0 → CycleWaits n slot g { s with dev := (d.cycleDue p slot).openCycle p slot }) ∧
        (phaseOf g n ≠ 0 → (((d.cycleDue p slot).openCycle p slot).ch n).txn = none))) ∧
    KeptOrder [] (d.cycleDue p slot) ((d.cycleDue p slot).openCycle p slot) := by
  have himage' : tblFind ((d.cycleDue p slot).pav p).progs slot = some g := by rw [Dev.cycleDue, Dev.progs_modRun]; exact himage
  have hnew' : tblFind ((d.cycleDue p slot).pav p).progsNew slot = none := by rw [Dev.cycleDue, Dev.progsNew_modRun]; exact hnew
  obtain ⟨hrestart, hopens, hkept⟩ := openCycle_opens (d.cycleDue p slot) s (Dev.run_cycleDue hrun) himage' hnew'
  exact ⟨hrestart, fun n hn hopen hborrowed hrole => hopens n (Dev.mem_freeFor_cycleDue hn hopen hborrowed hrole), hkept⟩

theorem keptOrder_pollDue (hrun : tblFind (d.pav p).runs slot = some r) (himage : tblFind (d.pav p).progs slot = some g)
    (hnew : tblFind (d.pav p).progsNew slot = none) : KeptOrder [] (d.cycleDue p slot) (d.pollDue p slot g) := by
  unfold Dev.pollDue; split
  · exact (openCycle_due {} hrun himage hnew).2.2
  · exact .ofKept (.refl _ _)

theorem Dev.pollDue_opens (h : d.openOn p slot = [] ∨ g.stagger = 0) :
    d.pollDue p slot g = (d.cycleDue p slot).openCycle p slot := by
  unfold Dev.pollDue
  rcases h with h | h <;> simp [h]

theorem Dev.pollDue_late (h : d.openOn p slot ≠ []) (hg : g.stagger ≠ 0) : d.pollDue p slot g = d.cycleDue p slot := by
  unfold Dev.pollDue
  simp [h, hg]

end Due

end Sys2Proof.Machine

namespace Sys2Proof.Proofs

open Sys2Proof.Machine Sys2Proof.Safety

theorem works_of_keptOrder {L : List RegName} (s : State) {e : Dev} (h : KeptOrder L s.dev e) :
    Works L (withOrder s e.host.order) { s with dev := e } := ⟨rfl, rfl, h⟩

section Due

variable {pav : Fin 6} {slot : Fin 16} {s : State} {r : ProgRun} {g : Prog}

theorem exec_pollCycleDue (hrun : tblFind (s.dev.pav pav).runs slot = some r) (hstop : r.stop = none)
    (himage : tblFind (s.dev.pav pav).progs slot = some g) (hdue : ∀ a, r.t0 = some a → a + usTc g.period ≤ s.dev.tc)
    (hstate : (s.dev.pav pav).state = .active) (hdip : (s.dev.pav pav).dip = false) (hfirst : (s.dev.pav pav).first = [])
    (hbound : ∀ n ∈ s.dev.boundTo pav slot, (s.dev.ch n).borrowed = false) :
    exec (.pollCycleDue pav slot) s = .next { s with dev := s.dev.pollDue pav slot g } := by
  have hget : tblGet (s.dev.pav pav).progs slot {} = g := tblGet_of_find _ himage
  have hbusy : (s.dev.boundTo pav slot).filter (fun n => (s.dev.ch n).cycleOpen && !(s.dev.ch n).borrowed) = s.dev.openOn pav slot :=
    List.filter_congr fun n hn => by rw [hbound n hn, Bool.not_false, Bool.and_true]
  have hnow (a : Nat) (ha : r.t0 = some a) : s.dev.runTo (a + usTc g.period) = s.dev := s.dev.runTo_past _ (hdue a ha)
  change execPollCycleDue pav slot s = _
  rw [execPollCycleDue, onDev]
  simp only [hrun, hstop, hstate, hdip, hfirst, hget, Option.isSome_none, bne_self_eq_false, List.any_nil, Bool.or_self,
    Bool.false_eq_true, if_false]
  cases ht : r.t0 with
  | none => simp only [hbusy, Dev.addFld_pav, hget]; rfl
  | some a => simp only [hnow a ht, hbusy, Dev.addFld_pav, hget]; rfl

theorem does_pollCycleDue (hrun : tblFind (s.dev.pav pav).runs slot = some r) (hstop : r.stop = none)
    (himage : tblFind (s.dev.pav pav).progs slot = some g) (hnew : tblFind (s.dev.pav pav).progsNew slot = none)
    (hdue : ∀ a, r.t0 = some a → a + usTc g.period ≤ s.dev.tc) (hstate : (s.dev.pav pav).state = .active)
    (hdip : (s.dev.pav pav).dip = false) (hfirst : (s.dev.pav pav).first = [])
    (hbound : ∀ n ∈ s.dev.boundTo pav slot, (s.dev.ch n).leaving = false ∧ (s.dev.ch n).borrowed = false ∧ (s.dev.ch n).role = .poll) :
    Does (.pollCycleDue pav slot) s fun t =>
      ((∀ n ∈ s.dev.boundTo pav slot, (s.dev.ch n).cycleOpen = false ∧ (s.dev.ch n).txn = none) →
        (∃ u, tblFind (t.dev.pav pav).runs slot = some u ∧ u.t0 = some s.dev.tc ∧ u.phase = 0 ∧ u.late = false ∧ u.start = r.start) ∧
        (∀ n ∈ s.dev.boundTo pav slot, (t.dev.ch n).cycleOpen = true ∧
          (phaseOf g n = 0 → CycleWaits n slot g t) ∧ (phaseOf g n ≠ 0 → (t.dev.ch n).txn = none)) ∧
        t.dev.fld F.PAV_SEQ_SKIPS_COUNT pav = s.dev.fld F.PAV_SEQ_SKIPS_COUNT pav) ∧
      ((∃ n ∈ s.dev.boundTo pav slot, (s.dev.ch n).cycleOpen = true) →
        t.dev.fld F.PAV_SEQ_SKIPS_COUNT pav = sat (2 ^ F.PAV_SEQ_SKIPS_COUNT.w - 1) (s.dev.fld F.PAV_SEQ_SKIPS_COUNT pav +
          ((s.dev.boundTo pav slot).filter fun n => (s.dev.ch n).cycleOpen).length) ∧
        (g.stagger ≠ 0 → t.dev.chans = s.dev.chans ∧ ∃ u, tblFind (t.dev.pav pav).runs slot = some u ∧ u.late = true ∧
          u.skipped = (s.dev.boundTo pav slot).filter fun n => (s.dev.ch n).cycleOpen) ∧
        (g.stagger = 0 → ∀ n ∈ s.dev.boundTo pav slot, (s.dev.ch n).cycleOpen = false → (s.dev.ch n).txn = none →
          (t.dev.ch n).cycleOpen = true ∧ CycleWaits n slot g t)) ∧
      Works [.PAV_SEQ_SKIPS] (withOrder s t.dev.host.order) t := by
  refine ⟨_, exec_pollCycleDue hrun hstop himage hdue hstate hdip hfirst fun n hn => (hbound n hn).2.1, ?_⟩
  have hkept := keptOrder_pollDue hrun himage hnew
  have hskips := (hkept.fld F.PAV_SEQ_SKIPS_COUNT pav 0 List.not_mem_nil).trans Dev.skips_cycleDue
  obtain ⟨hrestart, hopens, -⟩ := openCycle_due s hrun himage hnew
  refine ⟨fun hfree => ?_, fun ⟨m, hm, hopen⟩ => ⟨hskips, fun hg => ?_, fun hg n hn hclosed htxn => ?_⟩,
    works_of_keptOrder s (.after kept_cycleDue (hkept.mono (by decide)))⟩
  · have hnone : s.dev.openOn pav slot = [] := Dev.openOn_eq_nil fun n hn => (hfree n hn).1
    rw [hnone, List.length_nil, Nat.add_zero, Dev.sat_fld] at hskips
    refine ⟨⟨r.restart s.dev.tc, ?_, rfl, rfl, rfl, rfl⟩, fun n hn => ?_, hskips⟩
    · dsimp only
      rw [Dev.pollDue_opens (.inl hnone)]; exact hrestart
    · dsimp only
      rw [Dev.pollDue_opens (.inl hnone)]
      obtain ⟨hclosed, htxn⟩ := hfree n hn
      obtain ⟨-, hborrowed, hrole⟩ := hbound n hn
      obtain ⟨hn, hwaits⟩ := hopens n hn hclosed hborrowed hrole
      exact ⟨hn, hwaits htxn⟩
  · have hsome : s.dev.openOn pav slot ≠ [] := List.ne_nil_of_mem (Dev.mem_openOn.2 ⟨hm, hopen⟩)
    dsimp only
    rw [Dev.pollDue_late hsome hg]
    exact ⟨rfl, _, Dev.run_cycleDue hrun, rfl, rfl⟩
  · dsimp only
    rw [Dev.pollDue_opens (.inr hg)]
    obtain ⟨-, hborrowed, hrole⟩ := hbound n hn
    obtain ⟨hn, hwaits⟩ := hopens n hn hclosed hborrowed hrole
    exact ⟨hn, (hwaits htxn).1 (by rw [phaseOf, hg, Nat.pow_zero, Nat.mod_one])⟩

/-! ### Stagger phases (R251) -/

theorem idle_staggerPhaseStart (hrun : tblFind (s.dev.pav pav).runs slot = some r) (himage : tblFind (s.dev.pav pav).progs slot = some g)
    (h : ∃ n ∈ s.dev.boundTo pav slot, (s.dev.ch n).cycleOpen = true ∧ phaseOf g n = r.phase) : Idle (.staggerPhaseStart pav slot) s := by
  obtain ⟨n, hn, hopen, hphase⟩ := h
  have hany : (s.dev.openOn pav slot).any (fun n => phaseOf g n == r.phase) = true :=
    List.any_eq_true.2 ⟨n, Dev.mem_openOn.2 ⟨hn, hopen⟩, beq_iff_eq.2 hphase⟩
  change execStaggerPhaseStart pav slot s = .next s
  rw [execStaggerPhaseStart, onDev]
  simp only [hrun, tblGet_of_find {} himage]
  exact congrArg _ (congrArg (fun e => { s with dev := e }) (if_pos hany))

/-- The device with a phase of a running program begun, before its channels ask. -/
def phaseBegun (d : Dev) (p slot k : Nat) : Dev := d.modRun p slot fun u => { u with phase := k }

/-- The channels of that phase whose cycle is open have asked. -/
def phaseAsked (d : Dev) (p slot k : Nat) (g : Prog) : Dev :=
  (phaseBegun d p slot k).each ((phaseBegun d p slot k).askOrder p ((d.openOn p slot).filter fun n => phaseOf g n == k)) Dev.launch

theorem exec_staggerPhaseStart (hrun : tblFind (s.dev.pav pav).runs slot = some r) (himage : tblFind (s.dev.pav pav).progs slot = some g)
    (hover : ∀ n ∈ s.dev.boundTo pav slot, (s.dev.ch n).cycleOpen = true → phaseOf g n ≠ r.phase) (hnext : r.phase + 1 < 2 ^ g.stagger) :
    exec (.staggerPhaseStart pav slot) s = .next { s with dev := phaseAsked s.dev pav slot (r.phase + 1) g } := by
  have hany : (s.dev.openOn pav slot).any (fun n => phaseOf g n == r.phase) = false :=
    List.any_eq_false.2 fun n hn => by
      obtain ⟨hmem, hopen⟩ := Dev.mem_openOn.1 hn
      simpa using hover n hmem hopen
  change execStaggerPhaseStart pav slot s = _
  rw [execStaggerPhaseStart, onDev]
  simp only [hrun, tblGet_of_find {} himage, if_pos hnext]
  exact congrArg _ (congrArg (fun e => { s with dev := e }) (if_neg (by rw [← Dev.openOn, hany]; decide)))

theorem does_staggerPhaseStart (hrun : tblFind (s.dev.pav pav).runs slot = some r) (himage : tblFind (s.dev.pav pav).progs slot = some g)
    (hover : ∀ n ∈ s.dev.boundTo pav slot, (s.dev.ch n).cycleOpen = true → phaseOf g n ≠ r.phase) (hnext : r.phase + 1 < 2 ^ g.stagger) :
    Does (.staggerPhaseStart pav slot) s fun t =>
      tblFind (t.dev.pav pav).runs slot = some { r with phase := r.phase + 1 } ∧
      (∀ n ∈ s.dev.boundTo pav slot, (s.dev.ch n).cycleOpen = true → phaseOf g n = r.phase + 1 → (s.dev.ch n).txn = none →
        (s.dev.ch n).role = .poll → (s.dev.ch n).borrowed = false → CycleWaits n slot g t) ∧
      Works [] (withOrder s t.dev.host.order) t := by
  refine ⟨_, exec_staggerPhaseStart hrun himage hover hnext, ?_⟩
  have hrun' : tblFind ((phaseBegun s.dev pav slot (r.phase + 1)).pav pav).runs slot = some { r with phase := r.phase + 1 } := by
    rw [phaseBegun, Dev.runs_modRun, hrun]; rfl
  have himage' : tblFind ((phaseBegun s.dev pav slot (r.phase + 1)).pav pav).progs slot = some g := by
    rw [phaseBegun, Dev.progs_modRun]; exact himage
  refine ⟨?_, fun n hn hopen hphase htxn hrole hborrowed => ?_, works_of_keptOrder s ?_⟩
  · dsimp only
    rw [phaseAsked, (launched_each _ _).pav]; exact hrun'
  · obtain ⟨hmem, hprog⟩ := s.dev.mem_boundTo hn
    have hp := pavOf_of_mem hmem
    have hmay : MayLaunch (phaseBegun s.dev pav slot (r.phase + 1)) n slot { r with phase := r.phase + 1 } g :=
      ⟨⟨hprog, by rw [hp]; exact hrun', by rw [hp]; exact himage'⟩, hopen, htxn, hrole, hborrowed, hphase⟩
    exact hmay.each s (Dev.mem_askOrder _ (List.mem_filter.2 ⟨Dev.mem_openOn.2 ⟨hn, hopen⟩, beq_iff_eq.2 hphase⟩))
  · exact .after (kept_modRun s.dev [] pav slot _) ((launched_each _ _).keptOrder [])

end Due

/-! ### A cycle of a descriptor (R407) -/

theorem runCycle_cases (ch : Fin 192) (s : State) (q : QDesc) (hq : s.dev.running ch 0x0C = some q) :
    (tblFind (s.dev.pav (pavOf ch)).progs q.slot = none → Does (.runCycle ch) s fun t => Answered q .badDescriptor t ∧ Says postRegs s t) ∧
    (∀ g, tblFind (s.dev.pav (pavOf ch)).progs q.slot = some g →
      ((s.dev.ch ch).txn.isSome → Idle (.runCycle ch) s) ∧
      ((s.dev.ch ch).txn = none → Does (.runCycle ch) s fun t =>
        (∃ y, (t.dev.ch ch).txn = some y ∧ y.phase = .waiting ∧ y.work = .cycle q.slot true ∧ y.desc = some q ∧ y.prog = g ∧
          y.level = g.level) ∧ ChansStand [ch.val] s t ∧ Works [] (withOrder s (s.dev.host.order + 1)) t)) := by
  have hexec : exec (.runCycle ch) s = execRunCycle ch s := rfl
  refine ⟨fun hnone => ?_, fun g hg => ⟨fun htxn => ?_, fun htxn => ?_⟩⟩
  · refine ⟨{ s with dev := s.dev.done q .badDescriptor }, ?_, answered_done _ _ _ _ _, rfl, rfl, ?_⟩
    · rw [hexec, execRunCycle, onDev]; simp only [hq, hnone]
    · exact told_done_other _ q _ _ (by rw [s.dev.op_of_running hq]; decide)
  · rw [Idle, hexec, execRunCycle, onDev]
    simp only [hq, hg, Option.isNone_iff_eq_none, Option.ne_none_iff_isSome.2 htxn, if_false]
  · obtain ⟨x, hx, hwork, hdesc, hprog, -, hlevel⟩ := s.dev.startCycle_eq ch q.slot g (some q)
    refine ⟨{ s with dev := s.dev.startWait ch x }, ?_,
      ⟨{ x with phase := .waiting, order := s.dev.host.order }, ?_, rfl, hwork, hdesc, hprog, hlevel rfl⟩, fun k hk => ?_,
      works_of_keptOrder s (keptOrder_startWait s.dev [] ch x)⟩
    · rw [hexec, execRunCycle, onDev]; simp only [hq, hg, htxn, Option.isNone_none, if_true, hx]
    · dsimp only
      rw [Dev.ch_startWait]
    · exact s.dev.ch_startWait_other x (Ne.symm (List.ne_of_not_mem_cons hk))

/-- Settles O19: a cycle that falls due counts the channels whose cycle is open (`Dev.cycleDue`), and where it opens, each channel that may
begin its cycle is among those that ask (`MayLaunch.each`), in a stagger phase likewise. -/
theorem pollCycles : Obligations.PollCycles :=
  ⟨fun _ _ _ _ _ hrun hstop himage hnew hdue hstate hdip hfirst hbound =>
      does_pollCycleDue hrun hstop himage hnew hdue hstate hdip hfirst hbound,
    fun _ _ _ _ _ hrun himage => ⟨idle_staggerPhaseStart hrun himage, does_staggerPhaseStart hrun himage⟩,
    runCycle_cases⟩

end Sys2Proof.Proofs
end

section
/-! PROOFS. Programs that start and stop: what stopping a bound channel leaves, and the end of a run. -/

namespace Sys2Proof.Machine

open Sys2Proof.Safety

variable (d : Dev)

/-! ### Changes of one channel -/

/-- Of the bindings, transactions and running programs, only those of one channel have changed; beside, a descriptor or a report may have
been completed. -/
structure Apart (n : Nat) (d e : Dev) : Prop where
  prog : ∀ k, k ≠ n → (e.ch k).prog = (d.ch k).prog
  txn  : ∀ k, k ≠ n → (e.ch k).txn = (d.ch k).txn
  runs : ∀ p, (e.pav p).runs = (d.pav p).runs
  kept : Kept postRegs d e

namespace Apart

variable {d} {n : Nat} {e f : Dev}

theorem refl (n : Nat) (d : Dev) : Apart n d d := ⟨fun _ _ => rfl, fun _ _ => rfl, fun _ => rfl, .refl _ d⟩

theorem trans (a : Apart n d e) (b : Apart n e f) : Apart n d f where
  prog k h := (b.prog k h).trans (a.prog k h)
  txn k h := (b.txn k h).trans (a.txn k h)
  runs p := (b.runs p).trans (a.runs p)
  kept := a.kept.trans b.kept

theorem ofTold (n : Nat) (h : Told postRegs d e) : Apart n d e where
  prog k _ := by rw [h.ch]
  txn k _ := by rw [h.ch]
  runs p := by rw [h.pav]
  kept := h.kept

theorem modCh (n : Nat) (d : Dev) (f : Ch → Ch) : Apart n d (d.modCh n f) where
  prog k h := by rw [d.ch_modCh_other f (Ne.symm h)]
  txn k h := by rw [d.ch_modCh_other f (Ne.symm h)]
  runs _ := rfl
  kept := kept_modCh _ d n f

theorem modPav (n : Nat) (d : Dev) (p : Nat) (f : Pav → Pav) (h : ∀ x, (f x).runs = x.runs := by intro; rfl) : Apart n d (d.modPav p f) where
  prog _ _ := rfl
  txn _ _ := rfl
  runs k := by
    by_cases e : p = k
    · subst e; rw [Dev.pav_modPav_same, h]
    · rw [Dev.pav_modPav_other _ _ e]
  kept := kept_modPav _ d p f

theorem txnsMoved (n : Nat) (d : Dev) (p : Nat) : Apart n d (d.txnsMoved p) := by
  unfold Dev.txnsMoved Dev.stir Dev.syncReq
  exact (modPav n d p _).trans (modPav n _ p _)

end Apart

/-! ### A bound channel is stopped (R278) -/

section Stopping

variable {d} {n slot : Nat} {r : ProgRun}

/-- A cycle that is set aside goes with its report. -/
theorem apart_asideGone (st : Status) (h : (d.ch n).aside.any (fun t => t.work == .cycle slot false) = true) :
    Apart n d (d.asideGone n st) ∧ ((d.asideGone n st).ch n).txn = (d.ch n).txn := by
  obtain ⟨t, ht⟩ : ∃ t, (d.ch n).aside = some t := by
    cases hc : (d.ch n).aside with
    | none => rw [hc] at h; cases h
    | some t => exact ⟨t, rfl⟩
  have hwork : t.work = .cycle slot false := by rw [ht] at h; exact beq_iff_eq.1 h
  unfold Dev.asideGone
  simp only [ht, hwork]
  split
  · have hrep := told_cycleReport (d.modCh n fun c => { c with aside := none, cycleOpen := c.cycleOpen && !t.isCycle }) n t st
    refine ⟨(Apart.modCh n d _).trans (.ofTold n (hrep _ _)), ?_⟩
    rw [(hrep _ _).ch, Dev.ch_modCh_same]
  · exact ⟨Apart.modCh n d _, by rw [Dev.ch_modCh_same]⟩

/-- A bound channel's cycle, where it has one, can be stopped without its tag being deselected. -/
def Stoppable (slot : Nat) (x : Option Txn) : Prop :=
  ∀ t, x = some t → t.work = .cycle slot false ∧ (t.phase = .waiting ∨ t.phase = .up ∧ t.id.phase ≠ .hostHold)

/-- What stopping a bound channel leaves: unbound where no cycle has its field up; else bound, and the cycle asked to stop. -/
structure Stopped (c c' : Ch) : Prop where
  unbound : (∀ t, c.txn = some t → t.phase = .waiting) → c'.prog = none ∧ c'.txn = none
  asked   : ∀ t, c.txn = some t → t.phase = .up → c'.prog = c.prog ∧ c'.txn = some { t with stopAsked := true }

theorem stopped_none (h : (d.ch n).txn = none) : Apart n d (d.stopChan slot r n) ∧ Stopped (d.ch n) ((d.stopChan slot r n).ch n) := by
  have hgone (e : Dev) (ha : Apart n d e) (he : (e.ch n).txn = (d.ch n).txn) :
      Apart n d ((e.unbind n).modCh n fun c => { c with cycleOpen := false }) ∧
      Stopped (d.ch n) (((e.unbind n).modCh n fun c => { c with cycleOpen := false }).ch n) := by
    refine ⟨ha.trans ((Apart.modCh n e _).trans (Apart.modCh n _ _)), ?_, fun t ht => ?_⟩
    · intro _
      rw [Dev.ch_modCh_same, Dev.unbind, Dev.ch_modCh_same]
      exact ⟨rfl, he.trans h⟩
    · rw [h] at ht; cases ht
  unfold Dev.stopChan
  simp only [h]
  split
  · next haside =>
    obtain ⟨ha, he⟩ := apart_asideGone .cancelled haside
    exact hgone _ ha he
  · split
    · have hrep := told_cycleReport d n { work := .cycle slot false, prog := tblGet (d.pav (pavOf n)).progs slot {} } .cancelled r.start false
      exact hgone _ (.ofTold n hrep) (by rw [hrep.ch])
    · exact hgone d (.refl n d) rfl

theorem apart_completeCycle {t : Txn} (n : Nat) (st : Status) (b : CBody) (hwork : t.work = .cycle slot false) :
    Apart n d (d.completeWork n t st b) := by
  unfold Dev.completeWork
  simp only [hwork]
  refine (Apart.ofTold n (told_hostDone d t st b)).trans (.trans ?_ (Apart.modCh n _ _))
  split
  · exact .ofTold n (told_cycleReport _ _ _ _ _ _)
  · exact .refl n _

theorem Dev.txnsMoved_ch (d : Dev) (p k : Nat) : (d.txnsMoved p).ch k = d.ch k := rfl

/-- A cycle that waits for admission is refused: nothing of it stays but the report. -/
theorem apart_refuse_cycle {t : Txn} (st : Status) (ht : (d.ch n).txn = some t) (hwork : t.work = .cycle slot false) :
    Apart n d (d.refuse n st) ∧ ((d.refuse n st).ch n).txn = none := by
  have hexch : (t.work == .exchange || t.work == .tagOp) = false := by rw [hwork]; rfl
  have heq : d.refuse n st = (((d.unreserve n t.eRsv).completeWork n t st).modCh n fun c =>
      { c with txn := none, cycleOpen := t.leavesOpen c.cycleOpen }).txnsMoved (pavOf n) := by
    unfold Dev.refuse
    simp [ht, hwork, Dev.cond]
  rw [heq]
  refine ⟨.trans (.trans (.trans (Apart.modPav n d _ _) (apart_completeCycle n st _ hwork)) (Apart.modCh n _ _)) (.txnsMoved n _ _), ?_⟩
  rw [Dev.txnsMoved_ch, Dev.ch_modCh_same]

theorem stopped_waiting {t : Txn} (ht : (d.ch n).txn = some t) (hwork : t.work = .cycle slot false) (hphase : t.phase = .waiting) :
    Apart n d (d.stopChan slot r n) ∧ Stopped (d.ch n) ((d.stopChan slot r n).ch n) := by
  have heq : d.stopChan slot r n = (d.refuse n .cancelled).unbind n := by
    unfold Dev.stopChan; simp [ht, hwork, hphase]
  obtain ⟨ha, hnone⟩ := apart_refuse_cycle .cancelled ht hwork
  rw [heq]
  refine ⟨ha.trans (Apart.modCh n _ _), fun _ => ?_, fun u hu hup => ?_⟩
  · rw [Dev.unbind, Dev.ch_modCh_same]
    exact ⟨rfl, hnone⟩
  · obtain rfl := Option.some.inj (ht.symm.trans hu)
    rw [hphase] at hup; cases hup

theorem stopped_up {t : Txn} (ht : (d.ch n).txn = some t) (hwork : t.work = .cycle slot false) (hphase : t.phase = .up)
    (hhold : t.id.phase ≠ .hostHold) : Apart n d (d.stopChan slot r n) ∧ Stopped (d.ch n) ((d.stopChan slot r n).ch n) := by
  have heq : d.stopChan slot r n = d.modTxn n fun t => { t with stopAsked := true } := by
    unfold Dev.stopChan; simp [ht, hwork, hphase, hhold]
  rw [heq]
  refine ⟨Apart.modCh n d _, fun h => ?_, fun u hu _ => ?_⟩
  · have := h t ht
    rw [hphase] at this; cases this
  · rw [Dev.modTxn, Dev.ch_modCh_same, hu]
    exact ⟨rfl, rfl⟩

theorem stopped_stopChan (h : Stoppable slot (d.ch n).txn) : Apart n d (d.stopChan slot r n) ∧ Stopped (d.ch n) ((d.stopChan slot r n).ch n) := by
  cases ht : (d.ch n).txn with
  | none => exact stopped_none ht
  | some t =>
    obtain ⟨hwork, hphase | ⟨hphase, hhold⟩⟩ := h t ht
    · exact stopped_waiting ht hwork hphase
    · exact stopped_up ht hwork hphase hhold

/-- What a row of channels that are stopped leaves. -/
structure StoppedAll (l : List Nat) (d e : Dev) : Prop where
  stopped : ∀ n ∈ l, Stopped (d.ch n) (e.ch n)
  prog    : ∀ n, n ∉ l → (e.ch n).prog = (d.ch n).prog
  txn     : ∀ n, n ∉ l → (e.ch n).txn = (d.ch n).txn
  runs    : ∀ p, (e.pav p).runs = (d.pav p).runs
  kept    : Kept postRegs d e

theorem Stopped.congr {c c' x y : Ch} (h : Stopped c c') (hp : c.prog = x.prog) (ht : c.txn = x.txn) (hp' : y.prog = c'.prog)
    (ht' : y.txn = c'.txn) : Stopped x y where
  unbound hx := by rw [hp', ht']; exact h.unbound (by rwa [ht])
  asked t hx hup := by rw [hp', ht', ← hp]; exact h.asked t (ht.trans hx) hup

theorem stoppedAll_each (l : List Nat) (hnd : l.Nodup) (h : ∀ n ∈ l, Stoppable slot (d.ch n).txn) :
    StoppedAll l d (d.each l fun d n => d.stopChan slot r n) := by
  induction l generalizing d with
  | nil => exact ⟨fun _ h => absurd h List.not_mem_nil, fun _ _ => rfl, fun _ _ => rfl, fun _ => rfl, .refl _ d⟩
  | cons m l ih =>
    obtain ⟨hm, hl⟩ := List.nodup_cons.1 hnd
    obtain ⟨ha, hs⟩ := stopped_stopChan (r := r) (h m List.mem_cons_self)
    have hne {n : Nat} (hn : n ∈ l) : n ≠ m := fun e => hm (e ▸ hn)
    have hrest := ih hl (fun n hn => by rw [ha.txn n (hne hn)]; exact h n (List.mem_cons_of_mem m hn))
    refine ⟨fun n hn => ?_, fun n hn => ?_, fun n hn => ?_, fun p => (hrest.runs p).trans (ha.runs p), ha.kept.trans hrest.kept⟩
    · rcases List.mem_cons.1 hn with rfl | hn
      · exact hs.congr rfl rfl (hrest.prog n hm) (hrest.txn n hm)
      · exact (hrest.stopped n hn).congr (ha.prog n (hne hn)) (ha.txn n (hne hn)) rfl rfl
    · obtain ⟨hnm, hnl⟩ := not_or.1 (mt List.mem_cons.2 hn)
      exact (hrest.prog n hnl).trans (ha.prog n hnm)
    · obtain ⟨hnm, hnl⟩ := not_or.1 (mt List.mem_cons.2 hn)
      exact (hrest.txn n hnl).trans (ha.txn n hnm)

theorem nodup_pavChans (p : Nat) : (pavChans p).Nodup :=
  List.Nodup.map (fun _ _ h => Nat.add_left_cancel h) List.nodup_range

/-! ### A run ends (R278) -/

/-- A run that is asked to stop ends, and its descriptor is answered, once no channel is bound to it. -/
theorem Dev.stopDone_ends {p : Nat} {q : QDesc} (hrun : tblFind (d.pav p).runs slot = some r) (hstop : r.stop = some q)
    (hbound : d.boundTo p slot = []) : d.stopDone p slot = (d.modPav p fun x => { x with runs := tblDel x.runs slot }).done q .ok := by
  unfold Dev.stopDone
  simp only [hrun, hstop, hbound, List.isEmpty_nil, if_true]

theorem Dev.stopDone_waits {p : Nat} {q : QDesc} (hrun : tblFind (d.pav p).runs slot = some r) (hstop : r.stop = some q)
    (hbound : d.boundTo p slot ≠ []) : d.stopDone p slot = d := by
  unfold Dev.stopDone
  simp only [hrun, hstop, List.isEmpty_iff, hbound, if_false]

/-- Neither changes a channel's binding or transaction. -/
theorem stopDone_leaves {p : Nat} {q : QDesc} (hrun : tblFind (d.pav p).runs slot = some r) (hstop : r.stop = some q)
    (hop : exchOps.contains q.d.op = false) :
    (∀ n, ((d.stopDone p slot).ch n).prog = (d.ch n).prog ∧ ((d.stopDone p slot).ch n).txn = (d.ch n).txn) ∧
    Kept postRegs d (d.stopDone p slot) := by
  by_cases hbound : d.boundTo p slot = []
  · rw [Dev.stopDone_ends hrun hstop hbound]
    have htold := told_done_other (d.modPav p fun x => { x with runs := tblDel x.runs slot }) q .ok { result := .ok } hop
    exact ⟨fun n => ⟨by rw [htold.ch]; rfl, by rw [htold.ch]; rfl⟩, (kept_modPav _ d p _).trans htold.kept⟩
  · rw [Dev.stopDone_waits hrun hstop hbound]
    exact ⟨fun _ => ⟨rfl, rfl⟩, .refl _ d⟩

end Stopping
end Sys2Proof.Machine

namespace Sys2Proof.Proofs

open Sys2Proof.Machine Sys2Proof.Safety

/-! ### PROG_START (R247) -/

/-- The channels of a pavilion that a program's mask names. -/
def maskChans (p : Nat) (g : Prog) : List Nat := (pavChans p).filter fun n => bitAt g.chMask (n % 32)

theorem mem_maskChans {p n : Nat} {g : Prog} : n ∈ maskChans p g ↔ n ∈ pavChans p ∧ bitAt g.chMask (n % 32) = true := List.mem_filter

/-- The device with channels bound to a program. -/
def bindAll (d : Dev) (l : List Nat) (slot : Nat) : Dev :=
  d.each l fun d n => d.modCh n fun c => { c with prog := some slot, leaving := false, cycleOpen := false }

theorem ch_bindAll (d : Dev) (l : List Nat) (slot n : Nat) :
    ((bindAll d l slot).ch n).prog = (if n ∈ l then some slot else (d.ch n).prog) ∧ ((bindAll d l slot).ch n).txn = (d.ch n).txn := by
  induction l generalizing d with
  | nil => simp [bindAll, Dev.each]
  | cons m l ih =>
    obtain ⟨hprog, htxn⟩ := ih (d.modCh m fun c => { c with prog := some slot, leaving := false, cycleOpen := false })
    change ((bindAll (d.modCh m _) l slot).ch n).prog = _ ∧ ((bindAll (d.modCh m _) l slot).ch n).txn = _
    rw [hprog, htxn]
    by_cases h : m = n
    · subst h; simp
    · simp [Dev.ch_modCh_other _ _ h, Ne.symm h]

theorem kept_bindAll (L : List RegName) (d : Dev) (l : List Nat) (slot : Nat) : Kept L d (bindAll d l slot) :=
  .each l fun d n => kept_modCh L d n _

section Start

variable {pav : Fin 6} {s : State} {q : QDesc} {g : Prog}

theorem exec_progStart (hq : s.dev.running (0x200 + pav) 0x09 = some q) :
    exec (.progStart pav) s = .next { s with dev := s.dev.progStart pav q } := by
  change execProgStart pav s = _
  rw [execProgStart, onDev]; simp only [hq]

/-- A start that binds nothing is answered at once. -/
theorem does_progStart_answers {st : Status} (hq : s.dev.running (0x200 + pav) 0x09 = some q) (h : s.dev.progStart pav q = s.dev.done q st) :
    Does (.progStart pav) s fun t => Answered q st t ∧ Says postRegs s t := by
  refine ⟨_, exec_progStart hq, ?_⟩
  rw [h]
  exact ⟨answered_done _ _ _ _ _, rfl, rfl, told_done_other _ _ _ _ (by rw [s.dev.op_of_running hq]; decide)⟩

/-- The device with a program's channels bound and its run begun. -/
def progRuns (d : Dev) (p : Nat) (q : QDesc) (g : Prog) : Dev :=
  (bindAll d (maskChans p g) q.slot).modPav p fun x => { x with runs := tblPut x.runs q.slot { start := q } }

theorem progStart_binds {d : Dev} {p : Nat} (himage : tblFind (d.pav p).progs q.slot = some g) (hrun : (tblFind (d.pav p).runs q.slot).isNone)
    (hfree : ∀ n ∈ pavChans p, bitAt g.chMask (n % 32) = true → (d.ch n).prog = none) :
    d.progStart p q = (progRuns d p q g).done q .ok := by
  have hany : (maskChans p g).any (fun n => (d.ch n).prog.isSome) = false := List.any_eq_false.2 fun n hn => by
    obtain ⟨hmem, hmask⟩ := mem_maskChans.1 hn
    simp [hfree n hmem hmask]
  unfold Dev.progStart
  simp only [himage, Option.isNone_iff_eq_none.1 hrun, Option.isSome_none, Bool.false_eq_true, if_false]
  rw [← maskChans, hany]
  rfl

theorem progStart_bound {d : Dev} {p : Nat} (himage : tblFind (d.pav p).progs q.slot = some g) (hrun : (tblFind (d.pav p).runs q.slot).isNone)
    (hbound : ∃ n ∈ pavChans p, bitAt g.chMask (n % 32) = true ∧ (d.ch n).prog.isSome) : d.progStart p q = d.done q .badDescriptor := by
  obtain ⟨n, hmem, hmask, hprog⟩ := hbound
  have hany : (maskChans p g).any (fun n => (d.ch n).prog.isSome) = true := List.any_eq_true.2 ⟨n, mem_maskChans.2 ⟨hmem, hmask⟩, hprog⟩
  unfold Dev.progStart
  simp only [himage, Option.isNone_iff_eq_none.1 hrun, Option.isSome_none, Bool.false_eq_true, if_false]
  rw [← maskChans, hany]
  rfl

theorem does_progStart_binds (hq : s.dev.running (0x200 + pav) 0x09 = some q) (himage : tblFind (s.dev.pav pav).progs q.slot = some g)
    (hrun : (tblFind (s.dev.pav pav).runs q.slot).isNone)
    (hfree : ∀ n ∈ pavChans pav, bitAt g.chMask (n % 32) = true → (s.dev.ch n).prog = none) :
    Does (.progStart pav) s fun t => Answered q .ok t ∧
      (∀ n ∈ pavChans pav, (t.dev.ch n).prog = (if bitAt g.chMask (n % 32) then some q.slot else (s.dev.ch n).prog)) ∧
      tblFind (t.dev.pav pav).runs q.slot = some { start := q } ∧
      (∀ n, (t.dev.ch n).txn = (s.dev.ch n).txn) ∧ Works postRegs s t := by
  refine ⟨_, exec_progStart hq, ?_⟩
  rw [progStart_binds himage hrun hfree]
  have htold := told_done_other (progRuns s.dev pav q g) q .ok { result := .ok } (by rw [s.dev.op_of_running hq]; decide)
  have hch (n : Nat) := ch_bindAll s.dev (maskChans pav g) q.slot n
  refine ⟨answered_done _ _ _ _ _, fun n hn => ?_, ?_, fun n => ?_, rfl, rfl, ?_⟩
  · rw [htold.ch]
    refine (hch n).1.trans ?_
    simp only [mem_maskChans, hn, true_and]
  · rw [htold.pav, progRuns, Dev.pav_modPav_same]
    exact tblFind_put_same _ _ _
  · rw [htold.ch]; exact (hch n).2
  · exact ((kept_bindAll _ _ _ _).trans (kept_modPav _ _ _ _)).trans htold.kept

end Start

/-! ### PROG_STOP (R278) -/

section Stop

variable {pav : Fin 6} {s : State} {q : QDesc} {r : ProgRun}

/-- The device with a run asked to stop. -/
def stopAsked (d : Dev) (p : Nat) (q : QDesc) (r : ProgRun) : Dev :=
  d.modPav p fun x => { x with runs := tblPut x.runs q.slot { r with stop := some q } }

/-- The device with a run's channels stopped. -/
def chansStopped (d : Dev) (p : Nat) (q : QDesc) (r : ProgRun) : Dev :=
  (stopAsked d p q r).each (d.boundTo p q.slot) fun d n => d.stopChan q.slot r n

theorem exec_progStop (hq : s.dev.running (0x200 + pav) 0x0A = some q) (hrun : tblFind (s.dev.pav pav).runs q.slot = some r)
    (hstop : r.stop = none) : exec (.progStop pav) s = .next { s with dev := (chansStopped s.dev pav q r).stopDone pav q.slot } := by
  change execProgStop pav s = _
  rw [execProgStop, onDev]
  simp only [hq, hrun, hstop, Option.isSome_none, Bool.false_eq_true, if_false]
  rfl

theorem does_progStop_idle (hq : s.dev.running (0x200 + pav) 0x0A = some q) (hrun : tblFind (s.dev.pav pav).runs q.slot = none) :
    Does (.progStop pav) s fun t => Answered q .ok t ∧ Says postRegs s t := by
  refine ⟨{ s with dev := s.dev.done q .ok }, ?_, answered_done _ _ _ _ _, rfl, rfl,
    told_done_other _ _ _ _ (by rw [s.dev.op_of_running hq]; decide)⟩
  change execProgStop pav s = _
  rw [execProgStop, onDev]; simp only [hq, hrun]

theorem stoppedAll_chansStopped (d : Dev) (p : Nat) (h : ∀ n ∈ d.boundTo p q.slot, Stoppable q.slot (d.ch n).txn) :
    StoppedAll (d.boundTo p q.slot) (stopAsked d p q r) (chansStopped d p q r) :=
  stoppedAll_each _ ((nodup_pavChans p).filter _) h

/-- Once every channel that was bound is not, none is. -/
theorem boundTo_chansStopped {d : Dev} {p : Nat} (hall : StoppedAll (d.boundTo p q.slot) (stopAsked d p q r) (chansStopped d p q r))
    (h : ∀ n ∈ d.boundTo p q.slot, ∀ x, (d.ch n).txn = some x → x.phase = .waiting) : (chansStopped d p q r).boundTo p q.slot = [] := by
  refine List.filter_eq_nil_iff.2 fun n hn => ?_
  by_cases hb : n ∈ d.boundTo p q.slot
  · rw [((hall.stopped n hb).unbound (h n hb)).1]; simp
  · have hprog : ¬ ((d.ch n).prog == some q.slot) = true := fun e => hb (List.mem_filter.2 ⟨hn, e⟩)
    rw [hall.prog n hb]; exact hprog

theorem does_progStop (hq : s.dev.running (0x200 + pav) 0x0A = some q) (hrun : tblFind (s.dev.pav pav).runs q.slot = some r)
    (hstop : r.stop = none) (h : ∀ n ∈ s.dev.boundTo pav q.slot, Stoppable q.slot (s.dev.ch n).txn) :
    Does (.progStop pav) s fun t =>
      (∀ n ∈ s.dev.boundTo pav q.slot, (∀ x, (s.dev.ch n).txn = some x → x.phase = .waiting) →
        (t.dev.ch n).prog = none ∧ (t.dev.ch n).txn = none) ∧
      (∀ n ∈ s.dev.boundTo pav q.slot, ∀ x, (s.dev.ch n).txn = some x → x.phase = .up →
        (t.dev.ch n).prog = some q.slot ∧ (t.dev.ch n).txn = some { x with stopAsked := true }) ∧
      ((∀ n ∈ s.dev.boundTo pav q.slot, ∀ x, (s.dev.ch n).txn = some x → x.phase = .waiting) →
        tblFind (t.dev.pav pav).runs q.slot = none ∧ Answered q .ok t) ∧ Works postRegs s t := by
  refine ⟨_, exec_progStop hq hrun hstop, ?_⟩
  have hall := stoppedAll_chansStopped (r := r) s.dev pav h
  have hasked : tblFind ((chansStopped s.dev pav q r).pav pav).runs q.slot = some { r with stop := some q } := by
    rw [hall.runs, stopAsked, Dev.pav_modPav_same]; exact tblFind_put_same _ _ _
  have hop : exchOps.contains q.d.op = false := by rw [s.dev.op_of_running hq]; decide
  obtain ⟨hch, hkept⟩ := stopDone_leaves hasked rfl hop
  refine ⟨fun n hn hwaits => ?_, fun n hn x hx hup => ?_, fun hwait => ?_, rfl, rfl, ((kept_modPav _ s.dev _ _).trans hall.kept).trans hkept⟩
  · dsimp only
    rw [(hch n).1, (hch n).2]
    exact (hall.stopped n hn).unbound hwaits
  · dsimp only
    rw [(hch n).1, (hch n).2]
    obtain ⟨hprog, htxn⟩ := (hall.stopped n hn).asked x hx hup
    exact ⟨hprog.trans (s.dev.mem_boundTo hn).2, htxn⟩
  · have hends := Dev.stopDone_ends hasked rfl (boundTo_chansStopped hall hwait)
    rw [hends]
    refine ⟨?_, answered_done _ _ _ _ _⟩
    rw [(told_done_other _ q .ok _ hop).pav, Dev.pav_modPav_same]
    exact tblFind_del_same _ _

end Stop

/-- Settles O18: a start binds every channel of the mask where none is bound (`ch_bindAll`); a stop leaves each bound channel unbound or
asked to stop (`stopped_stopChan`), and where none stays bound the run ends (`boundTo_chansStopped`). -/
theorem programsStartAndStop : Obligations.ProgramsStartAndStop := by
  refine ⟨fun pav s q hq => ⟨fun hnone => ?_, fun g himage => ⟨fun hrun => ?_, fun hrun =>
      ⟨fun hbound => ?_, does_progStart_binds hq himage hrun⟩⟩⟩,
    fun pav s q hq => ⟨does_progStop_idle hq, fun r hrun hstop => does_progStop hq hrun hstop⟩⟩
  · exact does_progStart_answers hq (by unfold Dev.progStart; simp only [hnone])
  · exact does_progStart_answers hq (by unfold Dev.progStart; simp only [himage, hrun, if_true])
  · exact does_progStart_answers hq (progStart_bound himage hrun hbound)

end Sys2Proof.Proofs
end

section
/-! PROOFS. Belvedere sweeps, the starts of a step's probes: what a probe's permissions read, and what rises beside it leave of that. -/

namespace Sys2Proof.Machine

open Sys2Proof.Safety

variable (d : Dev)

/-! ### A probe's permissions (R281) -/

/-- A probe's permissions but for its place in the bucket. -/
def Dev.blvAble (n : Nat) : Bool :=
  d.bCause n &&& 0x37 == 0 && d.blvCarrier && !d.isolated n && !d.on F.CH_FEN_STAT_CHAIN_FAULT n && !(d.ch n).borrowed &&
    d.fld F.PAV_VDRV_NOM (pavOf n) != 0 && (d.neverAdmit n (blvDriven n) 81).isNone && decide (1 ≤ d.outFree n) &&
    d.gateOk (arbOf n) 81 && d.creditOk n && d.dutyOk n 81 && d.gntOk (pavOf n)

theorem b2n_eq_zero (b : Bool) : b2n b = 0 ↔ b = false := by cases b <;> decide

theorem Dev.blvMay_eq (n : Nat) : d.blvMay n = (d.blvAble n && d.bucketOk (pavOf n) (d.blvEnergy n)) := by
  have hmissing : (d.missing n (blvDriven n) 81 == 0) = (d.gateOk (arbOf n) 81 && d.creditOk n && d.dutyOk n 81 && d.gntOk (pavOf n) &&
      d.bucketOk (pavOf n) (d.blvEnergy n)) := by
    rw [Bool.eq_iff_iff]
    simp only [Dev.missing, Dev.blvEnergy, blvDriven, List.all_cons, List.all_nil, Bool.and_true, beq_iff_eq, Nat.add_eq_zero_iff,
      Nat.mul_eq_zero, b2n_eq_zero, Bool.not_eq_false', Bool.and_eq_true]
    tauto
  rw [Dev.blvMay, hmissing, Dev.blvAble]
  ac_rfl

/-! ### A channel's bit of a register of its pavilion -/

theorem Dev.bit_wr_same (r : RegName) (n : Nat) (b : Bool) :
    bitAt ((d.wr r (pavOf n) 0 (setBits (d.rd r (pavOf n)) (n % 32) 1 (b2n b))).rd r (pavOf n)) (n % 32) = b := by
  have hlt : setBits (d.rd r (pavOf n)) (n % 32) 1 (b2n b) < 2 ^ 32 := setBits_lt (d.rd_lt _ _ _) (by omega)
  rw [Dev.rd_wr_same, Nat.mod_eq_of_lt hlt, bitAt_setBits_same]

theorem Dev.bit_wr_other (r : RegName) {n k : Nat} (x : Nat) (hn : n < 192) (hk : k < 192) (h : k ≠ n) :
    bitAt ((d.wr r (pavOf n) 0 (setBits (d.rd r (pavOf n)) (n % 32) 1 x)).rd r (pavOf k)) (k % 32) =
      bitAt (d.rd r (pavOf k)) (k % 32) := by
  by_cases hp : pavOf n = pavOf k
  · have hlt : setBits (d.rd r (pavOf n)) (n % 32) 1 x < 2 ^ 32 := setBits_lt (d.rd_lt _ _ _) (by omega)
    have hne : k % 32 ≠ n % 32 := by unfold pavOf at hp; omega
    rw [← hp, Dev.rd_wr_same, Nat.mod_eq_of_lt hlt, bitAt_setBits_other _ hne]
  · rw [d.rd_wr_other _ (regKey_ne_inst r 0 0 (by unfold pavOf; omega) (by unfold pavOf; omega) hp)]

/-! ### Rises beside a channel -/

/-- The registers that the rises of a step may change. -/
def riseRegs : List RegName := [.CH_PWR_MEAS, .PAV_BLV_SKIP]

/-- What the rises of some channels leave: other channels, the transactions, and the pavilions but for what is reserved of their buckets,
to which a pavilion's rises add their energies at most. -/
structure Rising (p : Nat) (l : List Nat) (d e : Dev) : Prop where
  kept : Kept riseRegs d e
  ch   : ∀ k, k ∉ l → e.ch k = d.ch k
  txn  : ∀ k, (e.ch k).txn = (d.ch k).txn
  pav  : ∀ q, e.pav q = { d.pav q with rsv := (e.pav q).rsv }
  skip : ∀ k, k ∉ l → k < 192 → bitAt (e.rd .PAV_BLV_SKIP (pavOf k)) (k % 32) = bitAt (d.rd .PAV_BLV_SKIP (pavOf k)) (k % 32)
  low  : (d.pav p).rsv ≤ (e.pav p).rsv
  high : (e.pav p).rsv ≤ (d.pav p).rsv + (l.map d.blvEnergy).sum

namespace Rising

variable {d} {p n : Nat} {l m : List Nat} {e f : Dev}

theorem blvEnergy (a : Rising p l d e) (k : Nat) : e.blvEnergy k = d.blvEnergy k := by
  simp (disch := decide) only [Dev.blvEnergy, Dev.energy, a.kept.fld]

theorem trans (a : Rising p l d e) (b : Rising p m e f) : Rising p (l ++ m) d f where
  kept := a.kept.trans b.kept
  ch k h := by
    obtain ⟨hl, hm⟩ := not_or.1 (mt List.mem_append.2 h)
    exact (b.ch k hm).trans (a.ch k hl)
  txn k := (b.txn k).trans (a.txn k)
  pav q := by rw [b.pav q, a.pav q]
  skip k h hk := by
    obtain ⟨hl, hm⟩ := not_or.1 (mt List.mem_append.2 h)
    exact (b.skip k hm hk).trans (a.skip k hl hk)
  low := a.low.trans b.low
  high := by
    have henergy : m.map e.blvEnergy = m.map d.blvEnergy := List.map_congr_left fun k _ => a.blvEnergy k
    have ha := a.high
    have hb := b.high
    rw [henergy] at hb
    rw [List.map_append, List.sum_append]
    omega

/-! Of a pavilion only what is reserved changes. -/

theorem state (a : Rising p l d e) (q : Nat) : (e.pav q).state = (d.pav q).state := by rw [a.pav]
theorem gate (a : Rising p l d e) (q : Nat) : (e.pav q).gate = (d.pav q).gate := by rw [a.pav]
theorem req (a : Rising p l d e) (q : Nat) : (e.pav q).req = (d.pav q).req := by rw [a.pav]
theorem reqAt (a : Rising p l d e) (q : Nat) : (e.pav q).reqAt = (d.pav q).reqAt := by rw [a.pav]
theorem dip (a : Rising p l d e) (q : Nat) : (e.pav q).dip = (d.pav q).dip := by rw [a.pav]
theorem gntPin (a : Rising p l d e) (q : Nat) : (e.pav q).gntPin = (d.pav q).gntPin := by rw [a.pav]
theorem tokens (a : Rising p l d e) (q : Nat) : (e.pav q).tokens = (d.pav q).tokens := by rw [a.pav]
theorem tokAt (a : Rising p l d e) (q : Nat) : (e.pav q).tokAt = (d.pav q).tokAt := by rw [a.pav]

theorem blvProbes (a : Rising p l d e) (h : n ∉ l) : e.blvProbes n = d.blvProbes n := by
  simp (disch := decide) only [Dev.blvProbes, Dev.engaged, Dev.inProgress, Dev.members, a.kept.on, a.kept.fld, a.txn, a.ch n h, a.state]

theorem tokensNow (a : Rising p l d e) (q : Nat) : e.tokensNow q = d.tokensNow q := by
  simp (disch := decide) only [Dev.tokensNow, Dev.depth, Dev.foldPct, Dev.tc, a.kept.on, a.kept.fld, a.kept.time, a.tokens, a.tokAt]

theorem gateRemain (a : Rising p l d e) (q i dt : Nat) : e.gateRemain q i dt = d.gateRemain q i dt := by
  have hnet : e.netU = d.netU := by rw [Dev.netU, Dev.netMod, a.kept.time, Dev.netU, Dev.netMod]
  have hcar : e.carU = d.carU := by rw [Dev.carU, Dev.tc, a.kept.time, Dev.carU, Dev.tc]
  have hlock : e.locked = d.locked := a.kept.on _ _ _ (by decide)
  have hpend : e.withPend = d.withPend := by unfold Dev.withPend; rw [hlock]
  have hfb : e.loadFb = d.loadFb := by
    funext x y z
    simp (disch := decide) only [Dev.loadFb, a.kept.fld, a.kept.on, a.kept.regs]
  unfold Dev.gateRemain
  rw [a.gate, hnet, hcar, hlock, hpend, hfb]

theorem gateOk (a : Rising p l d e) (i k : Nat) : e.gateOk i k = d.gateOk i k := by
  simp (disch := decide) only [Dev.gateOk, a.gateRemain, Dev.leadLeft, Dev.leadTc, Dev.tc, a.kept.fld, a.kept.time, a.req, a.reqAt]

theorem creditOk (a : Rising p l d e) (h : n ∉ l) : e.creditOk n = d.creditOk n := by
  have htc : e.tc = d.tc := congrArg TimeSt.tc a.kept.time
  have hregs : e.shpRegs n = d.shpRegs n := by simp (disch := decide) only [Dev.shpRegs, a.kept.on, a.kept.fld]
  unfold Dev.creditOk Dev.shpAt Dev.creditAtNow Dev.creditAtTc
  rw [htc, hregs, a.ch n h]

theorem dutyOk (a : Rising p l d e) (h : n ∉ l) (k : Nat) : e.dutyOk n k = d.dutyOk n k := by
  simp (disch := decide) only [Dev.dutyOk, Dev.dutyTc, Dev.ch_settleDuty, Dev.dutyMax, Dev.tc, a.kept.fld, a.kept.time, a.ch n h]

theorem neverAdmit (a : Rising p l d e) (k : Nat) : e.neverAdmit n (blvDriven n) k = d.neverAdmit n (blvDriven n) k := by
  have hfld (x : Fld) (h : x.reg ∉ riseRegs) : @Dev.fld e x = @Dev.fld d x := funext fun i => funext fun j => a.kept.fld x i j h
  have hgate : e.gateLongest = d.gateLongest := by
    funext q i
    rw [Dev.gateLongest, a.gate, Dev.gateLongest]
  unfold Dev.neverAdmit Dev.dutyMax Dev.depth Dev.energy
  rw [hgate, hfld F.CH_FIELD_MAX_PWR (by decide), hfld F.CH_PWR_LIM_MW (by decide), hfld F.PAV_LOCK_DUTY (by decide),
    hfld F.PAV_BKT_DEPTH_DEPTH (by decide)]

theorem bCause (a : Rising p l d e) (k : Nat) : e.bCause k = d.bCause k := by
  obtain ⟨w, hsyn⟩ : ∃ w, e.syn = { d.syn with waiters := w } := ⟨_, a.kept.syn⟩
  simp (disch := decide) only [Dev.bCause, Dev.enLock, Dev.synActive, Dev.gntOk, a.kept.on, a.kept.regs, hsyn, a.kept.pwr, a.dip, a.gntPin]

theorem blvCarrier (a : Rising p l d e) : e.blvCarrier = d.blvCarrier := by
  have hsyn : e.synActive = d.synActive := by unfold Dev.synActive; rw [a.kept.syn]
  unfold Dev.blvCarrier Dev.fldI
  rw [hsyn, a.kept.fld F.SYN_TRIM_MIN_STEPS 0 0 (by decide), a.kept.fld F.SYN_TRIM_MAX_STEPS 0 0 (by decide)]

theorem gntOk (a : Rising p l d e) (q : Nat) : e.gntOk q = d.gntOk q := by
  rw [Dev.gntOk, a.kept.on _ _ _ (by decide), a.gntPin, Dev.gntOk]

theorem isolated (a : Rising p l d e) (k : Nat) : e.isolated k = d.isolated k := by
  rw [Dev.isolated, a.kept.regs _ _ _ (by decide), a.kept.regs _ _ _ (by decide), Dev.isolated]

theorem outFree (a : Rising p l d e) (h : n ∉ l) : e.outFree n = d.outFree n := by rw [Dev.outFree, a.ch n h, Dev.outFree]

theorem blvAble (a : Rising p l d e) (h : n ∉ l) : e.blvAble n = d.blvAble n := by
  rw [Dev.blvAble, a.bCause, a.blvCarrier, a.isolated, a.kept.on _ _ _ (by decide), a.ch n h, a.kept.fld _ _ _ (by decide), a.neverAdmit,
    a.outFree h, a.gateOk, a.creditOk h, a.dutyOk h, a.gntOk, Dev.blvAble]

end Rising

/-! ### One channel at its step (R279, R281) -/

/-- A probe's field starts. -/
def Dev.blvUp (n : Nat) : Dev :=
  let e := d.modPav (pavOf n) fun x => { x with rsv := x.rsv + d.blvEnergy n }
  (e.coilRise n n (.ramp n true .normal (e.on F.CH_RAMP_SHAPE n) 16)).emit (e.pulseOut n 96)

theorem Dev.blvRise_none {n : Nat} (h : d.blvProbes n = false) : d.blvRise n = (false, d.blvNone n) := by
  simp [Dev.blvRise, h]

theorem Dev.blvRise_skip {n : Nat} (h : d.blvProbes n = true) (hmay : d.blvMay n = false) : d.blvRise n = (false, d.blvSkip n) := by
  simp [Dev.blvRise, h, hmay]

theorem Dev.blvRise_up {n : Nat} (h : d.blvProbes n = true) (hmay : d.blvMay n = true) : d.blvRise n = (true, d.blvUp n) := by
  simp only [Dev.blvRise, h, hmay, Bool.not_true, Bool.false_eq_true, if_false, if_true]; rfl

theorem Dev.ch_blvUp (n : Nat) : (d.blvUp n).ch n = (d.ch n).raised n d.tc := by
  rw [Dev.blvUp, Dev.emit_ch, Dev.ch_coilRise]; rfl

theorem kept_blvNone (L : List RegName) (n : Nat) : Kept L d (d.blvNone n) := kept_modCh L d n _

theorem rising_blvNone {p n : Nat} : Rising p [n] d (d.blvNone n) where
  kept := kept_blvNone d _ n
  ch k h := d.ch_modCh_other _ (Ne.symm (List.ne_of_not_mem_cons h))
  txn k := by
    by_cases h : n = k
    · subst h; rw [Dev.blvNone, Dev.ch_modCh_same]
    · rw [Dev.blvNone, d.ch_modCh_other _ h]
  pav _ := rfl
  skip _ _ _ := rfl
  low := le_rfl
  high := Nat.le_add_right _ _

theorem rising_blvSkip {p n : Nat} (hn : n < 192) : Rising p [n] d (d.blvSkip n) where
  kept := (kept_wr _ d .PAV_BLV_SKIP _ _ _ (by decide)).trans (kept_blvNone _ _ n)
  ch := (rising_blvNone (p := p) (d.wr .PAV_BLV_SKIP (pavOf n) 0 _)).ch
  txn := (rising_blvNone (p := p) (d.wr .PAV_BLV_SKIP (pavOf n) 0 _)).txn
  pav _ := rfl
  skip k h hk := d.bit_wr_other _ 1 hn hk (List.ne_of_not_mem_cons h)
  low := le_rfl
  high := Nat.le_add_right _ _

theorem Dev.pav_blvUp (n q : Nat) : (d.blvUp n).pav q = (d.modPav (pavOf n) fun x => { x with rsv := x.rsv + d.blvEnergy n }).pav q := by
  rw [Dev.blvUp, Dev.emit_pav, Dev.coilRise, Dev.emit_pav, Dev.setFld_pav, Dev.modCh_pav]

theorem rising_blvUp {n : Nat} : Rising (pavOf n) [n] d (d.blvUp n) where
  kept := ((kept_modPav _ d _ _).trans (kept_coilRise _ n n _ (by decide))).trans (kept_emit _ _ _)
  ch k h := by
    rw [Dev.blvUp, Dev.emit_ch, Dev.ch_coilRise_other _ _ _ (Ne.symm (List.ne_of_not_mem_cons h))]; rfl
  txn k := by
    by_cases h : n = k
    · subst h; rw [Dev.ch_blvUp]; rfl
    · rw [Dev.blvUp, Dev.emit_ch, Dev.ch_coilRise_other _ _ _ h]; rfl
  pav q := by
    rw [Dev.pav_blvUp]
    by_cases h : pavOf n = q
    · subst h; rw [Dev.pav_modPav_same]
    · rw [Dev.pav_modPav_other _ _ h]
  skip k _ _ := by
    have hkept : Kept [.CH_PWR_MEAS] d (d.blvUp n) :=
      ((kept_modPav _ d _ _).trans (kept_coilRise _ n n _ (by decide))).trans (kept_emit _ _ _)
    rw [hkept.regs _ _ _ (by decide)]
  low := by rw [Dev.pav_blvUp, Dev.pav_modPav_same]; exact Nat.le_add_right _ _
  high := by rw [Dev.pav_blvUp, Dev.pav_modPav_same, List.map_singleton, List.sum_singleton]

theorem rising_blvRise {p n : Nat} (hn : n < 192) (hp : pavOf n = p) : Rising p [n] d (d.blvRise n).2 := by
  subst hp
  cases h : d.blvProbes n with
  | false => rw [d.blvRise_none h]; exact rising_blvNone d
  | true =>
    cases hmay : d.blvMay n with
    | false => rw [d.blvRise_skip h hmay]; exact rising_blvSkip d hn
    | true => rw [d.blvRise_up h hmay]; exact rising_blvUp d

/-! ### The channels of a step, one after another -/

/-- The device after the starts of some taps' probes. -/
def Dev.rose (l : List (Nat × Nat × Nat)) : Dev := d.each l fun d m => (d.blvRise m.1).2

/-- Those of the taps whose probe runs. -/
def Dev.risen (d : Dev) : List (Nat × Nat × Nat) → List (Nat × Nat × Nat)
  | [] => []
  | m :: l => (if (d.blvRise m.1).1 then [m] else []) ++ (d.blvRise m.1).2.risen l

theorem rises_eq (l a : List (Nat × Nat × Nat)) :
    l.foldl (fun (a : List (Nat × Nat × Nat) × Dev) m =>
      let r := a.2.blvRise m.1
      (if r.1 then a.1 ++ [m] else a.1, r.2)) (a, d) = (a ++ d.risen l, d.rose l) := by
  induction l generalizing a d with
  | nil => simp [Dev.risen, Dev.rose, Dev.each]
  | cons m l ih =>
    rw [List.foldl_cons, ih]
    dsimp only [Dev.risen]
    split <;> simp [Dev.rose, Dev.each]

theorem Dev.rose_append (l m : List (Nat × Nat × Nat)) : d.rose (l ++ m) = (d.rose l).rose m := List.foldl_append

theorem Dev.risen_append (l m : List (Nat × Nat × Nat)) : d.risen (l ++ m) = d.risen l ++ (d.rose l).risen m := by
  induction l generalizing d with
  | nil => rfl
  | cons x l ih => rw [List.cons_append, Dev.risen, Dev.risen, ih, List.append_assoc]; rfl

theorem Dev.risen_sublist (l : List (Nat × Nat × Nat)) : (d.risen l).Sublist l := by
  induction l generalizing d with
  | nil => exact List.Sublist.slnil
  | cons m l ih =>
    rw [Dev.risen]
    split
    · exact (ih _).cons_cons m
    · exact (ih _).cons m

theorem rising_rose {p : Nat} (l : List (Nat × Nat × Nat)) (h : ∀ m ∈ l, m.1 < 192 ∧ pavOf m.1 = p) :
    Rising p (l.map (·.1)) d (d.rose l) := by
  induction l generalizing d with
  | nil => exact ⟨.refl _ d, fun _ _ => rfl, fun _ => rfl, fun _ => rfl, fun _ _ _ => rfl, le_rfl, Nat.le_add_right _ _⟩
  | cons m l ih =>
    obtain ⟨hm, hp⟩ := h m List.mem_cons_self
    exact (rising_blvRise d hm hp).trans (ih _ fun x hx => h x (List.mem_cons_of_mem m hx))

end Sys2Proof.Machine
end

section
/-! PROOFS. Belvedere sweeps, the results of a step's probes: what one channel's result and the end of its field change, and what they leave
of the other channels of the step. -/

namespace Sys2Proof.Machine

open Sys2Proof.Safety

variable (d : Dev)

/-! ### Entries of one channel, and the others -/

theorem Dev.ch_modOutq_other {s k : Nat} (f : OutQ → OutQ) (h : k ≠ s) : (d.modOutq s f).ch k = d.ch k := by
  unfold Dev.modOutq; split
  · exact d.ch_modCh_other _ (Ne.symm h)
  · rfl

theorem Dev.ch_enter_other {k : Nat} (e : Entry) (h : k ≠ e.source) : (d.enter e).ch k = d.ch k := by
  unfold Dev.enter; split
  · rfl
  · exact d.ch_modOutq_other _ h

theorem Dev.ch_post_other {k : Nat} (e : Entry) (h : k ≠ e.source) : (d.post e).ch k = d.ch k := by
  unfold Dev.post; extract_lets x q
  split
  · rw [Dev.addFld_ch, Dev.ch_modOutq_other _ _ h]
  · split
    · exact d.ch_enter_other x h
    · exact d.ch_modOutq_other _ h

theorem Dev.ch_event_other {s k : Nat} (v : EvKind) (b : List Byte) (st : Status) (ses : Nat) (h : k ≠ s) :
    (d.event v s b st ses).ch k = d.ch k := d.ch_post_other _ h

theorem Dev.route_kept {L : List RegName} {d e : Dev} (a : Kept L d e) (hm : .HIF_UNSOL_MAP ∉ L) (hc : .HIF_CTL ∉ L) (x : Entry) :
    e.route x = d.route x := by
  unfold Dev.route
  rw [a.on F.HIF_CTL_DEV_EV_EN 0 0 hc, a.fld F.HIF_CTL_DEV_EVQ 0 0 hc]
  dsimp only
  rw [a.regs _ _ _ hm]

/-! ### A result is judged (R283 to R285) -/

/-- The registers of one channel's result beside its measurement. -/
def judgeRegs : List RegName := postRegs ++ [.CH_BLV_BASE, .PAV_BLV_STAT]

/-- Judging one channel's result leaves the others, and when this one's field began. -/
structure Judged (n : Nat) (d e : Dev) : Prop where
  kept : Kept judgeRegs d e
  ch   : ∀ k, k ≠ n → e.ch k = d.ch k
  onAt : (e.ch n).onAt = (d.ch n).onAt
  base : ∀ k, k ≠ n → n < 192 → k < 192 → e.rd .CH_BLV_BASE k = d.rd .CH_BLV_BASE k
  det  : ∀ k, k ≠ n → n < 192 → k < 192 → bitAt (e.rd .PAV_BLV_STAT (pavOf k)) (k % 32) = bitAt (d.rd .PAV_BLV_STAT (pavOf k)) (k % 32)

namespace Judged

variable {d} {n : Nat} {e f : Dev}

theorem refl (n : Nat) (d : Dev) : Judged n d d := ⟨.refl _ d, fun _ _ => rfl, rfl, fun _ _ _ _ => rfl, fun _ _ _ _ => rfl⟩

theorem trans (a : Judged n d e) (b : Judged n e f) : Judged n d f where
  kept := a.kept.trans b.kept
  ch k h := (b.ch k h).trans (a.ch k h)
  onAt := b.onAt.trans a.onAt
  base k h hn hk := (b.base k h hn hk).trans (a.base k h hn hk)
  det k h hn hk := (b.det k h hn hk).trans (a.det k h hn hk)

theorem modCh (d : Dev) (n : Nat) (f : Ch → Ch) (h : ∀ c, (f c).onAt = c.onAt := by intro; rfl) : Judged n d (d.modCh n f) where
  kept := kept_modCh _ d n f
  ch k h := d.ch_modCh_other f (Ne.symm h)
  onAt := by rw [Dev.ch_modCh_same, h]
  base _ _ _ _ := rfl
  det _ _ _ _ := rfl

theorem wrBase (d : Dev) (n v : Nat) : Judged n d (d.wr .CH_BLV_BASE n 0 v) where
  kept := kept_wr _ d _ _ _ _ (by decide)
  ch _ _ := rfl
  onAt := rfl
  base k h hn hk := d.rd_wr_other _ (regKey_ne_inst _ 0 0 (by omega) (by omega) (Ne.symm h))
  det k _ _ _ := by rw [d.rd_wr_name _ _ _ _ _ (by decide)]

theorem wrDet (d : Dev) (n x : Nat) :
    Judged n d (d.wr .PAV_BLV_STAT (pavOf n) 0 (setBits (d.rd .PAV_BLV_STAT (pavOf n)) (n % 32) 1 x)) where
  kept := kept_wr _ d .PAV_BLV_STAT _ _ _ (by decide)
  ch _ _ := rfl
  onAt := rfl
  base k _ _ _ := d.rd_wr_name _ _ _ _ _ (by decide)
  det k h hn hk := d.bit_wr_other _ x hn hk h

theorem event (d : Dev) (n : Nat) (v : EvKind) (b : List Byte) : Judged n d (d.event v n b) where
  kept := (told_event d v n b _ _).kept.mono (by decide)
  ch k h := d.ch_event_other v b _ _ h
  onAt := by rw [(told_event d v n b _ _).ch]
  base k _ _ _ := (told_event d v n b _ _).regs _ _ _ (by decide)
  det k _ _ _ := by rw [(told_event d v n b _ _).regs _ _ _ (by decide)]

theorem modPav (d : Dev) (n p : Nat) (f : Pav → Pav) : Judged n d (d.modPav p f) :=
  ⟨kept_modPav _ d p f, fun _ _ => rfl, rfl, fun _ _ _ _ => rfl, fun _ _ _ _ => rfl⟩

theorem freeCtr (d : Dev) (n c : Nat) : Judged n d { d with freeCtr := c } :=
  ⟨{ Kept.refl _ d with }, fun _ _ => rfl, rfl, fun _ _ _ _ => rfl, fun _ _ _ _ => rfl⟩

end Judged

/-- A result becomes the baseline, or it is counted and judged. -/
def Dev.blvJudge (n amp ph : Nat) : Dev :=
  if !(d.ch n).blvBase || (d.ch n).blvAdopt then d.blvAdoptNow n amp ph
  else
    let run := if d.blvExcursion n amp ph then (d.ch n).blvRun + 1 else 0
    let e := d.modCh n fun c => { c with blvRun := run }
    if bitAt (d.rd .PAV_BLV_STAT (pavOf n)) (n % 32) then e
    else if e.fld F.PAV_BLV_CTL_CONFIRM (pavOf n) ≤ run then e.blvDetect n amp ph
    else e.blvDrift n amp ph

theorem Dev.blvResult_eq (n amp ph : Nat) :
    d.blvResult n amp ph = (d.wr .CH_BLV_MEAS n 0 (amp % 65536 + 65536 * (ph % 4096))).blvJudge n amp ph := rfl

/-- A pavilion in the state WATCH notes a DETECT (R286). -/
def Dev.blvWake (p : Nat) : Dev :=
  if d.on F.PAV_BLV_CTL_WAKE p && (d.pav p).state == .watch then d.modPav p fun x => { x with wakeDet := true } else d

theorem Dev.quot_only (num : Int) (den : Nat) : ∃ c, (d.quot num den).2 = { d with freeCtr := c } := by
  unfold Dev.quot; split
  · exact ⟨d.freeCtr, rfl⟩
  · exact ⟨_, rfl⟩

/-- The device with a channel's DETECT bit put. -/
def Dev.putDet (n : Nat) (b : Bool) : Dev := d.wr .PAV_BLV_STAT (pavOf n) 0 (setBits (d.rd .PAV_BLV_STAT (pavOf n)) (n % 32) 1 (b2n b))

/-- A DETECT sets the channel's bit and posts its event; beside, values that the spec leaves free are drawn. -/
theorem Dev.blvDetect_eq (n amp ph : Nat) :
    ∃ c b, d.blvDetect n amp ph = (((Dev.putDet { d with freeCtr := c } n true).event .detect n b).blvWake (pavOf n)) := by
  -- The difference of phases and the unit get names, so that nothing computes with numbers of the size of 2^44.
  have hfun : Dev.blvDetect = Dev.blvDetect := rfl
  conv at hfun => rhs; delta Dev.blvDetect
  obtain ⟨f, hf⟩ : ∃ f, f = phDiff := ⟨_, rfl⟩
  obtain ⟨u, hu⟩ : ∃ u, u = blvUnit := ⟨_, rfl⟩
  rw [congrFun (congrFun (congrFun (congrFun hfun d) n) amp) ph, ← hf, ← hu]
  dsimp only
  split
  · obtain ⟨l, hl⟩ := d.free.2.quot_only (f (d.ch n).blvPh ph * 3600) (4096 * u)
    rw [hl]
    exact ⟨l, _, rfl⟩
  · obtain ⟨k, hk⟩ := d.quot_only (((amp * u : Nat) - ((d.ch n).blvAmp : Int)) * 1000) (d.ch n).blvAmp
    obtain ⟨l, hl⟩ := (d.quot (((amp * u : Nat) - ((d.ch n).blvAmp : Int)) * 1000) (d.ch n).blvAmp).2.quot_only
      (f (d.ch n).blvPh ph * 3600) (4096 * u)
    rw [hl, hk]
    exact ⟨l, _, rfl⟩

theorem judged_putDet (n : Nat) (b : Bool) : Judged n d (d.putDet n b) := .wrDet d n _

theorem judged_blvWake (n p : Nat) : Judged n d (d.blvWake p) := by
  unfold Dev.blvWake; split
  · exact .modPav d n p _
  · exact .refl n d

theorem judged_blvAdoptNow (n amp ph : Nat) : Judged n d (d.blvAdoptNow n amp ph) :=
  ((Judged.modCh d n _).trans (.wrDet _ n 0)).trans (.wrBase _ n _)

theorem judged_blvDrift (n amp ph : Nat) : Judged n d (d.blvDrift n amp ph) := (Judged.modCh d n _).trans (.wrBase _ n _)

theorem judged_blvDetect (n amp ph : Nat) : Judged n d (d.blvDetect n amp ph) := by
  obtain ⟨c, b, h⟩ := d.blvDetect_eq n amp ph
  rw [h]
  exact ((Judged.freeCtr d n c).trans (judged_putDet _ n true)).trans ((Judged.event _ n .detect b).trans (judged_blvWake _ n _))

theorem judged_blvJudge (n amp ph : Nat) : Judged n d (d.blvJudge n amp ph) := by
  unfold Dev.blvJudge; split
  · exact judged_blvAdoptNow d n amp ph
  · extract_lets run e
    have he : Judged n d e := .modCh d n _
    split
    · exact he
    · split
      · exact he.trans (judged_blvDetect e n amp ph)
      · exact he.trans (judged_blvDrift e n amp ph)

/-! ### What one result leaves of its channel -/

theorem bits_packed {amp ph : Nat} (ha : amp < 65536) (hp : ph < 4096) :
    bits ((amp % 65536 + 65536 * (ph % 4096)) % 2 ^ 32) 0 16 = amp ∧ bits ((amp % 65536 + 65536 * (ph % 4096)) % 2 ^ 32) 16 12 = ph := by
  simp only [bits, Nat.shiftRight_eq_div_pow]
  omega

theorem Dev.fld_whole (f : Fld) (i j : Nat) (hlo : f.lo = 0) (hw : f.w = 32) : d.fld f i j = d.rd f.reg i j := by
  rw [Dev.fld, bits, hlo, hw, Nat.shiftRight_zero, Nat.mod_eq_of_lt (d.rd_lt _ _ _)]

theorem blvUnit_pos : 0 < blvUnit := Nat.two_pow_pos 32

/-- A channel's record with a probe's result as its baseline. -/
def Ch.adopted (c : Ch) (tc amp ph : Nat) : Ch :=
  { c with blvBase := true, blvAdopt := false, blvRun := 0, blvAt := tc, blvAmp := amp * blvUnit, blvPh := ph * blvUnit }

theorem Dev.ch_blvAdoptNow (n amp ph : Nat) : (d.blvAdoptNow n amp ph).ch n = (d.ch n).adopted d.tc amp ph := by
  rw [Dev.blvAdoptNow, Dev.blvShow, Dev.wr_ch, Dev.wr_ch, Dev.ch_modCh_same]; rfl

theorem Dev.det_blvAdoptNow (n amp ph : Nat) : bitAt ((d.blvAdoptNow n amp ph).rd .PAV_BLV_STAT (pavOf n)) (n % 32) = false := by
  rw [Dev.blvAdoptNow, Dev.blvShow, Dev.rd_wr_name _ _ _ _ _ _ (by decide)]
  exact Dev.bit_wr_same _ .PAV_BLV_STAT n false

theorem Dev.base_blvAdoptNow (n : Nat) {amp ph : Nat} (ha : amp < 65536) (hp : ph < 4096) :
    (d.blvAdoptNow n amp ph).fld F.CH_BLV_BASE_AMP n = amp ∧ (d.blvAdoptNow n amp ph).fld F.CH_BLV_BASE_PH n = ph := by
  have hrd : (d.blvAdoptNow n amp ph).rd .CH_BLV_BASE n = (amp % 65536 + 65536 * (ph % 4096)) % 2 ^ 32 := by
    rw [Dev.blvAdoptNow, Dev.blvShow, Dev.rd_wr_same, Dev.wr_ch, Dev.ch_modCh_same, Nat.mul_div_cancel _ blvUnit_pos,
      Nat.mul_div_cancel _ blvUnit_pos]
  obtain ⟨hamp, hph⟩ := bits_packed ha hp
  exact ⟨(congrArg (bits · 0 16) hrd).trans hamp, (congrArg (bits · 16 12) hrd).trans hph⟩

/-- A result that is judged against the baseline. -/
theorem Dev.blvJudge_adopts {n : Nat} (amp ph : Nat) (h : (d.ch n).blvBase = false ∨ (d.ch n).blvAdopt = true) :
    d.blvJudge n amp ph = d.blvAdoptNow n amp ph := by
  unfold Dev.blvJudge
  rcases h with h | h <;> simp [h]

/-- The device with a channel's row of excursions counted. -/
def Dev.blvCount (n run : Nat) : Dev := d.modCh n fun c => { c with blvRun := run }

/-- The result that completes a row of excursions is a DETECT (R283). -/
theorem Dev.blvJudge_detects {n amp ph : Nat} (hbase : (d.ch n).blvBase = true) (hadopt : (d.ch n).blvAdopt = false)
    (hdet : bitAt (d.rd .PAV_BLV_STAT (pavOf n)) (n % 32) = false) (hexc : d.blvExcursion n amp ph = true)
    (hrow : d.fld F.PAV_BLV_CTL_CONFIRM (pavOf n) ≤ (d.ch n).blvRun + 1) :
    d.blvJudge n amp ph = (d.blvCount n ((d.ch n).blvRun + 1)).blvDetect n amp ph := by
  unfold Dev.blvJudge
  simp only [hbase, hadopt, hdet, hexc, Bool.not_true, Bool.or_self, Bool.false_eq_true, if_false, if_true]
  exact if_pos hrow

/-- A result that is no excursion moves the baseline (R284). -/
theorem Dev.blvJudge_drifts {n amp ph : Nat} (hbase : (d.ch n).blvBase = true) (hadopt : (d.ch n).blvAdopt = false)
    (hdet : bitAt (d.rd .PAV_BLV_STAT (pavOf n)) (n % 32) = false) (hexc : d.blvExcursion n amp ph = false)
    (hconf : 1 ≤ d.fld F.PAV_BLV_CTL_CONFIRM (pavOf n)) : d.blvJudge n amp ph = (d.blvCount n 0).blvDrift n amp ph := by
  unfold Dev.blvJudge
  simp only [hbase, hadopt, hdet, hexc, Bool.not_true, Bool.or_self, Bool.false_eq_true, if_false]
  exact if_neg (Nat.not_le.2 hconf)

theorem Dev.blvWake_rd (p : Nat) (r : RegName) (i j : Nat) : (d.blvWake p).rd r i j = d.rd r i j := by unfold Dev.blvWake; split <;> rfl
theorem Dev.blvWake_ch (p k : Nat) : (d.blvWake p).ch k = d.ch k := by unfold Dev.blvWake; split <;> rfl

theorem Dev.det_blvDetect (n amp ph : Nat) : bitAt ((d.blvDetect n amp ph).rd .PAV_BLV_STAT (pavOf n)) (n % 32) = true := by
  obtain ⟨c, b, h⟩ := d.blvDetect_eq n amp ph
  rw [h, Dev.blvWake_rd, (told_event _ .detect n b .ok 0x1FF).regs .PAV_BLV_STAT (pavOf n) 0 (by decide)]
  exact Dev.bit_wr_same _ .PAV_BLV_STAT n true

/-- A channel's queue holds the entry of its DETECT, or the map routes it nowhere. -/
def DetectPosted (d : Dev) (n : Nat) : Prop :=
  (∃ x ∈ (d.ch n).outq.held ++ (d.ch n).outq.waiting, x.kind = .detect ∧ x.source = n) ∨ d.route { kind := .detect, source := n } = none

theorem detectPosted_event {n : Nat} (b : List Byte) (hn : n < 192) : DetectPosted (d.event .detect n b) n := by
  have hkept := (told_event d .detect n b .ok 0x1FF).kept
  cases hr : d.route { kind := .detect, source := n } with
  | none => exact .inr ((Dev.route_kept hkept (by decide) (by decide) _).trans hr)
  | some r =>
    obtain ⟨x, hx, his⟩ := d.has_post { status := .ok, kind := .detect, source := n, session := 0x1FF, time := d.stamp, body := b } rfl hr
    rw [Dev.outq, if_pos hn] at hx
    exact .inl ⟨x, hx, his.kind, his.source⟩

theorem detectPosted_blvDetect {n : Nat} (amp ph : Nat) (hn : n < 192) : DetectPosted (d.blvDetect n amp ph) n := by
  obtain ⟨c, b, h⟩ := d.blvDetect_eq n amp ph
  rw [h]
  have hposted := detectPosted_event (Dev.putDet { d with freeCtr := c } n true) b hn
  unfold DetectPosted at hposted ⊢
  rwa [Dev.blvWake_ch, Dev.route_kept (judged_blvWake _ n _).kept (by decide) (by decide)]

/-- A baseline amplitude moves by the drift limit at most (R284). -/
theorem approach_bound (x : Nat) (target : Int) (lim : Nat) : ((approach x target lim).toNat - (x : Int)).natAbs ≤ lim := by
  unfold approach clampInt
  omega

theorem Dev.ch_blvDrift (n amp ph : Nat) : ∃ a f, (d.blvDrift n amp ph).ch n = { d.ch n with blvAmp := a, blvPh := f, blvAt := d.tc } ∧
    ((a : Int) - (d.ch n).blvAmp).natAbs * (10000 * 13560000) ≤
      (d.ch n).blvAmp * d.fld F.CH_BLV_THR_DRIFT n * (d.tc - (d.ch n).blvAt) := by
  refine ⟨_, _, by rw [Dev.blvDrift, Dev.blvShow, Dev.wr_ch, Dev.ch_modCh_same], ?_⟩
  exact (Nat.mul_le_mul_right _ (approach_bound _ _ _)).trans (Nat.div_mul_le_self _ _)

theorem Dev.rd_blvDrift (n amp ph : Nat) : (d.blvDrift n amp ph).rd .PAV_BLV_STAT (pavOf n) = d.rd .PAV_BLV_STAT (pavOf n) := by
  rw [Dev.blvDrift, Dev.blvShow, Dev.rd_wr_name _ _ _ _ _ _ (by decide)]; rfl

end Sys2Proof.Machine
end

section
/-! PROOFS. Belvedere sweeps, a step as a whole: how what one channel measured, judged and ended comes through the other channels' turns. -/

namespace Sys2Proof.Machine

open Sys2Proof.Safety

variable (d : Dev)

/-! ### Time that passes -/

@[simp] theorem Dev.runTo_ch (t k : Nat) : (d.runTo t).ch k = d.ch k := by rw [d.runTo_eq]; rfl
@[simp] theorem Dev.runTo_rd (t : Nat) (r : RegName) (i j : Nat) : (d.runTo t).rd r i j = d.rd r i j := by rw [d.runTo_eq]; rfl

/-- The device at another time. -/
def Dev.atTime (x : TimeSt) : Dev := { d with time := x }

theorem kept_atTime {L : List RegName} {d e : Dev} (h : Kept L d e) (x : TimeSt) : Kept L (d.atTime x) (e.atTime x) :=
  ⟨rfl, h.syn, h.pwr, h.sess, h.images, h.ledger, h.sec, h.cal, h.ksk, h.flash, h.timers, h.prom, h.host, h.flt, h.regs⟩

/-- The device is kept, but for the time. -/
def KeptTimed (L : List RegName) (d e : Dev) : Prop := Kept L (d.atTime e.time) e

namespace KeptTimed

variable {L M : List RegName} {d e f : Dev}

theorem ofKept (h : Kept L d e) : KeptTimed L d e := by
  have hat : d.atTime e.time = d := by rw [h.time]; rfl
  rw [KeptTimed, hat]; exact h

theorem trans (a : KeptTimed L d e) (b : KeptTimed L e f) : KeptTimed L d f := (kept_atTime a f.time).trans b

theorem runTo (L : List RegName) (d : Dev) (t : Nat) : KeptTimed L d (d.runTo t) := by
  have h : d.atTime (d.runTo t).time = d.runTo t := (d.runTo_eq t).symm
  rw [KeptTimed, h]; exact .refl L _

theorem fld (a : KeptTimed L d e) (x : Fld) (i j : Nat) (h : x.reg ∉ L) : e.fld x i j = d.fld x i j := Kept.fld a x i j h

end KeptTimed

/-! ### The ends of a step's fields (R279) -/

/-- The registers that a step of a sweep may change beside those of posting. -/
def sweepRegs : List RegName := [.CH_BLV_MEAS, .CH_BLV_BASE, .PAV_BLV_STAT, .PAV_BLV_SKIP, .CH_PWR_MEAS, .CH_TUNE]

/-- The registers that a step of a sweep may change. -/
def probeRegs : List RegName := postRegs ++ sweepRegs

theorem mem_probeRegs_of_judge (r : RegName) (h : r ∈ judgeRegs) : r ∈ probeRegs := by
  have hjudge : ∀ r ∈ [RegName.CH_BLV_BASE, .PAV_BLV_STAT], r ∈ sweepRegs := by decide
  rcases List.mem_append.1 h with h | h
  · exact List.mem_append_left _ h
  · exact List.mem_append_right _ (hjudge r h)

theorem mem_probeRegs_of_rise (r : RegName) (h : r ∈ riseRegs) : r ∈ probeRegs := by
  have hrise : ∀ r ∈ riseRegs, r ∈ sweepRegs := by decide
  exact List.mem_append_right _ (hrise r h)

theorem Dev.ch_tuneNow_other {n k : Nat} (h : k ≠ n) : (d.tuneNow n).ch k = d.ch k := by
  unfold Dev.tuneNow; split
  · rw [Dev.ch_modCh_other _ _ (Ne.symm h), Dev.setOn_ch, Dev.setFld_ch, Dev.setFld_ch]
  · rfl

theorem Dev.ch_tuneNow (n : Nat) : ∃ x, (d.tuneNow n).ch n = { d.ch n with tunePend := x } := by
  unfold Dev.tuneNow; split
  · exact ⟨none, by rw [Dev.ch_modCh_same, Dev.setOn_ch, Dev.setFld_ch, Dev.setFld_ch]⟩
  · exact ⟨_, rfl⟩

theorem kept_coilOff {L : List RegName} (n : Nat) (h : .CH_TUNE ∈ L) : Kept L d (d.coilOff n) := by
  rw [Dev.coilOff, Dev.settleDutyTo]
  exact ((kept_modCh L d n _).trans (kept_modCh L _ n _)).trans (kept_tuneNow _ n h)

theorem Dev.ch_coilOff_other {n k : Nat} (h : k ≠ n) : (d.coilOff n).ch k = d.ch k := by
  rw [Dev.coilOff, Dev.ch_tuneNow_other _ h, Dev.ch_modCh_other _ _ (Ne.symm h), Dev.settleDutyTo, Dev.ch_modCh_other _ _ (Ne.symm h)]

/-- A channel's record after its field has ended at a carrier cycle. -/
structure Ch.EndedAt (c : Ch) (e : Nat) (c' : Ch) : Prop where
  rest : c' = { c with
    fieldOf := none, parking := true, downAt := none, onAt := none, offAt := some e, drive := {},
    past := c'.past, duty := c'.duty, dutyAt := c'.dutyAt, tunePend := c'.tunePend }
  past : c'.past.head? = some (c.onAt.getD e, e)

theorem endedAt_tuneNow {c : Ch} {e n : Nat} (h : c.EndedAt e (d.ch n)) : c.EndedAt e ((d.tuneNow n).ch n) := by
  obtain ⟨x, hx⟩ := d.ch_tuneNow n
  rw [hx]
  exact ⟨congrArg (fun y : Ch => { y with tunePend := x }) h.rest, h.past⟩

theorem endedAt_coilOff (n : Nat) : (d.ch n).EndedAt ((d.ch n).downAt.getD d.tc) ((d.coilOff n).ch n) := by
  refine endedAt_tuneNow _ ?_
  rw [Dev.ch_modCh_same, Dev.settleDutyTo, Dev.ch_modCh_same]
  exact ⟨rfl, rfl⟩

/-! ### What the other channels of a step leave of one -/

/-- Of one channel, its record and its part of the registers of a sweep stand; beside, only registers of a sweep change. -/
structure Spares (n : Nat) (d e : Dev) : Prop where
  kept : Kept probeRegs d e
  ch   : e.ch n = d.ch n
  meas : e.rd .CH_BLV_MEAS n = d.rd .CH_BLV_MEAS n
  base : e.rd .CH_BLV_BASE n = d.rd .CH_BLV_BASE n
  det  : bitAt (e.rd .PAV_BLV_STAT (pavOf n)) (n % 32) = bitAt (d.rd .PAV_BLV_STAT (pavOf n)) (n % 32)
  skip : bitAt (e.rd .PAV_BLV_SKIP (pavOf n)) (n % 32) = bitAt (d.rd .PAV_BLV_SKIP (pavOf n)) (n % 32)

namespace Spares

variable {d} {n m : Nat} {e f : Dev}

theorem refl (n : Nat) (d : Dev) : Spares n d d := ⟨.refl _ d, rfl, rfl, rfl, rfl, rfl⟩

theorem trans (a : Spares n d e) (b : Spares n e f) : Spares n d f :=
  ⟨a.kept.trans b.kept, b.ch.trans a.ch, b.meas.trans a.meas, b.base.trans a.base, b.det.trans a.det, b.skip.trans a.skip⟩

/-- Changes beside the registers of a sweep. -/
theorem ofKept {L : List RegName} (h : Kept L d e) (hch : e.ch n = d.ch n) (hL : ∀ r ∈ L, r ∈ probeRegs)
    (hnone : ∀ r ∈ [RegName.CH_BLV_MEAS, .CH_BLV_BASE, .PAV_BLV_STAT, .PAV_BLV_SKIP], r ∉ L) : Spares n d e where
  kept := h.mono hL
  ch := hch
  meas := h.regs _ _ _ (hnone _ (by decide))
  base := h.regs _ _ _ (hnone _ (by decide))
  det := by rw [h.regs _ _ _ (hnone _ (by decide))]
  skip := by rw [h.regs _ _ _ (hnone _ (by decide))]

theorem ofRising {p : Nat} {l : List Nat} (a : Rising p l d e) (hn : n < 192) (h : n ∉ l) : Spares n d e where
  kept := a.kept.mono mem_probeRegs_of_rise
  ch := a.ch n h
  meas := a.kept.regs _ _ _ (by decide)
  base := a.kept.regs _ _ _ (by decide)
  det := by rw [a.kept.regs _ _ _ (by decide)]
  skip := a.skip n h hn

theorem ofJudged (a : Judged m d e) (hm : m < 192) (hn : n < 192) (h : n ≠ m) : Spares n d e where
  kept := a.kept.mono mem_probeRegs_of_judge
  ch := a.ch n h
  meas := a.kept.regs _ _ _ (by decide)
  base := a.base n h hm hn
  det := a.det n h hm hn
  skip := by rw [a.kept.regs _ _ _ (by decide)]

theorem wrMeas (d : Dev) (v : Nat) (hm : m < 192) (hn : n < 192) (h : n ≠ m) : Spares n d (d.wr .CH_BLV_MEAS m 0 v) where
  kept := kept_wr _ d _ _ _ _ (by decide)
  ch := rfl
  meas := d.rd_wr_other _ (regKey_ne_inst _ 0 0 (by omega) (by omega) (Ne.symm h))
  base := d.rd_wr_name _ _ _ _ _ (by decide)
  det := by rw [d.rd_wr_name _ _ _ _ _ (by decide)]
  skip := by rw [d.rd_wr_name _ _ _ _ _ (by decide)]

end Spares

/-! ### One channel's fall and its field's end -/

/-- A channel's ramp-down starts. -/
def Dev.blvLower (n t : Nat) (o : Output) : Dev := (d.modCh n fun c => { c with downAt := some t }).emit o

/-- The fall of a probe: its measurement is recorded and judged, and its ramp-down starts. -/
theorem Dev.blvFall_eq (n : Nat) (m : Nat × Nat) : d.blvFall n m = (((d.wr .CH_BLV_MEAS n 0
    (m.1 % 65536 % 65536 + 65536 * (m.2 % 4096 % 4096))).blvJudge n (m.1 % 65536) (m.2 % 4096)).blvLower n (d.tc + 16)
      (.ramp n false .normal (d.on F.CH_RAMP_SHAPE n) 16)) := by
  rw [Dev.blvFall, Dev.blvResult_eq, Dev.blvLower]

theorem spares_blvFall {n k : Nat} (m : Nat × Nat) (hn : n < 192) (hk : k < 192) (h : k ≠ n) : Spares k d (d.blvFall n m) := by
  rw [d.blvFall_eq]
  exact (((Spares.wrMeas d _ hn hk h).trans (.ofJudged (judged_blvJudge _ n _ _) hn hk h)).trans
    (.ofJudged (.modCh _ n _) hn hk h)).trans (.ofKept (kept_emit [] _ _) rfl (by decide) (by decide))

theorem Dev.ch_blvFall_other {n k : Nat} (m : Nat × Nat) (h : k ≠ n) : (d.blvFall n m).ch k = d.ch k := by
  rw [d.blvFall_eq, Dev.blvLower, Dev.emit_ch, Dev.ch_modCh_other _ _ (Ne.symm h), (judged_blvJudge _ n _ _).ch k h]; rfl

theorem kept_blvFall (n : Nat) (m : Nat × Nat) : Kept probeRegs d (d.blvFall n m) := by
  rw [d.blvFall_eq]
  exact (((kept_wr _ d .CH_BLV_MEAS _ _ _ (by decide)).trans ((judged_blvJudge _ n _ _).kept.mono mem_probeRegs_of_judge)).trans
    (kept_modCh _ _ n _)).trans (kept_emit _ _ _)

theorem kept_blvDown {L : List RegName} (n : Nat) (h : .CH_TUNE ∈ L) : Kept L d (d.blvDown n) := by
  rw [Dev.blvDown]
  exact (kept_coilOff d n h).trans (kept_unreserve _ _ n _)

theorem Dev.ch_blvDown (n k : Nat) : (d.blvDown n).ch k = (d.coilOff n).ch k := by rw [Dev.blvDown, Dev.unreserve, Dev.modPav_ch]

theorem spares_blvDown {n k : Nat} (h : k ≠ n) : Spares k d (d.blvDown n) :=
  .ofKept (kept_blvDown (L := [.CH_TUNE]) d n (by decide)) ((d.ch_blvDown n k).trans (d.ch_coilOff_other h)) (by decide) (by decide)

/-! ### The channels of a step, in order -/

section Order

variable {X : Type} {f : Dev → Nat × X → Dev}

theorem Dev.ch_each_other {k : Nat} (hf : ∀ d m, k ≠ m.1 → (f d m).ch k = d.ch k) (l : List (Nat × X)) (h : k ∉ l.map (·.1)) :
    (d.each l f).ch k = d.ch k := by
  induction l generalizing d with
  | nil => rfl
  | cons m l ih =>
    obtain ⟨hm, hl⟩ := not_or.1 (mt List.mem_cons.2 h)
    exact (ih _ hl).trans (hf d m hm)

theorem spares_each {k : Nat} (hf : ∀ d m, m.1 < 192 → k ≠ m.1 → Spares k d (f d m)) (l : List (Nat × X)) (hl : ∀ m ∈ l, m.1 < 192)
    (h : k ∉ l.map (·.1)) : Spares k d (d.each l f) := by
  induction l generalizing d with
  | nil => exact .refl k d
  | cons m l ih =>
    obtain ⟨hm, hk⟩ := not_or.1 (mt List.mem_cons.2 h)
    exact (hf d m (hl m List.mem_cons_self) hm).trans (ih _ (fun x hx => hl x (List.mem_cons_of_mem m hx)) hk)

/-- Where each channel has one turn, what its turn meets is as it was, and what it leaves stays. -/
theorem spares_each_turn {x : Nat × X} (hf : ∀ d m, m.1 < 192 → x.1 ≠ m.1 → Spares x.1 d (f d m)) {l : List (Nat × X)}
    (hl : ∀ m ∈ l, m.1 < 192) (hnd : (l.map (·.1)).Nodup) (hx : x ∈ l) : ∃ e, Spares x.1 d e ∧ Spares x.1 (f e x) (d.each l f) := by
  obtain ⟨a, b, rfl⟩ := List.append_of_mem hx
  rw [List.map_append, List.map_cons, List.nodup_append] at hnd
  obtain ⟨-, hb, hab⟩ := hnd
  refine ⟨d.each a f, spares_each d hf a (fun m hm => hl m (List.mem_append_left _ hm)) fun h => ?_, ?_⟩
  · exact hab _ h _ List.mem_cons_self rfl
  · have heach : d.each (a ++ x :: b) f = (f (d.each a f) x).each b f := by rw [Dev.each, List.foldl_append, List.foldl_cons]; rfl
    rw [heach]
    exact spares_each _ hf b (fun m hm => hl m (List.mem_append_right _ (List.mem_cons_of_mem x hm))) (List.nodup_cons.1 hb).1

end Order

end Sys2Proof.Machine
end

section
/-! PROOFS. Belvedere sweeps: a step's probes from their starts to the ends of their fields, and the commands of a sweep. -/

namespace Sys2Proof.Machine

open Sys2Proof.Safety

variable (d : Dev)

/-! ### A step's probes -/

/-- The results of a step's probes, from one instant on. -/
def Dev.fell (t : Nat) (l : List (Nat × Nat × Nat)) : Dev := (d.runTo t).each l fun d m => d.blvFall m.1 m.2

/-- The ends of a step's fields, from one instant on. -/
def Dev.downed (t : Nat) (l : List (Nat × Nat × Nat)) : Dev := (d.runTo t).each l fun d m => d.blvDown m.1

theorem Dev.blvProbe_eq (l : List (Nat × Nat × Nat)) :
    d.blvProbe l = ((d.rose l).fell (d.tc + 65) (d.risen l)).downed (d.tc + 81) (d.risen l) := by
  unfold Dev.blvProbe
  rw [rises_eq, List.nil_append]
  rfl

/-- The channels of a step: each once, all of one pavilion. -/
structure Taps (p : Nat) (l : List (Nat × Nat × Nat)) : Prop where
  nodup : (l.map (·.1)).Nodup
  lt    : ∀ m ∈ l, m.1 < 192
  pav   : ∀ m ∈ l, pavOf m.1 = p

section Turn

variable {d} {p : Nat} {l : List (Nat × Nat × Nat)} {x : Nat × Nat × Nat}

theorem Taps.risen (h : Taps p l) : Taps p (d.risen l) where
  nodup := ((d.risen_sublist l).map _).nodup h.nodup
  lt m hm := h.lt m ((d.risen_sublist l).subset hm)
  pav m hm := h.pav m ((d.risen_sublist l).subset hm)

/-- A channel's turn among the starts: what its permissions read is as it was, but for what those before it reserve. -/
structure Turn (p : Nat) (l : List (Nat × Nat × Nat)) (x : Nat × Nat × Nat) (d e : Dev) : Prop where
  before  : ∃ a, Rising p a d e ∧ x.1 ∉ a ∧ (a.map d.blvEnergy).sum + d.blvEnergy x.1 ≤ ((l.map (·.1)).map d.blvEnergy).sum
  after   : Spares x.1 (e.blvRise x.1).2 (d.rose l)
  runs    : (e.blvRise x.1).1 = true → x ∈ d.risen l
  runsNot : (e.blvRise x.1).1 = false → x.1 ∉ (d.risen l).map (·.1)

theorem Taps.turn (h : Taps p l) (hx : x ∈ l) : ∃ e, Turn p l x d e := by
  obtain ⟨a, b, rfl⟩ := List.append_of_mem hx
  have hnd := h.nodup
  rw [List.map_append, List.map_cons, List.nodup_append] at hnd
  obtain ⟨-, hb, hab⟩ := hnd
  have hxa : x.1 ∉ a.map (·.1) := fun hm => hab _ hm _ List.mem_cons_self rfl
  have hxb : x.1 ∉ b.map (·.1) := (List.nodup_cons.1 hb).1
  have hmem (m : Nat × Nat × Nat) (hm : m ∈ a ∨ m ∈ x :: b) : m.1 < 192 ∧ pavOf m.1 = p :=
    ⟨h.lt m (List.mem_append.2 hm), h.pav m (List.mem_append.2 hm)⟩
  have hbefore := rising_rose (p := p) d a fun m hm => hmem m (.inl hm)
  have hafter := rising_rose (p := p) ((d.rose a).blvRise x.1).2 b fun m hm => hmem m (.inr (List.mem_cons_of_mem x hm))
  have hrose : d.rose (a ++ x :: b) = ((d.rose a).blvRise x.1).2.rose b := by rw [Dev.rose_append]; rfl
  have hrisen : d.risen (a ++ x :: b) =
      d.risen a ++ ((if ((d.rose a).blvRise x.1).1 then [x] else []) ++ ((d.rose a).blvRise x.1).2.risen b) := by
    rw [Dev.risen_append]; rfl
  refine ⟨d.rose a, ⟨_, hbefore, hxa, ?_⟩, ?_, fun hr => ?_, fun hr => ?_⟩
  · simp only [List.map_append, List.map_cons, List.sum_append, List.sum_cons]
    omega
  · rw [hrose]; exact .ofRising hafter (h.lt x hx) hxb
  · rw [hrisen, hr]; simp
  · rw [hrisen, hr]
    intro hm
    rw [List.map_append, List.mem_append] at hm
    rcases hm with hm | hm
    · exact hxa (((d.risen_sublist a).map _).subset hm)
    · exact hxb ((((d.rose a).blvRise x.1).2.risen_sublist b |>.map _).subset hm)

/-- A channel that is not probed starts no field, and its row of excursions is broken (R281, R283). -/
theorem rose_none (h : Taps p l) (hx : x ∈ l) (hprobes : d.blvProbes x.1 = false) :
    (d.rose l).ch x.1 = { d.ch x.1 with blvRun := 0 } ∧ x.1 ∉ (d.risen l).map (·.1) := by
  obtain ⟨e, ⟨a, hbefore, hxa, -⟩, hafter, -, hnot⟩ := h.turn (d := d) hx
  have hrise := e.blvRise_none ((hbefore.blvProbes hxa).trans hprobes)
  rw [hrise] at hafter hnot
  refine ⟨?_, hnot rfl⟩
  rw [hafter.ch, Dev.blvNone, Dev.ch_modCh_same, hbefore.ch _ hxa]

/-- Without a permission it is skipped, which its bit shows (R281). -/
theorem rose_skip (h : Taps p l) (hx : x ∈ l) (hprobes : d.blvProbes x.1 = true) (hmay : d.blvMay x.1 = false) :
    (d.rose l).ch x.1 = { d.ch x.1 with blvRun := 0 } ∧ x.1 ∉ (d.risen l).map (·.1) ∧
    bitAt ((d.rose l).rd .PAV_BLV_SKIP (pavOf x.1)) (x.1 % 32) = true := by
  obtain ⟨e, ⟨a, hbefore, hxa, -⟩, hafter, -, hnot⟩ := h.turn (d := d) hx
  have hmay' : e.blvMay x.1 = false := by
    have hpav := h.pav x hx
    have hlow := hbefore.low
    rw [Dev.blvMay_eq, Bool.and_eq_false_iff] at hmay ⊢
    refine hmay.imp (hbefore.blvAble hxa).trans fun hbucket => ?_
    rw [Dev.bucketOk, hbefore.tokensNow, hbefore.blvEnergy, hpav]
    rw [Dev.bucketOk, hpav] at hbucket
    rw [decide_eq_false_iff_not] at hbucket ⊢
    omega
  have hrise := e.blvRise_skip ((hbefore.blvProbes hxa).trans hprobes) hmay'
  rw [hrise] at hafter hnot
  refine ⟨?_, hnot rfl, ?_⟩
  · rw [hafter.ch, Dev.blvSkip, Dev.blvNone, Dev.ch_modCh_same, Dev.wr_ch, hbefore.ch _ hxa]
  · rw [hafter.skip]
    exact e.bit_wr_same .PAV_BLV_SKIP x.1 true

/-- With every permission, and room in the bucket for every probe of the step, its field starts (R279, R356). -/
theorem rose_up (h : Taps p l) (hx : x ∈ l) (hprobes : d.blvProbes x.1 = true) (hmay : d.blvMay x.1 = true)
    (hroom : (((d.pav p).rsv + ((l.map (·.1)).map d.blvEnergy).sum : Nat) : Int) ≤ d.tokensNow p) :
    (d.rose l).ch x.1 = (d.ch x.1).raised x.1 d.tc ∧ x ∈ d.risen l := by
  obtain ⟨e, ⟨a, hbefore, hxa, hsum⟩, hafter, hruns, -⟩ := h.turn (d := d) hx
  have hmay' : e.blvMay x.1 = true := by
    have hhigh := hbefore.high
    rw [Dev.blvMay_eq, Bool.and_eq_true] at hmay ⊢
    refine ⟨(hbefore.blvAble hxa).trans hmay.1, ?_⟩
    rw [Dev.bucketOk, hbefore.tokensNow, hbefore.blvEnergy, h.pav x hx, decide_eq_true_iff]
    omega
  have hrise := e.blvRise_up ((hbefore.blvProbes hxa).trans hprobes) hmay'
  rw [hrise] at hafter hruns
  refine ⟨?_, hruns rfl⟩
  have htc : e.tc = d.tc := congrArg TimeSt.tc hbefore.kept.time
  rw [hafter.ch, Dev.ch_blvUp, hbefore.ch _ hxa, htc]

end Turn

/-! ### What a channel's result leaves, to the end of the step -/

/-- What a channel's result left stands: its baseline, its row, its queue and its part of the registers of a sweep. -/
structure KeepsResult (n : Nat) (d e : Dev) : Prop where
  kept : KeptTimed probeRegs d e
  ch   : e.ch n = { d.ch n with
    fieldOf := (e.ch n).fieldOf, parking := (e.ch n).parking, downAt := (e.ch n).downAt, onAt := (e.ch n).onAt, offAt := (e.ch n).offAt
    drive := (e.ch n).drive, past := (e.ch n).past, duty := (e.ch n).duty, dutyAt := (e.ch n).dutyAt, tunePend := (e.ch n).tunePend }
  meas : e.rd .CH_BLV_MEAS n = d.rd .CH_BLV_MEAS n
  base : e.rd .CH_BLV_BASE n = d.rd .CH_BLV_BASE n
  det  : bitAt (e.rd .PAV_BLV_STAT (pavOf n)) (n % 32) = bitAt (d.rd .PAV_BLV_STAT (pavOf n)) (n % 32)

namespace KeepsResult

variable {d} {n : Nat} {e f : Dev}

theorem trans (a : KeepsResult n d e) (b : KeepsResult n e f) : KeepsResult n d f :=
  ⟨a.kept.trans b.kept, by rw [b.ch, a.ch], b.meas.trans a.meas, b.base.trans a.base, b.det.trans a.det⟩

theorem ofSpares (a : Spares n d e) : KeepsResult n d e := ⟨.ofKept a.kept, by rw [a.ch], a.meas, a.base, a.det⟩

theorem runTo (n : Nat) (d : Dev) (t : Nat) : KeepsResult n d (d.runTo t) :=
  ⟨.runTo _ d t, by rw [Dev.runTo_ch], d.runTo_rd _ _ _ _, d.runTo_rd _ _ _ _, by rw [Dev.runTo_rd]⟩

theorem lower (n : Nat) (d : Dev) (t : Nat) (o : Output) : KeepsResult n d (d.blvLower n t o) := by
  refine ⟨.ofKept ((kept_modCh _ d n _).trans (kept_emit _ _ o)), ?_, rfl, rfl, rfl⟩
  rw [Dev.blvLower, Dev.emit_ch, Dev.ch_modCh_same]

theorem down (n : Nat) (d : Dev) : KeepsResult n d (d.blvDown n) := by
  have hkept := kept_blvDown (L := [.CH_TUNE]) d n (by decide)
  have hch : (d.blvDown n).ch n = _ := (d.ch_blvDown n n).trans (endedAt_coilOff d n).rest
  refine ⟨.ofKept (hkept.mono fun r h => List.mem_append_right _ ?_), ?_, hkept.regs _ _ _ (by decide), hkept.regs _ _ _ (by decide), ?_⟩
  · rw [List.mem_singleton.1 h]; decide
  · rw [hch]
  · rw [hkept.regs _ _ _ (by decide)]

theorem detectPosted (a : KeepsResult n d e) (h : DetectPosted d n) : DetectPosted e n := by
  have houtq : (e.ch n).outq = (d.ch n).outq := by rw [a.ch]
  have hroute : e.route { kind := .detect, source := n } = (d.atTime e.time).route { kind := .detect, source := n } :=
    Dev.route_kept a.kept (by decide) (by decide) _
  rw [DetectPosted, houtq, hroute]
  exact h

end KeepsResult

/-! ### A probe from its start to its field's end -/

/-- The device as a channel's result is judged: its field has stood since the start of the step, and the measurement is shown. -/
structure Measured (d : Dev) (n amp ph : Nat) (e : Dev) : Prop where
  kept : KeptTimed probeRegs d e
  ch   : e.ch n = (d.ch n).raised n d.tc
  meas : e.fld F.CH_BLV_MEAS_AMP n = amp ∧ e.fld F.CH_BLV_MEAS_PH n = ph
  det  : bitAt (e.rd .PAV_BLV_STAT (pavOf n)) (n % 32) = bitAt (d.rd .PAV_BLV_STAT (pavOf n)) (n % 32)
  late : d.pwr.boot = .running → d.carStep ≠ 0 → d.tc + 65 ≤ e.tc

/-- The record of a channel whose probe's field has ended. -/
structure Ch.Probed (c : Ch) (start stop : Nat) : Prop where
  offAt   : c.offAt = some stop
  past    : c.past.head? = some (start, stop)
  fieldOf : c.fieldOf = none
  parking : c.parking = true

section Probe

variable {d} {p n amp ph : Nat} {l : List (Nat × Nat × Nat)}

theorem rising_taps (h : Taps p l) : Rising p (l.map (·.1)) d (d.rose l) := rising_rose d l fun m hm => ⟨h.lt m hm, h.pav m hm⟩

/-- A channel whose probe does not run is left by the results and the ends of the others. -/
theorem ends_leave {k : Nat} (t u : Nat) (h : Taps p l) (hlt : k < 192) (hk : k ∉ l.map (·.1)) :
    ((d.fell t l).downed u l).ch k = d.ch k ∧
    bitAt (((d.fell t l).downed u l).rd .PAV_BLV_SKIP (pavOf k)) (k % 32) = bitAt (d.rd .PAV_BLV_SKIP (pavOf k)) (k % 32) := by
  have hfell : Spares k (d.runTo t) (d.fell t l) := spares_each _ (fun d m hm hne => spares_blvFall d m.2 hm hlt hne) l h.lt hk
  have hdown : Spares k ((d.fell t l).runTo u) ((d.fell t l).downed u l) := spares_each _ (fun d m _ hne => spares_blvDown d hne) l h.lt hk
  constructor
  · rw [hdown.ch, Dev.runTo_ch, hfell.ch, Dev.runTo_ch]
  · rw [hdown.skip, Dev.runTo_rd, hfell.skip, Dev.runTo_rd]

theorem carStep_rose (h : Taps p l) : (d.rose l).carStep = d.carStep := by
  unfold Dev.carStep
  rw [(rising_taps (d := d) h).kept.syn]

/-- 65 cycles pass from the start of a step to its falls, while the carrier runs. -/
theorem tc_falls (h : Taps p l) (hboot : d.pwr.boot = .running) (hcar : d.carStep ≠ 0) : d.tc + 65 ≤ ((d.rose l).runTo (d.tc + 65)).tc := by
  have hpwr := (rising_taps (d := d) h).kept.pwr
  exact Dev.le_runTo _ _ (.inr (by rw [hpwr]; exact hboot)) (by rwa [carStep_rose h])

theorem Dev.shows_wrMeas (e : Dev) (n : Nat) (ha : amp < 65536) (hp : ph < 4096) :
    (e.wr .CH_BLV_MEAS n 0 (amp % 65536 + 65536 * (ph % 4096))).fld F.CH_BLV_MEAS_AMP n = amp ∧
    (e.wr .CH_BLV_MEAS n 0 (amp % 65536 + 65536 * (ph % 4096))).fld F.CH_BLV_MEAS_PH n = ph := by
  obtain ⟨hamp, hph⟩ := bits_packed ha hp
  have hrd := e.rd_wr_same .CH_BLV_MEAS n 0 (amp % 65536 + 65536 * (ph % 4096))
  exact ⟨(congrArg (bits · 0 16) hrd).trans hamp, (congrArg (bits · 16 12) hrd).trans hph⟩

/-- What the falls find of a channel whose probe runs. -/
theorem measured_fall (h : Taps p l) {e : Dev} (hbefore : Spares n ((d.rose l).runTo (d.tc + 65)) e)
    (hup : (d.rose l).ch n = (d.ch n).raised n d.tc) (ha : amp < 65536) (hp : ph < 4096) :
    Measured d n amp ph (e.wr .CH_BLV_MEAS n 0 (amp % 65536 + 65536 * (ph % 4096))) where
  kept := (((KeptTimed.ofKept ((rising_taps h).kept.mono mem_probeRegs_of_rise)).trans (.runTo _ _ _)).trans (.ofKept hbefore.kept)).trans
    (.ofKept (kept_wr _ _ _ _ _ _ (by decide)))
  ch := by rw [Dev.wr_ch, hbefore.ch, Dev.runTo_ch, hup]
  meas := e.shows_wrMeas n ha hp
  det := by rw [Dev.rd_wr_name _ _ _ _ _ _ (by decide), hbefore.det, Dev.runTo_rd, (rising_taps h).kept.regs _ _ _ (by decide)]
  late hboot hcar := (tc_falls h hboot hcar).trans (ge_of_eq (congrArg TimeSt.tc hbefore.kept.time))

theorem probed_of_ended {c c' : Ch} {start stop e : Nat} (h : c.EndedAt e c') (hon : c.onAt = some start) (hstop : e = stop) :
    c'.Probed start stop where
  offAt := by rw [h.rest, hstop]
  past := by rw [h.past, hon, hstop]; rfl
  fieldOf := by rw [h.rest]
  parking := by rw [h.rest]

/-- A probe that runs is measured, judged, and its field ends, whatever the other channels of the step do. -/
theorem probed_blvProbe (h : Taps p l) (hrun : (n, amp, ph) ∈ d.risen l) (hup : (d.rose l).ch n = (d.ch n).raised n d.tc)
    (ha : amp < 65536) (hp : ph < 4096) :
    ∃ e, Measured d n amp ph e ∧ KeepsResult n (e.blvJudge n amp ph) (d.blvProbe l) ∧
      ((d.blvProbe l).ch n).Probed d.tc (e.tc + 16) := by
  have hn : n < 192 := h.risen.lt _ hrun
  obtain ⟨e, hbefore, hafter⟩ := spares_each_turn ((d.rose l).runTo (d.tc + 65)) (x := (n, amp, ph)) (f := fun d m => d.blvFall m.1 m.2)
    (fun d m hm hne => spares_blvFall d m.2 hm hn hne) h.risen.lt h.risen.nodup hrun
  obtain ⟨g, hbefore', hafter'⟩ := spares_each_turn (((d.rose l).fell (d.tc + 65) (d.risen l)).runTo (d.tc + 81)) (x := (n, amp, ph))
    (f := fun d m => d.blvDown m.1) (fun d m _ hne => spares_blvDown d hne) h.risen.lt h.risen.nodup hrun
  dsimp only at hbefore hafter hbefore' hafter'
  have hmeasured := measured_fall h hbefore hup ha hp
  have hfall := e.blvFall_eq n (amp, ph)
  dsimp only at hfall
  rw [Nat.mod_eq_of_lt ha, Nat.mod_eq_of_lt hp] at hfall
  rw [hfall] at hafter
  rw [d.blvProbe_eq]
  refine ⟨_, hmeasured, ?_, ?_⟩
  · exact (((KeepsResult.lower n _ _ _).trans (.ofSpares hafter)).trans ((KeepsResult.runTo n _ _).trans (.ofSpares hbefore'))).trans
      ((KeepsResult.down n g).trans (.ofSpares hafter'))
  · have hg : g.ch n = { (((e.wr .CH_BLV_MEAS n 0 (amp % 65536 + 65536 * (ph % 4096))).blvJudge n amp ph).ch n) with
        downAt := some (e.tc + 16) } := by
      rw [hbefore'.ch, Dev.runTo_ch]
      refine hafter.ch.trans ?_
      rw [Dev.blvLower, Dev.emit_ch, Dev.ch_modCh_same]
    have hon : (g.ch n).onAt = some d.tc := by
      rw [hg]
      exact (judged_blvJudge _ n amp ph).onAt.trans (congrArg Ch.onAt hmeasured.ch)
    have hend := endedAt_coilOff g n
    rw [← Dev.ch_blvDown, ← hafter'.ch] at hend
    exact probed_of_ended hend hon (by rw [hg]; rfl)

end Probe

end Sys2Proof.Machine
namespace Sys2Proof.Machine

open Sys2Proof.Safety

section Result

variable {d e t : Dev} {n amp ph : Nat}

theorem Dev.det_fld (d : Dev) (p k : Nat) : bitAt (d.fld F.PAV_BLV_STAT_DET p) k = bitAt (d.rd .PAV_BLV_STAT p) k :=
  congrArg (bitAt · k) (d.fld_whole F.PAV_BLV_STAT_DET p 0 rfl rfl)

theorem Dev.skip_fld (d : Dev) (p k : Nat) : bitAt (d.fld F.PAV_BLV_SKIP_SKIP p) k = bitAt (d.rd .PAV_BLV_SKIP p) k :=
  congrArg (bitAt · k) (d.fld_whole F.PAV_BLV_SKIP_SKIP p 0 rfl rfl)

/-- What was measured is shown to the end of the step (R283). -/
theorem Measured.shown (m : Measured d n amp ph e) (k : KeepsResult n (e.blvJudge n amp ph) t) :
    t.fld F.CH_BLV_MEAS_AMP n = amp ∧ t.fld F.CH_BLV_MEAS_PH n = ph := by
  have hrd : t.rd .CH_BLV_MEAS n = e.rd .CH_BLV_MEAS n := k.meas.trans ((judged_blvJudge e n amp ph).kept.regs _ _ _ (by decide))
  exact ⟨(congrArg (bits · 0 16) hrd).trans m.meas.1, (congrArg (bits · 16 12) hrd).trans m.meas.2⟩

/-- A result without a baseline, or with one asked for, becomes the baseline (R285). -/
theorem Measured.adopted (m : Measured d n amp ph e) (k : KeepsResult n (e.blvJudge n amp ph) t) (ha : amp < 65536) (hp : ph < 4096)
    (h : (d.ch n).blvBase = false ∨ (d.ch n).blvAdopt = true) :
    (t.ch n).blvBase = true ∧ (t.ch n).blvAdopt = false ∧ (t.ch n).blvAmp = amp * blvUnit ∧ (t.ch n).blvPh = ph * blvUnit ∧
    bitAt (t.rd .PAV_BLV_STAT (pavOf n)) (n % 32) = false ∧ t.fld F.CH_BLV_BASE_AMP n = amp ∧ t.fld F.CH_BLV_BASE_PH n = ph := by
  rw [e.blvJudge_adopts amp ph (by rw [m.ch]; exact h)] at k
  obtain ⟨hamp, hph⟩ := e.base_blvAdoptNow n ha hp
  have hch := k.ch
  rw [Dev.ch_blvAdoptNow] at hch
  exact ⟨by rw [hch]; rfl, by rw [hch]; rfl, by rw [hch]; rfl, by rw [hch]; rfl, k.det.trans (e.det_blvAdoptNow n amp ph),
    (congrArg (bits · 0 16) k.base).trans hamp, (congrArg (bits · 16 12) k.base).trans hph⟩

/-- Whether a result is an excursion is as it was at the start of the step: neither the baseline nor its limits change till then. -/
theorem Measured.excursion (m : Measured d n amp ph e) : e.blvExcursion n amp ph = d.blvExcursion n amp ph := by
  have hamp : (e.ch n).blvAmp = (d.ch n).blvAmp := by rw [m.ch]; rfl
  have hph : (e.ch n).blvPh = (d.ch n).blvPh := by rw [m.ch]; rfl
  unfold Dev.blvExcursion
  dsimp only
  rw [hamp, hph, m.kept.fld F.CH_BLV_THR_AMP n 0 (by decide), m.kept.fld F.CH_BLV_THR_PH n 0 (by decide)]

/-- The result that completes the row of excursions is a DETECT (R283). -/
theorem Measured.detects (m : Measured d n amp ph e) (k : KeepsResult n (e.blvJudge n amp ph) t) (hn : n < 192)
    (hbase : (d.ch n).blvBase = true) (hadopt : (d.ch n).blvAdopt = false) (hdet : bitAt (d.rd .PAV_BLV_STAT (pavOf n)) (n % 32) = false)
    (hexc : d.blvExcursion n amp ph = true) (hrow : d.fld F.PAV_BLV_CTL_CONFIRM (pavOf n) ≤ (d.ch n).blvRun + 1) :
    bitAt (t.rd .PAV_BLV_STAT (pavOf n)) (n % 32) = true ∧ DetectPosted t n := by
  rw [e.blvJudge_detects (by rw [m.ch]; exact hbase) (by rw [m.ch]; exact hadopt) (m.det.trans hdet) (m.excursion.trans hexc)
    (by rw [m.ch, m.kept.fld _ _ _ (by decide)]; exact hrow)] at k
  exact ⟨k.det.trans (Dev.det_blvDetect _ n amp ph), k.detectPosted (detectPosted_blvDetect _ amp ph hn)⟩

/-- A result that shows none breaks the row and moves the baseline by the drift limit at most (R284). -/
theorem Measured.drifts (m : Measured d n amp ph e) (k : KeepsResult n (e.blvJudge n amp ph) t)
    (hbase : (d.ch n).blvBase = true) (hadopt : (d.ch n).blvAdopt = false) (hdet : bitAt (d.rd .PAV_BLV_STAT (pavOf n)) (n % 32) = false)
    (hexc : d.blvExcursion n amp ph = false) (hconf : 1 ≤ d.fld F.PAV_BLV_CTL_CONFIRM (pavOf n)) :
    (t.ch n).blvRun = 0 ∧ bitAt (t.rd .PAV_BLV_STAT (pavOf n)) (n % 32) = false ∧
    (((t.ch n).blvAmp : Int) - (d.ch n).blvAmp).natAbs * (10000 * 13560000) ≤
      (d.ch n).blvAmp * d.fld F.CH_BLV_THR_DRIFT n * ((t.ch n).blvAt - (d.ch n).blvAt) := by
  rw [e.blvJudge_drifts (by rw [m.ch]; exact hbase) (by rw [m.ch]; exact hadopt) (m.det.trans hdet) (m.excursion.trans hexc)
    (by rw [m.kept.fld _ _ _ (by decide)]; exact hconf)] at k
  obtain ⟨a, f, hdrift, hbound⟩ := (e.blvCount n 0).ch_blvDrift n amp ph
  have hcount : (e.blvCount n 0).ch n = { e.ch n with blvRun := 0 } := e.ch_modCh_same n _
  have hch := k.ch
  rw [hdrift, hcount, m.ch] at hch
  rw [hcount, m.ch] at hbound
  have hlim : (e.blvCount n 0).fld F.CH_BLV_THR_DRIFT n = d.fld F.CH_BLV_THR_DRIFT n := m.kept.fld F.CH_BLV_THR_DRIFT n 0 (by decide)
  rw [hlim] at hbound
  refine ⟨by rw [hch], ?_, ?_⟩
  · rw [k.det, Dev.rd_blvDrift]
    exact m.det.trans hdet
  · rw [hch]
    exact hbound

end Result

end Sys2Proof.Machine

namespace Sys2Proof.Proofs

open Sys2Proof.Machine Sys2Proof.Safety

/-! ### BLV_SWEEP_START (R280) -/

/-- The device with a sweep of a pavilion begun. -/
def sweepBegun (d : Dev) (p : Nat) : Dev :=
  (d.modPav p fun x => { x with sweep := some { step := 0, t0 := d.tc }, sweptAt := some d.tc }).syncReq p

theorem exec_blvSweepStart (pav : Fin 6) (s : State) (hmay : s.dev.maySweep pav = true) (hnone : (s.dev.pav pav).sweep = none)
    (hdue : ∀ a, (s.dev.pav pav).sweptAt = some a → a + s.dev.fld F.PAV_BLV_CTL_PERIOD pav * tcMs ≤ s.dev.tc) :
    exec (.blvSweepStart pav) s = .next { s with dev := sweepBegun s.dev pav } := by
  change execBlvSweepStart pav s = _
  rw [execBlvSweepStart, onDev]
  simp only [hmay, hnone, Option.isNone_none, Bool.and_self, if_true]
  cases hswept : (s.dev.pav pav).sweptAt with
  | none => rfl
  | some a => dsimp only; rw [s.dev.runTo_past _ (hdue a hswept)]; rfl

theorem does_blvSweepStart (pav : Fin 6) (s : State) (hmay : s.dev.maySweep pav = true) (hnone : (s.dev.pav pav).sweep = none)
    (hdue : ∀ a, (s.dev.pav pav).sweptAt = some a → a + s.dev.fld F.PAV_BLV_CTL_PERIOD pav * tcMs ≤ s.dev.tc) :
    Does (.blvSweepStart pav) s fun t =>
      (t.dev.pav pav).sweep = some { step := 0, t0 := s.dev.tc } ∧ (t.dev.pav pav).sweptAt = some s.dev.tc ∧ (t.dev.pav pav).req = true ∧
      t.dev.chans = s.dev.chans ∧ Works [] s t := by
  refine ⟨_, exec_blvSweepStart pav s hmay hnone hdue, ?_⟩
  have hpav : (sweepBegun s.dev pav).pav pav = { s.dev.pav pav with
      sweep := some { step := 0, t0 := s.dev.tc }, sweptAt := some s.dev.tc
      req := ((sweepBegun s.dev pav).pav pav).req, reqAt := ((sweepBegun s.dev pav).pav pav).reqAt } := by
    rw [sweepBegun, Dev.syncReq, Dev.pav_modPav_same, Dev.pav_modPav_same]
  have hreq : ((sweepBegun s.dev pav).pav pav).req = true := by
    rw [sweepBegun, Dev.syncReq, Dev.pav_modPav_same]
    change Dev.reqHeld _ _ = true
    rw [Dev.reqHeld, Dev.pav_modPav_same]; rfl
  exact ⟨by dsimp only; rw [hpav], by dsimp only; rw [hpav], hreq, rfl, rfl, rfl, (kept_modPav _ _ _ _).trans (kept_syncReq _ _ _)⟩

theorem idle_blvSweepStart (pav : Fin 6) (s : State) (h : s.dev.maySweep pav = false ∨ (s.dev.pav pav).sweep.isSome) :
    Idle (.blvSweepStart pav) s := by
  have hnot : (s.dev.maySweep pav && (s.dev.pav pav).sweep.isNone) = false := by
    rcases h with h | h
    · rw [h, Bool.false_and]
    · rw [← Option.not_isSome, h, Bool.not_true, Bool.and_false]
  change execBlvSweepStart pav s = _
  rw [execBlvSweepStart, onDev]
  simp only [hnot, Bool.false_eq_true, if_false]

/-! ### BLV_PROBE_STEP (R279 to R285) -/

/-- The device with a step of a sweep done. -/
def sweepStepped (d : Dev) (p : Nat) (w : Sweep) : Dev :=
  (d.modPav p fun x => { x with sweep := if 7 ≤ w.step then none else some { w with step := w.step + 1 } }).syncReq p

theorem exec_blvProbeStep {pav : Fin 6} (meas : List (Nat × Nat)) {s : State} {w : Sweep} (hsweep : (s.dev.pav pav).sweep = some w)
    (hdue : w.t0 + s.dev.leadTc pav + 96 * w.step ≤ s.dev.tc) :
    exec (.blvProbeStep pav meas) s = .next { s with dev := sweepStepped (s.dev.blvProbe (blvTaps pav w.step meas)) pav w } := by
  change execBlvProbeStep pav meas s = _
  rw [execBlvProbeStep, onDev]
  simp only [hsweep, s.dev.runTo_past _ hdue]
  rfl

theorem idle_blvProbeStep {pav : Fin 6} (meas : List (Nat × Nat)) {s : State} (h : (s.dev.pav pav).sweep = none) :
    Idle (.blvProbeStep pav meas) s := by
  change execBlvProbeStep pav meas s = _
  rw [execBlvProbeStep, onDev]
  simp only [h]

theorem sweep_sweepStepped (d : Dev) (p : Nat) {w : Sweep} (h : w.step < 8) :
    ((sweepStepped d p w).pav p).sweep = if w.step = 7 then none else some { w with step := w.step + 1 } := by
  rw [sweepStepped, Dev.syncReq, Dev.pav_modPav_same, Dev.pav_modPav_same]
  by_cases h7 : w.step = 7
  · rw [if_pos h7]; exact if_pos h7.ge
  · rw [if_neg h7]; exact if_neg (by omega)

/-! The steps of a sweep are counted beside the channels and the registers. -/

theorem ch_sweepStepped (d : Dev) (p : Nat) (w : Sweep) (k : Nat) : (sweepStepped d p w).ch k = d.ch k := by
  rw [sweepStepped, Dev.syncReq, Dev.modPav_ch, Dev.modPav_ch]

theorem kept_sweepStepped (L : List RegName) (d : Dev) (p : Nat) (w : Sweep) : Kept L d (sweepStepped d p w) := by
  rw [sweepStepped]
  exact (kept_modPav L d p _).trans (kept_syncReq L _ p)

theorem keepsResult_sweepStepped (n : Nat) (d : Dev) (p : Nat) (w : Sweep) : KeepsResult n d (sweepStepped d p w) where
  kept := .ofKept (kept_sweepStepped _ d p w)
  ch := by rw [ch_sweepStepped]
  meas := (kept_sweepStepped [] d p w).regs _ _ _ List.not_mem_nil
  base := (kept_sweepStepped [] d p w).regs _ _ _ List.not_mem_nil
  det := by rw [(kept_sweepStepped [] d p w).regs _ _ _ List.not_mem_nil]

/-- The channels of step k of a sweep (R280). -/
theorem map_blvTaps (p : Nat) {k : Nat} (meas : List (Nat × Nat)) (hk : k < 8) :
    (blvTaps p k meas).map (·.1) = (List.range 4).map fun b => 32 * p + 8 * b + k := by
  rw [blvTaps, List.map_map, Nat.mod_eq_of_lt hk]; rfl

theorem taps_blvTaps (pav : Fin 6) {k : Nat} (meas : List (Nat × Nat)) (hk : k < 8) : Taps pav (blvTaps pav k meas) := by
  have hmem (m : Nat × Nat × Nat) (hm : m ∈ blvTaps pav k meas) : ∃ b < 4, m.1 = 32 * pav + 8 * b + k := by
    have hm' := List.mem_map_of_mem (f := (·.1)) hm
    rw [map_blvTaps _ _ hk] at hm'
    obtain ⟨b, hb, heq⟩ := List.mem_map.1 hm'
    exact ⟨b, List.mem_range.1 hb, heq.symm⟩
  refine ⟨?_, fun m hm => ?_, fun m hm => ?_⟩
  · rw [map_blvTaps _ _ hk]
    exact List.Nodup.map (fun a b (h : 32 * pav.val + 8 * a + k = 32 * pav.val + 8 * b + k) => by omega) List.nodup_range
  · obtain ⟨b, hb, heq⟩ := hmem m hm
    omega
  · obtain ⟨b, hb, heq⟩ := hmem m hm
    unfold pavOf; omega

theorem mem_blvTaps {p k b amp ph : Nat} {meas : List (Nat × Nat)} (hk : k < 8) (hb : b < 4) (h : meas[b]? = some (amp, ph)) :
    (32 * p + 8 * b + k, amp, ph) ∈ blvTaps p k meas := by
  refine List.mem_map.2 ⟨b, List.mem_range.2 hb, ?_⟩
  rw [Nat.mod_eq_of_lt hk, List.getD_eq_getElem?_getD, h]; rfl

theorem keptTimed_blvProbe (d : Dev) {p : Nat} {l : List (Nat × Nat × Nat)} (h : Taps p l) : KeptTimed probeRegs d (d.blvProbe l) := by
  have hrose := (rising_taps (d := d) h).kept.mono mem_probeRegs_of_rise
  have hfell (e : Dev) (r : List (Nat × Nat × Nat)) : Kept probeRegs e (e.each r fun d m => d.blvFall m.1 m.2) :=
    .each r fun d m => kept_blvFall d m.1 m.2
  have hdown (e : Dev) (r : List (Nat × Nat × Nat)) : Kept probeRegs e (e.each r fun d m => d.blvDown m.1) :=
    .each r fun d m => kept_blvDown d m.1 (by decide)
  rw [d.blvProbe_eq]
  exact (((KeptTimed.ofKept hrose).trans (.runTo _ _ _)).trans (.ofKept (hfell _ _))).trans ((KeptTimed.runTo _ _ _).trans (.ofKept (hdown _ _)))

/-- A step leaves the channels that are not at it. -/
theorem ch_blvProbe_other (d : Dev) {p k : Nat} {l : List (Nat × Nat × Nat)} (h : Taps p l) (hk : k ∉ l.map (·.1)) :
    (d.blvProbe l).ch k = d.ch k := by
  have hrisen : k ∉ (d.risen l).map (·.1) := fun hm => hk (((d.risen_sublist l).map _).subset hm)
  rw [d.blvProbe_eq, Dev.downed, Dev.ch_each_other _ (fun e m hne => (e.ch_blvDown m.1 k).trans (e.ch_coilOff_other hne)) _ hrisen,
    Dev.runTo_ch, Dev.fell, Dev.ch_each_other _ (fun e m hne => e.ch_blvFall_other m.2 hne) _ hrisen, Dev.runTo_ch, (rising_taps h).ch k hk]

section Step

variable {pav : Fin 6} {meas : List (Nat × Nat)} {s : State} {w : Sweep} {b n amp ph : Nat}

/-- The device after a step of a pavilion's sweep. -/
def afterStep (s : State) (pav : Fin 6) (w : Sweep) (meas : List (Nat × Nat)) : Dev :=
  sweepStepped (s.dev.blvProbe (blvTaps pav w.step meas)) pav w

theorem step_notProbed (hstep : w.step < 8) (hx : (n, amp, ph) ∈ blvTaps pav w.step meas) (hprobes : s.dev.blvProbes n = false) :
    (afterStep s pav w meas).ch n = { s.dev.ch n with blvRun := 0 } := by
  have htaps := taps_blvTaps pav meas hstep
  obtain ⟨hrose, hnot⟩ := rose_none htaps hx hprobes
  have hleave := (ends_leave (d := s.dev.rose (blvTaps pav w.step meas)) (s.dev.tc + 65) (s.dev.tc + 81) (htaps.risen (d := s.dev))
    (htaps.lt _ hx) hnot).1
  rw [← s.dev.blvProbe_eq] at hleave
  rw [afterStep, ch_sweepStepped, hleave, hrose]

theorem step_skipped (hstep : w.step < 8) (hx : (n, amp, ph) ∈ blvTaps pav w.step meas) (hprobes : s.dev.blvProbes n = true)
    (hmay : s.dev.blvMay n = false) :
    bitAt ((afterStep s pav w meas).fld F.PAV_BLV_SKIP_SKIP pav) (n % 32) = true ∧
    (afterStep s pav w meas).ch n = { s.dev.ch n with blvRun := 0 } := by
  have htaps := taps_blvTaps pav meas hstep
  obtain ⟨hrose, hnot, hskip⟩ := rose_skip htaps hx hprobes hmay
  obtain ⟨hch, hbit⟩ := ends_leave (d := s.dev.rose (blvTaps pav w.step meas)) (s.dev.tc + 65) (s.dev.tc + 81) (htaps.risen (d := s.dev))
    (htaps.lt _ hx) hnot
  rw [← s.dev.blvProbe_eq] at hch hbit
  refine ⟨?_, by rw [afterStep, ch_sweepStepped, hch, hrose]⟩
  rw [Dev.skip_fld, ← htaps.pav _ hx, afterStep, (kept_sweepStepped [] _ _ w).regs _ _ _ List.not_mem_nil, hbit]
  exact hskip

/-- A probe that may run is measured, judged, and its field ends. -/
theorem step_probed (hstep : w.step < 8) (hx : (n, amp, ph) ∈ blvTaps pav w.step meas) (ha : amp < 65536) (hp : ph < 4096)
    (hprobes : s.dev.blvProbes n = true) (hmay : s.dev.blvMay n = true)
    (hroom : (((s.dev.pav pav).rsv + ((List.range 4).map fun i => s.dev.blvEnergy (32 * pav + 8 * i + w.step)).sum : Nat) : Int) ≤
      s.dev.tokensNow pav) :
    ∃ e, Measured s.dev n amp ph e ∧ KeepsResult n (e.blvJudge n amp ph) (afterStep s pav w meas) ∧
      ((afterStep s pav w meas).ch n).Probed s.dev.tc (e.tc + 16) := by
  have htaps := taps_blvTaps pav meas hstep
  have hsum : (((blvTaps pav w.step meas).map (·.1)).map s.dev.blvEnergy) =
      (List.range 4).map fun i => s.dev.blvEnergy (32 * pav + 8 * i + w.step) := by
    rw [map_blvTaps _ _ hstep, List.map_map]; rfl
  obtain ⟨hup, hrun⟩ := rose_up htaps hx hprobes hmay (by rw [hsum]; exact hroom)
  obtain ⟨e, hmeasured, hkeeps, hprobed⟩ := probed_blvProbe htaps hrun hup ha hp
  exact ⟨e, hmeasured, hkeeps.trans (keepsResult_sweepStepped n _ pav w), hprobed⟩

end Step

/-! ### BLV_ADOPT (R285) -/

theorem does_blvAdopt (ch : Fin 192) (s : State) : Does (.blvAdopt ch) s fun t =>
    t.dev.ch ch = { s.dev.ch ch with blvAdopt := true } ∧ ChansStand [ch.val] s t ∧ Works [] s t :=
  ⟨{ s with dev := s.dev.modCh ch fun c => { c with blvAdopt := true } }, rfl, s.dev.ch_modCh_same _ _,
    fun _ hk => s.dev.ch_modCh_other _ (Ne.symm (List.ne_of_not_mem_cons hk)), rfl, rfl,
    kept_modCh [] s.dev ch fun c => { c with blvAdopt := true }⟩

theorem posted_of_detectPosted {n : Nat} {t : State} (hn : n < 192) (h : DetectPosted t.dev n) : Posted .detect n t := by
  have hq : t.dev.outq n = (t.dev.ch n).outq := if_pos hn
  rw [Posted, hq]
  exact h

/-- Settles O16: a step's channels take their turns one after another, and what one's permissions read and what its result left stand through
the others' turns (`Rising`, `Spares`); a probe that may run is then measured, judged and ended (`probed_blvProbe`). -/
theorem belvedereSweeps : Obligations.BelvedereSweeps := by
  refine ⟨fun pav s => ⟨does_blvSweepStart pav s, idle_blvSweepStart pav s⟩, fun pav meas s =>
    ⟨idle_blvProbeStep meas, fun w hsweep hstep hdue => ⟨_, exec_blvProbeStep meas hsweep hdue, ?_⟩⟩, does_blvAdopt⟩
  have htaps := taps_blvTaps pav meas hstep
  refine ⟨sweep_sweepStepped _ _ hstep, fun b n amp ph hb hn hmeas ha hp => ?_, fun k hk => ?_, rfl, rfl, ?_⟩
  · have hx : (n, amp, ph) ∈ blvTaps pav w.step meas := by rw [hn]; exact mem_blvTaps hstep hb hmeas
    refine ⟨step_notProbed hstep hx, step_skipped hstep hx, fun hprobes hmay hroom => ?_⟩
    obtain ⟨e, hmeasured, hkeeps, hprobed⟩ := step_probed hstep hx ha hp hprobes hmay hroom
    have hlt : n < 192 := htaps.lt _ hx
    have hpav : pavOf n = pav := htaps.pav _ hx
    refine ⟨⟨e.tc + 16, hprobed.offAt, hprobed.past, fun hboot hcar => Nat.add_le_add_right (hmeasured.late hboot hcar) 16⟩,
      hprobed.fieldOf, hprobed.parking, (hmeasured.shown hkeeps).1, (hmeasured.shown hkeeps).2, fun hadopt => ?_,
      fun hbase hadopt hdet hconf => ?_⟩
    · have hadopted := hmeasured.adopted hkeeps ha hp hadopt
      rw [← Dev.det_fld, hpav] at hadopted
      exact hadopted
    · rw [Dev.det_fld, ← hpav] at hdet
      rw [← hpav] at hconf
      refine ⟨fun hexc hrow => ?_, fun hexc => ?_⟩
      · obtain ⟨hset, hposted⟩ := hmeasured.detects hkeeps hlt hbase hadopt hdet hexc (by rw [hpav]; exact hrow)
        rw [← Dev.det_fld, hpav] at hset
        exact ⟨hset, posted_of_detectPosted hlt hposted⟩
      · have hdrift := hmeasured.drifts hkeeps hbase hadopt hdet hexc hconf
        rw [← Dev.det_fld, hpav] at hdrift
        exact hdrift
  · exact (ch_sweepStepped _ _ w k).trans (ch_blvProbe_other s.dev htaps (by rw [map_blvTaps _ _ hstep]; exact hk))
  · exact (keptTimed_blvProbe s.dev htaps).trans (.ofKept (kept_sweepStepped _ _ _ w))

end Sys2Proof.Proofs
end

section
/-! PROOFS. A commit of a staged write whose descriptor is an exchange: its completion shows an exchange that received no frame. -/

namespace Sys2Proof.Proofs

open Sys2Proof.Machine Sys2Proof.Safety

/-- A staged write of one byte for an EXCHANGE of channel 0 whose deadline is 1 ns. -/
def exchangeStaged : Staged := { desc := { d := { op := 0x01, target := 0, deadline := 1 } }, data := [7], pages := 1 }

/-- At 1 ns image 0, of one page, holds that staged write; CH_FRM_TIME of channel 0 holds 1. -/
def lateExchangeStaged : State :=
  { dev := ((({} : Dev).setTime 1).wr .CH_FRM_TIME 0 0 1).modImg 0 fun _ => { pages := 1, staged := [exchangeStaged] } }

/-- The state meets the conditions of a commit whose deadline has passed. -/
theorem lateExchangeStaged_commits :
    (lateExchangeStaged.dev.img (0 : Fin 64)).staged = [exchangeStaged] ∧
    exchangeStaged.desc.late lateExchangeStaged.dev.now = true ∧ lateExchangeStaged.dev.rd .CH_FRM_TIME 0 = 1 := by decide +kernel

/-- The late EXCHANGE completes as one that received no frame: CH_FRM_TIME reads 0 (R175). -/
theorem lateExchangeStaged_clears :
    (answer (.tagmemCommit 0) lateExchangeStaged).map (fun t => t.dev.rd .CH_FRM_TIME 0) = some 0 := by decide +kernel

/-- Refutes O24: its clause on TAGMEM_COMMIT does not ask which descriptor staged the write. Where that is an EXCHANGE whose deadline has
passed, the commit completes it with LATE, and the completion changes CH_FRM_TIME where the clause lets only the registers of posting change. -/
theorem not_tagImages : ¬ Obligations.TagImages := by
  rintro ⟨-, -, commits, -⟩
  obtain ⟨hstaged, -, htime⟩ := lateExchangeStaged_commits
  obtain ⟨t, ht, -, -, -, -, -, -, -, -, told⟩ := (commits 0 lateExchangeStaged).2 exchangeStaged [] hstaged
  have hstands : t.dev.rd .CH_FRM_TIME 0 = 1 := (told.regs _ 0 0 (by decide)).trans htime
  have hclears := lateExchangeStaged_clears
  rw [answer_of_next ht] at hclears
  simp [hstands] at hclears

end Sys2Proof.Proofs
end

section
/-! PROOFS. What the receive chain changes at a frame's end and by a standard setting: registers, corrections in force, and of a channel
what the chain holds back alone. -/

namespace Sys2Proof.Machine

open Sys2Proof.Safety

/-- A channel's record beside what the receive chain holds of it (R112, R115, R117, R212, R449). -/
def Ch.beside (c : Ch) : Ch :=
  { c with rxBy := none, rxPast := [], cap := none, deafTo := 0, fadeAt := 0, shiftPend := none, srcPend := none, stdPend := false }

/-- Between two devices only registers of a list, corrections in force, free values and what the receive chain holds of a channel have
changed. -/
structure RxOnly (L : List RegName) (d e : Dev) : Prop where
  ch   : ∀ n, (e.ch n).beside = (d.ch n).beside
  rest : e = { d with regs := e.regs, chans := e.chans, cal := { d.cal with applied := e.cal.applied }, freeCtr := e.freeCtr }
  regs : ∀ r i j, r ∉ L → e.rd r i j = d.rd r i j

namespace RxOnly

variable {L M : List RegName} {d e f : Dev}

theorem refl (L : List RegName) (d : Dev) : RxOnly L d d := ⟨fun _ => rfl, rfl, fun _ _ _ _ => rfl⟩

theorem trans (a : RxOnly L d e) (b : RxOnly L e f) : RxOnly L d f where
  ch n := (b.ch n).trans (a.ch n)
  rest := by rw [b.rest, a.rest]
  regs r i j h := (b.regs r i j h).trans (a.regs r i j h)

theorem mono (h : ∀ r, r ∈ L → r ∈ M) (a : RxOnly L d e) : RxOnly M d e :=
  { a with regs := fun r i j n => a.regs r i j fun m => n (h r m) }

theorem cond (b : Bool) {g : Dev → Dev} (h : RxOnly L d (g d)) : RxOnly L d (d.cond b g) := by
  unfold Dev.cond; split
  · exact h
  · exact refl L d

theorem each {α : Type} (l : List α) {g : Dev → α → Dev} (h : ∀ d x, RxOnly L d (g d x)) : RxOnly L d (d.each l g) := by
  unfold Dev.each
  induction l generalizing d with
  | nil => exact refl L d
  | cons x t ih => exact (h d x).trans ih

theorem wr (d : Dev) (r : RegName) (i j v : Nat) (h : r ∈ L) : RxOnly L d (d.wr r i j v) where
  ch _ := rfl
  rest := rfl
  regs _ k l n := d.rd_wr_name i j k l v fun e => n (e ▸ h)

theorem setFld (d : Dev) (x : Fld) (i j v : Nat) (h : x.reg ∈ L) : RxOnly L d (d.setFld x i j v) := wr d _ i j _ h

theorem setOn (d : Dev) (x : Fld) (i j : Nat) (b : Bool) (h : x.reg ∈ L) : RxOnly L d (d.setOn x i j b) := wr d _ i j _ h

theorem modCh (d : Dev) (n : Nat) (g : Ch → Ch) (h : ∀ c, (g c).beside = c.beside := by intro; rfl) : RxOnly L d (d.modCh n g) where
  ch k := by
    by_cases e : n = k
    · subst e; rw [Dev.ch_modCh_same, h]
    · rw [Dev.ch_modCh_other _ _ e]
  rest := rfl
  regs _ _ _ _ := rfl

theorem freeCtr (L : List RegName) (d : Dev) (k : Nat) : RxOnly L d { d with freeCtr := k } := ⟨fun _ => rfl, rfl, fun _ _ _ _ => rfl⟩

/-! What it leaves. -/

theorem kept (a : RxOnly L d e) : Kept L d e where
  time := by rw [a.rest]
  syn := by rw [a.rest]
  pwr := by rw [a.rest]
  sess := by rw [a.rest]
  images := by rw [a.rest]
  ledger := by rw [a.rest]
  sec := by rw [a.rest]
  cal := by rw [a.rest]
  ksk := by rw [a.rest]
  flash := by rw [a.rest]
  timers := by rw [a.rest]
  prom := by rw [a.rest]
  host := by rw [a.rest]
  flt := by rw [a.rest]
  regs := a.regs

theorem pav (a : RxOnly L d e) (p : Nat) : e.pav p = d.pav p := by rw [a.rest]; rfl
theorem ses (a : RxOnly L d e) (k : Nat) : e.ses k = d.ses k := by rw [a.rest]; rfl
theorem lsn (a : RxOnly L d e) (n : Nat) : (e.ch n).lsn = (d.ch n).lsn := (congrArg Ch.lsn (a.ch n) :)
theorem role (a : RxOnly L d e) (n : Nat) : (e.ch n).role = (d.ch n).role := (congrArg Ch.role (a.ch n) :)
theorem borrowed (a : RxOnly L d e) (n : Nat) : (e.ch n).borrowed = (d.ch n).borrowed := (congrArg Ch.borrowed (a.ch n) :)

end RxOnly

variable (d : Dev)

/-! ### The release of what the chain held back (R112, R115, R117, R131, R547) -/

theorem rxOnly_shedUntil (L : List RegName) (ok : Dev → Bool) (f : Cap → Cap) (l : List Nat) : RxOnly L d (d.shedUntil ok f l) := by
  induction l generalizing d with
  | nil => exact .refl L d
  | cons n t ih =>
    unfold Dev.shedUntil; split
    · exact .refl L d
    · exact (RxOnly.modCh d n _).trans (ih _)

theorem rxOnly_resumeFit (L : List RegName) (k : Nat) (l : List Nat) : RxOnly L d (d.resumeFit k l) := by
  induction l generalizing d with
  | nil => exact .refl L d
  | cons n t ih =>
    unfold Dev.resumeFit; extract_lets r
    refine RxOnly.trans ?_ (ih _)
    split
    · exact .modCh d _ _
    · exact .refl L d

theorem rxOnly_recap (L : List RegName) : RxOnly L d d.recap := by
  unfold Dev.recap
  exact (rxOnly_shedUntil d L _ _ _).trans ((rxOnly_shedUntil _ L _ _ _).trans (rxOnly_resumeFit _ L _ _))

theorem rxOnly_rxSettle (L : List RegName) (n : Nat) : RxOnly L d (d.rxSettle n) := by
  unfold Dev.rxSettle; split
  · exact .each _ fun d q => ⟨fun _ => rfl, rfl, fun _ _ _ _ => rfl⟩
  · exact .refl L d

theorem rxOnly_setSrc {L : List RegName} (n v : Nat) (h : .CH_RX_CTL ∈ L) : RxOnly L d (d.setSrc n v) := by
  unfold Dev.setSrc; split
  · exact .refl L d
  · exact (RxOnly.setFld d F.CH_RX_CTL_FIR_SRC n 0 v h).trans (.modCh _ n _)

theorem rxOnly_fadeStart {L : List RegName} (n : Nat) (h : .CH_RX_FIR ∈ L) : RxOnly L d (d.fadeStart n) :=
  (RxOnly.setOn d F.CH_RX_FIR_FADING n 0 true h).trans (.modCh _ n _)

theorem rxOnly_chainFree (n : Nat) : RxOnly rxRegs d (d.chainFree n) := by
  unfold Dev.chainFree
  extract_lets d0 d1 d2
  have h0 : RxOnly rxRegs d d0 := .each _ fun d m => .modCh d m _
  have h1 : RxOnly rxRegs d0 d1 := by
    refine RxOnly.trans ?_ (rxOnly_rxSettle _ _ n)
    split
    · exact (RxOnly.setOn d0 F.CH_RX_FIR_PENDING n 0 false (by decide)).trans (rxOnly_fadeStart _ n (by decide))
    · exact .refl _ d0
  have h2 : RxOnly rxRegs d1 d2 := by
    simp only [d2]; split
    · exact (RxOnly.wr d1 .CH_RX_SHIFT n 0 _ (by decide)).trans (.modCh _ n _)
    · exact .refl _ d1
  refine (h0.trans (h1.trans h2)).trans ?_
  split
  · exact ((rxOnly_setSrc d2 n _ (by decide)).trans (.modCh _ n _)).trans (rxOnly_recap _ _)
  · exact .refl _ d2

theorem rxOnly_agcGo (n : Nat) (l : List Nat) (a : Nat) : RxOnly rxRegs d (d.agcGo n l a) := by
  unfold Dev.agcGo; split
  · exact .setFld d F.CH_RX_AGC_STATE n 0 a (by decide)
  · exact .refl _ d

theorem rxOnly_frameEnded (n : Nat) : RxOnly rxRegs d (d.frameEnded n) := (rxOnly_chainFree d n).trans (rxOnly_agcGo _ n _ _)

/-! ### Standard settings (R118) -/

/-- The registers of a standard setting. -/
def stdRegs : List RegName := rxRegs ++ [.CH_RX_COEF_A, .CH_RX_COEF_B]

theorem rxOnly_loadBank (n : Nat) (b : Bool) (c : List Int) : RxOnly stdRegs d (d.loadBank n b c) :=
  .each _ fun d x => .wr d _ n _ _ (by cases b <;> decide)

theorem rxOnly_applyStd (n src f : Nat) (dc : Bool) : RxOnly stdRegs d (d.applyStd n src f dc) := by
  unfold Dev.applyStd; split
  · extract_lets b d1 d2 d3
    have h1 : RxOnly stdRegs d d1 := (rxOnly_setSrc d n src (by decide)).trans (.setOn _ F.CH_RX_CTL_DC_SUB n 0 dc (by decide))
    have h2 : RxOnly stdRegs d1 d2 :=
      (RxOnly.setOn d1 F.CH_RX_FIR_FADING n 0 false (by decide)).trans (.setOn _ F.CH_RX_FIR_PENDING n 0 false (by decide))
    have h3 : RxOnly stdRegs d2 d3 := (RxOnly.wr d2 .CH_RX_SHIFT n 0 _ (by decide)).trans (.modCh _ n _)
    exact h1.trans (h2.trans (h3.trans ((rxOnly_loadBank d3 n _ _).trans (.setOn _ F.CH_RX_FIR_ACTIVE n 0 _ (by decide)))))
  · exact .refl _ d

theorem rxOnly_listenStd (n : Nat) : RxOnly stdRegs d (d.listenStd n) := .cond _ (rxOnly_applyStd d n _ _ _)

/-- A setting of one channel leaves every other channel's record. -/
theorem Dev.ch_applyStd_other {n k : Nat} (src f : Nat) (dc : Bool) (h : n ≠ k) : (d.applyStd n src f dc).ch k = d.ch k := by
  have hload (b : Bool) (c : List Int) (e : Dev) : (e.loadBank n b c).ch k = e.ch k := (shows_loadBank e (fun c => c) n b c).ch k
  have hset (e : Dev) (g : Fld) (x : Bool) : (e.setOn g n 0 x).ch k = e.ch k := rfl
  have hwr (e : Dev) (r : RegName) (v : Nat) : (e.wr r n 0 v).ch k = e.ch k := rfl
  unfold Dev.applyStd; split
  · simp only [hset, hload, hwr, Dev.ch_modCh_other _ _ h, Dev.ch_setSrc_other _ _ h]
  · rfl

theorem Dev.ch_listenStd_other {n k : Nat} (h : n ≠ k) : (d.listenStd n).ch k = d.ch k := by
  unfold Dev.listenStd Dev.cond; split
  · exact d.ch_applyStd_other _ _ _ h
  · rfl

/-! ### A reader's frame is over (R112, R115, R118, R131) -/

/-- Beside what the chain held back and a listen row that waited, the listener has left the frame. -/
theorem rxOnly_lsnFrameEnd (n : Nat) : RxOnly stdRegs (d.modLsn n fun l => { l with inFrame := false }) (d.lsnFrameEnd n) :=
  (((rxOnly_frameEnded _ n).mono (by decide)).trans (.modCh _ n _)).trans (.cond _ (rxOnly_listenStd _ n))

end Sys2Proof.Machine
end

section
/-! PROOFS. A second judgement of a pavilion's transactions leaves every listener (R349, R372). -/

namespace Sys2Proof.Machine

open Sys2Proof.Safety

/-- Every channel's listener stands. -/
structure LsnsStand (d e : Dev) : Prop where
  lsn : ∀ n, (e.ch n).lsn = (d.ch n).lsn

namespace LsnsStand

variable {L : List RegName} {d e f : Dev}

theorem refl (d : Dev) : LsnsStand d d := ⟨fun _ => rfl⟩

theorem trans (a : LsnsStand d e) (b : LsnsStand e f) : LsnsStand d f := ⟨fun n => (b.lsn n).trans (a.lsn n)⟩

theorem cond (b : Bool) {g : Dev → Dev} (h : LsnsStand d (g d)) : LsnsStand d (d.cond b g) := by
  unfold Dev.cond; split
  · exact h
  · exact refl d

theorem each {α : Type} (l : List α) {g : Dev → α → Dev} (h : ∀ d x, LsnsStand d (g d x)) : LsnsStand d (d.each l g) := by
  unfold Dev.each
  induction l generalizing d with
  | nil => exact refl d
  | cons x t ih => exact (h d x).trans ih

theorem ofChans (h : e.chans = d.chans) : LsnsStand d e := ⟨fun n => by rw [Dev.ch, h, Dev.ch]⟩

theorem ofTold (h : Told L d e) : LsnsStand d e := ⟨fun n => by rw [h.ch n]⟩

theorem ofRx (h : RxOnly L d e) : LsnsStand d e := ⟨h.lsn⟩

theorem ofShows (h : Shows Ch.lsn d e) : LsnsStand d e := ⟨h.ch⟩

theorem modCh (d : Dev) (n : Nat) (g : Ch → Ch) (h : ∀ c, (g c).lsn = c.lsn := by intro; rfl) : LsnsStand d (d.modCh n g) :=
  .ofShows (.modCh d n g h)

end LsnsStand

variable (d : Dev)

theorem lsnsStand_setFld (f : Fld) (i j v : Nat) : LsnsStand d (d.setFld f i j v) := .ofChans rfl
theorem lsnsStand_unreserve (n e : Nat) : LsnsStand d (d.unreserve n e) := .ofChans rfl
theorem lsnsStand_txnsMoved (p : Nat) : LsnsStand d (d.txnsMoved p) := .ofChans rfl
theorem lsnsStand_modTxn (n : Nat) (f : Txn → Txn) : LsnsStand d (d.modTxn n f) := .modCh d n _
theorem lsnsStand_coilFall (n : Nat) (k : RampKind) : LsnsStand d (d.coilFall n k) :=
  .ofShows ((Shows.modCh d n _).trans (shows_emit _ _ _))

/-! ### Work that ends -/

theorem lsnsStand_fall (n : Nat) (k : RampKind) (c : Option Status) (l : List Nat) : LsnsStand d (d.fall n k c l) := by
  unfold Dev.fall; split
  · exact .refl d
  · split
    · extract_lets u d1 d2 d3 due
      have h1 : LsnsStand d d1 := .cond _
        ((LsnsStand.ofShows ((shows_agcMove d _ n _ _).trans (shows_sepLeave _ _ n))).trans (.ofRx (rxOnly_frameEnded _ n)))
      have h2 : LsnsStand d1 d2 := lsnsStand_modTxn d1 n _
      have h3 : LsnsStand d2 d3 := .each _ fun d x => by
        split
        · split
          · exact .refl d
          · exact lsnsStand_coilFall d _ _
        · exact .refl d
      exact (h1.trans h2).trans (h3.trans (lsnsStand_modTxn d3 n _))
    · exact .refl d

theorem lsnsStand_dropCal (n : Nat) : LsnsStand d (d.dropCal n) := by
  unfold Dev.dropCal; split
  · split
    · exact .refl d
    · split
      · exact ((lsnsStand_unreserve d n _).trans (.modCh _ n _)).trans (lsnsStand_txnsMoved _ _)
      · exact lsnsStand_fall d n _ _ _
  · exact .refl d

theorem lsnsStand_calLeave (r : CalRun) : LsnsStand d (d.calLeave r) := by
  unfold Dev.calLeave
  extract_lets c d1 d2 d3
  have h1 : LsnsStand d d1 := .ofChans rfl
  have h2 : LsnsStand d1 d2 :=
    (LsnsStand.each _ fun d n => lsnsStand_dropCal d n).trans (.each _ fun d n => .cond _ (.modCh d n _))
  have h3 : LsnsStand d2 d3 := .cond _ (lsnsStand_setFld _ _ _ _ _)
  exact h1.trans (h2.trans (h3.trans (.cond _ ((lsnsStand_setFld d3 _ _ _ _).trans (lsnsStand_setFld _ _ _ _ _)))))

theorem lsnsStand_calAbort (n : Nat) (st : Status) : LsnsStand d (d.calAbort n st) := by
  unfold Dev.calAbort; split
  · exact .refl d
  · extract_lets d1
    split
    · exact (lsnsStand_calLeave d _).trans (.ofTold (told_done _ _ _ _))
    · exact (lsnsStand_calLeave d _).trans (.ofTold (told_event _ _ _ _ _ _))

theorem lsnsStand_dropProbe (n : Nat) : LsnsStand d (d.dropProbe n) := by
  unfold Dev.dropProbe; split
  · extract_lets d1
    have h1 : LsnsStand d d1 := .ofChans rfl
    exact (h1.trans (.modCh d1 n _)).trans (lsnsStand_txnsMoved _ _)
  · exact .refl d

theorem lsnsStand_completeWork (n : Nat) (t : Txn) (st : Status) (b : CBody) : LsnsStand d (d.completeWork n t st b) := by
  unfold Dev.completeWork; dsimp only
  refine LsnsStand.trans (.ofTold ((told_hostDone d t st b).trans ?_)) (.modCh _ n _)
  split
  · split
    · exact told_cycleReport _ n t st _ _
    · exact .refl _ _
  · split
    · exact ((told_output _ _ _ _ _).trans (told_completeE _ _ _)).trans (told_endRun _ _ _)
    · exact .refl _ _
  · split
    · exact (told_completeE _ _ _).trans (told_endRun _ _ _)
    · exact .refl _ _

theorem lsnsStand_refuse (n : Nat) (st : Status) : LsnsStand d (d.refuse n st) := by
  unfold Dev.refuse; split
  · split
    · exact (lsnsStand_dropCal d n).trans (lsnsStand_calAbort _ n st)
    · split
      · exact lsnsStand_dropProbe d n
      · extract_lets d1 d2
        have h1 : LsnsStand d d1 := (lsnsStand_unreserve d n _).trans (lsnsStand_completeWork _ n _ st _)
        have h2 : LsnsStand d1 d2 := .cond _ (.ofTold (told_noFrameRegs _ _ _))
        exact ((h1.trans h2).trans (.modCh d2 n _)).trans (lsnsStand_txnsMoved _ _)
  · exact .refl d

/-! ### Attempts at admission -/

theorem lsnsStand_backToWait (n : Nat) : LsnsStand d (d.backToWait n) := by
  unfold Dev.backToWait; split
  · split
    · exact lsnsStand_dropProbe d n
    · split
      · exact ((lsnsStand_unreserve d n _).trans (lsnsStand_modTxn _ n _)).trans (lsnsStand_txnsMoved _ _)
      · exact .refl d
  · exact .refl d

theorem lsnsStand_grantAdmission (n : Nat) (k : List Driven) (l : Nat) : LsnsStand d (d.grantAdmission n k l) := by
  unfold Dev.grantAdmission
  exact (lsnsStand_modTxn d n _).trans (.ofChans rfl)

theorem lsnsStand_admitNow (n : Nat) (t : Txn) : LsnsStand d (d.admitNow n t) := by
  unfold Dev.admitNow
  extract_lets dr len d1 d2 d3
  have h1 : LsnsStand d d1 := by
    simp only [d1]; split
    · exact .ofShows (shows_groupLoad d _ _ _)
    · exact .refl d
  have h2 : LsnsStand d1 d2 := by
    simp only [d2]; split
    · exact .refl d1
    · exact .ofRx (rxOnly_applyStd d1 n _ _ _)
  have h3 : LsnsStand d2 d3 := (lsnsStand_modTxn d2 n _).trans (lsnsStand_setFld _ _ _ _ _)
  exact h1.trans (h2.trans (h3.trans (lsnsStand_grantAdmission d3 n _ _)))

theorem lsnsStand_tryAdmit (n : Nat) : LsnsStand d (d.tryAdmit n) := by
  unfold Dev.tryAdmit; split
  · exact .refl d
  · next t _ =>
    split
    · exact .refl d
    · split
      · exact .refl d
      · split
        · next st _ =>
          have h : LsnsStand d (d.markRefused n t st) := by
            unfold Dev.markRefused; split
            · exact .cond _ (lsnsStand_setFld d _ _ _ _)
            · exact .refl d
          exact (h.trans (lsnsStand_setFld _ _ _ _ _)).trans (lsnsStand_refuse _ n st)
        · extract_lets dr len other m m1
          split
          · exact lsnsStand_admitNow d n t
          · exact lsnsStand_setFld d _ _ _ _

theorem lsnsStand_recheck (n : Nat) : LsnsStand d (d.recheck n) := by
  unfold Dev.recheck; split
  · exact .refl d
  · split
    · exact .refl d
    · split
      · split
        · exact .refl d
        · exact lsnsStand_dropProbe d n
      · extract_lets uses
        split
        · exact lsnsStand_refuse d n _
        · split
          · exact lsnsStand_refuse d n _
          · split
            · exact lsnsStand_refuse d n _
            · split
              · exact lsnsStand_refuse d n _
              · split
                · exact lsnsStand_backToWait d n
                · exact .refl d

theorem lsnsStand_retry (p : Nat) : LsnsStand d (d.retry p) :=
  (LsnsStand.each _ fun d n => lsnsStand_recheck d n).trans (.each _ fun d n => lsnsStand_tryAdmit d n)

end Sys2Proof.Machine
end

section
/-! PROOFS. Changes of one channel's listener and of its session: how the outside field comes and goes, and how its thresholds are
written (O21). -/

namespace Sys2Proof.Machine

open Sys2Proof.Safety

variable (d : Dev)

/-! ### One listener changes, and sessions -/

/-- The device with another record of its sessions. -/
def Dev.withSess (l : Tbl Sess) : Dev := { d with sess := l }

theorem kept_withSess {L : List RegName} {d e : Dev} (h : Kept L d e) (l : Tbl Sess) : Kept L (d.withSess l) (e.withSess l) :=
  { h with sess := rfl }

/-- From a device to another one channel's listener has changed by a function; every other listener stands, and beside the sessions the
device is kept but for registers of a list. -/
structure Hears (L : List RegName) (n : Nat) (g : Lsn → Lsn) (d e : Dev) : Prop where
  own    : (e.ch n).lsn = g (d.ch n).lsn
  others : ∀ k, k ≠ n → (e.ch k).lsn = (d.ch k).lsn
  kept   : Kept L (d.withSess e.sess) e

namespace Hears

variable {L M : List RegName} {n : Nat} {g h : Lsn → Lsn} {d e f : Dev}

theorem trans (a : Hears L n g d e) (b : Hears L n h e f) : Hears L n (fun l => h (g l)) d f where
  own := by rw [b.own, a.own]
  others k hk := (b.others k hk).trans (a.others k hk)
  kept := (kept_withSess a.kept f.sess).trans b.kept

theorem mono (h : ∀ r, r ∈ L → r ∈ M) (a : Hears L n g d e) : Hears M n g d e := { a with kept := a.kept.mono h }

theorem congr (a : Hears L n g d e) (hg : g (d.ch n).lsn = h (d.ch n).lsn) : Hears L n h d e := { a with own := a.own.trans hg }

/-- A change beside the sessions and every listener. -/
theorem ofStand (n : Nat) (a : LsnsStand d e) (k : Kept L d e) : Hears L n (fun l => l) d e where
  own := a.lsn n
  others k _ := a.lsn k
  kept := by rw [k.sess]; exact k

theorem ofRx (n : Nat) (a : RxOnly L d e) : Hears L n (fun l => l) d e := ofStand n (.ofRx a) a.kept

theorem modLsn (L : List RegName) (d : Dev) (n : Nat) (g : Lsn → Lsn) : Hears L n g d (d.modLsn n g) where
  own := by rw [Dev.modLsn, Dev.ch_modCh_same]
  others k hk := by rw [Dev.modLsn, Dev.ch_modCh_other _ _ (Ne.symm hk)]
  kept := kept_modCh L d n _

/-- A change of a session leaves every listener. -/
theorem modSes (L : List RegName) (d : Dev) (n k : Nat) (f : Sess → Sess) : Hears L n (fun l => l) d (d.modSes k f) where
  own := rfl
  others _ _ := rfl
  kept := .refl L _

/-- Where the sessions stand as well, the device is kept. -/
theorem keptAll (a : Hears L n g d e) (hs : e.sess = d.sess) : Kept L d e := by
  have h := a.kept
  rwa [hs] at h

end Hears

/-! ### The session of a listener ends (R301) -/

/-- What a listener holds once its session has ended. -/
def Lsn.ended (st : LsnState) (l : Lsn) : Lsn :=
  { armed := l.armed, field := l.field, since := l.since, endTc := l.endTc, endOne := l.endOne, uid := l.uid, freq := l.freq,
    notBefore := l.notBefore, sendTo := l.sendTo, inFrame := l.inFrame, state := st }

theorem hears_lsnEnd (L : List RegName) (n : Nat) (st : LsnState) : Hears L n (Lsn.ended st) d (d.lsnEnd n st) := by
  refine Hears.trans (e := match (d.ch n).lsn.sess with
    | some s => (d.freeSes s).stir (pavOf n)
    | none => d) (g := fun l => l) ?_ (.modLsn L _ n _)
  split
  · next k _ =>
    exact (Hears.modSes L d n k _).trans (.ofStand n (.ofChans rfl) (kept_stir L _ _))
  · exact .ofStand n (.refl d) (.refl L d)

/-- The session that a listener held is released, and its generation advances (R331); every other stands. -/
theorem Dev.ses_lsnEnd (n k : Nat) (st : LsnState) : (d.lsnEnd n st).ses k =
    if (d.ch n).lsn.sess = some k then { gen := ((d.ses k).gen + 1) % 256 } else d.ses k := by
  have hmod (e : Dev) (g : Lsn → Lsn) : (e.modLsn n g).ses k = e.ses k := rfl
  unfold Dev.lsnEnd
  rw [hmod]
  cases hs : (d.ch n).lsn.sess with
  | none => rfl
  | some j =>
    have hstir (e : Dev) : (e.stir (pavOf n)).ses k = e.ses k := rfl
    dsimp only
    rw [hstir, Dev.freeSes]
    by_cases hj : j = k
    · subst hj; rw [Dev.ses_modSes_same, if_pos rfl]
    · rw [Dev.ses_modSes_other _ _ hj, if_neg (by simpa using hj)]

/-! ### The listener leaves a frame (R112, R115, R118, R131) -/

theorem hears_lsnFrameEnd (n : Nat) : Hears stdRegs n (fun l => { l with inFrame := false }) d (d.lsnFrameEnd n) :=
  (Hears.modLsn stdRegs d n _).trans (.ofRx n (rxOnly_lsnFrameEnd d n))

theorem hears_lsnLeave (n : Nat) : Hears stdRegs n (fun l => { l with inFrame := false }) d (d.lsnLeave n) := by
  unfold Dev.lsnLeave Dev.cond; split
  · exact hears_lsnFrameEnd d n
  · next h =>
    refine (Hears.ofStand n (.refl d) (.refl _ d)).congr ?_
    rw [← Bool.eq_false_iff.2 h]

theorem Dev.sess_lsnFrameEnd (n : Nat) : (d.lsnFrameEnd n).sess = d.sess := (rxOnly_lsnFrameEnd d n).kept.sess

theorem Dev.sess_lsnLeave (n : Nat) : (d.lsnLeave n).sess = d.sess := by
  unfold Dev.lsnLeave Dev.cond; split
  · exact d.sess_lsnFrameEnd n
  · rfl

/-! ### The outside field comes (R289, R294, R295) -/

/-- What drawing a UID leaves: the device but for a free value. -/
theorem Dev.lsnUid_free (n : Nat) : ∃ k, (d.lsnUid n).2 = { d with freeCtr := k } := by
  unfold Dev.lsnUid; split <;> exact ⟨_, rfl⟩

theorem Dev.lsnUid_four {n : Nat} (h : d.fld F.CH_LSN_ID_UID_MODE n = 0) : (d.lsnUid n).1 = toLe 4 (d.rd .CH_LSN_UID0 n) := by
  simp only [Dev.lsnUid, h]

theorem Dev.lsnUid_seven {n : Nat} (h : d.fld F.CH_LSN_ID_UID_MODE n = 1) :
    (d.lsnUid n).1 = toLe 4 (d.rd .CH_LSN_UID0 n) ++ toLe 3 (d.rd .CH_LSN_UID1 n) := by
  simp only [Dev.lsnUid, h]

theorem length_padTo (n : Nat) (l : List Byte) : (padTo n l).length = n := by
  rw [padTo, List.length_take, List.length_append, List.length_replicate]
  omega

/-- A random UID has four bytes and starts with 0x08. -/
theorem Dev.lsnUid_random {n : Nat} (h : 2 ≤ d.fld F.CH_LSN_ID_UID_MODE n) :
    (d.lsnUid n).1.length = 4 ∧ (d.lsnUid n).1.head? = some 0x08 := by
  obtain ⟨m, hm⟩ : ∃ m, d.fld F.CH_LSN_ID_UID_MODE n = m + 2 := ⟨_, (Nat.sub_add_cancel h).symm⟩
  have hu : (d.lsnUid n).1 = bytes [0x08] ++ (d.freeBytes 3).1 := by simp only [Dev.lsnUid, hm]
  rw [hu]
  refine ⟨?_, rfl⟩
  rw [List.length_append, Dev.freeBytes, length_padTo]
  rfl

/-- A listener that its field readies. -/
def Lsn.readied (tc : Nat) (uid : List Byte) (freq : Int) (l : Lsn) : Lsn :=
  { armed := l.armed, field := true, since := tc, state := .idle, uid := uid, freq := clampInt (-32768) 32767 freq }

/-- The device once a channel's outside field is declared present. -/
def Dev.fieldCame (n : Nat) (freq : Int) : Dev :=
  ((d.lsnUid n).2.modLsn n (Lsn.readied d.tc (d.lsnUid n).1 freq)).listenStd n

theorem Dev.ch_fieldCame (n : Nat) (freq : Int) :
    ((d.fieldCame n freq).ch n).lsn = (d.ch n).lsn.readied d.tc (d.lsnUid n).1 freq ∧
    ∀ k, k ≠ n → (d.fieldCame n freq).ch k = d.ch k := by
  obtain ⟨c, hc⟩ := d.lsnUid_free n
  have hch (k : Nat) : (d.lsnUid n).2.ch k = d.ch k := by rw [hc]; rfl
  refine ⟨?_, fun k hk => ?_⟩
  · rw [Dev.fieldCame, (rxOnly_listenStd _ n).lsn, (Hears.modLsn [] _ n _).own, hch]
  · rw [Dev.fieldCame, Dev.ch_listenStd_other _ (Ne.symm hk), Dev.modLsn, Dev.ch_modCh_other _ _ (Ne.symm hk), hch]

theorem kept_fieldCame (n : Nat) (freq : Int) : Kept admRegs d (d.fieldCame n freq) := by
  obtain ⟨c, hc⟩ := d.lsnUid_free n
  have hfree : Kept admRegs d (d.lsnUid n).2 := by rw [hc]; exact (RxOnly.freeCtr _ d c).kept
  exact (hfree.trans (kept_modCh _ _ n _)).trans ((rxOnly_listenStd _ n).kept.mono (by decide))

/-! ### The outside field goes (R289, R292, R301, R317) -/

/-- A listener without a field. -/
def Lsn.fieldless (l : Lsn) : Lsn := { Lsn.ended .off { l with inFrame := false } with field := false, uid := [], freq := 0 }

/-- The device once a channel's listener has lost its field, before the transactions are judged again. -/
def Dev.fieldWent (n : Nat) : Dev :=
  (((d.lsnLeave n).lsnEnd n .off).modLsn n fun l => { l with field := false, uid := [], freq := 0 }).cond (n == 0)
    fun d => d.setOn F.LDG_EH_ACTIVE 0 0 false

/-- The registers that the loss of a field may change. -/
def fieldRegs : List RegName := admRegs ++ [.LDG_EH]

theorem hears_fieldWent (n : Nat) : Hears fieldRegs n Lsn.fieldless d (d.fieldWent n) := by
  have hgone := ((hears_lsnLeave d n).mono (M := fieldRegs) (by decide)).trans
    ((hears_lsnEnd _ fieldRegs n .off).trans (.modLsn fieldRegs _ n fun l => { l with field := false, uid := [], freq := 0 }))
  exact hgone.trans (.ofRx n (.cond _ (.setOn _ F.LDG_EH_ACTIVE 0 0 false (by decide))))

theorem Dev.ses_fieldWent (n k : Nat) : (d.fieldWent n).ses k =
    if (d.ch n).lsn.sess = some k then { gen := ((d.ses k).gen + 1) % 256 } else d.ses k := by
  have hcond (e : Dev) : (e.cond (n == 0) fun d => d.setOn F.LDG_EH_ACTIVE 0 0 false).ses k = e.ses k := by
    unfold Dev.cond; split <;> rfl
  have hmod (e : Dev) (g : Lsn → Lsn) : (e.modLsn n g).ses k = e.ses k := rfl
  have hses : (d.lsnLeave n).ses k = d.ses k := by rw [Dev.ses, d.sess_lsnLeave, Dev.ses]
  rw [Dev.fieldWent, hcond, hmod, Dev.ses_lsnEnd, (hears_lsnLeave d n).own, hses]

/-- CH000's harvester has lost its field (R317); another channel's listener has none. -/
theorem Dev.eh_fieldWent (n : Nat) : (n = 0 → (d.fieldWent n).on F.LDG_EH_ACTIVE = false) ∧
    (n ≠ 0 → (d.fieldWent n).rd .LDG_EH = d.rd .LDG_EH) := by
  refine ⟨?_, fun hn => ?_⟩
  · rintro rfl
    exact Dev.on_setOn_same _ _ _ _ _ (by decide) rfl
  · have hgone : Hears stdRegs n _ d ((d.lsnLeave n).lsnEnd n .off) := (hears_lsnLeave d n).trans (hears_lsnEnd _ stdRegs n .off)
    rw [Dev.fieldWent, Dev.cond, if_neg (by simpa using hn)]
    exact hgone.kept.regs _ 0 0 (by decide)

/-! ### The thresholds of field detection (R289) -/

/-- A plain field that no seal guards takes what lies in its range (R7, R687). -/
theorem FldRow.put_plain {f : FldRow} (ha : f.acc = .rw) (hs : f.isSealed = false) (opn : Bool) (cur v : Nat) :
    f.put opn cur v = if inRange f.rng (bits v f.fld.lo f.fld.w) then setBits cur f.fld.lo f.fld.w (bits v f.fld.lo f.fld.w) else cur := by
  simp only [FldRow.put, ha, hs, Bool.false_and, Bool.false_eq_true, if_false]

/-- A register whose field takes a value, or stands. -/
def putIf (p : Prop) [Decidable p] (cur lo w x : Nat) : Nat := if p then setBits cur lo w x else cur

theorem putIf_lt {p : Prop} [Decidable p] {cur lo w x n : Nat} (hc : cur < 2 ^ n) (h : lo + w ≤ n) : putIf p cur lo w x < 2 ^ n := by
  unfold putIf; split
  · exact setBits_lt hc h
  · exact hc

theorem bits_putIf_same (p : Prop) [Decidable p] (cur v lo w : Nat) :
    bits (putIf p cur lo w (bits v lo w)) lo w = if p then bits v lo w else bits cur lo w := by
  unfold putIf; split
  · rw [bits_setBits_same, Nat.mod_eq_of_lt (bits_lt v lo w)]
  · rfl

theorem bits_putIf_other {p : Prop} [Decidable p] {cur lo w x l k : Nat} (h : l + k ≤ lo ∨ lo + w ≤ l) :
    bits (putIf p cur lo w x) l k = bits cur l k := by
  unfold putIf; split
  · exact bits_setBits_other h
  · rfl

/-- A plain write of the thresholds takes ON from 2 and OFF from 1 to 254 (R687). -/
theorem Dev.rd_fd_plainWrite (nv : NonVol) (n v : Nat) : (d.plainWrite nv .CH_LSN_FD n 0 v).rd .CH_LSN_FD n 0 =
    putIf (1 ≤ bits v 8 8 ∧ bits v 8 8 ≤ 254) (putIf (2 ≤ bits v 0 8) (d.rd .CH_LSN_FD n 0) 0 8 (bits v 0 8)) 8 8 (bits v 8 8) := by
  have hon : inRange [(2, 255)] (bits v 0 8) = decide (2 ≤ bits v 0 8) := by
    have hlt := bits_lt v 0 8
    simp [inRange]; omega
  have hoff : inRange [(1, 254)] (bits v 8 8) = decide (1 ≤ bits v 8 8 ∧ bits v 8 8 ≤ 254) := by simp [inRange]
  rw [d.rd_plainWrite nv n 0 v (by decide)]
  simp only [fieldRows, List.foldl_cons, List.foldl_nil]
  rw [FldRow.put_plain rfl rfl, FldRow.put_plain rfl rfl]
  simp only [F.CH_LSN_FD_ON, F.CH_LSN_FD_OFF, hon, hoff, decide_eq_true_eq]
  exact Nat.mod_eq_of_lt (putIf_lt (putIf_lt (d.rd_lt _ _ _) (by decide)) (by decide))

theorem Dev.fd_plainWrite (nv : NonVol) (n v : Nat) :
    (d.plainWrite nv .CH_LSN_FD n 0 v).fld F.CH_LSN_FD_ON n =
      (if 2 ≤ bits v 0 8 then bits v 0 8 else d.fld F.CH_LSN_FD_ON n) ∧
    (d.plainWrite nv .CH_LSN_FD n 0 v).fld F.CH_LSN_FD_OFF n =
      if 1 ≤ bits v 8 8 ∧ bits v 8 8 ≤ 254 then bits v 8 8 else d.fld F.CH_LSN_FD_OFF n := by
  simp only [Dev.fld, F.CH_LSN_FD_ON, F.CH_LSN_FD_OFF, Dev.rd_fd_plainWrite]
  exact ⟨(bits_putIf_other (by decide)).trans (bits_putIf_same _ _ v 0 8),
    (bits_putIf_same _ _ v 8 8).trans (by rw [bits_putIf_other (by decide)])⟩

end Sys2Proof.Machine

namespace Sys2Proof.Proofs

open Sys2Proof.Machine Sys2Proof.Safety

section Field

variable {ch : Fin 192} {s : State}

theorem idle_listenFieldPresent {amps : List Nat} (freq : Int)
    (h : s.dev.listens ch = false ∨ (s.dev.ch ch).lsn.field = true ∨
      for32 amps (fun a => decide (10 * s.dev.fld F.CH_LSN_FD_ON ch ≤ a)) = false) : Idle (.listenFieldPresent ch amps freq) s := by
  change execListenFieldPresent ch amps freq s = _
  rcases h with h | h | h <;> simp [execListenFieldPresent, onDev, h]

theorem does_listenFieldPresent {amps : List Nat} (freq : Int) (hl : s.dev.listens ch = true) (hf : (s.dev.ch ch).lsn.field = false)
    (hthere : for32 amps (fun a => decide (10 * s.dev.fld F.CH_LSN_FD_ON ch ≤ a)) = true) :
    Does (.listenFieldPresent ch amps freq) s fun t =>
      ∃ u, (t.dev.ch ch).lsn = { armed := (s.dev.ch ch).lsn.armed, field := true, since := s.dev.tc, state := .idle, uid := u,
                                 freq := clampInt (-32768) 32767 freq } ∧
      (s.dev.fld F.CH_LSN_ID_UID_MODE ch = 0 → u = toLe 4 (s.dev.rd .CH_LSN_UID0 ch)) ∧
      (s.dev.fld F.CH_LSN_ID_UID_MODE ch = 1 → u = toLe 4 (s.dev.rd .CH_LSN_UID0 ch) ++ toLe 3 (s.dev.rd .CH_LSN_UID1 ch)) ∧
      (2 ≤ s.dev.fld F.CH_LSN_ID_UID_MODE ch → u.length = 4 ∧ u.head? = some 0x08) ∧
      ChansStand [ch.val] s t ∧ Works admRegs s t := by
  have hexec : exec (.listenFieldPresent ch amps freq) s = .next { s with dev := s.dev.fieldCame ch freq } := by
    obtain ⟨c, hc⟩ := s.dev.lsnUid_free ch
    have htc : (s.dev.lsnUid ch).2.tc = s.dev.tc := by rw [hc]; rfl
    change execListenFieldPresent ch amps freq s = _
    simp only [execListenFieldPresent, onDev, hl, hf, hthere, Bool.not_false, Bool.and_self, if_true, Dev.fieldCame, htc]
    rfl
  obtain ⟨hown, hothers⟩ := s.dev.ch_fieldCame ch freq
  exact ⟨_, hexec, _, hown, s.dev.lsnUid_four, s.dev.lsnUid_seven, s.dev.lsnUid_random,
    fun k hk => hothers k (List.ne_of_not_mem_cons hk), works_of_kept s (kept_fieldCame s.dev ch freq)⟩

theorem idle_listenFieldAbsent {amps : List Nat}
    (h : (s.dev.ch ch).lsn.field = false ∨ for32 amps (fun a => decide (a < 10 * s.dev.fld F.CH_LSN_FD_OFF ch)) = false) :
    Idle (.listenFieldAbsent ch amps) s := by
  change execListenFieldAbsent ch amps s = _
  rcases h with h | h <;> simp [execListenFieldAbsent, onDev, h]

theorem does_listenFieldAbsent {amps : List Nat} (hf : (s.dev.ch ch).lsn.field = true)
    (hgone : for32 amps (fun a => decide (a < 10 * s.dev.fld F.CH_LSN_FD_OFF ch)) = true) :
    Does (.listenFieldAbsent ch amps) s fun t =>
      (t.dev.ch ch).lsn.armed = (s.dev.ch ch).lsn.armed ∧ (t.dev.ch ch).lsn.field = false ∧ (t.dev.ch ch).lsn.state = .off ∧
      (t.dev.ch ch).lsn.uid = [] ∧ (t.dev.ch ch).lsn.sess = none ∧ (t.dev.ch ch).lsn.staged = none ∧
      (t.dev.ch ch).lsn.waiting = false ∧
      (∀ k, (s.dev.ch ch).lsn.sess = some k → t.dev.ses k = { gen := ((s.dev.ses k).gen + 1) % 256 }) ∧
      (∀ k, (s.dev.ch ch).lsn.sess ≠ some k → t.dev.ses k = s.dev.ses k) ∧
      (∀ k, k ≠ ch.val → (t.dev.ch k).lsn = (s.dev.ch k).lsn) ∧
      (ch.val = 0 → t.dev.on F.LDG_EH_ACTIVE = false) ∧
      (ch.val ≠ 0 → t.dev.rd .LDG_EH = s.dev.rd .LDG_EH) ∧
      Works (admRegs ++ [.LDG_EH]) { s with dev := { s.dev with sess := t.dev.sess } } t := by
  have hexec : exec (.listenFieldAbsent ch amps) s = .next { s with dev := (s.dev.fieldWent ch).retry (pavOf ch) } := by
    change execListenFieldAbsent ch amps s = _
    simp only [execListenFieldAbsent, onDev, hf, hgone, Bool.and_self, if_true]
    rfl
  have hretry := kept_retry (s.dev.fieldWent ch) (pavOf ch)
  have hall := (hears_fieldWent s.dev ch).trans
    (.ofStand ch (lsnsStand_retry _ (pavOf ch)) (hretry.mono (M := fieldRegs) (by decide)))
  have hses (k : Nat) : ((s.dev.fieldWent ch).retry (pavOf ch)).ses k =
      if (s.dev.ch ch).lsn.sess = some k then { gen := ((s.dev.ses k).gen + 1) % 256 } else s.dev.ses k := by
    rw [Dev.ses, hretry.sess]; exact s.dev.ses_fieldWent ch k
  obtain ⟨hzero, hother⟩ := s.dev.eh_fieldWent ch
  refine ⟨_, hexec, ?_⟩
  generalize (s.dev.fieldWent ch).retry (pavOf ch) = e at hretry hall hses ⊢
  have hlsn : (e.ch ch).lsn = (s.dev.ch ch).lsn.fieldless := hall.own
  dsimp only
  rw [hlsn]
  exact ⟨rfl, rfl, rfl, rfl, rfl, rfl, rfl, fun k hk => (hses k).trans (if_pos hk), fun k hk => (hses k).trans (if_neg hk),
    hall.others, fun h0 => (hretry.on F.LDG_EH_ACTIVE 0 0 (by decide)).trans (hzero h0),
    fun h0 => (hretry.regs .LDG_EH 0 0 (by decide)).trans (hother h0), rfl, rfl, hall.kept⟩

theorem exec_lsnFdWrite (v : Word) : exec (.lsnFdWrite ch v) s = .next { s with dev := s.dev.lsnFdWrite s.nv ch v.toNat } := rfl

theorem lsnFdWrite_cases (v : Word) {on off : Nat}
    (hon : on = if 2 ≤ bits v.toNat 0 8 then bits v.toNat 0 8 else s.dev.fld F.CH_LSN_FD_ON ch)
    (hoff : off = if 1 ≤ bits v.toNat 8 8 ∧ bits v.toNat 8 8 ≤ 254 then bits v.toNat 8 8 else s.dev.fld F.CH_LSN_FD_OFF ch) :
    (on ≤ off → Idle (.lsnFdWrite ch v) s) ∧
    (off < on → Does (.lsnFdWrite ch v) s fun t =>
      t.dev.fld F.CH_LSN_FD_ON ch = on ∧ t.dev.fld F.CH_LSN_FD_OFF ch = off ∧ OnlyRegs [(.CH_LSN_FD, ch, 0)] s t) := by
  obtain ⟨hnewOn, hnewOff⟩ := s.dev.fd_plainWrite s.nv ch v.toNat
  rw [← hon] at hnewOn
  rw [← hoff] at hnewOff
  refine ⟨fun h => ?_, fun h => ⟨_, exec_lsnFdWrite v, ?_⟩⟩
  · rw [Idle, exec_lsnFdWrite, Dev.lsnFdWrite, hnewOn, hnewOff, if_pos h]
  · rw [Dev.lsnFdWrite, hnewOn, hnewOff, if_neg (Nat.not_le.2 h)]
    exact ⟨hnewOn, hnewOff, onlyRegs_plainWrite s s.nv ch 0 v.toNat (by decide)⟩

end Field

/-- Settles O21: the field that comes readies its listener with a UID (`Dev.fieldCame`), the field that goes ends the listener's session
(`Dev.ses_lsnEnd`) before the transactions are judged again, which leaves every listener (`lsnsStand_retry`), and a write of the thresholds
is a plain write (`Dev.fd_plainWrite`) or nothing. -/
theorem listenerField : Obligations.ListenerField := by
  refine ⟨?_, ?_, fun ch v s on off hon hoff => lsnFdWrite_cases v hon hoff⟩
  · rintro ch amps freq s _ rfl
    exact ⟨idle_listenFieldPresent freq, does_listenFieldPresent freq⟩
  · rintro ch amps s _ rfl
    exact ⟨idle_listenFieldAbsent, does_listenFieldAbsent⟩

end Sys2Proof.Proofs
end

section
/-! PROOFS. A reader's frame at its end edge: what its end leaves before the listener takes the frame. -/

namespace Sys2Proof.Machine

open Sys2Proof.Safety

variable (d : Dev)

/-! ### The end edge (R131, R145, R153) -/

/-- A listener whose frame is over: it is out of the frame, and keeps the end edge and the frame's last bit (R153, R297). -/
def Lsn.frameOver (q : Nat) (f : RxFrame) (l : Lsn) : Lsn :=
  { l with inFrame := false, endTc := (q + 3) / 4, endOne := lastBitA f.data (f.lastBits % 8) }

/-- The device at a reader frame's end edge q, with the receive path out of the frame. -/
def Dev.readerEnded (n q : Nat) (f : RxFrame) : Dev :=
  (d.modLsn n fun l => { l with endTc := (q + 3) / 4, endOne := lastBitA f.data (f.lastBits % 8) }).lsnFrameEnd n

/-- The same with the frame's bit rate measured, over a bit duration of e. -/
def Dev.readerFramed (n q e : Nat) (f : RxFrame) (x : ReaderRaw) : Dev :=
  ((d.readerEnded n q f).rateErr e x.durBits x.dur).2.setFld F.CH_FRM_QUAL_RATE_ERR n 0
    (ofInt 8 (clampInt (-128) 127 ((d.readerEnded n q f).rateErr e x.durBits x.dur).1))

theorem rxOnly_rateMeasured (L : List RegName) (e b t : Nat) : RxOnly L d (d.rateErr e b t).2 := by
  obtain ⟨k, hk⟩ := d.rateErr_free e b t
  rw [hk]; exact .freeCtr L d k

/-- Beside the listener itself the end of a frame changes what the receive chain holds and measures. -/
theorem rxOnly_readerFramed (n q e : Nat) (f : RxFrame) (x : ReaderRaw) : RxOnly heardRegs
    ((d.modLsn n fun l => { l with endTc := (q + 3) / 4, endOne := lastBitA f.data (f.lastBits % 8) }).modLsn n fun l =>
      { l with inFrame := false }) (d.readerFramed n q e f x) :=
  (((rxOnly_lsnFrameEnd _ n).mono (by decide)).trans (rxOnly_rateMeasured _ _ e _ _)).trans
    (.setFld _ F.CH_FRM_QUAL_RATE_ERR n 0 _ (by decide))

theorem hears_readerFramed (n q e : Nat) (f : RxFrame) (x : ReaderRaw) :
    Hears heardRegs n (Lsn.frameOver q f) d (d.readerFramed n q e f x) :=
  ((Hears.modLsn _ d n _).trans (.modLsn _ _ n fun l => { l with inFrame := false })).trans (.ofRx n (rxOnly_readerFramed d n q e f x))

theorem Dev.sess_readerFramed (n q e : Nat) (f : RxFrame) (x : ReaderRaw) : (d.readerFramed n q e f x).sess = d.sess :=
  (rxOnly_readerFramed d n q e f x).kept.sess

/-! ### What says whether a channel listens (R288) -/

theorem RxOnly.listens {L : List RegName} {d e : Dev} (a : RxOnly L d e) (n : Nat) : e.listens n = d.listens n := by
  simp only [Dev.listens, a.role, a.borrowed, a.pav, a.kept.pwr]

theorem Dev.listens_modLsn (n : Nat) (g : Lsn → Lsn) : (d.modLsn n g).listens n = d.listens n := by
  have hpav (p : Nat) : (d.modLsn n g).pav p = d.pav p := rfl
  have hpwr : (d.modLsn n g).pwr = d.pwr := rfl
  simp only [Dev.listens, hpav, hpwr]
  rw [Dev.modLsn, Dev.ch_modCh_same]

theorem Dev.listens_readerFramed (n q e : Nat) (f : RxFrame) (x : ReaderRaw) : (d.readerFramed n q e f x).listens n = d.listens n := by
  rw [(rxOnly_readerFramed d n q e f x).listens, Dev.listens_modLsn, Dev.listens_modLsn]

/-! ### The change at the end edge, seen from outside it -/

theorem Hears.atIndex {L : List RegName} {n i : Nat} {g : Lsn → Lsn} {d : Dev} {h : Dev → Dev}
    (a : Hears L n g (d.atEdge i) (h (d.atEdge i))) : Hears L n g d (d.atIndex i h) where
  own := a.own
  others := a.others
  kept := { a.kept with
    time := by
      change { (h (d.atEdge i)).time with edge := d.time.edge } = d.time
      rw [a.kept.time]; rfl }

end Sys2Proof.Machine
end

section
/-! PROOFS. What a reader's frame makes a listener do, state by state. -/

namespace Sys2Proof.Machine

open Sys2Proof.Safety

variable (d : Dev)

/-- A listener takes a frame (R145, R294): its channel listens and sees a field since 100 µs, and the frame is whole and in tolerance. -/
structure Dev.TakesFrame (d : Dev) (n : Nat) (f : RxFrame) (inRate : Bool) : Prop where
  listens : d.listens n = true
  field   : (d.ch n).lsn.field = true
  inRate  : inRate = true
  ready   : (d.ch n).lsn.since + usTc 100 ≤ d.tc
  whole   : rxBroken f (!rxNoCrc f) = false

theorem Dev.lsnOnFrame_ignored {n : Nat} {f : RxFrame} {inRate : Bool}
    (h : d.listens n = false ∨ (d.ch n).lsn.field = false ∨ inRate = false ∨ d.tc < (d.ch n).lsn.since + usTc 100 ∨
      rxBroken f (!rxNoCrc f) = true ∨ (d.ch n).lsn.state = .off) : d.lsnOnFrame n f inRate = d := by
  unfold Dev.lsnOnFrame
  dsimp only
  split
  · rfl
  · next hpass =>
    simp only [Bool.or_eq_true, Bool.not_eq_true', decide_eq_true_eq, not_or, Bool.not_eq_false, Bool.not_eq_true] at hpass
    obtain ⟨⟨⟨⟨hlistens, hfield⟩, hrate⟩, hready⟩, hwhole⟩ := hpass
    rcases h with h | h | h | h | h | h
    · rw [hlistens] at h; cases h
    · rw [hfield] at h; cases h
    · rw [hrate] at h; cases h
    · exact absurd h hready
    · rw [hwhole] at h; cases h
    · rw [h]

/-- A listener starts from a state with nothing staged. -/
def Dev.lsnRest (n : Nat) (st : LsnState) : Dev := d.modLsn n fun l => { l with state := st, level := 1, staged := none }

section Takes

variable {d} {n : Nat} {f : RxFrame} {inRate : Bool}

theorem Dev.TakesFrame.passes (h : d.TakesFrame n f inRate) : (!d.listens n || !(d.ch n).lsn.field || !inRate ||
    decide (d.tc < (d.ch n).lsn.since + usTc 100) || rxBroken f (!rxNoCrc f)) = false := by
  rw [h.listens, h.field, h.inRate, h.whole, decide_eq_false (Nat.not_lt.2 h.ready)]; rfl

/-! What a listener that takes a frame does in each state (R294). -/

theorem Dev.TakesFrame.idle_wakes (h : d.TakesFrame n f inRate) (hs : (d.ch n).lsn.state = .idle)
    (hreq : rxShort f 0x26 = true ∨ rxShort f 0x52 = true) :
    d.lsnOnFrame n f inRate = (d.lsnRest n .ready).lsnStage n (atqa (d.ch n).lsn.uid) (fixed := true) := by
  have hreq' : (rxShort f 0x52 || rxShort f 0x26) = true := by simpa [or_comm] using hreq
  simp only [Dev.lsnOnFrame, h.passes, hs, hreq', Bool.false_eq_true, if_false, if_true]
  rfl

theorem Dev.TakesFrame.halt_wakes (h : d.TakesFrame n f inRate) (hs : (d.ch n).lsn.state = .halt) (hreq : rxShort f 0x52 = true) :
    d.lsnOnFrame n f inRate = (d.lsnRest n .readyS).lsnStage n (atqa (d.ch n).lsn.uid) (fixed := true) := by
  simp only [Dev.lsnOnFrame, h.passes, hs, hreq, Bool.false_eq_true, if_false, if_true]
  rfl

theorem Dev.TakesFrame.halt_stays (h : d.TakesFrame n f inRate) (hs : (d.ch n).lsn.state = .halt) (hreq : rxShort f 0x52 = false) :
    d.lsnOnFrame n f inRate = d := by
  simp only [Dev.lsnOnFrame, h.passes, hs, hreq, Bool.false_eq_true, if_false]

theorem Dev.TakesFrame.ready_goes (h : d.TakesFrame n f inRate) (hs : (d.ch n).lsn.state = .ready) {e : Dev}
    (hready : d.lsnReady n (d.ch n).lsn f = some e) : d.lsnOnFrame n f inRate = e := by
  simp only [Dev.lsnOnFrame, h.passes, hs, hready, Bool.false_eq_true, if_false, Option.getD_some]

theorem Dev.TakesFrame.active_halts (h : d.TakesFrame n f inRate) (hs : (d.ch n).lsn.state = .active)
    (hhlta : f.data.take 2 = [0x50, 0x00]) (hlen : f.data.length = 4) : d.lsnOnFrame n f inRate = d.lsnRest n .halt := by
  have hbytes : f.data.take 2 = bytes [0x50, 0x00] ∧ f.data.length = 4 := ⟨hhlta, hlen⟩
  simp only [Dev.lsnOnFrame, h.passes, hs, Bool.false_eq_true, if_false, if_pos hbytes]
  rfl

theorem Dev.TakesFrame.active_rats (h : d.TakesFrame n f inRate) (hs : (d.ch n).lsn.state = .active) (hrats : byteAt f.data 0 = 0xE0)
    (hlen : f.data.length = 4) : d.lsnOnFrame n f inRate = d.lsnRats n (d.ch n).lsn f := by
  have hother : ¬ (f.data.take 2 = bytes [0x50, 0x00] ∧ f.data.length = 4) := by
    rintro ⟨hhlta, -⟩
    have hfirst : byteAt (f.data.take 2) 0 = byteAt f.data 0 := by simp [byteAt]
    rw [hhlta, hrats] at hfirst
    exact absurd hfirst (by decide)
  simp only [Dev.lsnOnFrame, h.passes, hs, Bool.false_eq_true, if_false]
  rw [if_neg hother, if_pos ⟨hrats, hlen⟩]

theorem Dev.TakesFrame.protocol (h : d.TakesFrame n f inRate) {k : Nat} (hs : (d.ch n).lsn.state = .protocol)
    (hses : (d.ch n).lsn.sess = some k) : d.lsnOnFrame n f inRate = d.lsnProtocol n k f := by
  simp only [Dev.lsnOnFrame, h.passes, hs, hses, Bool.false_eq_true, if_false]

end Takes

/-! ### Answers that are staged (R297) -/

theorem Dev.lsnTxRate_modLsn (n : Nat) (g : Lsn → Lsn) (h : ∀ l, (g l).sess = l.sess := by intro; rfl) :
    (d.modLsn n g).lsnTxRate n = d.lsnTxRate n := by
  have hses (k : Nat) : (d.modLsn n g).ses k = d.ses k := rfl
  simp only [Dev.lsnTxRate, hses]
  rw [Dev.modLsn, Dev.ch_modCh_same, h]

theorem hears_lsnStage (L : List RegName) (n : Nat) (b : List Byte) (align : Nat) (fixed ats : Bool) :
    Hears L n (fun l => { l with staged := some { data := b, align := align, rate := d.lsnTxRate n, fixed := fixed, ats := ats } })
      d (d.lsnStage n b align fixed ats) := .modLsn L d n _

/-- A listener that REQA or WUPA wakes stages its ATQA (R295). -/
def Lsn.woken (st : LsnState) (rate : Nat) (l : Lsn) : Lsn :=
  { l with state := st, level := 1, staged := some { data := atqa l.uid, rate := rate, fixed := true } }

theorem hears_woken (L : List RegName) (n : Nat) (st : LsnState) :
    Hears L n (Lsn.woken st (d.lsnTxRate n)) d ((d.lsnRest n st).lsnStage n (atqa (d.ch n).lsn.uid) (fixed := true)) := by
  have hrate : (d.lsnRest n st).lsnTxRate n = d.lsnTxRate n := d.lsnTxRate_modLsn n _
  refine ((Hears.modLsn L d n _).trans (hears_lsnStage (d.lsnRest n st) L n _ 0 true false)).congr ?_
  rw [hrate]; rfl

/-! ### SELECT (R294, R295) -/

/-- A frame whose kind bears a CRC and that is not broken has a good one. -/
theorem crcGood_of_whole {f : RxFrame} (h : rxBroken f (!rxNoCrc f) = false) (hcrc : rxNoCrc f = false) : crcGood .nfcA f.data = true := by
  rw [hcrc] at h
  simp only [rxBroken, Bool.or_eq_false_iff, Bool.not_false, Bool.true_and, Bool.not_eq_false'] at h
  exact h.2

/-- SELECT of a whole four-byte UID. -/
structure RxFrame.Selects (f : RxFrame) (uid : List Byte) : Prop where
  length : f.data.length = 9
  sel    : byteAt f.data 0 = 0x93
  nvb    : byteAt f.data 1 = 0x70
  uid    : slice f.data 2 5 = uid ++ [xorAll uid]

/-- A listener that SELECT has selected stages its SAK (R295). -/
def Lsn.selected (rate : Nat) (l : Lsn) : Lsn :=
  { l with state := .active, staged := some { data := withCrc .nfcA [0x20], rate := rate, fixed := true } }

theorem Dev.lsnReady_select {n : Nat} {f : RxFrame} {l : Lsn} (h : f.Selects l.uid) (hwhole : rxBroken f (!rxNoCrc f) = false)
    (hstate : l.state = .ready) (hlevel : l.level = 1) (hfour : l.uid.length = 4) : d.lsnReady n l f =
      some ((d.lsnStage n (withCrc .nfcA (bytes [0x20])) (fixed := true)).modLsn n fun x => { x with state := .active }) := by
  have hcrc : crcGood .nfcA f.data = true := crcGood_of_whole hwhole (by simp [rxNoCrc, h.length, h.sel, h.nvb])
  have hbytes : lsnLevel l.uid 1 = l.uid ++ [xorAll l.uid] := by rw [lsnLevel, if_pos hfour]
  have hlast : lsnLast l.uid 1 = true := by rw [lsnLast, hfour]; rfl
  simp only [Dev.lsnReady, hlevel, h.sel, h.nvb, h.length, h.uid, hcrc, hbytes, hlast, hstate, selCode, beq_self_eq_true, Bool.and_self,
    if_true]
  rfl

theorem hears_selected (L : List RegName) (n : Nat) : Hears L n (Lsn.selected (d.lsnTxRate n)) d
    ((d.lsnStage n (withCrc .nfcA (bytes [0x20])) (fixed := true)).modLsn n fun x => { x with state := .active }) :=
  (hears_lsnStage d L n _ 0 true false).trans (.modLsn L _ n fun x => { x with state := .active })

/-! ### RATS (R294, R328 to R330) -/

theorem Dev.allocSes_refused {n : Nat} (g : Sess → Sess) (h : d.sessionsOf n ≠ []) :
    d.allocSes n 1 g = (none, d.addFld F.SYS_SESS_FULL_COUNT 0 0 1) := by
  have hlen : (d.sessionsOf n).length ≥ 1 := List.length_pos_iff.2 h
  rw [Dev.allocSes, if_pos hlen]

/-- The device with a context changed, and the peak of open contexts (R328). -/
def Dev.sesOpened (k : Nat) (g : Sess → Sess) : Dev :=
  (d.modSes k g).setFld F.SYS_SESS_STAT_PEAK 0 0 (max ((d.modSes k g).fld F.SYS_SESS_STAT_PEAK) (d.modSes k g).sesActive)

/-- The lowest free context is allocated to a channel that holds none (R328). -/
theorem Dev.allocSes_lowest {n k : Nat} (g : Sess → Sess) (hnone : d.sessionsOf n = []) (hk : k < 384) (hfree : (d.ses k).kind = .free)
    (hlow : ∀ j < k, (d.ses j).kind ≠ .free) : d.allocSes n 1 g = (some k, d.sesOpened k fun x => g { x with chan := n }) := by
  have hfind : (List.range 384).find? (fun s => decide ((d.ses s).kind = .free)) = some k :=
    List.find?_range_eq_some.2 ⟨by simpa using hfree, List.mem_range.2 hk, fun j hj => by simpa using hlow j hj⟩
  have hlen : ¬ (d.sessionsOf n).length ≥ 1 := by rw [hnone]; decide
  rw [Dev.allocSes, if_neg hlen, hfind]
  rfl

/-- The context that RATS opens (R294, R296, R330). -/
def Dev.ratsSes (n : Nat) (l : Lsn) (f : RxFrame) (x : Sess) : Sess :=
  { kind := .listenDep, state := 2, ident := l.uid, fsci := byteAt f.data 1 / 16, fsdi := d.fld F.CH_LSN_ATS_FSCI n,
    fwi := d.fld F.CH_LSN_ATS_FWI n, sfgi := d.fld F.CH_LSN_ATS_SFGI n, cid := byteAt f.data 1 % 16,
    cidUsed := d.on F.CH_LSN_ATS_CID_EN n, blockNum := 1, tOpen := d.stamp, tLast := d.stamp, answer := f.data.take 2 ++ d.ats n,
    gen := x.gen, chan := n }

/-- RATS where the channel holds a session already: no answer. -/
theorem Dev.lsnRats_refused {n : Nat} {l : Lsn} (f : RxFrame) (h : d.sessionsOf n ≠ []) (hs : l.state = .active) : d.lsnRats n l f =
    (d.addFld F.SYS_SESS_FULL_COUNT 0 0 1).modLsn n fun x => { x with state := .idle } := by
  simp only [Dev.lsnRats, d.allocSes_refused _ h, hs, reduceCtorEq, if_false]

theorem Dev.lsnRats_opens {n k : Nat} (l : Lsn) (f : RxFrame) (hnone : d.sessionsOf n = []) (hk : k < 384) (hfree : (d.ses k).kind = .free)
    (hlow : ∀ j < k, (d.ses j).kind ≠ .free) : d.lsnRats n l f =
      ((d.sesOpened k (d.ratsSes n l f)).lsnStage n (withCrc .nfcA (d.ats n)) (ats := true)).modLsn n fun x =>
        { x with state := .protocol, sess := some k } := by
  simp only [Dev.lsnRats, d.allocSes_lowest _ hnone hk hfree hlow]
  rfl

/-- A listener whose RATS has opened session k. -/
def Lsn.opened (k : Nat) (ats : List Byte) (l : Lsn) : Lsn :=
  { l with state := .protocol, sess := some k, staged := some { data := withCrc .nfcA ats, ats := true } }

theorem hears_ratsOpened {n k : Nat} (l : Lsn) (f : RxFrame) (hs : (d.ch n).lsn.sess = none) :
    Hears (heardRegs ++ [.SYS_SESS_STAT]) n (Lsn.opened k (d.ats n)) d
      (((d.sesOpened k (d.ratsSes n l f)).lsnStage n (withCrc .nfcA (d.ats n)) (ats := true)).modLsn n fun x =>
        { x with state := .protocol, sess := some k }) := by
  have hopen : Hears (heardRegs ++ [.SYS_SESS_STAT]) n (fun l => l) d (d.sesOpened k (d.ratsSes n l f)) :=
    (Hears.modSes _ d n k _).trans (.ofRx n (.setFld _ F.SYS_SESS_STAT_PEAK 0 0 _ (by decide)))
  have hrate : (d.sesOpened k (d.ratsSes n l f)).lsnTxRate n = 0 := by rw [Dev.lsnTxRate, hopen.own, hs]; rfl
  refine (hopen.trans ((hears_lsnStage _ _ n _ 0 false true).trans (.modLsn _ _ n fun x =>
    { x with state := .protocol, sess := some k }))).congr ?_
  rw [hrate]; rfl

/-! ### S(DESELECT) (R294, R298, R301) -/

/-- The session that a frame of the PROTOCOL state belongs to has been used. -/
def Dev.sesSeen (k : Nat) : Dev := d.modSes k fun x => { x with tLast := d.stamp }

/-- A frame of one block: its PCB and two CRC bytes. -/
theorem take_of_length_three {b : List Byte} (h : b.length = 3) : b.take (b.length - 2) = [b.getD 0 0] := by
  obtain ⟨x, y, z, rfl⟩ := List.length_eq_three.1 h
  rfl

/-- S(DESELECT) without a CID goes to the session. -/
theorem Dev.lsnProtocol_deselect {n k : Nat} {f : RxFrame} (hcid : (d.ses k).cidUsed = false ∨ (d.ses k).cid = 0)
    (hpcb : byteAt f.data 0 = 0xC2) (hlen : f.data.length = 3) :
    d.lsnProtocol n k f = ((d.sesSeen k).modLsn n fun l => { l with withCid := false }).lsnOnBlock n k 0xC2 [] := by
  have hbyte : f.data.getD 0 0 = 0xC2 := BitVec.eq_of_toNat_eq hpcb
  have htakes (c : Nat) : (d.ses k).takesCid false c = true := by
    rcases hcid with h | h <;> simp [Sess.takesCid, h]
  have hread : byteAt [(0xC2 : Byte)] 0 = 0xC2 := rfl
  have hpps : ¬ 0xC2 / 16 = 0xD := by decide
  have hplain : bitAt 0xC2 3 = false := by decide
  have hhandled : lsnPcb 0xC2 = true := by decide
  have hinf : [(0xC2 : Byte)].drop (1 + b2n false) = [] := rfl
  have hsome : ([(0xC2 : Byte)] != []) = true := rfl
  unfold Dev.lsnProtocol
  rw [take_of_length_three hlen, hbyte]
  simp only [hread, hpps, hplain, hhandled, htakes, hinf, hsome, Bool.and_self, if_false, if_true, Dev.sesSeen]

theorem Dev.lsnOnBlock_deselect (n k : Nat) (inf : List Byte) : d.lsnOnBlock n k 0xC2 inf =
    ((d.lsnEnd n .halt).lsnStage n (lsnBlock (d.ch n).lsn (d.ses k) 0xC2 [])).modLsn n fun l =>
      { l with staged := l.staged.map fun a => { a with rate := d.lsnTxRate n } } := by
  have hi : ¬ 0xC2 / 64 = 0 := by decide
  have hr : ¬ 0xC2 / 64 = 2 := by decide
  have hs : bits 0xC2 4 2 = 0 := by decide
  simp only [Dev.lsnOnBlock, hi, hr, hs, if_false, if_true]

/-- A listener that the reader has deselected answers with S(DESELECT) (R301). -/
def Lsn.deselected (rate : Nat) (l : Lsn) : Lsn :=
  { Lsn.ended .halt { l with withCid := false } with staged := some { data := withCrc .nfcA [0xC2], rate := rate } }

/-- The device once the reader has deselected a listener. -/
def Dev.lsnDeselected (n k : Nat) : Dev := ((d.sesSeen k).modLsn n fun l => { l with withCid := false }).lsnOnBlock n k 0xC2 []

theorem Dev.lsnTxRate_sesSeen (n k : Nat) : (d.sesSeen k).lsnTxRate n = d.lsnTxRate n := by
  have hch : (d.sesSeen k).ch n = d.ch n := rfl
  have hrate (j : Nat) : ((d.sesSeen k).ses j).rxRate = (d.ses j).rxRate := by
    by_cases hj : k = j
    · subst hj; rw [Dev.sesSeen, Dev.ses_modSes_same]
    · rw [Dev.sesSeen, Dev.ses_modSes_other _ _ hj]
  simp only [Dev.lsnTxRate, hch, hrate]

theorem hears_lsnDeselected (n k : Nat) : Hears heardRegs n (Lsn.deselected (d.lsnTxRate n)) d (d.lsnDeselected n k) := by
  have hseen : Hears heardRegs n (fun l => { l with withCid := false }) d ((d.sesSeen k).modLsn n fun l => { l with withCid := false }) :=
    (Hears.modSes _ d n k _).trans (.modLsn _ _ n _)
  have hrate : ((d.sesSeen k).modLsn n fun l => { l with withCid := false }).lsnTxRate n = d.lsnTxRate n := by
    rw [Dev.lsnTxRate_modLsn _ n fun l => { l with withCid := false }, Dev.lsnTxRate_sesSeen]
  have hblock (x : Sess) : lsnBlock (((d.sesSeen k).modLsn n fun l => { l with withCid := false }).ch n).lsn x 0xC2 [] =
      withCrc .nfcA [0xC2] := by rw [hseen.own]; rfl
  rw [Dev.lsnDeselected, Dev.lsnOnBlock_deselect, hblock, hrate]
  exact hseen.trans ((hears_lsnEnd _ _ n .halt).trans ((hears_lsnStage _ _ n _ 0 false false).trans (.modLsn _ _ n fun l =>
    { l with staged := l.staged.map fun a => { a with rate := d.lsnTxRate n } })))

/-- The session is released, its generation advances, and every other stands. -/
theorem Dev.ses_lsnDeselected {n k : Nat} (hses : (d.ch n).lsn.sess = some k) (j : Nat) : (d.lsnDeselected n k).ses j =
    if j = k then { gen := ((d.ses k).gen + 1) % 256 } else d.ses j := by
  have hmod (e : Dev) (g : Lsn → Lsn) (j : Nat) : (e.modLsn n g).ses j = e.ses j := rfl
  have hstage (e : Dev) (b : List Byte) : (e.lsnStage n b).ses j = e.ses j := rfl
  have hown : (((d.sesSeen k).modLsn n fun l => { l with withCid := false }).ch n).lsn.sess = some k := by
    rw [(Hears.modLsn [] _ n _).own]; exact hses
  rw [Dev.lsnDeselected, Dev.lsnOnBlock_deselect, hmod, hstage, Dev.ses_lsnEnd, hown, hmod, Dev.sesSeen]
  by_cases hj : j = k
  · subst hj; rw [if_pos rfl, if_pos rfl, Dev.ses_modSes_same]
  · rw [if_neg (by simpa using Ne.symm hj), if_neg hj, Dev.ses_modSes_other _ _ (Ne.symm hj)]

end Sys2Proof.Machine
end

section
/-! PROOFS. READER_FRAME_RECEIVED: a reader's frame is decoded at its end edge, and its listener takes it (O22). -/

namespace Sys2Proof.Machine

open Sys2Proof.Safety

/-- The device at the end edge of a reader's frame, before its listener takes the frame (R145, R153). -/
def Dev.framedAt (d : Dev) (n : Nat) (x : ReaderRaw) : Dev :=
  (d.atEdge (x.stop - d.rxLat n)).readerFramed n (x.stop - d.rxLat n) (4 * bitTc .nfcA (d.lsnRate n)) (demodReader (d.lsnRate n) x) x

/-- The device once the listener has taken the frame, which it does at the end edge (R153). -/
def Dev.frameReceived (d : Dev) (n : Nat) (x : ReaderRaw) (f : RxFrame) (inRate : Bool) : Dev :=
  d.atIndex (x.stop - d.rxLat n) fun e =>
    (e.readerFramed n (x.stop - d.rxLat n) (4 * bitTc .nfcA (d.lsnRate n)) f x).lsnOnFrame n f inRate

/-- What a reader's frame is to the listener it reaches: the frame f, within tolerance or not, at the listener l that keeps its end
edge. -/
structure HeardAs (ch : Fin 192) (x : ReaderRaw) (s : State) (f : RxFrame) (l : Lsn) (inRate : Bool) : Prop where
  frame : f = demodReader (s.dev.lsnRate ch) x
  rate  : inRate = rateOk 50 (4 * bitTc .nfcA (s.dev.lsnRate ch)) x.durBits x.dur
  lsn   : l = (s.dev.ch ch).lsn.frameOver (x.stop - s.dev.rxLat ch) f
  due   : (x.stop + 3) / 4 ≤ s.dev.tc

namespace HeardAs

variable {ch : Fin 192} {x : ReaderRaw} {s : State} {f : RxFrame} {l : Lsn} {inRate : Bool}

theorem hears (h : HeardAs ch x s f l inRate) : Hears heardRegs ch (Lsn.frameOver (x.stop - s.dev.rxLat ch) f)
    (s.dev.atEdge (x.stop - s.dev.rxLat ch)) (s.dev.framedAt ch x) := by
  rw [h.frame]; exact hears_readerFramed _ _ _ _ _ x

theorem sess (_ : HeardAs ch x s f l inRate) : (s.dev.framedAt ch x).sess = s.dev.sess := Dev.sess_readerFramed _ _ _ _ _ x

theorem kept (h : HeardAs ch x s f l inRate) : Kept heardRegs (s.dev.atEdge (x.stop - s.dev.rxLat ch)) (s.dev.framedAt ch x) :=
  h.hears.keptAll h.sess

theorem own (h : HeardAs ch x s f l inRate) : ((s.dev.framedAt ch x).ch ch).lsn = l := by rw [h.hears.own, h.lsn]; rfl

theorem listens (_ : HeardAs ch x s f l inRate) : (s.dev.framedAt ch x).listens ch = s.dev.listens ch :=
  Dev.listens_readerFramed _ _ _ _ _ x

theorem tc (h : HeardAs ch x s f l inRate) : (s.dev.framedAt ch x).tc = s.dev.tc := by rw [Dev.tc, h.kept.time]; rfl

theorem txRate (h : HeardAs ch x s f l inRate) : (s.dev.framedAt ch x).lsnTxRate ch = s.dev.lsnTxRate ch := by
  have hlsn : l.sess = (s.dev.ch ch).lsn.sess := by rw [h.lsn]; rfl
  simp only [Dev.lsnTxRate, Dev.ses, h.sess, h.own, hlsn]

theorem ats (h : HeardAs ch x s f l inRate) : (s.dev.framedAt ch x).ats ch = s.dev.ats ch := by
  have hfld (fl : Fld) (hr : fl.reg ∉ heardRegs) : (s.dev.framedAt ch x).fld fl ch = s.dev.fld fl ch := h.kept.fld fl ch 0 hr
  have hon : (s.dev.framedAt ch x).on F.CH_LSN_ATS_CID_EN ch = s.dev.on F.CH_LSN_ATS_CID_EN ch := h.kept.on _ ch 0 (by decide)
  have hhist (j : Nat) : (s.dev.framedAt ch x).rd .CH_LSN_HIST ch j = s.dev.rd .CH_LSN_HIST ch j := h.kept.regs _ _ _ (by decide)
  simp only [Dev.ats, hon, hhist, hfld F.CH_LSN_ATS_RATES (by decide), hfld F.CH_LSN_ATS_HIST_LEN (by decide),
    hfld F.CH_LSN_ATS_FSCI (by decide), hfld F.CH_LSN_ATS_SAME_RATE (by decide), hfld F.CH_LSN_ATS_FWI (by decide),
    hfld F.CH_LSN_ATS_SFGI (by decide)]

/-- The command decodes the frame at its end edge and gives it to the listener. -/
theorem exec_eq (h : HeardAs ch x s f l inRate) : 
    exec (.readerFrameReceived ch x) s = .next { s with dev := s.dev.frameReceived ch x f inRate } := by
  have hnow : (s.dev.cond (s.dev.ch ch).lsn.field fun d => d.runTo ((x.stop + 3) / 4)) = s.dev := by
    unfold Dev.cond; split
    · exact s.dev.runTo_past _ h.due
    · rfl
  change execReaderFrameReceived ch x s = _
  simp only [execReaderFrameReceived, onDev, hnow, h.frame, h.rate]
  rfl

/-- What the listener does with the frame, told of the whole command. -/
theorem does (h : HeardAs ch x s f l inRate) {M : List RegName} {g : Lsn → Lsn} (hM : ∀ r, r ∈ heardRegs → r ∈ M)
    (a : Hears M ch g (s.dev.framedAt ch x) ((s.dev.framedAt ch x).lsnOnFrame ch f inRate)) :
    Does (.readerFrameReceived ch x) s fun t => (t.dev.ch ch).lsn = g l ∧
      t.dev.sess = ((s.dev.framedAt ch x).lsnOnFrame ch f inRate).sess ∧ LsnStand ch s t ∧
      Works M { s with dev := { s.dev with sess := t.dev.sess } } t := by
  have hframed : (s.dev.atEdge (x.stop - s.dev.rxLat ch)).readerFramed ch (x.stop - s.dev.rxLat ch)
      (4 * bitTc .nfcA (s.dev.lsnRate ch)) f x = s.dev.framedAt ch x := by rw [h.frame]; rfl
  have hall : Hears M ch (fun l => g (l.frameOver (x.stop - s.dev.rxLat ch) f)) s.dev (s.dev.frameReceived ch x f inRate) := by
    refine .atIndex ?_
    rw [hframed]
    exact (h.hears.mono hM).trans a
  refine ⟨_, h.exec_eq, ?_, ?_, hall.others, rfl, rfl, hall.kept⟩
  · rw [h.lsn]; exact hall.own
  · exact congrArg (fun e : Dev => (e.lsnOnFrame ch f inRate).sess) hframed

/-- The same where the sessions stand. -/
theorem does_alone (h : HeardAs ch x s f l inRate) {M : List RegName} {g : Lsn → Lsn} {e : Dev} (hM : ∀ r, r ∈ heardRegs → r ∈ M)
    (he : (s.dev.framedAt ch x).lsnOnFrame ch f inRate = e) (a : Hears M ch g (s.dev.framedAt ch x) e)
    (hs : e.sess = (s.dev.framedAt ch x).sess) : Does (.readerFrameReceived ch x) s fun t =>
      (t.dev.ch ch).lsn = g l ∧ LsnStand ch s t ∧ Works M s t := by
  subst he
  obtain ⟨t, ht, hown, hsess, hothers, hworks⟩ := h.does hM a
  rw [hsess, hs, h.sess] at hworks
  exact ⟨t, ht, hown, hothers, hworks⟩

theorem takes (h : HeardAs ch x s f l inRate) (hlisten : s.dev.listens ch = true) (hfield : l.field = true) (hrate : inRate = true)
    (hready : l.since + usTc 100 ≤ s.dev.tc) (hwhole : rxBroken f (!rxNoCrc f) = false) :
    (s.dev.framedAt ch x).TakesFrame ch f inRate where
  listens := h.listens.trans hlisten
  field := by rw [h.own]; exact hfield
  inRate := hrate
  ready := by rw [h.own, h.tc]; exact hready
  whole := hwhole

end HeardAs

end Sys2Proof.Machine

namespace Sys2Proof.Proofs

open Sys2Proof.Machine Sys2Proof.Safety

section Frames

variable {ch : Fin 192} {x : ReaderRaw} {s : State} {f : RxFrame} {l : Lsn} {inRate : Bool}

theorem readerFrame_ignored (h : HeardAs ch x s f l inRate) (hno : s.dev.listens ch = false ∨ l.field = false ∨ inRate = false ∨
    s.dev.tc < l.since + usTc 100 ∨ rxBroken f (!rxNoCrc f) = true ∨ l.state = .off) : Does (.readerFrameReceived ch x) s fun t =>
      (t.dev.ch ch).lsn = l ∧ LsnStand ch s t ∧ Works heardRegs s t := by
  rw [← h.listens, ← h.own, ← h.tc] at hno
  exact h.does_alone (fun _ hr => hr) (Dev.lsnOnFrame_ignored _ hno) (.ofStand ch (.refl _) (.refl _ _)) rfl

variable (h : HeardAs ch x s f l inRate) (ht : (s.dev.framedAt ch x).TakesFrame ch f inRate)
include h ht

theorem readerFrame_idle (hs : l.state = .idle) (hreq : rxShort f 0x26 = true ∨ rxShort f 0x52 = true) :
    Does (.readerFrameReceived ch x) s fun t => (t.dev.ch ch).lsn = l.woken .ready (s.dev.lsnTxRate ch) ∧ LsnStand ch s t ∧
      Works heardRegs s t := by
  rw [← h.txRate]
  exact h.does_alone (fun _ hr => hr) (ht.idle_wakes (h.own ▸ hs) hreq) (hears_woken _ _ ch .ready) rfl

theorem readerFrame_halt_wupa (hs : l.state = .halt) (hreq : rxShort f 0x52 = true) :
    Does (.readerFrameReceived ch x) s fun t => (t.dev.ch ch).lsn = l.woken .readyS (s.dev.lsnTxRate ch) ∧ LsnStand ch s t ∧
      Works heardRegs s t := by
  rw [← h.txRate]
  exact h.does_alone (fun _ hr => hr) (ht.halt_wakes (h.own ▸ hs) hreq) (hears_woken _ _ ch .readyS) rfl

theorem readerFrame_halt_other (hs : l.state = .halt) (hreq : rxShort f 0x52 = false) :
    Does (.readerFrameReceived ch x) s fun t => (t.dev.ch ch).lsn = l ∧ LsnStand ch s t ∧ Works heardRegs s t :=
  h.does_alone (fun _ hr => hr) (ht.halt_stays (h.own ▸ hs) hreq) (.ofStand ch (.refl _) (.refl _ _)) rfl

theorem readerFrame_select (hs : l.state = .ready) (hlevel : l.level = 1) (hfour : l.uid.length = 4) (hsel : f.Selects l.uid) :
    Does (.readerFrameReceived ch x) s fun t => (t.dev.ch ch).lsn = l.selected (s.dev.lsnTxRate ch) ∧ LsnStand ch s t ∧
      Works heardRegs s t := by
  rw [← h.txRate]
  have hready := (s.dev.framedAt ch x).lsnReady_select (n := ch) hsel ht.whole hs hlevel hfour
  rw [← h.own] at hready
  exact h.does_alone (fun _ hr => hr) (ht.ready_goes (h.own ▸ hs) hready) (hears_selected _ _ ch) rfl

theorem readerFrame_hlta (hs : l.state = .active) (hhlta : f.data.take 2 = [0x50, 0x00]) (hlen : f.data.length = 4) :
    Does (.readerFrameReceived ch x) s fun t => (t.dev.ch ch).lsn = { l with state := .halt, level := 1, staged := none } ∧
      LsnStand ch s t ∧ Works heardRegs s t :=
  h.does_alone (fun _ hr => hr) (ht.active_halts (h.own ▸ hs) hhlta hlen) (.modLsn _ _ ch _) rfl

theorem readerFrame_rats_refused (hs : l.state = .active) (hrats : byteAt f.data 0 = 0xE0) (hlen : f.data.length = 4)
    (hheld : s.dev.sessionsOf ch ≠ []) : Does (.readerFrameReceived ch x) s fun t =>
      (t.dev.ch ch).lsn = { l with state := .idle } ∧ LsnStand ch s t ∧ Works (heardRegs ++ [.SYS_SESS_FULL]) s t := by
  have hsessions : (s.dev.framedAt ch x).sessionsOf ch = s.dev.sessionsOf ch := by rw [Dev.sessionsOf, h.sess]; rfl
  have hactive : ((s.dev.framedAt ch x).ch ch).lsn.state = .active := h.own ▸ hs
  exact h.does_alone (fun _ => List.mem_append_left _)
    ((ht.active_rats hactive hrats hlen).trans (Dev.lsnRats_refused _ f (hsessions ▸ hheld) hactive))
    ((Hears.ofRx ch (.setFld _ F.SYS_SESS_FULL_COUNT 0 0 _ (by decide))).trans (.modLsn _ _ ch fun x => { x with state := .idle })) rfl

theorem readerFrame_rats_opens (hs : l.state = .active) (hrats : byteAt f.data 0 = 0xE0) (hlen : f.data.length = 4)
    (hnone : s.dev.sessionsOf ch = []) (hsess : l.sess = none) (k : Nat) (hk : k < 384) (hfree : (s.dev.ses k).kind = .free)
    (hlow : ∀ j < k, (s.dev.ses j).kind ≠ .free) : Does (.readerFrameReceived ch x) s fun t =>
      (t.dev.ch ch).lsn = l.opened k (s.dev.ats ch) ∧
      (t.dev.ses k).kind = .listenDep ∧ (t.dev.ses k).chan = ch.val ∧ (t.dev.ses k).gen = (s.dev.ses k).gen ∧
      (t.dev.ses k).ident = l.uid ∧ (∀ j, j ≠ k → t.dev.ses j = s.dev.ses j) ∧ LsnStand ch s t ∧
      Works (heardRegs ++ [.SYS_SESS_STAT]) { s with dev := { s.dev with sess := t.dev.sess } } t := by
  have hses (j : Nat) : (s.dev.framedAt ch x).ses j = s.dev.ses j := by rw [Dev.ses, h.sess]; rfl
  have hsessions : (s.dev.framedAt ch x).sessionsOf ch = [] := by rw [Dev.sessionsOf, h.sess]; exact hnone
  have hrun := (ht.active_rats (h.own ▸ hs) hrats hlen).trans (Dev.lsnRats_opens _ ((s.dev.framedAt ch x).ch ch).lsn f hsessions hk
    (by rw [hses]; exact hfree) fun j hj => by rw [hses]; exact hlow j hj)
  have hears := hears_ratsOpened (s.dev.framedAt ch x) (k := k) ((s.dev.framedAt ch x).ch ch).lsn f (h.own ▸ hsess)
  rw [← hrun, h.ats] at hears
  obtain ⟨t, hexec, hown, hsessT, hothers, hworks⟩ := h.does (fun _ => List.mem_append_left _) hears
  have hopened (j : Nat) : t.dev.ses j =
      ((s.dev.framedAt ch x).modSes k ((s.dev.framedAt ch x).ratsSes ch ((s.dev.framedAt ch x).ch ch).lsn f)).ses j := by
    rw [Dev.ses, hsessT, hrun]; rfl
  have hk' : t.dev.ses k = (s.dev.framedAt ch x).ratsSes ch l f (s.dev.ses k) := by
    rw [hopened, Dev.ses_modSes_same, hses, h.own]
  refine ⟨t, hexec, hown, ?_, ?_, ?_, ?_, fun j hj => ?_, hothers, hworks⟩
  · rw [hk']; rfl
  · rw [hk']; rfl
  · rw [hk']; rfl
  · rw [hk']; rfl
  · rw [hopened, Dev.ses_modSes_other _ _ (Ne.symm hj), hses]

theorem readerFrame_deselect (k : Nat) (hs : l.state = .protocol) (hsess : l.sess = some k)
    (hcid : (s.dev.ses k).cidUsed = false ∨ (s.dev.ses k).cid = 0) (hpcb : byteAt f.data 0 = 0xC2) (hlen : f.data.length = 3) :
    Does (.readerFrameReceived ch x) s fun t =>
      (t.dev.ch ch).lsn.state = .halt ∧ (t.dev.ch ch).lsn.sess = none ∧
      (t.dev.ch ch).lsn.staged = some { data := withCrc .nfcA [0xC2], rate := s.dev.lsnTxRate ch } ∧
      t.dev.ses k = { gen := ((s.dev.ses k).gen + 1) % 256 } ∧ (∀ j, j ≠ k → t.dev.ses j = s.dev.ses j) ∧ LsnStand ch s t ∧
      Works heardRegs { s with dev := { s.dev with sess := t.dev.sess } } t := by
  have hses (j : Nat) : (s.dev.framedAt ch x).ses j = s.dev.ses j := by rw [Dev.ses, h.sess]; rfl
  have hheld : ((s.dev.framedAt ch x).ch ch).lsn.sess = some k := h.own ▸ hsess
  have hrun : (s.dev.framedAt ch x).lsnOnFrame ch f inRate = (s.dev.framedAt ch x).lsnDeselected ch k :=
    (ht.protocol (h.own ▸ hs) hheld).trans (Dev.lsnProtocol_deselect _ (by rw [hses]; exact hcid) hpcb hlen)
  have hears := hears_lsnDeselected (s.dev.framedAt ch x) ch k
  rw [← hrun, h.txRate] at hears
  obtain ⟨t, hexec, hown, hsessT, hothers, hworks⟩ := h.does (fun _ hr => hr) hears
  have hreleased (j : Nat) : t.dev.ses j = if j = k then { gen := ((s.dev.ses k).gen + 1) % 256 } else s.dev.ses j := by
    rw [← hses k, ← hses j, ← Dev.ses_lsnDeselected _ hheld, Dev.ses, hsessT, hrun]; rfl
  refine ⟨t, hexec, ?_⟩
  dsimp only
  rw [hown]
  exact ⟨rfl, rfl, rfl, (hreleased k).trans (if_pos rfl), fun j hj => (hreleased j).trans (if_neg hj), hothers, hworks⟩

end Frames

/-- Settles O22: the frame is decoded at its end edge, which leaves beside the listener what the receive chain holds and measures
(`HeardAs.does`); what the listener then does is one lemma for each state and frame. -/
theorem listenerStates : Obligations.ListenerStates := by
  intro ch x s f l inRate hf hrate hl hdue
  have h : HeardAs ch x s f l inRate := ⟨hf, hrate, hl, hdue⟩
  refine ⟨readerFrame_ignored h, fun hlisten hfield hin hready hwhole => ?_⟩
  have ht := h.takes hlisten hfield hin hready hwhole
  exact ⟨readerFrame_idle h ht, readerFrame_halt_wupa h ht, readerFrame_halt_other h ht,
    fun hs hlevel hfour hlen hsel hnvb huid => readerFrame_select h ht hs hlevel hfour ⟨hlen, hsel, hnvb, huid⟩,
    readerFrame_hlta h ht,
    fun hs hrats hlen => ⟨readerFrame_rats_refused h ht hs hrats hlen, readerFrame_rats_opens h ht hs hrats hlen⟩,
    readerFrame_deselect h ht⟩

end Sys2Proof.Proofs
end

section
/-! PROOFS. SET_ROLE LISTEN on a channel that listens, whose listener names a session of another channel: it releases that session. -/

namespace Sys2Proof.Proofs

open Sys2Proof.Machine Sys2Proof.Safety

/-- A SET_ROLE of channel 0 to LISTEN. -/
def listenAgain : QDesc := { d := { op := 0x10, target := 0, param := [2] } }

/-- Session 5 is active for channel 1, and the listener of channel 0, in LISTEN, names it; channel 0 carries out the SET_ROLE. -/
def strayListener : State :=
  { dev := (({} : Dev).modSes 5 fun _ => { kind := .listenDep, chan := 1, state := 2 }).modCh 0 fun c =>
      { c with role := .listen, home := .listen, lsn := { state := .protocol, sess := some 5 }, tq := { run := some listenAgain } } }

/-- The state meets the conditions of a SET_ROLE that takes effect at once, and session 5 is none of channel 0's. -/
theorem strayListener_takesRole :
    strayListener.dev.running (0 : Fin 192) 0x10 = some listenAgain ∧ Role.listen = roleOf (byteAt listenAgain.d.param 0 % 8) ∧
    strayListener.dev.enLock (0 : Fin 192) = true ∧ strayListener.dev.engaged (0 : Fin 192) = false ∧
    (strayListener.dev.ch (0 : Fin 192)).borrowed = false ∧ (strayListener.dev.ch (0 : Fin 192)).roleQ = [] ∧
    5 ∉ strayListener.dev.sessionsOf (0 : Fin 192) ∧ (strayListener.dev.ses 5).kind = .listenDep := by decide +kernel

/-- The listener starts afresh, and the session that it names is released (`Dev.roleLsn`). -/
theorem strayListener_releases :
    (answer (.setRole 0) strayListener).map (fun t => (t.dev.ses 5).kind) = some .free := by decide +kernel

/-- Refutes O25: its clauses on a role that takes effect let every session stand that is none of the channel's, and do not ask that the
session which the channel's listener names is one of its own. Where that is a session of another channel, LISTEN written again ends the
listener's conversation and releases it. -/
theorem not_rolesAndSessions : ¬ Obligations.RolesAndSessions := by
  rintro ⟨takesRole, -, -⟩
  obtain ⟨hrun, hrole, hlock, hfree, hborrow, hqueue, hother, hactive⟩ := strayListener_takesRole
  obtain ⟨-, atOnce⟩ := (takesRole 0 strayListener listenAgain .listen hrun hrole).2 (.inr hlock)
  obtain ⟨t, ht, -, -, -, -, -, -, othersStand, -, -⟩ := atOnce hfree hborrow hqueue
  have hstands : (t.dev.ses 5).kind = .listenDep := by rw [othersStand 5 hother, hactive]
  have hreleased := strayListener_releases
  rw [answer_of_next ht] at hreleased
  simp [hstands] at hreleased

end Sys2Proof.Proofs
end

section
/-! PROOFS. A gate list's switch where two fields share a coil: the field that falls hard ends the coil's ramp-down for both. -/

namespace Sys2Proof.Proofs

open Sys2Proof.Machine Sys2Proof.Safety

/-- A gate list that closes every arbour. -/
def shutList : GList := { cycle := 1000, entries := [(1000, 0, false)] }

/-- A field that stands on the coil of channel 0, which it cuts hard when it falls, or lets fall with the others. -/
def fieldOfCoil0 (hard : Bool) : Txn := { phase := .up, driven := [{ ch := 0, lvl := 0, hard := hard }] }

/-- Under lock, in fallback windows, the list that closes every arbour is pending; the transactions of channels 0 and 1 both drive the
coil of channel 0, and that of channel 0 cuts it hard. -/
def sharedCoil : State :=
  { dev := (((({} : Dev).setOn F.TIME_STAT_LOCK 0 0 true).modPav 0 fun p =>
      { p with gate := { mode := .fallback, pend := some shutList } }).modCh 0 fun c => { c with txn := some (fieldOfCoil0 true) }).modCh 1
      fun c => { c with txn := some (fieldOfCoil0 false) } }

/-- The state meets the conditions of a list that becomes the timeline at once and closes the arbour of channel 1. -/
theorem sharedCoil_switches :
    (sharedCoil.dev.pav (0 : Fin 6)).gate.pend = some shutList ∧ shutList.follow = false ∧ 339 * shutList.base ≤ sharedCoil.dev.netU ∧
    (sharedCoil.dev.pav (0 : Fin 6)).gate.mode ≠ .open_ ∧ sharedCoil.dev.locked = true ∧ 1 ∈ pavChans (0 : Fin 6) ∧
    (sharedCoil.dev.ch 1).txn = some (fieldOfCoil0 false) ∧ ¬ bitAt (shutList.entryAt shutList.base).1 (arbOf 1 % 4) = true := by
  decide +kernel

theorem sharedCoil_coilsUp : CoilsUp sharedCoil.dev (fieldOfCoil0 false) := by
  unfold CoilsUp; decide +kernel

/-- A normal ramp-down takes 64 Tc from carrier cycle 0 on, and both transactions' falls end after the 1 Tc of the hard cut. -/
theorem sharedCoil_ends :
    sharedCoil.dev.tc + sharedCoil.dev.fallTc ((fieldOfCoil0 false).falls .normal (some .gateCut) []) = 64 ∧
    (answer (.gateListSwitch 0) sharedCoil).map (fun t => (t.dev.ch 1).txn.map Txn.dueTc) = some (some 1) := by decide +kernel

/-- Refutes O27: its clause on a list that closes fields does not ask that they have coils of their own. Where two of them share a coil
that one cuts hard, the coil's ramp-down ends with the cut, so the other's fall ends before its own ramp-down would. -/
theorem not_gateInstants : ¬ Obligations.GateInstants := by
  rintro ⟨listSwitch, -⟩
  obtain ⟨hpend, hfollow, hbase, hmode, hlock, hmem, htxn, hshut⟩ := sharedCoil_switches
  obtain ⟨t, ht, -, -, underLock, -, -⟩ := (listSwitch 0 sharedCoil shutList hpend).2 hfollow hbase
  have hfalls := (underLock ⟨hmode, hlock⟩).2 1 (fieldOfCoil0 false) hmem htxn rfl (by decide)
  rw [if_neg hshut] at hfalls
  obtain ⟨e, hfallen, hdue⟩ := hfalls
  obtain ⟨hnormal, hcut⟩ := sharedCoil_ends
  rw [answer_of_next ht] at hcut
  simp [hfallen, hdue sharedCoil_coilsUp, hnormal] at hcut

end Sys2Proof.Proofs
end

section
/-! PROOFS. What a second judgement of a pavilion's transactions leaves of the pavilions: gates, pins, tokens, programs (R349, R372). -/

namespace Sys2Proof.Machine

open Sys2Proof.Safety

/-- Of every pavilion only what its transactions' work moves has changed: its queue, its quiet time, its reservations and COEX_REQ. -/
structure PavsStand (d e : Dev) : Prop where
  pav : ∀ p, e.pav p = { d.pav p with
    tq := (e.pav p).tq, stirAt := (e.pav p).stirAt, rsv := (e.pav p).rsv, req := (e.pav p).req, reqAt := (e.pav p).reqAt }

namespace PavsStand

variable {L : List RegName} {d e f : Dev}

theorem refl (d : Dev) : PavsStand d d := ⟨fun _ => rfl⟩

theorem trans (a : PavsStand d e) (b : PavsStand e f) : PavsStand d f := ⟨fun p => by rw [b.pav p, a.pav p]⟩

theorem cond (b : Bool) {g : Dev → Dev} (h : PavsStand d (g d)) : PavsStand d (d.cond b g) := by
  unfold Dev.cond; split
  · exact h
  · exact refl d

theorem each {α : Type} (l : List α) {g : Dev → α → Dev} (h : ∀ d x, PavsStand d (g d x)) : PavsStand d (d.each l g) := by
  unfold Dev.each
  induction l generalizing d with
  | nil => exact refl d
  | cons x t ih => exact (h d x).trans ih

theorem ofPavs (h : e.pavs = d.pavs) : PavsStand d e := ⟨fun p => by rw [Dev.pav, h, Dev.pav]⟩

theorem ofTold (h : Told L d e) : PavsStand d e := ⟨fun p => by rw [h.pav p]⟩

theorem ofRx (h : RxOnly L d e) : PavsStand d e := ⟨fun p => by rw [h.pav p]⟩

theorem modPav (d : Dev) (p : Nat) (g : Pav → Pav)
    (h : ∀ x, g x = { x with tq := (g x).tq, stirAt := (g x).stirAt, rsv := (g x).rsv, req := (g x).req, reqAt := (g x).reqAt } := by
      intro; rfl) : PavsStand d (d.modPav p g) where
  pav k := by
    by_cases e : p = k
    · subst e; rw [Dev.pav_modPav_same]; exact h _
    · rw [Dev.pav_modPav_other _ _ e]

theorem gate (a : PavsStand d e) (p : Nat) : (e.pav p).gate = (d.pav p).gate := by rw [a.pav p]

end PavsStand

variable (d : Dev)

theorem pavsStand_wr (r : RegName) (i j v : Nat) : PavsStand d (d.wr r i j v) := .ofPavs rfl
theorem pavsStand_setFld (f : Fld) (i j v : Nat) : PavsStand d (d.setFld f i j v) := .ofPavs rfl
theorem pavsStand_setOn (f : Fld) (i j : Nat) (b : Bool) : PavsStand d (d.setOn f i j b) := .ofPavs rfl
theorem pavsStand_modCh (n : Nat) (f : Ch → Ch) : PavsStand d (d.modCh n f) := .ofPavs rfl
theorem pavsStand_modTxn (n : Nat) (f : Txn → Txn) : PavsStand d (d.modTxn n f) := .ofPavs rfl
theorem pavsStand_modArb (a : Nat) (f : Arb → Arb) : PavsStand d (d.modArb a f) := .ofPavs rfl
theorem pavsStand_coilFall (n : Nat) (k : RampKind) : PavsStand d (d.coilFall n k) := .ofPavs rfl

theorem pavsStand_unreserve (n e : Nat) : PavsStand d (d.unreserve n e) := .modPav d _ _

theorem pavsStand_txnsMoved (p : Nat) : PavsStand d (d.txnsMoved p) := by
  unfold Dev.txnsMoved Dev.stir Dev.syncReq
  exact (PavsStand.modPav d p _).trans (.modPav _ p _)

/-! ### Work that ends -/

theorem pavsStand_agcMove (n : Nat) (l : List Nat) (a : Nat) : PavsStand d (d.agcMove n l a) := by
  unfold Dev.agcMove; split
  · exact .each _ fun d _ => pavsStand_setFld d _ _ _ _
  · exact .refl d

theorem pavsStand_sepLeave (n : Nat) : PavsStand d (d.sepLeave n) := by
  unfold Dev.sepLeave; split
  · exact pavsStand_modArb d _ _
  · exact .refl d

theorem pavsStand_fall (n : Nat) (k : RampKind) (c : Option Status) (l : List Nat) : PavsStand d (d.fall n k c l) := by
  unfold Dev.fall; split
  · exact .refl d
  · split
    · extract_lets u d1 d2 d3 due
      have h1 : PavsStand d d1 :=
        .cond _ (((pavsStand_agcMove d n _ _).trans (pavsStand_sepLeave _ n)).trans (.ofRx (rxOnly_frameEnded _ n)))
      have h3 : PavsStand d2 d3 := .each _ fun d x => by
        split
        · split
          · exact .refl d
          · exact pavsStand_coilFall d _ _
        · exact .refl d
      exact (h1.trans (pavsStand_modTxn d1 n _)).trans (h3.trans (pavsStand_modTxn d3 n _))
    · exact .refl d

theorem pavsStand_dropCal (n : Nat) : PavsStand d (d.dropCal n) := by
  unfold Dev.dropCal; split
  · split
    · exact .refl d
    · split
      · exact ((pavsStand_unreserve d n _).trans (pavsStand_modCh _ n _)).trans (pavsStand_txnsMoved _ _)
      · exact pavsStand_fall d n _ _ _
  · exact .refl d

theorem pavsStand_calLeave (r : CalRun) : PavsStand d (d.calLeave r) := by
  unfold Dev.calLeave
  extract_lets c d1 d2 d3
  have h1 : PavsStand d d1 := .ofPavs rfl
  have h2 : PavsStand d1 d2 :=
    (PavsStand.each _ fun d n => pavsStand_dropCal d n).trans (.each _ fun d n => .cond _ (pavsStand_modCh d n _))
  have h3 : PavsStand d2 d3 := .cond _ (pavsStand_setOn d2 _ _ _ _)
  exact h1.trans (h2.trans (h3.trans (.cond _ ((pavsStand_setFld d3 _ _ _ _).trans (pavsStand_setFld _ _ _ _ _)))))

theorem pavsStand_calAbort (n : Nat) (st : Status) : PavsStand d (d.calAbort n st) := by
  unfold Dev.calAbort; split
  · exact .refl d
  · extract_lets d1
    split
    · exact (pavsStand_calLeave d _).trans (.ofTold (told_done _ _ _ _))
    · exact (pavsStand_calLeave d _).trans (.ofTold (told_event _ _ _ _ _ _))

theorem pavsStand_dropProbe (n : Nat) : PavsStand d (d.dropProbe n) := by
  unfold Dev.dropProbe; split
  · extract_lets d1
    have h1 : PavsStand d d1 := (pavsStand_unreserve d n _).trans (pavsStand_modArb _ _ _)
    exact (h1.trans (pavsStand_modCh d1 n _)).trans (pavsStand_txnsMoved _ _)
  · exact .refl d

theorem pavsStand_completeWork (n : Nat) (t : Txn) (st : Status) (b : CBody) : PavsStand d (d.completeWork n t st b) := by
  unfold Dev.completeWork; dsimp only
  refine PavsStand.trans (.ofTold ((told_hostDone d t st b).trans ?_)) (pavsStand_modTxn _ n _)
  split
  · split
    · exact told_cycleReport _ n t st _ _
    · exact .refl _ _
  · split
    · exact ((told_output _ _ _ _ _).trans (told_completeE _ _ _)).trans (told_endRun _ _ _)
    · exact .refl _ _
  · split
    · exact (told_completeE _ _ _).trans (told_endRun _ _ _)
    · exact .refl _ _

theorem pavsStand_refuse (n : Nat) (st : Status) : PavsStand d (d.refuse n st) := by
  unfold Dev.refuse; split
  · split
    · exact (pavsStand_dropCal d n).trans (pavsStand_calAbort _ n st)
    · split
      · exact pavsStand_dropProbe d n
      · extract_lets d1 d2
        have h1 : PavsStand d d1 := (pavsStand_unreserve d n _).trans (pavsStand_completeWork _ n _ st _)
        have h2 : PavsStand d1 d2 := .cond _ (.ofTold (told_noFrameRegs _ _ _))
        exact ((h1.trans h2).trans (pavsStand_modCh d2 n _)).trans (pavsStand_txnsMoved _ _)
  · exact .refl d

/-! ### Attempts at admission -/

theorem pavsStand_backToWait (n : Nat) : PavsStand d (d.backToWait n) := by
  unfold Dev.backToWait; split
  · split
    · exact pavsStand_dropProbe d n
    · split
      · exact ((pavsStand_unreserve d n _).trans (pavsStand_modTxn _ n _)).trans (pavsStand_txnsMoved _ _)
      · exact .refl d
  · exact .refl d

theorem pavsStand_grantAdmission (n : Nat) (k : List Driven) (l : Nat) : PavsStand d (d.grantAdmission n k l) := by
  unfold Dev.grantAdmission
  extract_lets e d1 d2
  have h1 : PavsStand d d1 := pavsStand_modTxn d _ _
  exact h1.trans ((PavsStand.modPav d1 _ _).trans (pavsStand_txnsMoved d2 _))

theorem pavsStand_groupLoad (a g : Nat) : PavsStand d (d.groupLoad a g) := by
  unfold Dev.groupLoad
  extract_lets w depth stale mode d1 d2 d3
  have h1 : PavsStand d d1 := by
    simp only [d1]; split
    · exact .refl d
    · exact .each _ fun d _ => pavsStand_wr d _ _ _ _
  have h3 : PavsStand d1 d3 := (pavsStand_setFld d1 _ _ _ _).trans (.cond _ (pavsStand_setOn d2 _ _ _ _))
  split
  · exact h1.trans h3
  · exact (h1.trans h3).trans (.each _ fun d _ => pavsStand_wr d _ _ _ _)

theorem pavsStand_admitNow (n : Nat) (t : Txn) : PavsStand d (d.admitNow n t) := by
  unfold Dev.admitNow
  extract_lets dr len d1 d2 d3
  have h1 : PavsStand d d1 := by
    simp only [d1]; split
    · exact pavsStand_groupLoad d _ _
    · exact .refl d
  have h2 : PavsStand d1 d2 := by
    simp only [d2]; split
    · exact .refl d1
    · exact .ofRx (rxOnly_applyStd d1 n _ _ _)
  have h3 : PavsStand d2 d3 := (pavsStand_modTxn d2 _ _).trans (pavsStand_setFld _ _ _ _ _)
  exact h1.trans (h2.trans (h3.trans (pavsStand_grantAdmission d3 n _ _)))

theorem pavsStand_markRefused (n : Nat) (t : Txn) (st : Status) : PavsStand d (d.markRefused n t st) := by
  unfold Dev.markRefused; split
  · exact .cond _ (pavsStand_setOn d _ _ _ _)
  · exact .refl d

theorem pavsStand_tryAdmit (n : Nat) : PavsStand d (d.tryAdmit n) := by
  unfold Dev.tryAdmit; split
  · exact .refl d
  · next t _ =>
    split
    · exact .refl d
    · split
      · exact .refl d
      · split
        · exact ((pavsStand_markRefused d n t _).trans (pavsStand_setFld _ _ _ _ _)).trans (pavsStand_refuse _ n _)
        · extract_lets dr len other m m1
          split
          · exact pavsStand_admitNow d n t
          · exact pavsStand_setFld d _ _ _ _

theorem pavsStand_recheck (n : Nat) : PavsStand d (d.recheck n) := by
  unfold Dev.recheck; split
  · exact .refl d
  · split
    · exact .refl d
    · split
      · split
        · exact .refl d
        · exact pavsStand_dropProbe d n
      · extract_lets uses
        split
        · exact pavsStand_refuse d n _
        · split
          · exact pavsStand_refuse d n _
          · split
            · exact pavsStand_refuse d n _
            · split
              · exact pavsStand_refuse d n _
              · split
                · exact pavsStand_backToWait d n
                · exact .refl d

theorem pavsStand_retry (p : Nat) : PavsStand d (d.retry p) :=
  (PavsStand.each _ fun d n => pavsStand_recheck d n).trans (.each _ fun d n => pavsStand_tryAdmit d n)

end Sys2Proof.Machine
end

section
/-! PROOFS. A write of PAV_GATE_CTL: what the register takes, what CANCEL, CHANGE and EN do one after the other, and the frame of each. -/

namespace Sys2Proof.Machine

open Sys2Proof.Safety

/-! ### The register (R362, R363, R687, R720) -/

/-- A change of one register alone leaves every unit, and the pavilions. -/
theorem kept_of_onlyRegs {r : RegName} {i j : Nat} {s : State} {e : Dev} (h : OnlyRegs [(r, i, j)] s { s with dev := e }) :
    Kept [r] s.dev e ∧ PavsStand s.dev e := by
  obtain ⟨hs, hrd⟩ := h
  obtain ⟨x, rfl⟩ : ∃ x, e = { s.dev with regs := x } := ⟨e.regs, congrArg (fun t : State => { t.dev with regs := e.regs }) hs⟩
  refine ⟨{ Kept.refl [r] s.dev with regs := fun q k l hq => hrd q k l fun y hy => ?_ }, .ofPavs rfl⟩
  rw [List.mem_singleton.1 hy]
  exact regKey_ne_name (fun hname => hq (List.mem_singleton.2 hname.symm)) i j k l

variable (d : Dev)

/-- The register takes EN, and ADMIN_LEN from 1 to 64. -/
theorem Dev.rd_gateCtl_plainWrite (nv : NonVol) (p v : Nat) : (d.plainWrite nv .PAV_GATE_CTL p 0 v).rd .PAV_GATE_CTL p =
    putIf (1 ≤ bits v 8 7 ∧ bits v 8 7 ≤ 64) (setBits (d.rd .PAV_GATE_CTL p) 0 1 (bits v 0 1)) 8 7 (bits v 8 7) := by
  have hlen : inRange [(1, 64)] (bits v 8 7) = decide (1 ≤ bits v 8 7 ∧ bits v 8 7 ≤ 64) := by simp [inRange]
  rw [d.rd_plainWrite nv p 0 v (by decide)]
  simp only [fieldRows, List.foldl_cons, List.foldl_nil]
  rw [FldRow.put_plain rfl rfl, FldRow.put_plain (f := ⟨F.PAV_GATE_CTL_EN, .rw, []⟩) rfl rfl]
  simp only [F.PAV_GATE_CTL_ADMIN_LEN, hlen, decide_eq_true_eq]
  exact Nat.mod_eq_of_lt (putIf_lt (setBits_lt (d.rd_lt _ _ _) (by decide)) (by decide))

theorem Dev.gateCtl_plainWrite (nv : NonVol) (p v : Nat) :
    (d.plainWrite nv .PAV_GATE_CTL p 0 v).on F.PAV_GATE_CTL_EN p = bitAt v 0 ∧
    (d.plainWrite nv .PAV_GATE_CTL p 0 v).fld F.PAV_GATE_CTL_ADMIN_LEN p =
      if 1 ≤ bits v 8 7 ∧ bits v 8 7 ≤ 64 then bits v 8 7 else d.fld F.PAV_GATE_CTL_ADMIN_LEN p := by
  simp only [Dev.on, Dev.fld, F.PAV_GATE_CTL_EN, F.PAV_GATE_CTL_ADMIN_LEN, Dev.rd_gateCtl_plainWrite]
  refine ⟨?_, ?_⟩
  · rw [bits_putIf_other (by decide), bits_setBits_same, Nat.mod_eq_of_lt (bits_lt v 0 1), bitAt_eq_bits]
    have hlt := bits_lt v 0 1
    interval_cases bits v 0 1 <;> rfl
  · rw [bits_putIf_same, bits_setBits_above (by decide)]

/-- The device after the register has taken a word: ADMIN_LEN stands while a list is pending. -/
def Dev.gateWord (nv : NonVol) (p v : Nat) : Dev :=
  d.plainWrite nv .PAV_GATE_CTL p 0 (if (d.pav p).gate.pend.isSome then setBits v 8 7 (d.fld F.PAV_GATE_CTL_ADMIN_LEN p) else v)

theorem stands_gateWord (nv : NonVol) (p v : Nat) : Kept [.PAV_GATE_CTL] d (d.gateWord nv p v) ∧ PavsStand d (d.gateWord nv p v) :=
  kept_of_onlyRegs (onlyRegs_plainWrite { dev := d } nv p 0 _ (by decide))

theorem Dev.on_en_gateWord (nv : NonVol) (p v : Nat) : (d.gateWord nv p v).on F.PAV_GATE_CTL_EN p = bitAt v 0 := by
  rw [Dev.gateWord, (d.gateCtl_plainWrite nv p _).1]
  split
  · rw [bitAt_eq_bits, bits_setBits_below (by decide), ← bitAt_eq_bits]
  · rfl

theorem Dev.fld_adminLen_gateWord (nv : NonVol) (p v : Nat) : (d.gateWord nv p v).fld F.PAV_GATE_CTL_ADMIN_LEN p =
    if (d.pav p).gate.pend.isNone ∧ 1 ≤ bits v 8 7 ∧ bits v 8 7 ≤ 64 then bits v 8 7 else d.fld F.PAV_GATE_CTL_ADMIN_LEN p := by
  rw [Dev.gateWord, (d.gateCtl_plainWrite nv p _).2]
  cases (d.pav p).gate.pend with
  | none => simp
  | some l =>
    have hlen : d.fld F.PAV_GATE_CTL_ADMIN_LEN p % 2 ^ 7 = d.fld F.PAV_GATE_CTL_ADMIN_LEN p := Nat.mod_eq_of_lt (bits_lt _ 8 7)
    simp only [Option.isSome_some, if_true, bits_setBits_same, hlen, ite_self, Option.isNone_some, Bool.false_eq_true, false_and, if_false]

/-! ### CANCEL and CHANGE (R359, R362, R363, R681) -/

theorem Dev.gate_modGate (p : Nat) (f : Gate → Gate) : ((d.modGate p f).pav p).gate = f (d.pav p).gate := by
  rw [Dev.modGate, Dev.pav_modPav_same]

/-- What is pending after CANCEL's part of a word. -/
def Gate.left (g : Gate) (v : Nat) : Option GList := if bitAt v 2 then none else g.pend

theorem Dev.gate_cancelled (p v : Nat) :
    ((d.cond (bitAt v 2) (·.gateCancel p)).pav p).gate = { (d.pav p).gate with pend := (d.pav p).gate.left v } := by
  unfold Dev.cond Gate.left; split
  · exact d.gate_modGate p _
  · rfl

theorem kept_cancelled (L : List RegName) (p v : Nat) : Kept L d (d.cond (bitAt v 2) (·.gateCancel p)) := by
  unfold Dev.gateCancel Dev.modGate
  exact .cond _ (kept_modPav L d p _)

/-- The admin list with its change time, as CHANGE makes it pending. -/
def Dev.changeList (p : Nat) : GList :=
  { base := changeTime d.now (d.pair .PAV_GATE_BASE_L .PAV_GATE_BASE_H p) (d.rd .PAV_GATE_CYCLE p), cycle := d.rd .PAV_GATE_CYCLE p,
    entries := d.adminList p, follow := bitAt (d.fld F.PRM_EPOCH_CTL_FOLLOW) p }

/-- CHANGE does nothing while a list is pending, and else takes the admin list or shows its error. -/
theorem Dev.gateChange_eq (p : Nat) : d.gateChange p =
    if (d.pav p).gate.pend.isSome then d
    else if listGood (d.adminList p) (d.rd .PAV_GATE_CYCLE p) then d.modGate p fun g => { g with pend := some (d.changeList p) }
    else d.setOn F.PAV_GATE_STAT_ADMIN_ERR p 0 true := rfl

/-- CHANGE changes what is pending alone. -/
theorem Dev.gate_gateChange (p : Nat) :
    ((d.gateChange p).pav p).gate = { (d.pav p).gate with pend := ((d.gateChange p).pav p).gate.pend } := by
  rw [d.gateChange_eq]
  split
  · rfl
  · split
    · rw [d.gate_modGate]
    · rfl

theorem kept_gateChange (p : Nat) : Kept [.PAV_GATE_STAT] d (d.gateChange p) := by
  rw [d.gateChange_eq]
  split
  · exact .refl _ d
  · split
    · exact kept_modPav _ d p _
    · exact kept_setOn _ d F.PAV_GATE_STAT_ADMIN_ERR p 0 true (by decide)

/-- The device after CANCEL's and CHANGE's parts of a word. -/
def Dev.gateLists (p v : Nat) : Dev := (d.cond (bitAt v 2) (·.gateCancel p)).cond (bitAt v 1) (·.gateChange p)

theorem kept_gateLists (p v : Nat) : Kept [.PAV_GATE_STAT] d (d.gateLists p v) :=
  (kept_cancelled d _ p v).trans (.cond _ (kept_gateChange _ p))

/-- CANCEL and CHANGE change what is pending alone. -/
theorem Dev.gate_gateLists (p v : Nat) :
    ((d.gateLists p v).pav p).gate = { (d.pav p).gate with pend := ((d.gateLists p v).pav p).gate.pend } := by
  have hcancel := d.gate_cancelled p v
  unfold Dev.gateLists
  generalize d.cond (bitAt v 2) (·.gateCancel p) = e at hcancel ⊢
  unfold Dev.cond; split
  · rw [e.gate_gateChange, hcancel]
  · rw [hcancel]

/-- Without CHANGE, or while a list is pending after CANCEL's part, what is left stands. -/
theorem Dev.pend_gateLists_stands {p v : Nat} (h : bitAt v 1 = false ∨ ((d.pav p).gate.left v).isSome) :
    ((d.gateLists p v).pav p).gate.pend = (d.pav p).gate.left v := by
  have hcancel := congrArg Gate.pend (d.gate_cancelled p v)
  unfold Dev.gateLists
  generalize d.cond (bitAt v 2) (·.gateCancel p) = e at hcancel ⊢
  unfold Dev.cond; split
  · next hchange =>
    have hsome : (e.pav p).gate.pend.isSome := by rw [hcancel]; exact h.resolve_left (by simp [hchange])
    change ((e.gateChange p).pav p).gate.pend = _
    rw [e.gateChange_eq, if_pos hsome, hcancel]
  · exact hcancel

variable {d}

theorem adminList_of_kept {L : List RegName} {e : Dev} (a : Kept L d e) (hctl : .PAV_GATE_CTL ∉ L) (hd : .PAV_GCL_ADMIN_D ∉ L)
    (hm : .PAV_GCL_ADMIN_M ∉ L) (p : Nat) : e.adminList p = d.adminList p := by
  have hlen : e.fld F.PAV_GATE_CTL_ADMIN_LEN p = d.fld F.PAV_GATE_CTL_ADMIN_LEN p := a.fld _ _ _ hctl
  simp only [Dev.adminList, hlen, a.regs _ _ _ hd, a.regs _ _ _ hm]

variable (d)

/-- CHANGE with nothing pending takes a good admin list, and shows the error of another. -/
theorem Dev.gateLists_changes {p v : Nat} (hchange : bitAt v 1 = true) (hleft : (d.pav p).gate.left v = none) :
    (listGood (d.adminList p) (d.rd .PAV_GATE_CYCLE p) = true → ((d.gateLists p v).pav p).gate.pend = some (d.changeList p)) ∧
    (listGood (d.adminList p) (d.rd .PAV_GATE_CYCLE p) = false →
      ((d.gateLists p v).pav p).gate.pend = none ∧ (d.gateLists p v).on F.PAV_GATE_STAT_ADMIN_ERR p = true) := by
  have hcancel := congrArg Gate.pend (d.gate_cancelled p v)
  have hkept := kept_cancelled d [] p v
  unfold Dev.gateLists
  generalize d.cond (bitAt v 2) (·.gateCancel p) = e at hcancel hkept ⊢
  have hnone : (e.pav p).gate.pend = none := hcancel.trans hleft
  have hadmin : e.adminList p = d.adminList p := adminList_of_kept hkept (by simp) (by simp) (by simp) p
  have hcycle : e.rd .PAV_GATE_CYCLE p = d.rd .PAV_GATE_CYCLE p := hkept.regs _ _ _ (by simp)
  have hlist : e.changeList p = d.changeList p := by
    simp only [Dev.changeList, Dev.pair, hadmin, hkept.now, hkept.regs _ _ _ List.not_mem_nil, hkept.fld _ _ _ List.not_mem_nil]
  rw [Dev.cond, if_pos hchange, e.gateChange_eq, hadmin, hcycle, hnone, if_neg (by simp)]
  refine ⟨fun hgood => ?_, fun hbad => ?_⟩
  · rw [if_pos hgood, e.gate_modGate, hlist]
  · rw [if_neg (by simp [hbad])]
    exact ⟨hnone, e.on_setOn_same _ _ _ _ (by decide) rfl⟩

/-! ### EN (R720) -/

theorem Dev.gateEn_same {p : Nat} {was : Bool} (h : d.on F.PAV_GATE_CTL_EN p = was) : d.gateEn p was = d := by
  subst h
  unfold Dev.gateEn
  cases d.on F.PAV_GATE_CTL_EN p <;> rfl

theorem Dev.gate_gateEn_set {p : Nat} (h : d.on F.PAV_GATE_CTL_EN p = true) :
    ((d.gateEn p false).pav p).gate = { (d.pav p).gate with enAt := some (d.tc + 1356) } := by
  simp only [Dev.gateEn, h, Bool.not_false, Bool.and_self, if_true, Dev.gate_modGate]

theorem Dev.gate_gateEn_cleared {p : Nat} (h : d.on F.PAV_GATE_CTL_EN p = false) :
    ((d.gateEn p true).pav p).gate = { (d.pav p).gate with mode := .open_, enAt := none, lostEnd := none } := by
  simp only [Dev.gateEn, h, Bool.not_true, Bool.false_and, Bool.false_eq_true, if_false, Bool.not_false, Bool.true_and, if_true]
  rw [(PavsStand.each (pavChans p) fun d n => pavsStand_modTxn d n _).gate, Dev.gate_modGate]

/-- EN leaves both lists. -/
theorem Dev.lists_gateEn (p : Nat) (was : Bool) : ((d.gateEn p was).pav p).gate.oper = (d.pav p).gate.oper ∧
    ((d.gateEn p was).pav p).gate.pend = (d.pav p).gate.pend := by
  by_cases h : d.on F.PAV_GATE_CTL_EN p = was
  · rw [d.gateEn_same h]; exact ⟨rfl, rfl⟩
  · cases was with
    | false => rw [d.gate_gateEn_set (by simpa using h)]; exact ⟨rfl, rfl⟩
    | true => rw [d.gate_gateEn_cleared (by simpa using h)]; exact ⟨rfl, rfl⟩

theorem kept_gateEn (L : List RegName) (p : Nat) (was : Bool) : Kept L d (d.gateEn p was) := by
  unfold Dev.gateEn; extract_lets is
  split
  · exact kept_modPav L d p _
  · split
    · exact (kept_modPav L d p _).trans (.each _ fun d n => kept_modTxn L d n _)
    · exact .refl L d

theorem Dev.gateCtlWrite_eq (nv : NonVol) (p v : Nat) : d.gateCtlWrite nv p v =
    (((d.gateWord nv p v).gateLists p v).gateEn p (d.on F.PAV_GATE_CTL_EN p)).retry p := rfl

end Sys2Proof.Machine

namespace Sys2Proof.Proofs

open Sys2Proof.Machine Sys2Proof.Safety

/-- The parts of a word act one after another: the register, the lists, EN; judging transactions again leaves what they did. -/
theorem gateCtl_gateCtlWrite (s : State) (p v : Nat) : GateCtl p v s { s with dev := s.dev.gateCtlWrite s.nv p v } := by
  obtain ⟨hword, hpavs⟩ := stands_gateWord s.dev s.nv p v
  have hen := s.dev.on_en_gateWord s.nv p v
  have hlen := s.dev.fld_adminLen_gateWord s.nv p v
  have hgate := hpavs.gate p
  unfold GateCtl
  dsimp only
  rw [s.dev.gateCtlWrite_eq]
  generalize s.dev.gateWord s.nv p v = c at hword hen hlen hgate ⊢
  have hstands := c.pend_gateLists_stands (p := p) (v := v)
  have hchanges := c.gateLists_changes (p := p) (v := v)
  have hlists := kept_gateLists c p v
  have hgateL := c.gate_gateLists p v
  generalize c.gateLists p v = e at hstands hchanges hlists hgateL ⊢
  generalize s.dev.on F.PAV_GATE_CTL_EN p = was
  have htail : Kept admRegs e ((e.gateEn p was).retry p) := (kept_gateEn e _ p was).trans (kept_retry _ p)
  have hgateT : (((e.gateEn p was).retry p).pav p).gate = ((e.gateEn p was).pav p).gate := (pavsStand_retry _ p).gate p
  obtain ⟨hoper, hpend⟩ := e.lists_gateEn p was
  have henE : e.on F.PAV_GATE_CTL_EN p = bitAt v 0 := by rw [hlists.on _ _ _ (by decide), hen]
  have hadmin : ((e.gateEn p was).retry p).adminList p = c.adminList p :=
    (adminList_of_kept htail (by decide) (by decide) (by decide) p).trans
      (adminList_of_kept hlists (by decide) (by decide) (by decide) p)
  have hcycle : c.rd .PAV_GATE_CYCLE p = s.dev.rd .PAV_GATE_CYCLE p := hword.regs _ _ _ (by decide)
  have hlist : c.changeList p = {
      base := changeTime s.dev.now (s.dev.pair .PAV_GATE_BASE_L .PAV_GATE_BASE_H p) (s.dev.rd .PAV_GATE_CYCLE p),
      cycle := s.dev.rd .PAV_GATE_CYCLE p, entries := c.adminList p, follow := bitAt (s.dev.fld F.PRM_EPOCH_CTL_FOLLOW) p } := by
    simp (disch := decide) only [Dev.changeList, Dev.pair, hword.now, hword.regs, hword.fld]
  rw [hgateT, hadmin]
  refine ⟨?_, ?_, ?_, ?_, ?_, ?_, ?_, ?_, ?_⟩
  · rw [htail.on _ _ _ (by decide), henE]
  · rw [htail.fld _ _ _ (by decide), hlists.fld _ _ _ (by decide), hlen]
  · rw [hoper, hgateL, hgate]
  · rw [hpend, ← hgate]; exact hstands
  · rw [hpend, ← hgate, ← hcycle]
    intro hchange hleft
    obtain ⟨hgood, hbad⟩ := hchanges hchange hleft
    refine ⟨fun h => ?_, fun h => ?_⟩
    · rw [hgood h, hlist, hcycle]
    · rw [htail.on _ _ _ (by decide)]; exact hbad h
  · rintro rfl hset
    rw [e.gate_gateEn_set (henE.trans hset), hgateL, hgate, Dev.tc, hlists.time, hword.time]
    exact ⟨rfl, rfl⟩
  · rintro rfl hcleared
    rw [e.gate_gateEn_cleared (henE.trans hcleared)]
    exact ⟨rfl, rfl⟩
  · intro hsame
    rw [e.gateEn_same (henE.trans hsame.symm), hgateL, hgate]
    exact ⟨rfl, rfl⟩
  · exact works_of_kept s (((hword.mono (by decide)).trans (hlists.mono (by decide))).trans (htail.mono (by decide)))

/-- Settles O26: each of the three commands is a write of PAV_GATE_CTL, whose parts act one after another (`gateCtl_gateCtlWrite`). -/
theorem gateControl : Obligations.GateControl := fun pav v s =>
  ⟨⟨_, rfl, gateCtl_gateCtlWrite s pav (setBits v.toNat 1 1 1)⟩, ⟨_, rfl, gateCtl_gateCtlWrite s pav (setBits v.toNat 2 1 1)⟩,
    ⟨_, rfl, gateCtl_gateCtlWrite s pav v.toNat⟩⟩

end Sys2Proof.Proofs
end

section
/-! PROOFS. Rings: doorbells, set-up, and an error of a descriptor's read. -/

namespace Sys2Proof.Safety

open Sys2Proof.Machine

namespace Told

variable {L : List RegName} {d e : Dev}

theorem rings (a : Told L d e) : e.host.rings = d.host.rings := by rw [a.host]

theorem ring (a : Told L d e) (r : Nat) : e.ring r = d.ring r := by rw [Dev.ring, a.rings, Dev.ring]

/-- A change of one register alone tells no more than that register. -/
theorem ofOnlyRegs {r : RegName} {i j : Nat} {s : State} (h : OnlyRegs [(r, i, j)] s { s with dev := e }) : Told [r] s.dev e := by
  obtain ⟨hs, hrd⟩ := h
  obtain ⟨x, rfl⟩ : ∃ x, e = { s.dev with regs := x } := ⟨e.regs, congrArg (fun t : State => { t.dev with regs := e.regs }) hs⟩
  refine { refl [r] s.dev with regs := fun q k l hq => hrd q k l fun y hy => ?_ }
  rw [List.mem_singleton.1 hy]
  exact regKey_ne_name (fun hname => hq (List.mem_singleton.2 hname.symm)) i j k l

end Told

end Sys2Proof.Safety

namespace Sys2Proof.Machine

open Sys2Proof.Safety

variable (d : Dev)

/-! ### Changes of the rings' records beside what posting may change -/

/-- The device with other records of its rings. -/
def Dev.withRings (x : Tbl Ring) : Dev := { d with host := { d.host with rings := x } }

/-- Told, but for the rings' records. -/
def ToldRings (L : List RegName) (d e : Dev) : Prop := Told L (d.withRings e.host.rings) e

namespace ToldRings

variable {L M : List RegName} {d} {e f : Dev}

theorem told_withRings (a : Told L d e) (x : Tbl Ring) : Told L (d.withRings x) (e.withRings x) :=
  ⟨a.time, a.syn, a.pwr, a.sess, a.images, a.ledger, a.sec, a.cal, a.ksk, a.flash, a.timers, a.prom,
    congrArg (fun h : HostIf => { h with rings := x }) a.host, a.flt, a.ch, a.pav, a.arb, a.regs⟩

theorem ofTold (a : Told L d e) : ToldRings L d e := told_withRings a e.host.rings

theorem trans (a : ToldRings L d e) (b : ToldRings L e f) : ToldRings L d f := (told_withRings a f.host.rings).trans b

theorem mono (h : ∀ r, r ∈ L → r ∈ M) (a : ToldRings L d e) : ToldRings M d e := Told.mono h a

theorem modRing (L : List RegName) (d : Dev) (r : Nat) (g : Ring → Ring) : ToldRings L d (d.modRing r g) := Told.refl L _

end ToldRings

/-! ### Ring errors (R393, R394, R397) -/

/-- A cause of HIF_MISC_STAT changes that register and the vectors alone. -/
theorem told_setMisc_of {L : List RegName} (h : .HIF_MISC_STAT ∈ L) (b : Nat) : Told L d (d.setMisc b) := by
  unfold Dev.setMisc; split
  · exact .refl L d
  · dsimp only
    split
    · exact (Told.wr L d _ 0 0 _ h).trans (told_fireVec _ _ _)
    · exact Told.wr L d _ 0 0 _ h

theorem Dev.bit_setMisc {b : Nat} (hb : b < 32) : bitAt ((d.setMisc b).rd .HIF_MISC_STAT) b = true := by
  have hset : bitAt ((d.wr .HIF_MISC_STAT 0 0 (setBits (d.rd .HIF_MISC_STAT) b 1 1)).rd .HIF_MISC_STAT) b = true := by
    rw [Dev.rd_wr_same, Nat.mod_eq_of_lt (setBits_lt (d.rd_lt _ _ _) (by omega))]
    exact bitAt_setBits_same _ b true
  unfold Dev.setMisc; split
  · assumption
  · dsimp only
    split
    · rwa [(told_fireVec _ [] _).regs _ _ _ List.not_mem_nil]
    · exact hset

/-- The registers of a ring error. -/
def ringErrRegs : List RegName := [.HIF_RING_STAT, .HIF_MISC_STAT]

theorem told_ringErr (r : Nat) {f : Fld} (h : f.reg = .HIF_RING_STAT) : Told ringErrRegs d (d.ringErr r f) :=
  (told_setOn d _ f r 0 true (by rw [h]; decide)).trans (told_setMisc_of _ (by decide) 0)

/-- A ring error sets its bit and cause bit 0. -/
theorem Dev.ringErr_marks (r : Nat) {f : Fld} (h : f.reg = .HIF_RING_STAT) (hlo : f.lo + f.w ≤ 32) (hw : f.w = 1) :
    (d.ringErr r f).on f r = true ∧ bitAt ((d.ringErr r f).rd .HIF_MISC_STAT) 0 = true := by
  refine ⟨?_, Dev.bit_setMisc _ (by decide)⟩
  rw [Dev.ringErr, (told_setMisc_of (L := [.HIF_MISC_STAT]) _ (by decide) 0).on f r 0 (by rw [h]; decide)]
  exact d.on_setOn_same f r 0 true hlo hw

/-! ### Doorbells (R390, R393, R394) -/

/-- Slots between TAIL and HEAD of a command ring, less the one that stays free, in the two spellings of the model and of R393. -/
theorem cmdRoom_eq {size head tail : Nat} (hs : 0 < size) :
    (head + size + (size - tail % size) - 1) % size + (tail % size + size - head % size) % size = size - 1 := by
  have hh := Nat.mod_lt head hs
  have ht := Nat.mod_lt tail hs
  have hhead : (head + size + (size - tail % size) - 1) % size = (head % size + size - tail % size - 1) % size := by
    conv_lhs => rw [← Nat.mod_add_div head size]
    rw [show head % size + size * (head / size) + size + (size - tail % size) - 1 =
      (head % size + size - tail % size - 1) + size * (head / size + 1) by rw [Nat.mul_add]; omega, Nat.add_mul_mod_self_left]
  rw [hhead]
  generalize head % size = h at *
  generalize tail % size = t at *
  rcases Nat.lt_or_ge t h with hlt | hge
  · rw [Nat.mod_eq_sub_mod (show h + size - t - 1 ≥ size by omega), Nat.mod_eq_of_lt (a := h + size - t - 1 - size) (by omega),
      Nat.mod_eq_of_lt (a := t + size - h) (by omega)]
    omega
  · rw [Nat.mod_eq_of_lt (a := h + size - t - 1) (by omega), Nat.mod_eq_sub_mod (show t + size - h ≥ size by omega),
      Nat.mod_eq_of_lt (a := t + size - h - size) (by omega)]
    omega

/-- Entries between TAIL and HEAD of an event ring. -/
theorem eventHeld_eq {size tail : Nat} (head : Nat) (hs : 0 < size) :
    (head + (size - tail % size)) % size = (head % size + size - tail % size) % size := by
  have ht := Nat.mod_lt tail hs
  rw [Nat.add_sub_assoc ht.le, Nat.mod_add_mod]

theorem Dev.ringSize_pos (r : Nat) : 0 < d.ringSize r := Nat.two_pow_pos _

/-- A doorbell value that moves TAIL: it lies in the ring and adds no more than there are slots free, or frees no more than are held. -/
def Dev.doorbellFits (r v : Nat) (cmd : Bool) : Prop :=
  let size := d.ringSize r
  let head := d.rd .HIF_RING_HEAD r % size
  let tail := d.rd .HIF_RING_TAIL r % size
  v < size ∧ if cmd then (v + size - tail) % size + (tail + size - head) % size < size
    else (v + size - tail) % size ≤ (head + size - tail) % size

/-- The model's own condition says the same. -/
theorem Dev.doorbell_cond (r v : Nat) (cmd : Bool) :
    (v < d.ringSize r ∧ (v + (d.ringSize r - d.rd .HIF_RING_TAIL r % d.ringSize r)) % d.ringSize r ≤
      if cmd then (d.rd .HIF_RING_HEAD r + d.ringSize r + (d.ringSize r - d.rd .HIF_RING_TAIL r % d.ringSize r) - 1) % d.ringSize r
      else (d.rd .HIF_RING_HEAD r + (d.ringSize r - d.rd .HIF_RING_TAIL r % d.ringSize r)) % d.ringSize r) ↔ d.doorbellFits r v cmd := by
  have hs := d.ringSize_pos r
  unfold Dev.doorbellFits
  have hv := Nat.add_sub_assoc (Nat.mod_lt (d.rd .HIF_RING_TAIL r) hs).le v
  cases cmd with
  | true =>
    have hroom := cmdRoom_eq (head := d.rd .HIF_RING_HEAD r) (tail := d.rd .HIF_RING_TAIL r) hs
    simp only [if_true, hv]
    omega
  | false =>
    simp only [Bool.false_eq_true, if_false, hv, eventHeld_eq _ hs]

theorem Dev.doorbell_taken {r v : Nat} {cmd : Bool} (h : d.doorbellFits r v cmd) : d.doorbell r v cmd = d.wr .HIF_RING_TAIL r 0 v :=
  if_pos ((d.doorbell_cond r v cmd).2 h)

theorem Dev.doorbell_ignored {r v : Nat} {cmd : Bool} (h : ¬ d.doorbellFits r v cmd) :
    d.doorbell r v cmd = d.ringErr r F.HIF_RING_STAT_DB_ERR :=
  if_neg fun hc => h ((d.doorbell_cond r v cmd).1 hc)

/-! ### HIF_RING_CFG (R387, R388, R493) -/

/-- The word that a write of HIF_RING_CFG puts: an enabled ring keeps LOG2_SIZE and EVQ, and EN stays 0 after a failed boot. -/
def Dev.ringCfgWord (r v : Nat) : Nat :=
  let old := d.rd .HIF_RING_CFG r
  let v := if bitAt old 0 then setBits (setBits v 8 5 (bits old 8 5)) 16 5 (bits old 16 5) else v
  if d.ringsOpen then v else setBits v 0 1 0

/-- A ring that is enabled starts empty, with phase 1. -/
def Dev.ringStart (r : Nat) : Dev :=
  (((d.wr .HIF_RING_HEAD r 0 0).wr .HIF_RING_TAIL r 0 0).setOn F.HIF_RING_STAT_PHASE r 0 true).modRing r fun x =>
    { x with stopped := false, unsig := 0, oldest := 0 }

/-- The device after HIF_RING_CFG has taken its word. -/
def Dev.ringCfgSet (nv : NonVol) (r v : Nat) : Dev := d.plainWrite nv .HIF_RING_CFG r 0 (d.ringCfgWord r v)

theorem Dev.ringCfgWrite_eq (nv : NonVol) (r v : Nat) : d.ringCfgWrite nv r v =
    if (d.ringCfgSet nv r v).on F.HIF_RING_CFG_EN r && !bitAt (d.rd .HIF_RING_CFG r) 0 then (d.ringCfgSet nv r v).ringStart r
    else d.ringCfgSet nv r v := rfl

theorem bitAt_eq_on (f : Fld) (r : Nat) (hlo : f.lo = 0) (hw : f.w = 1) : bitAt (d.rd f.reg r) 0 = d.on f r := by
  have hlt := bits_lt (d.rd f.reg r) 0 1
  rw [bitAt_eq_bits, Dev.on, Dev.fld, hlo, hw]
  interval_cases bits (d.rd f.reg r) 0 1 <;> rfl

theorem Dev.rd_ringCfg_plainWrite (nv : NonVol) (r v : Nat) : (d.plainWrite nv .HIF_RING_CFG r 0 v).rd .HIF_RING_CFG r =
    setBits (putIf (1 ≤ bits v 8 5 ∧ bits v 8 5 ≤ 16) (setBits (setBits (d.rd .HIF_RING_CFG r) 0 1 (bits v 0 1)) 1 1 (bits v 1 1))
      8 5 (bits v 8 5)) 16 5 (bits v 16 5) := by
  have hsize : inRange [(1, 16)] (bits v 8 5) = decide (1 ≤ bits v 8 5 ∧ bits v 8 5 ≤ 16) := by simp [inRange]
  rw [d.rd_plainWrite nv r 0 v (by decide)]
  simp only [fieldRows, List.foldl_cons, List.foldl_nil]
  rw [FldRow.put_plain rfl rfl, FldRow.put_plain rfl rfl, FldRow.put_plain rfl rfl, FldRow.put_plain rfl rfl]
  simp only [F.HIF_RING_CFG_EN, F.HIF_RING_CFG_IRQ_EMPTY, F.HIF_RING_CFG_LOG2_SIZE, F.HIF_RING_CFG_EVQ, hsize, decide_eq_true_eq]
  exact Nat.mod_eq_of_lt (setBits_lt (putIf_lt (setBits_lt (setBits_lt (d.rd_lt _ _ _) (by decide)) (by decide)) (by decide)) (by decide))

/-- EN and EVQ take what is written, LOG2_SIZE what is from 1 to 16. -/
theorem Dev.ringCfg_plainWrite (nv : NonVol) (r v : Nat) :
    (d.plainWrite nv .HIF_RING_CFG r 0 v).on F.HIF_RING_CFG_EN r = bitAt v 0 ∧
    (d.plainWrite nv .HIF_RING_CFG r 0 v).fld F.HIF_RING_CFG_EVQ r = bits v 16 5 ∧
    (d.plainWrite nv .HIF_RING_CFG r 0 v).fld F.HIF_RING_CFG_LOG2_SIZE r =
      if 1 ≤ bits v 8 5 ∧ bits v 8 5 ≤ 16 then bits v 8 5 else d.fld F.HIF_RING_CFG_LOG2_SIZE r := by
  refine ⟨?_, ?_, ?_⟩
  · rw [← bitAt_eq_on _ F.HIF_RING_CFG_EN r rfl rfl]
    change bitAt ((d.plainWrite nv .HIF_RING_CFG r 0 v).rd .HIF_RING_CFG r) 0 = _
    rw [Dev.rd_ringCfg_plainWrite, bitAt_eq_bits, bits_setBits_below (by decide), bits_putIf_other (by decide),
      bits_setBits_below (by decide), bits_setBits_same, Nat.mod_eq_of_lt (bits_lt v 0 1), ← bitAt_eq_bits]
  · change bits ((d.plainWrite nv .HIF_RING_CFG r 0 v).rd .HIF_RING_CFG r) 16 5 = _
    rw [Dev.rd_ringCfg_plainWrite, bits_setBits_same, Nat.mod_eq_of_lt (bits_lt v 16 5)]
  · change bits ((d.plainWrite nv .HIF_RING_CFG r 0 v).rd .HIF_RING_CFG r) 8 5 = _
    rw [Dev.rd_ringCfg_plainWrite, bits_setBits_below (by decide), bits_putIf_same, bits_setBits_above (by decide),
      bits_setBits_above (by decide)]
    rfl

theorem Dev.bit_ringCfgWord (r v : Nat) : bitAt (d.ringCfgWord r v) 0 = (bitAt v 0 && d.ringsOpen) := by
  have hkeep : bitAt (if bitAt (d.rd .HIF_RING_CFG r) 0 then
      setBits (setBits v 8 5 (bits (d.rd .HIF_RING_CFG r) 8 5)) 16 5 (bits (d.rd .HIF_RING_CFG r) 16 5) else v) 0 = bitAt v 0 := by
    split
    · rw [bitAt_eq_bits, bits_setBits_below (by decide), bits_setBits_below (by decide), ← bitAt_eq_bits]
    · rfl
  unfold Dev.ringCfgWord
  cases d.ringsOpen with
  | true => simp only [if_true, hkeep, Bool.and_true]
  | false => simp [bitAt_eq_bits]

/-- The fields beside EN of a ring that is disabled are those written. -/
theorem Dev.bits_ringCfgWord_off {r lo w : Nat} (v : Nat) (h : bitAt (d.rd .HIF_RING_CFG r) 0 = false) (hlo : 1 ≤ lo) :
    bits (d.ringCfgWord r v) lo w = bits v lo w := by
  unfold Dev.ringCfgWord
  simp only [h, Bool.false_eq_true, if_false]
  split
  · rfl
  · exact bits_setBits_above (by omega)

/-- LOG2_SIZE and EVQ of a ring that is enabled are those it has. -/
theorem Dev.bits_ringCfgWord_on {r : Nat} (v : Nat) (h : bitAt (d.rd .HIF_RING_CFG r) 0 = true) :
    bits (d.ringCfgWord r v) 8 5 = bits (d.rd .HIF_RING_CFG r) 8 5 ∧ bits (d.ringCfgWord r v) 16 5 = bits (d.rd .HIF_RING_CFG r) 16 5 := by
  have hset : ∀ x y : Nat, bits (setBits (setBits v 8 5 (bits x 8 5)) 16 5 (bits y 16 5)) 8 5 = bits x 8 5 ∧
      bits (setBits (setBits v 8 5 (bits x 8 5)) 16 5 (bits y 16 5)) 16 5 = bits y 16 5 := fun x y => by
    rw [bits_setBits_below (by decide), bits_setBits_same, bits_setBits_same, Nat.mod_eq_of_lt (bits_lt x 8 5),
      Nat.mod_eq_of_lt (bits_lt y 16 5)]
    exact ⟨rfl, rfl⟩
  unfold Dev.ringCfgWord
  simp only [h, if_true]
  split
  · exact hset _ _
  · rw [bits_setBits_above (l := 8) (by decide), bits_setBits_above (l := 16) (by decide)]
    exact hset _ _

/-- A write of HIF_RING_CFG to a ring that is disabled, or enabled. -/
theorem Dev.ringCfgSet_fields (nv : NonVol) (r v : Nat) :
    (d.ringCfgSet nv r v).on F.HIF_RING_CFG_EN r = (bitAt v 0 && d.ringsOpen) ∧
    (d.on F.HIF_RING_CFG_EN r = false → (d.ringCfgSet nv r v).fld F.HIF_RING_CFG_EVQ r = bits v 16 5 ∧
      (1 ≤ bits v 8 5 → bits v 8 5 ≤ 16 → (d.ringCfgSet nv r v).fld F.HIF_RING_CFG_LOG2_SIZE r = bits v 8 5)) ∧
    (d.on F.HIF_RING_CFG_EN r = true →
      (d.ringCfgSet nv r v).fld F.HIF_RING_CFG_LOG2_SIZE r = d.fld F.HIF_RING_CFG_LOG2_SIZE r ∧
      (d.ringCfgSet nv r v).fld F.HIF_RING_CFG_EVQ r = d.fld F.HIF_RING_CFG_EVQ r) := by
  have hen : bitAt (d.rd .HIF_RING_CFG r) 0 = d.on F.HIF_RING_CFG_EN r := bitAt_eq_on d F.HIF_RING_CFG_EN r rfl rfl
  obtain ⟨hon, hevq, hsize⟩ := d.ringCfg_plainWrite nv r (d.ringCfgWord r v)
  rw [Dev.ringCfgSet, hon, hevq, hsize, Dev.bit_ringCfgWord]
  refine ⟨rfl, fun h => ?_, fun h => ?_⟩
  · rw [d.bits_ringCfgWord_off v (hen.trans h) (by decide), d.bits_ringCfgWord_off v (hen.trans h) (by decide)]
    exact ⟨rfl, fun hlo hhi => if_pos ⟨hlo, hhi⟩⟩
  · obtain ⟨h8, h16⟩ := d.bits_ringCfgWord_on v (hen.trans h)
    rw [h8, h16]
    exact ⟨ite_self _, rfl⟩

theorem told_ringCfgSet (nv : NonVol) (r v : Nat) : Told [.HIF_RING_CFG] d (d.ringCfgSet nv r v) :=
  Told.ofOnlyRegs (onlyRegs_plainWrite { dev := d } nv r 0 _ (by decide))

/-- What a ring that starts shows. -/
theorem Dev.ringStart_shows (r : Nat) : (d.ringStart r).rd .HIF_RING_HEAD r = 0 ∧ (d.ringStart r).rd .HIF_RING_TAIL r = 0 ∧
    (d.ringStart r).on F.HIF_RING_STAT_PHASE r = true ∧ ((d.ringStart r).ring r).stopped = false := by
  refine ⟨?_, ?_, ?_, ?_⟩
  · rw [Dev.ringStart, Dev.modRing_rd, Dev.setOn, Dev.rd_setFld_name _ _ _ _ _ _ _ _ (by decide), Dev.rd_wr_name _ _ _ _ _ _ (by decide)]
    exact Dev.rd_wr_same _ _ _ _ _
  · rw [Dev.ringStart, Dev.modRing_rd, Dev.setOn, Dev.rd_setFld_name _ _ _ _ _ _ _ _ (by decide)]
    exact Dev.rd_wr_same _ _ _ _ _
  · rw [Dev.ringStart, Dev.modRing_on]
    exact Dev.on_setOn_same _ _ _ _ _ (by decide) rfl
  · rw [Dev.ringStart, Dev.ring_modRing_same]

/-- The registers that starting a ring changes. -/
def ringStartRegs : List RegName := [.HIF_RING_HEAD, .HIF_RING_TAIL, .HIF_RING_STAT]

theorem told_ringStart (r : Nat) : ToldRings ringStartRegs d (d.ringStart r) :=
  (ToldRings.ofTold ((Told.wr _ d .HIF_RING_HEAD r 0 0 (by decide)).trans ((Told.wr _ _ .HIF_RING_TAIL r 0 0 (by decide)).trans
    (told_setOn _ _ F.HIF_RING_STAT_PHASE r 0 true (by decide))))).trans (.modRing _ _ r _)

theorem Dev.fld_ringStart (r : Nat) (f : Fld) (h : f.reg ∉ ringStartRegs) : (d.ringStart r).fld f r = d.fld f r :=
  (Told.fld (told_ringStart d r) f r 0 h).trans rfl

/-- Starting the ring leaves HIF_RING_CFG, and every other ring. -/
theorem Dev.ringCfgWrite_set (nv : NonVol) (r v : Nat) (f : Fld) (h : f.reg = .HIF_RING_CFG) :
    (d.ringCfgWrite nv r v).fld f r = (d.ringCfgSet nv r v).fld f r := by
  rw [Dev.ringCfgWrite_eq]; split
  · exact Dev.fld_ringStart _ r f (by rw [h]; decide)
  · rfl

theorem Dev.ring_ringCfgWrite_other (nv : NonVol) {r k : Nat} (v : Nat) (h : k ≠ r) : (d.ringCfgWrite nv r v).ring k = d.ring k := by
  have hset : (d.ringCfgSet nv r v).ring k = d.ring k := (told_ringCfgSet d nv r v).ring k
  rw [Dev.ringCfgWrite_eq]; split
  · rw [Dev.ringStart, Dev.ring_modRing_other _ _ (Ne.symm h)]; exact hset
  · exact hset

theorem told_ringCfgWrite (nv : NonVol) (r v : Nat) :
    ToldRings [.HIF_RING_CFG, .HIF_RING_HEAD, .HIF_RING_TAIL, .HIF_RING_STAT] d (d.ringCfgWrite nv r v) := by
  have hset : ToldRings [.HIF_RING_CFG, .HIF_RING_HEAD, .HIF_RING_TAIL, .HIF_RING_STAT] d (d.ringCfgSet nv r v) :=
    (ToldRings.ofTold (told_ringCfgSet d nv r v)).mono (by decide)
  rw [Dev.ringCfgWrite_eq]; split
  · exact hset.trans ((told_ringStart _ r).mono (by decide))
  · exact hset

/-- A disabled ring that is enabled starts. -/
theorem Dev.ringCfgWrite_starts (nv : NonVol) {r v : Nat} (hoff : d.on F.HIF_RING_CFG_EN r = false) (hen : bitAt v 0 = true)
    (hopen : d.ringsOpen = true) : d.ringCfgWrite nv r v = (d.ringCfgSet nv r v).ringStart r := by
  obtain ⟨hon, -⟩ := d.ringCfgSet_fields nv r v
  have hbit : bitAt (d.rd .HIF_RING_CFG r) 0 = false := (bitAt_eq_on d F.HIF_RING_CFG_EN r rfl rfl).trans hoff
  rw [Dev.ringCfgWrite_eq, hon, hbit, hen, hopen]
  rfl

/-! ### An error of a descriptor's read (R397) -/

/-- The device after a ring's take-up has stopped on an error. -/
def Dev.fetchStopped (r : Nat) : Dev := (d.modRing r fun x => { x with stopped := true }).ringErr r F.HIF_RING_STAT_FETCH_ERR

/-- A ring whose descriptors are taken up. -/
def Dev.fetches (r : Nat) : Bool :=
  d.takesUp && d.on F.HIF_RING_CFG_EN r && !(d.ring r).stopped && d.rd .HIF_RING_HEAD r != d.rd .HIF_RING_TAIL r

theorem Dev.fetches_iff (r : Nat) : d.fetches r = true ↔ d.takesUp = true ∧ d.on F.HIF_RING_CFG_EN r = true ∧
    (d.ring r).stopped = false ∧ d.rd .HIF_RING_HEAD r ≠ d.rd .HIF_RING_TAIL r := by
  simp only [Dev.fetches, Bool.and_eq_true, Bool.not_eq_true', bne_iff_ne, and_assoc]

theorem told_fetchStopped (r : Nat) : ToldRings ringErrRegs d (d.fetchStopped r) :=
  (ToldRings.modRing _ d r _).trans (.ofTold (told_ringErr _ r rfl))

theorem Dev.ring_fetchStopped (r : Nat) : (d.fetchStopped r).ring r = { d.ring r with stopped := true } ∧
    ∀ k, k ≠ r → (d.fetchStopped r).ring k = d.ring k := by
  have hrings := (told_ringErr (d.modRing r fun x => { x with stopped := true }) r (f := F.HIF_RING_STAT_FETCH_ERR) rfl).ring
  refine ⟨?_, fun k hk => ?_⟩
  · rw [Dev.fetchStopped, hrings, Dev.ring_modRing_same]
  · rw [Dev.fetchStopped, hrings, Dev.ring_modRing_other _ _ (Ne.symm hk)]

end Sys2Proof.Machine

namespace Sys2Proof.Proofs

open Sys2Proof.Machine Sys2Proof.Safety

theorem does_doorbell {c : Instr} {s : State} {r : Nat} {v : Word} {cmd : Bool}
    (hexec : exec c s = .next { s with dev := s.dev.doorbell r v.toNat cmd }) :
    (s.dev.doorbellFits r v.toNat cmd → Does c s fun t =>
      t.dev.rd .HIF_RING_TAIL r = v.toNat ∧ OnlyRegs [(.HIF_RING_TAIL, r, 0)] s t) ∧
    (¬ s.dev.doorbellFits r v.toNat cmd → Does c s fun t =>
      t.dev.on F.HIF_RING_STAT_DB_ERR r = true ∧ bitAt (t.dev.rd .HIF_MISC_STAT) 0 = true ∧ Says [.HIF_RING_STAT, .HIF_MISC_STAT] s t) := by
  refine ⟨fun h => ⟨_, hexec, ?_⟩, fun h => ⟨_, hexec, ?_⟩⟩
  · rw [s.dev.doorbell_taken h]
    exact ⟨(s.dev.rd_wr_same _ _ _ _).trans (Nat.mod_eq_of_lt v.isLt), onlyRegs_wr s _ r 0 _⟩
  · rw [s.dev.doorbell_ignored h]
    obtain ⟨herr, hmisc⟩ := s.dev.ringErr_marks r (f := F.HIF_RING_STAT_DB_ERR) rfl (by decide) rfl
    exact ⟨herr, hmisc, rfl, rfl, told_ringErr s.dev r rfl⟩

theorem does_commandDoorbell (ring : Fin 32) (v : Word) (s : State) (size head tail : Nat) (hsize : size = s.dev.ringSize ring)
    (hhead : head = s.dev.rd .HIF_RING_HEAD ring % size) (htail : tail = s.dev.rd .HIF_RING_TAIL ring % size) :
    (v.toNat < size → (v.toNat + size - tail) % size + (tail + size - head) % size < size → Does (.commandDoorbell ring v) s fun t =>
      t.dev.rd .HIF_RING_TAIL ring = v.toNat ∧ OnlyRegs [(.HIF_RING_TAIL, ring, 0)] s t) ∧
    (size ≤ v.toNat ∨ size ≤ (v.toNat + size - tail) % size + (tail + size - head) % size → Does (.commandDoorbell ring v) s fun t =>
      t.dev.on F.HIF_RING_STAT_DB_ERR ring = true ∧ bitAt (t.dev.rd .HIF_MISC_STAT) 0 = true ∧
      Says [.HIF_RING_STAT, .HIF_MISC_STAT] s t) := by
  subst hsize hhead htail
  obtain ⟨htaken, hignored⟩ := does_doorbell (c := .commandDoorbell ring v) (s := s) (r := ring) (v := v) (cmd := true) rfl
  exact ⟨fun hv hroom => htaken ⟨hv, hroom⟩, fun h => hignored fun ⟨hv, hroom⟩ => h.elim (Nat.not_le.2 hv) (Nat.not_le.2 hroom)⟩

theorem does_eventDoorbell (evq : Fin 32) (v : Word) (s : State) (r size head tail : Nat) (hr : r = 32 + evq.val)
    (hsize : size = s.dev.ringSize r) (hhead : head = s.dev.rd .HIF_RING_HEAD r % size) (htail : tail = s.dev.rd .HIF_RING_TAIL r % size) :
    (v.toNat < size → (v.toNat + size - tail) % size ≤ (head + size - tail) % size → Does (.eventDoorbell evq v) s fun t =>
      t.dev.rd .HIF_RING_TAIL r = v.toNat ∧ OnlyRegs [(.HIF_RING_TAIL, r, 0)] s t) ∧
    (size ≤ v.toNat ∨ (head + size - tail) % size < (v.toNat + size - tail) % size → Does (.eventDoorbell evq v) s fun t =>
      t.dev.on F.HIF_RING_STAT_DB_ERR r = true ∧ bitAt (t.dev.rd .HIF_MISC_STAT) 0 = true ∧
      Says [.HIF_RING_STAT, .HIF_MISC_STAT] s t) := by
  have hring : evRing evq = r := by rw [evRing, Nat.mod_eq_of_lt evq.isLt, hr]
  have hexec : exec (.eventDoorbell evq v) s = .next { s with dev := s.dev.doorbell r v.toNat false } := by
    rw [← hring]; rfl
  subst hsize hhead htail
  obtain ⟨htaken, hignored⟩ := does_doorbell hexec
  exact ⟨fun hv hroom => htaken ⟨hv, hroom⟩, fun h => hignored fun ⟨hv, hroom⟩ => h.elim (Nat.not_le.2 hv) (Nat.not_lt.2 hroom)⟩

/-! ### Set-up and errors -/

theorem does_ringCfgWrite (ring : Fin 64) (v : Word) (s : State) : Does (.ringCfgWrite ring v) s fun t =>
    t.dev.on F.HIF_RING_CFG_EN ring = (bitAt v.toNat 0 && s.dev.ringsOpen) ∧
    (s.dev.on F.HIF_RING_CFG_EN ring = false → bitAt v.toNat 0 = true → s.dev.ringsOpen = true →
      t.dev.rd .HIF_RING_HEAD ring = 0 ∧ t.dev.rd .HIF_RING_TAIL ring = 0 ∧ t.dev.on F.HIF_RING_STAT_PHASE ring = true ∧
      (t.dev.ring ring).stopped = false) ∧
    (s.dev.on F.HIF_RING_CFG_EN ring = false → t.dev.fld F.HIF_RING_CFG_EVQ ring = bits v.toNat 16 5 ∧
      (1 ≤ bits v.toNat 8 5 → bits v.toNat 8 5 ≤ 16 → t.dev.fld F.HIF_RING_CFG_LOG2_SIZE ring = bits v.toNat 8 5)) ∧
    (s.dev.on F.HIF_RING_CFG_EN ring = true → t.dev.fld F.HIF_RING_CFG_LOG2_SIZE ring = s.dev.fld F.HIF_RING_CFG_LOG2_SIZE ring ∧
      t.dev.fld F.HIF_RING_CFG_EVQ ring = s.dev.fld F.HIF_RING_CFG_EVQ ring) ∧
    (∀ k, k ≠ ring.val → t.dev.ring k = s.dev.ring k) ∧
    Says [.HIF_RING_CFG, .HIF_RING_HEAD, .HIF_RING_TAIL, .HIF_RING_STAT] (withRings s t) t := by
  refine ⟨{ s with dev := s.dev.ringCfgWrite s.nv ring v.toNat }, rfl, ?_, fun hoff hen hopen => ?_, ?_, ?_, fun k hk => ?_, rfl, rfl,
    told_ringCfgWrite s.dev s.nv ring v.toNat⟩
  all_goals dsimp only
  · rw [Dev.on, s.dev.ringCfgWrite_set _ _ _ _ rfl]
    exact (s.dev.ringCfgSet_fields s.nv ring v.toNat).1
  · rw [s.dev.ringCfgWrite_starts _ hoff hen hopen]
    exact Dev.ringStart_shows _ _
  · rw [s.dev.ringCfgWrite_set _ _ _ _ rfl, s.dev.ringCfgWrite_set _ _ _ _ rfl]
    exact (s.dev.ringCfgSet_fields s.nv ring v.toNat).2.1
  · rw [s.dev.ringCfgWrite_set _ _ _ _ rfl, s.dev.ringCfgWrite_set _ _ _ _ rfl]
    exact (s.dev.ringCfgSet_fields s.nv ring v.toNat).2.2
  · exact s.dev.ring_ringCfgWrite_other _ _ hk

theorem exec_descriptorFetchError (ring : Fin 32) (s : State) : exec (.descriptorFetchError ring) s =
    .next { s with dev := if s.dev.fetches ring then s.dev.fetchStopped ring else s.dev } := rfl

theorem does_descriptorFetchError (ring : Fin 32) (s : State) :
    (s.dev.takesUp = true → s.dev.on F.HIF_RING_CFG_EN ring = true → (s.dev.ring ring).stopped = false →
      s.dev.rd .HIF_RING_HEAD ring ≠ s.dev.rd .HIF_RING_TAIL ring → Does (.descriptorFetchError ring) s fun t =>
      t.dev.on F.HIF_RING_STAT_FETCH_ERR ring = true ∧ t.dev.ring ring = { s.dev.ring ring with stopped := true } ∧
      bitAt (t.dev.rd .HIF_MISC_STAT) 0 = true ∧ (∀ k, k ≠ ring.val → t.dev.ring k = s.dev.ring k) ∧
      Says [.HIF_RING_STAT, .HIF_MISC_STAT] (withRings s t) t) ∧
    (s.dev.takesUp = false ∨ s.dev.on F.HIF_RING_CFG_EN ring = false ∨ (s.dev.ring ring).stopped = true ∨
      s.dev.rd .HIF_RING_HEAD ring = s.dev.rd .HIF_RING_TAIL ring → Idle (.descriptorFetchError ring) s) := by
  refine ⟨fun htakes hen hruns hfilled => ⟨_, exec_descriptorFetchError ring s, ?_⟩, fun h => ?_⟩
  · rw [if_pos ((s.dev.fetches_iff ring).2 ⟨htakes, hen, hruns, hfilled⟩)]
    obtain ⟨herr, hmisc⟩ := Dev.ringErr_marks (s.dev.modRing ring fun x => { x with stopped := true }) ring
      (f := F.HIF_RING_STAT_FETCH_ERR) rfl (by decide) rfl
    obtain ⟨hring, hothers⟩ := s.dev.ring_fetchStopped ring
    exact ⟨herr, hring, hmisc, hothers, rfl, rfl, told_fetchStopped s.dev ring⟩
  · rw [Idle, exec_descriptorFetchError, if_neg fun hfetches => ?_]
    obtain ⟨htakes, hen, hruns, hfilled⟩ := (s.dev.fetches_iff ring).1 hfetches
    simp only [htakes, hen, hruns, hfilled, Bool.true_eq_false, Bool.false_eq_true, or_self] at h

/-- Settles O30: the model's room for a doorbell is the manual's (`Dev.doorbell_cond`); a write of HIF_RING_CFG puts its fields, then
starts a ring that it enables (`Dev.ringCfgWrite_eq`); an error of a read stops the ring and marks it. -/
theorem ringsAndDoorbells : Obligations.RingsAndDoorbells :=
  ⟨does_commandDoorbell, does_eventDoorbell, does_ringCfgWrite, does_descriptorFetchError⟩

end Sys2Proof.Proofs
end

section
/-! PROOFS. Interrupt vectors and event rings: what firing a vector and writing an entry change. -/

namespace Sys2Proof.Machine

open Sys2Proof.Safety

variable (d : Dev)

/-! ### Interrupt vectors (R384, R424) -/

@[simp] theorem Dev.msix_modMsix_same (v : Nat) (f : MsixRow → MsixRow) : (d.modMsix v f).msix v = f (d.msix v) := by
  simp [Dev.msix, Dev.modMsix]

theorem Dev.msix_modMsix_other {v k : Nat} (f : MsixRow → MsixRow) (h : v ≠ k) : (d.modMsix v f).msix k = d.msix k := by
  simp only [Dev.msix, Dev.modMsix]; rw [tblGet_set_other _ _ _ _ h]

@[simp] theorem Dev.emit_msix (o : Output) (v : Nat) : (d.emit o).msix v = d.msix v := rfl

/-- The message of a vector, as its row has it. -/
def Dev.msixOut (v : Nat) : Output := .msix v ((d.msix v).addrLo + 2 ^ 32 * (d.msix v).addrHi) (d.msix v).data

/-- A masked vector that fires sets its pending bit. -/
theorem Dev.fireVec_masked {v : Nat} (hen : d.host.msixEn = true) (hmask : (d.msix v).mask = true) :
    d.fireVec v = d.modMsix v fun r => { r with pend := true } := by
  unfold Dev.fireVec; simp only [hen, hmask, Bool.true_or, if_true]

/-- An unmasked vector that fires is sent while the device may make requests. -/
theorem Dev.fireVec_sent {v : Nat} (hen : d.host.msixEn = true) (hreq : d.mayReq = true) (hmask : (d.msix v).mask = false) :
    d.fireVec v = d.emit (d.msixOut v) := by
  unfold Dev.fireVec; simp only [hen, hreq, hmask, Bool.not_true, Bool.or_false, if_true, Bool.false_eq_true, if_false]; rfl

/-- Unmasking a vector with nothing to send clears its mask alone. -/
theorem Dev.vecCtl_unmasks {v : Nat} (h : ((d.msix v).pend && d.host.msixEn && d.mayReq) = false) :
    d.vecCtl v false = d.modMsix v fun r => { r with mask := false } := by
  unfold Dev.vecCtl; simp only [Bool.not_false, Bool.true_and, h, Bool.false_eq_true, if_false]

/-- Unmasking a pending vector that can be sent sends it. -/
theorem Dev.vecCtl_sends {v : Nat} (h : ((d.msix v).pend && d.host.msixEn && d.mayReq) = true) :
    d.vecCtl v false = (d.modMsix v fun r => { r with mask := false, pend := false }).emit (d.msixOut v) := by
  obtain ⟨⟨-, hen⟩, hreq⟩ := (by simpa only [Bool.and_eq_true] using h : (_ ∧ _) ∧ _)
  have hfire := (d.modMsix v fun r => { r with mask := false, pend := false }).fireVec_sent (v := v) hen hreq (by rw [Dev.msix_modMsix_same])
  unfold Dev.vecCtl; simp only [Bool.not_false, Bool.true_and, h, if_true]
  rw [hfire]
  unfold Dev.msixOut; rw [Dev.msix_modMsix_same]

theorem told_vecCtl (L : List RegName) (v : Nat) (mask : Bool) : Told L d (d.vecCtl v mask) := by
  unfold Dev.vecCtl; dsimp only; split
  · exact (told_modMsix d L v _).trans (told_fireVec _ L v)
  · exact told_modMsix d L v _

/-! ### What a signal leaves -/

/-- Between two devices only the MSI-X table and the rings' records have changed, and outputs have been added. -/
structure Signals (d e : Dev) : Prop where
  rest : e = { d with out := e.out, host := { d.host with msix := e.host.msix, rings := e.host.rings } }
  out  : ∃ l, e.out = d.out ++ l

namespace Signals

variable {d} {e f : Dev}

theorem refl (d : Dev) : Signals d d := ⟨rfl, [], (List.append_nil _).symm⟩

theorem trans (a : Signals d e) (b : Signals e f) : Signals d f where
  rest := by rw [b.rest, a.rest]
  out := by
    obtain ⟨l, hl⟩ := a.out
    obtain ⟨m, hm⟩ := b.out
    exact ⟨l ++ m, by rw [hm, hl, List.append_assoc]⟩

theorem outq (a : Signals d e) (l : Nat) : e.outq l = d.outq l := by rw [a.rest]; rfl
theorem rd (a : Signals d e) (r : RegName) (i j : Nat) : e.rd r i j = d.rd r i j := by rw [a.rest]; rfl

theorem told (L : List RegName) (a : Signals d e) : ToldRings L d e := by
  have h : Told L (d.withRings e.host.rings) { d with out := e.out, host := { d.host with msix := e.host.msix, rings := e.host.rings } } :=
    { Told.refl L _ with }
  rwa [← a.rest] at h

theorem modMsix (d : Dev) (v : Nat) (g : MsixRow → MsixRow) : Signals d (d.modMsix v g) := ⟨rfl, [], (List.append_nil _).symm⟩
theorem modRing (d : Dev) (r : Nat) (g : Ring → Ring) : Signals d (d.modRing r g) := ⟨rfl, [], (List.append_nil _).symm⟩
theorem emit (d : Dev) (o : Output) : Signals d (d.emit o) := ⟨rfl, [o], rfl⟩

end Signals

theorem signals_fireVec (v : Nat) : Signals d (d.fireVec v) := by
  unfold Dev.fireVec; split
  · dsimp only; split
    · exact .modMsix d v _
    · exact .emit d _
  · exact .refl d

theorem signals_fireRing (r : Nat) : Signals d (d.fireRing r) := (Signals.modRing d r _).trans (signals_fireVec _ r)

/-! ### An entry is written (R390 to R392, R422) -/

/-- The entry at HEAD is the last of the ring. -/
def Dev.wraps (r : Nat) : Bool := d.rd .HIF_RING_HEAD r + 1 == d.ringSize r

/-- The entry's write to host memory. -/
def Dev.entryOut (r : Nat) (e : Entry) : Output :=
  .memWrite (64 * (d.pair .HIF_RING_BASE_L .HIF_RING_BASE_H r / 64) + 32 * d.rd .HIF_RING_HEAD r) (e.encode (d.on F.HIF_RING_STAT_PHASE r))

/-- HEAD has moved past the entry. -/
def Dev.headMoved (r : Nat) : Dev := d.wr .HIF_RING_HEAD r 0 (if d.wraps r then 0 else d.rd .HIF_RING_HEAD r + 1)

/-- The phase has toggled where HEAD has wrapped. -/
def Dev.phaseMoved (r : Nat) (wrap : Bool) : Dev := if wrap then d.setOn F.HIF_RING_STAT_PHASE r 0 (!d.on F.HIF_RING_STAT_PHASE r) else d

/-- The device with an entry written, before it is signalled. -/
def Dev.entryWritten (r : Nat) (e : Entry) : Dev :=
  let w := ((d.emit (d.entryOut r e)).headMoved r).phaseMoved r (d.wraps r)
  w.modRing r fun x => { x with unsig := x.unsig + 1, oldest := if x.unsig = 0 then w.tc else x.oldest }

theorem Dev.writeEntry_eq (r : Nat) (e : Entry) : d.writeEntry r e =
    if e.irq || decide (((d.entryWritten r e).ring r).unsig ≥ (d.entryWritten r e).fld F.HIF_RING_MOD_COUNT r)
    then (d.entryWritten r e).fireRing r else d.entryWritten r e := rfl

theorem signals_writeEntry (r : Nat) (e : Entry) : Signals (d.entryWritten r e) (d.writeEntry r e) := by
  rw [Dev.writeEntry_eq]; split
  · exact signals_fireRing _ r
  · exact .refl _

/-- The registers that writing an entry changes. -/
def postedRegs : List RegName := [.HIF_RING_HEAD, .HIF_RING_STAT]

theorem told_headMoved (r : Nat) : Told postedRegs d (d.headMoved r) := Told.wr _ d .HIF_RING_HEAD r 0 _ (by decide)

theorem told_phaseMoved (r : Nat) (wrap : Bool) : Told postedRegs d (d.phaseMoved r wrap) := by
  unfold Dev.phaseMoved; split
  · exact told_setOn d _ F.HIF_RING_STAT_PHASE r 0 _ (by decide)
  · exact .refl _ d

theorem told_entryWritten (r : Nat) (e : Entry) : ToldRings postedRegs d (d.entryWritten r e) :=
  (ToldRings.ofTold ((told_emit d _ _).trans ((told_headMoved _ r).trans (told_phaseMoved _ r _)))).trans (.modRing _ _ r _)

theorem told_writeEntry (r : Nat) (e : Entry) : ToldRings postedRegs d (d.writeEntry r e) :=
  (told_entryWritten d r e).trans ((signals_writeEntry d r e).told _)

@[simp] theorem Dev.phaseMoved_out (r : Nat) (wrap : Bool) : (d.phaseMoved r wrap).out = d.out := by unfold Dev.phaseMoved; split <;> rfl
@[simp] theorem Dev.phaseMoved_outq (r l : Nat) (wrap : Bool) : (d.phaseMoved r wrap).outq l = d.outq l := by
  unfold Dev.phaseMoved; split <;> rfl

theorem Dev.out_writeEntry (r : Nat) (e : Entry) : ∃ l, (d.writeEntry r e).out = d.out ++ d.entryOut r e :: l := by
  obtain ⟨l, hl⟩ := (signals_writeEntry d r e).out
  have hw : (d.entryWritten r e).out = d.out ++ [d.entryOut r e] := by
    rw [Dev.entryWritten, Dev.modRing_out, Dev.phaseMoved_out]; rfl
  exact ⟨l, by rw [hl, hw, List.append_assoc]; rfl⟩

theorem Dev.outq_writeEntry (r l : Nat) (e : Entry) : (d.writeEntry r e).outq l = d.outq l := by
  rw [(signals_writeEntry d r e).outq]
  change (((d.emit (d.entryOut r e)).headMoved r).phaseMoved r (d.wraps r)).outq l = _
  rw [Dev.phaseMoved_outq]; rfl

/-- HEAD goes round the ring. -/
theorem Dev.head_writeEntry {r : Nat} (e : Entry) (h : d.rd .HIF_RING_HEAD r < d.ringSize r) :
    (d.writeEntry r e).rd .HIF_RING_HEAD r = (d.rd .HIF_RING_HEAD r + 1) % d.ringSize r := by
  have hphase (w : Dev) (b : Bool) : (w.phaseMoved r b).rd .HIF_RING_HEAD r = w.rd .HIF_RING_HEAD r := by
    unfold Dev.phaseMoved; split
    · exact w.rd_setFld_name _ _ _ _ _ _ _ (by decide)
    · rfl
  have hsize : d.ringSize r ≤ 2 ^ 31 := Nat.pow_le_pow_right (by decide) (Nat.le_of_lt_succ (bits_lt _ _ 5))
  rw [(signals_writeEntry d r e).rd, Dev.entryWritten, Dev.modRing_rd, hphase, Dev.headMoved, Dev.rd_wr_same]
  change (if d.wraps r then 0 else d.rd .HIF_RING_HEAD r + 1) % 2 ^ 32 = _
  unfold Dev.wraps
  split
  · next hwrap => rw [beq_iff_eq.1 hwrap, Nat.mod_self, Nat.zero_mod]
  · next hwrap =>
    rw [beq_iff_eq] at hwrap
    rw [Nat.mod_eq_of_lt (by omega), Nat.mod_eq_of_lt (by omega)]

/-- The phase toggles at the wrap. -/
theorem Dev.phase_writeEntry (r : Nat) (e : Entry) :
    (d.writeEntry r e).on F.HIF_RING_STAT_PHASE r = (d.on F.HIF_RING_STAT_PHASE r != d.wraps r) := by
  have hhead : ((d.emit (d.entryOut r e)).headMoved r).on F.HIF_RING_STAT_PHASE r = d.on F.HIF_RING_STAT_PHASE r :=
    congrArg (fun x : Nat => bits x 0 1 != 0) (d.rd_wr_name r 0 r 0 _ (show RegName.HIF_RING_HEAD ≠ .HIF_RING_STAT by decide))
  have hon : (d.writeEntry r e).on F.HIF_RING_STAT_PHASE r = (d.entryWritten r e).on F.HIF_RING_STAT_PHASE r :=
    congrArg (fun x : Nat => bits x 0 1 != 0) ((signals_writeEntry d r e).rd .HIF_RING_STAT r 0)
  rw [hon, Dev.entryWritten, Dev.modRing_on]
  unfold Dev.phaseMoved
  cases d.wraps r with
  | true =>
    simp only [if_true]
    rw [Dev.on_setOn_same _ _ _ _ _ (by decide) rfl, hhead]
    cases d.on F.HIF_RING_STAT_PHASE r <;> rfl
  | false =>
    simp only [Bool.false_eq_true, if_false, hhead]
    cases d.on F.HIF_RING_STAT_PHASE r <;> rfl

/-! ### The head entry of an outbound queue leaves it (R388, R427) -/

section Head

variable {d} {l : Nat} {e : Entry} {t : List Entry}

/-- A queue in which nothing waits for room takes nothing in when room comes up. -/
theorem Dev.refill_of_none (h : (d.outq l).waiting = []) : d.refill l = d.modOutq l fun q => { q with waiting := [] } := by
  unfold Dev.refill; simp only [h]; rfl

/-- The ring of an entry. -/
def Entry.evRing (e : Entry) : Nat := Machine.evRing (e.ring.getD 0)

/-- The device with the head entry of a queue taken from it. -/
def Dev.headTaken (d : Dev) (l : Nat) (t : List Entry) : Dev := d.modOutq l fun q => { q with held := t }

theorem Dev.postHead_writes (hheld : (d.outq l).held = e :: t) (hon : d.on F.HIF_RING_CFG_EN e.evRing = true)
    (hroom : d.ringRoom e.evRing = true) : d.postHead l = ((d.headTaken l t).writeEntry e.evRing e).refill l := by
  unfold Dev.postHead; simp only [hheld]
  change (if !d.on F.HIF_RING_CFG_EN e.evRing then _ else if d.ringRoom e.evRing then _ else _) = _
  rw [hon, hroom]; rfl

theorem Dev.postHead_drops (hheld : (d.outq l).held = e :: t) (hoff : d.on F.HIF_RING_CFG_EN e.evRing = false) :
    d.postHead l = ((d.headTaken l t).addFld F.HIF_RING_DROPS_COUNT e.evRing 0 1).refill l := by
  unfold Dev.postHead; simp only [hheld]
  change (if !d.on F.HIF_RING_CFG_EN e.evRing then _ else _) = _
  rw [hoff]; rfl

theorem Dev.outq_headTaken : (d.headTaken l t).outq l = { d.outq l with held := t } := Dev.outq_modOutq_same _ _ _

/-- An entry in a queue has room in its ring: the ring is enabled and not full, and the device makes requests. -/
theorem Dev.entryMay_of_held (hheld : (d.outq l).held = e :: t) :
    d.entryMay l = (d.on F.HIF_RING_CFG_EN e.evRing && d.ringRoom e.evRing) := by
  unfold Dev.entryMay; simp only [hheld]; rfl

end Head

end Sys2Proof.Machine
end

section
/-! PROOFS. The write arbiters: a leaf that alone has something to write has the turn, and what its write changes. -/

namespace Sys2Proof.Machine

open Sys2Proof.Safety

variable {d : Dev} {l : Nat}

/-! ### Other turns of the arbiters -/

/-- The device with other turns and deficits of its arbiters. -/
def Dev.withArbs (d : Dev) (n : Tbl Drr) : Dev := { d with host := { d.host with arbs := n } }

section Arbs

variable (d : Dev) (n : Tbl Drr)

@[simp] theorem Dev.withArbs_rd (r : RegName) (i j : Nat) : (d.withArbs n).rd r i j = d.rd r i j := rfl
@[simp] theorem Dev.withArbs_fld (f : Fld) (i j : Nat) : (d.withArbs n).fld f i j = d.fld f i j := rfl
@[simp] theorem Dev.withArbs_on (f : Fld) (i j : Nat) : (d.withArbs n).on f i j = d.on f i j := rfl
@[simp] theorem Dev.withArbs_outq (l : Nat) : (d.withArbs n).outq l = d.outq l := rfl
@[simp] theorem Dev.withArbs_out : (d.withArbs n).out = d.out := rfl
@[simp] theorem Dev.withArbs_dataAt (l : Nat) : (d.withArbs n).dataAt l = d.dataAt l := rfl
@[simp] theorem Dev.withArbs_maxWrite : (d.withArbs n).maxWrite = d.maxWrite := rfl
@[simp] theorem Dev.withArbs_ringSize (r : Nat) : (d.withArbs n).ringSize r = d.ringSize r := rfl
@[simp] theorem Dev.withArbs_ringRoom (r : Nat) : (d.withArbs n).ringRoom r = d.ringRoom r := rfl
@[simp] theorem Dev.withArbs_entryMay (l : Nat) : (d.withArbs n).entryMay l = d.entryMay l := rfl
@[simp] theorem Dev.withArbs_entryOut (r : Nat) (e : Entry) : (d.withArbs n).entryOut r e = d.entryOut r e := rfl

/-- What an arbiter drops changes the deficits alone (R436). -/
theorem Dev.dropDeficits_eq : ∃ n, d.dropDeficits = d.withArbs n := ⟨_, rfl⟩

end Arbs

/-! ### The choice of an arbiter (R435, R436) -/

section Choice

variable {a : Drr} {q cnt k : Nat} {kids : List (Nat × Nat × Pick)} {p : Pick}

/-- An arbiter's choice is the leaf of a child's choice. -/
theorem Drr.pick_leaf (h : a.pick q cnt k kids = some p) : ∃ x ∈ kids, p.leaf = x.2.2.leaf := by
  unfold Drr.pick at h
  dsimp only at h
  split at h
  · next x hx =>
    cases h
    exact ⟨x, List.mem_of_find?_eq_some hx, rfl⟩
  · obtain ⟨x, hx, h⟩ := Option.map_eq_some_iff.1 h
    cases h
    obtain ⟨j, -, hj⟩ := List.exists_of_findSome?_eq_some hx
    exact ⟨x, List.mem_of_find?_eq_some hj, rfl⟩

/-- An arbiter with a backlogged child chooses one. -/
theorem Drr.pick_isSome {x : Nat × Nat × Pick} (hx : x ∈ kids) (hlt : x.1 < cnt) : (a.pick q cnt k kids).isSome := by
  have hcnt : 0 < cnt := by omega
  obtain ⟨j, hj, hturn⟩ : ∃ j < cnt, (a.cur + 1 + j) % cnt = x.1 := by
    have hmod := Nat.mod_lt (a.cur + 1) hcnt
    refine ⟨(x.1 + (cnt - (a.cur + 1) % cnt)) % cnt, Nat.mod_lt _ hcnt, ?_⟩
    rw [Nat.add_mod_mod, ← Nat.mod_add_mod, show (a.cur + 1) % cnt + (x.1 + (cnt - (a.cur + 1) % cnt)) = x.1 + cnt by omega,
      Nat.add_mod_right, Nat.mod_eq_of_lt hlt]
  unfold Drr.pick
  dsimp only
  split
  · rfl
  · rw [Option.isSome_map, List.findSome?_isSome_iff]
    exact ⟨j, List.mem_range.2 hj, List.find?_isSome.2 ⟨x, hx, by rw [hturn]; exact beq_self_eq_true _⟩⟩

end Choice

section Levels

variable {bl : List (Nat × Nat)} {k cnt : Nat} {sub : Nat → Option Pick}

/-- Every choice is one leaf. -/
def OnlyLeaf (l : Nat) (o : Option Pick) : Prop := ∀ p, o = some p → p.leaf = l

theorem onlyLeaf_pickAt (h : ∀ c, OnlyLeaf l (sub c)) : OnlyLeaf l (d.pickAt bl k cnt sub) := fun p hp => by
  obtain ⟨x, hx, hleaf⟩ := Drr.pick_leaf hp
  obtain ⟨c, -, hc⟩ := List.mem_filterMap.1 hx
  obtain ⟨y, hy, rfl⟩ := Option.map_eq_some_iff.1 hc
  rw [hleaf]; exact h c y hy

theorem Dev.pickAt_isSome {c : Nat} (hc : c < cnt) (h : (sub c).isSome) : (d.pickAt bl k cnt sub).isSome := by
  obtain ⟨p, hp⟩ := Option.isSome_iff_exists.1 h
  exact Drr.pick_isSome (List.mem_filterMap.2 ⟨c, List.mem_range.2 hc, by rw [hp]; rfl⟩) hc

end Levels

/-- A leaf that alone is backlogged has the turn. -/
theorem Dev.grant_only {x : Nat × Nat} (hl : l ≤ 192) (hx : x ∈ d.backlog) (hxl : x.1 = l) (honly : ∀ y ∈ d.backlog, y.1 = l) :
    ∃ n, d.grant = some (l, d.withArbs n) := by
  let leaf (m : Nat) : Option Pick := (d.backlog.find? fun y => y.1 == m).map fun y => { leaf := m, size := y.2 }
  have hleaf (m : Nat) : OnlyLeaf l (leaf m) := fun p hp => by
    obtain ⟨y, hy, rfl⟩ := Option.map_eq_some_iff.1 hp
    have hm : y.1 = m := by simpa using List.find?_some hy
    exact hm.symm.trans (honly y (List.mem_of_find?_eq_some hy))
  have hsome : (leaf l).isSome := by
    rw [Option.isSome_map, List.find?_isSome]; exact ⟨x, hx, by rw [hxl]; exact beq_self_eq_true _⟩
  have harb (b : Nat) : OnlyLeaf l (d.pickAt d.backlog b 8 fun c => leaf (8 * b + c)) := onlyLeaf_pickAt fun c => hleaf _
  have hpav (p : Nat) : OnlyLeaf l (d.pickAt d.backlog (24 + p) 4 fun c => d.pickAt d.backlog (4 * p + c) 8 fun m => leaf (8 * (4 * p + c) + m)) :=
    onlyLeaf_pickAt fun c => harb _
  have honlyRoot : OnlyLeaf l d.rootPick := onlyLeaf_pickAt fun c => by
    dsimp only; split
    · exact hpav c
    · exact hleaf 192
  have hroot : d.rootPick.isSome := by
    rcases Nat.lt_or_ge l 192 with hlt | hge
    · refine Dev.pickAt_isSome (c := l / 32) (by omega) ?_
      rw [if_pos (by omega)]
      refine Dev.pickAt_isSome (c := l / 8 % 4) (by omega) (Dev.pickAt_isSome (c := l % 8) (by omega) ?_)
      rwa [show 8 * (4 * (l / 32) + l / 8 % 4) + l % 8 = l by omega]
    · refine Dev.pickAt_isSome (c := 6) (by omega) ?_
      rw [if_neg (by omega)]
      rwa [show l = 192 by omega] at hsome
  obtain ⟨p, hp⟩ := Option.isSome_iff_exists.1 hroot
  exact ⟨p.nodes.foldl (fun t x => tblSet t x.1 x.2 {}) d.host.arbs, by
    rw [Dev.grant, hp, Option.map_some, honlyRoot p hp]; rfl⟩

/-! ### Backlogged leaves (R384, R435) -/

theorem Dev.maxWrite_pos : 0 < d.maxWrite := lt_of_lt_of_le (by decide) (le_max_left 128 _)

theorem Dev.mem_backlog (hkey : l = 192 ∨ l ∈ d.chans.map (·.1)) (h : d.nextSize l ≠ 0) : (l, d.nextSize l) ∈ d.backlog := by
  refine List.mem_filter.2 ⟨List.mem_map.2 ⟨l, List.mem_append.2 ?_, rfl⟩, bne_iff_ne.2 h⟩
  rcases hkey with rfl | hkey
  · exact .inr List.mem_cons_self
  · exact .inl hkey

/-- A leaf with output data, or with an entry that may go, is backlogged. -/
theorem Dev.nextSize_of_data {w : Nat × List Byte} {ws : List (Nat × List Byte)} (hreq : d.mayReq = true) (h : d.dataAt l = w :: ws) :
    d.nextSize l ≠ 0 := by
  have hq := d.maxWrite_pos
  unfold Dev.nextSize; simp only [hreq, if_true, h]; omega

theorem Dev.nextSize_of_entry (h : d.entryMay l = true) (hreq : d.mayReq = true) (hnone : d.dataAt l = []) : d.nextSize l ≠ 0 := by
  unfold Dev.nextSize; simp only [hreq, if_true, hnone, h]; decide

/-- A channel without a record has neither. -/
theorem Dev.ch_of_not_key (h : l ∉ d.chans.map (·.1)) : d.ch l = {} := by
  rw [Dev.ch, tblGet_of_not_mem _ h]

/-! ### One write of the arbiters (R436, R438) -/

theorem Dev.traffic_pos : ∃ f, d.traffic = f + 1 := by
  have hle (g : Nat → Nat) (ks : List Nat) (k : Nat) : k ≤ ks.foldl (fun k m => k + g m) k := by
    induction ks generalizing k with
    | nil => exact le_rfl
    | cons m ks ih => exact (Nat.le_add_right k (g m)).trans (ih _)
  exact ⟨d.traffic - 1, (Nat.sub_add_cancel (hle _ _ 1)).symm⟩

/-- Where one leaf alone is backlogged, its write comes first. -/
theorem Dev.serve_first {x : Nat × Nat} (stop : Nat → Dev → Dev → Bool) (hl : l ≤ 192) (hx : x ∈ d.backlog) (hxl : x.1 = l)
    (honly : ∀ y ∈ d.backlog, y.1 = l) (hstop : ∀ n, stop l d ((d.withArbs n).leafWrite l) = true) :
    ∃ n, d.serve d.traffic stop = (d.withArbs n).leafWrite l := by
  obtain ⟨n, hn⟩ := Dev.grant_only hl hx hxl honly
  obtain ⟨f, hf⟩ := d.traffic_pos
  exact ⟨n, by rw [hf, Dev.serve, hn]; dsimp only; rw [hstop, if_pos rfl]⟩

/-! ### EVENT_POST (R388, R427) -/

section Post

variable {e : Entry} {t : List Entry}

theorem Dev.outq_min (source : Nat) : d.outq (min source 192) = d.outq source := by
  unfold Dev.outq
  rcases Nat.lt_or_ge source 192 with h | h
  · rw [min_eq_left h.le]
  · rw [min_eq_right h, if_neg (by omega), if_neg (by omega)]

/-- With nothing to write and no entry to discard nothing is posted. -/
theorem Dev.postNow_idle (source : Nat) (hdata : d.dataAt (min source 192) = []) (hmay : d.entryMay (min source 192) = false)
    (hoff : ∀ e t, (d.outq source).held = e :: t → d.on F.HIF_RING_CFG_EN e.evRing = true) : d.postNow source = d := by
  have hnone : ((d.outq (min source 192)).held.head?.any fun e => !d.on F.HIF_RING_CFG_EN e.evRing) = false := by
    rw [Dev.outq_min]
    cases h : (d.outq source).held with
    | nil => rfl
    | cons e t => simp [hoff e t h]
  unfold Dev.postNow
  simp only [hdata, hmay, List.isEmpty_nil, Bool.not_true, Bool.or_false]
  change (d.cond false _).cond (Option.any (fun e : Entry => !d.on F.HIF_RING_CFG_EN e.evRing) _) _ = d
  rw [hnone]; rfl

/-- The entry of a disabled ring is discarded. -/
theorem Dev.postNow_drops {source : Nat} (hheld : (d.outq source).held = e :: t) (hdata : d.dataAt (min source 192) = [])
    (hoff : d.on F.HIF_RING_CFG_EN e.evRing = false) : d.postNow source = d.postHead (min source 192) := by
  have hl : (d.outq (min source 192)).held = e :: t := by rw [Dev.outq_min]; exact hheld
  have hmay : d.entryMay (min source 192) = false := by rw [Dev.entryMay_of_held hl, hoff]; rfl
  have hany : ((d.outq (min source 192)).held.head?.any fun e => !d.on F.HIF_RING_CFG_EN e.evRing) = true := by
    rw [hl]; simp [hoff]
  unfold Dev.postNow
  simp only [hdata, hmay, List.isEmpty_nil, Bool.not_true, Bool.or_false]
  change (d.cond false _).cond (Option.any (fun e : Entry => !d.on F.HIF_RING_CFG_EN e.evRing) _) _ = _
  rw [hany]; rfl

/-- Where no other leaf has anything to write, the entry of a ring with room is written. -/
theorem Dev.postNow_writes {source : Nat} (hheld : (d.outq source).held = e :: t) (hdata : d.dataAt (min source 192) = [])
    (hon : d.on F.HIF_RING_CFG_EN e.evRing = true) (hroom : d.ringRoom e.evRing = true)
    (honly : ∀ x ∈ d.backlog, x.1 = min source 192) :
    ∃ n, d.postNow source = ((d.withArbs n).postHead (min source 192)).dropDeficits := by
  have hl : (d.outq (min source 192)).held = e :: t := by rw [Dev.outq_min]; exact hheld
  have hmay : d.entryMay (min source 192) = true := by rw [Dev.entryMay_of_held hl, hon, hroom]; rfl
  have hreq : d.mayReq = true := (Bool.and_eq_true _ _ ▸ hroom : _ ∧ _).1
  have hany : ((d.outq (min source 192)).held.head?.any fun e => !d.on F.HIF_RING_CFG_EN e.evRing) = false := by
    rw [hl]; simp [hon]
  have hkey : min source 192 = 192 ∨ min source 192 ∈ d.chans.map (·.1) := by
    by_contra h
    obtain ⟨hne, hkey⟩ := not_or.1 h
    rw [Dev.outq, if_pos (by omega), Dev.ch_of_not_key hkey] at hl
    cases hl
  obtain ⟨n, hn⟩ := Dev.serve_first (fun x a b => (x == min source 192 && (a.dataAt (min source 192)).isEmpty) ||
    ((b.dataAt (min source 192)).isEmpty && !b.entryMay (min source 192))) (Nat.min_le_right source 192)
    (Dev.mem_backlog hkey (Dev.nextSize_of_entry hmay hreq hdata)) rfl honly
    (fun n => by rw [hdata, beq_self_eq_true]; rfl)
  refine ⟨n, ?_⟩
  unfold Dev.postNow
  simp only [hmay, Bool.or_true]
  change (d.cond true _).cond (Option.any (fun e : Entry => !d.on F.HIF_RING_CFG_EN e.evRing) _) _ = _
  rw [hany]
  refine hn.trans ?_
  rw [Dev.leafWrite, Dev.withArbs_dataAt, Dev.withArbs_entryMay, hdata, hmay]
  rfl

end Post

end Sys2Proof.Machine
end

section
/-! PROOFS. Events and interrupts: what a posted entry, a moderated vector, an unmasked one and the bus master's enable change (O33). -/

namespace Sys2Proof.Machine

open Sys2Proof.Safety

variable {d : Dev} {l : Nat}

/-! ### The head entry is written (R390 to R392, R427) -/

theorem Dev.modOutq_out (n : Nat) (f : OutQ → OutQ) : (d.modOutq n f).out = d.out := by unfold Dev.modOutq; split <;> rfl

theorem Dev.modOutq_rd (n : Nat) (f : OutQ → OutQ) (r : RegName) (i j : Nat) : (d.modOutq n f).rd r i j = d.rd r i j :=
  (told_modOutq d [] n f).regs r i j List.not_mem_nil

theorem Dev.modOutq_on (n : Nat) (f : OutQ → OutQ) (x : Fld) (i j : Nat) : (d.modOutq n f).on x i j = d.on x i j := by
  rw [Dev.on, Dev.fld, Dev.modOutq_rd]; rfl

theorem Dev.ringSize_headTaken (r : Nat) (t : List Entry) : (d.headTaken l t).ringSize r = d.ringSize r := by
  rw [Dev.ringSize, Dev.fld, Dev.headTaken, Dev.modOutq_rd]; rfl

theorem Dev.entryOut_headTaken (r : Nat) (e : Entry) (t : List Entry) : (d.headTaken l t).entryOut r e = d.entryOut r e := by
  simp only [Dev.entryOut, Dev.pair, Dev.headTaken, Dev.modOutq_rd, Dev.modOutq_on]

/-- What the write of a queue's head entry shows, where nothing waits for room in the queue. -/
structure HeadWritten (l r : Nat) (e : Entry) (t : List Entry) (d b : Dev) : Prop where
  held  : (b.outq l).held = t
  out   : ∃ m, b.out = d.out ++ d.entryOut r e :: m
  head  : b.rd .HIF_RING_HEAD r = (d.rd .HIF_RING_HEAD r + 1) % d.ringSize r
  phase : b.on F.HIF_RING_STAT_PHASE r = (d.on F.HIF_RING_STAT_PHASE r != (d.rd .HIF_RING_HEAD r + 1 == d.ringSize r))
  told  : ToldRings postedRegs d b

/-- The arbiters' turns do not count. -/
theorem HeadWritten.ofArbs {r : Nat} {e : Entry} {t : List Entry} {n : Tbl Drr} {b : Dev} (h : HeadWritten l r e t (d.withArbs n) b) :
    HeadWritten l r e t d b where
  held := h.held
  out := by simpa only [Dev.withArbs_out, Dev.withArbs_entryOut] using h.out
  head := by simpa only [Dev.withArbs_rd, Dev.withArbs_ringSize] using h.head
  phase := by simpa only [Dev.withArbs_rd, Dev.withArbs_ringSize, Dev.withArbs_on] using h.phase
  told := (ToldRings.ofTold (told_arbs d _ n)).trans h.told

theorem headWritten_postHead {e : Entry} {t : List Entry} (hheld : (d.outq l).held = e :: t) (hwait : (d.outq l).waiting = [])
    (hon : d.on F.HIF_RING_CFG_EN e.evRing = true) (hroom : d.ringRoom e.evRing = true)
    (hhead : d.rd .HIF_RING_HEAD e.evRing < d.ringSize e.evRing) : HeadWritten l e.evRing e t d (d.postHead l) := by
  have hq : ((d.headTaken l t).writeEntry e.evRing e).outq l = { d.outq l with held := t } := by
    rw [Dev.outq_writeEntry, Dev.outq_headTaken]
  have hrd : (d.headTaken l t).rd .HIF_RING_HEAD e.evRing = d.rd .HIF_RING_HEAD e.evRing := Dev.modOutq_rd _ _ _ _ _
  have hsize := Dev.ringSize_headTaken (d := d) (l := l) e.evRing t
  rw [Dev.postHead_writes hheld hon hroom, Dev.refill_of_none (by rw [hq]; exact hwait)]
  refine ⟨?_, ?_, ?_, ?_, ?_⟩
  · rw [Dev.outq_modOutq_same, hq]
  · obtain ⟨m, hm⟩ := (d.headTaken l t).out_writeEntry e.evRing e
    exact ⟨m, by rw [Dev.modOutq_out, hm, Dev.entryOut_headTaken, Dev.headTaken, Dev.modOutq_out]⟩
  · rw [Dev.modOutq_rd, Dev.head_writeEntry _ _ (by rw [hrd, hsize]; exact hhead), hrd, hsize]
  · rw [Dev.modOutq_on, Dev.phase_writeEntry, Dev.wraps, hrd, hsize, Dev.headTaken, Dev.modOutq_on]
  · exact (ToldRings.ofTold (told_modOutq d _ l _)).trans
      ((told_writeEntry _ _ _).trans (.ofTold (told_modOutq _ _ l _)))

/-- What the discard of a queue's head entry shows. -/
theorem postHead_dropped {e : Entry} {t : List Entry} (hheld : (d.outq l).held = e :: t) (hwait : (d.outq l).waiting = [])
    (hoff : d.on F.HIF_RING_CFG_EN e.evRing = false) : ((d.postHead l).outq l).held = t ∧
    (d.postHead l).fld F.HIF_RING_DROPS_COUNT e.evRing = sat 65535 (d.fld F.HIF_RING_DROPS_COUNT e.evRing + 1) ∧
    Told [.HIF_RING_DROPS] d (d.postHead l) := by
  have hq : ((d.headTaken l t).addFld F.HIF_RING_DROPS_COUNT e.evRing 0 1).outq l = { d.outq l with held := t } :=
    Dev.outq_headTaken
  rw [Dev.postHead_drops hheld hoff, Dev.refill_of_none (by rw [hq]; exact hwait)]
  refine ⟨?_, ?_, ?_⟩
  · rw [Dev.outq_modOutq_same, hq]
  · have hcount : (d.headTaken l t).fld F.HIF_RING_DROPS_COUNT e.evRing = d.fld F.HIF_RING_DROPS_COUNT e.evRing :=
      (told_modOutq d [] l _).fld _ _ _ List.not_mem_nil
    rw [(told_modOutq _ [] l _).fld _ _ _ List.not_mem_nil, Dev.addFld, Dev.fld_setFld_same _ _ _ _ _ (by decide), hcount]
    exact Nat.mod_eq_of_lt (lt_of_le_of_lt (min_le_left _ _) (by decide))
  · exact (told_modOutq d _ l _).trans ((told_addFld _ _ F.HIF_RING_DROPS_COUNT _ _ _ (by decide)).trans (told_modOutq _ _ l _))

/-! ### What waits while the device makes no requests (R384) -/

/-- Kept, but for the ledger and the rings' records. -/
def KeptBeside (L : List RegName) (d e : Dev) : Prop :=
  Kept L { d with ledger := e.ledger, host := { d.host with rings := e.host.rings } } e

namespace KeptBeside

variable {L M : List RegName} {e f : Dev}

theorem trans (a : KeptBeside L d e) (b : KeptBeside L e f) : KeptBeside L d f := by
  have h : Kept L { d with ledger := f.ledger, host := { d.host with rings := f.host.rings } }
      { e with ledger := f.ledger, host := { e.host with rings := f.host.rings } } :=
    ⟨a.time, a.syn, a.pwr, a.sess, a.images, rfl, a.sec, a.cal, a.ksk, a.flash, a.timers, a.prom,
      congrArg (fun h : HostIf => { h with rings := f.host.rings }) a.host, a.flt, a.regs⟩
  exact h.trans b

theorem ofKept (a : Kept L d e) : KeptBeside L d e := by
  have hrings : e.host.rings = d.host.rings := by rw [a.host]
  unfold KeptBeside
  rw [a.ledger, hrings]
  exact a

theorem ofToldRings (a : ToldRings L d e) : KeptBeside L d e := by
  have h : Kept L (d.withRings e.host.rings) e := Told.kept a
  have hledger : e.ledger = d.ledger := h.ledger
  unfold KeptBeside
  rw [hledger]
  exact h

theorem mono (h : ∀ r, r ∈ L → r ∈ M) (a : KeptBeside L d e) : KeptBeside M d e := Kept.mono h a

theorem refl (L : List RegName) (d : Dev) : KeptBeside L d d := ofKept (.refl L d)

theorem each {α : Type} (m : List α) {g : Dev → α → Dev} (h : ∀ d x, KeptBeside L d (g d x)) : KeptBeside L d (d.each m g) := by
  unfold Dev.each
  induction m generalizing d with
  | nil => exact refl L d
  | cons x t ih => exact (h d x).trans ih

end KeptBeside

/-- Between two devices only the ledger, the MSI-X table and the rings' records have changed, and outputs have been added. -/
structure Asks (d e : Dev) : Prop where
  rest : e = { d with ledger := e.ledger, out := e.out, host := { d.host with msix := e.host.msix, rings := e.host.rings } }

namespace Asks

variable {e f : Dev}

theorem refl (d : Dev) : Asks d d := ⟨rfl⟩

theorem trans (a : Asks d e) (b : Asks e f) : Asks d f := ⟨by rw [b.rest, a.rest]⟩

theorem ofSignals (a : Signals d e) : Asks d e := by
  obtain ⟨hrest, -⟩ := a
  constructor
  rw [hrest]

theorem each {α : Type} (m : List α) {g : Dev → α → Dev} (h : ∀ d x, Asks d (g d x)) : Asks d (d.each m g) := by
  unfold Dev.each
  induction m generalizing d with
  | nil => exact refl d
  | cons x t ih => exact (h d x).trans ih

theorem keptBeside (L : List RegName) (a : Asks d e) : KeptBeside L d e := by
  have h : Kept L { d with ledger := e.ledger, host := { d.host with rings := e.host.rings } }
      { d with ledger := e.ledger, out := e.out, host := { d.host with msix := e.host.msix, rings := e.host.rings } } := { Kept.refl L _ with }
  rwa [← a.rest] at h

theorem backlog (a : Asks d e) : e.backlog = d.backlog := by rw [a.rest]; rfl
theorem dataAt (a : Asks d e) (l : Nat) : e.dataAt l = d.dataAt l := by rw [a.rest]; rfl
theorem maxWrite (a : Asks d e) : e.maxWrite = d.maxWrite := by rw [a.rest]; rfl
theorem mayReq (a : Asks d e) : e.mayReq = d.mayReq := by rw [a.rest]; rfl
theorem ch (a : Asks d e) (n : Nat) : e.ch n = d.ch n := by rw [a.rest]; rfl

end Asks

/-- Ledger reads that waited are issued. -/
theorem asks_issueReads : Asks d d.issueReads := .each _ fun d k => by
  split
  · exact (⟨rfl⟩ : Asks d (d.modLed fun l => { l with waiting := l.waiting.tail, lookups := l.lookups ++ [k] })).trans
      (.each _ fun d x => .ofSignals (.emit d _))
  · exact .refl d

/-- Vectors that waited are sent. -/
theorem asks_sendPend : Asks d d.sendPend := .each _ fun d v => by
  split
  · unfold Dev.vecCtl; dsimp only; split
    · exact .ofSignals ((Signals.modMsix d v _).trans (signals_fireVec _ v))
    · exact .ofSignals (.modMsix d v _)
  · exact .refl d

/-- What the writes of the arbiters may change. -/
def writeRegs : List RegName := postRegs ++ postedRegs

theorem keptBeside_postHead (h : d.entryMay l = true) : KeptBeside writeRegs d (d.postHead l) := by
  cases hheld : (d.outq l).held with
  | nil => unfold Dev.entryMay at h; rw [hheld] at h; cases h
  | cons e t =>
    obtain ⟨hon, hroom⟩ := (Bool.and_eq_true _ _).mp ((Dev.entryMay_of_held hheld).symm.trans h)
    rw [Dev.postHead_writes hheld hon hroom]
    exact .ofToldRings ((ToldRings.ofTold (told_modOutq d _ l _)).trans (((told_writeEntry _ _ _).mono (by decide)).trans
      (ToldRings.ofTold ((told_refill _ l).mono (by decide)))))

theorem kept_sendSamples (n : Nat) : Kept postRegs d (d.sendSamples n) := by
  have hprogress (e : Dev) (n a b : Nat) : Kept postRegs e (e.capProgress n a b) := by
    unfold Dev.capProgress; split
    · exact .refl _ e
    · dsimp only; split
      · exact (told_post e _).kept
      · exact .refl _ e
  unfold Dev.sendSamples; split
  · exact .refl _ d
  · split
    · exact .refl _ d
    · exact (kept_emit _ d _).trans ((kept_modCap _ _ _ _).trans (hprogress _ _ _ _))

theorem keptBeside_leafWrite : KeptBeside writeRegs d (d.leafWrite l) := by
  unfold Dev.leafWrite
  refine KeptBeside.trans ?_ (.ofKept (told_dropDeficits _ _).kept)
  split
  · split
    · next h => exact keptBeside_postHead h
    · exact .ofKept ((kept_sendSamples l).mono (by decide))
  · exact .ofKept (told_dataPiece d _ l).kept

theorem keptBeside_serve (f : Nat) (stop : Nat → Dev → Dev → Bool) : KeptBeside writeRegs d (d.serve f stop) := by
  induction f generalizing d with
  | zero => exact .refl _ d
  | succ f ih =>
    unfold Dev.serve
    split
    · exact .refl _ d
    · next k e h =>
      have hstep : KeptBeside writeRegs d (e.leafWrite k) := (KeptBeside.ofKept (told_grant d _ h).kept).trans keptBeside_leafWrite
      split
      · exact hstep
      · exact hstep.trans ih

theorem keptBeside_flushAll : KeptBeside writeRegs d d.flushAll := by
  unfold Dev.flushAll Dev.cond; dsimp only; split
  · exact keptBeside_serve _ _
  · exact .refl _ d

theorem keptBeside_reqResume : KeptBeside (admRegs ++ postedRegs) d d.reqResume :=
  (asks_issueReads.keptBeside _).trans ((asks_sendPend.keptBeside _).trans
    ((keptBeside_flushAll.mono (by decide)).trans (.ofKept ((kept_retryAll _).mono (by decide)))))

/-- The device after the time of a ring's moderation is over (R422). -/
def Dev.moderate (d : Dev) (r : Nat) : Dev :=
  if d.fld F.HIF_RING_MOD_TIME r ≠ 0 ∧ (d.ring r).unsig ≠ 0 then
    (d.runTo ((d.ring r).oldest + usTc (d.fld F.HIF_RING_MOD_TIME r))).fireRing r
  else d

/-! ### One block of output data that waited is written (R384, R436) -/

theorem told_txn {L : List RegName} {e : Dev} (h : Told L d e) (n : Nat) : (e.ch n).txn = (d.ch n).txn := by rw [h.ch]

/-- Where no channel has a transaction none is judged again. -/
theorem Dev.retryAll_of_none (h : ∀ n, (d.ch n).txn = none) : d.retryAll = d := by
  have hrecheck (n : Nat) : d.recheck n = d := by unfold Dev.recheck; rw [h n]
  have hadmit (n : Nat) : d.tryAdmit n = d := by unfold Dev.tryAdmit; rw [h n]
  refine List.foldl_fixed' (fun p => ?_) _
  have hjudged : d.each (pavChans p) Dev.recheck = d := List.foldl_fixed' hrecheck _
  unfold Dev.retry
  dsimp only
  rw [hjudged]
  exact List.foldl_fixed' hadmit _

@[simp] theorem Dev.emit_dataAt (d : Dev) (o : Output) (k : Nat) : (d.emit o).dataAt k = d.dataAt k := rfl

theorem Dev.dataAt_modData_same (f : List (Nat × List Byte) → List (Nat × List Byte)) :
    (d.modData l f).dataAt l = f (d.dataAt l) := by
  unfold Dev.modData Dev.dataAt
  split
  · rw [Dev.ch_modCh_same]
  · rfl

theorem Dev.dataAt_modData_other {k : Nat} (h : l ≠ k) (hl : l ≤ 192) (hk : k ≤ 192) (f : List (Nat × List Byte) → List (Nat × List Byte)) :
    (d.modData l f).dataAt k = d.dataAt k := by
  unfold Dev.modData Dev.dataAt
  split
  · split
    · rw [Dev.ch_modCh_other _ _ h]
    · rfl
  · split
    · rfl
    · omega

theorem Dev.dataAt_min (k : Nat) : d.dataAt (min k 192) = d.dataAt k := by
  unfold Dev.dataAt
  rcases Nat.lt_or_ge k 192 with h | h
  · rw [min_eq_left h.le]
  · rw [min_eq_right h, if_neg (by omega), if_neg (by omega)]

/-- A leaf that is not backlogged has no output data. -/
theorem Dev.dataAt_of_only {k : Nat} (hreq : d.mayReq = true) (honly : ∀ x ∈ d.backlog, x.1 = l) (hk : k ≤ 192) (h : k ≠ l) : d.dataAt k = [] := by
  cases hdata : d.dataAt k with
  | nil => rfl
  | cons w ws =>
    refine absurd (honly _ (Dev.mem_backlog ?_ (Dev.nextSize_of_data hreq hdata))) h
    by_contra hkey
    obtain ⟨hne, hkey⟩ := not_or.1 hkey
    rw [Dev.dataAt, if_pos (by omega), Dev.ch_of_not_key hkey] at hdata
    cases hdata

/-- No leaf has output data. -/
def Dev.noData (d : Dev) : Bool := (d.chans.map (fun (e : Nat × Ch) => e.1) ++ [192]).all fun l => (d.dataAt l).isEmpty

theorem Dev.flushAll_eq : d.flushAll = d.cond (!d.noData) fun d => d.serve d.traffic fun _ _ b => b.noData := rfl

theorem Dev.noData_of (h : ∀ k, k ≤ 192 → d.dataAt k = []) : d.noData = true :=
  List.all_eq_true.2 fun k _ => by rw [← Dev.dataAt_min, h _ (Nat.min_le_right _ _)]; rfl

/-- The device with the output data of a leaf written as one block. -/
def Dev.blockGone (d : Dev) (l a : Nat) (b : List Byte) : Dev := ((d.emit (.memWrite a b)).modData l fun _ => []).dropDeficits

section Block

variable {a : Nat} {b : List Byte}

theorem told_blockGone : Told [] d (d.blockGone l a b) :=
  (told_emit d [] _).trans ((told_modData _ _ l _).trans (told_dropDeficits _ _))

theorem Dev.out_blockGone : .memWrite a b ∈ (d.blockGone l a b).out := by
  obtain ⟨n, hn⟩ := Dev.dropDeficits_eq ((d.emit (.memWrite a b)).modData l fun _ => [])
  have hout : ((d.emit (.memWrite a b)).modData l fun _ => []).out = (d.emit (.memWrite a b)).out := by
    unfold Dev.modData; split <;> rfl
  rw [Dev.blockGone, hn, Dev.withArbs_out, hout]
  exact List.mem_append.2 (.inr List.mem_cons_self)

theorem Dev.dataAt_blockGone (hl : l ≤ 192) {k : Nat} (hk : k ≤ 192) :
    (d.blockGone l a b).dataAt k = if k = l then [] else d.dataAt k := by
  obtain ⟨n, hn⟩ := Dev.dropDeficits_eq ((d.emit (.memWrite a b)).modData l fun _ => [])
  rw [Dev.blockGone, hn, Dev.withArbs_dataAt]
  split
  · next h => subst h; exact Dev.dataAt_modData_same _
  · next h => rw [Dev.dataAt_modData_other (Ne.symm h) hl hk, Dev.emit_dataAt]

/-- The write of a leaf whose output data is one block that one write carries. -/
theorem Dev.leafWrite_block (hdata : d.dataAt l = [(a, b)]) (hlen : b.length ≤ d.maxWrite) : d.leafWrite l = d.blockGone l a b := by
  have hpiece : d.dataPiece l = (d.emit (.memWrite a b)).modData l fun _ => [] := by
    unfold Dev.dataPiece
    rw [hdata]
    dsimp only
    rw [if_pos hlen, List.take_of_length_le hlen]
  unfold Dev.leafWrite
  rw [hdata, hpiece]
  rfl

/-- One block of data that alone waits, and that one write carries, is written. -/
theorem Dev.flushAll_block (hl : l ≤ 192) (hreq : d.mayReq = true) (hdata : d.dataAt l = [(a, b)])
    (hlen : b.length ≤ d.maxWrite) (honly : ∀ x ∈ d.backlog, x.1 = l) : ∃ n, d.flushAll = (d.withArbs n).blockGone l a b := by
  have hkey : l = 192 ∨ l ∈ d.chans.map (·.1) := by
    by_contra h
    obtain ⟨hne, hkey⟩ := not_or.1 h
    rw [Dev.dataAt, if_pos (by omega), Dev.ch_of_not_key hkey] at hdata
    cases hdata
  have hwaits : d.noData = false := by
    refine List.all_eq_false.2 ⟨l, List.mem_append.2 ?_, by rw [hdata]; exact Bool.false_ne_true⟩
    exact hkey.elim (fun h => .inr (List.mem_singleton.2 h)) .inl
  have hwrite (n : Tbl Drr) : (d.withArbs n).leafWrite l = (d.withArbs n).blockGone l a b :=
    Dev.leafWrite_block (by rw [Dev.withArbs_dataAt, hdata]) (by rw [Dev.withArbs_maxWrite]; exact hlen)
  have hgone (n : Tbl Drr) : ((d.withArbs n).leafWrite l).noData = true := Dev.noData_of fun k hk => by
    rw [hwrite, Dev.dataAt_blockGone hl hk, Dev.withArbs_dataAt]
    split
    · rfl
    · next h => exact Dev.dataAt_of_only hreq honly hk h
  obtain ⟨n, hn⟩ := Dev.serve_first (fun _ _ e => e.noData) hl (Dev.mem_backlog hkey (Dev.nextSize_of_data hreq hdata)) rfl honly hgone
  exact ⟨n, by rw [Dev.flushAll_eq, hwaits, ← hwrite]; exact hn⟩

theorem Dev.reqResume_block (hl : l ≤ 192) (hreq : d.mayReq = true) (hnone : ∀ n, (d.ch n).txn = none)
    (hdata : d.dataAt l = [(a, b)]) (hlen : b.length ≤ d.maxWrite) (honly : ∀ x ∈ d.backlog, x.1 = l) :
    d.reqResume.dataAt l = [] ∧ .memWrite a b ∈ d.reqResume.out := by
  have hasks : Asks d d.issueReads.sendPend := asks_issueReads.trans asks_sendPend
  obtain ⟨n, hn⟩ := Dev.flushAll_block (d := d.issueReads.sendPend) hl (by rw [hasks.mayReq, hreq])
    (by rw [hasks.dataAt, hdata]) (by rw [hasks.maxWrite]; exact hlen) (by rw [hasks.backlog]; exact honly)
  have htold : Told [] d.issueReads.sendPend d.issueReads.sendPend.flushAll := by
    rw [hn]; exact (told_arbs _ _ n).trans told_blockGone
  have htxn (n : Nat) : (d.issueReads.sendPend.flushAll.ch n).txn = none := by
    rw [told_txn htold, hasks.ch, hnone]
  rw [Dev.reqResume, Dev.retryAll_of_none htxn, hn]
  exact ⟨by rw [Dev.dataAt_blockGone hl hl, if_pos rfl], Dev.out_blockGone⟩

end Block

end Sys2Proof.Machine

namespace Sys2Proof.Proofs

open Sys2Proof.Machine Sys2Proof.Safety

/-! ### EVENT_POST -/

theorem does_eventPost (source : Nat) (s : State) (e : Entry) (rest : List Entry) (r k : Nat) (hheld : (s.dev.outq source).held = e :: rest)
    (hring : e.ring = some k) (hr : r = 32 + k % 32) (hdata : s.dev.dataAt (min source 192) = []) :
    (s.dev.on F.HIF_RING_CFG_EN r = true → s.dev.ringRoom r = false → Idle (.eventPost source) s) ∧
    ((s.dev.outq source).waiting = [] →
      (s.dev.on F.HIF_RING_CFG_EN r = false → Does (.eventPost source) s fun t =>
        (t.dev.outq source).held = rest ∧
        t.dev.fld F.HIF_RING_DROPS_COUNT r = sat 65535 (s.dev.fld F.HIF_RING_DROPS_COUNT r + 1) ∧ Says [.HIF_RING_DROPS] s t) ∧
      (s.dev.on F.HIF_RING_CFG_EN r = true → s.dev.ringRoom r = true → (∀ x ∈ s.dev.backlog, x.1 = min source 192) →
        s.dev.rd .HIF_RING_HEAD r < s.dev.ringSize r → Does (.eventPost source) s fun t =>
        (t.dev.outq source).held = rest ∧
        (∃ l, t.dev.out = s.dev.out ++ .memWrite (64 * (s.dev.pair .HIF_RING_BASE_L .HIF_RING_BASE_H r / 64) +
          32 * s.dev.rd .HIF_RING_HEAD r) (e.encode (s.dev.on F.HIF_RING_STAT_PHASE r)) :: l) ∧
        t.dev.rd .HIF_RING_HEAD r = (s.dev.rd .HIF_RING_HEAD r + 1) % s.dev.ringSize r ∧
        t.dev.on F.HIF_RING_STAT_PHASE r =
          (s.dev.on F.HIF_RING_STAT_PHASE r != (s.dev.rd .HIF_RING_HEAD r + 1 == s.dev.ringSize r)) ∧
        Says [.HIF_RING_HEAD, .HIF_RING_STAT] (withRings s t) t)) := by
  have hexec : exec (.eventPost source) s = .next { s with dev := s.dev.postNow source } := rfl
  obtain rfl : e.evRing = r := by rw [hr, Entry.evRing, hring]; rfl
  have hleaf : (s.dev.outq (min source 192)).held = e :: rest := by rw [Dev.outq_min]; exact hheld
  refine ⟨fun hon hfull => ?_, fun hwait => ⟨fun hoff => ⟨_, hexec, ?_⟩, fun hon hroom honly hhead => ⟨_, hexec, ?_⟩⟩⟩
  · rw [Idle, hexec, Dev.postNow_idle source hdata (by rw [Dev.entryMay_of_held hleaf, hfull, Bool.and_false])]
    intro x t hx
    cases hheld.symm.trans hx
    exact hon
  · rw [Dev.postNow_drops hheld hdata hoff]
    obtain ⟨hheld', hcount, htold⟩ := postHead_dropped hleaf (by rw [Dev.outq_min]; exact hwait) hoff
    exact ⟨by rw [← Dev.outq_min]; exact hheld', hcount, rfl, rfl, htold⟩
  · obtain ⟨n, hn⟩ := Dev.postNow_writes hheld hdata hon hroom honly
    have h := (headWritten_postHead (d := s.dev.withArbs n) hleaf (by rw [Dev.withArbs_outq, Dev.outq_min]; exact hwait) hon hroom hhead).ofArbs
    obtain ⟨m, hm⟩ := Dev.dropDeficits_eq ((s.dev.withArbs n).postHead (min source 192))
    rw [hn, hm]
    refine ⟨?_, h.out, h.head, h.phase, rfl, rfl, h.told.trans (.ofTold (told_arbs _ _ m))⟩
    rw [← Dev.outq_min]; exact h.held

theorem idle_eventPost (source : Nat) (s : State) (hheld : (s.dev.outq source).held = []) (hdata : s.dev.dataAt (min source 192) = []) :
    Idle (.eventPost source) s := by
  have hmay : s.dev.entryMay (min source 192) = false := by unfold Dev.entryMay; rw [Dev.outq_min, hheld]
  change Host.Outcome.next { s with dev := s.dev.postNow source } = _
  rw [Dev.postNow_idle source hdata hmay fun e t h => by rw [hheld] at h; cases h]

/-! ### Vectors -/

theorem does_msixModTimer (evq : Fin 32) (s : State) (r : Nat) (hr : r = 32 + evq.val) :
    (s.dev.fld F.HIF_RING_MOD_TIME r = 0 ∨ (s.dev.ring r).unsig = 0 → Idle (.msixModTimer evq) s) ∧
    (s.dev.fld F.HIF_RING_MOD_TIME r ≠ 0 → (s.dev.ring r).unsig ≠ 0 →
      (s.dev.ring r).oldest + usTc (s.dev.fld F.HIF_RING_MOD_TIME r) ≤ s.dev.tc → Does (.msixModTimer evq) s fun t =>
      t.dev.ring r = { s.dev.ring r with unsig := 0, oldest := 0 } ∧ (∀ k, k ≠ r → t.dev.ring k = s.dev.ring k) ∧
      (s.dev.host.msixEn = true → (s.dev.msix r).mask = true → (t.dev.msix r).pend = true ∧ t.dev.out = s.dev.out) ∧
      (s.dev.host.msixEn = true → s.dev.mayReq = true → (s.dev.msix r).mask = false →
        t.dev.out = s.dev.out ++ [.msix r ((s.dev.msix r).addrLo + 2 ^ 32 * (s.dev.msix r).addrHi) (s.dev.msix r).data]) ∧
      Says [] (withRings s t) t) := by
  have hexec : exec (.msixModTimer evq) s = .next { s with dev := s.dev.moderate r } := by
    have hring : evRing evq = r := by rw [evRing, Nat.mod_eq_of_lt evq.isLt, hr]
    rw [← hring]; rfl
  refine ⟨fun h => ?_, fun htime hunsig hdue => ⟨_, hexec, ?_⟩⟩
  · rw [Idle, hexec, Dev.moderate, if_neg (by omega)]
  · rw [Dev.moderate, if_pos ⟨htime, hunsig⟩, s.dev.runTo_past _ hdue]
    have hrings := (told_fireVec (s.dev.modRing r fun x => { x with unsig := 0, oldest := 0 }) [] r).ring
    refine ⟨?_, fun k hk => ?_, fun hen hmask => ?_, fun hen hreq hmask => ?_, rfl, rfl, (signals_fireRing s.dev r).told []⟩
    · rw [Dev.fireRing, hrings, Dev.ring_modRing_same]
    · rw [Dev.fireRing, hrings, Dev.ring_modRing_other _ _ (Ne.symm hk)]
    · rw [Dev.fireRing, Dev.fireVec_masked (s.dev.modRing r _) hen hmask]
      exact ⟨by rw [Dev.msix_modMsix_same], rfl⟩
    · rw [Dev.fireRing, Dev.fireVec_sent (s.dev.modRing r _) hen hreq hmask]; rfl

theorem does_msixUnmask (vec : Fin 72) (s : State) : Does (.msixUnmask vec) s fun t =>
    (t.dev.msix vec).mask = false ∧
    ((s.dev.msix vec).pend = false → (t.dev.msix vec).pend = false ∧ t.dev.out = s.dev.out) ∧
    ((s.dev.msix vec).pend = true → s.dev.host.msixEn = true → s.dev.mayReq = true → (t.dev.msix vec).pend = false ∧
      t.dev.out = s.dev.out ++ [.msix vec ((s.dev.msix vec).addrLo + 2 ^ 32 * (s.dev.msix vec).addrHi) (s.dev.msix vec).data]) ∧
    (∀ v, v ≠ vec.val → t.dev.msix v = s.dev.msix v) ∧ Says [] s t := by
  refine ⟨{ s with dev := s.dev.vecCtl vec false }, rfl, ?_⟩
  have htold : Says [] s { s with dev := s.dev.vecCtl vec false } := ⟨rfl, rfl, told_vecCtl s.dev [] vec false⟩
  cases h : ((s.dev.msix vec).pend && s.dev.host.msixEn && s.dev.mayReq) with
  | false =>
    rw [s.dev.vecCtl_unmasks h] at htold ⊢
    refine ⟨by rw [Dev.msix_modMsix_same], fun hp => ⟨by rw [Dev.msix_modMsix_same]; exact hp, rfl⟩, fun hp hen hreq => ?_,
      fun v hv => Dev.msix_modMsix_other _ _ (Ne.symm hv), htold⟩
    rw [hp, hen, hreq] at h; cases h
  | true =>
    rw [s.dev.vecCtl_sends h] at htold ⊢
    refine ⟨?_, fun hp => ?_, fun _ _ _ => ⟨?_, rfl⟩, fun v hv => ?_, htold⟩
    · dsimp only; rw [Dev.emit_msix, Dev.msix_modMsix_same]
    · rw [hp] at h; cases h
    · dsimp only; rw [Dev.emit_msix, Dev.msix_modMsix_same]
    · dsimp only; rw [Dev.emit_msix, Dev.msix_modMsix_other _ _ (Ne.symm hv)]

/-! ### The bus master -/

/-- The device with both enables of configuration space taken. -/
def enabled (d : Dev) (en msixEn : Bool) : Dev := { d with host := { d.host with busMaster := en, msixEn := msixEn } }

section Enabled

variable (d : Dev) (en msixEn : Bool)

theorem enabled_ch (n : Nat) : (enabled d en msixEn).ch n = d.ch n := rfl
theorem enabled_dataAt (l : Nat) : (enabled d en msixEn).dataAt l = d.dataAt l := rfl
theorem enabled_maxWrite : (enabled d en msixEn).maxWrite = d.maxWrite := rfl

end Enabled

theorem exec_busMasterEnableChange (en msixEn : Bool) (s : State) : exec (.busMasterEnableChange en msixEn) s =
    .next { s with dev := if (enabled s.dev en msixEn).mayReq then (enabled s.dev en msixEn).reqResume else enabled s.dev en msixEn } :=
  rfl

theorem does_busMasterEnableChange (en msixEn : Bool) (s : State) : Does (.busMasterEnableChange en msixEn) s fun t =>
    t.dev.host.busMaster = en ∧ t.dev.host.msixEn = msixEn ∧
    (en = false → t = { s with dev := { s.dev with host := { s.dev.host with busMaster := false, msixEn := msixEn } } }) ∧
    (en = true → Works (admRegs ++ [.HIF_RING_HEAD, .HIF_RING_STAT]) { s with dev := { s.dev with
      ledger := t.dev.ledger, host := { s.dev.host with busMaster := true, msixEn := msixEn, rings := t.dev.host.rings } } } t) ∧
    (∀ (l a : Nat) (b : List Byte), en = true → s.dev.host.pcie.power = 0 → l ≤ 192 → (∀ n, (s.dev.ch n).txn = none) → s.dev.dataAt l = [(a, b)] → b ≠ [] →
      b.length ≤ s.dev.maxWrite →
      (∀ x ∈ ({ s.dev with host := { s.dev.host with busMaster := true, msixEn := msixEn } } : Dev).backlog, x.1 = l) →
      t.dev.dataAt l = [] ∧ .memWrite a b ∈ t.dev.out) := by
  refine ⟨_, exec_busMasterEnableChange en msixEn s, ?_⟩
  cases en with
  | false =>
    rw [if_neg (by simp [enabled, Dev.mayReq])]
    exact ⟨rfl, rfl, fun _ => rfl, nofun, fun l a b hen => absurd hen (by decide)⟩
  | true =>
    have hkept : KeptBeside (admRegs ++ postedRegs) (enabled s.dev true msixEn)
        (if (enabled s.dev true msixEn).mayReq then (enabled s.dev true msixEn).reqResume else enabled s.dev true msixEn) := by
      split
      · exact keptBeside_reqResume
      · exact .refl _ _
    refine ⟨?_, ?_, nofun, fun _ => ⟨rfl, rfl, hkept⟩, fun l a b _ hpower hl hnone hdata _ hlen honly => ?_⟩
    · dsimp only; rw [hkept.host]; rfl
    · dsimp only; rw [hkept.host]; rfl
    · have hreq : (enabled s.dev true msixEn).mayReq = true := by simp [enabled, Dev.mayReq, hpower]
      rw [if_pos hreq]
      dsimp only
      exact Dev.reqResume_block (d := enabled s.dev true msixEn) hl hreq (fun n => by rw [enabled_ch]; exact hnone n) (by rw [enabled_dataAt]; exact hdata)
        (by rw [enabled_maxWrite]; exact hlen) honly

/-- Settles O33: EVENT_POST is a write of the queue's head entry where its leaf alone has the turn (`Dev.postNow_writes`), or its discard;
a vector fires or is unmasked as its row says; and with the bus master on, what waited is written within its frame (`Dev.reqResume_block`). -/
theorem eventsAndInterrupts : Obligations.EventsAndInterrupts :=
  ⟨does_eventPost, idle_eventPost, does_msixModTimer, does_msixUnmask, does_busMasterEnableChange⟩

end Sys2Proof.Proofs
end

section
/-! PROOFS. What stands while work ends: the target queues, the descriptors held, and the completions that have been posted (R401, R404). -/

namespace Sys2Proof.Machine

open Sys2Proof.Safety

/-! ### Entries that have been posted (R404, R433) -/

/-- The entries of a source's outbound queue: those in it and those that wait for room there. -/
def OutQ.entries (q : OutQ) : List Entry := q.held ++ q.waiting

/-- Every entry that is no report of a state stands. -/
def Stays (a b : List Entry) : Prop := ∀ x ∈ a, x.kind.reports = false → x ∈ b

namespace Stays

variable {a b c : List Entry}

theorem refl (a : List Entry) : Stays a a := fun _ h _ => h
theorem trans (h : Stays a b) (k : Stays b c) : Stays a c := fun x hx hr => k x (h x hx hr) hr
theorem append (c : List Entry) (h : Stays a b) : Stays a (b ++ c) := fun x hx hr => List.mem_append_left c (h x hx hr)

end Stays

theorem Entry.kind_of_sameSource {x e : Entry} (h : x.sameSource e = true) : x.kind = e.kind := by
  simp only [Entry.sameSource, Bool.and_eq_true, beq_iff_eq] at h
  obtain ⟨⟨⟨-, hkind⟩, -⟩, -⟩ := h
  exact hkind

/-- A report rewrites no entry but a report. -/
theorem stays_rewriteLast {e : Entry} (he : e.kind.reports = true) (l : List Entry) : Stays l (rewriteLast e l) := fun x hx hr => by
  unfold rewriteLast
  split
  · exact hx
  · next k hk =>
    obtain ⟨hlt, hsame, -⟩ := List.findIdx?_eq_some_iff_getElem.1 hk
    obtain ⟨j, hj, rfl⟩ := List.getElem_of_mem hx
    have hne : l.length - 1 - k ≠ j := fun h => by
      subst h
      rw [List.getElem_reverse] at hsame
      rw [Entry.kind_of_sameSource hsame, he] at hr
      cases hr
    exact List.mem_iff_getElem.2 ⟨j, by rwa [List.length_modify], by rw [List.getElem_modify, if_neg hne]⟩

theorem OutQ.stays_held (q : OutQ) (h : List Entry) (hs : Stays q.held h) : Stays q.entries { q with held := h }.entries := fun x hx hr =>
  List.mem_append.2 ((List.mem_append.1 hx).imp (fun hx => hs x hx hr) fun hx => hx)

theorem OutQ.stays_waiting (q : OutQ) (w : List Entry) (hs : Stays q.waiting w) : Stays q.entries { q with waiting := w }.entries := fun x hx hr =>
  List.mem_append.2 ((List.mem_append.1 hx).imp (fun hx => hx) fun hx => hs x hx hr)

/-! ### What stays held and posted -/

/-- From a device to another no descriptor is newly held, and every entry posted stands, but for reports. -/
structure Keeps (d e : Dev) : Prop where
  held   : ∀ q, q ∈ e.host.inFlight → q ∈ d.host.inFlight
  posted : ∀ n, Stays (d.outq n).entries (e.outq n).entries

/-- Every target's queue stands as well. -/
structure Posting (d e : Dev) : Prop extends Keeps d e where
  tq : ∀ t, e.tq t = d.tq t

/-- Every target's queue stands as well, and no target has a descriptor newly started. -/
structure Ends (d e : Dev) : Prop extends Keeps d e where
  queue : ∀ t, (e.tq t).q = (d.tq t).q
  idle  : ∀ t, (d.tq t).run = none → (e.tq t).run = none

variable {d e f : Dev}

theorem Keeps.refl (d : Dev) : Keeps d d := ⟨fun _ h => h, fun _ => .refl _⟩

theorem Keeps.trans (a : Keeps d e) (b : Keeps e f) : Keeps d f :=
  ⟨fun q h => a.held q (b.held q h), fun n => (a.posted n).trans (b.posted n)⟩

theorem Dev.outq_of (hc : e.chans = d.chans) (hq : e.host.devQ = d.host.devQ) (n : Nat) : e.outq n = d.outq n := by
  rw [Dev.outq, Dev.outq, Dev.ch, Dev.ch, hc, hq]

/-- A device with the same channels, the same queue of its own, and nothing newly held. -/
theorem Keeps.ofRecords (hc : e.chans = d.chans) (hq : e.host.devQ = d.host.devQ) (hf : e.host.inFlight = d.host.inFlight) : Keeps d e where
  held q h := by rwa [hf] at h
  posted n := by rw [Dev.outq_of hc hq]; exact .refl _

/-- A device has answered a descriptor with a status: what `Answered` says of a state is of its device alone. -/
def Answers (q : QDesc) (st : Status) (d : Dev) : Prop := Answered q st { dev := d }

theorem Answers.answered {q : QDesc} {st : Status} {t : State} (h : Answers q st t.dev) : Answered q st t := h

/-- An answer stands. -/
theorem Answers.keeps {q : QDesc} {st : Status} (h : Answers q st d) (k : Keeps d e) : Answers q st e := by
  obtain ⟨hgone, h⟩ := h
  refine ⟨fun hq => hgone (k.held q hq), h.imp_right ?_⟩
  rintro ⟨x, hx, hkind, hrest⟩
  exact ⟨x, k.posted _ x hx (by rw [hkind]; rfl), hkind, hrest⟩

namespace Posting

theorem refl (d : Dev) : Posting d d := ⟨.refl d, fun _ => rfl⟩

theorem trans (a : Posting d e) (b : Posting e f) : Posting d f := ⟨a.toKeeps.trans b.toKeeps, fun t => (b.tq t).trans (a.tq t)⟩

theorem cond (b : Bool) {g : Dev → Dev} (h : Posting d (g d)) : Posting d (d.cond b g) := by
  unfold Dev.cond; split
  · exact h
  · exact refl d

theorem each {α : Type} (l : List α) {g : Dev → α → Dev} (h : ∀ d x, Posting d (g d x)) : Posting d (d.each l g) := by
  unfold Dev.each
  induction l generalizing d with
  | nil => exact refl d
  | cons x t ih => exact (h d x).trans ih

/-- A device with the same records. -/
theorem ofRecords (hc : e.chans = d.chans) (ha : e.arbs = d.arbs) (hp : e.pavs = d.pavs) (hh : e.host = d.host) : Posting d e where
  toKeeps := .ofRecords hc (by rw [hh]) (by rw [hh])
  tq t := by rw [Dev.tq, Dev.tq, Dev.ch, Dev.ch, Dev.arb, Dev.arb, Dev.pav, Dev.pav, hc, ha, hp, hh]

theorem wr (d : Dev) (r : RegName) (i j v : Nat) : Posting d (d.wr r i j v) := ofRecords rfl rfl rfl rfl
theorem setFld (d : Dev) (x : Fld) (i j v : Nat) : Posting d (d.setFld x i j v) := ofRecords rfl rfl rfl rfl
theorem addFld (d : Dev) (x : Fld) (i j v : Nat) : Posting d (d.addFld x i j v) := ofRecords rfl rfl rfl rfl
theorem emit (d : Dev) (o : Output) : Posting d (d.emit o) := ofRecords rfl rfl rfl rfl

theorem modCh (d : Dev) (n : Nat) (g : Ch → Ch) (h : ∀ c, (g c).tq = c.tq := by intro; rfl) (ho : ∀ c, (g c).outq = c.outq := by intro; rfl) :
    Posting d (d.modCh n g) where
  held _ hq := hq
  posted k := by rw [Dev.outq_modCh d k n g ho]; exact .refl _
  tq t := by
    unfold Dev.tq
    split
    · by_cases e : n = t
      · subst e; rw [Dev.ch_modCh_same, h]
      · rw [Dev.ch_modCh_other _ _ e]
    · rfl

theorem modArb (d : Dev) (a : Nat) (g : Arb → Arb) (h : ∀ c, (g c).tq = c.tq := by intro; rfl) : Posting d (d.modArb a g) where
  toKeeps := .ofRecords rfl rfl rfl
  tq t := by
    unfold Dev.tq
    split
    · rfl
    · split
      · by_cases e : a = t - 0x100
        · rw [e, Dev.arb_modArb_same, h]
        · rw [Dev.arb_modArb_other _ _ e]
      · rfl

theorem modPav (d : Dev) (p : Nat) (g : Pav → Pav) (h : ∀ c, (g c).tq = c.tq := by intro; rfl) : Posting d (d.modPav p g) where
  toKeeps := .ofRecords rfl rfl rfl
  tq t := by
    unfold Dev.tq
    split
    · rfl
    · split
      · rfl
      · split
        · by_cases e : p = t - 0x200
          · rw [e, Dev.pav_modPav_same, h]
          · rw [Dev.pav_modPav_other _ _ e]
        · rfl

theorem modOutq (d : Dev) (s : Nat) (g : OutQ → OutQ) (h : ∀ q, Stays q.entries (g q).entries) : Posting d (d.modOutq s g) where
  held q hq := by rwa [Dev.modOutq_inFlight] at hq
  posted n := by
    unfold Dev.modOutq Dev.outq
    split
    · split
      · by_cases e : s = n
        · subst e; rw [Dev.ch_modCh_same]; exact h _
        · rw [Dev.ch_modCh_other _ _ e]; exact .refl _
      · exact .refl _
    · split
      · exact .refl _
      · exact h _
  tq t := by
    unfold Dev.modOutq
    split
    · unfold Dev.tq
      split
      · by_cases e : s = t
        · subst e; rw [Dev.ch_modCh_same]
        · rw [Dev.ch_modCh_other _ _ e]
      · rfl
    · rfl

end Posting

namespace Ends

theorem ofPosting (a : Posting d e) : Ends d e := ⟨a.toKeeps, fun t => by rw [a.tq], fun t h => by rw [a.tq]; exact h⟩

theorem refl (d : Dev) : Ends d d := ofPosting (.refl d)

theorem trans (a : Ends d e) (b : Ends e f) : Ends d f :=
  ⟨a.toKeeps.trans b.toKeeps, fun t => (b.queue t).trans (a.queue t), fun t h => b.idle t (a.idle t h)⟩

theorem cond (b : Bool) {g : Dev → Dev} (h : Ends d (g d)) : Ends d (d.cond b g) := by
  unfold Dev.cond; split
  · exact h
  · exact refl d

theorem each {α : Type} (l : List α) {g : Dev → α → Dev} (h : ∀ d x, Ends d (g d x)) : Ends d (d.each l g) := by
  unfold Dev.each
  induction l generalizing d with
  | nil => exact refl d
  | cons x t ih => exact (h d x).trans ih

end Ends

variable (d : Dev)

/-! ### Target queues (R401) -/

theorem Dev.tq_modTq_same (t : Nat) (f : TQ → TQ) : (d.modTq t f).tq t = f (d.tq t) := by
  unfold Dev.modTq Dev.tq
  split
  · rw [Dev.ch_modCh_same]
  · split
    · rw [Dev.arb_modArb_same]
    · split
      · rw [Dev.pav_modPav_same]
      · rfl

/-- A change of a target's queue acts on another target as well only where both have the same. -/
theorem Dev.tq_modTq (t k : Nat) (f : TQ → TQ) : (d.modTq t f).tq k = d.tq k ∨ (d.modTq t f).tq k = f (d.tq k) := by
  unfold Dev.modTq
  split
  · by_cases h : t = k
    · subst h; right; rw [Dev.tq, if_pos ‹_›, Dev.ch_modCh_same, Dev.tq, if_pos ‹_›]
    · left; unfold Dev.tq; rw [Dev.ch_modCh_other _ _ h]; rfl
  · split
    · unfold Dev.tq
      split
      · exact .inl rfl
      · split
        · by_cases h : t - 0x100 = k - 0x100
          · right; rw [h, Dev.arb_modArb_same]
          · left; rw [Dev.arb_modArb_other _ _ h]
        · exact .inl rfl
    · split
      · unfold Dev.tq
        split
        · exact .inl rfl
        · split
          · exact .inl rfl
          · split
            · by_cases h : t - 0x200 = k - 0x200
              · right; rw [h, Dev.pav_modPav_same]
              · left; rw [Dev.pav_modPav_other _ _ h]
            · exact .inl rfl
      · unfold Dev.tq
        split
        · exact .inl rfl
        · split
          · exact .inl rfl
          · split
            · exact .inl rfl
            · exact .inr rfl

theorem keeps_modTq (t : Nat) (f : TQ → TQ) : Keeps d (d.modTq t f) where
  held q hq := by rwa [Dev.modTq_inFlight] at hq
  posted n := by rw [Dev.outq_modTq]; exact .refl _

theorem posting_airGone (q : QDesc) : Posting d (d.airGone q) := .cond _ (.modPav d _ _)

theorem ends_endRun (q : QDesc) : Ends d (d.endRun q) := by
  refine Ends.trans ⟨keeps_modTq d _ _, fun t => ?_, fun t h => ?_⟩ (.ofPosting (posting_airGone _ q))
  · rcases d.tq_modTq q.d.source t (fun t => { t with run := t.run.filter fun r => !r.same q }) with h | h <;> rw [h]
  · rcases d.tq_modTq q.d.source t (fun t => { t with run := t.run.filter fun r => !r.same q }) with hk | hk
    · rw [hk, h]
    · rw [hk]; dsimp only; rw [h]; rfl

/-! ### Posting and completing (R404, R433, R435) -/

theorem posting_enter (e : Entry) : Posting d (d.enter e) := by
  unfold Dev.enter; split
  · exact .addFld d _ _ _ _
  · exact .modOutq d _ _ fun q => q.stays_held _ ((Stays.refl _).append _)

theorem posting_post (e : Entry) : Posting d (d.post e) := by
  unfold Dev.post; extract_lets x q
  split
  · next h =>
    have hx : x.kind.reports = true := ((Bool.and_eq_true _ _).mp h).1
    refine (Posting.modOutq d _ _ fun q => ?_).trans (.addFld _ _ _ _ _)
    split
    · exact q.stays_waiting _ (stays_rewriteLast hx _)
    · exact q.stays_held _ (stays_rewriteLast hx _)
  · split
    · exact posting_enter d x
    · exact .modOutq d _ _ fun q => q.stays_waiting _ ((Stays.refl _).append _)

theorem posting_release (q : QDesc) : Posting d (d.release q) where
  held _ hx := (List.mem_filter.1 hx).1
  posted _ := .refl _
  tq _ := rfl

theorem posting_completeE (q : QDesc) (e : Entry) : Posting d (d.completeE q e) := by
  unfold Dev.completeE; dsimp only; split
  · exact posting_release d q
  · exact (posting_release d q).trans (posting_post _ e)

theorem posting_noFrameRegs (n : Nat) (st : Status) : Posting d (d.noFrameRegs n st) := .ofRecords rfl rfl rfl rfl

theorem posting_complete (q : QDesc) (st : Status) (b : CBody) : Posting d (d.complete q st b) :=
  (posting_completeE d q _).trans (.cond _ (posting_noFrameRegs _ _ _))

theorem ends_done (q : QDesc) (st : Status) (b : CBody) : Ends d (d.done q st b) :=
  (Ends.ofPosting (posting_complete d q st b)).trans (ends_endRun _ q)

/-- A change of the arbiters' and output data's records alone. -/
theorem posting_host (h : HostIf) (ht : h.tq = d.host.tq) (hf : h.inFlight = d.host.inFlight) (hq : h.devQ = d.host.devQ) :
    Posting d { d with host := h } where
  toKeeps := .ofRecords rfl hq hf
  tq t := by
    unfold Dev.tq
    split
    · rfl
    · split
      · rfl
      · split
        · rfl
        · exact ht

theorem posting_modData (l : Nat) (f : List (Nat × List Byte) → List (Nat × List Byte)) : Posting d (d.modData l f) := by
  unfold Dev.modData; split
  · exact .modCh d l _
  · exact posting_host d _ rfl rfl rfl

theorem posting_dataPiece (l : Nat) : Posting d (d.dataPiece l) := by
  unfold Dev.dataPiece; split
  · exact .refl d
  · exact (Posting.emit d _).trans (posting_modData _ _ _)

theorem posting_grant {x : Nat} {e : Dev} (h : d.grant = some (x, e)) : Posting d e := by
  unfold Dev.grant at h
  obtain ⟨p, -, h⟩ := Option.map_eq_some_iff.1 h
  cases h; exact posting_host d _ rfl rfl rfl

theorem posting_dropDeficits : Posting d d.dropDeficits := by unfold Dev.dropDeficits; exact posting_host d _ rfl rfl rfl

theorem posting_sendData (f l : Nat) : Posting d (Dev.sendData f l d) := by
  induction f generalizing d with
  | zero => exact .refl d
  | succ f ih =>
    unfold Dev.sendData; split
    · exact .refl d
    · split
      · exact .refl d
      · split
        · exact (posting_grant d (by assumption)).trans ((posting_dataPiece _ l).trans ((posting_dropDeficits _).trans (ih _)))
        · exact .refl d

theorem posting_output (s a : Nat) (l : List Byte) : Posting d (d.output s a l) := by
  unfold Dev.output; split
  · exact .refl d
  · exact (posting_modData d _ _).trans (posting_sendData _ _ _)

/-! ### A transaction's work ends (R266, R277, R404) -/

theorem posting_cycleReport (n : Nat) (t : Txn) (st : Status) (q : QDesc) (pf : Bool) : Posting d (d.cycleReport n t st q pf) := by
  unfold Dev.cycleReport; extract_lets room st'
  split
  · exact (posting_output d _ _ _).trans (posting_post _ _)
  · exact .refl d

theorem ends_completed (q : QDesc) (e : Entry) : Ends d ((d.completeE q e).endRun q) :=
  (Ends.ofPosting (posting_completeE d q e)).trans (ends_endRun _ q)

theorem ends_hostDone (t : Txn) (st : Status) (b : CBody) : Ends d (d.hostDone t st b) := by
  unfold Dev.hostDone; split
  · exact ends_completed d _ _
  · exact .refl d

theorem ends_completeWork (n : Nat) (t : Txn) (st : Status) (b : CBody) : Ends d (d.completeWork n t st b) := by
  unfold Dev.completeWork; dsimp only
  refine ((ends_hostDone d t st b).trans ?_).trans (.ofPosting (.modCh _ n _))
  split
  · split
    · exact .ofPosting (posting_cycleReport _ n t st _ _)
    · exact .refl _
  · split
    · exact (Ends.ofPosting (posting_output _ _ _ _)).trans (ends_completed _ _ _)
    · exact .refl _
  · split
    · exact ends_completed _ _ _
    · exact .refl _

theorem posting_txnsMoved (p : Nat) : Posting d (d.txnsMoved p) := by
  unfold Dev.txnsMoved Dev.stir Dev.syncReq
  exact (Posting.modPav d p _).trans (.modPav _ p _)

theorem posting_unreserve (n e : Nat) : Posting d (d.unreserve n e) := .modPav d _ _

/-! ### A field falls (R85, R112, R117, R131) -/

theorem posting_agcGo (n : Nat) (l : List Nat) (a : Nat) : Posting d (d.agcGo n l a) := by
  unfold Dev.agcGo; split
  · exact .setFld d _ _ _ _
  · exact .refl d

theorem posting_agcMove (n : Nat) (l : List Nat) (a : Nat) : Posting d (d.agcMove n l a) := by
  unfold Dev.agcMove; split
  · exact .each _ fun d _ => .setFld d _ _ _ _
  · exact .refl d

theorem posting_sepLeave (n : Nat) : Posting d (d.sepLeave n) := by
  unfold Dev.sepLeave; split
  · exact .modArb d _ _
  · exact .refl d

theorem posting_shedUntil (ok : Dev → Bool) (f : Cap → Cap) (l : List Nat) : Posting d (d.shedUntil ok f l) := by
  induction l generalizing d with
  | nil => exact .refl d
  | cons n t ih =>
    unfold Dev.shedUntil; split
    · exact .refl d
    · exact (Posting.modCh d n _).trans (ih _)

theorem posting_resumeFit (k : Nat) (l : List Nat) : Posting d (d.resumeFit k l) := by
  induction l generalizing d with
  | nil => exact .refl d
  | cons n t ih =>
    unfold Dev.resumeFit; extract_lets r
    refine Posting.trans ?_ (ih _)
    split
    · exact .modCh d n _
    · exact .refl d

theorem posting_recap : Posting d d.recap := by
  unfold Dev.recap
  exact (posting_shedUntil d _ _ _).trans ((posting_shedUntil _ _ _ _).trans (posting_resumeFit _ _ _))

theorem posting_rxSettle (n : Nat) : Posting d (d.rxSettle n) := by
  unfold Dev.rxSettle; split
  · exact .each _ fun _ _ => .ofRecords rfl rfl rfl rfl
  · exact .refl d

theorem posting_setSrc (n v : Nat) : Posting d (d.setSrc n v) := by
  unfold Dev.setSrc; split
  · exact .refl d
  · exact (Posting.setFld d _ _ _ _).trans (.modCh _ n _)

theorem posting_fadeStart (n : Nat) : Posting d (d.fadeStart n) := (Posting.setFld d _ _ _ _).trans (.modCh _ n _)

theorem posting_chainFree (n : Nat) : Posting d (d.chainFree n) := by
  unfold Dev.chainFree
  extract_lets d0 d1 d2
  have h1 : Posting d d1 := by
    refine (Posting.each _ fun d m => .modCh d m _ : Posting d d0).trans (Posting.trans ?_ (posting_rxSettle _ n))
    split
    · exact (Posting.setFld d0 _ _ _ _).trans (posting_fadeStart _ n)
    · exact .refl d0
  have h2 : Posting d1 d2 := by
    simp only [d2]; split
    · exact (Posting.wr d1 _ _ _ _).trans (.modCh _ n _)
    · exact .refl d1
  refine (h1.trans h2).trans ?_
  split
  · exact ((posting_setSrc d2 n _).trans (.modCh _ n _)).trans (posting_recap _)
  · exact .refl d2

theorem posting_fall (n : Nat) (k : RampKind) (c : Option Status) (l : List Nat) : Posting d (d.fall n k c l) := by
  unfold Dev.fall; split
  · exact .refl d
  · split
    · extract_lets u d1 d2 d3 due
      have h1 : Posting d d1 :=
        .cond _ ((posting_agcMove d n _ _).trans ((posting_sepLeave _ n).trans ((posting_chainFree _ n).trans (posting_agcGo _ n _ _))))
      have h3 : Posting d2 d3 := .each _ fun d x => by
        split
        · split
          · exact .refl d
          · exact (Posting.modCh d _ _).trans (.emit _ _)
        · exact .refl d
      exact ((h1.trans (.modCh d1 n _)).trans h3).trans (.modCh d3 n _)
    · exact .refl d

/-! ### Procedures of the calibration engine (R336 to R340, R526) -/

theorem posting_dropCal (n : Nat) : Posting d (d.dropCal n) := by
  unfold Dev.dropCal; split
  · split
    · exact .refl d
    · split
      · exact ((posting_unreserve d _ _).trans (.modCh _ n _)).trans (posting_txnsMoved _ _)
      · exact posting_fall d n _ _ _
  · exact .refl d

theorem posting_dropProbe (n : Nat) : Posting d (d.dropProbe n) := by
  unfold Dev.dropProbe; split
  · exact ((posting_unreserve d _ _).trans (.modArb _ _ _)).trans ((Posting.modCh _ n _).trans (posting_txnsMoved _ _))
  · exact .refl d

theorem posting_calLeave (r : CalRun) : Posting d (d.calLeave r) := by
  unfold Dev.calLeave
  extract_lets c d1 d2 d3
  have h2 : Posting d1 d2 := (Posting.each _ posting_dropCal).trans (.each _ fun d n => .cond _ (.modCh d n _))
  have h3 : Posting d2 d3 := .cond _ (.setFld _ _ _ _ _)
  exact (Posting.ofRecords rfl rfl rfl rfl : Posting d d1).trans (h2.trans (h3.trans (.cond _ ((Posting.setFld _ _ _ _ _).trans (.setFld _ _ _ _ _)))))

theorem ends_calAbort (n : Nat) (st : Status) : Ends d (d.calAbort n st) := by
  unfold Dev.calAbort; split
  · exact .refl d
  · extract_lets d1
    refine (Ends.ofPosting (posting_calLeave d _) : Ends d d1).trans ?_
    split
    · exact ends_done _ _ _ _
    · unfold Dev.calDone Dev.event; exact .ofPosting (posting_post _ _)

/-! ### A transaction is refused, a head expires (R344, R372, R403) -/

theorem ends_refuse (n : Nat) (st : Status) : Ends d (d.refuse n st) := by
  unfold Dev.refuse; split
  · split
    · exact (Ends.ofPosting (posting_dropCal d n)).trans (ends_calAbort _ n st)
    · split
      · exact .ofPosting (posting_dropProbe d n)
      · exact ((((Ends.ofPosting (posting_unreserve d _ _)).trans (ends_completeWork _ _ _ _ _)).trans
          (.cond _ (.ofPosting (posting_noFrameRegs _ _ _)))).trans (.ofPosting (.modCh _ n _))).trans (.ofPosting (posting_txnsMoved _ _))
  · exact .refl d

theorem ends_asideGone (n : Nat) (st : Status) : Ends d (d.asideGone n st) := by
  unfold Dev.asideGone; split
  · exact .refl d
  · extract_lets d1
    refine (Ends.ofPosting (.modCh d n _) : Ends d d1).trans ?_
    split
    · split
      · exact .ofPosting (posting_cycleReport _ _ _ _ _ _)
      · exact .refl _
    · split
      · exact ends_done _ _ _ _
      · exact .refl _

theorem posting_cal (c : Cal) : Posting d { d with cal := c } := .ofRecords rfl rfl rfl rfl

theorem ends_calGiveUp (q : QDesc) (st : Status) : Ends d (d.calGiveUp q st) := by
  unfold Dev.calGiveUp
  exact (Ends.ofPosting (posting_cal d _)).trans (ends_done _ q st _)

theorem ends_expireTxn (n : Nat) : Ends d (d.expireTxn n) := by
  unfold Dev.expireTxn; split
  · exact .refl d
  · split
    · exact .refl d
    · split
      · exact ends_refuse d n _
      · exact .refl d

theorem ends_expireAside (n : Nat) : Ends d (d.expireAside n) := .cond _ (ends_asideGone d n _)

theorem ends_expireCal (t : Nat) : Ends d (d.expireCal t) := by
  unfold Dev.expireCal; split
  · split
    · exact ends_calGiveUp d _ _
    · exact .refl d
  · exact .refl d

theorem keeps_expireHead (t : Nat) : Keeps d (d.expireHead t) := by
  unfold Dev.expireHead; split
  · split
    · exact (keeps_modTq d t _).trans ((posting_complete _ _ _ _).trans (posting_airGone _ _)).toKeeps
    · exact .refl d
  · exact .refl d

end Sys2Proof.Machine
end

section
/-! PROOFS. Descriptors leave their queues: the head of a target's queue, deadlines, NOP and CANCEL (O32). -/

namespace Sys2Proof.Machine

open Sys2Proof.Safety

variable {d : Dev}

/-! ### Answers (R404) -/

section Answers

variable {q : QDesc} {st : Status}

/-- A completion answers its descriptor. -/
theorem answers_completeE (d : Dev) {e : Entry} (b : CBody) (hkind : e.kind = .completion) (hsource : e.source = q.d.source)
    (hring : e.ring = some q.evq) (hbody : e.body = b.encode q.ring q.idx) (hst : e.status = st) : Answers q st (d.completeE q e) := by
  subst hst
  refine ⟨fun h => Dev.not_mem_completed d q e (by rwa [Dev.endRun_inFlight]), ?_⟩
  dsimp only
  unfold Dev.completeE
  dsimp only
  split
  · next h =>
    rw [Bool.and_eq_true, beq_iff_eq] at h
    exact .inl h
  · obtain ⟨x, hx, his⟩ := (d.release q).has_post (r := q.evq) e (by rw [hkind]; rfl) (by rw [Dev.route, hring])
    rw [hsource] at hx
    exact .inr ⟨x, hx, his.kind.trans hkind, his.status, (his.ring (by rw [hring]; rfl)).trans hring, b, his.body.trans hbody⟩

theorem answers_complete (d : Dev) (b : CBody) : Answers q st (d.complete q st b) :=
  (answers_completeE d b rfl rfl rfl rfl rfl : Answers q st (d.completeE q (q.entry d st b))).keeps
    (Posting.cond _ (posting_noFrameRegs _ _ _)).toKeeps

end Answers

/-! ### The head of a queue leaves it (R401, R403) -/

/-- The head of a target's queue is taken from it. -/
def Dev.popHead (d : Dev) (t : Nat) (rest : List QDesc) : Dev := d.modTq t fun x => { x with q := rest }

/-- The head of a target's queue, taken from it, completes with a status and no air action. -/
def Dev.headGone (d : Dev) (t : Nat) (q : QDesc) (rest : List QDesc) (st : Status) : Dev :=
  ((d.popHead t rest).complete q st { result := st }).airGone q

section Head

variable {t : Nat} {q : QDesc} {rest : List QDesc}

theorem told_popHead (L : List RegName) (d : Dev) (t : Nat) (rest : List QDesc) : Told L d (d.popHead t rest) := told_modTq d L t _

theorem Dev.tq_popHead : (d.popHead t rest).tq t = { d.tq t with q := rest } := d.tq_modTq_same t _

theorem told_headGone (st : Status) : Told doneRegs d (d.headGone t q rest st) :=
  (told_popHead _ d t rest).trans ((told_complete _ q st _).trans (told_airGone _ _ q))

theorem Dev.tq_headGone (st : Status) : (d.headGone t q rest st).tq t = { d.tq t with q := rest } := by
  rw [Dev.headGone, ((posting_complete _ q st _).trans (posting_airGone _ q)).tq, Dev.tq_popHead]

theorem answers_headGone (st : Status) : Answers q st (d.headGone t q rest st) :=
  (answers_complete _ _).keeps (posting_airGone _ q).toKeeps

/-! ### Its checks do not read its place -/

theorem told_genOk {L : List RegName} {e : Dev} (h : Told L d e) (x : Desc) (k : Nat) : e.genOk x k = d.genOk x k := by
  have hgen : (e.ch x.target).gen = (d.ch x.target).gen := by rw [h.ch]
  have hses : e.ses x.session = d.ses x.session := by rw [Dev.ses, h.sess, Dev.ses]
  rw [Dev.genOk, Dev.genOk, hgen, hses]

theorem told_roleQ {L : List RegName} {e : Dev} (h : Told L d e) (n : Nat) : (e.ch n).roleQ = (d.ch n).roleQ := by rw [h.ch]

theorem told_lendsOnly {L : List RegName} {e : Dev} (h : Told L d e) : e.lendsOnly t q = d.lendsOnly t q := by
  have hrole : (e.ch t).role = (d.ch t).role := by rw [h.ch]
  rw [Dev.lendsOnly, Dev.lendsOnly, hrole]

theorem Dev.enLock_popHead (n : Nat) : (d.popHead t rest).enLock n = d.enLock n := by
  rw [Dev.enLock, (told_popHead [] d t rest).regs _ _ _ List.not_mem_nil, Dev.enLock]

/-- How many SET_ROLE are pending before the head of a channel's queue. -/
def Dev.ahead (d : Dev) (t : Nat) : Nat := if t < 192 then (d.ch t).roleQ.length else 0

/-- A role is pending for a channel. -/
def Dev.rolePend (d : Dev) (n : Nat) (q : QDesc) (r : Role) : Dev := d.modCh n fun c => { c with roleQ := c.roleQ ++ [(q, r)] }

theorem kept_rolePend (n : Nat) (q : QDesc) (r : Role) : Kept [] d (d.rolePend n q r) := kept_modCh [] d n _

theorem posting_rolePend (n : Nat) (q : QDesc) (r : Role) : Posting d (d.rolePend n q r) := .modCh d n _

/-- The head that may start leaves the queue: a check that it fails completes it, else it is pending or stands started (R193, R334). -/
theorem Dev.startHead_of_may (hq : (d.tq t).q = q :: rest) (hmay : d.mayStart t q = true) : d.startHead t =
    if !d.genOk q.d (d.ahead t) then d.headGone t q rest .staleRole
    else if q.late d.now then d.headGone t q rest .late
    else if (d.tq t).run.isSome then (d.popHead t rest).roleAsk t q
    else if d.lendsOnly t q then d.headGone t q rest .badDescriptor
    else (d.popHead t rest).modTq t fun x => { x with run := some q } := by
  have htold := told_popHead [] d t rest
  have hahead : (d.popHead t rest).ahead t = d.ahead t := by rw [Dev.ahead, told_roleQ htold, Dev.ahead]
  rw [← told_genOk htold, ← hahead, ← htold.kept.now, ← told_lendsOnly (t := t) htold]
  unfold Dev.startHead
  rw [hq]
  dsimp only
  rw [hmay]
  rfl

/-- The head that may not start stays, unless it is late and no other has started (R403). -/
theorem Dev.startHead_of_not (hq : (d.tq t).q = q :: rest) (hmay : d.mayStart t q = false) : d.startHead t = d.expireHead t := by
  unfold Dev.startHead
  rw [hq]
  dsimp only
  rw [hmay]
  rfl

theorem Dev.expireHead_stays (hq : (d.tq t).q = q :: rest) (h : q.late d.now = false ∨ (d.tq t).run.isSome) : d.expireHead t = d := by
  unfold Dev.expireHead
  rw [hq]
  cases hrun : (d.tq t).run with
  | some p => rfl
  | none =>
    rw [hrun] at h
    have hlate : q.late d.now = false := h.resolve_right (by decide)
    dsimp only
    rw [hlate]
    rfl

theorem Dev.expireHead_late (hq : (d.tq t).q = q :: rest) (hrun : (d.tq t).run = none) (hlate : q.late d.now = true) :
    d.expireHead t = d.headGone t q rest .late := by
  unfold Dev.expireHead
  rw [hq, hrun]
  dsimp only
  rw [hlate]
  rfl

end Head

/-! ### Deadlines (R4, R403) -/

/-- A nanosecond of network time that has begun has passed. -/
theorem Dev.netMod_of_now {m : Nat} (h : m ≤ d.now) : 339 * m * 10 ^ 12 ≤ d.netMod := by
  have hmod : d.netMod = d.time.net % nsUnit + nsUnit * d.now := Nat.mod_mul
  have hunit : 339 * m * 10 ^ 12 = nsUnit * m := by unfold nsUnit; omega
  rw [hmod, hunit]
  exact (Nat.mul_le_mul_left nsUnit h).trans (Nat.le_add_left _ _)

/-- The descriptors of a target whose deadline has yet to be kept: those that wait for admission, and the head. -/
def Dev.heads (d : Dev) (target : Nat) : List QDesc :=
  let c := d.ch target
  let txn (t : Option Txn) : List QDesc :=
    (if target < 192 then t else none).toList.flatMap fun t => if t.phase = .waiting then t.desc.toList else []
  let run := (d.tq target).run
  txn c.txn ++ txn c.aside ++ (run.toList.filter d.calHeld) ++ (if run.isSome then [] else ((d.tq target).q.take 1))

theorem Dev.deadline_eq (target : Nat) :
    d.deadline target = (((d.heads target).map fun (q : QDesc) => q.d.deadline).filter (· != 0)).min? := rfl

/-- The clock at the earliest deadline of a target. -/
def Dev.atDeadline (d : Dev) (target : Nat) : Dev :=
  match d.deadline target with
  | some t => d.runNet (339 * t)
  | none => d

/-- Where a descriptor is late no time passes. -/
theorem Dev.atDeadline_late {target : Nat} {q : QDesc} (hq : q ∈ d.heads target) (hlate : q.late d.now = true) : d.atDeadline target = d := by
  obtain ⟨hne, hle⟩ := of_decide_eq_true hlate
  unfold Dev.atDeadline
  split
  · next t ht =>
    rw [Dev.deadline_eq] at ht
    have hmin : t ≤ q.d.deadline :=
      (List.min?_eq_some_iff.1 ht).2 _ (List.mem_filter.2 ⟨List.mem_map_of_mem hq, bne_iff_ne.2 hne⟩)
    exact Dev.runNet_past d _ (Dev.netMod_of_now (hmin.trans hle))
  · rfl

theorem Dev.mem_heads_queue {target : Nat} {q : QDesc} {rest : List QDesc} (hq : (d.tq target).q = q :: rest) (hrun : (d.tq target).run = none) :
    q ∈ d.heads target := by
  unfold Dev.heads
  dsimp only
  rw [hrun, hq]
  exact List.mem_append_right _ List.mem_cons_self

theorem Dev.mem_heads_txn {target : Nat} {x : Txn} {q : QDesc} (ht : target < 192) (hx : (d.ch target).txn = some x) (hwait : x.phase = .waiting)
    (hdesc : x.desc = some q) : q ∈ d.heads target := by
  unfold Dev.heads
  simp [ht, hx, hwait, hdesc]

/-! ### A transaction that waits is refused (R349, R403) -/

section Waiting

variable {n : Nat} {x : Txn} {q : QDesc}

/-- The work of an EXCHANGE or a TAG_OP that ends answers its descriptor. -/
theorem answers_completeWork (st : Status) (hwork : x.work = .exchange ∨ x.work = .tagOp) (hdesc : x.desc = some q) :
    Answers q st (d.completeWork n x st) := by
  have hdone (f : Dev) (b : CBody) (g : Txn → Txn) :
      Answers q st (((f.completeE q { (q.entry f st b) with wtxCapped := x.dep.capped }).endRun q).modTxn n g) :=
    ((answers_completeE f b rfl rfl rfl rfl rfl).keeps (ends_endRun _ q).toKeeps).keeps (Posting.modCh _ n _).toKeeps
  unfold Dev.completeWork
  rcases hwork with hwork | hwork <;> simp only [hwork, hdesc] <;> exact hdone _ _ _

/-- A transaction of an EXCHANGE or a TAG_OP that is refused answers its descriptor. -/
theorem answers_refuse (st : Status) (hx : (d.ch n).txn = some x) (hwork : x.work = .exchange ∨ x.work = .tagOp)
    (hdesc : x.desc = some q) : Answers q st (d.refuse n st) ∧ ((d.refuse n st).ch n).txn = none := by
  have hcal : x.work ≠ .cal := by rcases hwork with h | h <;> rw [h] <;> exact nofun
  have hpilot : x.work ≠ .pilot := by rcases hwork with h | h <;> rw [h] <;> exact nofun
  unfold Dev.refuse
  simp only [hx, if_neg hcal, if_neg hpilot]
  refine ⟨(answers_completeWork st hwork hdesc).keeps
    (((Posting.cond _ (posting_noFrameRegs _ _ _)).trans (.modCh _ n _)).trans (posting_txnsMoved _ _)).toKeeps, ?_⟩
  rw [Dev.txnsMoved_ch, Dev.ch_modCh_same]

theorem Dev.expireTxn_late (hx : (d.ch n).txn = some x) (hwait : x.phase = .waiting) (hdesc : x.desc = some q)
    (hlate : q.late d.now = true) : d.expireTxn n = d.refuse n .late := by
  unfold Dev.expireTxn
  rw [hx]; dsimp only
  rw [hdesc]; dsimp only
  rw [if_pos ⟨hwait, hlate⟩]

end Waiting

/-! ### What leaves a channel's transaction -/

theorem Dev.txn_asideGone (n k : Nat) (st : Status) : ((d.asideGone n st).ch k).txn = (d.ch k).txn := by
  unfold Dev.asideGone; split
  · rfl
  · next t _ =>
    extract_lets d1
    have h1 : (d1.ch k).txn = (d.ch k).txn := by
      by_cases e : n = k
      · subst e; rw [Dev.ch_modCh_same]
      · rw [Dev.ch_modCh_other _ _ e]
    rw [← h1]
    split
    · split
      · exact told_txn (told_cycleReport _ _ _ _ _ _) k
      · rfl
    · split
      · exact told_txn (told_done _ _ _ _) k
      · rfl

theorem Dev.txn_calGiveUp (k : Nat) (q : QDesc) (st : Status) : ((d.calGiveUp q st).ch k).txn = (d.ch k).txn := by
  unfold Dev.calGiveUp
  rw [told_txn (told_done _ q st _) k]
  rfl

theorem Dev.txn_expireAside (n k : Nat) : ((d.expireAside n).ch k).txn = (d.ch k).txn := by
  unfold Dev.expireAside Dev.cond; split
  · exact Dev.txn_asideGone n k _
  · rfl

theorem Dev.txn_expireCal (t k : Nat) : ((d.expireCal t).ch k).txn = (d.ch k).txn := by
  unfold Dev.expireCal; split
  · split
    · exact Dev.txn_calGiveUp k _ _
    · rfl
  · rfl

theorem Dev.txn_expireHead (t k : Nat) : ((d.expireHead t).ch k).txn = (d.ch k).txn := by
  unfold Dev.expireHead; split
  · split
    · exact told_txn (told_headGone _) k
    · rfl
  · rfl

/-! ### CANCEL (R411) -/

section Cancel

variable (d)

/-- The descriptors of a mask's rings leave a target's queue. -/
def Dev.unqueue (t mask : Nat) : Dev := d.modTq t fun x => { x with q := x.q.filter fun (y : QDesc) => !inMask mask y.ring }

/-- Descriptors that have left their queue complete with CANCELLED. -/
def Dev.cancelEach (l : List QDesc) : Dev := d.each l fun d x => (d.complete x .cancelled { result := .cancelled }).airGone x

/-- A CANCEL without its PROGRAM bit: what waits of the mask's rings goes. -/
def Dev.cancelTarget (t mask : Nat) : Dev :=
  ((if t < 192 then (d.unqueue t mask).cancelWaiting t mask else d.unqueue t mask).cancelRun t mask).cancelEach
    ((d.tq t).q.filter fun (x : QDesc) => inMask mask x.ring)

theorem posting_cancelEach (l : List QDesc) : Posting d (d.cancelEach l) :=
  .each l fun _ _ => (posting_complete _ _ _ _).trans (posting_airGone _ _)

theorem told_cancelEach (l : List QDesc) : Told doneRegs d (d.cancelEach l) :=
  Told.each l fun _ _ => (told_complete _ _ _ _).trans (told_airGone _ _ _)

theorem answers_cancelEach {l : List QDesc} {y : QDesc} (h : y ∈ l) : Answers y .cancelled (d.cancelEach l) := by
  induction l generalizing d with
  | nil => cases h
  | cons x l ih =>
    rcases List.mem_cons.1 h with rfl | h
    · exact (answers_complete d _).keeps ((posting_airGone _ y).trans (posting_cancelEach _ l)).toKeeps
    · exact ih _ h

theorem ends_cancelAside (n mask : Nat) : Ends d (d.cancelAside n mask) := .cond _ (ends_asideGone d n _)

theorem ends_cancelWaiting (n mask : Nat) : Ends d (d.cancelWaiting n mask) :=
  (Ends.cond _ (ends_refuse d n _)).trans (ends_cancelAside _ n mask)

theorem ends_cancelRun (t mask : Nat) : Ends d (d.cancelRun t mask) := by
  unfold Dev.cancelRun; split
  · extract_lets acting
    split
    · exact .refl d
    · split
      · exact ends_calGiveUp d _ _
      · split
        · exact ends_done d _ _ _
        · exact .refl d
  · exact .refl d

theorem ends_cancelCycle (n : Nat) : Ends d (d.cancelCycle n) := by
  unfold Dev.cancelCycle; split
  · exact (ends_refuse d n _).trans (.ofPosting (.modCh _ n _))
  · exact .cond _ (ends_asideGone d n _)

theorem kept_cancelAside (n mask : Nat) : Kept workRegs d (d.cancelAside n mask) := .cond _ (kept_asideGone d n _)

theorem kept_cancelWaiting (n mask : Nat) : Kept workRegs d (d.cancelWaiting n mask) :=
  (Kept.cond _ (kept_refuse d n _)).trans (kept_cancelAside _ n mask)

theorem kept_cancelRun (t mask : Nat) : Kept workRegs d (d.cancelRun t mask) := by
  unfold Dev.cancelRun; split
  · extract_lets acting
    split
    · exact .refl _ d
    · split
      · exact kept_calGiveUp d _ _
      · split
        · exact kept_work (told_done d _ _ _)
        · exact .refl _ d
  · exact .refl _ d

theorem kept_cancelCycle (n : Nat) : Kept workRegs d (d.cancelCycle n) := by
  unfold Dev.cancelCycle; split
  · exact (kept_refuse d n _).trans (kept_modCh _ _ n _)
  · exact .cond _ (kept_asideGone d n _)

theorem kept_cancelTarget (t mask : Nat) : Kept workRegs d (d.cancelTarget t mask) := by
  unfold Dev.cancelTarget
  refine Kept.trans (Kept.trans ?_ (kept_cancelRun _ t mask)) (kept_work (told_cancelEach _ _))
  split
  · exact (told_modTq d _ t _).kept.trans (kept_cancelWaiting _ t mask)
  · exact (told_modTq d _ t _).kept

theorem Dev.queue_cancelTarget (t mask : Nat) :
    ((d.cancelTarget t mask).tq t).q = (d.tq t).q.filter fun (y : QDesc) => !inMask mask y.ring := by
  have hunq : ((d.unqueue t mask).tq t).q = (d.tq t).q.filter fun (y : QDesc) => !inMask mask y.ring := by
    rw [Dev.unqueue, Dev.tq_modTq_same]
  rw [Dev.cancelTarget, (posting_cancelEach _ _).tq, (ends_cancelRun _ t mask).queue, ← hunq]
  split
  · exact (ends_cancelWaiting _ t mask).queue t
  · rfl

/-- A transaction that waits without a descriptor stays through a CANCEL without PROGRAM. -/
theorem Dev.txn_cancelTarget {t : Nat} (mask : Nat) {x : Txn} (hx : (d.ch t).txn = some x) (hdesc : x.desc = none) :
    ((d.cancelTarget t mask).ch t).txn = some x := by
  have hunq : ((d.unqueue t mask).ch t).txn = some x := (told_txn (told_modTq d [] t _) t).trans hx
  have hwait : (((d.unqueue t mask).cancelWaiting t mask).ch t).txn = some x := by
    have heq : (d.unqueue t mask).cancelWaiting t mask = (d.unqueue t mask).cancelAside t mask := by
      unfold Dev.cancelWaiting
      rw [hunq, Option.any_some, hdesc, Option.any_none, Bool.and_false]
      rfl
    rw [heq, Dev.cancelAside, Dev.cond]
    split
    · rw [Dev.txn_asideGone, hunq]
    · exact hunq
  have hrun (e : Dev) : ((e.cancelRun t mask).ch t).txn = (e.ch t).txn := by
    unfold Dev.cancelRun; split
    · extract_lets acting
      split
      · rfl
      · split
        · exact Dev.txn_calGiveUp t _ _
        · split
          · exact told_txn (told_done e _ _ _) t
          · rfl
    · rfl
  rw [Dev.cancelTarget, told_txn (told_cancelEach _ _), hrun]
  split
  · exact hwait
  · exact hunq

/-- The program's cycle that waits on a channel is cancelled. -/
theorem Dev.cancelCycle_waiting {n k : Nat} {x : Txn} (hx : (d.ch n).txn = some x) (hwork : x.work = .cycle k false) (hwait : x.phase = .waiting) :
    ((d.cancelCycle n).ch n).txn = none ∧ ((d.cancelCycle n).ch n).cycleOpen = false := by
  have heq : d.cancelCycle n = (d.refuse n .cancelled).modCh n fun c => { c with cycleOpen := false } := by
    unfold Dev.cancelCycle
    simp [hx, Txn.isCycle, hwork, hwait]
  obtain ⟨-, hnone⟩ := apart_refuse_cycle .cancelled hx hwork
  rw [heq, Dev.ch_modCh_same]
  exact ⟨hnone, rfl⟩

end Cancel

end Sys2Proof.Machine

namespace Sys2Proof.Proofs

open Sys2Proof.Machine Sys2Proof.Safety

/-! ### DESCRIPTOR_START -/

theorem exec_descriptorStart {target : Nat} (s : State) (hclass : (targetClass target).isSome) :
    exec (.descriptorStart target) s = .next { s with dev := s.dev.startHead target } := by
  change Host.Outcome.next { s with dev := if (targetClass target).isSome then s.dev.startHead target else s.dev } = _
  rw [if_pos hclass]

section Start

variable {target : Nat} {s : State} {q : QDesc} {rest : List QDesc}

/-- A head that leaves its idle target's queue is answered. -/
theorem does_headGone {st : Status} (hclass : (targetClass target).isSome) (hrun : (s.dev.tq target).run = none)
    (heq : s.dev.startHead target = s.dev.headGone target q rest st) : Does (.descriptorStart target) s fun t =>
      t.dev.tq target = { q := rest, run := none } ∧ Answered q st t ∧ Says doneRegs s t := by
  refine ⟨_, exec_descriptorStart s hclass, ?_⟩
  rw [heq]
  exact ⟨by rw [← hrun]; exact Dev.tq_headGone st, (answers_headGone st).answered, rfl, rfl, told_headGone st⟩

theorem does_start (hclass : (targetClass target).isSome) (hq : (s.dev.tq target).q = q :: rest) (hrun : (s.dev.tq target).run = none)
    (hmay : s.dev.mayStart target q = true) :
    (s.dev.genOk q.d (if target < 192 then (s.dev.ch target).roleQ.length else 0) = true →
      (q.late s.dev.now = false → s.dev.lendsOnly target q = false → Does (.descriptorStart target) s fun t =>
        t.dev.tq target = { q := rest, run := some q } ∧ Says [] s t) ∧
      (q.late s.dev.now = false → s.dev.lendsOnly target q = true → Does (.descriptorStart target) s fun t =>
        t.dev.tq target = { q := rest, run := none } ∧ Answered q .badDescriptor t ∧ Says doneRegs s t) ∧
      (q.late s.dev.now = true → Does (.descriptorStart target) s fun t =>
        t.dev.tq target = { q := rest, run := none } ∧ Answered q .late t ∧ Says doneRegs s t)) ∧
    (s.dev.genOk q.d (if target < 192 then (s.dev.ch target).roleQ.length else 0) = false → Does (.descriptorStart target) s fun t =>
      t.dev.tq target = { q := rest, run := none } ∧ Answered q .staleRole t ∧ Says doneRegs s t) := by
  change (s.dev.genOk q.d (s.dev.ahead target) = true → _) ∧ (s.dev.genOk q.d (s.dev.ahead target) = false → _)
  have heq := Dev.startHead_of_may hq hmay
  rw [hrun] at heq
  refine ⟨fun hgen => ⟨fun hlate hlends => ⟨_, exec_descriptorStart s hclass, ?_⟩, fun hlate hlends => does_headGone hclass hrun ?_,
    fun hlate => does_headGone hclass hrun ?_⟩, fun hgen => does_headGone hclass hrun ?_⟩
  · rw [hgen, hlate, hlends] at heq
    rw [heq]
    exact ⟨by simp [Dev.tq_modTq_same, Dev.tq_popHead], rfl, rfl,
      (told_popHead [] s.dev target rest).trans (told_modTq (s.dev.popHead target rest) [] target fun x => { x with run := some q })⟩
  · simp [heq, hgen, hlate, hlends]
  · simp [heq, hgen, hlate]
  · simp [heq, hgen]

/-- A SET_ROLE becomes pending behind the descriptor that has started (R326, R334). -/
theorem does_startBeside {p : QDesc} (hclass : (targetClass target).isSome) (hq : (s.dev.tq target).q = q :: rest)
    (hrun : (s.dev.tq target).run = some p) (hmay : s.dev.mayStart target q = true) (hlate : q.late s.dev.now = false) (ht : target < 192)
    (hgen : s.dev.genOk q.d (s.dev.ch target).roleQ.length = true)
    (hlock : roleOf (byteAt q.d.param 0 % 8) = .parked ∨ s.dev.enLock target = true) : Does (.descriptorStart target) s fun t =>
      t.dev.tq target = { q := rest, run := some p } ∧
      (t.dev.ch target).roleQ = (s.dev.ch target).roleQ ++ [(q, roleOf (byteAt q.d.param 0 % 8))] ∧ Works [] s t := by
  have htold := told_popHead [] s.dev target rest
  have hahead : s.dev.ahead target = (s.dev.ch target).roleQ.length := if_pos ht
  have heq : s.dev.startHead target = (s.dev.popHead target rest).rolePend target q (roleOf (byteAt q.d.param 0 % 8)) := by
    have hask : ¬ (roleOf (byteAt q.d.param 0 % 8) ≠ .parked ∧ (!(s.dev.popHead target rest).enLock target) = true) := by
      rw [Dev.enLock_popHead]
      rintro ⟨hrole, hoff⟩
      rcases hlock with h | h
      · exact hrole h
      · rw [h] at hoff; cases hoff
    rw [Dev.startHead_of_may hq hmay, hahead, hgen, hlate, hrun]
    exact if_neg hask
  refine ⟨_, exec_descriptorStart s hclass, ?_⟩
  rw [heq]
  refine ⟨?_, ?_, rfl, rfl, (Told.kept htold).trans (kept_rolePend target q _)⟩
  · rw [← hrun]; exact ((posting_rolePend target q _).tq target).trans Dev.tq_popHead
  · dsimp only; rw [Dev.rolePend, Dev.ch_modCh_same, told_roleQ htold]

end Start

/-! ### DEADLINE_EXPIRY -/

theorem exec_deadlineExpiry {target : Nat} (s : State) (hclass : (targetClass target).isSome) :
    exec (.deadlineExpiry target) s = .next { s with dev := (s.dev.atDeadline target).expire target } := by
  change Host.Outcome.next { s with dev := if (targetClass target).isSome then (s.dev.atDeadline target).expire target else s.dev } = _
  rw [if_pos hclass]

theorem does_expireHead {target : Nat} {s : State} {q : QDesc} {rest : List QDesc} (hclass : (targetClass target).isSome)
    (hq : (s.dev.tq target).q = q :: rest) (hlate : q.late s.dev.now = true) (hrun : (s.dev.tq target).run = none) :
    Does (.deadlineExpiry target) s fun t => Answered q .late t ∧ (t.dev.tq target).q = rest ∧ Works workRegs s t := by
  refine ⟨_, exec_deadlineExpiry s hclass, ?_⟩
  rw [Dev.atDeadline_late (Dev.mem_heads_queue hq hrun) hlate]
  let e := if target < 192 then (s.dev.expireTxn target).expireAside target else s.dev
  have hends : Ends s.dev e := by
    unfold e; split
    · exact (ends_expireTxn _ target).trans (ends_expireAside _ target)
    · exact .refl _
  have hkept : Kept workRegs s.dev e := by
    unfold e; split
    · exact (kept_expireTxn _ target).trans (kept_expireAside _ target)
    · exact .refl _ _
  have hidle := hends.idle target hrun
  have hcal : e.expireCal target = e := by unfold Dev.expireCal; rw [hidle]
  have heq : s.dev.expire target = e.headGone target q rest .late := by
    change (e.expireCal target).expireHead target = _
    rw [hcal]
    exact Dev.expireHead_late ((hends.queue target).trans hq) hidle (by rw [hkept.now]; exact hlate)
  refine ⟨?_, ?_, works_of_kept s (kept_expire _ target)⟩
  · rw [heq]; exact answers_headGone .late
  · dsimp only; rw [heq, Dev.tq_headGone]

theorem does_expireTxn (ch : Fin 192) (s : State) (x : Txn) (q : QDesc) (hx : (s.dev.ch ch).txn = some x) (hwait : x.phase = .waiting)
    (hdesc : x.desc = some q) (hwork : x.work = .exchange ∨ x.work = .tagOp) (hlate : q.late s.dev.now = true) :
    Does (.deadlineExpiry ch) s fun t => Answered q .late t ∧ (t.dev.ch ch).txn = none ∧ Works workRegs s t := by
  have hclass : (targetClass ch).isSome := by rw [targetClass, if_pos ch.isLt]; rfl
  refine ⟨_, exec_deadlineExpiry s hclass, ?_⟩
  rw [Dev.atDeadline_late (Dev.mem_heads_txn ch.isLt hx hwait hdesc) hlate]
  obtain ⟨hanswered, hnone⟩ := answers_refuse .late hx hwork hdesc
  have heq : s.dev.expire ch = (((s.dev.refuse ch .late).expireAside ch).expireCal ch).expireHead ch := by
    rw [Dev.expire, if_pos ch.isLt, Dev.expireTxn_late hx hwait hdesc hlate]
  refine ⟨?_, ?_, works_of_kept s (kept_expire _ _)⟩
  · rw [heq]
    exact hanswered.keeps (((ends_expireAside _ ch).trans (ends_expireCal _ ch)).toKeeps.trans (keeps_expireHead _ ch))
  · dsimp only
    rw [heq, Dev.txn_expireHead, Dev.txn_expireCal, Dev.txn_expireAside, hnone]

/-! ### A target that names nothing; NOP -/

theorem idle_ofNoTarget {target : Nat} (s : State) (hclass : targetClass target = none) :
    Idle (.deadlineExpiry target) s ∧ Idle (.descriptorStart target) s ∧ ∀ m p, Idle (.cancel target m p) s := by
  have hno : ¬ (targetClass target).isSome := by rw [hclass]; decide
  refine ⟨?_, ?_, fun m p => ?_⟩
  · change Host.Outcome.next { s with dev := if (targetClass target).isSome then (s.dev.atDeadline target).expire target else s.dev } = _
    rw [if_neg hno]
  · change Host.Outcome.next { s with dev := if (targetClass target).isSome then s.dev.startHead target else s.dev } = _
    rw [if_neg hno]
  · change Host.Outcome.next { s with dev := if (targetClass target).isSome then _ else s.dev } = _
    rw [if_neg hno]

theorem does_nop (target : Nat) (s : State) :
    (s.dev.running target 0x00 = none → Idle (.nop target) s) ∧
    (∀ q, s.dev.running target 0x00 = some q → Does (.nop target) s fun t => Answered q .ok t ∧ Says postRegs s t) := by
  refine ⟨fun h => ?_, fun q h => ⟨{ s with dev := s.dev.done q .ok }, ?_, answered_done s.dev s q .ok _, rfl, rfl, ?_⟩⟩
  · change execNop target s = _
    unfold execNop onDev; dsimp only; rw [h]
  · change execNop target s = _
    unfold execNop onDev; dsimp only; rw [h]
  · exact told_done_other s.dev q .ok _ (by rw [Dev.op_of_running _ h]; rfl)

/-! ### CANCEL -/

theorem exec_cancel {target : Nat} (mask : Word) (program : Bool) (s : State) (hclass : (targetClass target).isSome) :
    exec (.cancel target mask program) s = .next { s with dev :=
      if program then (s.dev.cancelTarget target mask.toNat).each (targetChans target) Dev.cancelCycle else s.dev.cancelTarget target mask.toNat } := by
  change execCancel target mask program s = _
  unfold execCancel onDev
  dsimp only
  rw [if_pos hclass]
  rfl

theorem does_cancel (target : Nat) (mask : Word) (program : Bool) (s : State) (hclass : (targetClass target).isSome) :
    Does (.cancel target mask program) s fun t =>
    (t.dev.tq target).q = (s.dev.tq target).q.filter (fun (y : QDesc) => !inMask mask.toNat y.ring) ∧
    (∀ y ∈ (s.dev.tq target).q, inMask mask.toNat y.ring = true → Answered y .cancelled t) ∧
    (∀ x k, program = true → target < 192 → (s.dev.ch target).txn = some x → x.work = .cycle k false → x.phase = .waiting → x.desc = none →
      (t.dev.ch target).txn = none ∧ (t.dev.ch target).cycleOpen = false) ∧ Works workRegs s t := by
  refine ⟨_, exec_cancel mask program s hclass, ?_⟩
  generalize mask.toNat = m
  let e := s.dev.cancelTarget target m
  let f := if program then e.each (targetChans target) Dev.cancelCycle else e
  have hends : Ends e f := by
    unfold f; split
    · exact .each _ ends_cancelCycle
    · exact .refl e
  have hkept : Kept workRegs e f := by
    unfold f; split
    · exact .each _ kept_cancelCycle
    · exact .refl _ e
  refine ⟨?_, fun y hy hm => ?_, fun x k hprog ht hx hwork hwait hdesc => ?_, works_of_kept s ((kept_cancelTarget _ target m).trans hkept)⟩
  · exact (hends.queue target).trans (s.dev.queue_cancelTarget target m)
  · exact (answers_cancelEach _ (List.mem_filter.2 ⟨hy, hm⟩)).keeps hends.toKeeps
  · have hcycle := Dev.cancelCycle_waiting e (s.dev.txn_cancelTarget m hx hdesc) hwork hwait
    rw [hprog, targetChans, if_pos ht]
    exact hcycle

/-- Settles O32: the head of a queue is taken up by `Dev.startHead_of_may`'s cases; what ends at a deadline or by a CANCEL is followed
through the changes that leave queues and earlier completions (`Ends`), so that each answer stands (`Answered.keeps`). -/
theorem descriptorsLeaveQueues : Obligations.DescriptorsLeaveQueues := by
  refine ⟨fun target s q rest hclass hq => ⟨fun h hmay => ?_, does_start hclass hq, fun p => does_startBeside hclass hq,
    fun hlate hrun hmay => ?_, does_expireHead hclass hq⟩, does_expireTxn, fun _ => idle_ofNoTarget, does_nop, does_cancel⟩
  · rw [Idle, exec_descriptorStart s hclass, Dev.startHead_of_not hq hmay, Dev.expireHead_stays hq h]
  · exact does_headGone hclass hrun (by rw [Dev.startHead_of_not hq hmay, Dev.expireHead_late hq hrun hlate])

end Sys2Proof.Proofs
end

section
/-! PROOFS. Descriptors that the sequencer carries out on the air: EXCHANGE, TAG_OP, ISODEP_EXCHANGE and the end of the host's wait (O20). -/

namespace Sys2Proof.Machine

open Sys2Proof.Safety

variable {d e : Dev} {n k : Nat}

/-! ### Work of one channel and its session -/

/-- From a device to another only one channel and one session have changed, the latter's hold is not newly taken, every entry posted
stands, and beside the sessions the device is kept but for registers of a list. -/
structure SesWork (L : List RegName) (n k : Nat) (d e : Dev) : Prop where
  others : ∀ j, n ≠ j → e.ch j = d.ch j
  ses    : ∀ j, j ≠ k → e.ses j = d.ses j
  hold   : (d.ses k).hold = false → (e.ses k).hold = false
  posts  : Posting d e
  kept   : Kept L (d.withSess e.sess) e

namespace SesWork

variable {L M : List RegName} {f : Dev}

theorem trans (a : SesWork L n k d e) (b : SesWork L n k e f) : SesWork L n k d f where
  others j h := (b.others j h).trans (a.others j h)
  ses j h := (b.ses j h).trans (a.ses j h)
  hold h := b.hold (a.hold h)
  posts := a.posts.trans b.posts
  kept := (kept_withSess a.kept f.sess).trans b.kept

theorem mono (h : ∀ r, r ∈ L → r ∈ M) (a : SesWork L n k d e) : SesWork M n k d e := { a with kept := a.kept.mono h }

/-- Where the sessions stand. -/
theorem ofKept (others : ∀ j, n ≠ j → e.ch j = d.ch j) (posts : Posting d e) (kept : Kept L d e) : SesWork L n k d e where
  others := others
  ses j _ := by rw [Dev.ses, kept.sess, Dev.ses]
  hold h := by rwa [Dev.ses, kept.sess]
  posts := posts
  kept := by rw [kept.sess]; exact kept

theorem modTxn (L : List RegName) (d : Dev) (n k : Nat) (g : Txn → Txn) : SesWork L n k d (d.modTxn n g) :=
  ofKept (fun _ h => d.ch_modTxn_other g (Ne.symm h)) (.modCh d n _) (kept_modTxn L d n g)

theorem modSes (L : List RegName) (d : Dev) (n k : Nat) (g : Sess → Sess) (h : ∀ x, x.hold = false → (g x).hold = false := by intro _ h; exact h) :
    SesWork L n k d (d.modSes k g) where
  others _ _ := rfl
  ses _ hj := d.ses_modSes_other g (Ne.symm hj)
  hold hx := by rw [Dev.ses_modSes_same]; exact h _ hx
  posts := .ofRecords rfl rfl rfl rfl
  kept := .refl L _

/-- An entry of the channel's own is posted. -/
theorem post (d : Dev) (k : Nat) (x : Entry) (h : x.source = n) : SesWork postRegs n k d (d.post x) :=
  ofKept (fun _ hj => d.ch_post_other x (by rw [h]; exact Ne.symm hj)) (posting_post d x) (told_post d x).kept

end SesWork

/-! ### A frame is staged (R118, R238) -/

theorem posting_applyRate (d : Dev) (n : Nat) (t : Tech) (r : Nat) : Posting d (d.applyRate n t r) := by
  unfold Dev.applyRate Dev.applyStd; split
  · exact (posting_setSrc d n _).trans ((Posting.setFld _ _ _ _ _).trans ((Posting.setFld _ _ _ _ _).trans ((Posting.setFld _ _ _ _ _).trans
      ((Posting.wr _ _ _ _ _).trans ((Posting.modCh _ n _).trans ((Posting.each _ fun d _ => .wr d _ _ _ _).trans (.setFld _ _ _ _ _)))))))
  · exact .refl d

theorem posting_rated (d : Dev) (n : Nat) (t : Txn) (f : AirFrame) : Posting d (d.rated n t f) := by
  unfold Dev.rated; split
  · exact .refl d
  · exact posting_applyRate d n _ _

/-- A transaction sends a frame: it is staged, and what the transaction does stands. -/
structure Sends (t y : Txn) : Prop where
  air      : y.air = .staged
  phase    : y.phase = t.phase
  desc     : y.desc = t.desc
  finished : y.finished = t.finished
  hostDesc : y.hostDesc = t.hostDesc
  held     : y.held = t.held
  ending   : y.ending = t.ending
  id       : y.id = t.id

/-- Staging a frame. -/
theorem Dev.stage_sends {t : Txn} (f : AirFrame) (ht : (d.ch n).txn = some t) :
    ∃ g : Txn → Txn, d.stage n f = (d.rated n t f).modTxn n g ∧ Sends t (g t) ∧ (g t).frame.map (·.data) = some f.data := by
  unfold Dev.stage
  rw [ht]
  exact ⟨_, rfl, ⟨rfl, rfl, rfl, rfl, rfl, rfl, rfl, rfl⟩, rfl⟩

theorem Dev.txn_rated (t : Txn) (f : AirFrame) : ((d.rated n t f).ch n).txn = (d.ch n).txn := (shows_rated d n t f).claim.txn n

theorem sends_stage {t : Txn} (f : AirFrame) (ht : (d.ch n).txn = some t) :
    (∃ y, ((d.stage n f).ch n).txn = some y ∧ Sends t y ∧ y.frame.map (·.data) = some f.data) ∧ SesWork admRegs n k d (d.stage n f) := by
  obtain ⟨g, heq, hsends, hdata⟩ := d.stage_sends f ht
  rw [heq]
  exact ⟨⟨g t, by rw [Dev.txn_modTxn, Dev.txn_rated, ht]; rfl, hsends, hdata⟩,
    (SesWork.ofKept (fun _ h => d.ch_rated_other t f h) (posting_rated d n t f) (kept_rated d n t f)).trans (.modTxn _ _ n k _)⟩

/-- The transaction with another exchange of ISO-DEP blocks. -/
def Txn.withDep (t : Txn) (p : DepRun) : Txn := { t with dep := p }

/-- The transaction with another state of its tag's identification. -/
def Txn.withId (t : Txn) (i : IdState) : Txn := { t with id := i }

/-- The ISO-DEP exchange does not count. -/
theorem Sends.ofDep {t y : Txn} {p : DepRun} (h : Sends (t.withDep p) y) : Sends t y where
  air := h.air
  phase := h.phase
  desc := h.desc
  finished := h.finished
  hostDesc := h.hostDesc
  held := h.held
  ending := h.ending
  id := h.id

/-! ### Blocks of a session (R264 to R266, R269) -/

/-- A block goes out: a frame is staged, within the channel and the session. -/
def Sending (n k : Nat) (t : Txn) (d e : Dev) : Prop := (∃ y, (e.ch n).txn = some y ∧ Sends t y) ∧ SesWork admRegs n k d e

namespace Sending

variable {t : Txn} {f : Dev}

theorem after (a : SesWork admRegs n k d e) (b : Sending n k t e f) : Sending n k t d f := ⟨b.1, a.trans b.2⟩

theorem ofDep {p : DepRun} (b : Sending n k (t.withDep p) d e) : Sending n k t d e := by
  obtain ⟨⟨y, hy, hsends⟩, hwork⟩ := b
  exact ⟨⟨y, hy, hsends.ofDep⟩, hwork⟩

end Sending

section Blocks

variable {t : Txn}

theorem Dev.txnSes_of (ht : (d.ch n).txn = some t) (hs : t.sess = some k) : d.txnSes n = some k := by
  rw [Dev.txnSes, ht]; exact hs

theorem Dev.txn_modDep (ht : (d.ch n).txn = some t) (g : DepRun → DepRun) : ((d.modDep n g).ch n).txn = some (t.withDep (g t.dep)) := by
  rw [Dev.modDep, Dev.txn_modTxn, ht]; rfl

theorem Dev.txn_modId (ht : (d.ch n).txn = some t) (g : IdState → IdState) : ((d.modId n g).ch n).txn = some (t.withId (g t.id)) := by
  rw [Dev.modId, Dev.txn_modTxn, ht]; rfl

theorem Dev.txn_modSes (ht : (d.ch n).txn = some t) (k : Nat) (g : Sess → Sess) : ((d.modSes k g).ch n).txn = some t := ht

theorem Txn.sess_withDep (hs : t.sess = some k) (p : DepRun) : (t.withDep p).sess = some k := hs
theorem Txn.sess_withId (hs : t.sess = some k) (i : IdState) : (t.withId i).sess = some k := hs

theorem sesWork_modDep (L : List RegName) (d : Dev) (n k : Nat) (g : DepRun → DepRun) : SesWork L n k d (d.modDep n g) := .modTxn L d n k _
theorem sesWork_modId (L : List RegName) (d : Dev) (n k : Nat) (g : IdState → IdState) : SesWork L n k d (d.modId n g) := .modTxn L d n k _

theorem sending_stage (f : AirFrame) (ht : (d.ch n).txn = some t) : Sending n k t d (d.stage n f) := by
  obtain ⟨⟨y, hy, hsends, -⟩, hwork⟩ := sends_stage (k := k) f ht
  exact ⟨⟨y, hy, hsends⟩, hwork⟩

theorem sending_sendBlock (ht : (d.ch n).txn = some t) (hs : t.sess = some k) (use : FrameUse) (pcb : Nat) (inf : List Byte) :
    Sending n k t d (d.sendBlock n use pcb inf) := by
  unfold Dev.sendBlock
  rw [Dev.txnSes_of ht hs]
  dsimp only
  exact .ofDep (.after (sesWork_modDep _ d n k _) (sending_stage _ (Dev.txn_modDep ht _)))

theorem sending_sendKept (ht : (d.ch n).txn = some t) (hs : t.sess = some k) (use : FrameUse) (pcb : Nat) (inf : List Byte) :
    Sending n k t d (d.sendKept n use pcb inf) :=
  .ofDep (.after (sesWork_modDep _ d n k _) (sending_sendBlock (Dev.txn_modDep ht _) (Txn.sess_withDep hs _) use pcb inf))

theorem sending_sendChunk (ht : (d.ch n).txn = some t) (hs : t.sess = some k) : Sending n k t d (d.sendChunk n) := by
  unfold Dev.sendChunk
  rw [Dev.txnSes_of ht hs, ht]
  dsimp only
  exact .ofDep (.after ((sesWork_modDep _ d n k _).trans (.modSes _ _ n k _))
    (sending_sendKept (Dev.txn_modSes (Dev.txn_modDep ht _) k _) (Txn.sess_withDep hs _) _ _ _))

/-- An APDU goes out: the tag's exchange is one of ISO-DEP. -/
theorem sending_sendApdu (ht : (d.ch n).txn = some t) (hs : t.sess = some k) (apdu : List Byte) :
    ∃ p, Sending n k ((t.withDep p).withId { t.id with phase := .isoDep }) d (d.sendApdu n apdu) :=
  ⟨_, .after ((sesWork_modDep _ d n k _).trans (sesWork_modId _ _ n k _))
    (sending_sendChunk (Dev.txn_modId (Dev.txn_modDep ht _) _) (Txn.sess_withId (Txn.sess_withDep hs _) _))⟩

/-- S(DESELECT) goes out. -/
theorem sending_deselect (ht : (d.ch n).txn = some t) (hs : t.sess = some k) :
    Sending n k (t.withId { t.id with phase := .deselect }) d (d.deselect n) := by
  unfold Dev.deselect
  rw [Dev.txnSes_of ht hs]
  dsimp only
  exact .after ((SesWork.modSes _ d n k _).trans (sesWork_modId _ _ n k _))
    (sending_sendBlock (Dev.txn_modId (Dev.txn_modSes ht k _) _) (Txn.sess_withId hs _) _ _ _)

end Blocks

/-! ### Entries of a ring (R419, R433) -/

/-- An entry that names its ring and is no report stands in its queue as it was posted, with the generation of its source. -/
theorem Dev.mem_post {r : Nat} (x : Entry) (hk : x.kind.reports = false) (hr : x.ring = some r) :
    ∃ g, { x with gen := g } ∈ ((d.post x).outq x.source).entries := by
  unfold Dev.post
  extract_lets y q
  rw [if_neg (by simp [y, hk])]
  refine ⟨y.gen, ?_⟩
  split
  · have hroute : d.route y = some r := by unfold Dev.route; rw [show y.ring = some r from hr]
    unfold Dev.enter
    rw [hroute]
    dsimp only
    rw [show x.source = y.source from rfl, Dev.outq_modOutq_same]
    refine List.mem_append_left _ (List.mem_append_right _ (List.mem_singleton.2 ?_))
    rw [← hr]
  · rw [Dev.outq_modOutq_same]
    exact List.mem_append_right _ (List.mem_append_right _ List.mem_cons_self)

/-! ### The end of the host's wait (R274, R418) -/

/-- The HOST_TIMEOUT entry of a descriptor held at a HOST step. -/
def Txn.timeout (x : Txn) (d : Dev) (n k : Nat) (q : QDesc) : Entry :=
  { (q.entry d .hostTimeout { result := .hostTimeout, sw := x.lastSw }) with source := n, session := k, step := x.scriptIx, irq := false }

/-- A transaction whose host step has run to its time-out. -/
def Txn.timedOut (x : Txn) (fin : Bool) : Txn :=
  { x with ending := true, finished := fin, held := none, id := { x.id with result := .hostTimeout } }

/-- The device once the host's wait is over, before the tag is deselected. -/
def Dev.hostTold (d : Dev) (n k : Nat) (x : Txn) (q : QDesc) : Dev :=
  let d := (d.post (x.timeout d n k q)).modSes k fun y => { y with hold := false }
  d.modTxn n fun t => t.timedOut (t.held == t.startOf d n)

/-- The program's descriptor is read from the pavilions alone. -/
theorem Txn.startOf_told {L : List RegName} {e f : Dev} (h : Told L d e) (hp : f.pavs = e.pavs) (x : Txn) (n : Nat) :
    x.startOf f n = x.startOf d n := by
  have hruns : (f.pav (pavOf n)).runs = (d.pav (pavOf n)).runs := by
    rw [Dev.pav, hp, ← Dev.pav, h.pav]
  unfold Txn.startOf
  rw [hruns]

theorem Dev.txn_hostTold {x : Txn} (q : QDesc) (hx : (d.ch n).txn = some x) : ((d.hostTold n k x q).ch n).txn =
    some (x.timedOut (x.held == x.startOf d n)) := by
  have htold := told_post d (x.timeout d n k q)
  have hstart := Txn.startOf_told (f := (d.post (x.timeout d n k q)).modSes k fun y => { y with hold := false }) htold rfl x n
  have hpost : (((d.post (x.timeout d n k q)).modSes k fun y => { y with hold := false }).ch n).txn = some x :=
    (told_txn htold n).trans hx
  unfold Dev.hostTold
  rw [Dev.txn_modTxn, hpost, ← hstart]
  rfl

theorem sesWork_hostTold (d : Dev) (n k : Nat) (x : Txn) (q : QDesc) : SesWork postRegs n k d (d.hostTold n k x q) :=
  (SesWork.post (n := n) d k (x.timeout d n k q) rfl).trans ((SesWork.modSes _ _ n k _ fun _ _ => rfl).trans (.modTxn _ _ n k _))

theorem Dev.hold_hostTold (d : Dev) (n k : Nat) (x : Txn) (q : QDesc) : ((d.hostTold n k x q).ses k).hold = false := by
  have hmod (e : Dev) (g : Txn → Txn) : (e.modTxn n g).ses k = e.ses k := rfl
  unfold Dev.hostTold
  dsimp only
  rw [hmod, Dev.ses_modSes_same]

/-! ### What EXCHANGE, TAG_OP and ISODEP_EXCHANGE make of a transaction -/

/-- A transaction that waits for admission, with its place in the order. -/
def Txn.waits (t : Txn) (k : Nat) : Txn := { t with phase := .waiting, order := k }

theorem Dev.txn_startWait (d : Dev) (n : Nat) (t : Txn) : ((d.startWait n t).ch n).txn = some (t.waits d.host.order) := by
  rw [Dev.ch_startWait]; rfl

/-- A held field's transaction takes a further descriptor (R408). -/
def Dev.taken (d : Dev) (n : Nat) (q : QDesc) : Dev :=
  d.modTxn n fun t => { t with desc := some q, finished := false, results := [], holdField := bitAt (byteAt q.d.param 2) 3 }

/-- EXCHANGE on a channel with a transaction (R408). -/
def Dev.exchangeOn (d : Dev) (n : Nat) (q : QDesc) (x : Txn) : Dev :=
  if x.work = .exchange ∧ x.holdField ∧ x.finished ∧ x.phase = .up ∧ d.continues n x (d.exchangeFrame n q) then
    if d.fld F.CH_RX_CTL_FIR_SRC n = 0 ∧ !d.on F.CH_RX_CTL_STD n then d.done q .badDescriptor
    else (d.taken n q).stage n (d.exchangeFrame n q)
  else d

/-- A transaction takes the host's APDU (R274). -/
def Txn.takesApdu (x : Txn) (q : QDesc) : Txn :=
  { x with hostDesc := some q, hostLen := 0, results := [], held := none, ending := bitAt (byteAt q.d.param 0) 0 }

theorem Txn.sess_takesApdu (x : Txn) (q : QDesc) : (x.takesApdu q).sess = x.sess := rfl

/-- A session's transaction takes the host's APDU (R274). -/
def Dev.apduTaken (d : Dev) (n : Nat) (q : QDesc) : Dev :=
  (d.modSes q.d.session fun x => { x with hold := false }).modTxn n fun t => t.takesApdu q

theorem Dev.txn_apduTaken {x : Txn} (q : QDesc) (hx : (d.ch n).txn = some x) : ((d.apduTaken n q).ch n).txn = some (x.takesApdu q) := by
  have hses : ((d.modSes q.d.session fun y => { y with hold := false }).ch n).txn = some x := hx
  rw [Dev.apduTaken, Dev.txn_modTxn, hses]
  rfl

theorem sesWork_apduTaken (L : List RegName) (d : Dev) (n : Nat) (q : QDesc) : SesWork L n q.d.session d (d.apduTaken n q) :=
  (SesWork.modSes L d n _ _ fun _ _ => rfl).trans (.modTxn L _ n _ _)

theorem Dev.hold_apduTaken (d : Dev) (n : Nat) (q : QDesc) : ((d.apduTaken n q).ses q.d.session).hold = false := by
  have hmod (e : Dev) (g : Txn → Txn) : (e.modTxn n g).ses q.d.session = e.ses q.d.session := rfl
  rw [Dev.apduTaken, hmod, Dev.ses_modSes_same]

/-- ISODEP_EXCHANGE on a channel with a transaction (R274, R409). -/
def Dev.isodepOn (d : Dev) (n : Nat) (q : QDesc) (x : Txn) : Dev :=
  if x.sess = some q.d.session ∧ x.phase = .up ∧ x.id.phase = .hostHold ∧ ¬ x.ending then
    if d.outFree n < 4 || !(d.ch n).dataWait.isEmpty then d else (d.apduTaken n q).sendApdu n q.input
  else if x.hostDesc.any (·.same q) then d
  else d.done q .badDescriptor

theorem Dev.isodepOn_held {x : Txn} {q : QDesc} (hsess : x.sess = some q.d.session) (hup : x.phase = .up) (hheld : x.id.phase = .hostHold)
    (hend : x.ending = false) (hfree : 4 ≤ d.outFree n) (hdata : (d.ch n).dataWait = []) :
    d.isodepOn n q x = (d.apduTaken n q).sendApdu n q.input := by
  have hroom : ¬ (d.outFree n < 4 || !(d.ch n).dataWait.isEmpty) = true := by
    rw [hdata, decide_eq_false (by omega)]; exact Bool.false_ne_true
  rw [Dev.isodepOn, if_pos ⟨hsess, hup, hheld, by rw [hend]; exact Bool.false_ne_true⟩, if_neg hroom]

/-- What an APDU that goes out leaves of its channel and its session. -/
theorem Dev.apdu_sent {x : Txn} {q : QDesc} (hx : (d.ch n).txn = some x) (hsess : x.sess = some q.d.session) :
    (∃ y, (((d.apduTaken n q).sendApdu n q.input).ch n).txn = some y ∧ y.hostDesc = some q ∧ y.held = none ∧ y.id.phase = .isoDep ∧
      y.air = .staged ∧ y.ending = bitAt (byteAt q.d.param 0) 0 ∧ y.phase = x.phase) ∧
    (((d.apduTaken n q).sendApdu n q.input).ses q.d.session).hold = false ∧
    SesWork admRegs n q.d.session d ((d.apduTaken n q).sendApdu n q.input) := by
  obtain ⟨p, ⟨y, hy, hsends⟩, hsent⟩ := sending_sendApdu (d.txn_apduTaken q hx) ((x.sess_takesApdu q).trans hsess) q.input
  exact ⟨⟨y, hy, hsends.hostDesc, hsends.held, by rw [hsends.id]; rfl, hsends.air, hsends.ending, hsends.phase⟩,
    hsent.hold (d.hold_apduTaken n q), (sesWork_apduTaken admRegs d n q).trans hsent⟩

end Sys2Proof.Machine

namespace Sys2Proof.Proofs

open Sys2Proof.Machine Sys2Proof.Safety

variable {ch : Fin 192} {s : State} {q : QDesc} {x : Txn}

/-! ### EXCHANGE (R408) -/

section Exchange

variable (hrun : s.dev.running ch 0x01 = some q)

include hrun

theorem does_exchangeOpen (hx : (s.dev.ch ch).txn = none) : Does (.exchange ch) s fun t =>
    (∃ y f, (t.dev.ch ch).txn = some y ∧ y.phase = .waiting ∧ y.work = .exchange ∧ y.desc = some q ∧ y.frame = some f ∧
      y.level = byteAt q.d.param 4 ∧ y.holdField = bitAt (byteAt q.d.param 2) 3 ∧
      f.data = (if bitAt (byteAt q.d.param 2) 0 then withCrc (techOf (byteAt q.d.param 0 % 4)) q.input else q.input) ∧
      f.rxMax = min q.d.bufLen 8192) ∧ ChansStand [ch.val] s t ∧ Works [] (withOrder s (s.dev.host.order + 1)) t := by
  have hexec : exec (.exchange ch) s = .next { s with dev := s.dev.openExchange ch q } := by
    change execExchange ch s = _
    simp only [execExchange, onDev, hrun, hx]
  refine ⟨_, hexec, ⟨_, s.dev.exchangeFrame ch q, Dev.txn_startWait _ _ _, rfl, rfl, rfl, rfl, rfl, rfl, rfl, rfl⟩, fun k hk => ?_, rfl, rfl, ?_⟩
  · exact s.dev.ch_startWait_other _ (by simpa using Ne.symm (List.ne_of_not_mem_cons hk))
  · exact keptOrder_startWait s.dev [] ch _

theorem exec_exchangeHeld (hx : (s.dev.ch ch).txn = some x) : exec (.exchange ch) s = .next { s with dev := s.dev.exchangeOn ch q x } := by
  change execExchange ch s = _
  simp only [execExchange, onDev, hrun, hx]
  rfl

theorem does_exchangeHeld (hx : (s.dev.ch ch).txn = some x) :
    (x.work = .exchange → x.holdField = true → x.finished = true → x.phase = .up →
      s.dev.continues ch x (s.dev.exchangeFrame ch q) = true →
      (s.dev.fld F.CH_RX_CTL_FIR_SRC ch = 0 → s.dev.on F.CH_RX_CTL_STD ch = false →
        Does (.exchange ch) s fun t => Answered q .badDescriptor t ∧ Says doneRegs s t) ∧
      (s.dev.fld F.CH_RX_CTL_FIR_SRC ch ≠ 0 ∨ s.dev.on F.CH_RX_CTL_STD ch = true → Does (.exchange ch) s fun t =>
        (∃ y, (t.dev.ch ch).txn = some y ∧ y.phase = .up ∧ y.desc = some q ∧ y.finished = false ∧
          y.frame.map (·.data) = some (s.dev.exchangeFrame ch q).data ∧ y.air = .staged) ∧
        ChansStand [ch.val] s t ∧ Works admRegs s t)) ∧
    (x.work ≠ .exchange ∨ x.holdField = false ∨ x.finished = false ∨ x.phase ≠ .up ∨
      s.dev.continues ch x (s.dev.exchangeFrame ch q) = false → Idle (.exchange ch) s) := by
  have hexec := exec_exchangeHeld hrun hx
  unfold Dev.exchangeOn at hexec
  refine ⟨fun hwork hhold hfin hup hcont => ?_, fun h => ?_⟩
  · rw [if_pos ⟨hwork, hhold, hfin, hup, hcont⟩] at hexec
    refine ⟨fun hsrc hstd => ⟨_, hexec, ?_⟩, fun h => ⟨_, hexec, ?_⟩⟩
    · rw [if_pos ⟨hsrc, by rw [hstd]; rfl⟩]
      exact ⟨answered_done s.dev s q .badDescriptor _, rfl, rfl, told_done s.dev q .badDescriptor _⟩
    · rw [if_neg (by rintro ⟨hsrc, hstd⟩; rcases h with h | h; exacts [h hsrc, by rw [h] at hstd; cases hstd])]
      have htaken : ((s.dev.taken ch q).ch ch).txn =
          some { x with desc := some q, finished := false, results := [], holdField := bitAt (byteAt q.d.param 2) 3 } := by
        rw [Dev.taken, Dev.txn_modTxn, hx]; rfl
      obtain ⟨y, hy, hsends, hdata⟩ := (sends_stage (k := 0) (s.dev.exchangeFrame ch q) htaken).1
      have hown : OwnWork admRegs ch s.dev ((s.dev.taken ch q).stage ch (s.dev.exchangeFrame ch q)) :=
        (ownWork_modTxn s.dev admRegs ch _).trans (ownWork_stage _ _ htaken)
      exact ⟨⟨y, hy, hsends.phase.trans hup, hsends.desc, hsends.finished, hdata, hsends.air⟩,
        fun k hk => hown.others k (Ne.symm (List.ne_of_not_mem_cons hk)), works_of_kept s hown.kept⟩
  · rw [Idle, hexec, if_neg]
    rintro ⟨hwork, hhold, hfin, hup, hcont⟩
    rcases h with h | h | h | h | h
    · exact h hwork
    · rw [hhold] at h; cases h
    · rw [hfin] at h; cases h
    · exact h hup
    · rw [hcont] at h; cases h

end Exchange

/-! ### TAG_OP (R270) -/

theorem does_tagOp (hrun : s.dev.running ch 0x04 = some q) : ((s.dev.ch ch).txn.isSome → Idle (.tagOp ch) s) ∧
    ((s.dev.ch ch).txn = none → Does (.tagOp ch) s fun t =>
      (∃ y, (t.dev.ch ch).txn = some y ∧ y.phase = .waiting ∧ y.work = .tagOp ∧ y.desc = some q ∧
        y.tech = (if 3 ≤ byteAt q.d.param 0 then .nfcV else .nfcA) ∧ y.prog.maxTags = 1) ∧
      ChansStand [ch.val] s t ∧ Works [] (withOrder s (s.dev.host.order + 1)) t) := by
  have hexec : ∃ t : Txn, exec (.tagOp ch) s = .next { s with dev := if (s.dev.ch ch).txn.isSome then s.dev else s.dev.startWait ch t } ∧
      t.work = .tagOp ∧ t.desc = some q ∧ t.tech = (if 3 ≤ byteAt q.d.param 0 then .nfcV else .nfcA) ∧ t.prog.maxTags = 1 := by
    change ∃ t : Txn, execTagOp ch s = _ ∧ _
    simp only [execTagOp, onDev, hrun]
    exact ⟨_, rfl, rfl, rfl, rfl, rfl⟩
  obtain ⟨t, hexec, hwork, hdesc, htech, htags⟩ := hexec
  refine ⟨fun h => by rw [Idle, hexec, if_pos h], fun h => ?_⟩
  · rw [h] at hexec
    refine ⟨_, hexec, ⟨_, Dev.txn_startWait _ _ _, rfl, hwork, hdesc, htech, htags⟩, fun k hk => ?_, rfl, rfl, keptOrder_startWait s.dev [] ch t⟩
    exact s.dev.ch_startWait_other _ (Ne.symm (List.ne_of_not_mem_cons hk))

/-! ### ISODEP_EXCHANGE (R274, R409) -/

theorem does_isodepRefused {e : Dev} (hexec : exec (.isodepExchange ch) s = .next { s with dev := e }) (he : e = s.dev.done q .badDescriptor) :
    Does (.isodepExchange ch) s fun t => Answered q .badDescriptor t ∧ Says doneRegs s t := by
  subst he
  exact ⟨_, hexec, answered_done s.dev s q .badDescriptor _, rfl, rfl, told_done s.dev q .badDescriptor _⟩

section Isodep

variable (hrun : s.dev.running ch 0x02 = some q)

include hrun

theorem exec_isodepExchange (hx : (s.dev.ch ch).txn = some x) :
    exec (.isodepExchange ch) s = .next { s with dev := s.dev.isodepOn ch q x } := by
  change execIsodepExchange ch s = _
  simp only [execIsodepExchange, onDev, hrun, hx]
  rfl

theorem does_isodepNone (hx : (s.dev.ch ch).txn = none) :
    Does (.isodepExchange ch) s fun t => Answered q .badDescriptor t ∧ Says doneRegs s t := by
  refine does_isodepRefused (e := s.dev.done q .badDescriptor) ?_ rfl
  change execIsodepExchange ch s = _
  simp only [execIsodepExchange, onDev, hrun, hx]

theorem does_isodepUnheld (hx : (s.dev.ch ch).txn = some x)
    (h : x.sess ≠ some q.d.session ∨ x.phase ≠ .up ∨ x.id.phase ≠ .hostHold ∨ x.ending = true) (hnone : x.hostDesc = none) :
    Does (.isodepExchange ch) s fun t => Answered q .badDescriptor t ∧ Says doneRegs s t := by
  refine does_isodepRefused (exec_isodepExchange hrun hx) ?_
  rw [Dev.isodepOn, if_neg, hnone]
  · rfl
  · rintro ⟨hsess, hup, hheld, hend⟩
    rcases h with h | h | h | h
    exacts [h hsess, h hup, h hheld, hend h]

theorem does_isodepHeld (hx : (s.dev.ch ch).txn = some x) (hsess : x.sess = some q.d.session) (hup : x.phase = .up)
    (hheld : x.id.phase = .hostHold) (hend : x.ending = false) (hfree : 4 ≤ s.dev.outFree ch) (hdata : (s.dev.ch ch).dataWait = []) :
    Does (.isodepExchange ch) s fun t =>
      (∃ y, (t.dev.ch ch).txn = some y ∧ y.hostDesc = some q ∧ y.held = none ∧ y.id.phase = .isoDep ∧ y.air = .staged ∧
        y.ending = bitAt (byteAt q.d.param 0) 0 ∧ y.phase = .up) ∧
      (t.dev.ses q.d.session).hold = false ∧ ChansStand [ch.val] s t ∧ (∀ k, k ≠ q.d.session → t.dev.ses k = s.dev.ses k) ∧
      Works admRegs { s with dev := { s.dev with sess := t.dev.sess } } t := by
  have hexec := exec_isodepExchange hrun hx
  have hsent := Dev.apdu_sent (q := q) hx hsess
  rw [Dev.isodepOn_held hsess hup hheld hend hfree hdata] at hexec
  generalize (s.dev.apduTaken ch q).sendApdu ch q.input = e at hexec hsent
  obtain ⟨⟨y, hy, hdesc, hnone, hid, hair, hending, hphase⟩, hhold, hwork⟩ := hsent
  exact ⟨_, hexec, ⟨y, hy, hdesc, hnone, hid, hair, hending, hphase.trans hup⟩, hhold,
    fun k hk => hwork.others k (Ne.symm (List.ne_of_not_mem_cons hk)), hwork.ses, rfl, rfl, hwork.kept⟩

end Isodep

/-! ### HOST_WAIT_EXPIRY (R274, R418) -/

theorem does_hostWaitExpiry (ch : Fin 192) (s : State) (x : Txn) (q : QDesc) (k : Nat) (hx : (s.dev.ch ch).txn = some x) (hup : x.phase = .up)
    (hhost : x.id.phase = .hostHold) (hheld : x.held = some q) (hsess : x.sess = some k) (hdue : x.dueTc ≤ s.dev.tc) :
    Does (.hostWaitExpiry ch) s fun t =>
      (∃ y, (t.dev.ch ch).txn = some y ∧ y.ending = true ∧ y.finished = (x.held == x.startOf s.dev ch) ∧ y.held = none ∧ y.id.phase = .deselect ∧
        y.id.result = .hostTimeout ∧ y.air = .staged) ∧
      (∃ e ∈ (t.dev.ch ch).outq.held ++ (t.dev.ch ch).outq.waiting, e.kind = .completion ∧ e.status = .hostTimeout ∧
        e.source = ch.val ∧ e.session = k ∧ e.ring = some q.evq) ∧
      (t.dev.ses k).hold = false ∧ (∀ j, j ≠ k → t.dev.ses j = s.dev.ses j) ∧ ChansStand [ch.val] s t ∧
      Works (postRegs ++ admRegs) { s with dev := { s.dev with sess := t.dev.sess } } t := by
  have hexec : exec (.hostWaitExpiry ch) s = .next { s with dev := (s.dev.hostTold ch k x q).deselect ch } := by
    change execHostWaitExpiry ch s = _
    simp only [execHostWaitExpiry, onDev, hx, hup, hhost, and_self, if_true, hheld, hsess, s.dev.runTo_past _ hdue]
    rfl
  refine ⟨_, hexec, ?_⟩
  obtain ⟨⟨y, hy, hsends⟩, hsent⟩ := sending_deselect (s.dev.txn_hostTold (k := k) q hx) hsess
  have hwork : SesWork (postRegs ++ admRegs) ch k s.dev ((s.dev.hostTold ch k x q).deselect ch) :=
    ((sesWork_hostTold s.dev ch k x q).mono fun _ => List.mem_append_left _).trans (hsent.mono fun _ => List.mem_append_right _)
  have hentry : ∃ e ∈ (((s.dev.hostTold ch k x q).deselect ch).outq ch).entries, e.kind = .completion ∧ e.status = .hostTimeout ∧
      e.source = ch.val ∧ e.session = k ∧ e.ring = some q.evq := by
    obtain ⟨g, hg⟩ := Dev.mem_post (d := s.dev) (x.timeout s.dev ch k q) rfl rfl
    have hposts : Posting (s.dev.post (x.timeout s.dev ch k q)) ((s.dev.hostTold ch k x q).deselect ch) :=
      (((SesWork.modSes [] _ ch k _ fun _ _ => rfl).trans (.modTxn [] _ ch k _)).posts).trans hsent.posts
    exact ⟨_, hposts.posted ch _ hg rfl, rfl, rfl, rfl, rfl, rfl⟩
  refine ⟨⟨y, hy, hsends.ending, hsends.finished, hsends.held, by rw [hsends.id]; rfl, by rw [hsends.id]; rfl, hsends.air⟩, ?_,
    hsent.hold (s.dev.hold_hostTold ch k x q), hwork.ses, fun j hj => hwork.others j (Ne.symm (List.ne_of_not_mem_cons hj)), rfl, rfl, hwork.kept⟩
  rwa [Dev.outq, if_pos ch.isLt] at hentry

/-- Settles O20: EXCHANGE and TAG_OP begin a transaction (`Dev.ch_startWait`) or stage their frame on a held field (`sends_stage`);
what goes out on a session changes its channel and that session alone (`SesWork`). -/
theorem exchanges : Obligations.Exchanges :=
  ⟨fun _ _ _ hrun => ⟨does_exchangeOpen hrun, fun _ => does_exchangeHeld hrun⟩, fun _ _ _ => does_tagOp,
    fun _ _ _ hrun => ⟨does_isodepNone hrun, fun _ hx => ⟨does_isodepUnheld hrun hx, does_isodepHeld hrun hx⟩⟩, does_hostWaitExpiry⟩

end Sys2Proof.Proofs
end

section
/-! PROOFS. Capture streams: what suspension changes, and what a change of one channel leaves of the others and of the arbiters' backlog. -/

namespace Sys2Proof.Machine

open Sys2Proof.Safety

/-! ### Suspension (R444, R445, R449 to R451) -/

/-- A stream beside its suspension by fabric and link and the gap that it opens. -/
def Cap.flow (c : Cap) : Cap := { c with susFab := false, susLink := false, gapFrom := none }

/-- A channel's record beside its stream's suspension. -/
def Ch.flow (c : Ch) : Ch := { c with cap := c.cap.map Cap.flow }

/-- Between two devices only the suspension of streams has changed. -/
structure Suspends (d e : Dev) : Prop where
  ch   : ∀ n, (e.ch n).flow = (d.ch n).flow
  rest : e = { d with chans := e.chans }

namespace Suspends

variable {d e f : Dev} {n : Nat}

theorem refl (d : Dev) : Suspends d d := ⟨fun _ => rfl, rfl⟩

theorem trans (a : Suspends d e) (b : Suspends e f) : Suspends d f :=
  ⟨fun n => (b.ch n).trans (a.ch n), by rw [b.rest, a.rest]⟩

theorem modCap (d : Dev) (n : Nat) (g : Cap → Cap) (h : ∀ c, (g c).flow = c.flow) : Suspends d (d.modCap n g) where
  ch k := by
    by_cases e : n = k
    · subst e
      simp only [Dev.modCap, Dev.ch_modCh_same, Ch.flow, Option.map_map, Function.comp_def, h]
    · rw [Dev.modCap, Dev.ch_modCh_other _ _ e]
  rest := rfl

theorem regs (a : Suspends d e) : e.regs = d.regs := by rw [a.rest]
theorem host (a : Suspends d e) : e.host = d.host := by rw [a.rest]
theorem fld (a : Suspends d e) (x : Fld) (i j : Nat) : e.fld x i j = d.fld x i j := by rw [a.rest]; rfl
theorem txn (a : Suspends d e) (n : Nat) : (e.ch n).txn = (d.ch n).txn := (congrArg Ch.txn (a.ch n) :)
theorem outq (a : Suspends d e) (n : Nat) : (e.ch n).outq = (d.ch n).outq := (congrArg Ch.outq (a.ch n) :)
theorem cap (a : Suspends d e) (n : Nat) : (e.ch n).cap.map Cap.flow = (d.ch n).cap.map Cap.flow := congrArg Ch.cap (a.ch n)

theorem cap_none (a : Suspends d e) (h : (d.ch n).cap = none) : (e.ch n).cap = none :=
  Option.map_eq_none_iff.1 ((a.cap n).trans (by rw [h]; rfl))

/-- A stream that is suspended or resumes stays the same stream. -/
theorem cap_some {c : Cap} (a : Suspends d e) (h : (d.ch n).cap = some c) : ∃ k, (e.ch n).cap = some k ∧ k.flow = c.flow :=
  Option.map_eq_some_iff.1 ((a.cap n).trans (by rw [h]; rfl))

end Suspends

theorem suspends_shedUntil (d : Dev) (ok : Dev → Bool) {mark : Cap → Cap} (h : ∀ c, (mark c).flow = c.flow) (l : List Nat) :
    Suspends d (d.shedUntil ok mark l) := by
  induction l generalizing d with
  | nil => exact .refl d
  | cons n t ih =>
    unfold Dev.shedUntil; split
    · exact .refl d
    · exact (Suspends.modCap d n (fun c => (mark c).gap) h).trans (ih _)

theorem suspends_resumeFit (d : Dev) (k : Nat) (l : List Nat) : Suspends d (d.resumeFit k l) := by
  induction l generalizing d with
  | nil => exact .refl d
  | cons n t ih =>
    unfold Dev.resumeFit; extract_lets r
    refine Suspends.trans ?_ (ih _)
    split
    · exact .modCap d n _ fun _ => rfl
    · exact .refl d

theorem suspends_recap (d : Dev) : Suspends d d.recap := by
  have hfab (c : Cap) : { c with susFab := true }.flow = c.flow := rfl
  have hlink (c : Cap) : { c with susLink := true }.flow = c.flow := rfl
  unfold Dev.recap
  exact (suspends_shedUntil d _ hfab _).trans ((suspends_shedUntil _ _ hlink _).trans (suspends_resumeFit _ _ _))

/-! ### Changes of one channel -/

/-- Between two devices only one channel's record, registers of a list and free values have changed. -/
structure ChOnly (L : List RegName) (n : Nat) (d e : Dev) : Prop where
  others : ∀ k, k ≠ n → e.ch k = d.ch k
  rest   : e = { d with regs := e.regs, chans := e.chans, freeCtr := e.freeCtr }
  regs   : ∀ r i j, r ∉ L → e.rd r i j = d.rd r i j

namespace ChOnly

variable {L M : List RegName} {n : Nat} {d e f : Dev}

theorem refl (L : List RegName) (n : Nat) (d : Dev) : ChOnly L n d d := ⟨fun _ _ => rfl, rfl, fun _ _ _ _ => rfl⟩

theorem trans (a : ChOnly L n d e) (b : ChOnly L n e f) : ChOnly L n d f where
  others k h := (b.others k h).trans (a.others k h)
  rest := by rw [b.rest, a.rest]
  regs r i j h := (b.regs r i j h).trans (a.regs r i j h)

theorem mono (h : ∀ r, r ∈ L → r ∈ M) (a : ChOnly L n d e) : ChOnly M n d e :=
  { a with regs := fun r i j m => a.regs r i j fun k => m (h r k) }

theorem cond (b : Bool) {g : Dev → Dev} (h : ChOnly L n d (g d)) : ChOnly L n d (d.cond b g) := by
  unfold Dev.cond; split
  · exact h
  · exact refl L n d

theorem modCh (L : List RegName) (d : Dev) (n : Nat) (g : Ch → Ch) : ChOnly L n d (d.modCh n g) where
  others _ h := d.ch_modCh_other g (Ne.symm h)
  rest := rfl
  regs _ _ _ _ := rfl

theorem modCap (L : List RegName) (d : Dev) (n : Nat) (g : Cap → Cap) : ChOnly L n d (d.modCap n g) := modCh L d n _

theorem setFld (d : Dev) (n : Nat) (x : Fld) (i j v : Nat) (h : x.reg ∈ L) : ChOnly L n d (d.setFld x i j v) where
  others _ _ := rfl
  rest := rfl
  regs _ k l m := d.rd_wr_name i j k l _ fun e => m (e ▸ h)

theorem addFld (d : Dev) (n : Nat) (x : Fld) (i j v : Nat) (h : x.reg ∈ L) : ChOnly L n d (d.addFld x i j v) := setFld d n x i j _ h

theorem freeCtr (L : List RegName) (n : Nat) (d : Dev) (k : Nat) : ChOnly L n d { d with freeCtr := k } :=
  ⟨fun _ _ => rfl, rfl, fun _ _ _ _ => rfl⟩

/-- The channel's own outbound queue. -/
theorem modOutq (L : List RegName) (d : Dev) (hn : n < 192) (g : OutQ → OutQ) : ChOnly L n d (d.modOutq n g) := by
  unfold Dev.modOutq; rw [if_pos hn]; exact modCh L d n _

/-- An entry of the channel's own is posted. -/
theorem post (d : Dev) (x : Entry) (hn : n < 192) (h : x.source = n) : ChOnly postRegs n d (d.post x) := by
  subst h
  unfold Dev.post; extract_lets y q
  split
  · exact (modOutq _ d hn _).trans (addFld _ _ _ _ _ _ (by decide))
  · split
    · unfold Dev.enter; split
      · exact addFld _ _ _ _ _ _ (by decide)
      · exact modOutq _ d hn _
    · exact modOutq _ d hn _

/-! What it leaves. -/

theorem kept (a : ChOnly L n d e) : Kept L d e where
  time := by rw [a.rest]
  syn := by rw [a.rest]
  pwr := by rw [a.rest]
  sess := by rw [a.rest]
  images := by rw [a.rest]
  ledger := by rw [a.rest]
  sec := by rw [a.rest]
  cal := by rw [a.rest]
  ksk := by rw [a.rest]
  flash := by rw [a.rest]
  timers := by rw [a.rest]
  prom := by rw [a.rest]
  host := by rw [a.rest]
  flt := by rw [a.rest]
  regs := a.regs

theorem host (a : ChOnly L n d e) : e.host = d.host := by rw [a.rest]
theorem out (a : ChOnly L n d e) : e.out = d.out := by rw [a.rest]
theorem mayReq (a : ChOnly L n d e) : e.mayReq = d.mayReq := by rw [Dev.mayReq, a.host, Dev.mayReq]
theorem maxWrite (a : ChOnly L n d e) : e.maxWrite = d.maxWrite := by rw [Dev.maxWrite, a.host, Dev.maxWrite]

theorem fld (a : ChOnly L n d e) (x : Fld) (i j : Nat) (h : x.reg ∉ L) : e.fld x i j = d.fld x i j := a.kept.fld x i j h

/-- The step between two samples stands. -/
theorem pointStep (a : ChOnly L n d e) (hrs : .CH_RX_RS ∉ L) (hctl : .CH_RX_CTL ∉ L) (m p : Nat) : e.pointStep m p = d.pointStep m p := by
  rw [Dev.pointStep, a.fld _ _ _ hrs, a.fld _ _ _ hctl, Dev.pointStep]

/-- The network time of a carried index stands. -/
theorem timeOf (a : ChOnly L n d e) (hrate : .TIME_RATE ∉ L) (q : Nat) : e.timeOf q = d.timeOf q := by
  have hstep : e.carStep = d.carStep := by rw [a.rest]; rfl
  have hper : e.ratePer = d.ratePer := by rw [Dev.ratePer, a.regs _ _ _ hrate, Dev.ratePer]
  have htime : e.time = d.time := by rw [a.rest]
  rw [Dev.timeOf, Dev.timeFull, hstep, hper, htime, Dev.timeOf, Dev.timeFull]

end ChOnly

/-! ### The backlog of the arbiters (R384, R435) -/

/-- The registers of a ring that say whether it has room. -/
def roomRegs : List RegName := [.HIF_RING_CFG, .HIF_RING_HEAD, .HIF_RING_TAIL]

section Backlog

variable {L : List RegName} {n : Nat} {d e : Dev}

theorem ChOnly.ringRoom (a : ChOnly L n d e) (hL : ∀ r ∈ roomRegs, r ∉ L) (r : Nat) : e.ringRoom r = d.ringRoom r := by
  rw [Dev.ringRoom, Dev.ringSize, a.mayReq, a.regs _ _ _ (hL .HIF_RING_HEAD (by decide)), a.regs _ _ _ (hL .HIF_RING_TAIL (by decide)),
    a.fld F.HIF_RING_CFG_LOG2_SIZE _ _ (hL .HIF_RING_CFG (by decide)), Dev.ringRoom, Dev.ringSize]

theorem ChOnly.ringOn (a : ChOnly L n d e) (hL : ∀ r ∈ roomRegs, r ∉ L) (r : Nat) : e.on F.HIF_RING_CFG_EN r = d.on F.HIF_RING_CFG_EN r :=
  a.kept.on _ _ _ (hL .HIF_RING_CFG (by decide))

/-- An entry at the head of a queue that stands may go as before. -/
theorem ChOnly.entryMay {k : Nat} (a : ChOnly L n d e) (hL : ∀ r ∈ roomRegs, r ∉ L) (hq : e.outq k = d.outq k) :
    e.entryMay k = d.entryMay k := by
  unfold Dev.entryMay
  rw [hq]
  split
  · rfl
  · rw [a.ringOn hL, a.ringRoom hL]

/-- The next write of every other leaf stands. -/
theorem ChOnly.nextSize {k : Nat} (a : ChOnly L n d e) (hL : ∀ r ∈ roomRegs, r ∉ L) (h : k ≠ n) : e.nextSize k = d.nextSize k := by
  have hch := a.others k h
  have hdata : e.dataAt k = d.dataAt k := by rw [Dev.dataAt, hch, a.host, Dev.dataAt]
  have hentry : e.entryMay k = d.entryMay k := a.entryMay hL (by rw [Dev.outq, hch, a.host, Dev.outq])
  have hsample : e.sampleSize k = d.sampleSize k := by rw [Dev.sampleSize, hch, a.maxWrite, Dev.sampleSize]
  rw [Dev.nextSize, a.mayReq, a.maxWrite, hdata, hentry, hsample, Dev.nextSize]

/-- Where a channel alone is backlogged, every other leaf has nothing to write. -/
theorem Dev.nextSize_of_only (hn : n < 192) (honly : ∀ y ∈ d.backlog, y.1 = n) {k : Nat} (h : k ≠ n) : d.nextSize k = 0 := by
  by_contra hk
  rcases Nat.lt_or_ge k 192 with hlt | hge
  · have hkey : k ∈ d.chans.map (·.1) := by
      by_contra hkey
      refine hk ?_
      simp only [Dev.nextSize, Dev.dataAt, Dev.entryMay, Dev.outq, Dev.sampleSize, if_pos hlt, Dev.ch_of_not_key hkey]
      simp
    exact h (honly _ (Dev.mem_backlog (.inr hkey) hk))
  · have hdev : d.nextSize 192 = d.nextSize k := by
      simp only [Dev.nextSize, Dev.dataAt, Dev.entryMay, Dev.outq, if_neg (Nat.not_lt.2 hge), if_neg (Nat.lt_irrefl 192)]
    have := honly _ (Dev.mem_backlog (.inl rfl) (hdev ▸ hk))
    dsimp only at this
    omega

/-- A channel that alone is backlogged stays so while it alone changes. -/
theorem ChOnly.only (a : ChOnly L n d e) (hL : ∀ r ∈ roomRegs, r ∉ L) (hn : n < 192) (honly : ∀ y ∈ d.backlog, y.1 = n) :
    ∀ y ∈ e.backlog, y.1 = n := fun y hy => by
  obtain ⟨hmem, hsize⟩ := List.mem_filter.1 hy
  obtain ⟨k, -, rfl⟩ := List.mem_map.1 hmem
  by_contra hne
  rw [a.nextSize hL hne, Dev.nextSize_of_only hn honly hne] at hsize
  cases hsize

/-- A change of a channel leaves output data that waits. -/
theorem Dev.dataAt_modCh (d : Dev) (m l : Nat) (g : Ch → Ch) (h : ∀ c, (g c).dataWait = c.dataWait := by intro; rfl) :
    (d.modCh m g).dataAt l = d.dataAt l := by
  unfold Dev.dataAt
  split
  · by_cases e : m = l
    · subst e; rw [Dev.ch_modCh_same, h]
    · rw [Dev.ch_modCh_other _ _ e]
  · rfl

/-- A channel with a stream has a record. -/
theorem Dev.key_of_cap {c : Cap} (h : (d.ch n).cap = some c) : n ∈ d.chans.map (·.1) := by
  by_contra hn
  rw [Dev.ch_of_not_key hn] at h
  cases h

end Backlog

end Sys2Proof.Machine
end

section
/-! PROOFS. Capture streams: the samples that a point produces enter the elastic buffer, and what it holds is written. -/

namespace Sys2Proof.Machine

open Sys2Proof.Safety

/-! ### The elastic buffer (R138, R440, R446) -/

/-- A stream that collects every sample: it runs, without an open gap and without a last sample. -/
structure Cap.Collects (c : Cap) : Prop where
  running : c.running = true
  ended   : c.ended = false
  gap     : c.gapFrom = none
  samples : c.samples = 0

/-- A stream with `k` more samples in its elastic buffer. -/
def Cap.taken (c : Cap) (k step now : Nat) (data : List Byte) : Cap :=
  { c with buf := c.buf ++ [(c.idx, data)], idx := c.idx + k, at_ := c.at_ + k * step, tLast := now }

theorem Cap.Collects.count {c : Cap} (h : c.Collects) (k : Nat) : c.count k = k := by
  simp only [Cap.count, h.running, h.ended, h.samples, Bool.not_true, Bool.or_self, Bool.false_eq_true, if_false, if_true]

/-- Samples for which the buffer has room are all kept. -/
theorem Cap.Collects.produce {c : Cap} (h : c.Collects) {data : List Byte} {k : Nat} (step now : Nat) (hdata : data.length = 4 * k)
    (hk : k ≠ 0) (hroom : c.fill + 4 * k ≤ 16384) : c.produce step now data = c.taken k step now data := by
  have hcount : c.count (data.length / 4) = k := by rw [h.count, hdata]; omega
  have hkeep : min k ((16384 - c.fill) / 4) = k := min_eq_left (by omega)
  have htake : data.take (4 * k) = data := List.take_of_length_le hdata.le
  unfold Cap.produce
  obtain ⟨hrun, hend, hgap, hsamples⟩ := h
  simp only [hcount, if_neg hk, hgap, Option.isSome_none, Option.isNone_none, Bool.false_eq_true, if_false, hkeep, htake, lt_irrefl,
    decide_false, Bool.and_false, Bool.or_false, hsamples, bne_self_eq_false, Bool.false_and]
  rw [Cap.taken, ← hend, ← hgap, ← hsamples]

theorem length_toLe (k v : Nat) : (toLe k v).length = k := by
  induction k generalizing v with
  | zero => rfl
  | succ k ih => rw [toLe, List.length_cons, ih]

theorem Dev.length_capWord (d : Dev) (n : Nat) (up : Bool) (x : Cx) : (d.capWord n up x).1.length = 4 := by
  simp only [Dev.capWord, List.length_append, length_toLe]

/-- The capture words of some samples, of 18 bits each in I and Q. -/
def Dev.capWords (d : Dev) (n : Nat) (up : Bool) (x : List (Int × Int)) : List Byte :=
  x.flatMap fun p => (d.capWord n up ⟨satTo 18 p.1, satTo 18 p.2⟩).1

theorem Dev.length_capWords (d : Dev) (n : Nat) (up : Bool) (x : List (Int × Int)) : (d.capWords n up x).length = 4 * x.length := by
  induction x with
  | nil => rfl
  | cons p x ih =>
    rw [Dev.capWords, List.flatMap_cons, List.length_append, Dev.length_capWord, List.length_cons]
    change 4 + (d.capWords n up x).length = _
    rw [ih]; omega

section Take

variable {d : Dev} {n : Nat} {c : Cap} {x : List (Int × Int)}

/-- The device after a point's samples have been rounded and counted, before they enter the buffer. -/
def Dev.capSeen (d : Dev) (n : Nat) (sat rs : Bool) (k : Nat) : Dev :=
  (d.cond sat fun d => d.setOn F.CH_RX_SAT_CAP n 0 true).cond rs fun d =>
    d.modCh n fun c => { c with rsPos := c.rsPos + k * rsStep (d.fld F.CH_RX_RS_M n) }

theorem chOnly_capSeen (d : Dev) (n : Nat) (sat rs : Bool) (k : Nat) : ChOnly [.CH_RX_SAT] n d (d.capSeen n sat rs k) :=
  (ChOnly.cond sat (.setFld d n F.CH_RX_SAT_CAP n 0 (b2n true) (List.mem_singleton.2 rfl))).trans (ChOnly.cond rs (.modCh _ _ n _))

theorem Dev.cap_capSeen (d : Dev) (n : Nat) (sat rs : Bool) (k : Nat) : ((d.capSeen n sat rs k).ch n).cap = (d.ch n).cap := by
  have hsat : ((d.cond sat fun d => d.setOn F.CH_RX_SAT_CAP n 0 true).ch n).cap = (d.ch n).cap := by cases sat <;> rfl
  rw [← hsat, Dev.capSeen]
  cases rs with
  | false => rfl
  | true => rw [Dev.cond, if_pos rfl, Dev.ch_modCh_same]

/-- The channel's data and entries that wait stand. -/
theorem Dev.waits_capSeen (d : Dev) (n : Nat) (sat rs : Bool) (k l : Nat) :
    (d.capSeen n sat rs k).dataAt l = d.dataAt l ∧ (d.capSeen n sat rs k).outq l = d.outq l := by
  have hsat : (d.cond sat fun d => d.setOn F.CH_RX_SAT_CAP n 0 true).dataAt l = d.dataAt l ∧
      (d.cond sat fun d => d.setOn F.CH_RX_SAT_CAP n 0 true).outq l = d.outq l := by cases sat <;> exact ⟨rfl, rfl⟩
  obtain ⟨hdata, hq⟩ := hsat
  rw [← hdata, ← hq, Dev.capSeen]
  cases rs with
  | false => exact ⟨rfl, rfl⟩
  | true => rw [Dev.cond, if_pos rfl]; exact ⟨Dev.dataAt_modCh _ n l _, Dev.outq_modCh _ l n _⟩

/-- The device after they have entered it, the last at a carried index. -/
def Dev.capKept (d : Dev) (n : Nat) (sat rs : Bool) (k q : Nat) (data : List Byte) : Dev :=
  let e := d.capSeen n sat rs k
  e.modCap n fun c => c.produce (e.pointStep n c.point) (e.timeOf q) data

theorem chOnly_capKept (d : Dev) (n : Nat) (sat rs : Bool) (k q : Nat) (data : List Byte) : ChOnly [.CH_RX_SAT] n d (d.capKept n sat rs k q data) :=
  (chOnly_capSeen d n sat rs k).trans (.modCap _ _ n _)

theorem Dev.cap_capKept {k : Nat} {data : List Byte} (sat rs : Bool) (q : Nat) (hcap : (d.ch n).cap = some c) (hc : c.Collects)
    (hdata : data.length = 4 * k) (hk : k ≠ 0) (hroom : c.fill + 4 * k ≤ 16384) :
    ((d.capKept n sat rs k q data).ch n).cap = some (c.taken k (d.pointStep n c.point) (d.timeOf q) data) := by
  have hseen := chOnly_capSeen d n sat rs k
  rw [Dev.capKept, Dev.modCap, Dev.ch_modCh_same]
  dsimp only
  rw [d.cap_capSeen n sat rs k, hcap, Option.map_some, hseen.pointStep (by decide) (by decide), hseen.timeOf (by decide),
    hc.produce _ _ hdata hk hroom]

theorem Dev.waits_capKept (d : Dev) (n : Nat) (sat rs : Bool) (k q : Nat) (data : List Byte) (l : Nat) :
    (d.capKept n sat rs k q data).dataAt l = d.dataAt l ∧ (d.capKept n sat rs k q data).outq l = d.outq l := by
  obtain ⟨hdata, hq⟩ := d.waits_capSeen n sat rs k l
  exact ⟨(Dev.dataAt_modCh _ n l _).trans hdata, (Dev.outq_modCh _ l n _).trans hq⟩

/-- A point's samples are rounded, and those that a stream collects enter its buffer. -/
def Dev.capKeep (d : Dev) (n : Nat) (up : Bool) (x : List (Int × Int)) (q : Nat) : Dev :=
  let w := x.map fun (c : Int × Int) => d.capWord n up ⟨satTo 18 c.1, satTo 18 c.2⟩
  d.capKept n ((d.ch n).cap.any (·.running) && w.any (·.2)) ((d.ch n).cap.any fun c => c.point == 2 && c.running) x.length q (w.flatMap (·.1))

/-- The samples' rounding is drawn, and the clock runs on to the last of them. -/
theorem Dev.capTake_eq (d : Dev) (n : Nat) (x : List (Int × Int)) : d.capTake n x =
    (({ d with freeCtr := d.freeCtr + 1 }.cond ((d.ch n).cap.any fun (c : Cap) => c.count x.length != 0) fun (e : Dev) =>
      e.runTo ((d.capLast n x.length + 3) / 4))).capKeep n (Config.freeNat d.freeCtr % 2 == 1) x (d.capLast n x.length) := rfl

/-- What samples show that have entered the buffer of a channel's stream. -/
structure SamplesTaken (n : Nat) (c : Cap) (x : List (Int × Int)) (d e : Dev) : Prop where
  only : ChOnly [.CH_RX_SAT] n d e
  data : ∀ l, e.dataAt l = d.dataAt l
  outq : ∀ l, e.outq l = d.outq l
  cap  : ∃ up, (e.ch n).cap = some (c.taken x.length (d.pointStep n c.point) (d.timeOf (d.capLast n x.length)) (d.capWords n up x))

/-- Samples whose carried indices have passed, and for which a stream's buffer has room, enter it. -/
theorem samplesTaken_capTake (hcap : (d.ch n).cap = some c) (hc : c.Collects) (hx : x ≠ []) (hroom : c.fill + 4 * x.length ≤ 16384)
    (htime : (d.capLast n x.length + 3) / 4 ≤ d.tc) : SamplesTaken n c x d (d.capTake n x) := by
  let e : Dev := { d with freeCtr := d.freeCtr + 1 }
  have hrun : e.cond ((d.ch n).cap.any fun c => c.count x.length != 0) (fun e => e.runTo ((d.capLast n x.length + 3) / 4)) = e := by
    unfold Dev.cond; split
    · exact e.runTo_past _ htime
    · rfl
  have htake : d.capTake n x = e.capKeep n (Config.freeNat d.freeCtr % 2 == 1) x (d.capLast n x.length) :=
    (d.capTake_eq n x).trans (congrArg (fun f : Dev => f.capKeep n _ x _) hrun)
  rw [htake, Dev.capKeep, List.flatMap_map]
  exact ⟨(ChOnly.freeCtr _ n d _).trans (chOnly_capKept e n _ _ _ _ _), fun l => (e.waits_capKept n _ _ _ _ _ l).1,
    fun l => (e.waits_capKept n _ _ _ _ _ l).2, Config.freeNat d.freeCtr % 2 == 1,
    Dev.cap_capKept (d := e) _ _ _ hcap hc (d.length_capWords n _ x) (by simpa using hx) hroom⟩

end Take

/-! ### The write of what the buffer holds (R436, R438, R443) -/

section Write

variable {d : Dev} {n : Nat} {c : Cap} {b : List Byte}

theorem told_capProgress (d : Dev) (n a l : Nat) : Told postRegs d (d.capProgress n a l) := by
  unfold Dev.capProgress; split
  · exact .refl _ d
  · dsimp only; split
    · exact told_post d _
    · exact .refl _ d

theorem chOnly_capProgress (d : Dev) {n : Nat} (hn : n < 192) (a l : Nat) : ChOnly postRegs n d (d.capProgress n a l) := by
  unfold Dev.capProgress; split
  · exact .refl _ n d
  · dsimp only; split
    · exact .post d _ hn rfl
    · exact .refl _ n d

theorem Dev.cap_capProgress (d : Dev) (n a l k : Nat) : ((d.capProgress n a l).ch k).cap = (d.ch k).cap := by
  rw [(told_capProgress d n a l).ch k]

/-- One write carries all that a stream's buffer holds: it is one run of samples, no longer than a write may be, and it does not wrap in
the host's buffer (R436, R439). -/
structure Cap.OneWrite (c : Cap) (d : Dev) (i : Nat) (b : List Byte) : Prop where
  buf  : c.buf = [(i, b)]
  fits : b.length ≤ d.maxWrite
  ends : 4 * i % c.desc.d.bufLen + b.length ≤ c.desc.d.bufLen

theorem Cap.OneWrite.size {i : Nat} (h : c.OneWrite d i b) (hcap : (d.ch n).cap = some c) : d.sampleSize n = b.length := by
  have hfits := h.fits
  have hends := h.ends
  unfold Dev.sampleSize
  simp only [hcap, h.buf]
  omega

/-- The device after a write of all samples that a channel holds. -/
def Dev.samplesGone (d : Dev) (n a : Nat) (b : List Byte) : Dev :=
  (d.emit (.memWrite a b)).modCap n fun c => { c with buf := [], written := c.written + b.length }

theorem Dev.sendSamples_all {i : Nat} (h : c.OneWrite d i b) (hcap : (d.ch n).cap = some c) : d.sendSamples n =
    (d.samplesGone n (c.desc.d.bufAddr + 4 * i % c.desc.d.bufLen) b).capProgress n c.written (i + b.length / 4 - 1) := by
  unfold Dev.sendSamples
  simp only [hcap, h.buf, h.size hcap, le_refl, if_true, List.take_length]
  rfl

/-- The samples that a stream's buffer holds, run by run. -/
theorem Dev.samplesHeld_of {c : Cap} (h : (d.ch n).cap = some c) : d.samplesHeld n = c.buf.foldl (fun k r => k + r.2.length / 4) 0 := by
  unfold Dev.samplesHeld; rw [h]; rfl

/-- What a write of all of a channel's samples shows. -/
structure SamplesSent (n : Nat) (c : Cap) (i : Nat) (b : List Byte) (d e : Dev) : Prop where
  cap    : (e.ch n).cap = some { c with buf := [], written := c.written + b.length }
  out    : e.out = d.out ++ [.memWrite (c.desc.d.bufAddr + 4 * i % c.desc.d.bufLen) b]
  others : ∀ k, k ≠ n → e.ch k = d.ch k
  kept   : Kept postRegs d e

theorem samplesSent_leafWrite {i : Nat} (hn : n < 192) (m : Tbl Drr) (h : c.OneWrite d i b) (hcap : (d.ch n).cap = some c)
    (hdata : d.dataAt n = []) (hmay : d.entryMay n = false) : SamplesSent n c i b d ((d.withArbs m).leafWrite n) := by
  let a := c.desc.d.bufAddr + 4 * i % c.desc.d.bufLen
  let g := (d.withArbs m).samplesGone n a b
  have hsend : (d.withArbs m).sendSamples n = g.capProgress n c.written (i + b.length / 4 - 1) :=
    Dev.sendSamples_all (d := d.withArbs m) ⟨h.buf, h.fits, h.ends⟩ hcap
  obtain ⟨k, hk⟩ := Dev.dropDeficits_eq (g.capProgress n c.written (i + b.length / 4 - 1))
  have hwrite : (d.withArbs m).leafWrite n = (g.capProgress n c.written (i + b.length / 4 - 1)).withArbs k := by
    rw [Dev.leafWrite, Dev.withArbs_dataAt, Dev.withArbs_entryMay, hdata, hmay, ← hk, ← hsend]; rfl
  have hprog := chOnly_capProgress g hn c.written (i + b.length / 4 - 1)
  have hgone : (g.ch n).cap = some { c with buf := [], written := c.written + b.length } := by
    change (((d.withArbs m).emit (.memWrite a b)).modCh n _ |>.ch n).cap = _
    rw [Dev.ch_modCh_same]
    change (d.ch n).cap.map _ = _
    rw [hcap]; rfl
  rw [hwrite]
  exact ⟨(Dev.cap_capProgress g n _ _ n).trans hgone, hprog.out,
    fun j hj => (hprog.others j hj).trans (Dev.ch_modCh_other _ _ (Ne.symm hj)),
    (told_arbs d _ m).kept.trans ((kept_emit _ _ _).trans ((kept_modCap _ _ n _).trans (hprog.kept.trans (told_arbs _ _ k).kept)))⟩

/-- Where no other leaf has anything to write, a channel's samples that one write carries are written. -/
theorem samplesSent_writeSamples {i k : Nat} (hn : n < 192) (h : c.OneWrite d i b) (hcap : (d.ch n).cap = some c)
    (hb : 4 ≤ b.length) (hk : b.length / 4 ≤ k) (hreq : d.mayReq = true) (hdata : d.dataAt n = []) (hmay : d.entryMay n = false)
    (honly : ∀ y ∈ d.backlog, y.1 = n) : SamplesSent n c i b d (d.writeSamples n k) := by
  have hheld : d.samplesHeld n = b.length / 4 := by
    rw [Dev.samplesHeld_of hcap, h.buf]; exact Nat.zero_add _
  have hrest : d.samplesHeld n - k = 0 := Nat.sub_eq_zero_of_le (hheld ▸ hk)
  have hsize : d.nextSize n ≠ 0 := by
    rw [Dev.nextSize, if_pos hreq, hdata, hmay, h.size hcap]
    simp only [Bool.false_eq_true, if_false, if_pos hn]; omega
  obtain ⟨m, hm⟩ := Dev.serve_first (fun _ _ e => decide (e.samplesHeld n ≤ d.samplesHeld n - k)) hn.le
    (Dev.mem_backlog (.inr (Dev.key_of_cap hcap)) hsize) rfl honly fun m => by
      rw [Dev.samplesHeld_of (samplesSent_leafWrite hn m h hcap hdata hmay).cap]; exact decide_eq_true (Nat.zero_le _)
  have hwrite : d.writeSamples n k = (d.withArbs m).leafWrite n := by
    rw [← hm, Dev.writeSamples, decide_eq_true (by omega : d.samplesHeld n - k < d.samplesHeld n)]; rfl
  rw [hwrite]
  exact samplesSent_leafWrite hn m h hcap hdata hmay

/-- No sample is to go. -/
theorem Dev.writeSamples_zero (d : Dev) (n : Nat) : d.writeSamples n 0 = d := by
  rw [Dev.writeSamples, decide_eq_false (by omega)]; rfl

end Write

end Sys2Proof.Machine
end

section
/-! PROOFS. Capture streams: a gap is closed by its entry, which goes to its ring at once. -/

namespace Sys2Proof.Machine

open Sys2Proof.Safety

/-! ### An entry that alone stands in its queue (R388, R427) -/

section One

variable {d : Dev} {n : Nat} {e : Entry}

/-- A ring that is disabled discards an entry, and one with room takes it: it leaves its queue at once. -/
def Entry.Leaves (e : Entry) (d : Dev) : Prop := d.on F.HIF_RING_CFG_EN e.evRing = false ∨ d.ringRoom e.evRing = true

/-- The registers that an entry that leaves its queue changes. -/
def leaveRegs : List RegName := postedRegs ++ [.HIF_RING_DROPS]

/-- What an entry that leaves a channel's queue shows: beside the rings' records, their registers and the queue all stands. -/
structure EntryLeft (n : Nat) (d e : Dev) : Prop where
  others : ∀ k, k ≠ n → e.ch k = d.ch k
  told   : ToldRings leaveRegs d e

theorem EntryLeft.trans {f : Dev} (a : EntryLeft n d f) {g : Dev} (b : EntryLeft n f g) : EntryLeft n d g :=
  ⟨fun k h => (b.others k h).trans (a.others k h), a.told.trans b.told⟩

theorem entryLeft_modOutq (d : Dev) (n : Nat) (g : OutQ → OutQ) : EntryLeft n d (d.modOutq n g) :=
  ⟨fun _ h => d.ch_modOutq_other g h, .ofTold (told_modOutq d _ n g)⟩

theorem entryLeft_withArbs (d : Dev) (n : Nat) (m : Tbl Drr) : EntryLeft n d (d.withArbs m) :=
  ⟨fun _ _ => rfl, .ofTold (told_arbs d _ m)⟩

theorem Signals.ch {f : Dev} (a : Signals d f) (k : Nat) : f.ch k = d.ch k := by rw [a.rest]; rfl

theorem entryLeft_writeEntry (d : Dev) (n r : Nat) (e : Entry) : EntryLeft n d (d.writeEntry r e) where
  others k _ := by
    have hphase (f : Dev) (wrap : Bool) : (f.phaseMoved r wrap).ch k = f.ch k := by unfold Dev.phaseMoved; split <;> rfl
    rw [(signals_writeEntry d r e).ch, Dev.entryWritten, Dev.modRing_ch, hphase]; rfl
  told := (told_writeEntry d r e).mono (by decide)

theorem entryLeft_dropped (d : Dev) (n r : Nat) : EntryLeft n d (d.addFld F.HIF_RING_DROPS_COUNT r 0 1) :=
  ⟨fun _ _ => rfl, .ofTold (told_addFld d leaveRegs F.HIF_RING_DROPS_COUNT r 0 1 (by decide))⟩

/-- The only entry of a queue leaves it. -/
theorem entryLeft_postHead (hheld : (d.outq n).held = [e]) (hwait : (d.outq n).waiting = []) (h : e.Leaves d) :
    EntryLeft n d (d.postHead n) := by
  have hq : (d.headTaken n []).outq n = { d.outq n with held := [] } := Dev.outq_headTaken
  have htaken : EntryLeft n d (d.headTaken n []) := entryLeft_modOutq d n _
  cases hon : d.on F.HIF_RING_CFG_EN e.evRing with
  | false =>
    rw [Dev.postHead_drops hheld hon, Dev.refill_of_none (by exact (congrArg OutQ.waiting hq).trans hwait)]
    exact htaken.trans ((entryLeft_dropped _ n _).trans (entryLeft_modOutq _ n _))
  | true =>
    have hroom : d.ringRoom e.evRing = true := h.resolve_left (by rw [hon]; decide)
    rw [Dev.postHead_writes hheld hon hroom, Dev.refill_of_none (by rw [Dev.outq_writeEntry, hq]; exact hwait)]
    exact htaken.trans ((entryLeft_writeEntry _ n _ _).trans (entryLeft_modOutq _ n _))

/-- Where no other leaf has anything to write, the only entry of a channel's queue goes at once. -/
theorem entryLeft_postNow (hn : n < 192) (hheld : (d.outq n).held = [e]) (hwait : (d.outq n).waiting = []) (h : e.Leaves d)
    (hdata : d.dataAt n = []) (honly : ∀ y ∈ d.backlog, y.1 = n) : EntryLeft n d (d.postNow n) := by
  have hleaf : min n 192 = n := min_eq_left hn.le
  cases hon : d.on F.HIF_RING_CFG_EN e.evRing with
  | false =>
    rw [Dev.postNow_drops hheld (by rwa [hleaf]) hon, hleaf]
    exact entryLeft_postHead hheld hwait h
  | true =>
    have hroom : d.ringRoom e.evRing = true := h.resolve_left (by rw [hon]; decide)
    obtain ⟨m, hm⟩ := Dev.postNow_writes hheld (by rwa [hleaf]) hon hroom (by rwa [hleaf])
    obtain ⟨k, hk⟩ := Dev.dropDeficits_eq ((d.withArbs m).postHead (min n 192))
    rw [hm, hk, hleaf]
    exact (entryLeft_withArbs d n m).trans ((entryLeft_postHead (d := d.withArbs m) hheld hwait h).trans (entryLeft_withArbs _ n k))

end One

/-! ### The entry of a gap (R445) -/

section Gap

variable {d : Dev} {n : Nat}

/-- The CAPTURE_GAP of a run of samples. -/
def Dev.gapEvent (d : Dev) (n first k : Nat) : Dev := d.event .captureGap n (toLe 8 first ++ toLe 4 k)

theorem Dev.gapPost_one (d : Dev) (n first : Nat) {k : Nat} (h : k ≤ 0xFFFFFFFF) : d.gapPost n first k =
    ((d.gapEvent n first k).addFld F.CH_CAP_GAPS_COUNT n 0 1).modCap n fun c => { c with gapFrom := none } := by
  rw [Dev.gapPost, gapRuns, if_pos h]; rfl

/-- The entry of a gap may be posted: its channel's queue is empty, and its ring takes or discards what enters. -/
theorem Dev.gapMay_iff (d : Dev) (n : Nat) : d.gapMay n = true ↔ (d.ch n).outq.held = [] ∧ (d.ch n).outq.waiting = [] ∧
    ∀ r, d.route { kind := .captureGap, source := n } = some r →
      d.on F.HIF_RING_CFG_EN (evRing r) = false ∨ d.ringRoom (evRing r) = true := by
  unfold Dev.gapMay
  rw [Bool.and_eq_true, Bool.and_eq_true, List.isEmpty_iff, List.isEmpty_iff, and_assoc]
  cases d.route { kind := .captureGap, source := n } with
  | none => simp
  | some r => simp

/-- An entry enters a queue that is empty, or is discarded. -/
theorem Dev.outq_gapEvent (hn : n < 192) (first k : Nat) (hheld : (d.ch n).outq.held = []) (hwait : (d.ch n).outq.waiting = []) :
    ((d.gapEvent n first k).outq n).waiting = [] ∧
    (((d.gapEvent n first k).outq n).held = [] ∨ ∃ e r, ((d.gapEvent n first k).outq n).held = [e] ∧ e.evRing = evRing r ∧
      d.route { kind := .captureGap, source := n } = some r) := by
  have hq : d.outq n = (d.ch n).outq := if_pos hn
  have hroom (x : Entry) (hs : x.source = n) (hk : x.kind = .captureGap) (hx : x.stead = none) : (d.outq n).room x = true := by
    rw [hq, OutQ.room, hs, if_pos hn, OutQ.roomCh, Entry.cls, hx, hk]
    simp [OutQ.count, hheld]
  unfold Dev.gapEvent Dev.event Dev.post
  extract_lets y q
  have hroute : d.route y = d.route { kind := .captureGap, source := n } := rfl
  rw [if_neg (by simp [y, EvKind.reports]), if_pos (by rw [show q = d.outq n from rfl, hroom y rfl rfl rfl, hq, hwait]; rfl), Dev.enter, hroute]
  cases hr : d.route { kind := .captureGap, source := n } with
  | none =>
    have hout : (d.addFld F.HIF_UNSOL_DROP_COUNT 0 0 1).outq n = (d.ch n).outq := hq
    dsimp only
    rw [hout]
    exact ⟨hwait, .inl hheld⟩
  | some r =>
    dsimp only
    rw [show y.source = n from rfl, Dev.outq_modOutq_same, hq]
    exact ⟨hwait, .inr ⟨_, r, by rw [hheld]; rfl, rfl, rfl⟩⟩

theorem Dev.dataAt_modOutq (d : Dev) (m l : Nat) (g : OutQ → OutQ) : (d.modOutq m g).dataAt l = d.dataAt l := by
  unfold Dev.modOutq
  split
  · exact d.dataAt_modCh m l _
  · rfl

/-- Posting an entry leaves output data that waits. -/
theorem Dev.dataAt_post (d : Dev) (x : Entry) (l : Nat) : (d.post x).dataAt l = d.dataAt l := by
  unfold Dev.post; extract_lets y q
  split
  · exact d.dataAt_modOutq _ l _
  · split
    · unfold Dev.enter; split
      · rfl
      · exact d.dataAt_modOutq _ l _
    · exact d.dataAt_modOutq _ l _

/-- The registers that closing a gap changes before its entry leaves. -/
def gapRegs : List RegName := postRegs ++ [.CH_CAP_GAPS]

theorem chOnly_gapPost (d : Dev) (hn : n < 192) (first : Nat) {k : Nat} (h : k ≤ 0xFFFFFFFF) : ChOnly gapRegs n d (d.gapPost n first k) := by
  have hevent : ChOnly postRegs n d (d.gapEvent n first k) := by
    unfold Dev.gapEvent Dev.event; exact .post d _ hn rfl
  rw [d.gapPost_one n first h]
  exact (hevent.mono (by decide)).trans ((ChOnly.addFld _ n F.CH_CAP_GAPS_COUNT n 0 1 (by decide)).trans (.modCap _ _ n _))

theorem Dev.cap_gapPost {c : Cap} (hcap : (d.ch n).cap = some c) (first : Nat) {k : Nat} (h : k ≤ 0xFFFFFFFF) :
    ((d.gapPost n first k).ch n).cap = some { c with gapFrom := none } := by
  have hevent : ((d.gapEvent n first k).ch n).cap = (d.ch n).cap := by
    rw [Dev.gapEvent, (told_event d _ _ _ _ _).ch n]
  rw [d.gapPost_one n first h, Dev.modCap, Dev.ch_modCh_same]
  dsimp only
  rw [Dev.addFld_ch, hevent, hcap]; rfl

theorem Dev.count_gapPost (d : Dev) (n first : Nat) {k : Nat} (h : k ≤ 0xFFFFFFFF) : (d.gapPost n first k).fld F.CH_CAP_GAPS_COUNT n =
    sat (2 ^ F.CH_CAP_GAPS_COUNT.w - 1) (d.fld F.CH_CAP_GAPS_COUNT n + 1) := by
  rw [d.gapPost_one n first h, Dev.modCap, Dev.modCh_fld, Dev.fld_addFld_same _ _ _ _ _ (by decide), Dev.gapEvent,
    (told_event d _ _ _ _ _).fld F.CH_CAP_GAPS_COUNT _ _ (by decide)]

theorem Dev.outq_gapPost (d : Dev) (n first : Nat) {k : Nat} (h : k ≤ 0xFFFFFFFF) :
    (d.gapPost n first k).outq n = (d.gapEvent n first k).outq n := by
  rw [d.gapPost_one n first h]
  exact Dev.outq_modCh _ n n _

theorem Dev.dataAt_gapPost (d : Dev) (n first : Nat) {k : Nat} (h : k ≤ 0xFFFFFFFF) :
    (d.gapPost n first k).dataAt n = d.dataAt n := by
  rw [d.gapPost_one n first h]
  exact (Dev.dataAt_modCh _ n n _).trans (d.dataAt_post _ n)

/-- The entry of a gap that may be posted leaves its queue at once, where no other leaf has anything to write. -/
theorem entryLeft_gap (hn : n < 192) (first : Nat) {k : Nat} (h : k ≤ 0xFFFFFFFF) (hmay : d.gapMay n = true) (hdata : d.dataAt n = [])
    (honly : ∀ y ∈ d.backlog, y.1 = n) : EntryLeft n (d.gapPost n first k) ((d.gapPost n first k).postNow n) := by
  obtain ⟨hheld, hwait, hring⟩ := (d.gapMay_iff n).1 hmay
  have hpost := chOnly_gapPost d hn first h
  have hnone : (d.gapPost n first k).dataAt n = [] := (d.dataAt_gapPost n first h).trans hdata
  obtain ⟨hwait', hheld'⟩ := Dev.outq_gapEvent hn first k hheld hwait
  rw [← d.outq_gapPost n first h] at hwait' hheld'
  rcases hheld' with hempty | ⟨e, r, hone, hevent, hroute⟩
  · have hidle : (d.gapPost n first k).postNow n = d.gapPost n first k := by
      refine Dev.postNow_idle n (by rwa [min_eq_left hn.le]) ?_ fun e t he => ?_
      · unfold Dev.entryMay; rw [Dev.outq_min, hempty]
      · rw [hempty] at he; cases he
    rw [hidle]
    exact ⟨fun _ _ => rfl, .ofTold (.refl _ _)⟩
  · refine entryLeft_postNow hn hone hwait' ?_ hnone (hpost.only (by decide) hn honly)
    rw [Entry.Leaves, hevent, hpost.ringOn (by decide), hpost.ringRoom (by decide)]
    exact hring r hroute

end Gap

end Sys2Proof.Machine
end

section
/-! PROOFS. Capture streams and link training (O34). -/

namespace Sys2Proof.Machine

open Sys2Proof.Safety

/-- What a CAPTURE_START that is not refused waits for (R38, R139, R439, R448, R584). -/
def Dev.capWaits (d : Dev) (n point : Nat) : Bool :=
  (d.ch n).cap.isSome || !d.capFits n point || (d.pav (pavOf n)).state != .active || (d.pav (pavOf n)).change.isSome || !d.synActive

/-- A CAPTURE_START leaves its queue, and its stream has yet to begin. -/
def Dev.capStarted (d : Dev) (n : Nat) (q : QDesc) (c : Cap) : Dev := (d.endRun q).modCh n fun x => { x with cap := some c }

/-- A stream that has begun, with the carried index of its first sample. -/
def Cap.begin (c : Cap) (a : Nat) : Cap := { c with running := true, at_ := a }

/-- A stream begins, with a gap where it is suspended (R440, R445). -/
def Dev.capBegun (d : Dev) (n : Nat) : Dev :=
  ((d.modCap n fun c => c.begin (d.pointNext n c.point)).modCap n fun c => if c.held then c.gap else c).recap

theorem Cap.keeps_of_flow {k c : Cap} (h : k.flow = c.flow) : k.running = c.running ∧ k.desc = c.desc ∧ k.idx = c.idx ∧ k.buf = c.buf ∧
    k.written = c.written :=
  ⟨(congrArg Cap.running h :), (congrArg Cap.desc h :), (congrArg Cap.idx h :), (congrArg Cap.buf h :), (congrArg Cap.written h :)⟩

theorem suspends_capBegun (d : Dev) (n : Nat) : Suspends (d.modCap n fun c => c.begin (d.pointNext n c.point)) (d.capBegun n) :=
  (Suspends.modCap _ n _ fun c => by split <;> rfl).trans (suspends_recap _)

/-- The gap that a suspension opens in a stream that runs. -/
theorem Cap.gap_of_running {c : Cap} (hrun : c.running = true) (hend : c.ended = false) :
    c.gap = { c with gapFrom := if c.gapFrom.isNone then some c.idx else c.gapFrom } := by
  rw [Cap.gap, hrun, hend]; rfl

/-- The stream of a channel goes, its CAPTURE_START completed. -/
def Dev.capGone (d : Dev) (n : Nat) : Dev := ((d.modCh n fun c => { c with cap := none }).stir (pavOf n)).recap

/-- The entry of a CAPTURE_START that is completed (R441). -/
def Dev.capEntry (d : Dev) (c : Cap) : Entry :=
  { (c.desc.entry d .ok { len := c.written }) with capEnd := true, time := if c.running then c.tLast else d.now }

/-- What is kept is kept beside the rings' records. -/
theorem kept_withRings {L : List RegName} {d e : Dev} (a : Kept L d e) (x : Tbl Ring) : Kept L (d.withRings x) (e.withRings x) :=
  ⟨a.time, a.syn, a.pwr, a.sess, a.images, a.ledger, a.sec, a.cal, a.ksk, a.flash, a.timers, a.prom,
    congrArg (fun h : HostIf => { h with rings := x }) a.host, a.flt, a.regs⟩

/-- The capture budget before it is rounded, as R447 states it. -/
theorem budgetRatio_eq {speed : Nat} (width mps : Nat) (hlo : 1 ≤ speed) (hhi : speed ≤ 4) : budgetRatio speed width mps =
    ((if speed ≤ 2 then width * (25 * speed) * 8 * 100 else width * (80 * (speed - 2)) * 128 * 100) * 90 *
      (if 512 ≤ mps then 92 else if 256 ≤ mps then 88 else 80), (if speed ≤ 2 then 10 else 130) * 10000) := by
  have hrate : [0, 25, 50, 80, 160].getD speed 0 = if speed ≤ 2 then 25 * speed else 80 * (speed - 2) := by
    interval_cases speed <;> rfl
  unfold budgetRatio
  rw [hrate]
  split <;> exact Prod.ext (by dsimp only; ring) rfl

/-- The budget of every link that the endpoint can train to fits its field. -/
theorem budgetRatio_fits : ∀ speed ∈ [1, 2, 3, 4], ∀ width ∈ [1, 2, 4], ∀ mps ∈ [128, 256, 512],
    (budgetRatio speed width mps).1 ≤ 60000 * (budgetRatio speed width mps).2 ∧ 0 < (budgetRatio speed width mps).2 := by decide

/-- A quotient is rounded one way or the other. -/
theorem Dev.quot_rounds (d : Dev) (num : Nat) {den : Nat} (h : 0 < den) :
    (d.quot num den).1.toNat * den < num + den ∧ num < (d.quot num den).1.toNat * den + den := by
  have hdiv := Nat.div_add_mod num den
  have hlt := Nat.mod_lt num h
  have hfloor : num / den * den = den * (num / den) := Nat.mul_comm _ _
  unfold Dev.quot
  rw [← Int.natCast_ediv, ← Int.natCast_emod]
  split
  · rw [Int.toNat_natCast]; omega
  · next hrest =>
    have hrest : num % den ≠ 0 := fun h => hrest (congrArg Nat.cast h)
    change (((num / den : Nat) : Int) + (Config.freeNat d.freeCtr % 2 : Nat)).toNat * den < _ ∧
      _ < (((num / den : Nat) : Int) + (Config.freeNat d.freeCtr % 2 : Nat)).toNat * den + den
    rw [← Int.natCast_add, Int.toNat_natCast, Nat.add_mul]
    rcases Nat.mod_two_eq_zero_or_one (Config.freeNat d.freeCtr) with hup | hup <;> rw [hup] <;> omega

end Sys2Proof.Machine

namespace Sys2Proof.Proofs

open Sys2Proof.Machine Sys2Proof.Safety

/-! ### CAPTURE_START (R439, R442, R448) -/

section Start

variable {ch : Fin 192} {s : State} {q : QDesc} {point : Nat}

theorem exec_captureStart (hrun : s.dev.running ch 0x18 = some q) (hp : point = byteAt q.d.param 0 % 4)
    (hrate : point ≠ 2 ∨ s.dev.pointRate ch 2 ≤ 6780000 * 2 ^ 24) : exec (.captureStart ch) s = .next { s with
      dev := if s.dev.capWaits ch point then s.dev
        else s.dev.capStarted ch q { desc := q, point := point, samples := leAt q.d.param 8 8, start := leAt q.d.param 16 8,
                                     susBor := (s.dev.ch ch).borrowed } } := by
  subst hp
  change execCaptureStart ch s = _
  unfold execCaptureStart onDev
  simp only [hrun]
  rw [if_neg fun h => hrate.elim (· h.1) (Nat.not_le.2 h.2)]
  rfl

theorem does_captureStart_refused (hrun : s.dev.running ch 0x18 = some q) (hp : point = byteAt q.d.param 0 % 4) (htwo : point = 2)
    (hrate : 6780000 * 2 ^ 24 < s.dev.pointRate ch 2) : Does (.captureStart ch) s fun t => Answered q .badDescriptor t ∧ Says postRegs s t := by
  refine ⟨{ s with dev := s.dev.done q .badDescriptor }, ?_, answered_done s.dev s q .badDescriptor _, rfl, rfl,
    told_done_other s.dev q .badDescriptor _ (by rw [Dev.op_of_running _ hrun]; rfl)⟩
  subst hp
  change execCaptureStart ch s = _
  unfold execCaptureStart onDev
  simp only [hrun]
  rw [if_pos ⟨htwo, hrate⟩]

theorem idle_captureStart (hrun : s.dev.running ch 0x18 = some q) (hp : point = byteAt q.d.param 0 % 4)
    (hrate : point ≠ 2 ∨ s.dev.pointRate ch 2 ≤ 6780000 * 2 ^ 24)
    (hwait : (s.dev.ch ch).cap.isSome ∨ s.dev.capFits ch point = false ∨ (s.dev.pav (pavOf ch)).state ≠ .active ∨
      (s.dev.pav (pavOf ch)).change.isSome ∨ s.dev.synActive = false) : Idle (.captureStart ch) s := by
  have hwaits : s.dev.capWaits ch point = true := by
    simpa only [Dev.capWaits, Bool.or_eq_true, Bool.not_eq_true', bne_iff_ne, or_assoc] using hwait
  rw [Idle, exec_captureStart hrun hp hrate, if_pos hwaits]

theorem does_captureStart (hrun : s.dev.running ch 0x18 = some q) (hp : point = byteAt q.d.param 0 % 4)
    (hrate : point ≠ 2 ∨ s.dev.pointRate ch 2 ≤ 6780000 * 2 ^ 24) (hnone : (s.dev.ch ch).cap = none) (hfits : s.dev.capFits ch point = true)
    (hstate : (s.dev.pav (pavOf ch)).state = .active) (hchange : (s.dev.pav (pavOf ch)).change = none) (hsyn : s.dev.synActive = true) :
    Does (.captureStart ch) s fun t =>
      (t.dev.ch ch).cap = some { desc := q, point := point, samples := leAt q.d.param 8 8, start := leAt q.d.param 16 8,
                                 susBor := (s.dev.ch ch).borrowed } ∧
      (∀ k, k ≠ ch.val → (t.dev.ch k).cap = (s.dev.ch k).cap) ∧ Works [] s t := by
  have hmay : ¬ s.dev.capWaits ch point = true := by rw [Dev.capWaits, hnone, hfits, hstate, hchange, hsyn]; decide
  have hexec := exec_captureStart hrun hp hrate
  rw [if_neg hmay] at hexec
  have hended := told_endRun s.dev [] q
  refine ⟨_, hexec, congrArg Ch.cap (Dev.ch_modCh_same _ ch.val _), fun k hk => ?_, works_of_kept s (hended.kept.trans (kept_modCh _ _ ch.val _))⟩
  dsimp only
  rw [Dev.capStarted, Dev.ch_modCh_other _ _ (Ne.symm hk), hended.ch k]

end Start

/-! ### CAPTURE_STREAM_START (R440) -/

section Stream

variable {ch : Fin 192} {s : State} {c : Cap}

theorem idle_captureStreamStart (hcap : (s.dev.ch ch).cap = some c) (h : c.running = true ∨ c.ended = true) : Idle (.captureStreamStart ch) s := by
  change execCaptureStreamStart ch s = _
  unfold execCaptureStreamStart onDev
  simp only [hcap]
  rw [if_pos (by simpa using h)]

theorem does_captureStreamStart (hcap : (s.dev.ch ch).cap = some c) (hrun : c.running = false) (hend : c.ended = false)
    (hstart : c.start ≤ s.dev.now) : Does (.captureStreamStart ch) s fun t =>
      (∃ k, (t.dev.ch ch).cap = some k ∧ k.running = true ∧ k.desc = c.desc ∧ k.idx = c.idx ∧ k.buf = c.buf ∧ k.written = c.written) ∧
      t.dev.regs = s.dev.regs ∧ (∀ n, (t.dev.ch n).txn = (s.dev.ch n).txn) ∧ Works [] s t := by
  have hexec : exec (.captureStreamStart ch) s = .next { s with dev := s.dev.capBegun ch } := by
    change execCaptureStreamStart ch s = _
    unfold execCaptureStreamStart onDev
    simp only [hcap]
    rw [if_neg (by rw [hrun, hend]; decide), s.dev.runNet_past _ (Dev.netMod_of_now hstart)]
    rfl
  have hsus := suspends_capBegun s.dev ch
  have hbegun : ((s.dev.modCap ch fun c => c.begin (s.dev.pointNext ch c.point)).ch ch).cap = some (c.begin (s.dev.pointNext ch c.point)) := by
    rw [Dev.modCap, Dev.ch_modCh_same]; dsimp only; rw [hcap]; rfl
  obtain ⟨k, hk, hflow⟩ := hsus.cap_some hbegun
  have hkept : Kept [] s.dev (s.dev.capBegun ch) := (kept_modCap _ _ ch.val _).trans ((kept_modCap _ _ ch.val _).trans (kept_recap _ _))
  generalize s.dev.capBegun ch = e at hexec hsus hk hkept
  exact ⟨_, hexec, ⟨k, hk, Cap.keeps_of_flow hflow⟩, hsus.regs, fun n => (hsus.txn n).trans ((shows_modCap s.dev ch.val _).claim.txn n),
    works_of_kept s hkept⟩

/-! ### CAPTURE_WRITE (R138, R443) -/

theorem does_captureWrite_none {x : List (Int × Int)} (hcap : (s.dev.ch ch).cap = some c) (hc : c.Collects) (hx : x ≠ [])
    (hroom : c.fill + 4 * x.length ≤ 16384) (htime : (s.dev.capLast ch x.length + 3) / 4 ≤ s.dev.tc) :
    Does (.captureWrite ch x 0) s fun t =>
      (∃ up, (t.dev.ch ch).cap = some (c.taken x.length (s.dev.pointStep ch c.point) (s.dev.timeOf (s.dev.capLast ch x.length))
        (s.dev.capWords ch up x))) ∧
      t.dev.out = s.dev.out ∧ ChansStand [ch.val] s t ∧ Works [.CH_RX_SAT] s t := by
  obtain ⟨honly, -, -, htaken⟩ := samplesTaken_capTake hcap hc hx hroom htime
  have hexec : exec (.captureWrite ch x 0) s = .next { s with dev := s.dev.capTake ch x } := by
    change Host.Outcome.next { s with dev := (s.dev.capTake ch x).writeSamples ch 0 } = _
    rw [Dev.writeSamples_zero]
  exact ⟨_, hexec, htaken, honly.out, fun k hk => honly.others k (List.ne_of_not_mem_cons hk), works_of_kept s honly.kept⟩

theorem does_captureWrite_all {x : List (Int × Int)} {k : Nat} (hcap : (s.dev.ch ch).cap = some c) (hc : c.Collects) (hx : x ≠ [])
    (hroom : c.fill + 4 * x.length ≤ 16384) (htime : (s.dev.capLast ch x.length + 3) / 4 ≤ s.dev.tc)
    (hbuf : c.buf = []) (hk : x.length ≤ k) (hfits : 4 * x.length ≤ s.dev.maxWrite)
    (hends : 4 * c.idx % c.desc.d.bufLen + 4 * x.length ≤ c.desc.d.bufLen) (hreq : s.dev.mayReq = true)
    (hdata : s.dev.dataAt ch = []) (hmay : s.dev.entryMay ch = false) (hleaf : ∀ y ∈ s.dev.backlog, y.1 = ch.val) :
    Does (.captureWrite ch x k) s fun t =>
      (t.dev.ch ch).cap = some { c with
        idx := c.idx + x.length, at_ := c.at_ + x.length * s.dev.pointStep ch c.point
        tLast := s.dev.timeOf (s.dev.capLast ch x.length), written := c.written + 4 * x.length } ∧
      (∃ up, t.dev.out = s.dev.out ++ [.memWrite (c.desc.d.bufAddr + 4 * c.idx % c.desc.d.bufLen) (s.dev.capWords ch up x)]) ∧
      ChansStand [ch.val] s t ∧ Works (.CH_RX_SAT :: postRegs) s t := by
  obtain ⟨honly, hdata', houtq, up, htaken⟩ := samplesTaken_capTake hcap hc hx hroom htime
  have hlen := s.dev.length_capWords ch up x
  have hpos : 0 < x.length := List.length_pos_iff.2 hx
  have hone : (c.taken x.length (s.dev.pointStep ch c.point) (s.dev.timeOf (s.dev.capLast ch x.length)) (s.dev.capWords ch up x)).OneWrite
      (s.dev.capTake ch x) c.idx (s.dev.capWords ch up x) :=
    ⟨by rw [Cap.taken, hbuf]; rfl, by rw [hlen, honly.maxWrite]; exact hfits, by rw [hlen]; exact hends⟩
  have hsent := samplesSent_writeSamples (k := k) ch.isLt hone htaken (by omega) (by omega) (by rw [honly.mayReq]; exact hreq) ((hdata' ch).trans hdata)
    ((honly.entryMay (by decide) (houtq ch)).trans hmay) (honly.only (by decide) ch.isLt hleaf)
  refine ⟨{ s with dev := (s.dev.capTake ch x).writeSamples ch k }, rfl, ?_, ⟨up, ?_⟩, fun j hj => ?_, works_of_kept s ?_⟩
  · rw [hsent.cap, hlen, Cap.taken, hbuf]
  · rw [hsent.out, honly.out]; rfl
  · have hne := List.ne_of_not_mem_cons hj
    exact (hsent.others j hne).trans (honly.others j hne)
  · exact (honly.kept.mono (by decide)).trans (hsent.kept.mono (by decide))

/-! ### ELASTIC_BUFFER_FULL and ELASTIC_BUFFER_RESUME (R446) -/

/-- A change of a channel's stream alone. -/
theorem does_modCap {i : Instr} {g : Cap → Cap} {k : Cap} (hexec : exec i s = .next { s with dev := s.dev.modCap ch g })
    (hcap : (s.dev.ch ch).cap = some c) (hk : g c = k) :
    Does i s fun t => (t.dev.ch ch).cap = some k ∧ ChansStand [ch.val] s t ∧ Works [] s t := by
  refine ⟨_, hexec, ?_, fun k hk => s.dev.ch_modCh_other _ (Ne.symm (List.ne_of_not_mem_cons hk)), works_of_kept s (kept_modCap _ _ ch.val _)⟩
  rw [Dev.modCap, Dev.ch_modCh_same]
  dsimp only
  rw [hcap, Option.map_some, hk]

theorem does_elasticBufferFull (hcap : (s.dev.ch ch).cap = some c) (hrun : c.running = true) (hend : c.ended = false) (hfull : 16384 ≤ c.fill) :
    Does (.elasticBufferFull ch) s fun t =>
      (t.dev.ch ch).cap = some { c with susBuf := true, gapFrom := if c.gapFrom.isNone then some c.idx else c.gapFrom } ∧
      ChansStand [ch.val] s t ∧ Works [] s t :=
  does_modCap (g := fun c => if c.running && !c.ended && decide (16384 ≤ c.fill) then { c.gap with susBuf := true } else c) rfl hcap (by
    rw [if_pos (by rw [hrun, hend, decide_eq_true hfull]; rfl), Cap.gap_of_running hrun hend])

theorem does_elasticBufferResume (hcap : (s.dev.ch ch).cap = some c) : Does (.elasticBufferResume ch) s fun t =>
    (t.dev.ch ch).cap = some (if c.fill ≤ 8192 then { c with susBuf := false } else c) ∧ ChansStand [ch.val] s t ∧ Works [] s t :=
  does_modCap (g := fun c => if c.fill ≤ 8192 then { c with susBuf := false } else c) rfl hcap rfl

/-! ### CAPTURE_GAP (R445) -/

theorem idle_captureGap (hcap : (s.dev.ch ch).cap = some c) (h : c.gapFrom = none ∨ c.held = true ∨ s.dev.gapMay ch = false) :
    Idle (.captureGap ch) s := by
  change execCaptureGap ch s = _
  unfold execCaptureGap onDev
  simp only [hcap]
  cases hgap : c.gapFrom with
  | none => rfl
  | some g =>
    dsimp only
    rw [if_pos (by simpa [hgap] using h)]

theorem does_captureGap {g : Nat} (hcap : (s.dev.ch ch).cap = some c) (hgap : c.gapFrom = some g) (hheld : c.held = false)
    (hmay : s.dev.gapMay ch = true) (hlen : c.idx - g ≤ 0xFFFFFFFF) (hdata : s.dev.dataAt ch = [])
    (hleaf : ∀ y ∈ s.dev.backlog, y.1 = ch.val) : Does (.captureGap ch) s fun t =>
      (t.dev.ch ch).cap = some { c with gapFrom := none } ∧
      t.dev.fld F.CH_CAP_GAPS_COUNT ch = sat (2 ^ F.CH_CAP_GAPS_COUNT.w - 1) (s.dev.fld F.CH_CAP_GAPS_COUNT ch + 1) ∧
      ChansStand [ch.val] s t ∧
      Works (postRegs ++ [.CH_CAP_GAPS, .HIF_RING_HEAD, .HIF_RING_STAT, .HIF_RING_DROPS]) (withRings s t) t := by
  let e := s.dev.gapPost ch g (c.idx - g)
  have hexec : exec (.captureGap ch) s = .next { s with dev := e.postNow ch } := by
    change execCaptureGap ch s = _
    unfold execCaptureGap onDev
    simp only [hcap, hgap]
    rw [if_neg (by rw [hheld, hmay]; decide)]
  have hpost : ChOnly gapRegs ch s.dev e := chOnly_gapPost s.dev ch.isLt g hlen
  have hleft : EntryLeft ch e (e.postNow ch) := entryLeft_gap ch.isLt g hlen hmay hdata hleaf
  have htold : Told leaveRegs (e.withRings (e.postNow ch).host.rings) (e.postNow ch) := hleft.told
  refine ⟨_, hexec, ?_, ?_, fun k hk => ?_, rfl, rfl, ?_⟩
  · have hstream : ((e.postNow ch).ch ch).cap = (e.ch ch).cap := by rw [htold.ch ch]; rfl
    exact hstream.trans (Dev.cap_gapPost hcap g hlen)
  · exact (htold.fld F.CH_CAP_GAPS_COUNT ch 0 (by decide)).trans (s.dev.count_gapPost ch g hlen)
  · have hne := List.ne_of_not_mem_cons hk
    exact (hleft.others k hne).trans (hpost.others k hne)
  · exact ((kept_withRings hpost.kept _).mono (by decide)).trans (htold.kept.mono (by decide))

/-! ### CAPTURE_STREAM_END (R441) -/

theorem idle_captureStreamEnd (hcap : (s.dev.ch ch).cap = some c) (h : c.ended = false ∨ c.buf ≠ []) : Idle (.captureStreamEnd ch) s := by
  change execCaptureStreamEnd ch s = _
  unfold execCaptureStreamEnd onDev
  simp only [hcap]
  rw [if_neg (by rw [Bool.and_eq_true, List.isEmpty_iff]; rintro ⟨hend, hbuf⟩; simp [hend, hbuf] at h)]

theorem does_captureStreamEnd (hcap : (s.dev.ch ch).cap = some c) (hend : c.ended = true) (hbuf : c.buf = []) (hgap : c.gapFrom = none) :
    Does (.captureStreamEnd ch) s fun t => (t.dev.ch ch).cap = none ∧ Answered c.desc .ok t ∧ Works postRegs s t := by
  let e := s.dev.completeE c.desc (s.dev.capEntry c)
  have hexec : exec (.captureStreamEnd ch) s = .next { s with dev := e.capGone ch } := by
    change execCaptureStreamEnd ch s = _
    unfold execCaptureStreamEnd onDev
    simp only [hcap]
    rw [if_pos (by rw [hend, hbuf]; rfl), hgap]
    rfl
  have hgone : Posting e (e.capGone ch) := (Posting.modCh e ch.val _).trans ((Posting.modPav _ _ _).trans (posting_recap _))
  have hanswer : Answers c.desc .ok e := answers_completeE s.dev { len := c.written } rfl rfl rfl rfl rfl
  have hnone : ((e.capGone ch).ch ch).cap = none := (suspends_recap _).cap_none (by rw [Dev.stir, Dev.modPav_ch, Dev.ch_modCh_same])
  have hkept : Kept postRegs s.dev (e.capGone ch) :=
    (told_completeE s.dev c.desc (s.dev.capEntry c)).kept.trans ((kept_modCh _ _ ch.val _).trans ((kept_stir _ _ _).trans (kept_recap _ _)))
  generalize e.capGone ch = f at hexec hgone hnone hkept
  exact ⟨_, hexec, hnone, hanswer.keeps hgone.toKeeps, works_of_kept s hkept⟩

end Stream

/-! ### CAPTURE_STOP (R440) -/

theorem does_captureStop (ch : Fin 192) (s : State) (q : QDesc) (hrun : s.dev.running ch 0x19 = some q) :
    Does (.captureStop ch) s fun t => Answered q .ok t ∧
      (∀ c, (s.dev.ch ch).cap = some c → (t.dev.ch ch).cap = some { c with ended := true }) ∧
      ((s.dev.ch ch).cap = none → (t.dev.ch ch).cap = none) ∧ Works postRegs s t := by
  let e := s.dev.modCap ch fun c => { c with ended := true }
  have hexec : exec (.captureStop ch) s = .next { s with dev := e.done q .ok } := by
    change execCaptureStop ch s = _
    unfold execCaptureStop onDev
    simp only [hrun]
    rfl
  have htold : Told postRegs e (e.done q .ok) := told_done_other e q .ok _ (by rw [Dev.op_of_running _ hrun]; rfl)
  have hcap : ((e.done q .ok).ch ch).cap = (s.dev.ch ch).cap.map fun c => { c with ended := true } := by
    rw [htold.ch ch]
    exact congrArg Ch.cap (Dev.ch_modCh_same _ ch.val _)
  exact ⟨_, hexec, answered_done e s q .ok _, fun c hc => by dsimp only; rw [hcap, hc]; rfl, fun hc => by dsimp only; rw [hcap, hc]; rfl,
    works_of_kept s ((kept_modCap _ _ ch.val _).trans htold.kept)⟩

/-! ### LINK_TRAINING (R379, R447, R449) -/

/-- The device with a link of a Max_Payload_Size up. -/
def linkUp (d : Dev) (mps : Nat) : Dev := { d with host := { d.host with linkUp := true, mps := mps } }

/-- The device with a link's rate and width shown. -/
def linkShown (d : Dev) (speed width : Nat) : Dev := (d.setFld F.HIF_LINK_SPEED 0 0 speed).setFld F.HIF_LINK_WIDTH 0 0 width

theorem linkShown_speed (d : Dev) (width : Nat) {speed : Nat} (h : speed ≤ 4) : (linkShown d speed width).fld F.HIF_LINK_SPEED = speed := by
  rw [linkShown, Dev.fld_setFld_disjoint _ F.HIF_LINK_WIDTH F.HIF_LINK_SPEED 0 0 width rfl (by decide) (by decide), Dev.fld_setFld_same _ _ _ _ _ (by decide)]
  exact Nat.mod_eq_of_lt (by change speed < 16; omega)

theorem linkShown_width (d : Dev) (speed : Nat) {width : Nat} (h : width ≤ 4) : (linkShown d speed width).fld F.HIF_LINK_WIDTH = width := by
  rw [linkShown, Dev.fld_setFld_same _ _ _ _ _ (by decide)]
  exact Nat.mod_eq_of_lt (by change width < 64; omega)

theorem idle_linkTraining (speed width mps : Nat) (s : State) (h : linkOk speed width mps = false) : Idle (.linkTraining speed width mps) s := by
  change execLinkTraining speed width mps s = _
  unfold execLinkTraining onDev
  simp only [h]
  rfl

/-- The device with a link's budget shown, rounded one way or the other. -/
def budgetShown (d : Dev) (r : Nat × Nat) : Dev := (d.quot r.1 r.2).2.setFld F.HIF_CAP_BUDGET_MBPS 0 0 (d.quot r.1 r.2).1.toNat

theorem exec_linkTraining {speed width mps : Nat} (s : State) (h : linkOk speed width mps = true) : exec (.linkTraining speed width mps) s =
    .next { s with dev := (budgetShown (linkShown (linkUp s.dev mps) speed width) (budgetRatio speed width mps)).recap } := by
  change execLinkTraining speed width mps s = _
  unfold execLinkTraining onDev
  dsimp only
  rw [if_neg (by rw [h]; decide)]
  rfl

/-- A budget within its field reads as it was rounded. -/
theorem budgetShown_reads (d : Dev) (num : Nat) {den : Nat} (hpos : 0 < den) (hfits : num ≤ 60000 * den) :
    (budgetShown d (num, den)).fld F.HIF_CAP_BUDGET_MBPS * den < num + den ∧
    num < (budgetShown d (num, den)).fld F.HIF_CAP_BUDGET_MBPS * den + den := by
  obtain ⟨hup, hdown⟩ := d.quot_rounds num hpos
  have hreads : (budgetShown d (num, den)).fld F.HIF_CAP_BUDGET_MBPS = (d.quot num den).1.toNat := by
    have hlt : (d.quot num den).1.toNat < 60001 := Nat.lt_of_mul_lt_mul_right (a := den) (by omega)
    rw [budgetShown, Dev.fld_setFld_same _ _ _ _ _ (by decide)]
    exact Nat.mod_eq_of_lt (show (d.quot num den).1.toNat < 65536 by omega)
  rw [hreads]
  exact ⟨hup, hdown⟩

theorem chOnly_budgetShown (d : Dev) (r : Nat × Nat) : ChOnly [.HIF_CAP_BUDGET] 0 d (budgetShown d r) := by
  obtain ⟨k, hk⟩ := Dev.quot_only d r.1 r.2
  rw [budgetShown, hk]
  exact (ChOnly.freeCtr _ 0 d k).trans (.setFld _ 0 F.HIF_CAP_BUDGET_MBPS 0 0 _ (by decide))

theorem budgetShown_ch (d : Dev) (r : Nat × Nat) (n : Nat) : (budgetShown d r).ch n = d.ch n := by
  obtain ⟨k, hk⟩ := Dev.quot_only d r.1 r.2
  rw [budgetShown, hk]; rfl

theorem does_linkTraining (speed width mps : Nat) (s : State) (num den : Nat) (hlo : 1 ≤ speed) (hhi : speed ≤ 4) (hw : width ∈ [1, 2, 4])
    (hm : mps ∈ [128, 256, 512])
    (hnum : num = (if speed ≤ 2 then width * (25 * speed) * 8 * 100 else width * (80 * (speed - 2)) * 128 * 100) * 90 *
      (if 512 ≤ mps then 92 else if 256 ≤ mps then 88 else 80))
    (hden : den = (if speed ≤ 2 then 10 else 130) * 10000) : Does (.linkTraining speed width mps) s fun t =>
      t.dev.host.linkUp = true ∧ t.dev.host.mps = mps ∧ t.dev.fld F.HIF_LINK_SPEED = speed ∧ t.dev.fld F.HIF_LINK_WIDTH = width ∧
      t.dev.fld F.HIF_CAP_BUDGET_MBPS * den < num + den ∧ num < t.dev.fld F.HIF_CAP_BUDGET_MBPS * den + den ∧
      (∀ n, (t.dev.ch n).txn = (s.dev.ch n).txn ∧ (t.dev.ch n).outq = (s.dev.ch n).outq) ∧
      Works [.HIF_LINK, .HIF_CAP_BUDGET]
        { s with dev := { s.dev with host := { s.dev.host with linkUp := true, mps := mps } } } t := by
  have hratio : budgetRatio speed width mps = (num, den) := by rw [hnum, hden]; exact budgetRatio_eq width mps hlo hhi
  obtain ⟨hfits, hpos⟩ := budgetRatio_fits speed (by simp only [List.mem_cons, List.not_mem_nil]; omega) width hw mps hm
  rw [hratio] at hfits hpos
  dsimp only at hfits hpos
  clear hnum hden
  have hw4 : width ≤ 4 := by simp only [List.mem_cons, List.not_mem_nil, or_false] at hw; omega
  have hok : linkOk speed width mps = true := by
    simp only [linkOk, Bool.and_eq_true, decide_eq_true_eq, List.contains_iff_mem]
    exact ⟨⟨⟨hlo, hhi⟩, hw⟩, hm⟩
  have hexec := exec_linkTraining s hok
  rw [hratio] at hexec
  let e := linkShown (linkUp s.dev mps) speed width
  let f := budgetShown e (num, den)
  have hbudget : ChOnly [.HIF_CAP_BUDGET] 0 e f := chOnly_budgetShown e _
  have hreads : f.fld F.HIF_CAP_BUDGET_MBPS * den < num + den ∧ num < f.fld F.HIF_CAP_BUDGET_MBPS * den + den := budgetShown_reads e num hpos hfits
  have hsus : Suspends f f.recap := suspends_recap f
  have hkept : Kept [.HIF_LINK, .HIF_CAP_BUDGET] (linkUp s.dev mps) f.recap :=
    (kept_setFld _ (linkUp s.dev mps) F.HIF_LINK_SPEED 0 0 speed (by decide)).trans ((kept_setFld _ _ F.HIF_LINK_WIDTH 0 0 width (by decide)).trans
      ((hbudget.kept.mono (by decide)).trans (kept_recap _ f)))
  have hspeed : f.fld F.HIF_LINK_SPEED = speed := (hbudget.fld F.HIF_LINK_SPEED 0 0 (by decide)).trans (linkShown_speed _ _ hhi)
  have hwidth : f.fld F.HIF_LINK_WIDTH = width :=
    (hbudget.fld F.HIF_LINK_WIDTH 0 0 (by decide)).trans (linkShown_width _ _ hw4)
  have hch (n : Nat) : f.ch n = s.dev.ch n := budgetShown_ch e _ n
  have hhost : f.host = (linkUp s.dev mps).host := hbudget.host
  change exec _ s = .next { s with dev := f.recap } at hexec
  clear_value f
  generalize f.recap = t at hexec hsus hkept
  refine ⟨_, hexec, congrArg HostIf.linkUp (hsus.host.trans hhost), congrArg HostIf.mps (hsus.host.trans hhost), (hsus.fld _ _ _).trans hspeed,
    (hsus.fld _ _ _).trans hwidth, ?_, ?_, fun n => ?_, rfl, rfl, hkept⟩
  · dsimp only; rw [hsus.fld]; exact hreads.1
  · dsimp only; rw [hsus.fld]; exact hreads.2
  · rw [← hch n]; exact ⟨hsus.txn n, hsus.outq n⟩

/-- Settles O34: suspension leaves every stream the same beside its causes and its gap (`suspends_recap`); the samples of a stream that
collects enter its buffer (`samplesTaken_capTake`), and where its channel alone is backlogged the arbiters give it the turn, for its samples
(`samplesSent_writeSamples`) and for the entry of a gap (`entryLeft_gap`). -/
theorem captureAndLink : Obligations.CaptureAndLink := by
  refine ⟨fun ch s q point hrun hp => ⟨does_captureStart_refused hrun hp, fun hrate => ⟨idle_captureStart hrun hp hrate,
    does_captureStart hrun hp hrate⟩⟩, fun ch s c hcap => ?_, does_captureStop, does_linkTraining, idle_linkTraining⟩
  refine ⟨idle_captureStreamStart hcap, does_captureStreamStart hcap, ?_, does_elasticBufferFull hcap, does_elasticBufferResume hcap,
    idle_captureGap hcap, fun g => does_captureGap hcap, idle_captureStreamEnd hcap, does_captureStreamEnd hcap⟩
  rintro x k words rfl hrun hend hgap hsamples hx hroom htime
  have hc : c.Collects := ⟨hrun, hend, hgap, hsamples⟩
  exact ⟨fun hk => hk ▸ does_captureWrite_none hcap hc hx hroom htime, does_captureWrite_all hcap hc hx hroom htime⟩

end Sys2Proof.Proofs
end
